-- ==== Sys2Proof/Word.lean ====
section
/-! DEFINITION. The word types of Ulvia and their plainest arithmetic. -/

namespace Sys2Proof

/-- One byte of a frame, of a DOMAIN object or of the NOR flash. -/
abbrev Byte := BitVec 8

/-- A mill state word or a channel value, 32 bits (R214, R222). -/
abbrev Word := BitVec 32

/-- The mill accumulator, 64 bits (R214). -/
abbrev Acc := BitVec 64

/-- The key of an object: index x 100h + sub-index, the number that `FenceClear` uses (R267). -/
abbrev Key := Nat

/-- The key of the object `index`/`sub` (R4). -/
def key (index sub : Nat) : Key := index * 256 + sub

end Sys2Proof
end

