-- ==== Sys2Proof/Syntax.lean ====
section
/-! DEFINITION. The commands of Ulvia: one constructor of `Instr` per row of the opcode table, with the
operands that the spec's event or request carries, and the plain data those operands are made of. -/

namespace Sys2Proof

/-- The origin of a request (R254, Table 8.2). -/
inductive Origin where
  | reeve
  | can (c : Fin 2)
  | twoWire
  | service
  | twin
  | lane (node : Fin 1024)
deriving DecidableEq, Repr

/-- A Lane port (R323). -/
inductive LanePort where
  | a
  | b
deriving DecidableEq, Repr

/-- The conversions of a sense channel since its last value, oldest first: the voltages at the converter's input, in µV,
after the pilot is subtracted (R35, R72, R79, R109, R120, R164, R462). For channels 122 to 127, the supply itself. -/
structure Sample where
  ch : Fin 256
  inputs : List Int
deriving DecidableEq, Repr

/-- The condition of R128 that detected the removal of a string. -/
inductive RemovalCause where
  | noCurrent
  | feedbackOpen
  | lowVoltage
deriving DecidableEq, Repr

/-- The payload of a SHARE frame (Table 2.5). -/
structure SharePayload where
  group : BitVec 8
  state : BitVec 8
  flags : BitVec 16
  budget : Int
  demand : Int
  well : Nat
  ride : Nat
deriving DecidableEq, Repr

/-- A HAMPER frame (Table 8.11): coordinator, its handle, apply time, deadline and vote fields. -/
structure DomainFrame where
  coordinator : Fin 1024
  handle : BitVec 8
  applyTime : Nat
  deadline : Nat := 0
  no : Bool := false
  detail : BitVec 8 := 0
  position : BitVec 8 := 0
deriving DecidableEq, Repr

/-- A USDO request to this node-ID (R297): read or write, expedited (`segmented` false) or the initiate of a segmented session. -/
structure UsdoRequest where
  write : Bool
  k : Key
  segmented : Bool
  data : List Byte
deriving DecidableEq, Repr

/-- A two-wire WRITE or READ frame ended by STOP (Table 9.7): the address on the bus, `len` its LEN byte, and the byte in
the place of PEC, if the frame does not end before it. -/
structure TwFrame where
  addr : BitVec 7
  seq : BitVec 8
  k : Key
  len : Nat
  data : List Byte
  pec : Option (BitVec 8)
deriving DecidableEq, Repr

/-- The TRANSITION payload of the LIFECYCLE command (R446). -/
structure LcTransition where
  target : BitVec 8
  nonce : List Byte
  publicKey : List Byte
  signature : List Byte
deriving DecidableEq, Repr

/-- A Lane frame as it stands on the wire (Table 10.1); `reservedSet` says a field marked reserved is not 0. -/
structure LaneFrame where
  dest : BitVec 11
  cls : BitVec 4
  src : BitVec 11
  seq : BitVec 16
  dir : Bool
  hops : BitVec 11
  turns : BitVec 2
  payload : List Byte
  hchk : BitVec 16
  crc : BitVec 32
  reservedSet : Bool := false
deriving DecidableEq, Repr

/-- The flags byte of a TSYNC or ROLL frame (Table 10.4). -/
structure TimeFlags where
  tvalid : Bool := false
  master : Bool := false
  eligible : Bool := false
  refLost : Bool := false
  holdover : Bool := false
deriving DecidableEq, Repr

/-- A TSYNC with its measured arrival time (R344, R345). -/
structure TsyncFrame where
  flags : TimeFlags
  masterId : BitVec 16
  hops : BitVec 16
  epoch : BitVec 8
  departure : Nat
  arrival : Nat
deriving DecidableEq, Repr

/-- A ROLL frame (Table 10.4). -/
structure RollFrame where
  node : Fin 1024
  flags : TimeFlags
  masterId : BitVec 16
  hops : BitVec 16
  epoch : BitVec 8
  serial : Nat
  age : Nat
deriving DecidableEq, Repr

/-- The operations of an OD request (Table 10.5). -/
inductive OdOp where
  | read
  | write
  | domainRead
  | domainWrite
deriving DecidableEq, Repr

/-- An OD request (Table 10.5). -/
structure OdRequest where
  op : OdOp
  tag : BitVec 16
  k : Key
  last : Bool
  offset : Nat
  length : Nat
  data : List Byte
deriving DecidableEq, Repr

/-- An ALM fetch (Table 10.6). -/
structure AlmFetch where
  tag : BitVec 16
  minSeverity : Nat
  count : Nat
  first : Nat
deriving DecidableEq, Repr

/-- The memories of Table 11.4 and R363. -/
inductive MemoryId where
  | reeveSram
  | hamlet (h : Fin 27)
  | mill (m : Fin 16)
  | almanacBuffer
  | nor
deriving DecidableEq, Repr

/-- One die sensor's read (R372, R373): the temperature in 1/16 degrees and the raw count. -/
structure DieReading where
  temp : Int
  raw : Nat
deriving DecidableEq, Repr

/-- A STATE frame of the twin port (Table 13.1). -/
structure TwinFrame where
  role : Nat
  state : Nat
  healthy : Bool
  ready : Bool
  ret : Bool
  heartbeat : Nat
  laneTime : Nat
  almSequence : Nat
deriving DecidableEq, Repr

/-- A TRACK frame (Table 13.1): duties of rails 0 to 15, trim codes of RM0 to RM7, commands of strings 0 to 3. -/
structure TrackFrame where
  duties : Vector Word 16
  trims : Vector (BitVec 16) 8
  commands : Vector Word 4
deriving DecidableEq, Repr

/-- The estimator block of one string (Table 4.7). -/
structure EstBlock where
  capacity : Nat
  charge : Nat
  resistance : Nat
  anchorSoc : Nat
  budget : Nat
  anchorTime : Nat
  dq : Int
  throughput : Nat
  lastVoltage : Int
  cycles : Nat
  frozen : Bool
  lowConf : Bool
  anchorDiscarded : Bool
  phase : Nat
deriving DecidableEq, Repr

/-- One mirrored item (R417): an object's value, a string's estimator block, or the VC target of a rail, where a VC port
holds its command, with the VC slew. -/
inductive MirrorItem where
  | object (k : Key) (v : List Byte)
  | estimator (n : Fin 4) (e : EstBlock)
  | vcTarget (r : Fin 16) (target : Option Int) (slew : Nat)
deriving DecidableEq, Repr

/-- A tri-level strap (R454). -/
inductive Strap where
  | low
  | opened
  | high
deriving DecidableEq, Repr

/-- The straps read at power-on reset (R308, R401). -/
structure Straps where
  addrSel0 : Strap := .low
  addrSel1 : Strap := .low
  addrSel2 : Strap := .low
  twinSel : Strap := .low
deriving DecidableEq, Repr

/-- What NOR discovery finds (R432): size in MiB, data lines and clock. -/
structure NorPart where
  sizeMiB : Nat
  ioMode : Nat
  clock : Nat
deriving DecidableEq, Repr

/-- The result of checking an image slot (Table 14.7). -/
inductive ImageStatus where
  | valid
  | erased
  | headerMalformed
  | productNotServed
  | keyMismatch
  | signatureInvalid
  | digestMismatch
  | notChecked
deriving DecidableEq, Repr

/-- The commands: one constructor per row of spec/opcode_table.json, in its order. -/
inductive Instr where
  /-- REFERENCE_LOST (R12). No crystal reference edge for 20 µs: ALMANAC moves to its RC fallback, the other clock generators freeze, and source 193 is raised. -/
  | referenceLost
  /-- REFERENCE_RETURN (R12). The reference has stayed present for 10 ms: ALMANAC changes back to it and the other clock generators re-lock. -/
  | referenceReturn
  /-- BLOCK_RESET_COMPLETE (R14). The clock generator relocks and the stile realigns; the hamlet stays closed until its owner marks it ready. -/
  | blockResetComplete (h : Fin 27)
  /-- HAMLET_MARK_READY (R17). The owner marks a closed hamlet ready, and the waiting packets are delivered in order. -/
  | hamletMarkReady (h : Fin 27)
  /-- CONTROL_SIGNAL_DELIVERY (R19). An interrupt, kill or start/stop signal packet passes the destination synchroniser and takes effect. -/
  | controlSignalDelivery (h : Fin 27)
  /-- WAKE_ON_ACCESS (R21). A green access to a stopped hamlet raises a wake request, the clock starts, and the access completes. -/
  | wakeOnAccess (h : Fin 27)
  /-- WAKE_TIMEOUT (R21). The clock is not running 10 µs after the wake request: the access is answered with an error and the hamlet source is raised. -/
  | wakeTimeout (h : Fin 27)
  /-- PARKED_HAMLET_IDLE_STOP (R22). A parked hamlet woken by an access stops again after 100 µs without green traffic. -/
  | parkedHamletIdleStop (h : Fin 27)
  /-- REEVE_WATCHDOG_EXPIRY (R24). The 10 ms Reeve watchdog expires: a chip reset is made and FAULT# is driven low. -/
  | reeveWatchdogExpiry
  /-- SHARE_OVERRANGE (R35). A rectifier share input has been above 2.45 V for 1 ms: SHAREOOR is set and source 48 + n is raised. -/
  | shareOverrange (n : Fin 8)
  /-- RM_ALARM_DEGLITCHED (R37). An RMn_ALM level change has been stable for RmAlarmDeglitch: ALARM is updated and source 48 + n is raised on onset. -/
  | rmAlarmDeglitched (n : Fin 8) (level : Bool)
  /-- TAP_VALIDITY_CHANGE (R40). A bus tap becomes valid or invalid after its 10 ms tolerance judgement; source 58 is raised on invalidity. -/
  | tapValidityChange (k : Fin 4) (inTolerance : Bool)
  /-- NO_VALID_TAP_REPEAT (R42). With no valid tap, source 58 is raised once per 10 ms and BUSSHARE holds every trim at neutral. -/
  | noValidTapRepeat
  /-- BUSSHARE_RUN (R43). The 100 µs BUSSHARE run computes and writes the trim of each port in the active set. -/
  | busshareRun (samples : List Sample)
  /-- TRIM_STALE_NEUTRAL (R47). BUSSHARE has not rewritten a trim for 5 ms: the Reeve writes the neutral code and FALLBACK is set. -/
  | trimStaleNeutral
  /-- BUS_OUT_OF_RANGE (R48). BusVoltage has been outside WellBusVmin to BusOvLevel for 1 ms: source 56 is raised. -/
  | busOutOfRange
  /-- SHARE_FRAME_SEND (R49). On each Lane-time millisecond the owning shelf broadcasts its SHARE frame. -/
  | shareFrameSend
  /-- PLANT_TRIM_UPDATE (R50). Every 1 ms PlantTrim is updated from group and own utilisation and clamped to ShareBand. -/
  | plantTrimUpdate
  /-- SHARE_FRAME_RECEIVE (R50). A SHARE frame from a member of the same group is taken into the group utilisation. -/
  | shareFrameReceive (node : Fin 1024) (p : SharePayload)
  /-- SHARE_GROUP_SILENT (R51). No member has been heard for ShareTimeout: source 60 is raised and PlantTrim ramps to 0 over 1 s. -/
  | shareGroupSilent
  /-- WELLRATE_RUN (R241). The 100 µs WELLRATE run publishes demand and refreshes the fast part of the well. -/
  | wellrateRun (samples : List Sample)
  /-- WELL_STRING_REPLACE (R53). Every 1 s the Reeve replaces the string part of the well from the estimator. -/
  | wellStringReplace
  /-- WELL_STALE (R55). WELLRATE has not refreshed the well for 5 ms: STALE is set, source 57 is raised, and the Reeve takes over. -/
  | wellStale
  /-- WELL_REEVE_UPDATE (R55). While the well is STALE, the Reeve recomputes it every 10 ms with the bus part taken as 0 J. -/
  | wellReeveUpdate
  /-- HANDOVER_TRIGGER (R60). A hand-over trigger moves BusState to HANDOVER, switches the strings to DISCHARGE and sets the trims to neutral. -/
  | handoverTrigger (fallTime : Nat) (samples : List Sample)
  /-- HANDOVER_COMPLETE (R62). Every available string regulates in DISCHARGE, or none is available, or 2 ms pass: the state moves to QUALIFYING or ON-BATTERY. -/
  | handoverComplete (timedOut : Bool)
  /-- SOURCE_BECOMES_GOOD (R60). The source becomes good in ON-BATTERY and the qualification timer starts. -/
  | sourceBecomesGood
  /-- SOURCE_STOPS_GOOD (R60). The source stops being good in QUALIFYING, the timer is discarded, and the state returns to ON-BATTERY. -/
  | sourceStopsGood
  /-- SOURCE_QUALIFIED (R60). The qualification timer reaches SourceQualTime: the state moves to HANDBACK, the source budget returns, and BUSSHARE resumes. -/
  | sourceQualified
  /-- HANDBACK_RAMP_END (R60). HandbackRamp has elapsed and BusState returns to ON-SOURCE. -/
  | handbackRampEnd
  /-- CAP_EVALUATION (R65). The 250 µs budget evaluation computes B, D and the excess, applies capping stages and prepares the on-battery plan. -/
  | capEvaluation
  /-- SHED_REEVALUATE (R65). 1 ms after a shed, the excess X is re-evaluated. -/
  | shedReevaluate
  /-- CAP_RESTORE (R66). After CapRestoreHold with X ≤ 0 and room enough, the last shed port is restored. -/
  | capRestore
  /-- CAP_LEVEL_RISE (R66). Every 10 ms with X ≤ 0, CapDoorLevel and then CapVcLevel rise by no more than 1.00 %. -/
  | capLevelRise
  /-- CAP_PDO_REPEAT (R68). Every CapPdoRepeat while CapDoorLevel is below 10,000, the cap TPDO is transmitted. -/
  | capPdoRepeat
  /-- CAP_STAGE_EVENT_REPEAT (R69). While stage 3 or 4 is engaged, source 61 is raised once per 1 s. -/
  | capStageEventRepeat
  /-- PHASE_KILL (R73). The phase current magnitude crosses PhKillLimit: the rail's outputs go low at the pins, the kill latches, and the rail enters FAULT. -/
  | phaseKill (p : Fin 32) (current : Int)
  /-- PEAK_LIMIT (R73). The phase current crosses the peak limit, which ends PWMH, or PWML for a negative crossing, for the rest of the period. -/
  | peakLimit (p : Fin 32) (current : Int)
  /-- PERIOD_START (R75). At a phase's period start, a new duty takes effect, and at the first phase a new period or offset takes effect. -/
  | periodStart (p : Fin 32)
  /-- RAIL_ENABLE_WRITE (R84). A write of RailEnable makes the start condition true or makes a stop request. -/
  | railEnableWrite (o : Origin) (r : Fin 16) (v : Int)
  /-- RAIL_TARGET_WRITE (R85). A RailTarget write moves the reference at the ramp slope, or is stored while a VC port holds the command. -/
  | railTargetWrite (o : Origin) (r : Fin 16) (v : Int)
  /-- ON_DELAY_ELAPSED (R88). RailOnDelay elapses: the reference is preset, DRVEN rises, and the rail enters RAMP. -/
  | onDelayElapsed (r : Fin 16)
  /-- RAMP_COMPLETE (R88). The reference reaches the commanded value, or the BIDIR condition holds, and the rail enters REGULATE. -/
  | rampComplete (r : Fin 16)
  /-- OFF_DELAY_ELAPSED (R88). RailOffDelay elapses and ramp-down begins. -/
  | offDelayElapsed (r : Fin 16)
  /-- RAMP_DOWN_COMPLETE (R87). The ramp-down ends: the outputs go low, dropped phases are readmitted, and the rail is OFF. -/
  | rampDownComplete (r : Fin 16)
  /-- FEEDBACK_LOST (R112). The rail voltage channel fails, or the loop mill resets: the rail enters FB-HOLD and FBLOST is set. -/
  | feedbackLost (r : Fin 16)
  /-- FB_HOLD_ELAPSED (R112). After 16 held periods the duties ramp to 0 over RailRampDownTime. -/
  | fbHoldElapsed (r : Fin 16)
  /-- DUTY_RAMP_COMPLETE (R112). The duty reaches 0: the outputs go low and the rail enters FAULT. -/
  | dutyRampComplete (r : Fin 16)
  /-- RAIL_AUTO_RESTART (R88). With RailAutoRestart 1 and the cause cleared for RailRestartDelay, a FAULT rail returns to ON-DELAY. -/
  | railAutoRestart (r : Fin 16)
  /-- SYNC_LOCK_START (R81). After 8 consistent SYNCIN edges, lock to SYNCIN begins if the frequency is within 10 %. -/
  | syncLockStart (r : Fin 16) (frequency : Nat)
  /-- SYNC_LOCK_ACHIEVED (R81). The rail reaches lock to SYNCIN and SYNCLOCK is set. -/
  | syncLockAchieved (r : Fin 16)
  /-- SYNCIN_LOST (R82). After 4 missing SYNCIN edges, the rail holds its frequency internally, SYNCLOST is set, and an event is recorded. -/
  | syncinLost (r : Fin 16)
  /-- RAILLOOP_RUN (R89). A period-triggered RAILLOOP/BALANCE run computes and writes the phase duties of a BUCK rail. -/
  | railloopRun (r : Fin 16) (samples : List Sample)
  /-- BALANCE_BIDIR_RUN (R97). A period-triggered BALANCE run writes the duties of a BIDIR rail towards i_cmd. -/
  | balanceBidirRun (r : Fin 16) (samples : List Sample)
  /-- VC_SETV (R103). A SETV command frame sets a new VC target, superseding any SETV in flight. -/
  | vcSetv (n : Fin 4) (tag : BitVec 6) (arg : BitVec 16)
  /-- VC_SLEW (R103). A SLEW command sets the slew for later SETV commands. -/
  | vcSlew (n : Fin 4) (tag : BitVec 6) (arg : BitVec 16)
  /-- VC_CAP (R103). A CAP command returns the cap level and clears its pending state. -/
  | vcCap (n : Fin 4) (tag : BitVec 6)
  /-- VC_QUERY (R103). A QUERY command returns the data chosen by SEL, or pops a completion. -/
  | vcQuery (n : Fin 4) (tag : BitVec 6) (sel : BitVec 6)
  /-- VC_FRAME_GAP (R102). A bit gap of more than 2 µs ends a partial command frame, which is discarded and counted. -/
  | vcFrameGap (n : Fin 4)
  /-- VC_RESPONSE_READ (R101). The load finishes reading a response, and VALT# returns to signalling pending items. -/
  | vcResponseRead (n : Fin 4)
  /-- VC_RESPONSE_TIMEOUT (R102). A response not fully read within 100 µs is discarded and counted. -/
  | vcResponseTimeout (n : Fin 4)
  /-- VC_SETV_DONE (R104). The output has settled within ±1 % for 8 periods and a DONE completion is queued. -/
  | vcSetvDone (n : Fin 4)
  /-- VC_SETV_TIMEOUT (R104). DONE has not come 100 ms after the reference reached the target, and ABORTED is queued. -/
  | vcSetvTimeout (n : Fin 4)
  /-- VC_CAP_UNCOLLECTED (R108). A cap level still pending after 1 ms records an event on source 178 + n. -/
  | vcCapUncollected (n : Fin 4)
  /-- PILOT_CHECK_FAIL (R109). A channel has 4 consecutive failing pilot blocks and fails its pilot check. -/
  | pilotCheckFail (ch : Fin 256)
  /-- PILOT_CHECK_PASS (R109). A failed channel has 16 consecutive passing blocks and passes its pilot check again. -/
  | pilotCheckPass (ch : Fin 256)
  /-- RIPPLE_CHECK_FAIL (R110). A channel misses its ripple figure for 16 periods and fails its ripple check. -/
  | rippleCheckFail (ch : Fin 256)
  /-- RANGE_CHECK_FAIL (R111). A channel reads above 98 % of full scale for 16 consecutive periods or samples and fails its range check. -/
  | rangeCheckFail (ch : Fin 256)
  /-- PHASE_FAIL_OPEN (R113). The open-phase conditions have held for 16 consecutive periods. -/
  | phaseFailOpen (p : Fin 32)
  /-- PHASE_SENSE_DISAGREE (R114). A phase disagrees with its neighbours, with its trim at a limit, for 16 periods. -/
  | phaseSenseDisagree (p : Fin 32)
  /-- PHASE_DROP (R115). A failed phase is dropped: it is driven low, the remaining phases are re-interleaved, and RailLimitNow is derated. -/
  | phaseDrop (p : Fin 32)
  /-- CAPREQ_SET (R116). With PHLOST and ILIM set for 1 ms, CAPREQ is set and the rail's cap level starts to fall. -/
  | capreqSet (r : Fin 16)
  /-- RAIL_CAP_FALL (R116). Every 1 ms while ILIM stays set, the rail's cap level falls by 5.00 %. -/
  | railCapFall (r : Fin 16)
  /-- RAIL_CAP_RISE (R116). Every 10 ms once ILIM has been clear for 100 ms, the rail's cap level rises by 1.00 %. -/
  | railCapRise (r : Fin 16)
  /-- NTC_FAIL (R120). A thermistor input out of range for 100 ms sets NTCFAIL. -/
  | ntcFail (n : Fin 4)
  /-- STRING_PRESENCE_ABSENT (R125). A QUALIFYING string is below the presence level for 1 s and becomes ABSENT. -/
  | stringPresenceAbsent (n : Fin 4)
  /-- STRING_QUALIFIED (R125). The string voltage is in the qualification window for 1 s: ship-clear if latched, BSn_SW low, and CLOSING. -/
  | stringQualified (n : Fin 4)
  /-- SWITCH_FEEDBACK_CLOSED (R125). BSn_SWFB reports closed in CLOSING and the string enters IN-SERVICE. -/
  | switchFeedbackClosed (n : Fin 4)
  /-- SWITCH_FEEDBACK_TIMEOUT (R125). StrSwFbTime elapses without feedback in CLOSING, or with the switch closed while commanded open, and the string enters FAULT. -/
  | switchFeedbackTimeout (n : Fin 4)
  /-- STRING_REMOVAL (R128). A removed string is detected: the rail goes to HOLD-ZERO, the estimator is frozen, and the string becomes ABSENT. -/
  | stringRemoval (n : Fin 4) (cause : RemovalCause)
  /-- STRING_REINSERTION (R125). An ABSENT string is above the presence level for 1 s and runs the reinsertion check or requalifies. -/
  | stringReinsertion (n : Fin 4) (closed : Bool)
  /-- LONG_PRESS_OPEN_END (R125). LongPressOpenTime elapses in OPEN: BSn_SW goes low and the string enters CLOSING. -/
  | longPressOpenEnd
  /-- SHIP_SOURCE_GOOD (R158). The source has been good for 2 s after boot and strings in SHIP requalify. -/
  | shipSourceGood
  /-- STR_REQUALIFY (R125). A write of 1 to StrRequalify moves a FAULT string to QUALIFYING. -/
  | strRequalify (o : Origin) (n : Fin 4) (v : Int)
  /-- CHARGE_RUN (R132). The 250 µs CHARGE run computes the current command of every fitted string's rail. -/
  | chargeRun (samples : List Sample)
  /-- STRING_OVERVOLTAGE (R133). The string voltage exceeds its maximum for 16 samples: ich is 0, OVERV is set, and source 64 + s is raised. -/
  | stringOvervoltage (n : Fin 4)
  /-- CHARGE_CC_TO_ABSORB (R134). iv has been the smallest term for 1 min and the charge phase changes to ABSORB. -/
  | chargeCcToAbsorb (n : Fin 4)
  /-- ABSORB_END (R134). The end current has held for 10 min, or StrAbsorbTimeMax has passed, and the phase changes to FLOAT. -/
  | absorbEnd (n : Fin 4)
  /-- REBULK (R134). StrSocAbs falls below StrRebulkSoc and the charge phase returns to CC. -/
  | rebulk (n : Fin 4)
  /-- BATT_HEARTBEAT (R138). A write of BattHeartbeat restarts the battery watchdog period. -/
  | battHeartbeat (o : Origin) (v : Int)
  /-- BATT_WATCHDOG_EXPIRY (R138). The battery watchdog expires: WDFALLBACK is set on every fitted string and an Almanac record is logged. -/
  | battWatchdogExpiry
  /-- ESTIMATOR_SAMPLE (R140). Each string current sample is integrated into the charge Q. -/
  | estimatorSample (n : Fin 4) (samples : List Sample)
  /-- ESTIMATOR_REFRESH (R140). Every 1 s the estimator outputs are refreshed. -/
  | estimatorRefresh
  /-- REST_POINT (R145). The rest timer completes StrRestTime and the estimator takes an anchor. -/
  | restPoint (n : Fin 4)
  /-- FALLOW_CHECK (R148). Every 1 s the Reeve looks for a string due for a fallow window. -/
  | fallowCheck
  /-- FALLOW_REQUEST (R148). A write of FallowRequest chooses a string at the next check, or is refused on a state conflict. -/
  | fallowRequest (o : Origin) (v : Int)
  /-- FALLOW_CONDITION_FAIL (R150). A condition of R149 fails during a window, and the rail returns to CHARGE within 1 s. -/
  | fallowConditionFail
  /-- FALLOW_NO_REST (R150). No rest point has come within StrRestTime + 30 min and the window ends as aborted. -/
  | fallowNoRest
  /-- ESTIMATOR_SAVE_INTERVAL (R153). Every StrSaveInterval a new estimator slot entry is written. -/
  | estimatorSaveInterval
  /-- SHIP_MODE_ARM (R156). A write of 0A5Ah arms ship mode, and 0000h cancels an arm, opening or powered SHIP. -/
  | shipModeArm (o : Origin) (v : Int)
  /-- SHIP_MODE_CONFIRM (R156). A write of 05A5h within 10 s of a live arm, from the same origin, confirms ship mode. -/
  | shipModeConfirm (o : Origin) (v : Int)
  /-- SHIP_OPENING (R157). 10 s after the confirm the slot is written with SHIP and every fitted string enters SHIP. -/
  | shipOpening
  /-- LONG_PRESS (R159). SHRST# has been low for LongPressTime: a record is logged, the slot is written, and every string goes to OPEN. -/
  | longPress
  /-- PP_KILL (R165). The port current exceeds twice the limit: PPn_FOFF is driven high within 35 ns, and the kill latches as a trip. -/
  | ppKill (n : Fin 8) (pair : Int)
  /-- ORING_REVERSE_TURNOFF (R165). The ORING forward voltage falls below −10 mV: FOFF goes high and the port enters REVERSE. -/
  | oringReverseTurnoff (n : Fin 8) (pair : Int)
  /-- SEQ_TICK (R167). The 1 µs SEQ tick updates each port's windows, fault timer, state and PG. -/
  | seqTick (samples : List Sample)
  /-- PP_GATE_LOOP (R171). On each ADC sample the gate loop sets the gate code from the voltage and current terms. -/
  | ppGateLoop (n : Fin 8) (voltageTerm : BitVec 12) (currentTerm : BitVec 12)
  /-- PP_ENABLE_WRITE (R168). A PpEnable write makes the start condition true or makes a stop request. -/
  | ppEnableWrite (o : Origin) (n : Fin 8) (v : Int)
  /-- PP_INSERT_ELAPSED (R170). PpInsertDelay passes with both windows satisfied and the port enters RAMP, or ON for ORING. -/
  | ppInsertElapsed (n : Fin 8)
  /-- PP_RAMP_COMPLETE (R171). The output reaches input − PpPgDrop and the port enters ON. -/
  | ppRampComplete (n : Fin 8)
  /-- PP_FAULT_TIMER_EXPIRY (R172). The fault timer count reaches PpFaultTime: the port trips. -/
  | ppFaultTimerExpiry (n : Fin 8)
  /-- PP_FAULT_TIMER_CLEAR (R172). Limiting has been absent for 1 ms and the fault timer clears. -/
  | ppFaultTimerClear (n : Fin 8)
  /-- PP_RAMP_TIMEOUT (R172). RAMP lasts longer than PpRampTimeout: the port trips. -/
  | ppRampTimeout (n : Fin 8)
  /-- PP_RETRY_OFF_ELAPSED (R174). The retry off-time elapses and the port ramps again or returns to WAIT-INPUT. -/
  | ppRetryOffElapsed (n : Fin 8)
  /-- PP_RETRIES_RELOAD (R175). PG has stayed asserted for PpRetryClear and PpRetriesLeft reloads. -/
  | ppRetriesReload (n : Fin 8)
  /-- ORING_REVERSE_RECOVER (R176). The forward voltage has been at or above PpOrOnDrop for 100 µs and the port returns to ON. -/
  | oringReverseRecover (n : Fin 8)
  /-- PP_PG_QUALIFIED (R179). The good condition has held for PpPgQualTime and PG asserts or is deferred. -/
  | ppPgQualified (n : Fin 8)
  /-- PP_PG_LOST_TIMEOUT (R179). The good condition has been broken for PpPgQualTime with the timer idle, and PG is withdrawn. -/
  | ppPgLostTimeout (n : Fin 8)
  /-- WM_FAULT_ONSET (R190). A monitor comparator fault holds past deglitch: FAULTUV or FAULTOV is set, the DAC moves by WmHyst, and an event is recorded. -/
  | wmFaultOnset (m : Fin 64) (ov : Bool)
  /-- WM_FAULT_CLEAR (R189). A comparator fault clears after deglitch and the threshold returns to its code. -/
  | wmFaultClear (m : Fin 64) (ov : Bool)
  /-- WM_WARNING_ONSET (R194). The filtered WmValue crosses a warning threshold: WARNUV or WARNOV is set and source 234 records an event. -/
  | wmWarningOnset (m : Fin 64) (ov : Bool)
  /-- WM_DAC_READBACK (R195). The MADC reads back a threshold DAC and sets or clears DACERR. -/
  | wmDacReadback (m : Fin 64) (ov : Bool) (reading : BitVec 12)
  /-- RAW_GOOD_TRANSITION (R198). A rail's raw good changes: qualification restarts and the transition is counted. -/
  | rawGoodTransition (r : Fin 16)
  /-- RAIL_GOOD_QUALIFIED (R198). Raw good has been true for SeqPgQualTime and the rail becomes good. -/
  | railGoodQualified (r : Fin 16)
  /-- SEQ_ENTRY_DELAY_END (R202). An entry's delay ends with its condition held: it acts on its target, and the next entry starts. -/
  | seqEntryDelayEnd
  /-- SEQ_UP_TIMEOUT (R206). A power-up entry times out, records an event, and makes an off request or completes without action. -/
  | seqUpTimeout
  /-- SEQ_DOWN_TIMEOUT (R206). A power-down entry times out, records an event, and takes its action at once. -/
  | seqDownTimeout
  /-- SEQ_COMMAND (R207). A SeqCommand write makes an on or off request to the sequencer state machine. -/
  | seqCommand (o : Origin) (v : Int)
  /-- SEQ_MIN_OFF_ELAPSED (R207). SeqMinOffTime passes in OFF-HOLD and the power-up table starts. -/
  | seqMinOffElapsed
  /-- MARGIN_NARROW_MOVE (R211). After the margined reference has settled and SeqPgQualTime has passed, the narrowing threshold moves. -/
  | marginNarrowMove (m : Fin 64)
  /-- NOP (R219). Mill instruction with no operation. -/
  | nop (m : Fin 16)
  /-- END (R219). Ends the run once every pending read has landed. -/
  | end_ (m : Fin 16)
  /-- BR (R219). Conditional branch on the flags. -/
  | br (m : Fin 16) (cond : BitVec 3) (addr : BitVec 11)
  /-- LDI (R219). Loads an immediate into a state word. -/
  | ldi (m : Fin 16) (d : Fin 128) (imm : Word)
  /-- MOV (R219). Copies a state word. -/
  | mov (m : Fin 16) (d a : Fin 128)
  /-- CLRA (R219). Clears the accumulator. -/
  | clra (m : Fin 16)
  /-- LDA (R219). Loads the accumulator from a scaled state word. -/
  | lda (m : Fin 16) (a : Fin 128) (f : BitVec 6)
  /-- STA (R216). Stores the accumulator to a state word with saturation and rounding by M. -/
  | sta (m : Fin 16) (d : Fin 128) (round : Bool)
  /-- MAC (R219). Adds the coefficient product P to the accumulator. -/
  | mac (m : Fin 16) (c : Fin 256) (a : Fin 128) (f : BitVec 6)
  /-- MSU (R219). Subtracts the coefficient product P from the accumulator. -/
  | msu (m : Fin 16) (c : Fin 256) (a : Fin 128) (f : BitVec 6)
  /-- MPY (R219). Loads the coefficient product P into the accumulator. -/
  | mpy (m : Fin 16) (c : Fin 256) (a : Fin 128) (f : BitVec 6)
  /-- ADD (R219). Saturating addition of two state words. -/
  | add (m : Fin 16) (d a b : Fin 128)
  /-- SUB (R219). Saturating subtraction of two state words. -/
  | sub (m : Fin 16) (d a b : Fin 128)
  /-- MIN (R219). Lesser of two state words. -/
  | min (m : Fin 16) (d a b : Fin 128)
  /-- MAX (R219). Greater of two state words. -/
  | max (m : Fin 16) (d a b : Fin 128)
  /-- CLAMP (R219). Clamps a state word between two others. -/
  | clamp (m : Fin 16) (d a b : Fin 128)
  /-- ABS (R219). Saturating absolute value. -/
  | abs (m : Fin 16) (d a : Fin 128)
  /-- NEG (R219). Saturating negation. -/
  | neg (m : Fin 16) (d a : Fin 128)
  /-- ASH (R219). Saturating arithmetic shift by F. -/
  | ash (m : Fin 16) (d a : Fin 128) (f : BitVec 6)
  /-- MULS (R219). Saturating product of two state words shifted by K. -/
  | muls (m : Fin 16) (d a b : Fin 128) (k : BitVec 6)
  /-- DIV (R219). Saturating division with pre-shift K, with defined results for a zero divisor. -/
  | div (m : Fin 16) (d a b : Fin 128) (k : BitVec 6)
  /-- CMP (R219). Compares two state words and sets Z and N. -/
  | cmp (m : Fin 16) (a b : Fin 128)
  /-- AND (R219). Bitwise AND of two state words. -/
  | and (m : Fin 16) (d a b : Fin 128)
  /-- OR (R219). Bitwise OR of two state words. -/
  | or (m : Fin 16) (d a b : Fin 128)
  /-- XOR (R219). Bitwise XOR of two state words. -/
  | xor (m : Fin 16) (d a b : Fin 128)
  /-- RD (R222). Issues a channel read of value or status and marks its state word pending. -/
  | rd (m : Fin 16) (d : Fin 128) (ch : Fin 256) (status : Bool)
  /-- RD_LAND (R221). A pending channel read lands in its state word and releases waiting instructions. -/
  | rdLand (m : Fin 16) (d : Fin 128)
  /-- WR (R230). Queues an output of class C; an unowned output is rejected and counted. -/
  | wr (m : Fin 16) (cls : BitVec 8) (index : BitVec 11) (a : Fin 128)
  /-- MILL_OUTPUT_DELIVERY (R230). A queued mill output reaches its hamlet and takes effect. -/
  | millOutputDelivery (m : Fin 16)
  /-- ILLEGAL_INSTRUCTION (R220). A reserved opcode, bad field or PC at MillCodeLength stops the mill with ILLEGAL set. -/
  | illegalInstruction (m : Fin 16)
  /-- MILL_TRIGGER (R227). A trigger makes its slot pending, or counts an overrun if the slot is already pending. -/
  | millTrigger (m : Fin 16) (k : Fin 4)
  /-- MILL_RUN_START (R227). With no run executing, the lowest pending slot starts at its entry address. -/
  | millRunStart (m : Fin 16)
  /-- RUN_LIMIT (R228). A run has not reached END after 16,384 cycles and the mill stops with RUNLIMIT set. -/
  | runLimit (m : Fin 16)
  /-- MILL_HEARTBEAT_LOST (R228). A slot has stayed pending for 10 ms: HBLOST is set and an event is recorded. -/
  | millHeartbeatLost (m : Fin 16) (k : Fin 4)
  /-- BANK_COPY_DONE (R235). The Reeve finishes copying the active bank to the inactive one and BANKPEND clears. -/
  | bankCopyDone (m : Fin 16)
  /-- MILL_LOAD (R238). The Reeve loads a mill's program, coefficients and triggers, then marks it READY. -/
  | millLoad (m : Fin 16)
  /-- TRACE_ARM (R245). A write of 1 to MillTraceCtl clears the buffers and arms the trace. -/
  | traceArm (o : Origin) (m : Fin 16)
  /-- TRACE_FORCE (R245). A write of 2 to MillTraceCtl forces the trigger at the next capture. -/
  | traceForce (o : Origin) (m : Fin 16)
  /-- TRACE_IDLE (R245). A write of 0 to MillTraceCtl returns the trace to IDLE, keeping its data. -/
  | traceIdle (o : Origin) (m : Fin 16)
  /-- TRACE_DUMP_STORED (R246). The Reeve finishes copying a DONE trace into the next trace-dump slot and logs a record. -/
  | traceDumpStored (m : Fin 16)
  /-- OBJECT_WRITE (R260). A direct write to an object without a row of its own is admitted, executed and completed. -/
  | objectWrite (o : Origin) (k : Key) (v : List Byte)
  /-- MARKET_DISPATCH (R258). The next request of an origin-object pair is dispatched after the previous one completes. -/
  | marketDispatch (o : Origin) (k : Key)
  /-- MARKET_COMPLETION (R259). The target answers and the request completes with its status, setting a fence if its fate is unknown. -/
  | marketCompletion (id : Nat) (memoryError : Bool)
  /-- MARKET_TIMEOUT (R263). A dispatched request has no answer within MarketTimeout and completes TIMEOUT with a fence. -/
  | marketTimeout (id : Nat)
  /-- HAMLET_RESET_WAIT_TIMEOUT (R264). A request waiting at a reset hamlet is not served within 10 ms and completes HAMLET-RESET. -/
  | hamletResetWaitTimeout (id : Nat)
  /-- FENCE_CLEAR (R267). A write of FenceClear clears one fence, or every fence, of the writing origin. -/
  | fenceClear (o : Origin) (v : Int)
  /-- FENCE_CLEAR_ORIGIN (R267). A write from the service origin clears every fence of the named origin. -/
  | fenceClearOrigin (o : Origin) (v : Int)
  /-- HAMPER_OPEN (R271). A read of HamperOpen opens a hamper and returns the next free handle. -/
  | hamperOpen (o : Origin)
  /-- HAMPER_STAGE (R273). A write of HamperStage starts or ends staging for the origin. -/
  | hamperStage (o : Origin) (v : Int)
  /-- HAMPER_COMMIT (R276). The COMMIT command validates a hamper and applies it at the next apply tick. -/
  | hamperCommit (o : Origin) (h : BitVec 8)
  /-- HAMPER_COMMIT_AT (R281). The COMMIT-AT command validates a hamper and arms it for HamperApplyTime. -/
  | hamperCommitAt (o : Origin) (h : BitVec 8)
  /-- HAMPER_COMMIT_DOMAIN (R287). The COMMIT-DOMAIN command starts a domain hamper as coordinator. -/
  | hamperCommitDomain (o : Origin) (h : BitVec 8)
  /-- HAMPER_ROLLBACK (R282). The ROLLBACK command discards a hamper's staged writes, or aborts a domain hamper before arming. -/
  | hamperRollback (o : Origin) (h : BitVec 8)
  /-- HAMPER_JOIN (R284). The JOIN command joins a participant hamper to a coordinator handle. -/
  | hamperJoin (o : Origin) (h : BitVec 8) (node : Fin 1024) (chandle : BitVec 8)
  /-- HAMPER_VALIDATION_COMPLETE (R277). Validation of a hamper finishes, passing with holds and locks or failing with a detail. -/
  | hamperValidationComplete
  /-- APPLY_TICK (R280). A 10 µs apply tick applies validated hampers and implicit hampers in admission order. -/
  | applyTick
  /-- HAMPER_TIMEOUT (R282). An OPEN or JOINED hamper idle for HamperTimeout is rolled back. -/
  | hamperTimeout (h : BitVec 8)
  /-- DOMAIN_PREPARE_RECEIVE (R288). A participant receives PREPARE, validates its joined hamper and votes. -/
  | domainPrepareReceive (f : DomainFrame)
  /-- DOMAIN_VOTE_RECEIVE (R287). The coordinator receives a vote, broadcasting ABORT on NO or GO when all votes are YES. -/
  | domainVoteReceive (node : Fin 1024) (f : DomainFrame)
  /-- DOMAIN_VOTE_DEADLINE (R287). At the vote deadline with a vote missing, the coordinator broadcasts ABORT. -/
  | domainVoteDeadline (h : BitVec 8)
  /-- DOMAIN_GO_RECEIVE (R288). A PREPARED participant receives GO and enters ARMED. -/
  | domainGoReceive (f : DomainFrame)
  /-- DOMAIN_ARMING_POINT (R288). At T − 2 ms an ARMED participant sends ARMED and logs, and a PREPARED one discards its hamper. -/
  | domainArmingPoint (h : BitVec 8)
  /-- DOMAIN_ARMED_RECEIVE (R287). The coordinator receives a participant's ARMED. -/
  | domainArmedReceive (node : Fin 1024) (f : DomainFrame)
  /-- DOMAIN_DECISION_POINT (R287). At T − 1 ms the coordinator broadcasts COMMIT if every ARMED has arrived, and ABORT otherwise. -/
  | domainDecisionPoint (h : BitVec 8)
  /-- DOMAIN_DECISION_REPEAT (R287). Every 100 µs until T − 0.5 ms, the decision is repeated on both ring directions. -/
  | domainDecisionRepeat (h : BitVec 8)
  /-- DOMAIN_COMMIT_RECEIVE (R288). An ARMED participant receives COMMIT and will apply at T. -/
  | domainCommitReceive (f : DomainFrame)
  /-- DOMAIN_ABORT_RECEIVE (R288). A participant receives ABORT, discards its hamper and releases its holds. -/
  | domainAbortReceive (f : DomainFrame)
  /-- DOMAIN_APPLY_TIME (R288). At T, a committed node applies and sends APPLIED, and an undecided one discards with a CRITICAL record. -/
  | domainApplyTime (h : BitVec 8)
  /-- DOMAIN_APPLIED_RECEIVE (R289). The coordinator receives a participant's APPLIED. -/
  | domainAppliedReceive (node : Fin 1024) (f : DomainFrame)
  /-- DOMAIN_REPORT_END (R289). DomainReportTime after T, missing participants are set in HamperMissing and the hamper becomes PARTIAL. -/
  | domainReportEnd (h : BitVec 8)
  /-- CAN_ERROR_PASSIVE (R293). A CAN line enters error passive, and its status bit and an event are set. -/
  | canErrorPassive (c : Fin 2)
  /-- CAN_BUS_OFF (R293). A CAN line enters bus-off, and its status bit and an event are set. -/
  | canBusOff (c : Fin 2)
  /-- CAN_BUSOFF_RESTART (R293). CanBusOffRestart after bus-off, the line restarts its recovery sequence. -/
  | canBusoffRestart (c : Fin 2)
  /-- NMT_START (R295). The NMT start command enters Operational. -/
  | nmtStart (c : Fin 2)
  /-- NMT_STOP (R295). The NMT stop command enters Stopped and discards queued EMCY. -/
  | nmtStop (c : Fin 2)
  /-- NMT_PREOPERATIONAL (R295). The NMT enter-pre-operational command enters Pre-operational. -/
  | nmtPreoperational (c : Fin 2)
  /-- NMT_RESET_COMMUNICATION (R295). Reset communication reloads the communication objects and takes up a new node-ID. -/
  | nmtResetCommunication (c : Fin 2)
  /-- NMT_RESET_NODE (R295). Reset node has the effect of reset communication without resetting Ulvia. -/
  | nmtResetNode (c : Fin 2)
  /-- HEARTBEAT_RECEIVE (R296). A consumed heartbeat restarts its timer and clears HBLOST for the plant controller's entry. -/
  | heartbeatReceive (c : Fin 2) (node : BitVec 7)
  /-- HEARTBEAT_CONSUMER_TIMEOUT (R296). A consumer heartbeat entry times out: an event is recorded, and for sub-index 01h the origin is lost and HBLOST set. -/
  | heartbeatConsumerTimeout (c : Fin 2) (entry : Fin 4)
  /-- HEARTBEAT_PRODUCE (R294). The producer heartbeat is sent every ProducerHeartbeatTime. -/
  | heartbeatProduce
  /-- USDO_REQUEST (R297). An expedited or initiating USDO request becomes a market request, or opens a segmented session. -/
  | usdoRequest (c : Fin 2) (q : UsdoRequest)
  /-- USDO_SEGMENT (R297). A USDO segment is taken; the last segment of a write becomes one market request. -/
  | usdoSegment (c : Fin 2) (data : List Byte) (last : Bool)
  /-- USDO_SEGMENT_TIMEOUT (R297). A gap above UsdoTimeout aborts the USDO session with 05040000h. -/
  | usdoSegmentTimeout (c : Fin 2)
  /-- SYNC_RECEIVE (R300). A SYNC triggers synchronous TPDOs and applies pending synchronous RPDOs. -/
  | syncReceive (c : Fin 2) (counter : BitVec 8)
  /-- RPDO_RECEIVE (R301). A received RPDO becomes writes of its mapped objects in mapping order. -/
  | rpdoReceive (c : Fin 2) (k : Fin 16) (data : List Byte)
  /-- RPDO_TIMEOUT (R302). An RPDO's event timer expires: its stale bit is set and an event is recorded. -/
  | rpdoTimeout (k : Fin 16)
  /-- TPDO_EVENT_CHECK (R300). Every 1 ms, event-driven TPDOs whose mapped values changed are sent, subject to inhibit. -/
  | tpdoEventCheck
  /-- TPDO_EVENT_TIMER (R300). A TPDO's event timer expires and the TPDO is sent. -/
  | tpdoEventTimer (k : Fin 16)
  /-- TPDO_INHIBIT_END (R300). The inhibit time ends and a delayed commanded transmission leaves with the values then in force. -/
  | tpdoInhibitEnd (k : Fin 16)
  /-- EMCY_SEND (R305). A queued EMCY leaves, no sooner than the EMCY inhibit time after the previous one. -/
  | emcySend (c : Fin 2)
  /-- TW_WRITE (R310). A two-wire WRITE frame ended by STOP becomes one write request unless it is a duplicate. -/
  | twWrite (f : TwFrame)
  /-- TW_READ (R310). A two-wire READ frame ended by STOP becomes one read request. -/
  | twRead (f : TwFrame)
  /-- TW_RESULT (R310). A two-wire RESULT transaction returns a held result and collects it on NACK and STOP. -/
  | twResult (addr : BitVec 7) (seq : BitVec 8) (collected : Bool)
  /-- TW_SCL_TIMEOUT (R317). TW_SCL stays low for TwSclTimeout and the transaction is abandoned. -/
  | twSclTimeout
  /-- TW_SDA_TIMEOUT (R317). Ulvia has held TW_SDA low for TwSdaTimeout and releases it. -/
  | twSdaTimeout
  /-- TW_BUS_RECOVERED (R317). After a timeout, a STOP or 50 µs of idle lines returns the port to service. -/
  | twBusRecovered
  /-- TW_RESULT_DISCARD (R313). A result that is past its hold and uncollected is discarded and counted. -/
  | twResultDiscard
  /-- SVC_PING (R320). The PING service command returns the revision and mode. -/
  | svcPing (tag : BitVec 16)
  /-- SVC_RATE (R320). The RATE service command answers at the old rate and schedules a rate change. -/
  | svcRate (tag : BitVec 16) (rate : Nat)
  /-- SVC_RATE_CHANGE (R320). 1 ms after the RATE response, the port changes rate. -/
  | svcRateChange
  /-- SVC_RATE_REVERT (R320). No valid frame within 2 s at the new rate returns the port to 115,200 baud. -/
  | svcRateRevert
  /-- SVC_READ (R320). The READ service command makes one read request from origin 4. -/
  | svcRead (tag : BitVec 16) (k : Key)
  /-- SVC_WRITE (R320). The WRITE service command makes one write request from origin 4. -/
  | svcWrite (tag : BitVec 16) (k : Key) (data : List Byte)
  /-- SVC_DOMAIN_READ (R320). The DOMAIN-READ service command returns a piece of a held copy, taking the copy at offset 0. -/
  | svcDomainRead (tag : BitVec 16) (k : Key) (offset length : Nat)
  /-- SVC_DOMAIN_WRITE (R320). The DOMAIN-WRITE service command gathers pieces into one write at LAST. -/
  | svcDomainWrite (tag : BitVec 16) (k : Key) (offset : Nat) (data : List Byte) (last : Bool)
  /-- SVC_DOMAIN_COPY_RELEASE (R320). A DOMAIN-READ copy not read for 1 s is released. -/
  | svcDomainCopyRelease
  /-- SVC_TRACE_DUMP (R320). The TRACE-DUMP service command streams trace channels as tagged frames. -/
  | svcTraceDump (tag : BitVec 16) (m : Fin 16) (mask : BitVec 4)
  /-- SVC_SLOT_READ (R320). The SLOT-READ service command returns corrected data of a stored trace slot. -/
  | svcSlotRead (tag : BitVec 16) (slot : Nat) (offset length : Nat)
  /-- SVC_BYTE_GAP (R319). A gap above 2 ms between bytes discards the frame and counts it. -/
  | svcByteGap
  /-- SVC_LINK_DROP (R321). No valid frame for SvcLinkTimeout, or RXD low for 10 ms: the link drops and origin 4 is lost. -/
  | svcLinkDrop
  /-- UPDATE_BEGIN (R438). The UPDATE-BEGIN command opens an update and erases the chosen slot. -/
  | updateBegin (tag : BitVec 16) (slot : BitVec 8) (length : Nat)
  /-- UPDATE_ERASE_DONE (R438). The slot erase completes and the UPDATE-BEGIN response is sent. -/
  | updateEraseDone
  /-- UPDATE_DATA (R438). The UPDATE-DATA command programs one piece at the next offset. -/
  | updateData (tag : BitVec 16) (offset : Nat) (data : List Byte)
  /-- UPDATE_END (R439). The UPDATE-END command closes the update, with a chip reset 100 ms later when RESTART is set. -/
  | updateEnd (tag : BitVec 16) (restart : Bool)
  /-- UPDATE_INACTIVITY (R439). 60 s without an update command abandons the open update. -/
  | updateInactivity
  /-- LIFECYCLE_NONCE (R446). The LIFECYCLE NONCE form returns a fresh 16-byte nonce. -/
  | lifecycleNonce (tag : BitVec 16)
  /-- LIFECYCLE_TRANSITION (R446). The LIFECYCLE TRANSITION form authenticates a transition and accepts or refuses it. -/
  | lifecycleTransition (tag : BitVec 16) (t : LcTransition)
  /-- LANE_LINK_UP (R326). A Lane port's link comes up, or stays down with MISWIRE. -/
  | laneLinkUp (p : LanePort) (farPortB : Bool)
  /-- LANE_LINK_DOWN (R327). A Lane port's link goes down and an event is recorded. -/
  | laneLinkDown (p : LanePort)
  /-- LANE_WRAP (R328). The node wraps frames onto its other port, or unwraps when the link returns. -/
  | laneWrap
  /-- LANE_FRAME_RECEIVE (R335). A Lane frame is forwarded, delivered, stripped or discarded. -/
  | laneFrameReceive (p : LanePort) (f : LaneFrame)
  /-- LANE_ENABLE_WRITE (R339). A LaneEnable write starts joining or puts the node in pass-through. -/
  | laneEnableWrite (o : Origin) (v : Int)
  /-- ROLL_SEND (R340). Every 10 ms a JOINING or MEMBER node broadcasts ROLL. -/
  | rollSend
  /-- ROLL_RECEIVE (R340). A ROLL frame updates membership and is tested for an ID conflict. -/
  | rollReceive (f : RollFrame)
  /-- LANE_JOIN_COMPLETE (R339). 30 ms without a conflict in JOINING makes the node a MEMBER. -/
  | laneJoinComplete
  /-- LANE_NODE_LOST (R341). No frame from a node for LaneNodeTimeout: its origin is lost and an event is recorded. -/
  | laneNodeLost (n : Fin 1024)
  /-- TSYNC_SEND (R344). Every 1 ms, TSYNC is sent on each port with link up. -/
  | tsyncSend (p : LanePort)
  /-- TSYNC_RECEIVE (R345). A TSYNC disciplines Lane time from the upstream and may set TVALID or step the time. -/
  | tsyncReceive (p : LanePort) (f : TsyncFrame)
  /-- DREQ_SEND (R344). Every 100 ms, DREQ is sent on each port with link up. -/
  | dreqSend (p : LanePort)
  /-- DREQ_RECEIVE (R344). A DREQ is answered with DRSP within 100 µs. -/
  | dreqReceive (p : LanePort) (arrival : Nat)
  /-- DRSP_RECEIVE (R344). A DRSP gives the link delay. -/
  | drspReceive (p : LanePort) (t2 t3 t4 : Nat)
  /-- HOLDOVER_ENTRY (R345). No usable upstream for 3 ms: the node enters HOLDOVER. -/
  | holdoverEntry
  /-- HOLDOVER_EXPIRY (R345). HOLDOVER has lasted LaneHoldover and TVALID clears. -/
  | holdoverExpiry
  /-- LANE_TIME_SET (R346). A LaneTimeSet write on the master steps or slews Lane time. -/
  | laneTimeSet (o : Origin) (v : List Byte)
  /-- OD_REQUEST_RECEIVE (R347). A Lane OD request becomes a market request from origin 16 + SRC. -/
  | odRequestReceive (src : Fin 1024) (q : OdRequest)
  /-- ALM_FETCH_RECEIVE (R348). An ALM fetch is served from the NOR, one record per frame, or queued or refused. -/
  | almFetchReceive (src : Fin 1024) (q : AlmFetch)
  /-- LANE_GW_REQUEST (R349). A LaneGwRequest write queues an OD or ALM request to a target node. -/
  | laneGwRequest (o : Origin) (v : List Byte)
  /-- LANE_GW_RESULT (R349). A read of LaneGwResult returns and removes the oldest response. -/
  | laneGwResult (o : Origin)
  /-- GW_RESPONSE_RECEIVE (R349). A response to a gateway request is held for collection. -/
  | gwResponseReceive (src : Fin 1024) (alm : Bool) (last : Bool) (payload : List Byte)
  /-- GW_RESPONSE_EXPIRY (R349). A response held for 10 s is discarded and counted. -/
  | gwResponseExpiry
  /-- GW_TIMEOUT (R349). No response within LaneOdTimeout: the gateway creates a TIMEOUT response. -/
  | gwTimeout (tag : BitVec 16) (node : Fin 1024)
  /-- WATCH_EVALUATION (R354). The 1 µs Watch evaluation classifies new events and takes the reactions. -/
  | watchEvaluation
  /-- SOURCE_QUIET (R356). Q passes without an event: the source goes QUIET or CLEAR and recovery is counted. -/
  | sourceQuiet (i : Fin 256)
  /-- SOURCE_CLEAR_FROM_QUIET (R356). The last held event becomes older than T and a QUIET source becomes CLEAR. -/
  | sourceClearFromQuiet (i : Fin 256)
  /-- SRC_ENABLE_WRITE (R356). A write of 0 to SrcEnable clears the source with its history. -/
  | srcEnableWrite (o : Origin) (i : Fin 256) (v : Int)
  /-- SRC_FORCE (R361). A write of SrcForce records one FORCED event. -/
  | srcForce (o : Origin) (i : Fin 256) (v : Int)
  /-- MEMORY_CORRECTED (R363). A corrected codeword is written back, counted and recorded. -/
  | memoryCorrected (mem : MemoryId)
  /-- MEMORY_UNCORRECTABLE (R363). An uncorrectable codeword records an event, with an ECHO for a mill. -/
  | memoryUncorrectable (mem : MemoryId)
  /-- MEM_LOCK_REVOKE (R364). The memory-port holder blocks a ready record and is block-reset, with an event on source 228. -/
  | memLockRevoke (h : Fin 27)
  /-- GREEN_LOCK_REVOKE (R365). A green lock held for GreenLockLimit is revoked by block reset. -/
  | greenLockRevoke (h : Fin 27)
  /-- WATCH_SELF_CHECK_FAIL (R367). An uncorrectable Watch codeword or a copy mismatch enters the safe state within 1 µs. -/
  | watchSelfCheckFail (mismatch : Bool)
  /-- SUPPLY_WARNING (R368). VAUX falls below its warning level and source 245 records an event. -/
  | supplyWarning (reading : Int)
  /-- SUPPLY_OUT_OF_WINDOW (R368). An internal supply or the reference has been outside its window for 10 µs and source 246 records an event. -/
  | supplyOutOfWindow (ch : Fin 256) (reading : Int)
  /-- DIE_SENSOR_READ (R372). Every 1 ms the die sensors are read and the thermal levels judged. -/
  | dieSensorRead (readings : List DieReading)
  /-- THERMAL_SHUTDOWN (R375). The shutdown condition holds for 2 reads and the CRITICAL record is written to the reserve. -/
  | thermalShutdown
  /-- THERMAL_RECORD_DONE (R375). The shutdown record's page program completes, or 5 ms pass, and the safe state is entered. -/
  | thermalRecordDone
  /-- THERMAL_RESTART (R376). Every unmasked sensor has been 15 °C below shutdown for 100 reads and a chip reset follows. -/
  | thermalRestart
  /-- ORDERLY_STOP_START (R377). Predicted overheating starts the Brisa orderly stop with an off request. -/
  | orderlyStopStart
  /-- ORDERLY_STOP_SEQ_OFF (R377). The sequencer reaches OFF during the orderly stop and the safe state follows. -/
  | orderlyStopSeqOff
  /-- HELD_RECORD_FLUSH (R388). AlmRepeatFlush has passed and the held record is released for writing. -/
  | heldRecordFlush
  /-- RECORD_WRITE_DONE (R391). A record's program to its sector slot completes. -/
  | recordWriteDone
  /-- SECTOR_ERASE_DONE (R391). A successor sector erase completes. -/
  | sectorEraseDone
  /-- FLASH_PROGRAM_FAIL (R394). A program or erase fails: the sector closes and the record moves to the next sector. -/
  | flashProgramFail
  /-- ALMANAC_CHECKPOINT (R384). Every AlmCheckpoint a CHECKPOINT record is written. -/
  | almanacCheckpoint
  /-- RESET_FLUSH_END (R395). The flush ends at 5 ms and unwritten records are lost. -/
  | resetFlushEnd
  /-- EXPORT_START (R397). A write of 1 to AlmExportCtl flushes and freezes an export. -/
  | exportStart (o : Origin) (v : Int)
  /-- EXPORT_ABANDON (R397). A write of 0 to AlmExportCtl abandons the export. -/
  | exportAbandon (o : Origin) (v : Int)
  /-- EXPORT_RECEIPT (R399). A matching digest written to AlmExportReceipt makes the export RECEIPTED. -/
  | exportReceipt (o : Origin) (digest : List Byte)
  /-- TWIN_STATE_RECEIVE (R403). A STATE frame updates the partner's health, heartbeat and sequence. -/
  | twinStateReceive (f : TwinFrame)
  /-- TWIN_LINK_LOST (R403). No STATE frame for 1 ms, or link down: the twin link is lost. -/
  | twinLinkLost
  /-- TWIN_STATE_SEND (R403). Every 100 µs each unit sends its STATE frame. -/
  | twinStateSend
  /-- TRACK_SEND (R403). Every 10 µs the owner sends TRACK. -/
  | trackSend
  /-- TRACK_RECEIVE (R415). The standby takes TRACK values for its tracking laws. -/
  | trackReceive (f : TrackFrame)
  /-- MIRROR_SEND (R417). The owner sends mirrored data on change or period. -/
  | mirrorSend
  /-- MIRROR_RECEIVE (R419). The standby applies a MIRROR frame as an implicit hamper, or sends RESYNC on a gap or failure. -/
  | mirrorReceive (seq : BitVec 32) (full : Bool) (items : List MirrorItem)
  /-- RESYNC_RECEIVE (R419). The owner answers RESYNC with the full mirror. -/
  | resyncReceive
  /-- OWN_IN_RISE (R405). OWN_IN rises: an owner yields, or a releasing unit moves to standby. -/
  | ownInRise (simultaneous : Bool)
  /-- RELEASE_HOLD_END (R408). 2 µs after OWN_IN rises, the releasing unit sets standby levels. -/
  | releaseHoldEnd
  /-- RELEASE_TIMEOUT (R408). No claim 200 µs after release: the unit reclaims ownership. -/
  | releaseTimeout
  /-- OWN_IN_FALL (R410). A HEALTHY standby sees OWN_IN fall and claims. -/
  | ownInFall (gap : Nat)
  /-- STALE_HOLDER_CLAIM (R412). The partner's heartbeat is stale for TwinHbTimeout and the standby claims against it. -/
  | staleHolderClaim
  /-- ALTERNATE_START_CLAIM (R414). An ALTERNATE in STARTING sees OWN_IN low 250 ms after boot and claims. -/
  | alternateStartClaim
  /-- TWIN_EXERCISE (R422). A write of TwinExercise gives up control at the next apply tick. -/
  | twinExercise (o : Origin) (v : Int)
  /-- RETURN_HOLDOFF_END (R423). The PREFERRED standby has been healthy for TwinReturnHoldoff and sets RETURN. -/
  | returnHoldoffEnd
  /-- POWER_ON_RESET (R426). VAUX below 4.1 V for more than 2 µs asserts power-on reset. -/
  | powerOnReset
  /-- POWER_ON_RELEASE (R426). VAUX rises above 4.3 V and power-on reset releases. -/
  | powerOnRelease (straps : Straps)
  /-- RST_ASSERT (R427). RST# low for 1 µs starts an external chip reset. -/
  | rstAssert
  /-- RST_RELEASE (R431). The rise of RST# resumes boot at step 4. -/
  | rstRelease
  /-- CHIP_RESET_CMD (R427). A write of 0C5Dh to ChipResetCmd makes a chip reset with cause 6. -/
  | chipResetCmd (o : Origin) (v : Int)
  /-- BOOT_REGULATORS_READY (R430). VCORE, V18 and V33 come within ±5 %, and WATCH and ALMANAC start. -/
  | bootRegulatorsReady
  /-- BOOT_WIPE_COMPLETE (R430). The wipe of boot step 4 completes. -/
  | bootWipeComplete
  /-- BOOT_REFERENCE_LOCKED (R430). The reference is present and every clock generator locks. -/
  | bootReferenceLocked
  /-- BOOT_NOR_DISCOVERED (R432). The NOR is discovered and the directory copies are read, or ROM recovery is entered. -/
  | bootNorDiscovered (part : Option NorPart) (recov : Bool)
  /-- BOOT_IMAGE_CHECKED (R436). An image slot's copy and check complete, and the other slot is tried if it fails. -/
  | bootImageChecked (slotB : Bool)
  /-- BOOT_REEVE_START (R430). The Reeve starts, scans the Almanac and restores counters. -/
  | bootReeveStart
  /-- BOOT_PARAMETER_LOAD (R441). The committed parameter set is loaded and validated, and the estimator slots are read. -/
  | bootParameterLoad (closed : List Bool)
  /-- BOOT_MILLWORK_LOADED (R430). Millwork is loaded into every placed mill. -/
  | bootMillworkLoaded
  /-- BOOT_COMPLETE (R430). Coefficients are derived, LOG 60h is written, and the sequencer, CAN, Lane, twins and watchdog start. -/
  | bootComplete
  /-- PARAM_STORE_CMD (R442). A write of 5A17h to ParamStoreCmd starts a store at the next apply tick. -/
  | paramStoreCmd (o : Origin) (v : Int)
  /-- PARAM_STORE_DONE (R442). The store's marker is programmed, ParamStoreState becomes DONE, and LOG 64h is logged. -/
  | paramStoreDone
  /-- PARAM_STORE_FAIL (R443). VAUX falls below warning during a store, which stops without a marker and is FAILED. -/
  | paramStoreFail
  /-- VC_FRAME_NACK (R103). A VC command frame whose CRC fails, or whose opcode is not one of the four, is answered with NACK CRC or NACK OPCODE and is not executed. -/
  | vcFrameNack (n : Fin 4) (frame : BitVec 40)
  /-- SVC_CRC_ERROR (R319). A service frame whose CRC fails or whose LEN is above 4,096 is discarded without a response and SvcCrcErrors increments. -/
  | svcCrcError
  /-- SVC_UNKNOWN_COMMAND (R320). A valid service frame with an unknown CMD is answered with status COMMAND. -/
  | svcUnknownCommand (tag : BitVec 16) (cmd : BitVec 8)
  /-- ERROR_ACTIVE_RETURN (R293). A CAN line returns to error active after error passive or at the end of its bus-off recovery sequence, and ERRPASSIVE or BUSOFF clears. -/
  | errorActiveReturn (c : Fin 2)
  /-- SUPPLY_WARNING_CLEAR (R368). VAUX rises back above its warning level with 1 % hysteresis, so estimator slot writes and parameter stores may start again and the Almanac resumes holding records. -/
  | supplyWarningClear
  /-- WM_WARNING_CLEAR (R194). The filtered monitor value comes back inside its threshold by the hysteresis, and WARNUV or WARNOV clears. -/
  | wmWarningClear (m : Fin 64) (ov : Bool)
  /-- SHIP_PATTERN_COMPLETE (R125). The ship-set or ship-clear pulse pattern on BSn_SW ends, so the string enters SHIP, or BSn_SW goes low and CLOSING begins, with the ship-flag slot write of R126 once every string has cleared. -/
  | shipPatternComplete (n : Fin 4)
  /-- ESTIMATOR_SLOT_WRITE_DONE (R153). The erase and program of an estimator slot entry complete, and that slot holds the newest entry. -/
  | estimatorSlotWriteDone
  /-- LIFECYCLE_ERASE_COMPLETE (R448). The fuse blow and the NOR erase of an accepted life-cycle transition complete, and Ulvia makes a chip reset with cause 5. -/
  | lifecycleEraseComplete
  /-- UPDATE_RESTART_RESET (R439). 100 ms after the UPDATE-END response with RESTART set, Ulvia makes a chip reset with cause 6. -/
  | updateRestartReset
  /-- UPDATE_DATA_PROGRAMMED (R438). The bytes of an UPDATE-DATA piece finish programming and the response is sent. -/
  | updateDataProgrammed
deriving DecidableEq, Repr

end Sys2Proof
end

