-- ==== Sys2Proof/Machine/Bits.lean ====
section
/-! DEFINITION. Bytes, fields, fixed-point formats and rounding. -/

namespace Sys2Proof.Machine

/-- The number that bytes spell, least significant byte first (R6). -/
def leNat : List Byte → Nat
  | [] => 0
  | b :: bs => b.toNat + 256 * leNat bs

/-- The two's-complement number that bytes spell, least significant byte first (R6). -/
def leInt (b : List Byte) : Int :=
  if 2 * leNat b < 256 ^ b.length then (leNat b : Int) else (leNat b : Int) - 256 ^ b.length

/-- The `n` low bytes of a number, least significant byte first (R6). -/
def leBytes : Nat → Nat → List Byte
  | 0, _ => []
  | n + 1, v => BitVec.ofNat 8 v :: leBytes n (v / 256)

/-- The `n` bytes of an integer in two's complement, least significant byte first (R6). -/
def toLe (n : Nat) (v : Int) : List Byte := leBytes n (v % (256 ^ n : Nat)).toNat

/-- One bit of a status word. -/
def bit (b : Bool) (n : Nat) : Nat := if b then 2 ^ n else 0

/-- The bit `n` of a number is 1. -/
def hasBit (v n : Nat) : Bool := v / 2 ^ n % 2 == 1

/-- The field of `w` bits from bit `lo`. -/
def field (v lo w : Nat) : Nat := v / 2 ^ lo % 2 ^ w

/-- `v` between `lo` and `hi`. -/
def clampInt (lo hi v : Int) : Int := max lo (min hi v)

/-- The greater of two rational numbers. -/
def ratMax (a b : Rat) : Rat := if a ≤ b then b else a

/-- The lesser of two rational numbers. -/
def ratMin (a b : Rat) : Rat := if a ≤ b then a else b

/-- `v` between `lo` and `hi`. -/
def clampRat (lo hi v : Rat) : Rat := ratMax lo (ratMin hi v)

/-- The natural logarithm of (1 + y) / (1 − y) by the first terms of its series. -/
def atanhTwice (y : Rat) (n : Nat) : Rat :=
  (List.range n).foldl (fun a k => a + 2 * y ^ (2 * k + 1) / (2 * k + 1 : Nat)) 0

/-- The natural logarithm of a positive number, halved or doubled so many times at most to lie between 1 and 2.
[DESIGN CHOICE, log 138] -/
def lnRat : Nat → Rat → Rat
  | 0, q => atanhTwice ((q - 1) / (q + 1)) 20
  | n + 1, q =>
    if 2 ≤ q then lnRat n (q / 2) + atanhTwice (1 / 3) 20
    else if q < 1 then lnRat n (q * 2) - atanhTwice (1 / 3) 20
    else atanhTwice ((q - 1) / (q + 1)) 20

/-- The nearest integer, halves upwards. [DESIGN CHOICE, log 10] -/
def roundRat (q : Rat) : Int := (q + 1 / 2).floor

/-- A 32-bit word from an integer, saturated. -/
def satWord (v : Int) : Word := BitVec.ofInt 32 (clampInt (-2147483648) 2147483647 v)

/-- The word of `q` with `n` fractional bits, rounded to nearest and saturated (R8). [DESIGN CHOICE, log 10] -/
def toQ (n : Nat) (q : Rat) : Word := satWord (roundRat (q * 2 ^ n))

/-- The number that a word with `n` fractional bits stands for (R8). -/
def ofQ (n : Nat) (w : Word) : Rat := (w.toInt : Rat) / 2 ^ n

/-- A counter one higher, saturating at `top`. -/
def satSucc (top n : Nat) : Nat := min top (n + 1)

/-- One bit, most significant first, into the CRC-16 of polynomial 1021h (Table 10.1). -/
def crc16Bit (r : BitVec 16) (b : Bool) : BitVec 16 :=
  if r.msb != b then r <<< 1 ^^^ 0x1021#16 else r <<< 1

/-- The CRC-16 of HCHK (Table 10.1): initial value FFFFh. -/
def crc16 (l : List Byte) : BitVec 16 :=
  l.foldl (fun r b => [7, 6, 5, 4, 3, 2, 1, 0].foldl (fun r k => crc16Bit r (b.getLsbD k)) r) 0xFFFF#16

/-- One bit, least significant first, into the reflected CRC-32 of polynomial 04C11DB7h (R319, R331). -/
def crc32Bit (r : BitVec 32) (b : Bool) : BitVec 32 :=
  if r.getLsbD 0 != b then r >>> 1 ^^^ 0xEDB88320#32 else r >>> 1

/-- The CRC-32 of R319 and R331: initial value and final XOR FFFFFFFFh. -/
def crc32 (l : List Byte) : BitVec 32 :=
  l.foldl (fun r b => [0, 1, 2, 3, 4, 5, 6, 7].foldl (fun r k => crc32Bit r (b.getLsbD k)) r) 0xFFFFFFFF#32 ^^^ 0xFFFFFFFF#32

/-- The value of a percentage object (Table 0.3): 10,000 is 1. -/
def pct (v : Int) : Rat := (v : Rat) / 10000

/-- The CRC-8 with polynomial 07h and initial value 00h over bits, most significant first (R100, R307). -/
def crc8Bits : List Bool → Nat → Nat
  | [], a => a
  | b :: bs, a =>
    let top := (decide (128 ≤ a)) != b
    crc8Bits bs ((a * 2 % 256) ^^^ (if top then 7 else 0))

/-- The low `n` bits of a number, most significant first. -/
def bitsOf (n v : Nat) : List Bool := (List.range n).map fun i => hasBit v (n - 1 - i)

/-- The PEC of the bytes of a two-wire transaction (R307). -/
def pecOf (l : List Byte) : Byte := BitVec.ofNat 8 (crc8Bits (l.flatMap fun b => bitsOf 8 b.toNat) 0)

end Sys2Proof.Machine
end

