-- ==== Sys2Proof/Machine/Crypto.lean ====
section
/-! DEFINITION. SHA-256 and the verification of an ECDSA P-256 signature, two published standards that the spec names
(R398, R435, R436, R440, R446) and whose steps it does not state. [PRESUMED, log 149] -/

namespace Sys2Proof.Machine

/-- The number that bytes spell, most significant byte first. -/
def beNat (b : List Byte) : Nat := b.foldl (fun a x => 256 * a + x.toNat) 0

/-! ### SHA-256 -/

/-- The eight working words of SHA-256. -/
structure ShaState where
  a : Word := 0x6A09E667
  b : Word := 0xBB67AE85
  c : Word := 0x3C6EF372
  d : Word := 0xA54FF53A
  e : Word := 0x510E527F
  f : Word := 0x9B05688C
  g : Word := 0x1F83D9AB
  h : Word := 0x5BE0CD19
deriving DecidableEq, Repr

/-- The round constants of SHA-256. -/
def shaConstants : List Word :=
  [0x428A2F98, 0x71374491, 0xB5C0FBCF, 0xE9B5DBA5, 0x3956C25B, 0x59F111F1, 0x923F82A4, 0xAB1C5ED5,
   0xD807AA98, 0x12835B01, 0x243185BE, 0x550C7DC3, 0x72BE5D74, 0x80DEB1FE, 0x9BDC06A7, 0xC19BF174] ++
  [0xE49B69C1, 0xEFBE4786, 0x0FC19DC6, 0x240CA1CC, 0x2DE92C6F, 0x4A7484AA, 0x5CB0A9DC, 0x76F988DA,
   0x983E5152, 0xA831C66D, 0xB00327C8, 0xBF597FC7, 0xC6E00BF3, 0xD5A79147, 0x06CA6351, 0x14292967] ++
  [0x27B70A85, 0x2E1B2138, 0x4D2C6DFC, 0x53380D13, 0x650A7354, 0x766A0ABB, 0x81C2C92E, 0x92722C85,
   0xA2BFE8A1, 0xA81A664B, 0xC24B8B70, 0xC76C51A3, 0xD192E819, 0xD6990624, 0xF40E3585, 0x106AA070] ++
  [0x19A4C116, 0x1E376C08, 0x2748774C, 0x34B0BCB5, 0x391C0CB3, 0x4ED8AA4A, 0x5B9CCA4F, 0x682E6FF3,
   0x748F82EE, 0x78A5636F, 0x84C87814, 0x8CC70208, 0x90BEFFFA, 0xA4506CEB, 0xBEF9A3F7, 0xC67178F2]

/-- One round with a constant and a word of the schedule. -/
def shaRound (s : ShaState) (k : Word × Word) : ShaState :=
  let s1 := s.e.rotateRight 6 ^^^ s.e.rotateRight 11 ^^^ s.e.rotateRight 25
  let ch := (s.e &&& s.f) ^^^ (~~~s.e &&& s.g)
  let t1 := s.h + s1 + ch + k.1 + k.2
  let s0 := s.a.rotateRight 2 ^^^ s.a.rotateRight 13 ^^^ s.a.rotateRight 22
  let maj := (s.a &&& s.b) ^^^ (s.a &&& s.c) ^^^ (s.b &&& s.c)
  { a := t1 + s0 + maj, b := s.a, c := s.b, d := s.c, e := s.d + t1, f := s.e, g := s.f, h := s.g }

/-- So many more words of the schedule, the newest first. -/
def shaSchedule : Nat → List Word → List Word
  | 0, w => w
  | n + 1, w =>
    let x := w.getD 1 0
    let y := w.getD 14 0
    let s1 := x.rotateRight 17 ^^^ x.rotateRight 19 ^^^ x >>> 10
    let s0 := y.rotateRight 7 ^^^ y.rotateRight 18 ^^^ y >>> 3
    shaSchedule n ((s1 + w.getD 6 0 + s0 + w.getD 15 0) :: w)

/-- One block of 64 bytes. -/
def shaBlock (s : ShaState) (b : List Byte) : ShaState :=
  let w := (List.range 16).map fun i => BitVec.ofNat 32 (beNat ((b.drop (4 * i)).take 4))
  let t := (shaConstants.zip (shaSchedule 48 w.reverse).reverse).foldl shaRound s
  { a := s.a + t.a, b := s.b + t.b, c := s.c + t.c, d := s.d + t.d
    e := s.e + t.e, f := s.f + t.f, g := s.g + t.g, h := s.h + t.h }

/-- The message with its padding and its length in bits. -/
def shaPadded (m : List Byte) : List Byte :=
  m ++ 0x80 :: List.replicate ((119 - m.length % 64) % 64) 0 ++ (leBytes 8 (8 * m.length)).reverse

/-- The blocks of a padded message, so many. -/
def shaBlocks : Nat → List Byte → ShaState → ShaState
  | 0, _, s => s
  | n + 1, m, s => shaBlocks n (m.drop 64) (shaBlock s (m.take 64))

/-- The 32 bytes of the SHA-256 digest of a message. -/
@[irreducible] def sha256 (m : List Byte) : Vector Byte 32 :=
  let p := shaPadded m
  let s := shaBlocks (p.length / 64) p {}
  let l := [s.a, s.b, s.c, s.d, s.e, s.f, s.g, s.h].flatMap fun w => (leBytes 4 w.toNat).reverse
  Vector.ofFn fun i => l.getD i 0

/-! ### ECDSA P-256 -/

/-- The prime of the field of P-256. -/
def p256Prime : Nat := 0xFFFFFFFF00000001000000000000000000000000FFFFFFFFFFFFFFFFFFFFFFFF

/-- The order of the base point of P-256. -/
def p256Order : Nat := 0xFFFFFFFF00000000FFFFFFFFFFFFFFFFBCE6FAADA7179E84F3B9CAC2FC632551

/-- The coefficient b of P-256. -/
def p256B : Nat := 0x5AC635D8AA3A93E7B3EBBD55769886BC651D06B0CC53B0F63BCE3C3E27D2604B

/-- A point in Jacobian coordinates; z is 0 at infinity. -/
structure EcPoint where
  x : Nat
  y : Nat
  z : Nat
deriving DecidableEq, Repr

/-- The base point of P-256. -/
def p256Base : EcPoint :=
  { x := 0x6B17D1F2E12C4247F8BCE6E563A440F277037D812DEB33A0F4A13945D898C296
    y := 0x4FE342E2FE1A7F9B8EE7EB4A7C0F9E162BCE33576B315ECECBB6406837BF51F5, z := 1 }

/-- A difference in the field. -/
def fieldSub (a b : Nat) : Nat := (a + p256Prime - b % p256Prime) % p256Prime

/-- A power modulo `m`, of an exponent of 256 bits. -/
def powMod (m b e : Nat) : Nat :=
  (bitsOf 256 e).foldl (fun a k => let q := a * a % m; if k then q * b % m else q) 1

/-- The double of a point. -/
def ecDouble (p : EcPoint) : EcPoint :=
  let m := p256Prime
  let delta := p.z * p.z % m
  let gamma := p.y * p.y % m
  let beta := p.x * gamma % m
  let alpha := 3 * (fieldSub p.x delta * (p.x + delta)) % m
  let x := fieldSub (alpha * alpha) (8 * beta)
  { x := x, y := fieldSub (alpha * fieldSub (4 * beta) x) (8 * (gamma * gamma))
    z := fieldSub ((p.y + p.z) * (p.y + p.z)) (gamma + delta) }

/-- The sum of two points. -/
def ecAdd (p q : EcPoint) : EcPoint :=
  let m := p256Prime
  if p.z = 0 then q
  else if q.z = 0 then p
  else
    let u := p.x * (q.z * q.z % m) % m
    let s := p.y * (q.z * q.z % m * q.z % m) % m
    let h := fieldSub (q.x * (p.z * p.z % m)) u
    let r := fieldSub (q.y * (p.z * p.z % m * p.z % m)) s
    if h = 0 then (if r = 0 then ecDouble p else { x := 1, y := 1, z := 0 })
    else
      let h2 := h * h % m
      let h3 := h2 * h % m
      let x := fieldSub (r * r) (h3 + 2 * (u * h2 % m))
      { x := x, y := fieldSub (r * fieldSub (u * h2) x) (s * h3), z := p.z * q.z % m * h % m }

/-- `u` times `p` plus `v` times `q`. -/
def ecCombine (u v : Nat) (p q : EcPoint) : EcPoint :=
  ((bitsOf 256 u).zip (bitsOf 256 v)).foldl (fun a k =>
    let d := ecDouble a
    let d := if k.1 then ecAdd d p else d
    if k.2 then ecAdd d q else d) { x := 1, y := 1, z := 0 }

/-- The signature (r, then s) is that of the digest under the public key (x, then y), all big-endian (Table 14.6). -/
@[irreducible] def ecdsaVerify (publicKey digest signature : List Byte) : Bool :=
  let m := p256Prime
  let x := beNat (publicKey.take 32)
  let y := beNat (publicKey.drop 32)
  let r := beNat (signature.take 32)
  let s := beNat (signature.drop 32)
  let onCurve := decide (x < m) && decide (y < m) && y * y % m == fieldSub (x * x % m * x + p256B) (3 * x)
  let inRange (v : Nat) : Bool := decide (0 < v) && decide (v < p256Order)
  if publicKey.length != 64 || signature.length != 64 || !onCurve || !inRange r || !inRange s then false
  else
    let w := powMod p256Order s (p256Order - 2)
    let t := ecCombine (beNat digest * w % p256Order) (r * w % p256Order) p256Base { x := x, y := y, z := 1 }
    t.z != 0 && t.x * powMod m (t.z * t.z % m) (m - 2) % m % p256Order == r

end Sys2Proof.Machine
end

