-- ==== Sys2Proof/Config.lean ====
section
/-! DEFINITION. What the spec leaves open: free values, which no statement can evaluate. -/

namespace Sys2Proof.Config

/-- A free value of 32 bits, new for each argument: what the spec leaves open and nothing constrains.
[DESIGN CHOICE, log 8] -/
opaque freeWord : Nat → BitVec 32

/-- The gain of a first-order filter, run every `dt` µs, whose time constant is `tau` µs: the spec gives the time
constant and not the discrete form. [DESIGN CHOICE, log 9] -/
opaque filterGain (dt tau : Nat) : Rat

/-- The temperature word of a thermistor input, in µV, at which the beta equation gives no temperature (R120).
[DESIGN CHOICE, log 138] -/
opaque ntcOutside (input : Int) : BitVec 32

/-- The random bytes of the nonce of each `NONCE` command, by its number. [DESIGN CHOICE, log 9] -/
opaque nonceByte (number position : Nat) : BitVec 8

end Sys2Proof.Config
end

