-- ==== Sys2Proof/Machine/State.lean ====
section
/-! DEFINITION. The state of Ulvia: every register, queue, buffer, counter, mode and pin the spec gives the
block, as plain data, with the value each holds while power-on reset is asserted as its default; the commands
that wait; the reasons a step can stop; and `State.reset`. -/

namespace Sys2Proof.Machine

/-- Why a step stops: it never does. The spec gives every command of the table an effect, and the type has no constructor. -/
inductive Fault where
deriving DecidableEq, Repr

/-- Why a step is refused. -/
inductive Refusal where
  /-- Raised by an arm of `exec` that has no meaning yet. Safe: nothing is claimed of such a command. -/
  | notModelled (mnemonic : String)
deriving DecidableEq, Repr

/-! ### Names -/

/-- The value of an object: a number, or the bytes of a DOMAIN or VISIBLE_STRING (R250). -/
inductive Val where
  | num (v : Int)
  | bytes (b : List Byte)
deriving DecidableEq, Repr

/-- Completion statuses (Table 8.5). -/
inductive Status where
  | ok | fenced | hamletReset | timeout | memory | switchover | busy | noObject | access | origin | lifecycle
  | type | range | consistency | stateConflict | hamperOnly | noHamper | hamperFull | validation | aborted
deriving DecidableEq, Repr

/-- Validation details (Table 8.10). -/
inductive Detail where
  | none | range | access | origin | lifecycle | type | consistency | topology | sequence | shift | targetState
  | time | locked | spoiled | notJoined | nodes | noVote | noArmed
deriving DecidableEq, Repr

/-- `BusState` (Table 2.8). -/
inductive BusState where
  | onSource | handover | onBattery | qualifying | handback
deriving DecidableEq, Repr

/-- `RailState` (Table 3.3). -/
inductive RailState where
  | off | onDelay | ramp | regulate | offDelay | rampDown | fbHold | dutyRamp | fault
deriving DecidableEq, Repr

/-- The mode of a rail (Table 3.11, MODE). -/
inductive RailMode where
  | buck | charge | discharge | auto | holdZero
deriving DecidableEq, Repr

/-- The drop cause of a phase (Table 3.2, CAUSE). -/
inductive DropCause where
  | none | openPhase | pilot | range | ripple | disagreement
deriving DecidableEq, Repr

/-- `StrState` (Table 4.4). -/
inductive StrState where
  | unfitted | qualifying | closing | inService | fallow | absent | opened | ship | fault
deriving DecidableEq, Repr

/-- `StrChargePhase` (R134). -/
inductive ChargePhase where
  | none | cc | absorb | float
deriving DecidableEq, Repr

/-- `PpState` (Table 5.2). -/
inductive PpState where
  | off | waitInput | insert | ramp | on | retryWait | latched | shed | reverse
deriving DecidableEq, Repr

/-- `SeqState` (Table 6.7). -/
inductive SeqState where
  | off | powerUp | up | powerDown | offHold
deriving DecidableEq, Repr

/-- `MillState` (Table 7.15). -/
inductive MillState where
  | idle | loading | ready | stopped | reset
deriving DecidableEq, Repr

/-- `MillTraceState` (R245). -/
inductive TraceState where
  | idle | armed | triggered | done
deriving DecidableEq, Repr

/-- `HamperState` (Table 8.8); FREE is a handle that no hamper of `hampers` has. -/
inductive HamperState where
  | opened | joined | validating | prepared | armed | applied | rolledBack | failed | aborted | partial_
deriving DecidableEq, Repr

/-- The NMT states (Table 9.6). -/
inductive NmtState where
  | initialising | preOperational | operational | stopped
deriving DecidableEq, Repr

/-- `LaneState` (Table 10.3). -/
inductive LaneState where
  | off | joining | member | duplicate
deriving DecidableEq, Repr

/-- `SrcState` (Table 11.2). -/
inductive SrcState where
  | clear | active | severe | quiet
deriving DecidableEq, Repr

/-- The kind of an event (R353). -/
inductive EventKind where
  | raised | forced | echo
deriving DecidableEq, Repr

/-- `TwinState` (Table 13.4). -/
inductive TwinState where
  | single | starting | owner | releasing | standby
deriving DecidableEq, Repr

/-- `TwinRole` (R401). -/
inductive TwinRole where
  | single | preferred | alternate
deriving DecidableEq, Repr

/-- `LifeCycleState` (Table 14.10). -/
inductive LifeCycle where
  | blank | provisioned | deployed | service | retired
deriving DecidableEq, Repr

/-- Where the chip stands in its start (Table 14.3): reset asserted, the last boot step completed, ROM recovery
mode, or running after step 12. -/
inductive BootPhase where
  | porAsserted | flushing | rstHeld | step (n : Fin 12) | recovery | running
deriving DecidableEq, Repr

/-- `ResetCause` (Table 14.1). -/
inductive ResetCause where
  | powerOn | external | watch | reeveWatchdog | thermalRestart | lifeCycle | command
deriving DecidableEq, Repr

/-! ### Clocks, hamlets and sense channels -/

/-- Time and the reference. `us` is the ALMANAC operating time (R384) at the resolution of the 1 µs Watch evaluation. -/
structure Clock where
  us : Nat := 0
  powerCycles : Nat := 0
  laneNs : Nat := 0
  almFallback : Bool := true
  refLost : Bool := false
  resetAt : Nat := 0
deriving DecidableEq, Repr

/-- Control signals that cross the green (R19); `start` and `stop` are commands to the sequencer. [DEDUCED, log 14] -/
inductive Signal where
  | interrupt (source : Fin 256)
  | trap (source : Fin 256)
  | kill (r : Fin 16)
  | start
  | stop
deriving DecidableEq, Repr

/-- A packet in a stile's queue towards its hamlet (R15). -/
inductive Packet where
  | request (id : Nat)
  | signal (g : Signal)
deriving DecidableEq, Repr

/-- A hamlet: the bits of `HamletStatus` (Table 1.5) and its stile (R15): the queues towards the hamlet and towards the
green, at most 16 packets each, and the packets that the hamlet has not yet written whole. [DESIGN CHOICE, log 16] -/
structure Hamlet where
  wakes : Nat := 0
  closed : Bool := false
  blkrst : Bool := false
  realign : Bool := false
  parked : Bool := false
  waking : Bool := false
  run : Bool := false
  inbox : List Packet := []
  outbox : List (Fin 27 × Packet) := []
  unsent : List (Fin 27 × Packet) := []
deriving DecidableEq, Repr

/-- The green (R25, R26): the stile that round-robin service looks at next, and the hamlets in whose names the
memory-port lock and a green lock are held. [DESIGN CHOICE, log 108] -/
structure Green where
  turn : Fin 27 := 0
  memLock : Option (Fin 27) := none
  greenLock : Option (Fin 27) := none
deriving DecidableEq, Repr

/-- A sense or published channel (Tables 7.4, 7.5): its value, the last input at its converter in µV, when it was last
written, and its failed checks. -/
structure Chan where
  word : Word := 0
  pin : Int := 0
  writtenAt : Option Nat := none
  pilotFail : Bool := false
  rangeFail : Bool := false
  rippleFail : Bool := false
deriving DecidableEq, Repr

/-! ### The plant bus -/

/-- A rectifier port (R33 to R47): flags of `RmStatus`, pin levels and the law's integrator. -/
structure Rm where
  alarmIn : Bool := true
  alarm : Bool := false
  shareOor : Bool := false
  shareStale : Bool := false
  seqEn : Bool := false
  en : Bool := false
  trim : BitVec 16 := 0x8000
  trimDriven : Bool := false
  fallback : Bool := true
  integ : Word := 0
  writtenAt : Nat := 0
deriving DecidableEq, Repr

/-- A share-group member heard (R50). -/
structure Member where
  node : Fin 1024
  budget : Int
  demand : Int
  heardAt : Nat
deriving DecidableEq, Repr

/-- The bus state machine, taps and sharing (R40 to R62). [DESIGN CHOICE, log 20] -/
structure Bus where
  state : BusState := .onSource
  since : Nat := 0
  handovers : Nat := 0
  tapOk : Vector Bool 4 := Vector.replicate 4 false
  tapsJudged : Bool := false
  tapsFrom : Nat := 0
  taps : Vector (List Word) 4 := Vector.replicate 4 []
  voltage : Word := 0
  iv : Word := 0
  fracPending : Bool := false
  plantTrim : Rat := 0
  members : List Member := []
  silent : Bool := false
  rampFrom : Rat := 0
  rampLeft : Nat := 0
  triggerDemand : Int := 0
  triggerBudget : Int := 0
  fallTime : Nat := 0
deriving DecidableEq, Repr

/-- The well (R52 to R56); energies in J. -/
structure Well where
  busJ : Rat := 0
  stringJ : Rat := 0
  largestJ : Rat := 0
  runs : Nat := 0
  load : Rat := 0
  stale : Bool := false
  capLow : Bool := false
  noString : Bool := false
  capMeasured : Nat := 0
  useMeasured : Bool := false
  published : Nat := 0
  publishedBus : Nat := 0
  publishedString : Nat := 0
  publishedLessOne : Nat := 0
  rideNow : Nat := 0xFFFFFFFF
  rideDesign : Nat := 0xFFFFFFFF
deriving DecidableEq, Repr

/-- A capping plan: the stage levels and sheds of R65. -/
structure Plan where
  chargeLimit : Option Int := none
  vcLevel : Nat := 10000
  doorLevel : Nat := 10000
  sheds : List (Fin 8) := []
  stage : Nat := 0
deriving DecidableEq, Repr

/-- Capping (R63 to R69). -/
structure Cap where
  budget : Int := 0
  demand : Int := 0
  demandBefore : Int := 0
  stage : Nat := 0
  chargeLimit : Option Int := none
  vcLevel : Nat := 10000
  doorLevel : Nat := 10000
  sequence : BitVec 16 := 0
  shed : List (Fin 8) := []
  plan : Plan := {}
  awaitReeval : Bool := false
deriving DecidableEq, Repr

/-! ### Phases, rails and VC ports -/

/-- A phase port (R71 to R76): pins, latched flags, duty and the law's words. -/
structure Phase where
  duty : Word := 0
  dutyNext : Option Word := none
  offset : BitVec 16 := 0
  offsetNext : Option (BitVec 16) := none
  offsetForced : Bool := false
  enabled : Bool := false
  drven : Bool := false
  highEnded : Bool := false
  lowEnded : Bool := false
  dropped : Bool := false
  cause : DropCause := .none
  pendingCause : DropCause := .none
  peakAt : Option Nat := none
  kill : Bool := false
  bal : Word := 0
  integ : Word := 0
  rampFrom : Word := 0
  rampLeft : Nat := 0
deriving DecidableEq, Repr

/-- The compensator's words of RAILLOOP (R89). -/
structure LoopState where
  x1 : Word := 0
  x1p : Word := 0
  x2 : Word := 0
  x2p : Word := 0
  uv : Word := 0
  ui : Word := 0
  e1 : Word := 0
  held : Bool := false
deriving DecidableEq, Repr

/-- A rail (R77 to R98, R116): state, flags, reference and command. [DEDUCED, log 34] -/
structure Rail where
  state : RailState := .off
  ref : Int := 0
  command : Int := 0
  target : Int := 0
  vcHolds : Bool := false
  vcSlew : Option Nat := none
  slope : Rat := 0
  since : Nat := 0
  quiet : Nat := 0
  settled : Nat := 0
  rampOver : Nat := 0
  icmd : Word := 0
  prebias : Bool := false
  killed : Bool := false
  fbLost : Bool := false
  syncLock : Bool := false
  syncLost : Bool := false
  syncStarted : Bool := false
  capReq : Bool := false
  iLim : Bool := false
  dutyLim : Bool := false
  stale : Bool := false
  capLevel : Nat := 10000
  period : Nat := 0
  periodNext : Option Nat := none
  edgeDelay : Option Nat := none
  edgeEvery : Nat := 1
  vcErrors : Nat := 0
  loop : LoopState := {}
  syncRises : Nat := 0
  syncFreq : Nat := 0
  syncNext : Nat := 0
  margin : Int := 0
  syncSeen : Bool := false
deriving DecidableEq, Repr

/-- What `SYNCOUT` carries (R83): pulses of a rail, high for some of the steps of its period, `SYNCIN`, or a low level. -/
inductive SyncOut where
  | pulses (r : Fin 16) (high period : Nat)
  | buffer
  | low
deriving DecidableEq, Repr

/-- A queued completion of a VC port (R104). -/
structure VcDone where
  tag : BitVec 6
  code : BitVec 8
deriving DecidableEq, Repr

/-- A response a load has not yet read (R100, R101). -/
structure VcResponse where
  word : BitVec 16
  data : Option (BitVec 16)
  crc : BitVec 8
deriving DecidableEq, Repr

/-- A VC port (R99 to R108). -/
structure Vc where
  queue : List VcDone := []
  inFlight : Option (BitVec 6) := none
  response : Option VcResponse := none
  accepts : Nat := 0
  level : Nat := 10000
  levelPending : Bool := false
deriving DecidableEq, Repr

/-! ### Battery strings -/

/-- The pulse pattern in progress on `BSn_SW` (Table 4.2). -/
inductive ShipPattern where
  | none | set | clear
deriving DecidableEq, Repr

/-- A battery string (R119 to R159): state, flags, switch, estimator and charge words. -/
structure Str where
  state : StrState := .unfitted
  sw : Bool := false
  shipLatch : Bool := false
  pattern : ShipPattern := .none
  closed : Bool := false
  seqWaits : Bool := false
  frozen : Bool := false
  lowConf : Bool := false
  estOld : Bool := false
  wdFallback : Bool := false
  ntcFail : Bool := false
  learnRej : Bool := false
  overV : Bool := false
  resting : Bool := false
  phase : ChargePhase := .none
  xv : Word := 0
  cmd : Word := 0
  ich : Word := 0
  retryAt : Option Nat := none
deriving DecidableEq, Repr

/-- The estimator of a string (R140 to R147); charge and throughput in mAh, resistance in µΩ. [DEDUCED, log 42] -/
structure Est where
  charge : Rat := 0
  capacity : Nat := 0
  resistance : Rat := 0
  anchorAt : Option Nat := none
  anchorCycle : Nat := 0
  anchorSoc : Nat := 0
  anchorBad : Bool := true
  anchored : Bool := false
  dq : Rat := 0
  throughput : Rat := 0
  cycles : Nat := 0
  iFilt : Rat := 0
  history : List (Int × Int) := []
  soc : Nat := 0
  socAbs : Nat := 0
  usableJ : Nat := 0
  timeToShutdown : Nat := 0xFFFFFFFF
deriving DecidableEq, Repr

/-- An estimator slot entry (Table 4.7). -/
structure EstEntry where
  sequence : Nat
  timeMs : Nat
  cycle : Nat
  ship : Bool
  blocks : Vector (Option EstBlock) 4
deriving DecidableEq, Repr

/-- What an estimator slot of the NOR holds (R152, R155): the 224 data bytes of an entry (Table 4.7). -/
inductive EstSlot where
  | erased
  | torn
  | entry (data : List Byte)
deriving DecidableEq, Repr

/-- The shelf-wide battery state (R138, R148 to R159). -/
structure Batt where
  expired : Bool := false
  wdRunning : Bool := false
  wdStart : Nat := 0
  fallowString : Option (Fin 4) := none
  fallowStart : Nat := 0
  fallowChosen : Option (Fin 4) := none
  shipArm : Option (Origin × Nat) := none
  shipPending : Bool := false
  shipFlag : Bool := false
  shipBoot : Bool := false
  longOpen : Bool := false
  xb : Word := 0
  ichTot : Rat := 0
  slotWrite : Option (Fin 2 × List Byte) := none
  slotOwed : Bool := false
  lastSave : Nat := 0
deriving DecidableEq, Repr

/-! ### Power path, monitors and sequencer -/

/-- A power-path port (R163 to R185). -/
structure Pp where
  state : PpState := .off
  uvOk : Bool := false
  ovOk : Bool := false
  foff : Bool := true
  gate : BitVec 12 := 0
  pg : Bool := false
  pgDefer : Bool := false
  pgCount : Nat := 0
  pgBreak : Nat := 0
  pgSince : Option Nat := none
  limiting : Bool := false
  timer : Bool := false
  count : Nat := 0
  idle : Nat := 0
  kill : Bool := false
  rampAt : Nat := 0
  offTime : Nat := 0
  retriesLeft : Nat := 0
  trips : Nat := 0
  reverses : Nat := 0
  shedPower : Int := 0
  power : List (Nat × Int) := []
  ref : Rat := 0
  riseFrom : BitVec 12 := 0
  rise : Nat := 0
deriving DecidableEq, Repr

/-- A window monitor (R187 to R197). `uvMargin`, `ovMargin` are the margins in its thresholds (R211). -/
structure Wm where
  faultUv : Bool := false
  faultOv : Bool := false
  warnUv : Bool := false
  warnOv : Bool := false
  killed : Bool := false
  errUv : Bool := false
  errOv : Bool := false
  uvMovedAt : Option Nat := none
  ovMovedAt : Option Nat := none
  badUv : Nat := 0
  badOv : Nat := 0
  goodUv : Nat := 0
  goodOv : Nat := 0
  value : Int := 0
  filtered : Rat := 0
  uvMargin : Int := 0
  ovMargin : Int := 0
deriving DecidableEq, Repr

/-- The sequencer, rail good and PG outputs (R198 to R208). -/
structure Seq where
  state : SeqState := .off
  entry : Option Nat := none
  entryAt : Nat := 0
  condAt : Option Nat := none
  offAt : Option Nat := none
  pendingOn : Bool := false
  upComplete : Bool := false
  railReached : Vector Bool 16 := Vector.replicate 16 false
  ppReached : Vector Bool 8 := Vector.replicate 8 false
  rmReached : Vector Bool 8 := Vector.replicate 8 false
  strReached : Vector Bool 4 := Vector.replicate 4 false
  pgReached : Vector Bool 8 := Vector.replicate 8 false
  pgAsserted : Vector Bool 8 := Vector.replicate 8 false
  rawGood : Vector Bool 16 := Vector.replicate 16 false
  good : Vector Bool 16 := Vector.replicate 16 false
  transitions : Vector (List Nat) 16 := Vector.replicate 16 []
  chatter : Vector Bool 16 := Vector.replicate 16 false
  pgOut : Vector Bool 8 := Vector.replicate 8 false
deriving DecidableEq, Repr

/-! ### The mills -/

/-- A coefficient slot (R214). -/
structure Coef where
  value : Word := 0
  shift : Int := 0
deriving DecidableEq, Repr

/-- A queued mill output (R221, R230). -/
structure MillOutput where
  cls : BitVec 8
  index : BitVec 11
  value : Word
deriving DecidableEq, Repr

/-- An outstanding read (R221): the state word, the channel, value or status, and the address of its RD. -/
structure MillRead where
  pc : Nat
  dest : Fin 128
  ch : Fin 256
  status : Bool
deriving DecidableEq, Repr

/-- The trace of a mill (R243 to R246). -/
structure Trace where
  state : TraceState := .idle
  buf : Vector (List Word) 4 := Vector.replicate 4 []
  last : Vector (Option Word) 4 := Vector.replicate 4 none
  runs : Nat := 0
  post : Nat := 0
  trigPos : Nat := 0
  forced : Bool := false
  watchHit : Bool := false
  byWatch : Bool := false
deriving DecidableEq, Repr

/-- The counters and flags of a mill's status (Tables 7.15, 7.16). -/
structure MillStat where
  overruns : Nat := 0
  satCount : Nat := 0
  writeRejects : Nat := 0
  runs : BitVec 32 := 0
  eventCode : BitVec 8 := 0
  eventValue : Word := 0
  stopPc : BitVec 16 := 0xFFFF
  illegal : Bool := false
  runLimit : Bool := false
  hbLost : Bool := false
  overrunAt : Option Nat := none
  overrunEventAt : Option Nat := none
  satAt : Option Nat := none
  wrejAt : Option Nat := none
deriving DecidableEq, Repr

/-- A mill (R214 to R238). -/
structure Mill where
  state : MillState := .idle
  program : List (BitVec 48) := []
  bankA : Vector Coef 256 := Vector.replicate 256 {}
  bankB : Vector Coef 256 := Vector.replicate 256 {}
  activeB : Bool := false
  bankPend : Bool := false
  staged : Bool := false
  switchAtEnd : Bool := false
  words : Vector Word 128 := Vector.replicate 128 0
  acc : Acc := 0
  z : Bool := false
  n : Bool := false
  v : Bool := false
  pc : Nat := 0
  running : Option (Fin 4) := none
  reads : List MillRead := []
  outQueue : List MillOutput := []
  slots : Vector Bool 4 := Vector.replicate 4 false
  due : Vector Nat 4 := Vector.replicate 4 0
  outs : Vector Word 16 := Vector.replicate 16 0
  stat : MillStat := {}
  trace : Trace := {}
deriving DecidableEq, Repr

/-! ### The market and hampers -/

/-- Where the answer of a request goes (R298, R301, R310, R320, R347). -/
inductive Reply where
  | own
  | usdo (c : Fin 2) (segmented : Bool)
  | rpdo (c : Fin 2)
  | tw (seq : BitVec 8)
  | svc (cmd : BitVec 8) (tag : BitVec 16)
  | svcCopy (tag : BitVec 16) (length : Nat)
  | od (node : Fin 1024) (op : OdOp) (tag : BitVec 16)
  | odCopy (node : Fin 1024) (tag : BitVec 16) (length : Nat)
deriving DecidableEq, Repr

/-- A request held by the market (R256 to R265): its data is `none` for a read. `dispatched`: sent to its hamlet;
`taken`: the hamlet has taken it; `held`: it has begun and completes with a hamper (R261, R276). -/
structure Req where
  id : Nat
  origin : Origin
  k : Key
  data : Option (List Byte)
  reply : Reply
  dispatched : Bool := false
  taken : Bool := false
  held : Bool := false
  admitted : Nat := 0
deriving DecidableEq, Repr

/-- A completion (R259): the status, and the value of a read that completed OK. -/
structure Done where
  id : Nat
  origin : Origin
  k : Key
  write : Bool
  status : Status
  value : List Byte := []
deriving DecidableEq, Repr

/-- The market (R256 to R270). `nextId` numbers the requests in order of admission; `offered` waits at the stile while
the market is closed (R17). [DESIGN CHOICE, log 4] -/
structure Market where
  reqs : List Req := []
  offered : List Req := []
  nextId : Nat := 0
  peak : Nat := 0
  busyCount : Nat := 0
  fences : List (Origin × Key) := []
  originFences : List Origin := []
  done : List Done := []
deriving DecidableEq, Repr

/-- `HamperResult` (Table 8.9). -/
structure Result where
  status : Status := .ok
  detail : Detail := .none
  node : Nat := 0
  pos : Nat := 0
deriving DecidableEq, Repr

/-- How a hamper was committed (Table 8.7). -/
inductive CommitMode where
  | none
  | commit
  | commitAt
  | coordinator
  | participant
deriving DecidableEq, Repr

/-- A hamper (R271 to R289). -/
structure Hamper where
  handle : Nat
  origin : Origin
  state : HamperState := .opened
  writes : List (Key × Val) := []
  spoiled : Option (Status × Nat) := none
  result : Result := {}
  applyTime : List Byte := []
  nodes : List Byte := []
  missing : List (Fin 1024) := []
  mode : CommitMode := .none
  req : Option Nat := none
  join : Option (Fin 1024 × BitVec 8) := none
  votes : List (Fin 1024) := []
  armedNodes : List (Fin 1024) := []
  appliedNodes : List (Fin 1024) := []
  t : Nat := 0
  admittedAt : Nat := 0
  go : Bool := false
  decision : Option Bool := none
  armedSent : Bool := false
  order : Nat := 0
  deadline : Nat := 0
deriving DecidableEq, Repr

/-- An item that waits for its apply instant, in the order of admission (R261, R280, R419, R442). -/
inductive Item where
  | hamper (handle : Nat) (valid : Bool)
  | implicit (o : Origin) (id : Nat) (k : Key) (v : Val)
  | mirror (seq : BitVec 32) (full : Bool) (items : List MirrorItem)
  | store
  | exercise
deriving DecidableEq, Repr

/-- The hamper system: the hampers given, the last handle, `HamperStage` of each origin that holds one, the
items that wait for an apply instant, and the HAMPER frames sent. -/
structure Hampers where
  list : List Hamper := []
  lastHandle : Nat := 0
  stage : List (Origin × Nat) := []
  queue : List Item := []
  derive : Bool := false
  applied : Bool := false
deriving DecidableEq, Repr

/-! ### The host ports -/

/-- An EMCY message (Table 9.2). -/
structure Emcy where
  code : BitVec 16
  register : BitVec 8
  source : Fin 256
  transition : BitVec 8
  record : BitVec 24
deriving DecidableEq, Repr

/-- A USDO session (R297): the gathered data of a write, or what is left of the copy of a read. -/
structure UsdoSession where
  write : Bool
  k : Key
  data : List Byte
  ready : Bool := true
deriving DecidableEq, Repr

/-- A CAN message sent (R294). -/
inductive CanTx where
  | bootUp (node : Nat)
  | heartbeat (node : Nat) (state : NmtState)
  | emcy (e : Emcy)
  | tpdo (k : Fin 16) (data : List Byte)
  | usdoData (k : Key) (data : List Byte)
  | usdoInit (k : Key) (size : Nat)
  | usdoNext (k : Key)
  | usdoOk (k : Key)
  | usdoAbort (k : Key) (code : BitVec 32)
deriving DecidableEq, Repr

/-- A CAN line (R291 to R305). -/
structure CanLine where
  errPassive : Bool := false
  busOff : Bool := false
  recovering : Bool := false
  hbTimedOut : Vector Bool 4 := Vector.replicate 4 false
  emcyQ : List Emcy := []
  emcyDropAt : Option Nat := none
  emcySentAt : Option Nat := none
  usdo : Option UsdoSession := none
deriving DecidableEq, Repr

/-- A TPDO (R300). -/
structure Tpdo where
  values : Option (List Byte) := none
  syncs : Nat := 0
  sentAt : Option Nat := none
  delayed : Bool := false
  started : Bool := false
deriving DecidableEq, Repr

/-- An RPDO (R292, R301, R302): a synchronous frame that waits for SYNC, and the frames that each line brought within the
last 1 ms, with the last one, newest first. -/
structure Rpdo where
  waiting : Option (Fin 2 × List Byte) := none
  heard : Vector (List (Nat × List Byte)) 2 := Vector.replicate 2 []
deriving DecidableEq, Repr

/-- The CAN FD ports. [DESIGN CHOICE, log 4] -/
structure Can where
  lines : Vector CanLine 2 := Vector.replicate 2 {}
  nmt : NmtState := .initialising
  nodeId : Nat := 127
  emcyLost : Nat := 0
  rpdoStale : BitVec 16 := 0
  rpdoRejects : Nat := 0
  rpdos : Vector Rpdo 16 := Vector.replicate 16 {}
  tpdos : Vector Tpdo 16 := Vector.replicate 16 {}
  tx : List (Fin 2 × CanTx) := []
deriving DecidableEq, Repr

/-- A result held by the two-wire port (R313). -/
structure TwResult where
  seq : BitVec 8
  status : BitVec 8
  data : List Byte
  at_ : Nat := 0
deriving DecidableEq, Repr

/-- An executed WRITE kept for duplicates (R315). -/
structure TwDup where
  seq : BitVec 8
  k : Key
  len : Nat
  data : List Byte
  at_ : Nat
deriving DecidableEq, Repr

/-- The two-wire port (R307 to R317). `waitIdle` says it waits for a STOP or both lines high (R317).
[DESIGN CHOICE, log 4] -/
structure TwoWire where
  strapCode : Nat := 0
  waitIdle : Bool := false
  results : List TwResult := []
  history : List TwDup := []
  dupAt : Option Nat := none
  pecAt : Option Nat := none
  sclAt : Option Nat := none
  sdaAt : Option Nat := none
  pecErrors : Nat := 0
  resultsLost : Nat := 0
  answers : List (TwResult × BitVec 8) := []
deriving DecidableEq, Repr

/-- A service response frame (Table 9.11): CMD without bit 7, TAG, LAST and the payload, its status first. -/
structure SvcTx where
  cmd : BitVec 8
  tag : BitVec 16
  status : BitVec 8
  data : List Byte := []
  last : Bool := true
  crc : BitVec 32 := 0
deriving DecidableEq, Repr

/-- An open transfer in pieces (R320, R347): the whole copy or the data gathered, and the next offset. -/
structure Transfer where
  k : Key
  data : List Byte
  next : Nat
deriving DecidableEq, Repr

/-- The service port (R318 to R321). [DESIGN CHOICE, log 4] -/
structure Svc where
  up : Bool := false
  rate : Nat := 115200
  newRate : Option Nat := none
  proving : Bool := false
  crcErrors : Nat := 0
  linkDrops : Nat := 0
  reader : Option Transfer := none
  writer : Option Transfer := none
  tx : List SvcTx := []
deriving DecidableEq, Repr

/-- `UpdateState` (Table 14.12). -/
inductive UpdateState where
  | idle | erasing | receiving | ended | abandoned
deriving DecidableEq, Repr

/-- The firmware update (R438, R439); `pieces` are those being programmed, with their tags. -/
structure Update where
  state : UpdateState := .idle
  slot : Fin 2 := 0
  tag : BitVec 16 := 0
  length : Nat := 0
  received : Nat := 0
  pieces : List (BitVec 16 × List Byte) := []
  lastAt : Nat := 0
  restartAt : Option Nat := none
deriving DecidableEq, Repr

/-- The LIFECYCLE command (R446, R448): the nonce in force with its time, and the transition accepted. -/
structure LcCommand where
  nonce : Option (List Byte × Nat) := none
  accepted : Option LifeCycle := none
deriving DecidableEq, Repr

/-! ### The Lane -/

/-- A frame that leaves by a Lane port, whole or ended with K30.7 (R335 to R338). -/
inductive LaneTx where
  | frame (p : LanePort) (f : LaneFrame)
  | broken (p : LanePort) (f : LaneFrame)
deriving DecidableEq, Repr

/-- A Lane port (R323 to R333). -/
structure LaneLink where
  up : Bool := false
  farRxOk : Bool := false
  miswire : Bool := false
  delay : Nat := 0
  crcErrors : BitVec 32 := 0
  linkDowns : Nat := 0
  t1 : Option Nat := none
  upstream : Option TsyncFrame := none
  upstreamAt : Nat := 0
deriving DecidableEq, Repr

/-- A node heard (R337, R340, R341, R343): when last, its last ROLL and the hops to it by each port. -/
structure LaneNode where
  node : Fin 1024
  heardAt : Nat
  heard : Bool := true
  roll : Option (RollFrame × Nat) := none
  hopsA : Option Nat := none
  hopsB : Option Nat := none
deriving DecidableEq, Repr

/-- The SEQ values delivered of a source and class (R334). -/
structure SeqHistory where
  src : BitVec 11
  cls : BitVec 4
  seqs : List (BitVec 16)
deriving DecidableEq, Repr

/-- An ALM fetch taken (R348): its node, tag, minimum severity, the next number asked for and how many are left. -/
structure AlmServe where
  node : Fin 1024
  tag : BitVec 16
  minSeverity : Nat
  first : Nat
  left : Nat
deriving DecidableEq, Repr

/-- A transfer that a requesting node holds open here, with the time of its last piece (R347). -/
structure OdTransfer where
  node : Fin 1024
  t : Transfer
  at_ : Nat := 0
deriving DecidableEq, Repr

/-- The Lane (R323 to R348). `wrap` names the port whose frames go out by the other one; `ring` is the length of an
unbroken ring, learned from the node's own ROLL, and `turnedAt` the time of the last change that wrapping or unwrapping
makes to it (R337); `joinedAt` the time from which JOINING has seen no conflict (R339), `syncedAt` that of the last TSYNC
of the upstream and `holdoverAt` the entry to HOLDOVER (R345); `fetches` are the ALM fetches taken, the first in service (R348). [DESIGN CHOICE, log 4] -/
structure Lane where
  state : LaneState := .off
  linkA : LaneLink := {}
  linkB : LaneLink := {}
  wrap : Option LanePort := none
  ring : Option Nat := none
  turnedAt : Option Nat := none
  nodeIdNow : Nat := 1023
  dupId : Bool := false
  nodes : List LaneNode := []
  seqs : Vector (BitVec 16) 16 := Vector.replicate 16 0
  history : List SeqHistory := []
  master : Option Nat := none
  hops : Nat := 0
  epoch : BitVec 8 := 0
  epochAt : Option Nat := none
  tvalid : Bool := false
  holdover : Bool := false
  lockCount : Nat := 0
  timeWritten : Bool := false
  slew : Int := 0
  memberSince : Option Nat := none
  joinedAt : Option Nat := none
  syncedAt : Option Nat := none
  holdoverAt : Option Nat := none
  readers : List OdTransfer := []
  writers : List OdTransfer := []
  fetches : List AlmServe := []
  delivered : List LaneFrame := []
  tx : List LaneTx := []
deriving DecidableEq, Repr

/-- A gateway request in flight (R349); `head` is the first seven bytes of its payload, `at_` the time it was sent or last
answered. -/
structure GwReq where
  node : Fin 1024
  alm : Bool
  tag : BitVec 16
  head : List Byte
  at_ : Nat := 0
deriving DecidableEq, Repr

/-- A response that the gateway holds, with the time it came (R349). -/
structure GwResult where
  data : List Byte
  at_ : Nat
deriving DecidableEq, Repr

/-- The gateway (R349). -/
structure Gateway where
  waiting : List GwReq := []
  results : List GwResult := []
  lost : Nat := 0
deriving DecidableEq, Repr

/-! ### The Watch, the supervisor and the die sensors -/

/-- An event (R353). -/
structure Event where
  src : Fin 256
  code : BitVec 8
  value : Int
  kind : EventKind := .raised
deriving DecidableEq, Repr

/-- A Watch source (R355, R356): the times of its last events, newest first, in ms. -/
structure Src where
  state : SrcState := .clear
  times : List Nat := []
  recoveries : Nat := 0
  events : BitVec 32 := 0
  lastCode : BitVec 8 := 0
  lastValue : Int := 0
deriving DecidableEq, Repr

/-- The Watch (R352 to R368); `supplyOut` holds the supply channels that lie outside their windows (R368). -/
structure Watch where
  srcs : Vector Src 256 := Vector.replicate 256 {}
  arrived : List Event := []
  lastSource : Fin 256 := 0
  revocations : Nat := 0
  corrected : BitVec 32 := 0
  memCorrected : Vector (BitVec 32) 5 := Vector.replicate 5 0
  supplyOut : List (Fin 256) := []
  safe : Bool := false
deriving DecidableEq, Repr

/-- The Reeve (R24, R357): interrupts and traps raised, oldest first; halted in reset, recovery and the safe state. -/
structure Reeve where
  interrupts : List (Fin 256) := []
  traps : List (Fin 256) := []
  halted : Bool := true
  watchdog : Bool := false
deriving DecidableEq, Repr

/-- A die sensor (R372, R373): its last 1,024 reads, newest first, the last raw count and how often it has repeated. -/
structure Die where
  reads : List Int := []
  raw : Option Nat := none
  same : Nat := 0
  broken : Bool := false
  warned : Bool := false
deriving DecidableEq, Repr

/-- The thermal protection (R372 to R378). `window` is none while the condition of the orderly stop does not hold, and
else says whether `ThermPredict` was at least 50 ms at its first read (R377). -/
structure Therm where
  dies : Vector Die 12 := Vector.replicate 12 {}
  hottest : Int := 0
  hottestAt : Fin 12 := 0
  slope : Int := 0
  predict : Nat := 0xFFFFFFFF
  overCount : Nat := 0
  coolCount : Nat := 0
  window : Option Bool := none
  stopping : Bool := false
  shutdown : Bool := false
  recording : Bool := false
deriving DecidableEq, Repr

/-! ### The Almanac -/

/-- A snapshot entry (Table 12.3). -/
structure Snap where
  index : Nat := 0
  sub : Nat := 0
  type : BitVec 8 := 0
  value : BitVec 32 := 0
deriving DecidableEq, Repr

/-- The event-kind bits of a record's flags (Table 12.1). [DEDUCED, log 112] -/
inductive RecordKind where
  | event (k : EventKind)
  | log | gap | mark | close | checkpoint | damaged
deriving DecidableEq, Repr

/-- A record (Tables 12.1 to 12.3). -/
structure Record where
  kind : RecordKind
  severity : Fin 4
  source : Fin 256
  code : BitVec 8
  seq : Option Nat := none
  loss : Bool := false
  reserve : Bool := false
  recovery : Bool := false
  timeMs : Nat := 0
  cycle : Nat := 0
  repeats : Nat := 0
  lastRepeat : Nat := 0
  lifeCycle : Nat := 0
  entries : List Snap := []
  value : Int := 0
  node : Nat := 0xFFFF
  twin : BitVec 3 := 0
deriving DecidableEq, Repr

/-- A sector of the Almanac region (R390), with what its header says of the time of its opening (Table 12.5). -/
structure Sector where
  place : Nat
  opening : Nat
  timeMs : Nat := 0
  cycle : Nat := 0
  lifeCycle : Nat := 0
  plain : Bool := false
  records : List Record := []
  closed : Bool := false
deriving DecidableEq, Repr

/-- A region (R390, R391): its sectors in opening order, the erased successors in the order in which they will be
opened, the sector being erased, and how many sectors were ever taken. -/
structure Region where
  sectors : List Sector := []
  ready : List Nat := []
  erasing : Option Nat := none
  touched : Nat := 0
  openings : Nat := 0
deriving DecidableEq, Repr

/-- `AlmExportState` (Table 12.6). -/
inductive ExpState where
  | none | ready | receipted
deriving DecidableEq, Repr

/-- The frozen stream (R397 to R399). -/
structure Frozen where
  state : ExpState := .none
  records : List Record := []
  startMs : Nat := 0
  startCycle : Nat := 0
  severe : Bool := false
deriving DecidableEq, Repr

/-- The Almanac (R382 to R400); `held` says that the newest record of the buffer is held (R388), and `checkpointAt` the
operating time of the last CHECKPOINT in ms (R384). -/
structure Alm where
  buffer : List Record := []
  held : Bool := false
  next : Option Nat := none
  lastMark : Option Nat := none
  direct : Bool := false
  dropped : BitVec 32 := 0
  lost : BitVec 32 := 0
  lossFlag : Bool := false
  checkpointAt : Nat := 0
  main : Region := {}
  reserve : Region := {}
  frozen : Frozen := {}
deriving DecidableEq, Repr

/-! ### The twin port -/

/-- A frame that leaves on the twin port (Table 13.1). -/
inductive TwinTx where
  | state (role state : Nat) (healthy ready ret : Bool) (heartbeat laneTime sequence : Nat)
  | mirror (seq : BitVec 32) (full : Bool) (items : List MirrorItem)
  | track (duties : List Word) (trims : List (BitVec 16)) (commands : List Word)
  | resync
deriving DecidableEq, Repr

/-- The twin port and the ownership lines (R401 to R424): `returnSince` is the start of the hold-off of R423, `beatAt` the
time of the last new heartbeat of the partner (R412), `releasedAt` that of the release and `ownInAt` that of the last rise
of `OWN_IN` (R408). [DESIGN CHOICE, log 4; DEDUCED, log 112] -/
structure Twin where
  role : TwinRole := .single
  state : TwinState := .single
  ownOut : Bool := false
  ownIn : Bool := false
  link : Bool := false
  takeovers : Nat := 0
  lastCause : Nat := 0
  lastGap : Nat := 0
  partner : Option TwinFrame := none
  partnerSeq : Nat := 0
  mirrorSeqOut : BitVec 32 := 0
  mirrorSeqIn : Option (BitVec 32) := none
  mirrorAt : Option Nat := none
  stale : Bool := false
  ready : Bool := false
  changed : List Key := []
  healthySince : Option Nat := none
  returnSince : Option Nat := none
  beatAt : Nat := 0
  releasedAt : Option Nat := none
  ownInAt : Option Nat := none
  ret : Bool := false
  yieldAt : Option Nat := none
  holding : Bool := false
  lockstep : Bool := false
  heartbeat : BitVec 32 := 0
  track : Option TrackFrame := none
  tx : List TwinTx := []
deriving DecidableEq, Repr

/-! ### Start, fuses and the NOR flash -/

/-- `ParamStoreState` (Table 14.12). -/
inductive StoreState where
  | idle | running | done | failed
deriving DecidableEq, Repr

/-- The boot and the parameter set in force (R426 to R443); `timer` counts the µs of a boot; `completedAt` is the time at which the boot step table
completed (Table 13.4). -/
structure Boot where
  phase : BootPhase := .porAsserted
  cause : ResetCause := .powerOn
  rstLow : Bool := false
  timer : Nat := 0
  bootTime : Nat := 0
  slot : Fin 2 := 0
  firstFailed : Option (Fin 2 × ImageStatus) := none
  status : Vector ImageStatus 2 := Vector.replicate 2 .notChecked
  gens : Vector Nat 2 := Vector.replicate 2 0xFFFFFFFF
  setInForce : Option (Fin 2) := none
  generation : Nat := 0
  loadResult : Result := {}
  rejected : Nat := 0
  bodySize : Nat := 0
  noAutoStart : Bool := false
  completedAt : Nat := 0
  store : StoreState := .idle
deriving DecidableEq, Repr

/-- The fuses (R445). [DESIGN CHOICE, log 6] -/
structure Fuses where
  p : Bool := true
  d : Bool := true
  x : Bool := false
  service : Nat := 0
  serial : List Byte := List.replicate 8 0
  grade : Nat := 1
  keyHash : List Byte := List.replicate 32 0
deriving DecidableEq, Repr

/-- An image slot (R435): the bytes programmed from its start on; what follows them is erased. [DESIGN CHOICE, log 6] -/
structure Image where
  bytes : List Byte := []
deriving DecidableEq, Repr

/-- A parameter set region (R440): the data bytes of the header, of the body and of the two marker codewords as they
correct, each empty where it is erased or does not correct. [DESIGN CHOICE, log 6] -/
structure ParamRegion where
  header : List Byte := []
  body : List Byte := []
  marker : List Byte := []
deriving DecidableEq, Repr

/-- A trace dump slot (R246). -/
structure Dump where
  mill : Fin 16
  channels : List (List Word)
  data : List Byte
deriving DecidableEq, Repr

/-- The NOR flash (R432 to R434): the size, lines and clock discovered, and the regions: the 128 data bytes of each
directory copy (empty where it is erased or does not correct), `AssetTag`, the estimator slots, the image slots, the
parameter sets and the trace dumps. `eraseDue`: the erase of a retirement was cut off (R448). [DESIGN CHOICE, log 6] -/
structure Nor where
  size : Nat := 0
  ioMode : Nat := 0
  clock : Nat := 0
  directory : Vector (List Byte) 2 := Vector.replicate 2 []
  assetTag : List Byte := []
  slots : Vector EstSlot 2 := Vector.replicate 2 .erased
  images : Vector Image 2 := Vector.replicate 2 {}
  params : Vector ParamRegion 2 := Vector.replicate 2 {}
  dumps : Vector (Option Dump) 15 := Vector.replicate 15 none
  dumpNext : Nat := 0
  eraseDue : Bool := false
deriving DecidableEq, Repr

/-- The test port (R455): its instruction register, BYPASS after a test-logic reset, and the boundary register, whose cells
3b, 3b + 1 and 3b + 2 are the input, output and control cells of digital signal ball b. [DEDUCED, log 146] -/
structure TestPort where
  ir : BitVec 4 := 0xF
  cells : BitVec 570 := 0
deriving DecidableEq, Repr

/-! ### The whole -/

/-- Everything the spec gives Ulvia. `od` holds the objects whose value in force differs from the default, keys
rising. `fresh` is the model's own counter for free values that are new each time. [DESIGN CHOICE, log 5] -/
structure Chip where
  clock : Clock := {}
  hamlets : Vector Hamlet 27 := Vector.replicate 27 {}
  green : Green := {}
  chans : Vector Chan 256 := Vector.replicate 256 {}
  rms : Vector Rm 8 := Vector.replicate 8 {}
  bus : Bus := {}
  well : Well := {}
  cap : Cap := {}
  phases : Vector Phase 32 := Vector.replicate 32 {}
  rails : Vector Rail 16 := Vector.replicate 16 {}
  vcs : Vector Vc 4 := Vector.replicate 4 {}
  strs : Vector Str 4 := Vector.replicate 4 {}
  ests : Vector Est 4 := Vector.replicate 4 {}
  batt : Batt := {}
  pps : Vector Pp 8 := Vector.replicate 8 {}
  wms : Vector Wm 64 := Vector.replicate 64 {}
  seq : Seq := {}
  mills : Vector Mill 16 := Vector.replicate 16 {}
  market : Market := {}
  hampers : Hampers := {}
  can : Can := {}
  tw : TwoWire := {}
  svc : Svc := {}
  update : Update := {}
  lc : LcCommand := {}
  lane : Lane := {}
  gw : Gateway := {}
  watch : Watch := {}
  reeve : Reeve := {}
  therm : Therm := {}
  alm : Alm := {}
  twin : Twin := {}
  boot : Boot := {}
  fuses : Fuses := {}
  nor : Nor := {}
  test : TestPort := {}
  od : List (Key × Val) := []
  fresh : Nat := 0
deriving DecidableEq, Repr

/-- The state of the machine: Ulvia, and the commands that wait, first in, first out. [DESIGN CHOICE, log 1] -/
structure State where
  chip : Chip := {}
  pending : List Instr := []
deriving DecidableEq, Repr

/-- The machine with power-on reset asserted (R426, R429): every field at its default, no command waiting.
[DESIGN CHOICE, log 5, 6] -/
def State.reset : State := {}

end Sys2Proof.Machine
end

