-- ==== Sys2Proof/Machine/Objects.lean ====
section
/-! DEFINITION. The object dictionary: every object table of the spec, row by row, with its type, access class,
default, range and persistence (R250 to R253, R470, R471, R473), and the keys by name. -/

namespace Sys2Proof.Machine

/-- Data types (Table 8.1). -/
inductive ObjType where
  | bool | u8 | u16 | u32 | i16 | i32 | str | dom
deriving DecidableEq, Repr

/-- Access classes (R252). -/
inductive Access where
  | ro | rw | wo | const | hmp
deriving DecidableEq, Repr

/-- How an object is kept (R253). -/
inductive Persist where
  | stored | volatile | slot | other
deriving DecidableEq, Repr

/-- Range checks that a rule states beside the spans and reserved bits (R208, R276). -/
inductive RangeCheck where
  | none | pgFollow | hamperCommand
deriving DecidableEq, Repr

/-- A row of an object table: indexes `base`, `base + stride`, … (`count` of them), sub-indices `sub` to `last`. -/
structure Obj where
  name : String
  base : Nat
  stride : Nat := 1
  count : Nat := 1
  sub : Nat
  last : Nat
  type : ObjType
  access : Access
  dflt : Val := .num 0
  spans : List (Int × Int) := []
  mask : Option Nat := none
  check : RangeCheck := .none
  lens : Nat × Nat := (0, 0)
  pers : Persist := .other
deriving DecidableEq, Repr

/-- The default of `TwinGiveUpMap` (Table 13.6): sources 144–171, 192–219, 221, 223, 225–229, 245, 246. -/
def giveUpDefault : List Byte :=
  List.replicate 18 0 ++ [0xFF, 0xFF, 0xFF, 0x0F, 0, 0, 0xFF, 0xFF, 0xFF, 0xAF, 0x3E, 0, 0x60, 0]

/-! ### Keys, by name -/

def kHamletStatusCount : Key := key 0x2640 0
def kHamletStatus (j : Nat) : Key := key 0x2640 (1 + j)
def kHamletParkMask : Key := key 0x2641 0
def kGreenLatencyCount : Key := key 0x2642 0
def kGreenSenseToMill : Key := key 0x2642 1
def kGreenMillToPwm : Key := key 0x2642 2
def kGreenMarketToMill : Key := key 0x2642 3
def kGreenMarketToReeve : Key := key 0x2642 4
def kGreenOccupancy : Key := key 0x2642 5
def kRmCount (i : Nat) : Key := key (0x2d00 + 0x10 * i) 0
def kRmFitted (i : Nat) : Key := key (0x2d00 + 0x10 * i) 1
def kRmEnableCmd (i : Nat) : Key := key (0x2d00 + 0x10 * i) 2
def kRmRatedPower (i : Nat) : Key := key (0x2d00 + 0x10 * i) 3
def kRmShareScale (i : Nat) : Key := key (0x2d00 + 0x10 * i) 4
def kRmTrimNeutral (i : Nat) : Key := key (0x2d00 + 0x10 * i) 5
def kRmTrimGain (i : Nat) : Key := key (0x2d00 + 0x10 * i) 6
def kRmTrimMin (i : Nat) : Key := key (0x2d00 + 0x10 * i) 7
def kRmTrimMax (i : Nat) : Key := key (0x2d00 + 0x10 * i) 8
def kRmTap (i : Nat) : Key := key (0x2d00 + 0x10 * i) 9
def kRmAlarmActiveHigh (i : Nat) : Key := key (0x2d00 + 0x10 * i) 10
def kRmCurrent (i : Nat) : Key := key (0x2d00 + 0x10 * i) 11
def kRmTrimCode (i : Nat) : Key := key (0x2d00 + 0x10 * i) 12
def kRmStatus (i : Nat) : Key := key (0x2d00 + 0x10 * i) 13
def kBusRegCount : Key := key 0x2c10 0
def kBusVoltage : Key := key 0x2c10 1
def kBusRegTap : Key := key 0x2c10 2
def kBusTarget : Key := key 0x2c10 3
def kBusTapTolerance : Key := key 0x2c10 4
def kBusTapValid : Key := key 0x2c10 5
def kBusOvLevel : Key := key 0x2c10 6
def kBusTapFitted : Key := key 0x2c10 7
def kBusShareCount : Key := key 0x2c11 0
def kBusKp : Key := key 0x2c11 1
def kBusKi : Key := key 0x2c11 2
def kShareKi : Key := key 0x2c11 3
def kBusTrimSlew : Key := key 0x2c11 4
def kBusTrimLimit : Key := key 0x2c11 5
def kPlantShareCount : Key := key 0x2c30 0
def kShareGroup : Key := key 0x2c30 1
def kShareBand : Key := key 0x2c30 2
def kPlantShareKi : Key := key 0x2c30 3
def kShareTimeout : Key := key 0x2c30 4
def kPlantTrim : Key := key 0x2c30 5
def kShareMembers : Key := key 0x2c30 6
def kWellCount : Key := key 0x2c20 0
def kWellCapacitance : Key := key 0x2c20 1
def kWellBusVmin : Key := key 0x2c20 2
def kWellConvEff : Key := key 0x2c20 3
def kWellDesignLoad : Key := key 0x2c20 4
def kWellLoadFilter : Key := key 0x2c20 5
def kWellEnergy : Key := key 0x2c20 6
def kWellBusEnergy : Key := key 0x2c20 7
def kWellStringEnergy : Key := key 0x2c20 8
def kWellEnergyLessOne : Key := key 0x2c20 9
def kWellRideNow : Key := key 0x2c20 10
def kWellRideDesign : Key := key 0x2c20 11
def kWellStatus : Key := key 0x2c20 12
def kWellCapMeasured : Key := key 0x2c20 13
def kWellCapTolerance : Key := key 0x2c20 14
def kRideThroughTarget : Key := key 0x2c20 15
def kWellFloor : Key := key 0x2c20 16
def kBusStateCount : Key := key 0x2c00 0
def kBusState : Key := key 0x2c00 1
def kHandoverCount : Key := key 0x2c00 2
def kBusStateTime : Key := key 0x2c00 3
def kHandoverCfgCount : Key := key 0x2c18 0
def kHandoverLevel : Key := key 0x2c18 1
def kHoldupLevel : Key := key 0x2c18 2
def kHandbackLevel : Key := key 0x2c18 3
def kHandoverDeglitch : Key := key 0x2c18 4
def kSourceQualTime : Key := key 0x2c18 5
def kHandbackRamp : Key := key 0x2c18 6
def kSourceMinRect : Key := key 0x2c18 7
def kRmAlarmDeglitch : Key := key 0x2c18 8
def kCapCount : Key := key 0x2c40 0
def kCapEnable : Key := key 0x2c40 1
def kCapSourceCapacity : Key := key 0x2c40 2
def kCapMargin : Key := key 0x2c40 3
def kCapChargeReserve : Key := key 0x2c40 4
def kCapVcMinLevel : Key := key 0x2c40 5
def kCapDoorMinLevel : Key := key 0x2c40 6
def kCapDoorFloor : Key := key 0x2c40 7
def kCapPdoNumber : Key := key 0x2c40 8
def kCapPdoRepeat : Key := key 0x2c40 9
def kCapRestoreHold : Key := key 0x2c40 10
def kCapBudget : Key := key 0x2c40 11
def kCapDemand : Key := key 0x2c40 12
def kCapStage : Key := key 0x2c40 13
def kCapVcLevel : Key := key 0x2c40 14
def kCapDoorLevel : Key := key 0x2c40 15
def kCapSequence : Key := key 0x2c40 16
def kCapShedMask : Key := key 0x2c40 17
def kCapShedPriority (j : Nat) : Key := key 0x2c41 (1 + j)
def kCapVcEnable (j : Nat) : Key := key 0x2c42 (1 + j)
def kHighest2C41 : Key := key 0x2c41 0
def kHighest2C42 : Key := key 0x2c42 0
def kPhCount (i : Nat) : Key := key (0x4400 + 0x10 * i) 0
def kPhCurrentScale (i : Nat) : Key := key (0x4400 + 0x10 * i) 1
def kPhPeakLimit (i : Nat) : Key := key (0x4400 + 0x10 * i) 2
def kPhKillLimit (i : Nat) : Key := key (0x4400 + 0x10 * i) 3
def kPhCurrent (i : Nat) : Key := key (0x4400 + 0x10 * i) 4
def kPhDuty (i : Nat) : Key := key (0x4400 + 0x10 * i) 5
def kPhStatus (i : Nat) : Key := key (0x4400 + 0x10 * i) 6
def kRailCfgCount (i : Nat) : Key := key (0x3000 + 0x100 * i) 0
def kRailType (i : Nat) : Key := key (0x3000 + 0x100 * i) 1
def kRailPhaseMask (i : Nat) : Key := key (0x3000 + 0x100 * i) 2
def kRailEnable (i : Nat) : Key := key (0x3000 + 0x100 * i) 3
def kRailTarget (i : Nat) : Key := key (0x3000 + 0x100 * i) 4
def kRailFsw (i : Nat) : Key := key (0x3000 + 0x100 * i) 5
def kRailSyncMode (i : Nat) : Key := key (0x3000 + 0x100 * i) 6
def kRailSyncOffset (i : Nat) : Key := key (0x3000 + 0x100 * i) 7
def kRailSyncOut (i : Nat) : Key := key (0x3000 + 0x100 * i) 8
def kRailOnDelay (i : Nat) : Key := key (0x3000 + 0x100 * i) 9
def kRailRampTime (i : Nat) : Key := key (0x3000 + 0x100 * i) 10
def kRailOffDelay (i : Nat) : Key := key (0x3000 + 0x100 * i) 11
def kRailRampDownTime (i : Nat) : Key := key (0x3000 + 0x100 * i) 12
def kRailSenseScale (i : Nat) : Key := key (0x3000 + 0x100 * i) 13
def kRailInputChannel (i : Nat) : Key := key (0x3000 + 0x100 * i) 14
def kRailDeadTime (i : Nat) : Key := key (0x3000 + 0x100 * i) 15
def kRailDutyMax (i : Nat) : Key := key (0x3000 + 0x100 * i) 16
def kRailAutoRestart (i : Nat) : Key := key (0x3000 + 0x100 * i) 17
def kRailRestartDelay (i : Nat) : Key := key (0x3000 + 0x100 * i) 18
def kRailVcPort (i : Nat) : Key := key (0x3000 + 0x100 * i) 19
def kRailVcMin (i : Nat) : Key := key (0x3000 + 0x100 * i) 20
def kRailVcMax (i : Nat) : Key := key (0x3000 + 0x100 * i) 21
def kRailVcSlew (i : Nat) : Key := key (0x3000 + 0x100 * i) 22
def kRailLoopCount (i : Nat) : Key := key (0x3001 + 0x100 * i) 0
def kRailKi (i : Nat) : Key := key (0x3001 + 0x100 * i) 1
def kRailFz1 (i : Nat) : Key := key (0x3001 + 0x100 * i) 2
def kRailFz2 (i : Nat) : Key := key (0x3001 + 0x100 * i) 3
def kRailFp1 (i : Nat) : Key := key (0x3001 + 0x100 * i) 4
def kRailFp2 (i : Nat) : Key := key (0x3001 + 0x100 * i) 5
def kRailLoadLine (i : Nat) : Key := key (0x3001 + 0x100 * i) 6
def kRailCurrentLimit (i : Nat) : Key := key (0x3001 + 0x100 * i) 7
def kRailBalanceKi (i : Nat) : Key := key (0x3001 + 0x100 * i) 8
def kRailBalanceLimit (i : Nat) : Key := key (0x3001 + 0x100 * i) 9
def kRailLimitKi (i : Nat) : Key := key (0x3001 + 0x100 * i) 10
def kRailBidirKp (i : Nat) : Key := key (0x3001 + 0x100 * i) 11
def kRailBidirKi (i : Nat) : Key := key (0x3001 + 0x100 * i) 12
def kRailStatCount (i : Nat) : Key := key (0x3002 + 0x100 * i) 0
def kRailState (i : Nat) : Key := key (0x3002 + 0x100 * i) 1
def kRailVoltage (i : Nat) : Key := key (0x3002 + 0x100 * i) 2
def kRailCurrent (i : Nat) : Key := key (0x3002 + 0x100 * i) 3
def kRailEffTarget (i : Nat) : Key := key (0x3002 + 0x100 * i) 4
def kRailStatus (i : Nat) : Key := key (0x3002 + 0x100 * i) 5
def kRailActivePhases (i : Nat) : Key := key (0x3002 + 0x100 * i) 6
def kRailLimitNow (i : Nat) : Key := key (0x3002 + 0x100 * i) 7
def kRailFswNow (i : Nat) : Key := key (0x3002 + 0x100 * i) 8
def kRailVcErrors (i : Nat) : Key := key (0x3002 + 0x100 * i) 9
def kStrCfgCount (i : Nat) : Key := key (0x4000 + 0x100 * i) 0
def kStrRail (i : Nat) : Key := key (0x4000 + 0x100 * i) 1
def kStrChemistry (i : Nat) : Key := key (0x4000 + 0x100 * i) 2
def kStrCells (i : Nat) : Key := key (0x4000 + 0x100 * i) 3
def kStrRatedCapacity (i : Nat) : Key := key (0x4000 + 0x100 * i) 4
def kStrVoltScale (i : Nat) : Key := key (0x4000 + 0x100 * i) 5
def kStrShuntScale (i : Nat) : Key := key (0x4000 + 0x100 * i) 6
def kStrNtcNominal (i : Nat) : Key := key (0x4000 + 0x100 * i) 7
def kStrNtcBeta (i : Nat) : Key := key (0x4000 + 0x100 * i) 8
def kStrShutdownVoltage (i : Nat) : Key := key (0x4000 + 0x100 * i) 9
def kStrCellVmax (i : Nat) : Key := key (0x4000 + 0x100 * i) 10
def kStrDischargeLimit (i : Nat) : Key := key (0x4000 + 0x100 * i) 11
def kStrSwFbTime (i : Nat) : Key := key (0x4000 + 0x100 * i) 12
def kStrChgCount (i : Nat) : Key := key (0x4001 + 0x100 * i) 0
def kStrChargeCurrent (i : Nat) : Key := key (0x4001 + 0x100 * i) 1
def kStrAbsorbVoltage (i : Nat) : Key := key (0x4001 + 0x100 * i) 2
def kStrFloatVoltage (i : Nat) : Key := key (0x4001 + 0x100 * i) 3
def kStrAbsorbEndCurrent (i : Nat) : Key := key (0x4001 + 0x100 * i) 4
def kStrAbsorbTimeMax (i : Nat) : Key := key (0x4001 + 0x100 * i) 5
def kStrTempComp (i : Nat) : Key := key (0x4001 + 0x100 * i) 6
def kStrTempCompEnable (i : Nat) : Key := key (0x4001 + 0x100 * i) 7
def kStrChargeTempMin (i : Nat) : Key := key (0x4001 + 0x100 * i) 8
def kStrChargeTempMax (i : Nat) : Key := key (0x4001 + 0x100 * i) 9
def kStrRebulkSoc (i : Nat) : Key := key (0x4001 + 0x100 * i) 10
def kStrChargeEff (i : Nat) : Key := key (0x4001 + 0x100 * i) 11
def kStrChargePhase (i : Nat) : Key := key (0x4001 + 0x100 * i) 12
def kStrChargeCmd (i : Nat) : Key := key (0x4001 + 0x100 * i) 13
def kStrEstCount (i : Nat) : Key := key (0x4002 + 0x100 * i) 0
def kStrState (i : Nat) : Key := key (0x4002 + 0x100 * i) 1
def kStrStatus (i : Nat) : Key := key (0x4002 + 0x100 * i) 2
def kStrVoltage (i : Nat) : Key := key (0x4002 + 0x100 * i) 3
def kStrCurrent (i : Nat) : Key := key (0x4002 + 0x100 * i) 4
def kStrTemperature (i : Nat) : Key := key (0x4002 + 0x100 * i) 5
def kStrSoc (i : Nat) : Key := key (0x4002 + 0x100 * i) 6
def kStrSocAbs (i : Nat) : Key := key (0x4002 + 0x100 * i) 7
def kStrSoh (i : Nat) : Key := key (0x4002 + 0x100 * i) 8
def kStrCapacity (i : Nat) : Key := key (0x4002 + 0x100 * i) 9
def kStrTimeToShutdown (i : Nat) : Key := key (0x4002 + 0x100 * i) 10
def kStrUsableEnergy (i : Nat) : Key := key (0x4002 + 0x100 * i) 11
def kStrResistance (i : Nat) : Key := key (0x4002 + 0x100 * i) 12
def kStrErrorBudget (i : Nat) : Key := key (0x4002 + 0x100 * i) 13
def kStrLastRest (i : Nat) : Key := key (0x4002 + 0x100 * i) 14
def kStrRestCurrent (i : Nat) : Key := key (0x4002 + 0x100 * i) 15
def kStrRestTime (i : Nat) : Key := key (0x4002 + 0x100 * i) 16
def kStrLearnWeight (i : Nat) : Key := key (0x4002 + 0x100 * i) 17
def kStrCountGainErr (i : Nat) : Key := key (0x4002 + 0x100 * i) 18
def kStrCountOffset (i : Nat) : Key := key (0x4002 + 0x100 * i) 19
def kStrLoadFilter (i : Nat) : Key := key (0x4002 + 0x100 * i) 20
def kStrRequalify (i : Nat) : Key := key (0x4002 + 0x100 * i) 21
def kStrOcvCount (i : Nat) : Key := key (0x4003 + 0x100 * i) 0
def kStrOcvPoint (i j : Nat) : Key := key (0x4003 + 0x100 * i) (1 + j)
def kStrOcvTempCo (i : Nat) : Key := key (0x4003 + 0x100 * i) 33
def kBattCount : Key := key 0x2c50 0
def kChargeRegLevel : Key := key 0x2c50 1
def kChargeRegBand : Key := key 0x2c50 2
def kBattHeartbeat : Key := key 0x2c50 3
def kBattWatchdogPeriod : Key := key 0x2c50 4
def kFallowEnable : Key := key 0x2c50 5
def kFallowInterval : Key := key 0x2c50 6
def kFallowRetryDelay : Key := key 0x2c50 7
def kFallowRequest : Key := key 0x2c50 8
def kFallowString : Key := key 0x2c50 9
def kShipModeArm : Key := key 0x2c50 10
def kShipModeConfirm : Key := key 0x2c50 11
def kLongPressTime : Key := key 0x2c50 12
def kLongPressOpenTime : Key := key 0x2c50 13
def kStrSaveInterval : Key := key 0x2c50 14
def kChgBusKp : Key := key 0x2c50 15
def kChgBusKi : Key := key 0x2c50 16
def kChgVoltKp : Key := key 0x2c50 17
def kChgVoltKi : Key := key 0x2c50 18
def kPpCfgCount (i : Nat) : Key := key (0x2d80 + 0x10 * i) 0
def kPpRole (i : Nat) : Key := key (0x2d80 + 0x10 * i) 1
def kPpEnable (i : Nat) : Key := key (0x2d80 + 0x10 * i) 2
def kPpVinScale (i : Nat) : Key := key (0x2d80 + 0x10 * i) 3
def kPpVoutScale (i : Nat) : Key := key (0x2d80 + 0x10 * i) 4
def kPpIScale (i : Nat) : Key := key (0x2d80 + 0x10 * i) 5
def kPpUvRise (i : Nat) : Key := key (0x2d80 + 0x10 * i) 6
def kPpUvHyst (i : Nat) : Key := key (0x2d80 + 0x10 * i) 7
def kPpOvFall (i : Nat) : Key := key (0x2d80 + 0x10 * i) 8
def kPpOvHyst (i : Nat) : Key := key (0x2d80 + 0x10 * i) 9
def kPpInsertDelay (i : Nat) : Key := key (0x2d80 + 0x10 * i) 10
def kPpRampRate (i : Nat) : Key := key (0x2d80 + 0x10 * i) 11
def kPpCurrentLimit (i : Nat) : Key := key (0x2d80 + 0x10 * i) 12
def kPpFaultTime (i : Nat) : Key := key (0x2d80 + 0x10 * i) 13
def kPpRampTimeout (i : Nat) : Key := key (0x2d80 + 0x10 * i) 14
def kPpRetryDuty (i : Nat) : Key := key (0x2d80 + 0x10 * i) 15
def kPpRetryCount (i : Nat) : Key := key (0x2d80 + 0x10 * i) 16
def kPpPgDrop (i : Nat) : Key := key (0x2d80 + 0x10 * i) 17
def kPpPgQualTime (i : Nat) : Key := key (0x2d80 + 0x10 * i) 18
def kPpOrFwdDrop (i : Nat) : Key := key (0x2d80 + 0x10 * i) 19
def kPpOrOnDrop (i : Nat) : Key := key (0x2d80 + 0x10 * i) 20
def kPpOrVdsGain (i : Nat) : Key := key (0x2d80 + 0x10 * i) 21
def kPpRetryClear (i : Nat) : Key := key (0x2d80 + 0x10 * i) 22
def kPpStatCount (i : Nat) : Key := key (0x2d81 + 0x10 * i) 0
def kPpState (i : Nat) : Key := key (0x2d81 + 0x10 * i) 1
def kPpStatus (i : Nat) : Key := key (0x2d81 + 0x10 * i) 2
def kPpVin (i : Nat) : Key := key (0x2d81 + 0x10 * i) 3
def kPpVout (i : Nat) : Key := key (0x2d81 + 0x10 * i) 4
def kPpCurrent (i : Nat) : Key := key (0x2d81 + 0x10 * i) 5
def kPpForwardDrop (i : Nat) : Key := key (0x2d81 + 0x10 * i) 6
def kPpRetriesLeft (i : Nat) : Key := key (0x2d81 + 0x10 * i) 7
def kPpTripCount (i : Nat) : Key := key (0x2d81 + 0x10 * i) 8
def kPpReverseCount (i : Nat) : Key := key (0x2d81 + 0x10 * i) 9
def kPpShedPower (i : Nat) : Key := key (0x2d81 + 0x10 * i) 10
def kWmCount (i : Nat) : Key := key (0x2a00 + i) 0
def kWmEnable (i : Nat) : Key := key (0x2a00 + i) 1
def kWmChannel (i : Nat) : Key := key (0x2a00 + i) 2
def kWmMode (i : Nat) : Key := key (0x2a00 + i) 3
def kWmUvFault (i : Nat) : Key := key (0x2a00 + i) 4
def kWmOvFault (i : Nat) : Key := key (0x2a00 + i) 5
def kWmHyst (i : Nat) : Key := key (0x2a00 + i) 6
def kWmDeglitch (i : Nat) : Key := key (0x2a00 + i) 7
def kWmUvWarn (i : Nat) : Key := key (0x2a00 + i) 8
def kWmOvWarn (i : Nat) : Key := key (0x2a00 + i) 9
def kWmWarnFilter (i : Nat) : Key := key (0x2a00 + i) 10
def kWmRail (i : Nat) : Key := key (0x2a00 + i) 11
def kWmFollowMargin (i : Nat) : Key := key (0x2a00 + i) 12
def kWmOvKill (i : Nat) : Key := key (0x2a00 + i) 13
def kWmUvCode (i : Nat) : Key := key (0x2a00 + i) 14
def kWmOvCode (i : Nat) : Key := key (0x2a00 + i) 15
def kWmStatus (i : Nat) : Key := key (0x2a00 + i) 16
def kWmValue (i : Nat) : Key := key (0x2a00 + i) 17
def kWmScale (i : Nat) : Key := key (0x2a00 + i) 18
def kSeqUpWordA (j : Nat) : Key := key 0x2900 (1 + j)
def kSeqUpWordB (j : Nat) : Key := key 0x2901 (1 + j)
def kSeqDownWordA (j : Nat) : Key := key 0x2902 (1 + j)
def kSeqDownWordB (j : Nat) : Key := key 0x2903 (1 + j)
def kSeqCtlCount : Key := key 0x2904 0
def kSeqUpLength : Key := key 0x2904 1
def kSeqDownLength : Key := key 0x2904 2
def kSeqCommand : Key := key 0x2904 3
def kSeqAutoStart : Key := key 0x2904 4
def kSeqState : Key := key 0x2904 5
def kSeqEntry : Key := key 0x2904 6
def kSeqMinOffTime : Key := key 0x2904 7
def kSeqPgQualTime : Key := key 0x2904 8
def kSeqUpTimeoutAction : Key := key 0x2904 9
def kSeqChatterAction : Key := key 0x2904 10
def kSeqReached : Key := key 0x2904 11
def kSeqReachedAux : Key := key 0x2904 12
def kSeqRailGood : Key := key 0x2904 13
def kSeqChatterMask : Key := key 0x2904 14
def kPgFollow (j : Nat) : Key := key 0x2905 (1 + j)
def kPgOutState : Key := key 0x2905 9
def kMarginCount : Key := key 0x2910 0
def kMarginRail (j : Nat) : Key := key 0x2910 (1 + j)
def kHighest2900 : Key := key 0x2900 0
def kHighest2901 : Key := key 0x2901 0
def kHighest2902 : Key := key 0x2902 0
def kHighest2903 : Key := key 0x2903 0
def kHighest2905 : Key := key 0x2905 0
def kMillCfgCount (i : Nat) : Key := key (0x5000 + 0x100 * i) 0
def kMillSource (i : Nat) : Key := key (0x5000 + 0x100 * i) 1
def kMillUnit0 (i j : Nat) : Key := key (0x5000 + 0x100 * i) (2 + j)
def kMillOwnRails (i : Nat) : Key := key (0x5000 + 0x100 * i) 6
def kMillOwnTrims (i : Nat) : Key := key (0x5000 + 0x100 * i) 7
def kMillTrig (i j : Nat) : Key := key (0x5000 + 0x100 * i) (8 + j)
def kMillTrigEntry (i j : Nat) : Key := key (0x5000 + 0x100 * i) (12 + j)
def kMillTimer (i : Nat) : Key := key (0x5000 + 0x100 * i) 16
def kMillCodeLength (i : Nat) : Key := key (0x5000 + 0x100 * i) 17
def kMillCode (i : Nat) : Key := key (0x5001 + 0x100 * i) 1
def kMillCoefValue (i j : Nat) : Key := key (0x5002 + 0x100 * i) (1 + j)
def kMillCoefShift (i j : Nat) : Key := key (0x5004 + 0x100 * i) (1 + j)
def kMillStateWord (i j : Nat) : Key := key (0x5007 + 0x100 * i) (1 + j)
def kMillOut (i j : Nat) : Key := key (0x5008 + 0x100 * i) (1 + j)
def kHighest5002 (i : Nat) : Key := key (0x5002 + 0x100 * i) 0
def kHighest5003 (i : Nat) : Key := key (0x5003 + 0x100 * i) 0
def kHighest5004 (i : Nat) : Key := key (0x5004 + 0x100 * i) 0
def kHighest5005 (i : Nat) : Key := key (0x5005 + 0x100 * i) 0
def kHighest5007 (i : Nat) : Key := key (0x5007 + 0x100 * i) 0
def kHighest5008 (i : Nat) : Key := key (0x5008 + 0x100 * i) 0
def kMillStatCount (i : Nat) : Key := key (0x5006 + 0x100 * i) 0
def kMillState (i : Nat) : Key := key (0x5006 + 0x100 * i) 1
def kMillStatus (i : Nat) : Key := key (0x5006 + 0x100 * i) 2
def kMillLoad (i : Nat) : Key := key (0x5006 + 0x100 * i) 3
def kMillMeasLoad (i : Nat) : Key := key (0x5006 + 0x100 * i) 4
def kMillRuns (i : Nat) : Key := key (0x5006 + 0x100 * i) 5
def kMillOverruns (i : Nat) : Key := key (0x5006 + 0x100 * i) 6
def kMillSatCount (i : Nat) : Key := key (0x5006 + 0x100 * i) 7
def kMillWriteRejects (i : Nat) : Key := key (0x5006 + 0x100 * i) 8
def kMillRunTime (i : Nat) : Key := key (0x5006 + 0x100 * i) 9
def kMillActiveBank (i : Nat) : Key := key (0x5006 + 0x100 * i) 10
def kMillEventCode (i : Nat) : Key := key (0x5006 + 0x100 * i) 11
def kMillEventValue (i : Nat) : Key := key (0x5006 + 0x100 * i) 12
def kMillStopPc (i : Nat) : Key := key (0x5006 + 0x100 * i) 13
def kMillTraceCtl (i : Nat) : Key := key (0x500c + 0x100 * i) 1
def kMillTraceState (i : Nat) : Key := key (0x500c + 0x100 * i) 2
def kMillTraceTrig (i : Nat) : Key := key (0x500c + 0x100 * i) 3
def kMillTraceLevel (i : Nat) : Key := key (0x500c + 0x100 * i) 4
def kMillTracePre (i : Nat) : Key := key (0x500c + 0x100 * i) 5
def kMillTraceDecim (i : Nat) : Key := key (0x500c + 0x100 * i) 6
def kMillTraceSlot (i : Nat) : Key := key (0x500c + 0x100 * i) 7
def kMillTraceCount (i : Nat) : Key := key (0x500c + 0x100 * i) 8
def kMillTraceTrigPos (i : Nat) : Key := key (0x500c + 0x100 * i) 9
def kMillTraceDump (i : Nat) : Key := key (0x500c + 0x100 * i) 10
def kMillTraceData (i j : Nat) : Key := key (0x500d + 0x100 * i) (1 + j)
def kMillTraceSel (i j : Nat) : Key := key (0x500e + 0x100 * i) (1 + j)
def kHighest500C (i : Nat) : Key := key (0x500c + 0x100 * i) 0
def kHighest500D (i : Nat) : Key := key (0x500d + 0x100 * i) 0
def kHighest500E (i : Nat) : Key := key (0x500e + 0x100 * i) 0
def kMarketCount : Key := key 0x2100 0
def kMarketOutstanding : Key := key 0x2100 1
def kMarketPeak : Key := key 0x2100 2
def kMarketTimeout : Key := key 0x2100 3
def kMarketNorTimeout : Key := key 0x2100 4
def kMarketBusyCount : Key := key 0x2100 5
def kMarketFenceCount : Key := key 0x2100 6
def kFenceCtlCount : Key := key 0x2110 0
def kFenceClear : Key := key 0x2110 1
def kFenceClearOrigin : Key := key 0x2110 2
def kHamperCount : Key := key 0x2120 0
def kHamperOpen : Key := key 0x2120 1
def kHamperStage : Key := key 0x2120 2
def kHamperCommand : Key := key 0x2120 3
def kHamperTimeout : Key := key 0x2120 4
def kHamperOpenCount : Key := key 0x2120 5
def kDomainVoteWindow : Key := key 0x2120 6
def kDomainReportTime : Key := key 0x2120 7
def kHamperState (j : Nat) : Key := key 0x2121 (1 + j)
def kHamperResult (j : Nat) : Key := key 0x2122 (1 + j)
def kHamperApplyTime (j : Nat) : Key := key 0x2123 (1 + j)
def kHamperNodes (j : Nat) : Key := key 0x2124 (1 + j)
def kHamperMissing (j : Nat) : Key := key 0x2125 (1 + j)
def kHighest2121 : Key := key 0x2121 0
def kHighest2122 : Key := key 0x2122 0
def kHighest2123 : Key := key 0x2123 0
def kHighest2124 : Key := key 0x2124 0
def kHighest2125 : Key := key 0x2125 0
def kDeviceType : Key := key 0x1000 0
def kErrorRegister : Key := key 0x1001 0
def kCobIdSync : Key := key 0x1005 0
def kCobIdEmcy : Key := key 0x1014 0
def kInhibitTimeEmcy : Key := key 0x1015 0
def kConsumerHeartbeatTime (j : Nat) : Key := key 0x1016 (1 + j)
def kProducerHeartbeatTime : Key := key 0x1017 0
def kIdentity (j : Nat) : Key := key 0x1018 (1 + j)
def kSyncCounterOverflow : Key := key 0x1019 0
def kRpdoCount (i : Nat) : Key := key (0x1400 + i) 0
def kRpdoCobId (i : Nat) : Key := key (0x1400 + i) 1
def kRpdoType (i : Nat) : Key := key (0x1400 + i) 2
def kRpdoInhibit (i : Nat) : Key := key (0x1400 + i) 3
def kRpdoTimer (i : Nat) : Key := key (0x1400 + i) 5
def kTpdoCount (i : Nat) : Key := key (0x1800 + i) 0
def kTpdoCobId (i : Nat) : Key := key (0x1800 + i) 1
def kTpdoType (i : Nat) : Key := key (0x1800 + i) 2
def kTpdoInhibit (i : Nat) : Key := key (0x1800 + i) 3
def kTpdoTimer (i : Nat) : Key := key (0x1800 + i) 5
def kTpdoSyncStart (i : Nat) : Key := key (0x1800 + i) 6
def kRpdoMapCount (i : Nat) : Key := key (0x1600 + i) 0
def kRpdoMap (i j : Nat) : Key := key (0x1600 + i) (1 + j)
def kTpdoMapCount (i : Nat) : Key := key (0x1a00 + i) 0
def kTpdoMap (i j : Nat) : Key := key (0x1a00 + i) (1 + j)
def kHighest1016 : Key := key 0x1016 0
def kHighest1018 : Key := key 0x1018 0
def kCanCfgCount : Key := key 0x2200 0
def kCanNodeId : Key := key 0x2200 1
def kCanNominalRate : Key := key 0x2200 2
def kCanDataRate : Key := key 0x2200 3
def kCanNominalSample : Key := key 0x2200 4
def kCanDataSample : Key := key 0x2200 5
def kCanMode : Key := key 0x2200 6
def kCanEmcyEnable : Key := key 0x2200 7
def kCanBusOffRestart : Key := key 0x2200 8
def kUsdoTimeout : Key := key 0x2200 9
def kCanStatCount : Key := key 0x2201 0
def kCanStatus (j : Nat) : Key := key 0x2201 (1 + j)
def kCanErrorCounters (j : Nat) : Key := key 0x2201 (3 + j)
def kCanEmcyLost : Key := key 0x2201 5
def kCanRpdoStale : Key := key 0x2201 6
def kCanRpdoRejects : Key := key 0x2201 7
def kTwCount : Key := key 0x2210 0
def kTwStrapAddr : Key := key 0x2210 1
def kTwAddrMode : Key := key 0x2210 2
def kTwExtraAddr1 (j : Nat) : Key := key 0x2210 (3 + j)
def kTwAddrMask : Key := key 0x2210 6
def kTwPecRequired : Key := key 0x2210 7
def kTwDataHold : Key := key 0x2210 8
def kTwSpikeFilter : Key := key 0x2210 9
def kTwSclTimeout : Key := key 0x2210 10
def kTwSdaTimeout : Key := key 0x2210 11
def kTwDupWindow : Key := key 0x2210 12
def kTwStatus : Key := key 0x2210 13
def kTwPecErrors : Key := key 0x2210 14
def kTwResultsLost : Key := key 0x2210 15
def kSvcCount : Key := key 0x2220 0
def kSvcRate : Key := key 0x2220 1
def kSvcLinkTimeout : Key := key 0x2220 2
def kSvcCrcErrors : Key := key 0x2220 3
def kSvcLinkDrops : Key := key 0x2220 4
def kLaneCount : Key := key 0x2300 0
def kLaneEnable : Key := key 0x2300 1
def kLaneNodeId : Key := key 0x2300 2
def kLaneNodeIdNow : Key := key 0x2300 3
def kLaneTimeEligible : Key := key 0x2300 4
def kLaneNodeTimeout : Key := key 0x2300 5
def kLaneHoldover : Key := key 0x2300 6
def kLaneShareReach : Key := key 0x2300 7
def kLaneOdTimeout : Key := key 0x2300 8
def kLaneState : Key := key 0x2300 9
def kLaneStatus : Key := key 0x2300 10
def kLaneTimeMaster : Key := key 0x2300 11
def kLaneTimeHops : Key := key 0x2300 12
def kLaneTime : Key := key 0x2300 13
def kLaneTimeSet : Key := key 0x2300 14
def kLaneTimeEpoch : Key := key 0x2300 15
def kLaneMembers : Key := key 0x2300 16
def kLanePortCount : Key := key 0x2301 0
def kLanePortStatus (j : Nat) : Key := key 0x2301 (1 + j)
def kLaneLinkDelay (j : Nat) : Key := key 0x2301 (3 + j)
def kLaneCrcErrors (j : Nat) : Key := key 0x2301 (5 + j)
def kLaneLinkDowns (j : Nat) : Key := key 0x2301 (7 + j)
def kLaneNodeMap : Key := key 0x2302 1
def kLaneGwCount : Key := key 0x2310 0
def kLaneGwRequest : Key := key 0x2310 1
def kLaneGwResult : Key := key 0x2310 2
def kLaneGwPending : Key := key 0x2310 3
def kLaneGwLost : Key := key 0x2310 4
def kSrcObjCount (i : Nat) : Key := key (0x2700 + i) 0
def kSrcEnable (i : Nat) : Key := key (0x2700 + i) 1
def kSrcCount (i : Nat) : Key := key (0x2700 + i) 2
def kSrcWindow (i : Nat) : Key := key (0x2700 + i) 3
def kSrcQuiet (i : Nat) : Key := key (0x2700 + i) 4
def kSrcReaction (i : Nat) : Key := key (0x2700 + i) 5
def kSrcForce (i : Nat) : Key := key (0x2700 + i) 6
def kSrcState (i : Nat) : Key := key (0x2700 + i) 7
def kSrcRecoveries (i : Nat) : Key := key (0x2700 + i) 8
def kSrcEvents (i : Nat) : Key := key (0x2700 + i) 9
def kSrcLastCode (i : Nat) : Key := key (0x2700 + i) 10
def kSrcLastValue (i : Nat) : Key := key (0x2700 + i) 11
def kWatchCount : Key := key 0x2600 0
def kWatchActiveCount : Key := key 0x2600 1
def kWatchSevereCount : Key := key 0x2600 2
def kWatchFaultPin : Key := key 0x2600 3
def kWatchLastSource : Key := key 0x2600 4
def kMemLockLimit : Key := key 0x2600 5
def kGreenLockLimit : Key := key 0x2600 6
def kLockRevocations : Key := key 0x2600 7
def kWatchCorrected : Key := key 0x2600 8
def kMemCorrCount : Key := key 0x2601 0
def kMemCorrectedCount (j : Nat) : Key := key 0x2601 (1 + j)
def kWatchStateMap : Key := key 0x2602 1
def kThermCount : Key := key 0x2500 0
def kThermWarnLevel : Key := key 0x2500 1
def kThermShutdownLevel : Key := key 0x2500 2
def kThermStopMode : Key := key 0x2500 3
def kThermStopHorizon : Key := key 0x2500 4
def kThermMask : Key := key 0x2500 5
def kThermHottest : Key := key 0x2500 6
def kThermHottestSensor : Key := key 0x2500 7
def kThermSlope : Key := key 0x2500 8
def kThermPredict : Key := key 0x2500 9
def kThermStatus : Key := key 0x2500 10
def kDieTempCount : Key := key 0x2501 0
def kDieTemp (j : Nat) : Key := key 0x2501 (1 + j)
def kAlmCount : Key := key 0x2800 0
def kAlmRepeatWindow : Key := key 0x2800 1
def kAlmRepeatFlush : Key := key 0x2800 2
def kAlmCheckpoint : Key := key 0x2800 3
def kAlmNextSequence : Key := key 0x2800 4
def kAlmTimeNow : Key := key 0x2800 5
def kAlmBuffered : Key := key 0x2800 6
def kAlmDropped : Key := key 0x2800 7
def kAlmLostRecords : Key := key 0x2800 8
def kAlmMode : Key := key 0x2800 9
def kAlmMainSectors : Key := key 0x2800 10
def kAlmReserveUsed : Key := key 0x2800 11
def kAlmSnapMap (j : Nat) : Key := key 0x2810 (1 + j)
def kAlmSnapList (i j : Nat) : Key := key (0x2820 + i) (1 + j)
def kAlmExportCount : Key := key 0x2840 0
def kAlmExportCtl : Key := key 0x2840 1
def kAlmExportState : Key := key 0x2840 2
def kAlmExportFirst : Key := key 0x2840 3
def kAlmExportLast : Key := key 0x2840 4
def kAlmExportData : Key := key 0x2840 5
def kAlmExportReceipt : Key := key 0x2840 6
def kHighest2810 : Key := key 0x2810 0
def kHighest2811 : Key := key 0x2811 0
def kHighest2820 (i : Nat) : Key := key (0x2820 + i) 0
def kTwinCount : Key := key 0x2400 0
def kTwinRole : Key := key 0x2400 1
def kTwinState : Key := key 0x2400 2
def kTwinStatus : Key := key 0x2400 3
def kTwinGiveUpMap : Key := key 0x2400 4
def kTwinHbTimeout : Key := key 0x2400 5
def kTwinReturnHoldoff : Key := key 0x2400 6
def kTwinAutoReturn : Key := key 0x2400 7
def kTwinExercise : Key := key 0x2400 8
def kTwinTakeovers : Key := key 0x2400 9
def kTwinLastCause : Key := key 0x2400 10
def kTwinLastGap : Key := key 0x2400 11
def kTwinPartnerSequence : Key := key 0x2400 12
def kTwinMirrorAge : Key := key 0x2400 13
def kTwinHealthyTime : Key := key 0x2400 14
def kIdentCount : Key := key 0x2000 0
def kChipSerial : Key := key 0x2000 1
def kGrade : Key := key 0x2000 2
def kLifeCycleState : Key := key 0x2000 3
def kServiceVisitsLeft : Key := key 0x2000 4
def kKeyHash : Key := key 0x2000 5
def kResetCause : Key := key 0x2000 6
def kBootTime : Key := key 0x2000 7
def kChipResetCmd : Key := key 0x2000 8
def kAssetTag : Key := key 0x2000 9
def kImageCount : Key := key 0x2010 0
def kImageSlotRunning : Key := key 0x2010 1
def kImageGenA : Key := key 0x2010 2
def kImageGenB : Key := key 0x2010 3
def kImageStatusA : Key := key 0x2010 4
def kImageStatusB : Key := key 0x2010 5
def kUpdateState : Key := key 0x2010 6
def kUpdateReceived : Key := key 0x2010 7
def kParamCount : Key := key 0x2020 0
def kParamStoreCmd : Key := key 0x2020 1
def kParamStoreState : Key := key 0x2020 2
def kParamSetInForce : Key := key 0x2020 3
def kParamGeneration : Key := key 0x2020 4
def kParamLoadResult : Key := key 0x2020 5
def kParamEntriesRejected : Key := key 0x2020 6
def kParamBodySize : Key := key 0x2020 7
def kNorCount : Key := key 0x2030 0
def kNorSize : Key := key 0x2030 1
def kNorIoMode : Key := key 0x2030 2
def kNorClock : Key := key 0x2030 3
def kBusTapScaleCount : Key := key 0x2c12 0
def kBusTapScale : Key := key 0x2c12 1

/-! ### The tables -/

/-- The objects of Table 1.4. -/
def table1_4 : List Obj :=
  [{ name := "HamletStatusCount", base := 0x2640, sub := 0, last := 0, type := .u8, access := .const, dflt := .num 27, spans := [(0, 255)] },
   { name := "HamletStatus", base := 0x2640, sub := 1, last := 27, type := .u32, access := .ro, spans := [(0, 4294967295)], pers := .volatile },
   { name := "HamletParkMask", base := 0x2641, sub := 0, last := 0, type := .u32, access := .hmp, spans := [(0, 4294967295)], mask := (some 0x7fffb00), pers := .stored },
   { name := "GreenLatencyCount", base := 0x2642, sub := 0, last := 0, type := .u8, access := .const, dflt := .num 5, spans := [(0, 255)] },
   { name := "GreenSenseToMill", base := 0x2642, sub := 1, last := 1, type := .u32, access := .ro, spans := [(0, 4294967295)], pers := .volatile },
   { name := "GreenMillToPwm", base := 0x2642, sub := 2, last := 2, type := .u32, access := .ro, spans := [(0, 4294967295)], pers := .volatile },
   { name := "GreenMarketToMill", base := 0x2642, sub := 3, last := 3, type := .u32, access := .ro, spans := [(0, 4294967295)], pers := .volatile },
   { name := "GreenMarketToReeve", base := 0x2642, sub := 4, last := 4, type := .u32, access := .ro, spans := [(0, 4294967295)], pers := .volatile },
   { name := "GreenOccupancy", base := 0x2642, sub := 5, last := 5, type := .u16, access := .ro, spans := [(0, 65535)], pers := .volatile }]

/-- The objects of Table 2.1. -/
def table2_1 : List Obj :=
  [{ name := "RmCount", base := 0x2d00, stride := 0x10, count := 8, sub := 0, last := 0, type := .u8, access := .const, dflt := .num 13, spans := [(0, 255)] },
   { name := "RmFitted", base := 0x2d00, stride := 0x10, count := 8, sub := 1, last := 1, type := .bool, access := .hmp, spans := [(0, 1)], pers := .stored },
   { name := "RmEnableCmd", base := 0x2d00, stride := 0x10, count := 8, sub := 2, last := 2, type := .bool, access := .rw, dflt := .num 1, spans := [(0, 1)], pers := .stored },
   { name := "RmRatedPower", base := 0x2d00, stride := 0x10, count := 8, sub := 3, last := 3, type := .i32, access := .rw, spans := [(0, 20000000)], pers := .stored },
   { name := "RmShareScale", base := 0x2d00, stride := 0x10, count := 8, sub := 4, last := 4, type := .i32, access := .rw, dflt := .num 25000, spans := [(1000, 1000000)], pers := .stored },
   { name := "RmTrimNeutral", base := 0x2d00, stride := 0x10, count := 8, sub := 5, last := 5, type := .u16, access := .rw, dflt := .num 32768, spans := [(0, 65535)], pers := .stored },
   { name := "RmTrimGain", base := 0x2d00, stride := 0x10, count := 8, sub := 6, last := 6, type := .u32, access := .rw, dflt := .num 168, spans := [(1, 100000)], pers := .stored },
   { name := "RmTrimMin", base := 0x2d00, stride := 0x10, count := 8, sub := 7, last := 7, type := .u16, access := .rw, spans := [(0, 65535)], pers := .stored },
   { name := "RmTrimMax", base := 0x2d00, stride := 0x10, count := 8, sub := 8, last := 8, type := .u16, access := .rw, dflt := .num 65535, spans := [(0, 65535)], pers := .stored },
   { name := "RmTap", base := 0x2d00, stride := 0x10, count := 8, sub := 9, last := 9, type := .u8, access := .rw, spans := [(0, 3)], pers := .stored },
   { name := "RmAlarmActiveHigh", base := 0x2d00, stride := 0x10, count := 8, sub := 10, last := 10, type := .bool, access := .rw, spans := [(0, 1)], pers := .stored },
   { name := "RmCurrent", base := 0x2d00, stride := 0x10, count := 8, sub := 11, last := 11, type := .i32, access := .ro, spans := [((-2147483648), 2147483647)], pers := .volatile }] ++
  [{ name := "RmTrimCode", base := 0x2d00, stride := 0x10, count := 8, sub := 12, last := 12, type := .u16, access := .ro, spans := [(0, 65535)], pers := .volatile },
   { name := "RmStatus", base := 0x2d00, stride := 0x10, count := 8, sub := 13, last := 13, type := .u16, access := .ro, spans := [(0, 65535)], pers := .volatile }]

/-- The objects of Table 2.4. -/
def table2_4 : List Obj :=
  [{ name := "BusRegCount", base := 0x2c10, sub := 0, last := 0, type := .u8, access := .const, dflt := .num 7, spans := [(0, 255)] },
   { name := "BusVoltage", base := 0x2c10, sub := 1, last := 1, type := .i32, access := .ro, spans := [((-2147483648), 2147483647)], pers := .volatile },
   { name := "BusRegTap", base := 0x2c10, sub := 2, last := 2, type := .u8, access := .rw, spans := [(0, 3)], pers := .stored },
   { name := "BusTarget", base := 0x2c10, sub := 3, last := 3, type := .i32, access := .rw, dflt := .num 480000, spans := [(360000, 1500000)], pers := .stored },
   { name := "BusTapTolerance", base := 0x2c10, sub := 4, last := 4, type := .i32, access := .rw, dflt := .num 20000, spans := [(1000, 100000)], pers := .stored },
   { name := "BusTapValid", base := 0x2c10, sub := 5, last := 5, type := .u8, access := .ro, spans := [(0, 255)], pers := .volatile },
   { name := "BusOvLevel", base := 0x2c10, sub := 6, last := 6, type := .u16, access := .rw, dflt := .num 11000, spans := [(10200, 12500)], pers := .stored },
   { name := "BusTapFitted", base := 0x2c10, sub := 7, last := 7, type := .u8, access := .rw, dflt := .num 1, spans := [(1, 15)], pers := .stored },
   { name := "BusShareCount", base := 0x2c11, sub := 0, last := 0, type := .u8, access := .const, dflt := .num 5, spans := [(0, 255)] },
   { name := "BusKp", base := 0x2c11, sub := 1, last := 1, type := .u16, access := .rw, dflt := .num 500, spans := [(0, 10000)], pers := .stored },
   { name := "BusKi", base := 0x2c11, sub := 2, last := 2, type := .u32, access := .rw, dflt := .num 2000, spans := [(0, 100000)], pers := .stored },
   { name := "ShareKi", base := 0x2c11, sub := 3, last := 3, type := .u32, access := .rw, dflt := .num 10000, spans := [(0, 1000000)], pers := .stored }] ++
  [{ name := "BusTrimSlew", base := 0x2c11, sub := 4, last := 4, type := .u16, access := .rw, dflt := .num 100, spans := [(1, 65535)], pers := .stored },
   { name := "BusTrimLimit", base := 0x2c11, sub := 5, last := 5, type := .i32, access := .rw, dflt := .num 55000, spans := [(1000, 200000)], pers := .stored }]

/-- The objects of Table 2.6. -/
def table2_6 : List Obj :=
  [{ name := "PlantShareCount", base := 0x2c30, sub := 0, last := 0, type := .u8, access := .const, dflt := .num 6, spans := [(0, 255)] },
   { name := "ShareGroup", base := 0x2c30, sub := 1, last := 1, type := .u8, access := .rw, spans := [(0, 255)], pers := .stored },
   { name := "ShareBand", base := 0x2c30, sub := 2, last := 2, type := .i32, access := .rw, dflt := .num 5000, spans := [(0, 50000)], pers := .stored },
   { name := "PlantShareKi", base := 0x2c30, sub := 3, last := 3, type := .u32, access := .rw, dflt := .num 500, spans := [(0, 100000)], pers := .stored },
   { name := "ShareTimeout", base := 0x2c30, sub := 4, last := 4, type := .u16, access := .rw, dflt := .num 10, spans := [(5, 1000)], pers := .stored },
   { name := "PlantTrim", base := 0x2c30, sub := 5, last := 5, type := .i32, access := .ro, spans := [((-2147483648), 2147483647)], pers := .volatile },
   { name := "ShareMembers", base := 0x2c30, sub := 6, last := 6, type := .u16, access := .ro, spans := [(0, 65535)], pers := .volatile }]

/-- The objects of Table 2.7. -/
def table2_7 : List Obj :=
  [{ name := "WellCount", base := 0x2c20, sub := 0, last := 0, type := .u8, access := .const, dflt := .num 16, spans := [(0, 255)] },
   { name := "WellCapacitance", base := 0x2c20, sub := 1, last := 1, type := .u32, access := .rw, spans := [(0, 10000000)], pers := .stored },
   { name := "WellBusVmin", base := 0x2c20, sub := 2, last := 2, type := .u16, access := .rw, dflt := .num 8000, spans := [(5000, 9400)], pers := .stored },
   { name := "WellConvEff", base := 0x2c20, sub := 3, last := 3, type := .u16, access := .rw, dflt := .num 9500, spans := [(5000, 10000)], pers := .stored },
   { name := "WellDesignLoad", base := 0x2c20, sub := 4, last := 4, type := .i32, access := .rw, spans := [(0, 100000000)], pers := .stored },
   { name := "WellLoadFilter", base := 0x2c20, sub := 5, last := 5, type := .u16, access := .rw, dflt := .num 10, spans := [(1, 600)], pers := .stored },
   { name := "WellEnergy", base := 0x2c20, sub := 6, last := 6, type := .u32, access := .ro, spans := [(0, 4294967295)], pers := .volatile },
   { name := "WellBusEnergy", base := 0x2c20, sub := 7, last := 7, type := .u32, access := .ro, spans := [(0, 4294967295)], pers := .volatile },
   { name := "WellStringEnergy", base := 0x2c20, sub := 8, last := 8, type := .u32, access := .ro, spans := [(0, 4294967295)], pers := .volatile },
   { name := "WellEnergyLessOne", base := 0x2c20, sub := 9, last := 9, type := .u32, access := .ro, spans := [(0, 4294967295)], pers := .volatile },
   { name := "WellRideNow", base := 0x2c20, sub := 10, last := 10, type := .u32, access := .ro, spans := [(0, 4294967295)], pers := .volatile },
   { name := "WellRideDesign", base := 0x2c20, sub := 11, last := 11, type := .u32, access := .ro, spans := [(0, 4294967295)], pers := .volatile }] ++
  [{ name := "WellStatus", base := 0x2c20, sub := 12, last := 12, type := .u8, access := .ro, spans := [(0, 255)], pers := .volatile },
   { name := "WellCapMeasured", base := 0x2c20, sub := 13, last := 13, type := .u32, access := .ro, spans := [(0, 4294967295)], pers := .volatile },
   { name := "WellCapTolerance", base := 0x2c20, sub := 14, last := 14, type := .u16, access := .rw, dflt := .num 2000, spans := [(500, 5000)], pers := .stored },
   { name := "RideThroughTarget", base := 0x2c20, sub := 15, last := 15, type := .u32, access := .rw, spans := [(0, 86400)], pers := .stored },
   { name := "WellFloor", base := 0x2c20, sub := 16, last := 16, type := .u32, access := .rw, spans := [(0, 4294967295)], pers := .stored }]

/-- The objects of Table 2.9. -/
def table2_9 : List Obj :=
  [{ name := "BusStateCount", base := 0x2c00, sub := 0, last := 0, type := .u8, access := .const, dflt := .num 3, spans := [(0, 255)] },
   { name := "BusState", base := 0x2c00, sub := 1, last := 1, type := .u8, access := .ro, spans := [(0, 255)], pers := .volatile },
   { name := "HandoverCount", base := 0x2c00, sub := 2, last := 2, type := .u32, access := .ro, spans := [(0, 4294967295)], pers := .volatile },
   { name := "BusStateTime", base := 0x2c00, sub := 3, last := 3, type := .u32, access := .ro, spans := [(0, 4294967295)], pers := .volatile },
   { name := "HandoverCfgCount", base := 0x2c18, sub := 0, last := 0, type := .u8, access := .const, dflt := .num 8, spans := [(0, 255)] },
   { name := "HandoverLevel", base := 0x2c18, sub := 1, last := 1, type := .u16, access := .rw, dflt := .num 9450, spans := [(8000, 9900)], pers := .stored },
   { name := "HoldupLevel", base := 0x2c18, sub := 2, last := 2, type := .u16, access := .rw, dflt := .num 9500, spans := [(8000, 9900)], pers := .stored },
   { name := "HandbackLevel", base := 0x2c18, sub := 3, last := 3, type := .u16, access := .rw, dflt := .num 9800, spans := [(9000, 9990)], pers := .stored },
   { name := "HandoverDeglitch", base := 0x2c18, sub := 4, last := 4, type := .u16, access := .rw, dflt := .num 20, spans := [(4, 1000)], pers := .stored },
   { name := "SourceQualTime", base := 0x2c18, sub := 5, last := 5, type := .u32, access := .rw, dflt := .num 2000, spans := [(100, 60000)], pers := .stored },
   { name := "HandbackRamp", base := 0x2c18, sub := 6, last := 6, type := .u32, access := .rw, dflt := .num 1000, spans := [(10, 10000)], pers := .stored },
   { name := "SourceMinRect", base := 0x2c18, sub := 7, last := 7, type := .u8, access := .rw, spans := [(0, 8)], pers := .stored }] ++
  [{ name := "RmAlarmDeglitch", base := 0x2c18, sub := 8, last := 8, type := .u16, access := .rw, dflt := .num 100, spans := [(10, 10000)], pers := .stored }]

/-- The objects of Table 2.10. -/
def table2_10 : List Obj :=
  [{ name := "CapCount", base := 0x2c40, sub := 0, last := 0, type := .u8, access := .const, dflt := .num 17, spans := [(0, 255)] },
   { name := "CapEnable", base := 0x2c40, sub := 1, last := 1, type := .bool, access := .rw, dflt := .num 1, spans := [(0, 1)], pers := .stored },
   { name := "CapSourceCapacity", base := 0x2c40, sub := 2, last := 2, type := .i32, access := .rw, spans := [(0, 200000000)], pers := .stored },
   { name := "CapMargin", base := 0x2c40, sub := 3, last := 3, type := .u16, access := .rw, dflt := .num 200, spans := [(0, 2000)], pers := .stored },
   { name := "CapChargeReserve", base := 0x2c40, sub := 4, last := 4, type := .i32, access := .rw, spans := [(0, 20000000)], pers := .stored },
   { name := "CapVcMinLevel", base := 0x2c40, sub := 5, last := 5, type := .u16, access := .rw, dflt := .num 5000, spans := [(0, 10000)], pers := .stored },
   { name := "CapDoorMinLevel", base := 0x2c40, sub := 6, last := 6, type := .u16, access := .rw, dflt := .num 5000, spans := [(0, 10000)], pers := .stored },
   { name := "CapDoorFloor", base := 0x2c40, sub := 7, last := 7, type := .i32, access := .rw, spans := [(0, 100000000)], pers := .stored },
   { name := "CapPdoNumber", base := 0x2c40, sub := 8, last := 8, type := .u8, access := .rw, spans := [(0, 16)], pers := .stored },
   { name := "CapPdoRepeat", base := 0x2c40, sub := 9, last := 9, type := .u16, access := .rw, dflt := .num 100, spans := [(10, 10000)], pers := .stored },
   { name := "CapRestoreHold", base := 0x2c40, sub := 10, last := 10, type := .u16, access := .rw, dflt := .num 10, spans := [(1, 3600)], pers := .stored },
   { name := "CapBudget", base := 0x2c40, sub := 11, last := 11, type := .i32, access := .ro, spans := [((-2147483648), 2147483647)], pers := .volatile }] ++
  [{ name := "CapDemand", base := 0x2c40, sub := 12, last := 12, type := .i32, access := .ro, spans := [((-2147483648), 2147483647)], pers := .volatile },
   { name := "CapStage", base := 0x2c40, sub := 13, last := 13, type := .u8, access := .ro, spans := [(0, 255)], pers := .volatile },
   { name := "CapVcLevel", base := 0x2c40, sub := 14, last := 14, type := .u16, access := .ro, dflt := .num 10000, spans := [(0, 65535)], pers := .volatile },
   { name := "CapDoorLevel", base := 0x2c40, sub := 15, last := 15, type := .u16, access := .ro, dflt := .num 10000, spans := [(0, 65535)], pers := .volatile },
   { name := "CapSequence", base := 0x2c40, sub := 16, last := 16, type := .u16, access := .ro, spans := [(0, 65535)], pers := .volatile },
   { name := "CapShedMask", base := 0x2c40, sub := 17, last := 17, type := .u8, access := .ro, spans := [(0, 255)], pers := .volatile },
   { name := "CapShedPriority", base := 0x2c41, sub := 1, last := 8, type := .u8, access := .rw, spans := [(0, 8)], pers := .stored },
   { name := "CapVcEnable", base := 0x2c42, sub := 1, last := 4, type := .bool, access := .rw, spans := [(0, 1)], pers := .stored },
   { name := "Highest2C41", base := 0x2c41, sub := 0, last := 0, type := .u8, access := .const, dflt := .num 8, spans := [(0, 255)] },
   { name := "Highest2C42", base := 0x2c42, sub := 0, last := 0, type := .u8, access := .const, dflt := .num 4, spans := [(0, 255)] }]

/-- The objects of Table 3.1. -/
def table3_1 : List Obj :=
  [{ name := "PhCount", base := 0x4400, stride := 0x10, count := 32, sub := 0, last := 0, type := .u8, access := .const, dflt := .num 6, spans := [(0, 255)] },
   { name := "PhCurrentScale", base := 0x4400, stride := 0x10, count := 32, sub := 1, last := 1, type := .i32, access := .rw, dflt := .num 20000, spans := [(1000, 500000)], pers := .stored },
   { name := "PhPeakLimit", base := 0x4400, stride := 0x10, count := 32, sub := 2, last := 2, type := .i32, access := .rw, dflt := .num 10000, spans := [(100, 500000)], pers := .stored },
   { name := "PhKillLimit", base := 0x4400, stride := 0x10, count := 32, sub := 3, last := 3, type := .i32, access := .rw, dflt := .num 15000, spans := [(100, 500000)], pers := .stored },
   { name := "PhCurrent", base := 0x4400, stride := 0x10, count := 32, sub := 4, last := 4, type := .i32, access := .ro, spans := [((-2147483648), 2147483647)], pers := .volatile },
   { name := "PhDuty", base := 0x4400, stride := 0x10, count := 32, sub := 5, last := 5, type := .u16, access := .ro, spans := [(0, 65535)], pers := .volatile },
   { name := "PhStatus", base := 0x4400, stride := 0x10, count := 32, sub := 6, last := 6, type := .u16, access := .ro, spans := [(0, 65535)], pers := .volatile }]

/-- The objects of Table 3.8. -/
def table3_8 : List Obj :=
  [{ name := "RailCfgCount", base := 0x3000, stride := 0x100, count := 16, sub := 0, last := 0, type := .u8, access := .const, dflt := .num 22, spans := [(0, 255)] },
   { name := "RailType", base := 0x3000, stride := 0x100, count := 16, sub := 1, last := 1, type := .u8, access := .hmp, spans := [(0, 2)], pers := .stored },
   { name := "RailPhaseMask", base := 0x3000, stride := 0x100, count := 16, sub := 2, last := 2, type := .u32, access := .hmp, spans := [(0, 4294967295)], pers := .stored },
   { name := "RailEnable", base := 0x3000, stride := 0x100, count := 16, sub := 3, last := 3, type := .bool, access := .rw, spans := [(0, 1)], pers := .stored },
   { name := "RailTarget", base := 0x3000, stride := 0x100, count := 16, sub := 4, last := 4, type := .i32, access := .rw, spans := [(0, 1500000)], pers := .stored },
   { name := "RailFsw", base := 0x3000, stride := 0x100, count := 16, sub := 5, last := 5, type := .u32, access := .rw, dflt := .num 500000, spans := [(100000, 2000000)], pers := .stored },
   { name := "RailSyncMode", base := 0x3000, stride := 0x100, count := 16, sub := 6, last := 6, type := .u8, access := .rw, spans := [(0, 4)], pers := .stored },
   { name := "RailSyncOffset", base := 0x3000, stride := 0x100, count := 16, sub := 7, last := 7, type := .u8, access := .rw, spans := [(0, 255)], pers := .stored },
   { name := "RailSyncOut", base := 0x3000, stride := 0x100, count := 16, sub := 8, last := 8, type := .bool, access := .hmp, spans := [(0, 1)], pers := .stored },
   { name := "RailOnDelay", base := 0x3000, stride := 0x100, count := 16, sub := 9, last := 9, type := .u32, access := .rw, spans := [(0, 100000)], pers := .stored },
   { name := "RailRampTime", base := 0x3000, stride := 0x100, count := 16, sub := 10, last := 10, type := .u32, access := .rw, dflt := .num 1000, spans := [(100, 100000)], pers := .stored },
   { name := "RailOffDelay", base := 0x3000, stride := 0x100, count := 16, sub := 11, last := 11, type := .u32, access := .rw, spans := [(0, 100000)], pers := .stored }] ++
  [{ name := "RailRampDownTime", base := 0x3000, stride := 0x100, count := 16, sub := 12, last := 12, type := .u32, access := .rw, dflt := .num 1000, spans := [(100, 100000)], pers := .stored },
   { name := "RailSenseScale", base := 0x3000, stride := 0x100, count := 16, sub := 13, last := 13, type := .i32, access := .rw, dflt := .num 12000, spans := [(1000, 2000000)], pers := .stored },
   { name := "RailInputChannel", base := 0x3000, stride := 0x100, count := 16, sub := 14, last := 14, type := .u8, access := .rw, dflt := .num 56, spans := [(0, 255)], pers := .stored },
   { name := "RailDeadTime", base := 0x3000, stride := 0x100, count := 16, sub := 15, last := 15, type := .u16, access := .rw, dflt := .num 80, spans := [(0, 400)], pers := .stored },
   { name := "RailDutyMax", base := 0x3000, stride := 0x100, count := 16, sub := 16, last := 16, type := .u16, access := .rw, dflt := .num 9500, spans := [(1000, 9900)], pers := .stored },
   { name := "RailAutoRestart", base := 0x3000, stride := 0x100, count := 16, sub := 17, last := 17, type := .bool, access := .rw, spans := [(0, 1)], pers := .stored },
   { name := "RailRestartDelay", base := 0x3000, stride := 0x100, count := 16, sub := 18, last := 18, type := .u16, access := .rw, dflt := .num 1000, spans := [(10, 60000)], pers := .stored },
   { name := "RailVcPort", base := 0x3000, stride := 0x100, count := 16, sub := 19, last := 19, type := .u8, access := .hmp, dflt := .num 255, spans := [(0, 3), (255, 255)], pers := .stored },
   { name := "RailVcMin", base := 0x3000, stride := 0x100, count := 16, sub := 20, last := 20, type := .i32, access := .rw, spans := [(0, 655350)], pers := .stored },
   { name := "RailVcMax", base := 0x3000, stride := 0x100, count := 16, sub := 21, last := 21, type := .i32, access := .rw, spans := [(0, 655350)], pers := .stored },
   { name := "RailVcSlew", base := 0x3000, stride := 0x100, count := 16, sub := 22, last := 22, type := .u16, access := .rw, dflt := .num 10, spans := [(1, 65535)], pers := .stored }]

/-- The objects of Table 3.9. -/
def table3_9 : List Obj :=
  [{ name := "RailLoopCount", base := 0x3001, stride := 0x100, count := 16, sub := 0, last := 0, type := .u8, access := .const, dflt := .num 12, spans := [(0, 255)] },
   { name := "RailKi", base := 0x3001, stride := 0x100, count := 16, sub := 1, last := 1, type := .u32, access := .rw, dflt := .num 10000, spans := [(1, 10000000)], pers := .stored },
   { name := "RailFz1", base := 0x3001, stride := 0x100, count := 16, sub := 2, last := 2, type := .u32, access := .rw, dflt := .num 1000, spans := [(10, 1000000)], pers := .stored },
   { name := "RailFz2", base := 0x3001, stride := 0x100, count := 16, sub := 3, last := 3, type := .u32, access := .rw, dflt := .num 1000, spans := [(10, 1000000)], pers := .stored },
   { name := "RailFp1", base := 0x3001, stride := 0x100, count := 16, sub := 4, last := 4, type := .u32, access := .rw, dflt := .num 50000, spans := [(10, 1000000)], pers := .stored },
   { name := "RailFp2", base := 0x3001, stride := 0x100, count := 16, sub := 5, last := 5, type := .u32, access := .rw, dflt := .num 250000, spans := [(10, 1000000)], pers := .stored },
   { name := "RailLoadLine", base := 0x3001, stride := 0x100, count := 16, sub := 6, last := 6, type := .u32, access := .rw, spans := [(0, 65535)], pers := .stored },
   { name := "RailCurrentLimit", base := 0x3001, stride := 0x100, count := 16, sub := 7, last := 7, type := .i32, access := .rw, dflt := .num 10000, spans := [(100, 400000)], pers := .stored },
   { name := "RailBalanceKi", base := 0x3001, stride := 0x100, count := 16, sub := 8, last := 8, type := .u32, access := .rw, dflt := .num 2000, spans := [(0, 1000000)], pers := .stored },
   { name := "RailBalanceLimit", base := 0x3001, stride := 0x100, count := 16, sub := 9, last := 9, type := .u16, access := .rw, dflt := .num 500, spans := [(0, 2000)], pers := .stored },
   { name := "RailLimitKi", base := 0x3001, stride := 0x100, count := 16, sub := 10, last := 10, type := .u32, access := .rw, dflt := .num 50000, spans := [(0, 10000000)], pers := .stored },
   { name := "RailBidirKp", base := 0x3001, stride := 0x100, count := 16, sub := 11, last := 11, type := .u32, access := .rw, dflt := .num 100, spans := [(0, 100000)], pers := .stored }] ++
  [{ name := "RailBidirKi", base := 0x3001, stride := 0x100, count := 16, sub := 12, last := 12, type := .u32, access := .rw, dflt := .num 10000, spans := [(0, 10000000)], pers := .stored }]

/-- The objects of Table 3.10. -/
def table3_10 : List Obj :=
  [{ name := "RailStatCount", base := 0x3002, stride := 0x100, count := 16, sub := 0, last := 0, type := .u8, access := .const, dflt := .num 9, spans := [(0, 255)] },
   { name := "RailState", base := 0x3002, stride := 0x100, count := 16, sub := 1, last := 1, type := .u8, access := .ro, spans := [(0, 255)], pers := .volatile },
   { name := "RailVoltage", base := 0x3002, stride := 0x100, count := 16, sub := 2, last := 2, type := .i32, access := .ro, spans := [((-2147483648), 2147483647)], pers := .volatile },
   { name := "RailCurrent", base := 0x3002, stride := 0x100, count := 16, sub := 3, last := 3, type := .i32, access := .ro, spans := [((-2147483648), 2147483647)], pers := .volatile },
   { name := "RailEffTarget", base := 0x3002, stride := 0x100, count := 16, sub := 4, last := 4, type := .i32, access := .ro, spans := [((-2147483648), 2147483647)], pers := .volatile },
   { name := "RailStatus", base := 0x3002, stride := 0x100, count := 16, sub := 5, last := 5, type := .u16, access := .ro, spans := [(0, 65535)], pers := .volatile },
   { name := "RailActivePhases", base := 0x3002, stride := 0x100, count := 16, sub := 6, last := 6, type := .u32, access := .ro, spans := [(0, 4294967295)], pers := .volatile },
   { name := "RailLimitNow", base := 0x3002, stride := 0x100, count := 16, sub := 7, last := 7, type := .i32, access := .ro, spans := [((-2147483648), 2147483647)], pers := .volatile },
   { name := "RailFswNow", base := 0x3002, stride := 0x100, count := 16, sub := 8, last := 8, type := .u32, access := .ro, spans := [(0, 4294967295)], pers := .volatile },
   { name := "RailVcErrors", base := 0x3002, stride := 0x100, count := 16, sub := 9, last := 9, type := .u16, access := .ro, spans := [(0, 65535)], pers := .volatile }]

/-- The objects of Table 4.8. -/
def table4_8 : List Obj :=
  [{ name := "StrCfgCount", base := 0x4000, stride := 0x100, count := 4, sub := 0, last := 0, type := .u8, access := .const, dflt := .num 12, spans := [(0, 255)] },
   { name := "StrRail", base := 0x4000, stride := 0x100, count := 4, sub := 1, last := 1, type := .u8, access := .hmp, dflt := .num 255, spans := [(0, 15), (255, 255)], pers := .stored },
   { name := "StrChemistry", base := 0x4000, stride := 0x100, count := 4, sub := 2, last := 2, type := .u8, access := .hmp, spans := [(0, 4)], pers := .stored },
   { name := "StrCells", base := 0x4000, stride := 0x100, count := 4, sub := 3, last := 3, type := .u8, access := .hmp, dflt := .num 1, spans := [(1, 255)], pers := .stored },
   { name := "StrRatedCapacity", base := 0x4000, stride := 0x100, count := 4, sub := 4, last := 4, type := .u32, access := .hmp, dflt := .num 100000, spans := [(1000, 10000000)], pers := .stored },
   { name := "StrVoltScale", base := 0x4000, stride := 0x100, count := 4, sub := 5, last := 5, type := .i32, access := .rw, dflt := .num 1500000, spans := [(100000, 2000000)], pers := .stored },
   { name := "StrShuntScale", base := 0x4000, stride := 0x100, count := 4, sub := 6, last := 6, type := .i32, access := .rw, dflt := .num 100000, spans := [(1000, 2000000)], pers := .stored },
   { name := "StrNtcNominal", base := 0x4000, stride := 0x100, count := 4, sub := 7, last := 7, type := .u32, access := .rw, dflt := .num 10000000, spans := [(100000, 1000000000)], pers := .stored },
   { name := "StrNtcBeta", base := 0x4000, stride := 0x100, count := 4, sub := 8, last := 8, type := .u16, access := .rw, dflt := .num 3435, spans := [(2000, 6000)], pers := .stored },
   { name := "StrShutdownVoltage", base := 0x4000, stride := 0x100, count := 4, sub := 9, last := 9, type := .i32, access := .rw, spans := [(0, 2000000)], pers := .stored },
   { name := "StrCellVmax", base := 0x4000, stride := 0x100, count := 4, sub := 10, last := 10, type := .i32, access := .rw, spans := [(0, 50000)], pers := .stored },
   { name := "StrDischargeLimit", base := 0x4000, stride := 0x100, count := 4, sub := 11, last := 11, type := .i32, access := .rw, spans := [(0, 400000)], pers := .stored }] ++
  [{ name := "StrSwFbTime", base := 0x4000, stride := 0x100, count := 4, sub := 12, last := 12, type := .u16, access := .rw, dflt := .num 100, spans := [(10, 5000)], pers := .stored }]

/-- The objects of Table 4.9. -/
def table4_9 : List Obj :=
  [{ name := "StrChgCount", base := 0x4001, stride := 0x100, count := 4, sub := 0, last := 0, type := .u8, access := .const, dflt := .num 13, spans := [(0, 255)] },
   { name := "StrChargeCurrent", base := 0x4001, stride := 0x100, count := 4, sub := 1, last := 1, type := .i32, access := .rw, spans := [(0, 400000)], pers := .stored },
   { name := "StrAbsorbVoltage", base := 0x4001, stride := 0x100, count := 4, sub := 2, last := 2, type := .i32, access := .rw, spans := [(0, 50000)], pers := .stored },
   { name := "StrFloatVoltage", base := 0x4001, stride := 0x100, count := 4, sub := 3, last := 3, type := .i32, access := .rw, spans := [(0, 50000)], pers := .stored },
   { name := "StrAbsorbEndCurrent", base := 0x4001, stride := 0x100, count := 4, sub := 4, last := 4, type := .i32, access := .rw, spans := [(0, 400000)], pers := .stored },
   { name := "StrAbsorbTimeMax", base := 0x4001, stride := 0x100, count := 4, sub := 5, last := 5, type := .u16, access := .rw, dflt := .num 480, spans := [(10, 2880)], pers := .stored },
   { name := "StrTempComp", base := 0x4001, stride := 0x100, count := 4, sub := 6, last := 6, type := .i32, access := .rw, spans := [((-10000), 0)], pers := .stored },
   { name := "StrTempCompEnable", base := 0x4001, stride := 0x100, count := 4, sub := 7, last := 7, type := .bool, access := .rw, dflt := .num 1, spans := [(0, 1)], pers := .stored },
   { name := "StrChargeTempMin", base := 0x4001, stride := 0x100, count := 4, sub := 8, last := 8, type := .i16, access := .rw, spans := [((-640), 800)], pers := .stored },
   { name := "StrChargeTempMax", base := 0x4001, stride := 0x100, count := 4, sub := 9, last := 9, type := .i16, access := .rw, dflt := .num 720, spans := [(0, 1280)], pers := .stored },
   { name := "StrRebulkSoc", base := 0x4001, stride := 0x100, count := 4, sub := 10, last := 10, type := .u16, access := .rw, dflt := .num 9000, spans := [(5000, 9900)], pers := .stored },
   { name := "StrChargeEff", base := 0x4001, stride := 0x100, count := 4, sub := 11, last := 11, type := .u16, access := .rw, dflt := .num 10000, spans := [(5000, 10000)], pers := .stored }] ++
  [{ name := "StrChargePhase", base := 0x4001, stride := 0x100, count := 4, sub := 12, last := 12, type := .u8, access := .ro, spans := [(0, 255)], pers := .volatile },
   { name := "StrChargeCmd", base := 0x4001, stride := 0x100, count := 4, sub := 13, last := 13, type := .i32, access := .ro, spans := [((-2147483648), 2147483647)], pers := .volatile }]

/-- The objects of Table 4.10. -/
def table4_10 : List Obj :=
  [{ name := "StrEstCount", base := 0x4002, stride := 0x100, count := 4, sub := 0, last := 0, type := .u8, access := .const, dflt := .num 21, spans := [(0, 255)] },
   { name := "StrState", base := 0x4002, stride := 0x100, count := 4, sub := 1, last := 1, type := .u8, access := .ro, spans := [(0, 255)], pers := .volatile },
   { name := "StrStatus", base := 0x4002, stride := 0x100, count := 4, sub := 2, last := 2, type := .u16, access := .ro, spans := [(0, 65535)], pers := .volatile },
   { name := "StrVoltage", base := 0x4002, stride := 0x100, count := 4, sub := 3, last := 3, type := .i32, access := .ro, spans := [((-2147483648), 2147483647)], pers := .volatile },
   { name := "StrCurrent", base := 0x4002, stride := 0x100, count := 4, sub := 4, last := 4, type := .i32, access := .ro, spans := [((-2147483648), 2147483647)], pers := .volatile },
   { name := "StrTemperature", base := 0x4002, stride := 0x100, count := 4, sub := 5, last := 5, type := .i16, access := .ro, spans := [((-32768), 32767)], pers := .volatile },
   { name := "StrSoc", base := 0x4002, stride := 0x100, count := 4, sub := 6, last := 6, type := .u16, access := .ro, spans := [(0, 65535)], pers := .volatile },
   { name := "StrSocAbs", base := 0x4002, stride := 0x100, count := 4, sub := 7, last := 7, type := .u16, access := .ro, spans := [(0, 65535)], pers := .volatile },
   { name := "StrSoh", base := 0x4002, stride := 0x100, count := 4, sub := 8, last := 8, type := .u16, access := .ro, spans := [(0, 65535)], pers := .volatile },
   { name := "StrCapacity", base := 0x4002, stride := 0x100, count := 4, sub := 9, last := 9, type := .u32, access := .ro, spans := [(0, 4294967295)], pers := .slot },
   { name := "StrTimeToShutdown", base := 0x4002, stride := 0x100, count := 4, sub := 10, last := 10, type := .u32, access := .ro, spans := [(0, 4294967295)], pers := .volatile },
   { name := "StrUsableEnergy", base := 0x4002, stride := 0x100, count := 4, sub := 11, last := 11, type := .u32, access := .ro, spans := [(0, 4294967295)], pers := .volatile }] ++
  [{ name := "StrResistance", base := 0x4002, stride := 0x100, count := 4, sub := 12, last := 12, type := .u32, access := .rw, spans := [(0, 10000000)], pers := .slot },
   { name := "StrErrorBudget", base := 0x4002, stride := 0x100, count := 4, sub := 13, last := 13, type := .u16, access := .ro, spans := [(0, 65535)], pers := .volatile },
   { name := "StrLastRest", base := 0x4002, stride := 0x100, count := 4, sub := 14, last := 14, type := .u32, access := .ro, spans := [(0, 4294967295)], pers := .slot },
   { name := "StrRestCurrent", base := 0x4002, stride := 0x100, count := 4, sub := 15, last := 15, type := .i32, access := .rw, spans := [(0, 100000)], pers := .stored },
   { name := "StrRestTime", base := 0x4002, stride := 0x100, count := 4, sub := 16, last := 16, type := .u16, access := .rw, dflt := .num 30, spans := [(5, 240)], pers := .stored },
   { name := "StrLearnWeight", base := 0x4002, stride := 0x100, count := 4, sub := 17, last := 17, type := .u16, access := .rw, dflt := .num 2500, spans := [(500, 10000)], pers := .stored },
   { name := "StrCountGainErr", base := 0x4002, stride := 0x100, count := 4, sub := 18, last := 18, type := .u16, access := .rw, dflt := .num 10, spans := [(0, 1000)], pers := .stored },
   { name := "StrCountOffset", base := 0x4002, stride := 0x100, count := 4, sub := 19, last := 19, type := .i32, access := .rw, dflt := .num 20, spans := [(0, 10000)], pers := .stored },
   { name := "StrLoadFilter", base := 0x4002, stride := 0x100, count := 4, sub := 20, last := 20, type := .u16, access := .rw, dflt := .num 60, spans := [(1, 3600)], pers := .stored },
   { name := "StrRequalify", base := 0x4002, stride := 0x100, count := 4, sub := 21, last := 21, type := .bool, access := .wo, spans := [(1, 1)] }]

/-- The objects of Table 4.11. -/
def table4_11 : List Obj :=
  [{ name := "StrOcvCount", base := 0x4003, stride := 0x100, count := 4, sub := 0, last := 0, type := .u8, access := .const, dflt := .num 33, spans := [(0, 255)] },
   { name := "StrOcvPoint", base := 0x4003, stride := 0x100, count := 4, sub := 1, last := 32, type := .u32, access := .hmp, spans := [(0, 4294967295)], pers := .stored },
   { name := "StrOcvTempCo", base := 0x4003, stride := 0x100, count := 4, sub := 33, last := 33, type := .i32, access := .hmp, spans := [((-5000), 5000)], pers := .stored }]

/-- The objects of Table 4.13. -/
def table4_13 : List Obj :=
  [{ name := "BattCount", base := 0x2c50, sub := 0, last := 0, type := .u8, access := .const, dflt := .num 18, spans := [(0, 255)] },
   { name := "ChargeRegLevel", base := 0x2c50, sub := 1, last := 1, type := .u16, access := .rw, dflt := .num 9600, spans := [(8500, 9950)], pers := .stored },
   { name := "ChargeRegBand", base := 0x2c50, sub := 2, last := 2, type := .u16, access := .rw, dflt := .num 50, spans := [(10, 500)], pers := .stored },
   { name := "BattHeartbeat", base := 0x2c50, sub := 3, last := 3, type := .u8, access := .wo, spans := [(0, 255)] },
   { name := "BattWatchdogPeriod", base := 0x2c50, sub := 4, last := 4, type := .u16, access := .rw, dflt := .num 60, spans := [(5, 600)], pers := .stored },
   { name := "FallowEnable", base := 0x2c50, sub := 5, last := 5, type := .bool, access := .rw, dflt := .num 1, spans := [(0, 1)], pers := .stored },
   { name := "FallowInterval", base := 0x2c50, sub := 6, last := 6, type := .u16, access := .rw, dflt := .num 72, spans := [(12, 720)], pers := .stored },
   { name := "FallowRetryDelay", base := 0x2c50, sub := 7, last := 7, type := .u16, access := .rw, dflt := .num 60, spans := [(10, 1440)], pers := .stored },
   { name := "FallowRequest", base := 0x2c50, sub := 8, last := 8, type := .u8, access := .wo, spans := [(0, 3)] },
   { name := "FallowString", base := 0x2c50, sub := 9, last := 9, type := .u8, access := .ro, dflt := .num 255, spans := [(0, 255)], pers := .volatile },
   { name := "ShipModeArm", base := 0x2c50, sub := 10, last := 10, type := .u16, access := .wo, spans := [(0, 0), (2650, 2650)] },
   { name := "ShipModeConfirm", base := 0x2c50, sub := 11, last := 11, type := .u16, access := .wo, spans := [(1445, 1445)] }] ++
  [{ name := "LongPressTime", base := 0x2c50, sub := 12, last := 12, type := .u16, access := .rw, dflt := .num 8000, spans := [(4000, 16000)], pers := .stored },
   { name := "LongPressOpenTime", base := 0x2c50, sub := 13, last := 13, type := .u16, access := .rw, dflt := .num 500, spans := [(100, 2000)], pers := .stored },
   { name := "StrSaveInterval", base := 0x2c50, sub := 14, last := 14, type := .u16, access := .rw, dflt := .num 15, spans := [(1, 1440)], pers := .stored },
   { name := "ChgBusKp", base := 0x2c50, sub := 15, last := 15, type := .u32, access := .rw, dflt := .num 10000, spans := [(0, 1000000)], pers := .stored },
   { name := "ChgBusKi", base := 0x2c50, sub := 16, last := 16, type := .u32, access := .rw, dflt := .num 2000, spans := [(0, 100000)], pers := .stored },
   { name := "ChgVoltKp", base := 0x2c50, sub := 17, last := 17, type := .u32, access := .rw, dflt := .num 2000, spans := [(0, 1000000)], pers := .stored },
   { name := "ChgVoltKi", base := 0x2c50, sub := 18, last := 18, type := .u32, access := .rw, dflt := .num 400, spans := [(0, 100000)], pers := .stored }]

/-- The objects of Table 5.4. -/
def table5_4 : List Obj :=
  [{ name := "PpCfgCount", base := 0x2d80, stride := 0x10, count := 8, sub := 0, last := 0, type := .u8, access := .const, dflt := .num 22, spans := [(0, 255)] },
   { name := "PpRole", base := 0x2d80, stride := 0x10, count := 8, sub := 1, last := 1, type := .u8, access := .hmp, spans := [(0, 3)], pers := .stored },
   { name := "PpEnable", base := 0x2d80, stride := 0x10, count := 8, sub := 2, last := 2, type := .bool, access := .rw, spans := [(0, 1)], pers := .stored },
   { name := "PpVinScale", base := 0x2d80, stride := 0x10, count := 8, sub := 3, last := 3, type := .i32, access := .rw, dflt := .num 1500000, spans := [(100000, 2000000)], pers := .stored },
   { name := "PpVoutScale", base := 0x2d80, stride := 0x10, count := 8, sub := 4, last := 4, type := .i32, access := .rw, dflt := .num 1500000, spans := [(100000, 2000000)], pers := .stored },
   { name := "PpIScale", base := 0x2d80, stride := 0x10, count := 8, sub := 5, last := 5, type := .i32, access := .rw, dflt := .num 100000, spans := [(1000, 1000000)], pers := .stored },
   { name := "PpUvRise", base := 0x2d80, stride := 0x10, count := 8, sub := 6, last := 6, type := .i32, access := .rw, dflt := .num 432000, spans := [(1000, 2000000)], pers := .stored },
   { name := "PpUvHyst", base := 0x2d80, stride := 0x10, count := 8, sub := 7, last := 7, type := .i32, access := .rw, dflt := .num 10000, spans := [(0, 200000)], pers := .stored },
   { name := "PpOvFall", base := 0x2d80, stride := 0x10, count := 8, sub := 8, last := 8, type := .i32, access := .rw, dflt := .num 560000, spans := [(1000, 2000000)], pers := .stored },
   { name := "PpOvHyst", base := 0x2d80, stride := 0x10, count := 8, sub := 9, last := 9, type := .i32, access := .rw, dflt := .num 10000, spans := [(0, 200000)], pers := .stored },
   { name := "PpInsertDelay", base := 0x2d80, stride := 0x10, count := 8, sub := 10, last := 10, type := .u32, access := .rw, dflt := .num 500, spans := [(10, 10000)], pers := .stored },
   { name := "PpRampRate", base := 0x2d80, stride := 0x10, count := 8, sub := 11, last := 11, type := .u32, access := .rw, dflt := .num 1000, spans := [(10, 100000)], pers := .stored }] ++
  [{ name := "PpCurrentLimit", base := 0x2d80, stride := 0x10, count := 8, sub := 12, last := 12, type := .i32, access := .rw, dflt := .num 20000, spans := [(100, 500000)], pers := .stored },
   { name := "PpFaultTime", base := 0x2d80, stride := 0x10, count := 8, sub := 13, last := 13, type := .u32, access := .rw, dflt := .num 10000, spans := [(100, 1000000)], pers := .stored },
   { name := "PpRampTimeout", base := 0x2d80, stride := 0x10, count := 8, sub := 14, last := 14, type := .u16, access := .rw, dflt := .num 500, spans := [(1, 10000)], pers := .stored },
   { name := "PpRetryDuty", base := 0x2d80, stride := 0x10, count := 8, sub := 15, last := 15, type := .u16, access := .rw, dflt := .num 100, spans := [(10, 1000)], pers := .stored },
   { name := "PpRetryCount", base := 0x2d80, stride := 0x10, count := 8, sub := 16, last := 16, type := .u8, access := .rw, dflt := .num 10, spans := [(0, 255)], pers := .stored },
   { name := "PpPgDrop", base := 0x2d80, stride := 0x10, count := 8, sub := 17, last := 17, type := .i32, access := .rw, dflt := .num 5000, spans := [(100, 100000)], pers := .stored },
   { name := "PpPgQualTime", base := 0x2d80, stride := 0x10, count := 8, sub := 18, last := 18, type := .u16, access := .rw, dflt := .num 1000, spans := [(10, 60000)], pers := .stored },
   { name := "PpOrFwdDrop", base := 0x2d80, stride := 0x10, count := 8, sub := 19, last := 19, type := .i32, access := .rw, dflt := .num 200, spans := [(50, 1000)], pers := .stored },
   { name := "PpOrOnDrop", base := 0x2d80, stride := 0x10, count := 8, sub := 20, last := 20, type := .i32, access := .rw, dflt := .num 230, spans := [(100, 5000)], pers := .stored },
   { name := "PpOrVdsGain", base := 0x2d80, stride := 0x10, count := 8, sub := 21, last := 21, type := .u16, access := .rw, dflt := .num 1000, spans := [(100, 10000)], pers := .stored },
   { name := "PpRetryClear", base := 0x2d80, stride := 0x10, count := 8, sub := 22, last := 22, type := .u16, access := .rw, dflt := .num 10, spans := [(1, 3600)], pers := .stored }]

/-- The objects of Table 5.5. -/
def table5_5 : List Obj :=
  [{ name := "PpStatCount", base := 0x2d81, stride := 0x10, count := 8, sub := 0, last := 0, type := .u8, access := .const, dflt := .num 10, spans := [(0, 255)] },
   { name := "PpState", base := 0x2d81, stride := 0x10, count := 8, sub := 1, last := 1, type := .u8, access := .ro, spans := [(0, 255)], pers := .volatile },
   { name := "PpStatus", base := 0x2d81, stride := 0x10, count := 8, sub := 2, last := 2, type := .u16, access := .ro, spans := [(0, 65535)], pers := .volatile },
   { name := "PpVin", base := 0x2d81, stride := 0x10, count := 8, sub := 3, last := 3, type := .i32, access := .ro, spans := [((-2147483648), 2147483647)], pers := .volatile },
   { name := "PpVout", base := 0x2d81, stride := 0x10, count := 8, sub := 4, last := 4, type := .i32, access := .ro, spans := [((-2147483648), 2147483647)], pers := .volatile },
   { name := "PpCurrent", base := 0x2d81, stride := 0x10, count := 8, sub := 5, last := 5, type := .i32, access := .ro, spans := [((-2147483648), 2147483647)], pers := .volatile },
   { name := "PpForwardDrop", base := 0x2d81, stride := 0x10, count := 8, sub := 6, last := 6, type := .i32, access := .ro, spans := [((-2147483648), 2147483647)], pers := .volatile },
   { name := "PpRetriesLeft", base := 0x2d81, stride := 0x10, count := 8, sub := 7, last := 7, type := .u8, access := .ro, spans := [(0, 255)], pers := .volatile },
   { name := "PpTripCount", base := 0x2d81, stride := 0x10, count := 8, sub := 8, last := 8, type := .u16, access := .ro, spans := [(0, 65535)], pers := .volatile },
   { name := "PpReverseCount", base := 0x2d81, stride := 0x10, count := 8, sub := 9, last := 9, type := .u16, access := .ro, spans := [(0, 65535)], pers := .volatile },
   { name := "PpShedPower", base := 0x2d81, stride := 0x10, count := 8, sub := 10, last := 10, type := .i32, access := .ro, spans := [((-2147483648), 2147483647)], pers := .volatile }]

/-- The objects of Table 6.2. -/
def table6_2 : List Obj :=
  [{ name := "WmCount", base := 0x2a00, stride := 0x1, count := 64, sub := 0, last := 0, type := .u8, access := .const, dflt := .num 18, spans := [(0, 255)] },
   { name := "WmEnable", base := 0x2a00, stride := 0x1, count := 64, sub := 1, last := 1, type := .bool, access := .rw, spans := [(0, 1)], pers := .stored },
   { name := "WmChannel", base := 0x2a00, stride := 0x1, count := 64, sub := 2, last := 2, type := .u8, access := .rw, dflt := .num 104, spans := [(32, 47), (56, 59), (64, 67), (80, 95), (104, 127)], pers := .stored },
   { name := "WmMode", base := 0x2a00, stride := 0x1, count := 64, sub := 3, last := 3, type := .u8, access := .rw, spans := [(0, 4)], pers := .stored },
   { name := "WmUvFault", base := 0x2a00, stride := 0x1, count := 64, sub := 4, last := 4, type := .i32, access := .rw, spans := [(0, 2000000)], pers := .stored },
   { name := "WmOvFault", base := 0x2a00, stride := 0x1, count := 64, sub := 5, last := 5, type := .i32, access := .rw, dflt := .num 11990, spans := [(0, 2000000)], pers := .stored },
   { name := "WmHyst", base := 0x2a00, stride := 0x1, count := 64, sub := 6, last := 6, type := .u8, access := .rw, dflt := .num 2, spans := [(0, 15)], pers := .stored },
   { name := "WmDeglitch", base := 0x2a00, stride := 0x1, count := 64, sub := 7, last := 7, type := .u16, access := .rw, dflt := .num 10, spans := [(0, 65535)], pers := .stored },
   { name := "WmUvWarn", base := 0x2a00, stride := 0x1, count := 64, sub := 8, last := 8, type := .i32, access := .rw, spans := [(0, 2000000)], pers := .stored },
   { name := "WmOvWarn", base := 0x2a00, stride := 0x1, count := 64, sub := 9, last := 9, type := .i32, access := .rw, dflt := .num 11990, spans := [(0, 2000000)], pers := .stored },
   { name := "WmWarnFilter", base := 0x2a00, stride := 0x1, count := 64, sub := 10, last := 10, type := .u16, access := .rw, dflt := .num 1000, spans := [(1, 65535)], pers := .stored },
   { name := "WmRail", base := 0x2a00, stride := 0x1, count := 64, sub := 11, last := 11, type := .u8, access := .rw, dflt := .num 255, spans := [(0, 15), (255, 255)], pers := .stored }] ++
  [{ name := "WmFollowMargin", base := 0x2a00, stride := 0x1, count := 64, sub := 12, last := 12, type := .bool, access := .rw, spans := [(0, 1)], pers := .stored },
   { name := "WmOvKill", base := 0x2a00, stride := 0x1, count := 64, sub := 13, last := 13, type := .bool, access := .rw, spans := [(0, 1)], pers := .stored },
   { name := "WmUvCode", base := 0x2a00, stride := 0x1, count := 64, sub := 14, last := 14, type := .u16, access := .ro, spans := [(0, 65535)], pers := .volatile },
   { name := "WmOvCode", base := 0x2a00, stride := 0x1, count := 64, sub := 15, last := 15, type := .u16, access := .ro, spans := [(0, 65535)], pers := .volatile },
   { name := "WmStatus", base := 0x2a00, stride := 0x1, count := 64, sub := 16, last := 16, type := .u16, access := .ro, spans := [(0, 65535)], pers := .volatile },
   { name := "WmValue", base := 0x2a00, stride := 0x1, count := 64, sub := 17, last := 17, type := .i32, access := .ro, spans := [((-2147483648), 2147483647)], pers := .volatile },
   { name := "WmScale", base := 0x2a00, stride := 0x1, count := 64, sub := 18, last := 18, type := .i32, access := .rw, dflt := .num 12000, spans := [(1000, 2000000)], pers := .stored }]

/-- The objects of Table 6.8. -/
def table6_8 : List Obj :=
  [{ name := "SeqUpWordA", base := 0x2900, sub := 1, last := 64, type := .u32, access := .hmp, spans := [(0, 4294967295)], mask := (some 0xfff000ff), pers := .stored },
   { name := "SeqUpWordB", base := 0x2901, sub := 1, last := 64, type := .u32, access := .hmp, spans := [(0, 4294967295)], pers := .stored },
   { name := "SeqDownWordA", base := 0x2902, sub := 1, last := 64, type := .u32, access := .hmp, spans := [(0, 4294967295)], mask := (some 0xfff000ff), pers := .stored },
   { name := "SeqDownWordB", base := 0x2903, sub := 1, last := 64, type := .u32, access := .hmp, spans := [(0, 4294967295)], pers := .stored },
   { name := "SeqCtlCount", base := 0x2904, sub := 0, last := 0, type := .u8, access := .const, dflt := .num 14, spans := [(0, 255)] },
   { name := "SeqUpLength", base := 0x2904, sub := 1, last := 1, type := .u8, access := .hmp, spans := [(0, 64)], pers := .stored },
   { name := "SeqDownLength", base := 0x2904, sub := 2, last := 2, type := .u8, access := .hmp, spans := [(0, 64)], pers := .stored },
   { name := "SeqCommand", base := 0x2904, sub := 3, last := 3, type := .u8, access := .wo, spans := [(0, 1)] },
   { name := "SeqAutoStart", base := 0x2904, sub := 4, last := 4, type := .bool, access := .rw, dflt := .num 1, spans := [(0, 1)], pers := .stored },
   { name := "SeqState", base := 0x2904, sub := 5, last := 5, type := .u8, access := .ro, spans := [(0, 255)], pers := .volatile },
   { name := "SeqEntry", base := 0x2904, sub := 6, last := 6, type := .u8, access := .ro, dflt := .num 255, spans := [(0, 255)], pers := .volatile },
   { name := "SeqMinOffTime", base := 0x2904, sub := 7, last := 7, type := .u16, access := .rw, dflt := .num 100, spans := [(10, 60000)], pers := .stored }] ++
  [{ name := "SeqPgQualTime", base := 0x2904, sub := 8, last := 8, type := .u16, access := .rw, dflt := .num 1000, spans := [(10, 60000)], pers := .stored },
   { name := "SeqUpTimeoutAction", base := 0x2904, sub := 9, last := 9, type := .u8, access := .rw, dflt := .num 1, spans := [(0, 1)], pers := .stored },
   { name := "SeqChatterAction", base := 0x2904, sub := 10, last := 10, type := .u8, access := .rw, dflt := .num 1, spans := [(0, 2)], pers := .stored },
   { name := "SeqReached", base := 0x2904, sub := 11, last := 11, type := .u32, access := .ro, spans := [(0, 4294967295)], pers := .volatile },
   { name := "SeqReachedAux", base := 0x2904, sub := 12, last := 12, type := .u16, access := .ro, spans := [(0, 65535)], pers := .volatile },
   { name := "SeqRailGood", base := 0x2904, sub := 13, last := 13, type := .u16, access := .ro, spans := [(0, 65535)], pers := .volatile },
   { name := "SeqChatterMask", base := 0x2904, sub := 14, last := 14, type := .u16, access := .ro, spans := [(0, 65535)], pers := .volatile },
   { name := "PgFollow", base := 0x2905, sub := 1, last := 8, type := .u16, access := .hmp, spans := [(0, 65535)], check := .pgFollow, pers := .stored },
   { name := "PgOutState", base := 0x2905, sub := 9, last := 9, type := .u8, access := .ro, spans := [(0, 255)], pers := .volatile },
   { name := "MarginCount", base := 0x2910, sub := 0, last := 0, type := .u8, access := .const, dflt := .num 16, spans := [(0, 255)] },
   { name := "MarginRail", base := 0x2910, sub := 1, last := 16, type := .i16, access := .rw, spans := [((-100), 100)], pers := .volatile },
   { name := "Highest2900", base := 0x2900, sub := 0, last := 0, type := .u8, access := .const, dflt := .num 64, spans := [(0, 255)] }] ++
  [{ name := "Highest2901", base := 0x2901, sub := 0, last := 0, type := .u8, access := .const, dflt := .num 64, spans := [(0, 255)] },
   { name := "Highest2902", base := 0x2902, sub := 0, last := 0, type := .u8, access := .const, dflt := .num 64, spans := [(0, 255)] },
   { name := "Highest2903", base := 0x2903, sub := 0, last := 0, type := .u8, access := .const, dflt := .num 64, spans := [(0, 255)] },
   { name := "Highest2905", base := 0x2905, sub := 0, last := 0, type := .u8, access := .const, dflt := .num 9, spans := [(0, 255)] }]

/-- The objects of Table 7.14. -/
def table7_14 : List Obj :=
  [{ name := "MillCfgCount", base := 0x5000, stride := 0x100, count := 16, sub := 0, last := 0, type := .u8, access := .const, dflt := .num 17, spans := [(0, 255)] },
   { name := "MillSource", base := 0x5000, stride := 0x100, count := 16, sub := 1, last := 1, type := .u8, access := .hmp, spans := [(0, 2)], pers := .stored },
   { name := "MillUnit0–MillUnit3", base := 0x5000, stride := 0x100, count := 16, sub := 2, last := 5, type := .u16, access := .hmp, spans := [(0, 65535)], pers := .stored },
   { name := "MillOwnRails", base := 0x5000, stride := 0x100, count := 16, sub := 6, last := 6, type := .u16, access := .hmp, spans := [(0, 65535)], pers := .stored },
   { name := "MillOwnTrims", base := 0x5000, stride := 0x100, count := 16, sub := 7, last := 7, type := .bool, access := .hmp, spans := [(0, 1)], pers := .stored },
   { name := "MillTrig", base := 0x5000, stride := 0x100, count := 16, sub := 8, last := 11, type := .u16, access := .hmp, spans := [(0, 65535)], pers := .stored },
   { name := "MillTrigEntry", base := 0x5000, stride := 0x100, count := 16, sub := 12, last := 15, type := .u16, access := .hmp, spans := [(0, 2047)], pers := .stored },
   { name := "MillTimer", base := 0x5000, stride := 0x100, count := 16, sub := 16, last := 16, type := .u32, access := .hmp, dflt := .num 10000, spans := [(100, 100000000)], pers := .stored },
   { name := "MillCodeLength", base := 0x5000, stride := 0x100, count := 16, sub := 17, last := 17, type := .u16, access := .hmp, spans := [(0, 2048)], pers := .stored },
   { name := "MillCode", base := 0x5001, stride := 0x100, count := 16, sub := 1, last := 1, type := .dom, access := .hmp, dflt := .bytes [], lens := (0, 12288), pers := .stored },
   { name := "MillCoefValue", base := 0x5002, stride := 0x100, count := 16, sub := 1, last := 128, type := .i32, access := .hmp, spans := [((-2147483648), 2147483647)], pers := .stored },
   { name := "MillCoefValue", base := 0x5003, stride := 0x100, count := 16, sub := 1, last := 128, type := .i32, access := .hmp, spans := [((-2147483648), 2147483647)], pers := .stored }] ++
  [{ name := "MillCoefShift", base := 0x5004, stride := 0x100, count := 16, sub := 1, last := 128, type := .i16, access := .hmp, spans := [((-16), 15)], pers := .stored },
   { name := "MillCoefShift", base := 0x5005, stride := 0x100, count := 16, sub := 1, last := 128, type := .i16, access := .hmp, spans := [((-16), 15)], pers := .stored },
   { name := "MillStateWord", base := 0x5007, stride := 0x100, count := 16, sub := 1, last := 128, type := .i32, access := .ro, spans := [((-2147483648), 2147483647)], pers := .volatile },
   { name := "MillOut", base := 0x5008, stride := 0x100, count := 16, sub := 1, last := 16, type := .i32, access := .ro, spans := [((-2147483648), 2147483647)], pers := .volatile },
   { name := "Highest5002", base := 0x5002, stride := 0x100, count := 16, sub := 0, last := 0, type := .u8, access := .const, dflt := .num 128, spans := [(0, 255)] },
   { name := "Highest5003", base := 0x5003, stride := 0x100, count := 16, sub := 0, last := 0, type := .u8, access := .const, dflt := .num 128, spans := [(0, 255)] },
   { name := "Highest5004", base := 0x5004, stride := 0x100, count := 16, sub := 0, last := 0, type := .u8, access := .const, dflt := .num 128, spans := [(0, 255)] },
   { name := "Highest5005", base := 0x5005, stride := 0x100, count := 16, sub := 0, last := 0, type := .u8, access := .const, dflt := .num 128, spans := [(0, 255)] },
   { name := "Highest5007", base := 0x5007, stride := 0x100, count := 16, sub := 0, last := 0, type := .u8, access := .const, dflt := .num 128, spans := [(0, 255)] },
   { name := "Highest5008", base := 0x5008, stride := 0x100, count := 16, sub := 0, last := 0, type := .u8, access := .const, dflt := .num 16, spans := [(0, 255)] }]

/-- The objects of Table 7.15. -/
def table7_15 : List Obj :=
  [{ name := "MillStatCount", base := 0x5006, stride := 0x100, count := 16, sub := 0, last := 0, type := .u8, access := .const, dflt := .num 13, spans := [(0, 255)] },
   { name := "MillState", base := 0x5006, stride := 0x100, count := 16, sub := 1, last := 1, type := .u8, access := .ro, spans := [(0, 255)], pers := .volatile },
   { name := "MillStatus", base := 0x5006, stride := 0x100, count := 16, sub := 2, last := 2, type := .u16, access := .ro, spans := [(0, 65535)], pers := .volatile },
   { name := "MillLoad", base := 0x5006, stride := 0x100, count := 16, sub := 3, last := 3, type := .u16, access := .ro, spans := [(0, 65535)], pers := .volatile },
   { name := "MillMeasLoad", base := 0x5006, stride := 0x100, count := 16, sub := 4, last := 4, type := .u16, access := .ro, spans := [(0, 65535)], pers := .volatile },
   { name := "MillRuns", base := 0x5006, stride := 0x100, count := 16, sub := 5, last := 5, type := .u32, access := .ro, spans := [(0, 4294967295)], pers := .volatile },
   { name := "MillOverruns", base := 0x5006, stride := 0x100, count := 16, sub := 6, last := 6, type := .u16, access := .ro, spans := [(0, 65535)], pers := .volatile },
   { name := "MillSatCount", base := 0x5006, stride := 0x100, count := 16, sub := 7, last := 7, type := .u16, access := .ro, spans := [(0, 65535)], pers := .volatile },
   { name := "MillWriteRejects", base := 0x5006, stride := 0x100, count := 16, sub := 8, last := 8, type := .u16, access := .ro, spans := [(0, 65535)], pers := .volatile },
   { name := "MillRunTime", base := 0x5006, stride := 0x100, count := 16, sub := 9, last := 9, type := .u32, access := .ro, spans := [(0, 4294967295)], pers := .volatile },
   { name := "MillActiveBank", base := 0x5006, stride := 0x100, count := 16, sub := 10, last := 10, type := .u8, access := .ro, spans := [(0, 255)], pers := .volatile },
   { name := "MillEventCode", base := 0x5006, stride := 0x100, count := 16, sub := 11, last := 11, type := .u8, access := .ro, spans := [(0, 255)], pers := .volatile }] ++
  [{ name := "MillEventValue", base := 0x5006, stride := 0x100, count := 16, sub := 12, last := 12, type := .i32, access := .ro, spans := [((-2147483648), 2147483647)], pers := .volatile },
   { name := "MillStopPc", base := 0x5006, stride := 0x100, count := 16, sub := 13, last := 13, type := .u16, access := .ro, dflt := .num 65535, spans := [(0, 65535)], pers := .volatile },
   { name := "MillTraceCtl", base := 0x500c, stride := 0x100, count := 16, sub := 1, last := 1, type := .u8, access := .wo, spans := [(0, 2)] },
   { name := "MillTraceState", base := 0x500c, stride := 0x100, count := 16, sub := 2, last := 2, type := .u8, access := .ro, spans := [(0, 255)], pers := .volatile },
   { name := "MillTraceTrig", base := 0x500c, stride := 0x100, count := 16, sub := 3, last := 3, type := .u16, access := .rw, spans := [(0, 65535)], mask := (some 0xf3ff), pers := .volatile },
   { name := "MillTraceLevel", base := 0x500c, stride := 0x100, count := 16, sub := 4, last := 4, type := .i32, access := .rw, spans := [((-2147483648), 2147483647)], pers := .volatile },
   { name := "MillTracePre", base := 0x500c, stride := 0x100, count := 16, sub := 5, last := 5, type := .u16, access := .rw, spans := [(0, 4095)], pers := .volatile },
   { name := "MillTraceDecim", base := 0x500c, stride := 0x100, count := 16, sub := 6, last := 6, type := .u16, access := .rw, dflt := .num 1, spans := [(1, 65535)], pers := .volatile },
   { name := "MillTraceSlot", base := 0x500c, stride := 0x100, count := 16, sub := 7, last := 7, type := .u8, access := .rw, spans := [(0, 3)], pers := .volatile },
   { name := "MillTraceCount", base := 0x500c, stride := 0x100, count := 16, sub := 8, last := 8, type := .u16, access := .ro, spans := [(0, 65535)], pers := .volatile },
   { name := "MillTraceTrigPos", base := 0x500c, stride := 0x100, count := 16, sub := 9, last := 9, type := .u16, access := .ro, spans := [(0, 65535)], pers := .volatile },
   { name := "MillTraceDump", base := 0x500c, stride := 0x100, count := 16, sub := 10, last := 10, type := .bool, access := .rw, spans := [(0, 1)], pers := .stored }] ++
  [{ name := "MillTraceData", base := 0x500d, stride := 0x100, count := 16, sub := 1, last := 4, type := .dom, access := .ro, dflt := .bytes [], lens := (16384, 16384), pers := .volatile },
   { name := "MillTraceSel", base := 0x500e, stride := 0x100, count := 16, sub := 1, last := 4, type := .u32, access := .rw, spans := [(0, 4294967295)], mask := (some 0xc7ff007f), pers := .volatile },
   { name := "Highest500C", base := 0x500c, stride := 0x100, count := 16, sub := 0, last := 0, type := .u8, access := .const, dflt := .num 10, spans := [(0, 255)] },
   { name := "Highest500D", base := 0x500d, stride := 0x100, count := 16, sub := 0, last := 0, type := .u8, access := .const, dflt := .num 4, spans := [(0, 255)] },
   { name := "Highest500E", base := 0x500e, stride := 0x100, count := 16, sub := 0, last := 0, type := .u8, access := .const, dflt := .num 4, spans := [(0, 255)] }]

/-- The objects of Table 8.6. -/
def table8_6 : List Obj :=
  [{ name := "MarketCount", base := 0x2100, sub := 0, last := 0, type := .u8, access := .const, dflt := .num 6, spans := [(0, 255)] },
   { name := "MarketOutstanding", base := 0x2100, sub := 1, last := 1, type := .u16, access := .ro, spans := [(0, 65535)], pers := .volatile },
   { name := "MarketPeak", base := 0x2100, sub := 2, last := 2, type := .u16, access := .ro, spans := [(0, 65535)], pers := .volatile },
   { name := "MarketTimeout", base := 0x2100, sub := 3, last := 3, type := .u16, access := .rw, dflt := .num 50, spans := [(10, 1000)], pers := .stored },
   { name := "MarketNorTimeout", base := 0x2100, sub := 4, last := 4, type := .u16, access := .rw, dflt := .num 2000, spans := [(100, 10000)], pers := .stored },
   { name := "MarketBusyCount", base := 0x2100, sub := 5, last := 5, type := .u32, access := .ro, spans := [(0, 4294967295)], pers := .volatile },
   { name := "MarketFenceCount", base := 0x2100, sub := 6, last := 6, type := .u16, access := .ro, spans := [(0, 65535)], pers := .volatile },
   { name := "FenceCtlCount", base := 0x2110, sub := 0, last := 0, type := .u8, access := .const, dflt := .num 2, spans := [(0, 255)] },
   { name := "FenceClear", base := 0x2110, sub := 1, last := 1, type := .u32, access := .wo, spans := [(0, 16777215), (4294967295, 4294967295)] },
   { name := "FenceClearOrigin", base := 0x2110, sub := 2, last := 2, type := .u16, access := .wo, spans := [(0, 5), (16, 1039)] }]

/-- The objects of Table 8.12. -/
def table8_12 : List Obj :=
  [{ name := "HamperCount", base := 0x2120, sub := 0, last := 0, type := .u8, access := .const, dflt := .num 7, spans := [(0, 255)] },
   { name := "HamperOpen", base := 0x2120, sub := 1, last := 1, type := .u8, access := .ro, spans := [(0, 255)], pers := .volatile },
   { name := "HamperStage", base := 0x2120, sub := 2, last := 2, type := .u8, access := .rw, spans := [(0, 255)], pers := .volatile },
   { name := "HamperCommand", base := 0x2120, sub := 3, last := 3, type := .u32, access := .wo, spans := [(0, 4294967295)], check := .hamperCommand },
   { name := "HamperTimeout", base := 0x2120, sub := 4, last := 4, type := .u16, access := .rw, dflt := .num 30, spans := [(1, 3600)], pers := .stored },
   { name := "HamperOpenCount", base := 0x2120, sub := 5, last := 5, type := .u8, access := .ro, spans := [(0, 255)], pers := .volatile },
   { name := "DomainVoteWindow", base := 0x2120, sub := 6, last := 6, type := .u16, access := .rw, dflt := .num 20, spans := [(5, 1000)], pers := .stored },
   { name := "DomainReportTime", base := 0x2120, sub := 7, last := 7, type := .u16, access := .rw, dflt := .num 100, spans := [(10, 10000)], pers := .stored },
   { name := "HamperState", base := 0x2121, sub := 1, last := 255, type := .u8, access := .ro, spans := [(0, 255)], pers := .volatile },
   { name := "HamperResult", base := 0x2122, sub := 1, last := 255, type := .u32, access := .ro, spans := [(0, 4294967295)], pers := .volatile },
   { name := "HamperApplyTime", base := 0x2123, sub := 1, last := 255, type := .dom, access := .rw, dflt := .bytes [], lens := (8, 8), pers := .volatile },
   { name := "HamperNodes", base := 0x2124, sub := 1, last := 255, type := .dom, access := .rw, dflt := .bytes [], lens := (128, 128), pers := .volatile }] ++
  [{ name := "HamperMissing", base := 0x2125, sub := 1, last := 255, type := .dom, access := .ro, dflt := .bytes [], lens := (128, 128), pers := .volatile },
   { name := "Highest2121", base := 0x2121, sub := 0, last := 0, type := .u8, access := .const, dflt := .num 255, spans := [(0, 255)] },
   { name := "Highest2122", base := 0x2122, sub := 0, last := 0, type := .u8, access := .const, dflt := .num 255, spans := [(0, 255)] },
   { name := "Highest2123", base := 0x2123, sub := 0, last := 0, type := .u8, access := .const, dflt := .num 255, spans := [(0, 255)] },
   { name := "Highest2124", base := 0x2124, sub := 0, last := 0, type := .u8, access := .const, dflt := .num 255, spans := [(0, 255)] },
   { name := "Highest2125", base := 0x2125, sub := 0, last := 0, type := .u8, access := .const, dflt := .num 255, spans := [(0, 255)] }]

/-- The objects of Table 9.4. -/
def table9_4 : List Obj :=
  [{ name := "DeviceType", base := 0x1000, sub := 0, last := 0, type := .u32, access := .const, spans := [(0, 4294967295)] },
   { name := "ErrorRegister", base := 0x1001, sub := 0, last := 0, type := .u8, access := .ro, spans := [(0, 255)], pers := .volatile },
   { name := "CobIdSync", base := 0x1005, sub := 0, last := 0, type := .u32, access := .rw, dflt := .num 128, spans := [(0, 4294967295)], pers := .stored },
   { name := "CobIdEmcy", base := 0x1014, sub := 0, last := 0, type := .u32, access := .rw, dflt := .num (-1), spans := [(0, 4294967295)], pers := .stored },
   { name := "InhibitTimeEmcy", base := 0x1015, sub := 0, last := 0, type := .u16, access := .rw, spans := [(0, 65535)], pers := .stored },
   { name := "ConsumerHeartbeatTime", base := 0x1016, sub := 1, last := 4, type := .u32, access := .rw, spans := [(0, 4294967295)], pers := .stored },
   { name := "ProducerHeartbeatTime", base := 0x1017, sub := 0, last := 0, type := .u16, access := .rw, dflt := .num 1000, spans := [(0, 65535)], pers := .stored },
   { name := "Identity", base := 0x1018, sub := 1, last := 4, type := .u32, access := .const, spans := [(0, 4294967295)] },
   { name := "SyncCounterOverflow", base := 0x1019, sub := 0, last := 0, type := .u8, access := .rw, spans := [(0, 0), (2, 240)], pers := .stored },
   { name := "RpdoCount", base := 0x1400, stride := 0x1, count := 16, sub := 0, last := 0, type := .u8, access := .const, dflt := .num 5, spans := [(0, 255)] },
   { name := "RpdoCobId", base := 0x1400, stride := 0x1, count := 16, sub := 1, last := 1, type := .u32, access := .rw, dflt := .num 2147483648, spans := [(0, 4294967295)], pers := .stored },
   { name := "RpdoType", base := 0x1400, stride := 0x1, count := 16, sub := 2, last := 2, type := .u8, access := .rw, dflt := .num 254, spans := [(1, 240), (254, 255)], pers := .stored }] ++
  [{ name := "RpdoInhibit", base := 0x1400, stride := 0x1, count := 16, sub := 3, last := 3, type := .u16, access := .rw, spans := [(0, 65535)], pers := .stored },
   { name := "RpdoTimer", base := 0x1400, stride := 0x1, count := 16, sub := 5, last := 5, type := .u16, access := .rw, spans := [(0, 65535)], pers := .stored },
   { name := "TpdoCount", base := 0x1800, stride := 0x1, count := 16, sub := 0, last := 0, type := .u8, access := .const, dflt := .num 6, spans := [(0, 255)] },
   { name := "TpdoCobId", base := 0x1800, stride := 0x1, count := 16, sub := 1, last := 1, type := .u32, access := .rw, dflt := .num 2147483648, spans := [(0, 4294967295)], pers := .stored },
   { name := "TpdoType", base := 0x1800, stride := 0x1, count := 16, sub := 2, last := 2, type := .u8, access := .rw, dflt := .num 254, spans := [(1, 240), (254, 255)], pers := .stored },
   { name := "TpdoInhibit", base := 0x1800, stride := 0x1, count := 16, sub := 3, last := 3, type := .u16, access := .rw, spans := [(0, 65535)], pers := .stored },
   { name := "TpdoTimer", base := 0x1800, stride := 0x1, count := 16, sub := 5, last := 5, type := .u16, access := .rw, spans := [(0, 65535)], pers := .stored },
   { name := "TpdoSyncStart", base := 0x1800, stride := 0x1, count := 16, sub := 6, last := 6, type := .u8, access := .rw, spans := [(0, 240)], pers := .stored },
   { name := "RpdoMapCount", base := 0x1600, stride := 0x1, count := 16, sub := 0, last := 0, type := .u8, access := .rw, spans := [(0, 64)], pers := .stored },
   { name := "RpdoMap", base := 0x1600, stride := 0x1, count := 16, sub := 1, last := 64, type := .u32, access := .rw, spans := [(0, 4294967295)], pers := .stored },
   { name := "TpdoMapCount", base := 0x1a00, stride := 0x1, count := 16, sub := 0, last := 0, type := .u8, access := .rw, spans := [(0, 64)], pers := .stored },
   { name := "TpdoMap", base := 0x1a00, stride := 0x1, count := 16, sub := 1, last := 64, type := .u32, access := .rw, spans := [(0, 4294967295)], pers := .stored },
   { name := "Highest1016", base := 0x1016, sub := 0, last := 0, type := .u8, access := .const, dflt := .num 4, spans := [(0, 255)] }] ++
  [{ name := "Highest1018", base := 0x1018, sub := 0, last := 0, type := .u8, access := .const, dflt := .num 4, spans := [(0, 255)] }]

/-- The objects of Table 9.5. -/
def table9_5 : List Obj :=
  [{ name := "CanCfgCount", base := 0x2200, sub := 0, last := 0, type := .u8, access := .const, dflt := .num 9, spans := [(0, 255)] },
   { name := "CanNodeId", base := 0x2200, sub := 1, last := 1, type := .u8, access := .rw, dflt := .num 127, spans := [(1, 127)], pers := .stored },
   { name := "CanNominalRate", base := 0x2200, sub := 2, last := 2, type := .u8, access := .rw, dflt := .num 2, spans := [(0, 3)], pers := .stored },
   { name := "CanDataRate", base := 0x2200, sub := 3, last := 3, type := .u8, access := .rw, dflt := .num 2, spans := [(0, 4)], pers := .stored },
   { name := "CanNominalSample", base := 0x2200, sub := 4, last := 4, type := .u16, access := .rw, dflt := .num 8000, spans := [(6000, 9000)], pers := .stored },
   { name := "CanDataSample", base := 0x2200, sub := 5, last := 5, type := .u16, access := .rw, dflt := .num 7500, spans := [(6000, 9000)], pers := .stored },
   { name := "CanMode", base := 0x2200, sub := 6, last := 6, type := .u8, access := .rw, spans := [(0, 1)], pers := .stored },
   { name := "CanEmcyEnable", base := 0x2200, sub := 7, last := 7, type := .bool, access := .rw, dflt := .num 1, spans := [(0, 1)], pers := .stored },
   { name := "CanBusOffRestart", base := 0x2200, sub := 8, last := 8, type := .u16, access := .rw, dflt := .num 100, spans := [(10, 10000)], pers := .stored },
   { name := "UsdoTimeout", base := 0x2200, sub := 9, last := 9, type := .u16, access := .rw, dflt := .num 1000, spans := [(10, 60000)], pers := .stored },
   { name := "CanStatCount", base := 0x2201, sub := 0, last := 0, type := .u8, access := .const, dflt := .num 7, spans := [(0, 255)] },
   { name := "CanStatus", base := 0x2201, sub := 1, last := 2, type := .u16, access := .ro, spans := [(0, 65535)], pers := .volatile }] ++
  [{ name := "CanErrorCounters", base := 0x2201, sub := 3, last := 4, type := .u16, access := .ro, spans := [(0, 65535)], pers := .volatile },
   { name := "CanEmcyLost", base := 0x2201, sub := 5, last := 5, type := .u16, access := .ro, spans := [(0, 65535)], pers := .volatile },
   { name := "CanRpdoStale", base := 0x2201, sub := 6, last := 6, type := .u16, access := .ro, spans := [(0, 65535)], pers := .volatile },
   { name := "CanRpdoRejects", base := 0x2201, sub := 7, last := 7, type := .u16, access := .ro, spans := [(0, 65535)], pers := .volatile }]

/-- The objects of Table 9.8. -/
def table9_8 : List Obj :=
  [{ name := "TwCount", base := 0x2210, sub := 0, last := 0, type := .u8, access := .const, dflt := .num 15, spans := [(0, 255)] },
   { name := "TwStrapAddr", base := 0x2210, sub := 1, last := 1, type := .u8, access := .ro, spans := [(0, 255)], pers := .volatile },
   { name := "TwAddrMode", base := 0x2210, sub := 2, last := 2, type := .u8, access := .rw, spans := [(0, 1)], pers := .stored },
   { name := "TwExtraAddr1–TwExtraAddr3", base := 0x2210, sub := 3, last := 5, type := .u8, access := .rw, spans := [(0, 0), (8, 11), (13, 119)], pers := .stored },
   { name := "TwAddrMask", base := 0x2210, sub := 6, last := 6, type := .u8, access := .rw, spans := [(0, 127)], pers := .stored },
   { name := "TwPecRequired", base := 0x2210, sub := 7, last := 7, type := .bool, access := .rw, dflt := .num 1, spans := [(0, 1)], pers := .stored },
   { name := "TwDataHold", base := 0x2210, sub := 8, last := 8, type := .u8, access := .rw, dflt := .num 30, spans := [(3, 90)], pers := .stored },
   { name := "TwSpikeFilter", base := 0x2210, sub := 9, last := 9, type := .u8, access := .rw, dflt := .num 5, spans := [(0, 10)], pers := .stored },
   { name := "TwSclTimeout", base := 0x2210, sub := 10, last := 10, type := .u8, access := .rw, dflt := .num 30, spans := [(25, 35)], pers := .stored },
   { name := "TwSdaTimeout", base := 0x2210, sub := 11, last := 11, type := .u8, access := .rw, dflt := .num 30, spans := [(25, 35)], pers := .stored },
   { name := "TwDupWindow", base := 0x2210, sub := 12, last := 12, type := .u16, access := .rw, dflt := .num 100, spans := [(0, 10000)], pers := .stored },
   { name := "TwStatus", base := 0x2210, sub := 13, last := 13, type := .u16, access := .ro, spans := [(0, 65535)], pers := .volatile }] ++
  [{ name := "TwPecErrors", base := 0x2210, sub := 14, last := 14, type := .u16, access := .ro, spans := [(0, 65535)], pers := .volatile },
   { name := "TwResultsLost", base := 0x2210, sub := 15, last := 15, type := .u16, access := .ro, spans := [(0, 65535)], pers := .volatile }]

/-- The objects of Table 9.14. -/
def table9_14 : List Obj :=
  [{ name := "SvcCount", base := 0x2220, sub := 0, last := 0, type := .u8, access := .const, dflt := .num 4, spans := [(0, 255)] },
   { name := "SvcRate", base := 0x2220, sub := 1, last := 1, type := .u32, access := .ro, dflt := .num 115200, spans := [(0, 4294967295)], pers := .volatile },
   { name := "SvcLinkTimeout", base := 0x2220, sub := 2, last := 2, type := .u16, access := .rw, dflt := .num 5000, spans := [(500, 60000)], pers := .stored },
   { name := "SvcCrcErrors", base := 0x2220, sub := 3, last := 3, type := .u16, access := .ro, spans := [(0, 65535)], pers := .volatile },
   { name := "SvcLinkDrops", base := 0x2220, sub := 4, last := 4, type := .u16, access := .ro, spans := [(0, 65535)], pers := .volatile }]

/-- The objects of Table 10.7. -/
def table10_7 : List Obj :=
  [{ name := "LaneCount", base := 0x2300, sub := 0, last := 0, type := .u8, access := .const, dflt := .num 16, spans := [(0, 255)] },
   { name := "LaneEnable", base := 0x2300, sub := 1, last := 1, type := .bool, access := .rw, spans := [(0, 1)], pers := .stored },
   { name := "LaneNodeId", base := 0x2300, sub := 2, last := 2, type := .u16, access := .rw, dflt := .num 1023, spans := [(0, 1023)], pers := .stored },
   { name := "LaneNodeIdNow", base := 0x2300, sub := 3, last := 3, type := .u16, access := .ro, spans := [(0, 65535)], pers := .volatile },
   { name := "LaneTimeEligible", base := 0x2300, sub := 4, last := 4, type := .bool, access := .rw, dflt := .num 1, spans := [(0, 1)], pers := .stored },
   { name := "LaneNodeTimeout", base := 0x2300, sub := 5, last := 5, type := .u16, access := .rw, dflt := .num 50, spans := [(20, 1000)], pers := .stored },
   { name := "LaneHoldover", base := 0x2300, sub := 6, last := 6, type := .u16, access := .rw, dflt := .num 100, spans := [(10, 10000)], pers := .stored },
   { name := "LaneShareReach", base := 0x2300, sub := 7, last := 7, type := .u16, access := .rw, dflt := .num 8, spans := [(1, 1023)], pers := .stored },
   { name := "LaneOdTimeout", base := 0x2300, sub := 8, last := 8, type := .u16, access := .rw, dflt := .num 100, spans := [(10, 10000)], pers := .stored },
   { name := "LaneState", base := 0x2300, sub := 9, last := 9, type := .u8, access := .ro, spans := [(0, 255)], pers := .volatile },
   { name := "LaneStatus", base := 0x2300, sub := 10, last := 10, type := .u16, access := .ro, spans := [(0, 65535)], pers := .volatile },
   { name := "LaneTimeMaster", base := 0x2300, sub := 11, last := 11, type := .u16, access := .ro, dflt := .num 65535, spans := [(0, 65535)], pers := .volatile }] ++
  [{ name := "LaneTimeHops", base := 0x2300, sub := 12, last := 12, type := .u16, access := .ro, spans := [(0, 65535)], pers := .volatile },
   { name := "LaneTime", base := 0x2300, sub := 13, last := 13, type := .dom, access := .ro, dflt := .bytes [], lens := (8, 8), pers := .volatile },
   { name := "LaneTimeSet", base := 0x2300, sub := 14, last := 14, type := .dom, access := .wo, dflt := .bytes [], lens := (8, 8) },
   { name := "LaneTimeEpoch", base := 0x2300, sub := 15, last := 15, type := .u8, access := .ro, spans := [(0, 255)], pers := .volatile },
   { name := "LaneMembers", base := 0x2300, sub := 16, last := 16, type := .u16, access := .ro, spans := [(0, 65535)], pers := .volatile },
   { name := "LanePortCount", base := 0x2301, sub := 0, last := 0, type := .u8, access := .const, dflt := .num 8, spans := [(0, 255)] },
   { name := "LanePortStatus", base := 0x2301, sub := 1, last := 2, type := .u8, access := .ro, spans := [(0, 255)], pers := .volatile },
   { name := "LaneLinkDelay", base := 0x2301, sub := 3, last := 4, type := .u32, access := .ro, spans := [(0, 4294967295)], pers := .volatile },
   { name := "LaneCrcErrors", base := 0x2301, sub := 5, last := 6, type := .u32, access := .ro, spans := [(0, 4294967295)], pers := .volatile },
   { name := "LaneLinkDowns", base := 0x2301, sub := 7, last := 8, type := .u16, access := .ro, spans := [(0, 65535)], pers := .volatile },
   { name := "LaneNodeMap", base := 0x2302, sub := 1, last := 1, type := .dom, access := .ro, dflt := .bytes [], lens := (128, 128), pers := .volatile },
   { name := "LaneGwCount", base := 0x2310, sub := 0, last := 0, type := .u8, access := .const, dflt := .num 4, spans := [(0, 255)] }] ++
  [{ name := "LaneGwRequest", base := 0x2310, sub := 1, last := 1, type := .dom, access := .wo, dflt := .bytes [], lens := (0, 258) },
   { name := "LaneGwResult", base := 0x2310, sub := 2, last := 2, type := .dom, access := .ro, dflt := .bytes [], lens := (0, 258), pers := .volatile },
   { name := "LaneGwPending", base := 0x2310, sub := 3, last := 3, type := .u8, access := .ro, spans := [(0, 255)], pers := .volatile },
   { name := "LaneGwLost", base := 0x2310, sub := 4, last := 4, type := .u16, access := .ro, spans := [(0, 65535)], pers := .volatile }]

/-- The objects of Table 11.7. -/
def table11_7 : List Obj :=
  [{ name := "SrcObjCount", base := 0x2700, stride := 0x1, count := 256, sub := 0, last := 0, type := .u8, access := .const, dflt := .num 11, spans := [(0, 255)] },
   { name := "SrcEnable", base := 0x2700, stride := 0x1, count := 256, sub := 1, last := 1, type := .bool, access := .rw, spans := [(0, 1)], pers := .stored },
   { name := "SrcCount", base := 0x2700, stride := 0x1, count := 256, sub := 2, last := 2, type := .u8, access := .rw, spans := [(1, 255)], pers := .stored },
   { name := "SrcWindow", base := 0x2700, stride := 0x1, count := 256, sub := 3, last := 3, type := .u32, access := .rw, spans := [(1, 3600000)], pers := .stored },
   { name := "SrcQuiet", base := 0x2700, stride := 0x1, count := 256, sub := 4, last := 4, type := .u32, access := .rw, spans := [(1, 3600000)], pers := .stored },
   { name := "SrcReaction", base := 0x2700, stride := 0x1, count := 256, sub := 5, last := 5, type := .u16, access := .hmp, spans := [(0, 65535)], pers := .stored },
   { name := "SrcForce", base := 0x2700, stride := 0x1, count := 256, sub := 6, last := 6, type := .bool, access := .wo, spans := [(1, 1)] },
   { name := "SrcState", base := 0x2700, stride := 0x1, count := 256, sub := 7, last := 7, type := .u8, access := .ro, spans := [(0, 255)], pers := .volatile },
   { name := "SrcRecoveries", base := 0x2700, stride := 0x1, count := 256, sub := 8, last := 8, type := .u16, access := .ro, spans := [(0, 65535)], pers := .volatile },
   { name := "SrcEvents", base := 0x2700, stride := 0x1, count := 256, sub := 9, last := 9, type := .u32, access := .ro, spans := [(0, 4294967295)], pers := .volatile },
   { name := "SrcLastCode", base := 0x2700, stride := 0x1, count := 256, sub := 10, last := 10, type := .u8, access := .ro, spans := [(0, 255)], pers := .volatile },
   { name := "SrcLastValue", base := 0x2700, stride := 0x1, count := 256, sub := 11, last := 11, type := .i32, access := .ro, spans := [((-2147483648), 2147483647)], pers := .volatile }]

/-- The objects of Table 11.8. -/
def table11_8 : List Obj :=
  [{ name := "WatchCount", base := 0x2600, sub := 0, last := 0, type := .u8, access := .const, dflt := .num 8, spans := [(0, 255)] },
   { name := "WatchActiveCount", base := 0x2600, sub := 1, last := 1, type := .u16, access := .ro, spans := [(0, 65535)], pers := .volatile },
   { name := "WatchSevereCount", base := 0x2600, sub := 2, last := 2, type := .u16, access := .ro, spans := [(0, 65535)], pers := .volatile },
   { name := "WatchFaultPin", base := 0x2600, sub := 3, last := 3, type := .bool, access := .ro, spans := [(0, 1)], pers := .volatile },
   { name := "WatchLastSource", base := 0x2600, sub := 4, last := 4, type := .u8, access := .ro, spans := [(0, 255)], pers := .volatile },
   { name := "MemLockLimit", base := 0x2600, sub := 5, last := 5, type := .u16, access := .rw, dflt := .num 500, spans := [(50, 5000)], pers := .stored },
   { name := "GreenLockLimit", base := 0x2600, sub := 6, last := 6, type := .u16, access := .rw, dflt := .num 1000, spans := [(100, 10000)], pers := .stored },
   { name := "LockRevocations", base := 0x2600, sub := 7, last := 7, type := .u16, access := .ro, spans := [(0, 65535)], pers := .volatile },
   { name := "WatchCorrected", base := 0x2600, sub := 8, last := 8, type := .u32, access := .ro, spans := [(0, 4294967295)], pers := .volatile },
   { name := "MemCorrCount", base := 0x2601, sub := 0, last := 0, type := .u8, access := .const, dflt := .num 5, spans := [(0, 255)] },
   { name := "MemCorrectedCount", base := 0x2601, sub := 1, last := 5, type := .u32, access := .ro, spans := [(0, 4294967295)], pers := .volatile },
   { name := "WatchStateMap", base := 0x2602, sub := 1, last := 1, type := .dom, access := .ro, dflt := .bytes [], lens := (64, 64), pers := .volatile }]

/-- The objects of Table 11.9. -/
def table11_9 : List Obj :=
  [{ name := "ThermCount", base := 0x2500, sub := 0, last := 0, type := .u8, access := .const, dflt := .num 10, spans := [(0, 255)] },
   { name := "ThermWarnLevel", base := 0x2500, sub := 1, last := 1, type := .i16, access := .rw, spans := [((-32768), 32767)], pers := .stored },
   { name := "ThermShutdownLevel", base := 0x2500, sub := 2, last := 2, type := .i16, access := .rw, spans := [((-32768), 32767)], pers := .stored },
   { name := "ThermStopMode", base := 0x2500, sub := 3, last := 3, type := .u8, access := .rw, spans := [(0, 1)], pers := .stored },
   { name := "ThermStopHorizon", base := 0x2500, sub := 4, last := 4, type := .u16, access := .rw, dflt := .num 1000, spans := [(50, 60000)], pers := .stored },
   { name := "ThermMask", base := 0x2500, sub := 5, last := 5, type := .u16, access := .hmp, spans := [(0, 65535)], mask := (some 0xfff), pers := .volatile },
   { name := "ThermHottest", base := 0x2500, sub := 6, last := 6, type := .i16, access := .ro, spans := [((-32768), 32767)], pers := .volatile },
   { name := "ThermHottestSensor", base := 0x2500, sub := 7, last := 7, type := .u8, access := .ro, spans := [(0, 255)], pers := .volatile },
   { name := "ThermSlope", base := 0x2500, sub := 8, last := 8, type := .i32, access := .ro, spans := [((-2147483648), 2147483647)], pers := .volatile },
   { name := "ThermPredict", base := 0x2500, sub := 9, last := 9, type := .u32, access := .ro, dflt := .num 4294967295, spans := [(0, 4294967295)], pers := .volatile },
   { name := "ThermStatus", base := 0x2500, sub := 10, last := 10, type := .u16, access := .ro, spans := [(0, 65535)], pers := .volatile },
   { name := "DieTempCount", base := 0x2501, sub := 0, last := 0, type := .u8, access := .const, dflt := .num 12, spans := [(0, 255)] }] ++
  [{ name := "DieTemp", base := 0x2501, sub := 1, last := 12, type := .i16, access := .ro, spans := [((-32768), 32767)], pers := .volatile }]

/-- The objects of Table 12.6. -/
def table12_6 : List Obj :=
  [{ name := "AlmCount", base := 0x2800, sub := 0, last := 0, type := .u8, access := .const, dflt := .num 11, spans := [(0, 255)] },
   { name := "AlmRepeatWindow", base := 0x2800, sub := 1, last := 1, type := .u16, access := .rw, dflt := .num 10000, spans := [(100, 60000)], pers := .stored },
   { name := "AlmRepeatFlush", base := 0x2800, sub := 2, last := 2, type := .u16, access := .rw, dflt := .num 60, spans := [(1, 600)], pers := .stored },
   { name := "AlmCheckpoint", base := 0x2800, sub := 3, last := 3, type := .u16, access := .rw, dflt := .num 60, spans := [(1, 1440)], pers := .stored },
   { name := "AlmNextSequence", base := 0x2800, sub := 4, last := 4, type := .u32, access := .ro, spans := [(0, 4294967295)], pers := .volatile },
   { name := "AlmTimeNow", base := 0x2800, sub := 5, last := 5, type := .dom, access := .ro, dflt := .bytes [], lens := (8, 8), pers := .volatile },
   { name := "AlmBuffered", base := 0x2800, sub := 6, last := 6, type := .u8, access := .ro, spans := [(0, 255)], pers := .volatile },
   { name := "AlmDropped", base := 0x2800, sub := 7, last := 7, type := .u32, access := .ro, spans := [(0, 4294967295)], pers := .volatile },
   { name := "AlmLostRecords", base := 0x2800, sub := 8, last := 8, type := .u32, access := .ro, spans := [(0, 4294967295)], pers := .volatile },
   { name := "AlmMode", base := 0x2800, sub := 9, last := 9, type := .u8, access := .ro, spans := [(0, 255)], pers := .volatile },
   { name := "AlmMainSectors", base := 0x2800, sub := 10, last := 10, type := .u16, access := .ro, spans := [(0, 65535)], pers := .volatile },
   { name := "AlmReserveUsed", base := 0x2800, sub := 11, last := 11, type := .u16, access := .ro, spans := [(0, 65535)], pers := .volatile }] ++
  [{ name := "AlmSnapMap", base := 0x2810, sub := 1, last := 128, type := .u8, access := .rw, dflt := .num 255, spans := [(0, 31), (255, 255)], pers := .stored },
   { name := "AlmSnapMap", base := 0x2811, sub := 1, last := 128, type := .u8, access := .rw, dflt := .num 255, spans := [(0, 31), (255, 255)], pers := .stored },
   { name := "AlmSnapList", base := 0x2820, stride := 0x1, count := 32, sub := 1, last := 12, type := .u32, access := .rw, spans := [(0, 4294967295)], mask := (some 0xffffff00), pers := .stored },
   { name := "AlmExportCount", base := 0x2840, sub := 0, last := 0, type := .u8, access := .const, dflt := .num 6, spans := [(0, 255)] },
   { name := "AlmExportCtl", base := 0x2840, sub := 1, last := 1, type := .u8, access := .wo, spans := [(0, 1)] },
   { name := "AlmExportState", base := 0x2840, sub := 2, last := 2, type := .u8, access := .ro, spans := [(0, 255)], pers := .volatile },
   { name := "AlmExportFirst", base := 0x2840, sub := 3, last := 3, type := .u32, access := .ro, spans := [(0, 4294967295)], pers := .volatile },
   { name := "AlmExportLast", base := 0x2840, sub := 4, last := 4, type := .u32, access := .ro, spans := [(0, 4294967295)], pers := .volatile },
   { name := "AlmExportData", base := 0x2840, sub := 5, last := 5, type := .dom, access := .ro, dflt := .bytes [], pers := .volatile },
   { name := "AlmExportReceipt", base := 0x2840, sub := 6, last := 6, type := .dom, access := .wo, dflt := .bytes [], lens := (32, 32) },
   { name := "Highest2810", base := 0x2810, sub := 0, last := 0, type := .u8, access := .const, dflt := .num 128, spans := [(0, 255)] },
   { name := "Highest2811", base := 0x2811, sub := 0, last := 0, type := .u8, access := .const, dflt := .num 128, spans := [(0, 255)] }] ++
  [{ name := "Highest2820", base := 0x2820, stride := 0x1, count := 32, sub := 0, last := 0, type := .u8, access := .const, dflt := .num 12, spans := [(0, 255)] }]

/-- The objects of Table 13.6. -/
def table13_6 : List Obj :=
  [{ name := "TwinCount", base := 0x2400, sub := 0, last := 0, type := .u8, access := .const, dflt := .num 14, spans := [(0, 255)] },
   { name := "TwinRole", base := 0x2400, sub := 1, last := 1, type := .u8, access := .ro, spans := [(0, 255)], pers := .volatile },
   { name := "TwinState", base := 0x2400, sub := 2, last := 2, type := .u8, access := .ro, spans := [(0, 255)], pers := .volatile },
   { name := "TwinStatus", base := 0x2400, sub := 3, last := 3, type := .u16, access := .ro, spans := [(0, 65535)], pers := .volatile },
   { name := "TwinGiveUpMap", base := 0x2400, sub := 4, last := 4, type := .dom, access := .hmp, dflt := .bytes giveUpDefault, lens := (32, 32), pers := .stored },
   { name := "TwinHbTimeout", base := 0x2400, sub := 5, last := 5, type := .u16, access := .rw, dflt := .num 2, spans := [(1, 50)], pers := .stored },
   { name := "TwinReturnHoldoff", base := 0x2400, sub := 6, last := 6, type := .u16, access := .rw, dflt := .num 60, spans := [(10, 3600)], pers := .stored },
   { name := "TwinAutoReturn", base := 0x2400, sub := 7, last := 7, type := .bool, access := .rw, dflt := .num 1, spans := [(0, 1)], pers := .stored },
   { name := "TwinExercise", base := 0x2400, sub := 8, last := 8, type := .u8, access := .wo, spans := [(1, 1)] },
   { name := "TwinTakeovers", base := 0x2400, sub := 9, last := 9, type := .u16, access := .ro, spans := [(0, 65535)], pers := .volatile },
   { name := "TwinLastCause", base := 0x2400, sub := 10, last := 10, type := .u8, access := .ro, spans := [(0, 255)], pers := .volatile },
   { name := "TwinLastGap", base := 0x2400, sub := 11, last := 11, type := .u32, access := .ro, spans := [(0, 4294967295)], pers := .volatile }] ++
  [{ name := "TwinPartnerSequence", base := 0x2400, sub := 12, last := 12, type := .u32, access := .ro, spans := [(0, 4294967295)], pers := .volatile },
   { name := "TwinMirrorAge", base := 0x2400, sub := 13, last := 13, type := .u32, access := .ro, spans := [(0, 4294967295)], pers := .volatile },
   { name := "TwinHealthyTime", base := 0x2400, sub := 14, last := 14, type := .u32, access := .ro, spans := [(0, 4294967295)], pers := .volatile }]

/-- The objects of Table 14.12. -/
def table14_12 : List Obj :=
  [{ name := "IdentCount", base := 0x2000, sub := 0, last := 0, type := .u8, access := .const, dflt := .num 9, spans := [(0, 255)] },
   { name := "ChipSerial", base := 0x2000, sub := 1, last := 1, type := .dom, access := .ro, dflt := .bytes [], lens := (8, 8) },
   { name := "Grade", base := 0x2000, sub := 2, last := 2, type := .u8, access := .ro, spans := [(0, 255)] },
   { name := "LifeCycleState", base := 0x2000, sub := 3, last := 3, type := .u8, access := .ro, spans := [(0, 255)] },
   { name := "ServiceVisitsLeft", base := 0x2000, sub := 4, last := 4, type := .u8, access := .ro, spans := [(0, 255)] },
   { name := "KeyHash", base := 0x2000, sub := 5, last := 5, type := .dom, access := .ro, dflt := .bytes [], lens := (32, 32) },
   { name := "ResetCause", base := 0x2000, sub := 6, last := 6, type := .u8, access := .ro, spans := [(0, 255)], pers := .volatile },
   { name := "BootTime", base := 0x2000, sub := 7, last := 7, type := .u32, access := .ro, spans := [(0, 4294967295)], pers := .volatile },
   { name := "ChipResetCmd", base := 0x2000, sub := 8, last := 8, type := .u16, access := .wo, spans := [(3165, 3165)] },
   { name := "AssetTag", base := 0x2000, sub := 9, last := 9, type := .str, access := .rw, dflt := .bytes [], lens := (0, 32) },
   { name := "ImageCount", base := 0x2010, sub := 0, last := 0, type := .u8, access := .const, dflt := .num 7, spans := [(0, 255)] },
   { name := "ImageSlotRunning", base := 0x2010, sub := 1, last := 1, type := .u8, access := .ro, spans := [(0, 255)], pers := .volatile }] ++
  [{ name := "ImageGenA", base := 0x2010, sub := 2, last := 2, type := .u32, access := .ro, spans := [(0, 4294967295)], pers := .volatile },
   { name := "ImageGenB", base := 0x2010, sub := 3, last := 3, type := .u32, access := .ro, spans := [(0, 4294967295)], pers := .volatile },
   { name := "ImageStatusA", base := 0x2010, sub := 4, last := 4, type := .u8, access := .ro, spans := [(0, 255)], pers := .volatile },
   { name := "ImageStatusB", base := 0x2010, sub := 5, last := 5, type := .u8, access := .ro, spans := [(0, 255)], pers := .volatile },
   { name := "UpdateState", base := 0x2010, sub := 6, last := 6, type := .u8, access := .ro, spans := [(0, 255)], pers := .volatile },
   { name := "UpdateReceived", base := 0x2010, sub := 7, last := 7, type := .u32, access := .ro, spans := [(0, 4294967295)], pers := .volatile },
   { name := "ParamCount", base := 0x2020, sub := 0, last := 0, type := .u8, access := .const, dflt := .num 7, spans := [(0, 255)] },
   { name := "ParamStoreCmd", base := 0x2020, sub := 1, last := 1, type := .u16, access := .wo, spans := [(23063, 23063)] },
   { name := "ParamStoreState", base := 0x2020, sub := 2, last := 2, type := .u8, access := .ro, spans := [(0, 255)], pers := .volatile },
   { name := "ParamSetInForce", base := 0x2020, sub := 3, last := 3, type := .u8, access := .ro, spans := [(0, 255)], pers := .volatile },
   { name := "ParamGeneration", base := 0x2020, sub := 4, last := 4, type := .u32, access := .ro, spans := [(0, 4294967295)], pers := .volatile },
   { name := "ParamLoadResult", base := 0x2020, sub := 5, last := 5, type := .u32, access := .ro, spans := [(0, 4294967295)], pers := .volatile }] ++
  [{ name := "ParamEntriesRejected", base := 0x2020, sub := 6, last := 6, type := .u16, access := .ro, spans := [(0, 65535)], pers := .volatile },
   { name := "ParamBodySize", base := 0x2020, sub := 7, last := 7, type := .u32, access := .ro, spans := [(0, 4294967295)], pers := .volatile },
   { name := "NorCount", base := 0x2030, sub := 0, last := 0, type := .u8, access := .const, dflt := .num 3, spans := [(0, 255)] },
   { name := "NorSize", base := 0x2030, sub := 1, last := 1, type := .u16, access := .ro, spans := [(0, 65535)], pers := .volatile },
   { name := "NorIoMode", base := 0x2030, sub := 2, last := 2, type := .u8, access := .ro, spans := [(0, 255)], pers := .volatile },
   { name := "NorClock", base := 0x2030, sub := 3, last := 3, type := .u32, access := .ro, spans := [(0, 4294967295)], pers := .volatile }]

/-- The objects of Table 15.6. -/
def table15_6 : List Obj :=
  [{ name := "BusTapScaleCount", base := 0x2c12, sub := 0, last := 0, type := .u8, access := .const, dflt := .num 1, spans := [(0, 255)] },
   { name := "BusTapScale", base := 0x2c12, sub := 1, last := 1, type := .i32, access := .rw, dflt := .num 1500000, spans := [(100000, 2000000)], pers := .stored }]

/-- The table that holds index `i` (Table 16.1). -/
def tableOf (i : Nat) : List Obj :=
  if 0x2640 ≤ i && i ≤ 0x2642 then table1_4
  else if 0x2D00 ≤ i && i < 0x2D80 then table2_1
  else if 0x2C10 ≤ i && i ≤ 0x2C11 then table2_4
  else if i == 0x2C30 then table2_6
  else if i == 0x2C20 then table2_7
  else if i == 0x2C00 || i == 0x2C18 then table2_9
  else if 0x2C40 ≤ i && i ≤ 0x2C42 then table2_10
  else if 0x4400 ≤ i && i < 0x4600 then table3_1
  else if 0x3000 ≤ i && i < 0x4000 && i % 256 == 0 then table3_8
  else if 0x3000 ≤ i && i < 0x4000 && i % 256 == 1 then table3_9
  else if 0x3000 ≤ i && i < 0x4000 && i % 256 == 2 then table3_10
  else if 0x4000 ≤ i && i < 0x4400 && i % 256 == 0 then table4_8
  else if 0x4000 ≤ i && i < 0x4400 && i % 256 == 1 then table4_9
  else if 0x4000 ≤ i && i < 0x4400 && i % 256 == 2 then table4_10
  else if 0x4000 ≤ i && i < 0x4400 && i % 256 == 3 then table4_11
  else if i == 0x2C50 then table4_13
  else if 0x2D80 ≤ i && i < 0x2E00 && i % 16 == 0 then table5_4
  else if 0x2D80 ≤ i && i < 0x2E00 && i % 16 == 1 then table5_5
  else if 0x2A00 ≤ i && i < 0x2A40 then table6_2
  else if 0x2900 ≤ i && i < 0x2A00 then table6_8
  else if 0x5000 ≤ i && i < 0x6000 && (i % 256 == 6 || 12 ≤ i % 256) then table7_15
  else if 0x2100 ≤ i && i ≤ 0x2110 then table8_6
  else if 0x2120 ≤ i && i ≤ 0x2125 then table8_12
  else if 0x1000 ≤ i && i < 0x2000 then table9_4
  else if 0x2200 ≤ i && i ≤ 0x2201 then table9_5
  else if i == 0x2210 then table9_8
  else if i == 0x2220 then table9_14
  else if 0x2300 ≤ i && i < 0x2400 then table10_7
  else if 0x2700 ≤ i && i < 0x2800 then table11_7
  else if 0x2600 ≤ i && i < 0x2640 then table11_8
  else if 0x2500 ≤ i && i < 0x2600 then table11_9
  else if 0x2800 ≤ i && i < 0x2900 then table12_6
  else if 0x2400 ≤ i && i < 0x2500 then table13_6
  else if 0x2000 ≤ i && i < 0x2100 then table14_12
  else if i == 0x2C12 then table15_6
  else if 0x5000 ≤ i && i < 0x6000 then table7_14
  else []

/-- The row covers index `i`, sub-index `j`. -/
def Obj.covers (o : Obj) (i j : Nat) : Bool :=
  decide (o.base ≤ i) && (i - o.base) % o.stride == 0 && decide ((i - o.base) / o.stride < o.count) &&
    decide (o.sub ≤ j) && decide (j ≤ o.last)

/-- The object of a key, if there is one (R470, R471). -/
def objOf (k : Key) : Option Obj := (tableOf (k / 256)).find? (·.covers (k / 256) (k % 256))

/-- The index exists, with whatever sub-index (R298). -/
def indexExists (k : Key) : Bool := (tableOf (k / 256)).any fun o => o.covers (k / 256) o.sub

/-- The length of a value of the type; DOMAIN and VISIBLE_STRING have none of their own (Table 8.1). -/
def ObjType.size : ObjType → Option Nat
  | .bool | .u8 => some 1
  | .u16 | .i16 => some 2
  | .u32 | .i32 => some 4
  | .str | .dom => none

/-- The type is signed. -/
def ObjType.signed : ObjType → Bool
  | .i16 | .i32 => true
  | _ => false

/-- The value that bytes give an object of the row, if their length fits its type (R6, R250). -/
def Obj.parse (o : Obj) (b : List Byte) : Option Val :=
  match o.type.size with
  | some n => if b.length = n then some (.num (if o.type.signed then leInt b else (leNat b : Int))) else none
  | none => if b.length ≤ o.lens.2 then some (.bytes b) else none

/-- The bytes of a value of the row's type. -/
def Obj.render (o : Obj) : Val → List Byte
  | .num v => toLe (o.type.size.getD 4) v
  | .bytes b => b

/-- WNUM lies in the range of its WTYPE (Table 6.6). -/
def wnumOk (wtype wnum : Nat) : Bool :=
  if wtype = 0 || wtype = 9 then wnum == 0
  else if wtype = 1 || wtype = 2 then decide (wnum < 16)
  else if wtype = 3 || wtype = 4 || wtype = 8 then decide (wnum < 8)
  else if wtype = 5 || wtype = 6 then decide (wnum < 64)
  else if wtype = 7 then decide (wnum < 4)
  else false

/-- The range checks of R208 and R276. -/
def RangeCheck.ok : RangeCheck → Nat → Bool
  | .none, _ => true
  | .pgFollow, v =>
    v == 0 || (v / 0x1000 != 0 && (v / 0x100) % 16 == 0 && wnumOk (v / 0x1000) (v % 256))
  | .hamperCommand, v =>
    let cmd := v / 0x10000000
    decide (1 ≤ cmd) && decide (cmd ≤ 5) && (v / 0x4000000) % 4 == 0 && (cmd == 5 || (v / 0x100) % 0x40000 == 0)

/-- A character of a VISIBLE_STRING (Table 8.1). -/
def visible (b : Byte) : Bool := decide (0x20 ≤ b.toNat) && decide (b.toNat ≤ 0x7E)

/-- The value lies in the object's range (R473). -/
def Obj.inRange (o : Obj) : Val → Bool
  | .num v =>
    o.spans.any (fun s => decide (s.1 ≤ v) && decide (v ≤ s.2)) &&
      (match o.mask with
       | some m => v.toNat &&& m == v.toNat
       | none => true) && o.check.ok v.toNat
  | .bytes b => decide (o.lens.1 ≤ b.length) && (o.type != .str || b.all visible)

/-- The object takes effect only at an apply instant (R472). -/
def applyInstant (k : Key) : Bool :=
  let i := k / 256
  let j := k % 256
  (i == 0x2C11 && (decide (1 ≤ j) && decide (j ≤ 3) || j == 5)) ||
    (i == 0x2C50 && decide (0x0F ≤ j) && decide (j ≤ 0x12)) ||
    (decide (0x3000 ≤ i) && decide (i < 0x4000) && i % 256 == 1) || i == 0x2910

end Sys2Proof.Machine
end

