-- ==== Sys2Proof/WellFormed.lean ====
section
/-! DEFINITION. Which operands a port, a bus or an event of Ulvia can carry: the widths and lengths of the fields
that the spec's frames, objects and encodings give. A command outside them cannot arrive. -/

namespace Sys2Proof

/-- `v` lies between `lo` and `hi`. -/
def inRange (v lo hi : Int) : Bool := decide (lo ≤ v) && decide (v ≤ hi)

/-- A sample belongs to a channel that SENSE converts from an input (Tables 7.4, 15.10). -/
def Sample.fits (x : Sample) : Bool :=
  let ch := x.ch.val
  decide (ch < 60) || (decide (64 ≤ ch) && decide (ch < 76)) || (decide (80 ≤ ch) && decide (ch < 128))

/-- The fields of a SHARE payload fit their widths (Table 2.5). -/
def SharePayload.fits (p : SharePayload) : Bool :=
  inRange p.budget (-2147483648) 2147483647 && inRange p.demand (-2147483648) 2147483647 &&
    decide (p.well < 2 ^ 32) && decide (p.ride < 2 ^ 32)

/-- T and the deadline of a HAMPER frame are 64 bits (Table 8.11). -/
def DomainFrame.fits (f : DomainFrame) : Bool := decide (f.applyTime < 2 ^ 64) && decide (f.deadline < 2 ^ 64)

/-- A USDO request names an object by index and sub-index; a read carries no data (R297). -/
def UsdoRequest.fits (q : UsdoRequest) : Bool := decide (q.k < 0x1000000) && (q.write || q.data.isEmpty)

/-- A two-wire frame carries one LEN byte (Table 9.7); bytes beyond the frame are NACKed (R312). -/
def TwFrame.fits (f : TwFrame) : Bool :=
  decide (f.k < 0x1000000) && decide (f.len < 256) && decide (f.data.length < 256)

/-- The field lengths of a TRANSITION (R446). -/
def LcTransition.fits (t : LcTransition) : Bool :=
  decide (t.nonce.length = 16) && decide (t.publicKey.length = 64) && decide (t.signature.length = 64)

/-- The field widths of an OD request (Table 10.5). -/
def OdRequest.fits (q : OdRequest) : Bool :=
  decide (q.k < 0x1000000) && decide (q.offset < 2 ^ 32) && decide (q.length < 2 ^ 16) && decide (q.data.length ≤ 240)

/-- The field widths of an ALM request (Table 10.6). -/
def AlmFetch.fits (q : AlmFetch) : Bool :=
  decide (q.minSeverity < 256) && decide (q.count < 2 ^ 16) && decide (q.first < 2 ^ 32)

/-- The field widths of a STATE frame (Table 13.1). -/
def TwinFrame.fits (f : TwinFrame) : Bool :=
  decide (f.role < 256) && decide (f.state < 256) && decide (f.heartbeat < 2 ^ 32) && decide (f.laneTime < 2 ^ 64) &&
    decide (f.almSequence < 2 ^ 32)

/-- The widths of `NorSize`, `NorIoMode` and `NorClock` (Table 14.12). -/
def NorPart.fits (p : NorPart) : Bool :=
  decide (p.sizeMiB < 2 ^ 16) && decide (p.ioMode < 256) && decide (p.clock < 2 ^ 32)

/-- The operands of a command are ones that can arrive. -/
def Instr.wellFormed : Instr → Bool
  | .referenceLost => true
  | .referenceReturn => true
  | .blockResetComplete _ => true
  | .hamletMarkReady _ => true
  | .controlSignalDelivery _ => true
  | .wakeOnAccess _ => true
  | .wakeTimeout _ => true
  | .parkedHamletIdleStop _ => true
  | .reeveWatchdogExpiry => true
  | .shareOverrange _ => true
  | .rmAlarmDeglitched _ _ => true
  | .tapValidityChange _ _ => true
  | .noValidTapRepeat => true
  | .busshareRun samples => samples.all Sample.fits
  | .trimStaleNeutral => true
  | .busOutOfRange => true
  | .shareFrameSend => true
  | .plantTrimUpdate => true
  | .shareFrameReceive _ p => p.fits
  | .shareGroupSilent => true
  | .wellrateRun samples => samples.all Sample.fits
  | .wellStringReplace => true
  | .wellStale => true
  | .wellReeveUpdate => true
  | .handoverTrigger fallTime samples => decide (fallTime < 2 ^ 32) && samples.all Sample.fits
  | .handoverComplete _ => true
  | .sourceBecomesGood => true
  | .sourceStopsGood => true
  | .sourceQualified => true
  | .handbackRampEnd => true
  | .capEvaluation => true
  | .shedReevaluate => true
  | .capRestore => true
  | .capLevelRise => true
  | .capPdoRepeat => true
  | .capStageEventRepeat => true
  | .phaseKill _ current => inRange current (-2147483648) 2147483647
  | .peakLimit _ current => inRange current (-2147483648) 2147483647
  | .periodStart _ => true
  | .railEnableWrite _ _ v => inRange v 0 255
  | .railTargetWrite _ _ v => inRange v (-2147483648) 2147483647
  | .onDelayElapsed _ => true
  | .rampComplete _ => true
  | .offDelayElapsed _ => true
  | .rampDownComplete _ => true
  | .feedbackLost _ => true
  | .fbHoldElapsed _ => true
  | .dutyRampComplete _ => true
  | .railAutoRestart _ => true
  | .syncLockStart _ frequency => decide (frequency < 2 ^ 32)
  | .syncLockAchieved _ => true
  | .syncinLost _ => true
  | .railloopRun _ samples => samples.all Sample.fits
  | .balanceBidirRun _ samples => samples.all Sample.fits
  | .vcSetv _ _ _ => true
  | .vcSlew _ _ _ => true
  | .vcCap _ _ => true
  | .vcQuery _ _ _ => true
  | .vcFrameGap _ => true
  | .vcResponseRead _ => true
  | .vcResponseTimeout _ => true
  | .vcSetvDone _ => true
  | .vcSetvTimeout _ => true
  | .vcCapUncollected _ => true
  | .pilotCheckFail _ => true
  | .pilotCheckPass _ => true
  | .rippleCheckFail _ => true
  | .rangeCheckFail _ => true
  | .phaseFailOpen _ => true
  | .phaseSenseDisagree _ => true
  | .phaseDrop _ => true
  | .capreqSet _ => true
  | .railCapFall _ => true
  | .railCapRise _ => true
  | .ntcFail _ => true
  | .stringPresenceAbsent _ => true
  | .stringQualified _ => true
  | .switchFeedbackClosed _ => true
  | .switchFeedbackTimeout _ => true
  | .stringRemoval _ _ => true
  | .stringReinsertion _ _ => true
  | .longPressOpenEnd => true
  | .shipSourceGood => true
  | .strRequalify _ _ v => inRange v 0 255
  | .chargeRun samples => samples.all Sample.fits
  | .stringOvervoltage _ => true
  | .chargeCcToAbsorb _ => true
  | .absorbEnd _ => true
  | .rebulk _ => true
  | .battHeartbeat _ v => inRange v 0 65535
  | .battWatchdogExpiry => true
  | .estimatorSample _ samples => samples.all Sample.fits
  | .estimatorRefresh => true
  | .restPoint _ => true
  | .fallowCheck => true
  | .fallowRequest _ v => inRange v 0 255
  | .fallowConditionFail => true
  | .fallowNoRest => true
  | .estimatorSaveInterval => true
  | .shipModeArm _ v => inRange v 0 65535
  | .shipModeConfirm _ v => inRange v 0 65535
  | .shipOpening => true
  | .longPress => true
  | .ppKill _ pair => inRange pair (-2147483648) 2147483647
  | .oringReverseTurnoff _ pair => inRange pair (-2147483648) 2147483647
  | .seqTick samples => samples.all Sample.fits
  | .ppGateLoop _ _ _ => true
  | .ppEnableWrite _ _ v => inRange v 0 255
  | .ppInsertElapsed _ => true
  | .ppRampComplete _ => true
  | .ppFaultTimerExpiry _ => true
  | .ppFaultTimerClear _ => true
  | .ppRampTimeout _ => true
  | .ppRetryOffElapsed _ => true
  | .ppRetriesReload _ => true
  | .oringReverseRecover _ => true
  | .ppPgQualified _ => true
  | .ppPgLostTimeout _ => true
  | .wmFaultOnset _ _ => true
  | .wmFaultClear _ _ => true
  | .wmWarningOnset _ _ => true
  | .wmDacReadback _ _ _ => true
  | .rawGoodTransition _ => true
  | .railGoodQualified _ => true
  | .seqEntryDelayEnd => true
  | .seqUpTimeout => true
  | .seqDownTimeout => true
  | .seqCommand _ v => inRange v 0 255
  | .seqMinOffElapsed => true
  | .marginNarrowMove _ => true
  | .nop _ => true
  | .end_ _ => true
  | .br _ _ _ => true
  | .ldi _ _ _ => true
  | .mov _ _ _ => true
  | .clra _ => true
  | .lda _ _ _ => true
  | .sta _ _ _ => true
  | .mac _ _ _ _ => true
  | .msu _ _ _ _ => true
  | .mpy _ _ _ _ => true
  | .add _ _ _ _ => true
  | .sub _ _ _ _ => true
  | .min _ _ _ _ => true
  | .max _ _ _ _ => true
  | .clamp _ _ _ _ => true
  | .abs _ _ _ => true
  | .neg _ _ _ => true
  | .ash _ _ _ _ => true
  | .muls _ _ _ _ _ => true
  | .div _ _ _ _ _ => true
  | .cmp _ _ _ => true
  | .and _ _ _ _ => true
  | .or _ _ _ _ => true
  | .xor _ _ _ _ => true
  | .rd _ _ _ _ => true
  | .rdLand _ _ => true
  | .wr _ _ _ _ => true
  | .millOutputDelivery _ => true
  | .illegalInstruction _ => true
  | .millTrigger _ _ => true
  | .millRunStart _ => true
  | .runLimit _ => true
  | .millHeartbeatLost _ _ => true
  | .bankCopyDone _ => true
  | .millLoad _ => true
  | .traceArm _ _ => true
  | .traceForce _ _ => true
  | .traceIdle _ _ => true
  | .traceDumpStored _ => true
  | .objectWrite _ k _ => decide (k < 0x1000000)
  | .marketDispatch _ k => decide (k < 0x1000000)
  | .marketCompletion _ _ => true
  | .marketTimeout _ => true
  | .hamletResetWaitTimeout _ => true
  | .fenceClear _ v => inRange v 0 4294967295
  | .fenceClearOrigin _ v => inRange v 0 65535
  | .hamperOpen _ => true
  | .hamperStage _ v => inRange v 0 255
  | .hamperCommit _ _ => true
  | .hamperCommitAt _ _ => true
  | .hamperCommitDomain _ _ => true
  | .hamperRollback _ _ => true
  | .hamperJoin _ _ _ _ => true
  | .hamperValidationComplete => true
  | .applyTick => true
  | .hamperTimeout _ => true
  | .domainPrepareReceive f => f.fits
  | .domainVoteReceive _ f => f.fits
  | .domainVoteDeadline _ => true
  | .domainGoReceive f => f.fits
  | .domainArmingPoint _ => true
  | .domainArmedReceive _ f => f.fits
  | .domainDecisionPoint _ => true
  | .domainDecisionRepeat _ => true
  | .domainCommitReceive f => f.fits
  | .domainAbortReceive f => f.fits
  | .domainApplyTime _ => true
  | .domainAppliedReceive _ f => f.fits
  | .domainReportEnd _ => true
  | .canErrorPassive _ => true
  | .canBusOff _ => true
  | .canBusoffRestart _ => true
  | .nmtStart _ => true
  | .nmtStop _ => true
  | .nmtPreoperational _ => true
  | .nmtResetCommunication _ => true
  | .nmtResetNode _ => true
  | .heartbeatReceive _ _ => true
  | .heartbeatConsumerTimeout _ _ => true
  | .heartbeatProduce => true
  | .usdoRequest _ q => q.fits
  | .usdoSegment _ _ _ => true
  | .usdoSegmentTimeout _ => true
  | .syncReceive _ _ => true
  | .rpdoReceive _ _ data => decide (data.length ≤ 64)
  | .rpdoTimeout _ => true
  | .tpdoEventCheck => true
  | .tpdoEventTimer _ => true
  | .tpdoInhibitEnd _ => true
  | .emcySend _ => true
  | .twWrite f => f.fits
  | .twRead f => f.fits && f.data.isEmpty
  | .twResult _ _ _ => true
  | .twSclTimeout => true
  | .twSdaTimeout => true
  | .twBusRecovered => true
  | .twResultDiscard => true
  | .svcPing _ => true
  | .svcRate _ rate => decide (rate < 2 ^ 32)
  | .svcRateChange => true
  | .svcRateRevert => true
  | .svcRead _ k => decide (k < 0x1000000)
  | .svcWrite _ k data => decide (k < 0x1000000) && decide (data.length ≤ 4093)
  | .svcDomainRead _ k offset length => decide (k < 0x1000000) && decide (offset < 2 ^ 32) && decide (length < 2 ^ 16)
  | .svcDomainWrite _ k offset data _ => decide (k < 0x1000000) && decide (offset < 2 ^ 32) && decide (data.length ≤ 4089)
  | .svcDomainCopyRelease => true
  | .svcTraceDump _ _ _ => true
  | .svcSlotRead _ slot offset length => decide (slot < 256) && decide (offset < 2 ^ 32) && decide (length < 2 ^ 16)
  | .svcByteGap => true
  | .svcLinkDrop => true
  | .updateBegin _ _ length => decide (length < 2 ^ 32)
  | .updateEraseDone => true
  | .updateData _ offset data => decide (offset < 2 ^ 32) && decide (data.length ≤ 4092) && !data.isEmpty
  | .updateEnd _ _ => true
  | .updateInactivity => true
  | .lifecycleNonce _ => true
  | .lifecycleTransition _ t => t.fits
  | .laneLinkUp _ _ => true
  | .laneLinkDown _ => true
  | .laneWrap => true
  | .laneFrameReceive _ f => decide (f.payload.length < 512)
  | .laneEnableWrite _ v => inRange v 0 255
  | .rollSend => true
  | .rollReceive f => decide (f.serial < 2 ^ 64) && decide (f.age < 2 ^ 32)
  | .laneJoinComplete => true
  | .laneNodeLost _ => true
  | .tsyncSend _ => true
  | .tsyncReceive _ f => decide (f.departure < 2 ^ 64) && decide (f.arrival < 2 ^ 64)
  | .dreqSend _ => true
  | .dreqReceive _ arrival => decide (arrival < 2 ^ 64)
  | .drspReceive _ t2 t3 t4 => decide (t2 < 2 ^ 64) && decide (t3 < 2 ^ 64) && decide (t4 < 2 ^ 64)
  | .holdoverEntry => true
  | .holdoverExpiry => true
  | .laneTimeSet _ v => decide (v.length ≤ 4096)
  | .odRequestReceive _ q => q.fits
  | .almFetchReceive _ q => q.fits
  | .laneGwRequest _ _ => true
  | .laneGwResult _ => true
  | .gwResponseReceive _ _ _ payload => decide (payload.length ≤ 256)
  | .gwResponseExpiry => true
  | .gwTimeout _ _ => true
  | .watchEvaluation => true
  | .sourceQuiet _ => true
  | .sourceClearFromQuiet _ => true
  | .srcEnableWrite _ _ v => inRange v 0 255
  | .srcForce _ _ v => inRange v 0 255
  | .memoryCorrected _ => true
  | .memoryUncorrectable _ => true
  | .memLockRevoke _ => true
  | .greenLockRevoke _ => true
  | .watchSelfCheckFail _ => true
  | .supplyWarning reading => inRange reading (-2147483648) 2147483647
  | .supplyOutOfWindow _ reading => inRange reading (-2147483648) 2147483647
  | .dieSensorRead readings => decide (readings.length = 12)
  | .thermalShutdown => true
  | .thermalRecordDone => true
  | .thermalRestart => true
  | .orderlyStopStart => true
  | .orderlyStopSeqOff => true
  | .heldRecordFlush => true
  | .recordWriteDone => true
  | .sectorEraseDone => true
  | .flashProgramFail => true
  | .almanacCheckpoint => true
  | .resetFlushEnd => true
  | .exportStart _ v => inRange v 0 255
  | .exportAbandon _ v => inRange v 0 255
  | .exportReceipt _ _ => true
  | .twinStateReceive f => f.fits
  | .twinLinkLost => true
  | .twinStateSend => true
  | .trackSend => true
  | .trackReceive _ => true
  | .mirrorSend => true
  | .mirrorReceive _ _ _ => true
  | .resyncReceive => true
  | .ownInRise _ => true
  | .releaseHoldEnd => true
  | .releaseTimeout => true
  | .ownInFall gap => decide (gap < 2 ^ 32)
  | .staleHolderClaim => true
  | .alternateStartClaim => true
  | .twinExercise _ v => inRange v 0 255
  | .returnHoldoffEnd => true
  | .powerOnReset => true
  | .powerOnRelease _ => true
  | .rstAssert => true
  | .rstRelease => true
  | .chipResetCmd _ v => inRange v 0 65535
  | .bootRegulatorsReady => true
  | .bootWipeComplete => true
  | .bootReferenceLocked => true
  | .bootNorDiscovered part _ => part.all NorPart.fits
  | .bootImageChecked _ => true
  | .bootReeveStart => true
  | .bootParameterLoad closed => decide (closed.length = 4)
  | .bootMillworkLoaded => true
  | .bootComplete => true
  | .paramStoreCmd _ v => inRange v 0 65535
  | .paramStoreDone => true
  | .paramStoreFail => true
  | .vcFrameNack _ _ => true
  | .svcCrcError => true
  | .svcUnknownCommand _ _ => true
  | .errorActiveReturn _ => true
  | .supplyWarningClear => true
  | .wmWarningClear _ _ => true
  | .shipPatternComplete _ => true
  | .estimatorSlotWriteDone => true
  | .lifecycleEraseComplete => true
  | .updateRestartReset => true
  | .updateDataProgrammed => true

end Sys2Proof
end

