-- ==== Sys2Proof/Machine/Ops.lean ====
section
/-! DEFINITION. The named operations that the meanings share: objects, time, parts of the chip, events, records,
log entries, and the form in which a meaning answers. -/

namespace Sys2Proof.Machine

/-! ### Answering -/

/-- The next state is `s` with its chip replaced. -/
def answer (s : State) (c : Chip) : Host.Outcome State Fault Refusal := .next { s with chip := c }

/-- The command has its effect if its operands can arrive at a port; a command that no port can carry never arrives, and
leaves the chip as it is. [DESIGN CHOICE, log 148] -/
def guarded (ok : Bool) (s : State) (c : Chip) : Host.Outcome State Fault Refusal := answer s (if ok then c else s.chip)

/-! ### Objects -/

/-- The value listed under a key. -/
def odFind : List (Nat × Val) → Key → Option Val
  | [], _ => none
  | (k, v) :: rest, q => if k = q then some v else odFind rest q

/-- The list without a key. -/
def odErase : List (Nat × Val) → Key → List (Nat × Val)
  | [], _ => []
  | (k, v) :: rest, q => if k = q then rest else (k, v) :: odErase rest q

/-- The list with a key at a value, keys rising. -/
def odInsert : List (Nat × Val) → Key → Val → List (Nat × Val)
  | [], q, v => [(q, v)]
  | (k, w) :: rest, q, v =>
    if q < k then (q, v) :: (k, w) :: rest
    else if q = k then (q, v) :: rest
    else (k, w) :: odInsert rest q v

/-- The list has its keys rising strictly. [DESIGN CHOICE, log 137] -/
def odSorted : List (Nat × Val) → Bool
  | [] => true
  | (k, _) :: rest => (match rest with
    | [] => true
    | (k', _) :: _ => decide (k < k')) && odSorted rest

/-- The shipped settings of a Watch source (Table 11.5): enable, N, T, Q and the reaction sets. -/
def srcShipped (i : Nat) : Nat × Nat × Nat × Nat × Nat :=
  if i = 59 || i = 61 then (1, 5, 3600000, 600000, 0x6121)
  else if 156 ≤ i && i ≤ 171 then (1, 3, 60000, 10000, 0xF5A5)
  else if i = 194 || i = 219 then (1, 1, 60000, 10000, 0xF8F8)
  else if i = 221 || i = 223 then (1, 1, 60000, 10000, 0xF5F5)
  else if i = 220 || i = 222 || i = 224 then (1, 16, 3600000, 3600000, 0x6100)
  else if i = 232 then (1, 1, 60000, 10000, 0xB1B1)
  else if (184 ≤ i && i ≤ 191) || (236 ≤ i && i ≤ 239) || 247 ≤ i then (0, 3, 60000, 10000, 0)
  else (1, 3, 60000, 10000, 0xB161)

/-- The default of an object: that of its row, or the one that its table computes (Tables 9.4, 11.5, 11.9). -/
def defaultOf (c : Chip) (k : Key) : Val :=
  let i := k / 256
  let j := k % 256
  if 0x2700 ≤ i && i < 0x2800 && 1 ≤ j && j ≤ 5 then
    let d := srcShipped (i - 0x2700)
    .num (if j = 1 then d.1 else if j = 2 then d.2.1 else if j = 3 then d.2.2.1
      else if j = 4 then d.2.2.2.1 else d.2.2.2.2 : Nat)
  else if k = kThermWarnLevel then .num (if c.fuses.grade = 2 then 1760 else 1600)
  else if k = kThermShutdownLevel then .num (if c.fuses.grade = 2 then 2080 else 1920)
  else if k = kCobIdEmcy then .num ((0x80 + c.can.nodeId : Nat) : Int)
  else match objOf k with
    | some o => o.dflt
    | none => .num 0

/-- The value in force of an object that a write changes. [DESIGN CHOICE, log 137] -/
def cfg (c : Chip) (k : Key) : Val := (odFind c.od k).getD (defaultOf c k)

/-- The number in force. -/
def num (c : Chip) (k : Key) : Int :=
  match cfg c k with
  | .num v => v
  | .bytes _ => 0

/-- The number in force, which is not negative. -/
def nat (c : Chip) (k : Key) : Nat := (num c k).toNat

/-- The BOOLEAN in force. -/
def flag (c : Chip) (k : Key) : Bool := num c k != 0

/-- The bytes in force. -/
def bytes (c : Chip) (k : Key) : List Byte :=
  match cfg c k with
  | .num _ => []
  | .bytes b => b

/-- A value put in force; a value equal to the default is not listed. [DESIGN CHOICE, log 137] -/
def put (k : Key) (v : Val) (c : Chip) : Chip :=
  { c with od := if v = defaultOf c k then odErase c.od k else odInsert c.od k v }

/-! ### Parts of the chip -/

def setChan (i : Fin 256) (f : Chan → Chan) (c : Chip) : Chip := { c with chans := c.chans.set i (f c.chans[i]) }
def setHamlet (i : Fin 27) (f : Hamlet → Hamlet) (c : Chip) : Chip :=
  { c with hamlets := c.hamlets.set i (f c.hamlets[i]) }
def setGreen (f : Green → Green) (c : Chip) : Chip := { c with green := f c.green }
def setRm (i : Fin 8) (f : Rm → Rm) (c : Chip) : Chip := { c with rms := c.rms.set i (f c.rms[i]) }
def setPhase (i : Fin 32) (f : Phase → Phase) (c : Chip) : Chip := { c with phases := c.phases.set i (f c.phases[i]) }
def setRail (i : Fin 16) (f : Rail → Rail) (c : Chip) : Chip := { c with rails := c.rails.set i (f c.rails[i]) }
def setVc (i : Fin 4) (f : Vc → Vc) (c : Chip) : Chip := { c with vcs := c.vcs.set i (f c.vcs[i]) }
def setStr (i : Fin 4) (f : Str → Str) (c : Chip) : Chip := { c with strs := c.strs.set i (f c.strs[i]) }
def setEst (i : Fin 4) (f : Est → Est) (c : Chip) : Chip := { c with ests := c.ests.set i (f c.ests[i]) }
def setPp (i : Fin 8) (f : Pp → Pp) (c : Chip) : Chip := { c with pps := c.pps.set i (f c.pps[i]) }
def setWm (i : Fin 64) (f : Wm → Wm) (c : Chip) : Chip := { c with wms := c.wms.set i (f c.wms[i]) }
def setMill (i : Fin 16) (f : Mill → Mill) (c : Chip) : Chip := { c with mills := c.mills.set i (f c.mills[i]) }
def setSrc (i : Fin 256) (f : Src → Src) (c : Chip) : Chip :=
  { c with watch := { c.watch with srcs := c.watch.srcs.set i (f c.watch.srcs[i]) } }
def setLine (i : Fin 2) (f : CanLine → CanLine) (c : Chip) : Chip :=
  { c with can := { c.can with lines := c.can.lines.set i (f c.can.lines[i]) } }
def setBus (f : Bus → Bus) (c : Chip) : Chip := { c with bus := f c.bus }
def setWell (f : Well → Well) (c : Chip) : Chip := { c with well := f c.well }
def setCap (f : Cap → Cap) (c : Chip) : Chip := { c with cap := f c.cap }
def setBatt (f : Batt → Batt) (c : Chip) : Chip := { c with batt := f c.batt }
def setSeq (f : Seq → Seq) (c : Chip) : Chip := { c with seq := f c.seq }
def setMarket (f : Market → Market) (c : Chip) : Chip := { c with market := f c.market }
def setHampers (f : Hampers → Hampers) (c : Chip) : Chip := { c with hampers := f c.hampers }
def setCan (f : Can → Can) (c : Chip) : Chip := { c with can := f c.can }
def setTw (f : TwoWire → TwoWire) (c : Chip) : Chip := { c with tw := f c.tw }
def setSvc (f : Svc → Svc) (c : Chip) : Chip := { c with svc := f c.svc }
def setUpdate (f : Update → Update) (c : Chip) : Chip := { c with update := f c.update }
def setLc (f : LcCommand → LcCommand) (c : Chip) : Chip := { c with lc := f c.lc }
def setLane (f : Lane → Lane) (c : Chip) : Chip := { c with lane := f c.lane }
def setGw (f : Gateway → Gateway) (c : Chip) : Chip := { c with gw := f c.gw }
def setWatch (f : Watch → Watch) (c : Chip) : Chip := { c with watch := f c.watch }
def setReeve (f : Reeve → Reeve) (c : Chip) : Chip := { c with reeve := f c.reeve }
def setTherm (f : Therm → Therm) (c : Chip) : Chip := { c with therm := f c.therm }
def setAlm (f : Alm → Alm) (c : Chip) : Chip := { c with alm := f c.alm }
def setTwin (f : Twin → Twin) (c : Chip) : Chip := { c with twin := f c.twin }
def setBoot (f : Boot → Boot) (c : Chip) : Chip := { c with boot := f c.boot }
def setNor (f : Nor → Nor) (c : Chip) : Chip := { c with nor := f c.nor }

/-- A change made to the chip if a condition holds. -/
def when (b : Bool) (f : Chip → Chip) (c : Chip) : Chip := if b then f c else c

/-- A change made for each member of a list in turn. -/
def each {α : Type} (l : List α) (f : α → Chip → Chip) (c : Chip) : Chip := l.foldl (fun c a => f a c) c

/-- The first member that a list of numbers below `n` has satisfying a condition. -/
def firstFin (n : Nat) (p : Fin n → Bool) : Option (Fin n) := (List.finRange n).find? p

/-- How many numbers below `n` satisfy a condition. -/
def countFin (n : Nat) (p : Fin n → Bool) : Nat := ((List.finRange n).filter p).length

/-- The word whose bit `i` says whether `p i` holds. -/
def maskFin (n : Nat) (p : Fin n → Bool) : Nat := (List.finRange n).foldl (fun a i => a + bit (p i) i.val) 0

/-- The next free value that the spec leaves open. -/
def freeWord (c : Chip) : Word := Config.freeWord c.fresh

/-- One free value is used up. -/
def takeFree (c : Chip) : Chip := { c with fresh := c.fresh + 1 }

/-! ### Time and life cycle -/

/-- The operating time in 1 ms (R384). -/
def nowMs (c : Chip) : Nat := c.clock.us / 1000

/-- The life-cycle state that the fuses give (R445). -/
def lifeCycle (c : Chip) : LifeCycle :=
  if c.fuses.x then .retired
  else if c.fuses.d then (if c.fuses.service % 2 = 1 then .service else .deployed)
  else if c.fuses.p then .provisioned
  else .blank

/-- The number of a life-cycle state (Table 14.10). -/
def LifeCycle.number : LifeCycle → Nat
  | .blank => 0
  | .provisioned => 1
  | .deployed => 2
  | .service => 3
  | .retired => 4

/-- The boot step table has completed and the chip is not in the safe state. -/
def live (c : Chip) : Bool := c.boot.phase == .running && !c.watch.safe

/-- The boot step table has completed or step 9 of it (Table 14.3): the Reeve runs. -/
def reeveRuns (c : Chip) : Bool := !c.reeve.halted

/-- Lane time is valid (R345): TVALID is set. -/
def laneTimeValid (c : Chip) : Bool := c.lane.tvalid

/-- The clocks of the model run: power is up and the ALMANAC counter has started (R11, Table 14.3 step 3). -/
def clocked (c : Chip) : Bool :=
  match c.boot.phase with
  | .porAsserted => false
  | .step n => decide (2 ≤ n.val)
  | _ => true

/-- 1 µs passes: the operating time and Lane time count on, Lane time slewed by 1 ns where a slew is left (R346). A
stile's realignment takes less (Table 1.1). [DEDUCED, log 17] -/
def tickClock (c : Chip) : Chip :=
  let d : Int := if 0 < c.lane.slew then 1 else if c.lane.slew < 0 then -1 else 0
  { c with
    hamlets := c.hamlets.map fun x => { x with realign := false }
    clock := { c.clock with us := c.clock.us + 1, laneNs := (((c.clock.laneNs : Int) + 1000 + d).toNat) % 2 ^ 64 }
    lane := { c.lane with slew := c.lane.slew - d } }

/-- 1 µs of a boot passes (Table 14.12, `BootTime`). [DEDUCED, log 130] -/
def tickBoot (c : Chip) : Chip :=
  match c.boot.phase with
  | .porAsserted | .recovery | .running => c
  | .flushing | .rstHeld | .step _ => { c with boot := { c.boot with timer := satSucc 0xFFFFFFFF c.boot.timer } }

/-! ### Events -/

/-- An event reaches the WATCH stile (R353); the Watch takes it at its next evaluation (R354).
[DESIGN CHOICE, log 104; DEDUCED, log 135] -/
def raise (src code : Nat) (value : Int) (c : Chip) : Chip :=
  if c.watch.safe then c
  else { c with watch := { c.watch with
    arrived := c.watch.arrived ++ [{ src := Fin.ofNat 256 src, code := BitVec.ofNat 8 code, value := value }] } }

/-- An event of a kind other than RAISED reaches the WATCH stile. [DESIGN CHOICE, log 104] -/
def raiseKind (kind : EventKind) (src code : Nat) (value : Int) (c : Chip) : Chip :=
  if c.watch.safe then c
  else { c with watch := { c.watch with
    arrived := c.watch.arrived ++
      [{ src := Fin.ofNat 256 src, code := BitVec.ofNat 8 code, value := value, kind := kind }] } }

/-! ### Records -/

/-- Byte 30 of a record (Table 12.1): the role, and whether this unit owns the shelf. -/
def twinBits (c : Chip) : BitVec 3 :=
  let r := match c.twin.role with
    | .single => 0
    | .preferred => 1
    | .alternate => 2
  let owns := match c.twin.state with
    | .single | .owner => true
    | _ => false
  BitVec.ofNat 3 (r + bit owns 2)

/-- A record with the header fields that every record takes from the chip (Table 12.1). -/
def stamp (c : Chip) (r : Record) : Record :=
  { r with
    timeMs := nowMs c
    cycle := c.clock.powerCycles
    lifeCycle := (lifeCycle c).number
    node := if flag c kLaneEnable then c.lane.nodeIdNow else 0xFFFF
    twin := twinBits c
    recovery := c.boot.phase == .recovery }

/-- A MARK comes before the number `n` (R396): `n` is 64 above the last MARK, or there is none. -/
def markDue (a : Alm) (n : Nat) : Bool :=
  match a.lastMark with
  | some m => decide (m + 64 ≤ n)
  | none => true

/-- The record leaves the held place: it will be written (R388). -/
def release (a : Alm) : Alm := { a with held := false }

/-- A stamped record enters the buffer of so many places, numbered where numbers are given, after its MARK where one is
due; a record that finds no place is dropped (R383, R388, R389, R396). [DEDUCED, log 115] -/
def enterAt (places : Nat) (r : Record) (c : Chip) : Chip :=
  let a := c.alm
  let isEvent := match r.kind with
    | .event _ => true
    | _ => false
  let due := match a.next with
    | some n => markDue a n
    | none => false
  if places < a.buffer.length + (if due then 2 else 1) then
    { c with alm := { a with dropped := a.dropped + 1, lossFlag := true } }
  else
    let n := a.next.getD 0
    let m := stamp c
      { kind := .mark, severity := 0, source := 193, code := 1, seq := some n, loss := a.lossFlag, value := (n + 128 : Nat) }
    let r := { r with
      seq := a.next.map fun n => if due then n + 1 else n
      loss := r.loss || (a.lossFlag && !due) }
    { c with alm := { a with
      buffer := a.buffer ++ (if due then [m, r] else [r])
      lossFlag := false
      next := a.next.map fun n => if due then n + 2 else n + 1
      lastMark := if due then a.next else a.lastMark
      held := isEvent && !a.direct
      frozen := { a.frozen with severe := a.frozen.severe || (a.frozen.state != .none && decide (1 ≤ r.severity.val)) } } }

/-- A stamped record enters the buffer: the last four places accept CRITICAL records only (R389). [DEDUCED, log 115] -/
def enter (r : Record) (c : Chip) : Chip := enterAt (if r.severity = 3 then 64 else 60) r c

/-- The buffer accepts a record (R383). [DEDUCED, log 115] -/
def accept (r : Record) (c : Chip) : Chip := enter (stamp c r) c

/-- A LOG record (Tables 12.4, 14.13): code, source, severity, value and entries. -/
def log (code src : Nat) (severity : Fin 4) (value : Int) (entries : List Nat) (c : Chip) : Chip :=
  accept
    { kind := .log, severity := severity, source := Fin.ofNat 256 src, code := BitVec.ofNat 8 code, value := value
      entries := entries.zipIdx.map fun e => { index := 0, sub := e.2, type := 7, value := BitVec.ofNat 32 e.1 } } c

/-- A start-up LOG record of severity WARN or above, with its event on the same source (R450). -/
def logRaise (code src : Nat) (severity : Fin 4) (value : Int) (entries : List Nat) (c : Chip) : Chip :=
  raise src (code - 0x5F) value (log code src severity value entries c)

/-- A green access or signal meets a hamlet: one whose clock is stopped, and which no block reset holds, raises its wake
request (R19, R21); an access to WATCH or ALMANAC waits for the clock and raises none (R23). [DEDUCED, log 15] -/
def requestWake (h : Fin 27) (c : Chip) : Chip :=
  setHamlet h (fun x => { x with waking := x.waking || (!x.run && !x.blkrst && decide (2 ≤ h.val)) }) c

/-! ### Stiles and the green -/

/-- The hamlet takes no packet now: its clock is stopped, or it is in block reset or closed (R14, R21). -/
def hamletShut (h : Hamlet) : Bool := h.closed || h.blkrst || !h.run

/-- The packets that a hamlet writes whole into its stile's queue towards the green, as far as there is room (R15). -/
def fillStile (x : Hamlet) : Hamlet :=
  { x with outbox := (x.outbox ++ x.unsent).take 16, unsent := (x.outbox ++ x.unsent).drop 16 }

/-- The green can move the first packet of a stile: the queue that it goes to has room (R15). -/
def greenCan (c : Chip) (h : Fin 27) : Bool :=
  match c.hamlets[h].outbox with
  | (d, _) :: _ => decide (c.hamlets[d].inbox.length < 16)
  | [] => false

/-- The stile served next (R25): WATCH by its reserved path, and else the first in round-robin order. -/
def servedNext (c : Chip) : Option (Fin 27) :=
  if greenCan c 0 then some 0 else ((List.finRange 27).map (· + c.green.turn)).find? (greenCan c)

/-- Requests that their hamlet takes from its queue (R18). -/
def takeRequests (ids : List Nat) (c : Chip) : Chip :=
  setMarket (fun q => { q with reqs := q.reqs.map fun r => if ids.contains r.id then { r with taken := true } else r }) c

/-- A packet enters the queue towards a hamlet; a request that finds the hamlet open is taken at once. -/
def arrive (d : Fin 27) (p : Packet) (c : Chip) : Chip :=
  match hamletShut c.hamlets[d], p with
  | false, .request id => takeRequests [id] c
  | _, _ => setHamlet d (fun x => { x with inbox := x.inbox ++ [p] }) c

/-- The green moves the first packet of a stile; the turn passes to the stile behind it, unless it was WATCH (R25). -/
def greenMove (h : Fin 27) (c : Chip) : Chip :=
  match c.hamlets[h].outbox with
  | (d, p) :: rest =>
    let c := setGreen (fun g => { g with turn := if h = 0 then g.turn else h + 1 }) c
    arrive d p (setHamlet h (fun x => fillStile { x with outbox := rest }) c)
  | [] => c

/-- The green moves packets, so many at most, until none can move. -/
def greenServe : Nat → Chip → Chip
  | 0, c => c
  | n + 1, c =>
    match servedNext c with
    | some h => greenServe n (greenMove h c)
    | none => c

/-- The packets that stand in the stiles towards the green, or wait to be written there. -/
def greenLoad (c : Chip) : Nat := (c.hamlets.toList.map fun x => x.outbox.length + x.unsent.length).foldl (· + ·) 0

/-- A packet is sent from one hamlet to another (R15, R17), and the green moves what it can. [DESIGN CHOICE, log 16] -/
def sendPacket (src dst : Fin 27) (p : Packet) (c : Chip) : Chip :=
  let c := setHamlet src (fun x => fillStile { x with unsent := x.unsent ++ [(dst, p)] }) (requestWake dst c)
  greenServe (greenLoad c) c

/-- A control signal is sent to a hamlet (R19); it waits at the stile until it is delivered. [DEDUCED, log 14] -/
def sendSignal (src dst : Fin 27) (g : Signal) (c : Chip) : Chip := sendPacket src dst (.signal g) c

/-- The requests that waited at the stile of a hamlet are delivered in their order (R15, R17), and the green moves what
now has room. -/
def deliverPackets (h : Fin 27) (c : Chip) : Chip :=
  let ids := c.hamlets[h].inbox.filterMap fun p => match p with
    | .request id => some id
    | .signal _ => none
  let c := setHamlet h (fun x => { x with inbox := x.inbox.filter fun p => match p with
    | .request _ => false
    | .signal _ => true }) c
  greenServe (greenLoad c) (takeRequests ids c)

/-- A hamlet's clock runs again, and the accesses that waited are delivered unless it is closed or in block reset
(R17, R21). -/
def startClock (h : Fin 27) (c : Chip) : Chip :=
  let c := setHamlet h (fun x => { x with run := !x.blkrst, waking := false }) c
  when (!hamletShut c.hamlets[h]) (deliverPackets h) c

/-- The hamlet is marked ready (R17); its stile has realigned. -/
def openHamlet (h : Fin 27) (c : Chip) : Chip :=
  let c := setHamlet h (fun x => { x with closed := false, realign := false }) c
  when (!hamletShut c.hamlets[h]) (deliverPackets h) c

/-- Every lock that a hamlet holds is released (R14, R26). -/
def releaseLocks (h : Fin 27) (c : Chip) : Chip :=
  setGreen (fun g => { g with
    memLock := if g.memLock = some h then none else g.memLock
    greenLock := if g.greenLock = some h then none else g.greenLock }) c

end Sys2Proof.Machine
end

