-- ==== Sys2Proof/Machine/Operands.lean ====
section
/-! DEFINITION. What the meanings read: channels in their formats, the units of the mills, taps, strings, rails and
their configuration; and the shared ways of publishing a channel and sending a Lane frame. -/

namespace Sys2Proof.Machine

/-! ### The numbers that objects show for states -/

/-- The number of a `BusState` (Table 2.8). -/
def BusState.number : BusState → Nat
  | .onSource => 0
  | .handover => 1
  | .onBattery => 2
  | .qualifying => 3
  | .handback => 4

/-- The number of a `RailState` (Table 3.3). -/
def RailState.number : RailState → Nat
  | .off => 0
  | .onDelay => 1
  | .ramp => 2
  | .regulate => 3
  | .offDelay => 4
  | .rampDown => 5
  | .fbHold => 6
  | .dutyRamp => 7
  | .fault => 8

/-- The number of a rail's mode (Table 3.11). -/
def RailMode.number : RailMode → Nat
  | .buck => 0
  | .charge => 1
  | .discharge => 2
  | .auto => 3
  | .holdZero => 4

/-- The magnitude of a number. -/
def ratAbs (q : Rat) : Rat := if q < 0 then -q else q

/-- 100 µV units as volts (Table 0.3). -/
def hundredMicro (v : Int) : Rat := (v : Rat) / 10000

/-- This unit drives the shelf: it runs, and it is SINGLE or OWNER (R415). [DEDUCED, log 53] -/
def drives (c : Chip) : Bool :=
  live c && match c.twin.state with
    | .single | .owner => true
    | _ => false

/-! ### Configuration of rails and strings -/

/-- `RailType` (Table 3.8): 0 unused, 1 BUCK, 2 BIDIR. -/
def railType (c : Chip) (r : Fin 16) : Nat := nat c (kRailType r)

/-- The phases of a rail (R77), ascending. -/
def phasesOf (c : Chip) (r : Fin 16) : List (Fin 32) :=
  if railType c r = 0 then [] else (List.finRange 32).filter fun p => hasBit (nat c (kRailPhaseMask r)) p.val

/-- The phases of a rail that are not dropped (R115). -/
def activePhases (c : Chip) (r : Fin 16) : List (Fin 32) := (phasesOf c r).filter fun p => !c.phases[p].dropped

/-- The rail switches: its reference may move and its phases may fail (R113). -/
def switching (x : Rail) : Bool :=
  match x.state with
  | .ramp | .regulate | .offDelay | .rampDown => true
  | _ => false

/-- The rail that a phase belongs to (R77). -/
def railOfPhase (c : Chip) (p : Fin 32) : Option (Fin 16) := firstFin 16 fun r => (phasesOf c r).contains p

/-- A phase of the rail is dropped (PHLOST, Table 3.11). -/
def phLost (c : Chip) (r : Fin 16) : Bool := (phasesOf c r).any fun p => c.phases[p].dropped

/-- The rail that a string is bound to (`StrRail`); none: unfitted. -/
def strRail (c : Chip) (s : Fin 4) : Option (Fin 16) :=
  let v := nat c (kStrRail s)
  if h : v < 16 then some ⟨v, h⟩ else none

/-- The string that a rail serves (R98). -/
def strOfRail (c : Chip) (r : Fin 16) : Option (Fin 4) := firstFin 4 fun s => strRail c s == some r

/-- The mode of a string's rail (Table 4.5). -/
def strMode (c : Chip) (s : Fin 4) : RailMode :=
  match c.strs[s].state, c.bus.state with
  | .inService, .onSource => .charge
  | .inService, .handback => .auto
  | .inService, _ => .discharge
  | _, _ => .holdZero

/-- The mode of a rail (R98). -/
def railMode (c : Chip) (r : Fin 16) : RailMode :=
  if railType c r = 2 then
    match strOfRail c r with
    | some s => strMode c s
    | none => .holdZero
  else .buck

/-- The string is available (R127). -/
def available (c : Chip) (s : Fin 4) : Bool :=
  (match c.strs[s].state with
    | .inService | .fallow => true
    | _ => false) &&
  match strRail c s with
  | some r => c.rails[r].state == .regulate
  | none => false

/-- The string counts in the well (R52, R127): it is not marked ABSENT. -/
def wellCounts (c : Chip) (s : Fin 4) : Bool := available c s

/-- The fitted strings. -/
def fittedStrs (c : Chip) : List (Fin 4) := (List.finRange 4).filter fun s => (strRail c s).isSome

/-- The fitted rectifiers (R36). -/
def fittedRms (c : Chip) : List (Fin 8) := (List.finRange 8).filter fun n => flag c (kRmFitted n)

/-- The rail that a VC port is bound to (R99). -/
def railOfVc (c : Chip) (n : Fin 4) : Option (Fin 16) :=
  firstFin 16 fun r => railType c r == 1 && nat c (kRailVcPort r) == n.val

/-- The VC port that a rail names (R99). -/
def vcOf (c : Chip) (r : Fin 16) : Option (Fin 4) :=
  let v := nat c (kRailVcPort r)
  if h : v < 4 then (if railType c r = 1 then some ⟨v, h⟩ else none) else none

/-! ### Channels -/

/-- A channel by its number. -/
def chanOf (c : Chip) (ch : Nat) : Chan := c.chans[Fin.ofNat 256 ch]

/-- The word of a channel, as an integer. -/
def chanInt (c : Chip) (ch : Nat) : Int := (chanOf c ch).word.toInt

/-- The number of fractional bits of a channel's format (Table 7.4). -/
def chanFrac (c : Chip) (ch : Nat) : Nat :=
  if ch < 32 then 16
  else if ch < 48 then 22
  else if ch < 56 then 16
  else if ch < 60 then 22
  else if 64 ≤ ch && ch < 68 then 22
  else if ch < 76 then 16
  else if 80 ≤ ch && ch < 96 then 22
  else if 96 ≤ ch && ch < 104 then (if nat c (kPpRole (ch - 96)) = 2 then 22 else 16)
  else if ch < 128 then 22
  else if ch < 156 then 16
  else if ch < 158 then 22
  else if ch = 158 then 8
  else if 176 ≤ ch && ch < 192 then (if nat c (kRailType (ch - 176)) = 2 then 16 else 22)
  else if 192 ≤ ch && ch < 208 then (if nat c (kRailType (ch - 192)) = 2 then 31 else 16)
  else 0

/-- The number that a channel stands for, in its unit (R222). [DESIGN CHOICE, log 13] -/
def val (c : Chip) (ch : Nat) : Rat := ofQ (chanFrac c ch) (chanOf c ch).word

/-- The channel passes its pilot and range checks. -/
def passes (c : Chip) (ch : Nat) : Bool := !(chanOf c ch).pilotFail && !(chanOf c ch).rangeFail

/-- A word published on a channel (R224). -/
def publish (ch : Nat) (w : Word) (c : Chip) : Chip :=
  setChan (Fin.ofNat 256 ch) (fun x => { x with word := w, writtenAt := some c.clock.us }) c

/-- The channel is marked reserved in Table 7.4. -/
def chanReserved (ch : Nat) : Bool := (60 ≤ ch && ch < 64) || (76 ≤ ch && ch < 80) || (159 ≤ ch && ch < 176)

/-- The channel is published, and not sensed (Table 7.4): its writer is a mill or the Reeve. -/
def chanPublished (ch : Nat) : Bool := ch == 158 || 176 ≤ ch

/-- The sample period of a sensed channel in ns (R35, R72, R79, R120, R164, R372, Table 15.7). -/
def samplePeriodNs (c : Chip) (ch : Nat) : Nat :=
  let period (r : Nat) : Nat := 1000000000 / max 1 (nat c (kRailFsw r))
  if ch < 32 then
    match railOfPhase c (Fin.ofNat 32 ch) with
    | some r => period r
    | none => 100
  else if ch < 48 then 200
  else if ch < 56 then 100000
  else if ch < 60 then 1000
  else if ch < 76 then 250000
  else if ch < 104 then 1000
  else if ch < 128 then 10000
  else if ch < 140 then 1000000
  else if ch < 156 then period (ch - 140)
  else if ch = 156 then 100000
  else 1000

/-- The STALE bit of a channel (R223, Table 7.5): a published channel not written for 5 ms, or a sensed channel with no new
value for 4 of its sample periods; counted from the chip reset, at which the bit is 0, of one that has had no value yet.
[DEDUCED, log 56] -/
def chanStale (c : Chip) (ch : Nat) : Bool :=
  let age := c.clock.us - (chanOf c ch).writtenAt.getD c.clock.resetAt
  if chanPublished ch then decide (5000 ≤ age) else decide (4 * samplePeriodNs c ch < age * 1000)

/-- AGE of a channel (Table 7.5), in µs, saturating. -/
def chanAge (c : Chip) (ch : Nat) : Nat :=
  match (chanOf c ch).writtenAt with
  | none => 0xFFFF
  | some t => min 0xFFFF (c.clock.us - t)

/-- The status word of a channel (Table 7.5); a reserved channel, and one with no value since the chip reset, has VALID clear
(R222). [DEDUCED, log 56] -/
def chanStatus (c : Chip) (ch : Nat) : Word :=
  let x := chanOf c ch
  let bad := chanStale c ch || x.rippleFail || x.rangeFail || x.pilotFail
  BitVec.ofNat 32 (chanAge c ch * 65536 + bit (chanStale c ch) 4 + bit x.rippleFail 3 + bit x.rangeFail 2 +
    bit x.pilotFail 1 + bit (!chanReserved ch && (chanOf c ch).writtenAt.isSome && !bad) 0)

/-- The total current of a rail (R79): the sum over its active phases, on channel 140 + r. -/
def refreshRail (r : Fin 16) (c : Chip) : Chip :=
  publish (140 + r) (satWord (((activePhases c r).map fun p => chanInt c p.val).foldl (· + ·) 0)) c

/-! ### The units of the mills -/

/-- A place for a stock unit (R236): the mill and `MillUnit0` to `MillUnit3`. -/
structure Unit4 where
  mill : Fin 16
  slot : Fin 4
deriving DecidableEq, Repr

/-- The places of stock units, in order. -/
def unitPlaces : List Unit4 :=
  (List.finRange 16).flatMap fun m => (List.finRange 4).map fun k => { mill := m, slot := k }

/-- The word of a place: its unit's code and instance, 0 where the mill runs no stock units (R236). -/
def unitWord (c : Chip) (u : Unit4) : Nat :=
  if nat c (kMillSource u.mill) = 1 then nat c (kMillUnit0 u.mill u.slot) else 0

/-- The place that hosts a unit (R236). -/
def hostOf (c : Chip) (code instance_ : Nat) : Option Unit4 :=
  unitPlaces.find? fun u => unitWord c u == code * 256 + instance_

/-- The run of a unit can take place (R226, R227): its mill is READY and executes the unit's slot, or nothing while that
slot is the lowest pending one. [DESIGN CHOICE, log 59] -/
def unitRuns (c : Chip) (u : Unit4) : Bool :=
  let x := c.mills[u.mill]
  x.state == .ready && match x.running with
    | some k => k == u.slot
    | none => firstFin 4 (fun k => x.slots[k]) == some u.slot

/-- A coefficient as the real multiplier it is (R44, R215): the active bank's slot of the unit (R236). -/
def coef (c : Chip) (u : Unit4) (slot : Nat) : Rat :=
  let m := c.mills[u.mill]
  let i : Fin 256 := Fin.ofNat 256 (64 * u.slot + slot)
  let x := if m.activeB then m.bankB[i] else m.bankA[i]
  (x.value.toInt : Rat) / 2 ^ 31 * (2 : Rat) ^ x.shift

/-- The mill that runs a rail's loop (R231): the host of its unit, or the custom mill that owns it. -/
def loopMill (c : Chip) (r : Fin 16) : Option (Fin 16) :=
  match hostOf c (railType c r) r with
  | some u => if railType c r = 0 then none else some u.mill
  | none => firstFin 16 fun m => nat c (kMillSource m) == 2 && hasBit (nat c (kMillOwnRails m)) r.val

/-! ### Triggers -/

/-- The kind and the parameter of a slot's trigger (R226, R239): of custom millwork its `MillTrig` word, of a stock unit
that of Table 7.8. -/
def slotTrigger (c : Chip) (u : Unit4) : Nat × Nat :=
  if nat c (kMillSource u.mill) = 2 then (nat c (kMillTrig u.mill u.slot) / 4096, nat c (kMillTrig u.mill u.slot) % 4096)
  else match unitWord c u / 256 with
    | 1 | 2 => (5, unitWord c u % 256)
    | 3 | 5 => (3, 0)
    | 4 => (2, 64)
    | _ => (0, 0)

/-- A trigger fires on a slot (R226, R227): while the mill is READY it makes the slot pending, or is an overrun, with no more
than one event per second. -/
def fireSlot (u : Unit4) (c : Chip) : Chip :=
  let x := c.mills[u.mill]
  if x.state != .ready then c
  else if x.slots[u.slot] then
    let now := c.clock.us
    let quiet := match x.stat.overrunEventAt with
      | some t => decide (now < t + 1000000)
      | none => false
    let c := setMill u.mill (fun x => { x with stat := { x.stat with
      overruns := satSucc 65535 x.stat.overruns, overrunAt := some now
      overrunEventAt := if quiet then x.stat.overrunEventAt else some now } }) c
    when (!quiet) (raise (156 + u.mill) 3 0) c
  else setMill u.mill (fun x => { x with slots := x.slots.set u.slot true }) c

/-- Every slot fires whose trigger is of a kind, with a parameter that satisfies a condition (Table 7.6). -/
def fire (kind : Nat) (p : Nat → Bool) (c : Chip) : Chip :=
  each (unitPlaces.filter fun u => (slotTrigger c u).1 == kind && p (slotTrigger c u).2) fireSlot c

/-- Channels deliver new values (Table 7.6, kind 2): 64 to 75 together. -/
def newValues (chs : List Nat) (c : Chip) : Chip :=
  let strings := chs.any fun ch => decide (64 ≤ ch) && decide (ch < 76)
  fire 2 (fun ch => chs.contains ch || (strings && decide (64 ≤ ch) && decide (ch < 76))) c

/-! ### Samples -/

/-- The span of a converter's input in volts (Table 15.10): 0 V to it, or to either side of 0 V. -/
def inputSpan (ch : Nat) : Rat :=
  if ch < 32 then 1
  else if ch < 48 then 6 / 5
  else if ch < 56 then 5 / 2
  else if ch < 68 then 6 / 5
  else if ch < 72 then 1 / 10
  else if ch < 96 then 6 / 5
  else if ch < 104 then 1 / 4
  else 6 / 5

/-- The converter's input is differential about 0 V (Table 15.10). -/
def bipolar (ch : Nat) : Bool := ch < 32 || (68 ≤ ch && ch < 72) || (96 ≤ ch && ch < 104)

/-- The bits of a converter (R35, R72, R79, R120, R164, Table 15.10). -/
def adcBits (ch : Nat) : Nat :=
  if (32 ≤ ch && ch < 48) || (56 ≤ ch && ch < 60) then 14 else if 64 ≤ ch && ch < 76 then 16 else 12

/-- The voltage that a converter reads at an input in µV: the nearest step within its span (R462).
[DESIGN CHOICE, log 138] -/
def adcVolts (ch : Nat) (input : Int) : Rat :=
  let n : Nat := 2 ^ adcBits ch
  let low : Nat := if bipolar ch then n / 2 else 0
  let step : Rat := (if bipolar ch then 2 else 1) * inputSpan ch / (n : Rat)
  let code := roundRat ((input : Rat) / 1000000 / step)
  (clampInt (-(low : Int)) ((n : Int) - (low : Int) - 1) code : Rat) * step

/-- The quantity of an internal supply channel at 1.2 V, in V (Table 15.5). -/
def supplyScale (ch : Nat) : Rat :=
  if ch = 122 then 24
  else if ch = 124 || ch = 127 then 12 / 5
  else if ch = 125 then 24 / 5
  else 6 / 5

/-- What 1 V at the input of a channel stands for, in the channel's unit (R35, R72, R79, R120, R164, R458, R459). -/
def chanScale (c : Chip) (ch : Nat) : Rat :=
  if ch < 32 then (num c (kPhCurrentScale ch) : Rat) / 1000
  else if ch < 48 then hundredMicro (num c (kRailSenseScale (ch - 32))) / inputSpan ch
  else if ch < 56 then (num c (kRmShareScale (ch - 48)) : Rat) / 1000 / inputSpan ch
  else if ch < 60 then hundredMicro (num c kBusTapScale) / inputSpan ch
  else if ch < 68 then hundredMicro (num c (kStrVoltScale (ch - 64))) / inputSpan ch
  else if ch < 72 then (num c (kStrShuntScale (ch - 68)) : Rat) / 1000 / inputSpan ch
  else if ch < 88 then hundredMicro (num c (kPpVinScale (ch - 80))) / inputSpan ch
  else if ch < 96 then hundredMicro (num c (kPpVoutScale (ch - 88))) / inputSpan ch
  else if ch < 104 then
    (if nat c (kPpRole (ch - 96)) = 2 then 1 / (max 1 (nat c (kPpOrVdsGain (ch - 96))) : Nat)
      else (num c (kPpIScale (ch - 96)) : Rat) / 1000 / inputSpan ch)
  else if 122 ≤ ch then supplyScale ch / inputSpan ch
  else 1

/-- The temperature of a string's thermistor from its input (R120, Table 15.10): the thermistor stands under a bias of
10 kΩ from 1.2 V, and follows the beta equation. [DESIGN CHOICE, log 138] -/
def thermistor (c : Chip) (s : Fin 4) (input : Int) : Word :=
  let v := adcVolts (72 + s) input
  let r := 10000 * v / (6 / 5 - v)
  let inv : Rat := 1 / (29815 / 100) + lnRat 64 (r / (max 1 (nat c (kStrNtcNominal s)) : Nat)) / (max 1 (nat c (kStrNtcBeta s)) : Nat)
  if v ≤ 0 || inv ≤ 0 then Config.ntcOutside input else toQ 16 (1 / inv - 27315 / 100)

/-- The voltage that a channel's value is made of: the average of the conversions of a phase current over its period (R72)
and of a share current (R35), the mean of the last two of a port (R164), and the latest of every other. -/
def sampleVolts (x : Sample) : Rat :=
  let ch := x.ch.val
  let l := x.inputs.map (adcVolts ch)
  let l := if ch < 32 || (48 ≤ ch && ch < 56) then l else if 80 ≤ ch && ch < 104 then l.drop (l.length - 2) else l.drop (l.length - 1)
  l.foldl (· + ·) 0 / (max 1 l.length : Nat)

/-- The word of a channel from its conversions (Table 7.4). -/
def sampleWord (c : Chip) (x : Sample) : Word :=
  if 72 ≤ x.ch.val && x.ch.val < 76 then
    (if c.strs[Fin.ofNat 4 x.ch.val].ntcFail then 0x7FFFFFFF
      else thermistor c (Fin.ofNat 4 x.ch.val) (x.inputs.getLastD 0))
  else toQ (chanFrac c x.ch.val) (sampleVolts x * chanScale c x.ch.val)

/-- An input lies above 98 % of full scale, in either direction for a phase current and a port's pair (R111, R120,
R164). [DEDUCED, log 31] -/
def overRange (ch : Nat) (input : Int) : Bool :=
  let v : Rat := (input : Rat) / 1000000
  decide (ch < 128) && decide (inputSpan ch * 98 / 100 < (if ch < 32 || (96 ≤ ch && ch < 104) then ratAbs v else v))

/-- One conversion passes the warning filter of a monitor (R194): of first order, its result scaled by `WmScale` into
`WmValue`. [DESIGN CHOICE, log 9] -/
def filterSample (period tau : Nat) (scale : Int) (volts : Rat) (w : Wm) : Wm :=
  let f := w.filtered + Config.filterGain period tau * (volts - w.filtered)
  { w with filtered := f, value := roundRat (f / (6 / 5) * (scale : Rat)) }

/-- The monitors of a channel filter its conversions (R194). -/
def takeWarnings (x : Sample) (c : Chip) : Chip :=
  each ((List.finRange 64).filter fun (m : Fin 64) => nat c (kWmChannel m) == x.ch.val) (fun (m : Fin 64) c =>
    setWm m (fun w => x.inputs.foldl (fun w i =>
      filterSample (samplePeriodNs c x.ch.val) (nat c (kWmWarnFilter m) * 1000) (num c (kWmScale m)) (adcVolts x.ch.val i) w) w) c) c

/-- The nominal reading of a supply channel, and its window as a fraction of it (R368). -/
def supplyWindow (ch : Nat) : Option (Rat × Rat) :=
  if ch = 123 then some (4 / 5, 1 / 20)
  else if ch = 124 then some (9 / 5, 1 / 20)
  else if ch = 125 then some (33 / 10, 1 / 20)
  else if ch = 126 then some (1, 1 / 100)
  else none

/-- A reading lies outside the window of its supply, made narrower by a fraction of the nominal reading (R368). -/
def supplyBad (ch : Nat) (less : Rat) (reading : Int) : Bool :=
  match supplyWindow ch with
  | some (v, f) => decide (v * (f - less) < ratAbs (ofQ 22 (satWord reading) - v))
  | none => false

/-- A supply is back inside its window by 1 % of the nominal reading (R368). [DEDUCED, log 110] -/
def supplyBack (ch : Fin 256) (c : Chip) : Chip :=
  if c.watch.supplyOut.contains ch && !supplyBad ch (1 / 100) (chanInt c ch) then
    setWatch (fun w => { w with supplyOut := w.supplyOut.filter (· != ch) }) c
  else c

/-- One channel takes its conversions; a reading within 98 % of full scale ends a range failure (R111). [DEDUCED, log 31] -/
def takeSample (x : Sample) (c : Chip) : Chip :=
  match x.inputs.getLast? with
  | none => c
  | some last =>
    let c := supplyBack x.ch (takeWarnings x (publish x.ch.val (sampleWord c x) c))
    setChan x.ch (fun y => { y with pin := last, rangeFail := y.rangeFail && overRange x.ch.val last }) c

/-- The conversions of a tap join its last 100 (R41). -/
def takeTap (x : Sample) (c : Chip) : Chip :=
  if 56 ≤ x.ch.val && x.ch.val < 60 then
    let words := x.inputs.reverse.map fun i => toQ 22 (adcVolts x.ch.val i * chanScale c x.ch.val)
    let k := Fin.ofNat 4 x.ch.val
    setBus (fun b => { b with taps := b.taps.set k ((words ++ b.taps[k]).take 100) }) c
  else c

/-! ### Taps and the bus voltage -/

/-- The tap is valid (R40). -/
def tapValid (c : Chip) (k : Fin 4) : Bool :=
  hasBit (nat c kBusTapFitted) k.val && !(chanOf c (56 + k)).pilotFail && c.bus.tapOk[k]

/-- Some tap is valid (R42). -/
def anyTapValid (c : Chip) : Bool := (List.finRange 4).any (tapValid c)

/-- The mean of a tap's last 100 samples (R41); none where it has none. [DEDUCED, log 19] -/
def tapMean (c : Chip) (k : Fin 4) : Option Int :=
  let l := c.bus.taps[k]
  if l.isEmpty then none else some (roundRat (((l.map BitVec.toInt).foldl (· + ·) 0 : Int) / (l.length : Rat)))

/-- A number placed in a rising list. -/
def insertInt (v : Int) : List Int → List Int
  | [] => [v]
  | w :: rest => if v ≤ w then v :: w :: rest else w :: insertInt v rest

/-- The median of numbers; of an even count, the mean of the middle two (R40). -/
def median (l : List Int) : Int :=
  let s := l.foldr insertInt []
  let n := s.length
  if n % 2 = 1 then s.getD (n / 2) 0 else roundRat (((s.getD (n / 2 - 1) 0 + s.getD (n / 2) 0 : Int) : Rat) / 2)

/-- The lowest valid tap (R41, R59): the model reads "lowest" as the lowest in number, as `BUSV0` to `BUSV3` are numbered.
[DESIGN CHOICE, log 19] -/
def lowestTap (c : Chip) : Option (Fin 4) := firstFin 4 (tapValid c)

/-- Channel 157 carries the latest sample of the lowest valid tap (R41). -/
def refreshTap (c : Chip) : Chip :=
  match lowestTap c with
  | some k => publish 157 (chanOf c (56 + k)).word c
  | none => c

/-- The tap lies within `BusTapTolerance` of the median of the fitted taps, by their latest samples (R40). -/
def tapWithin (c : Chip) (k : Fin 4) : Bool :=
  let fitted := (List.finRange 4).filter fun j => hasBit (nat c kBusTapFitted) j.val
  let mid := ofQ 22 (satWord (median (fitted.map fun j => chanInt c (56 + j.val))))
  decide (ratAbs (val c (56 + k) - mid) ≤ hundredMicro (num c kBusTapTolerance))

/-- The first 10 ms after boot step 10, in which no tap raises an event, have passed (R40, R42). -/
def tapsSettled (c : Chip) : Bool := c.bus.tapsJudged && decide (c.bus.tapsFrom + 10000 ≤ c.clock.us)

/-- New samples are taken (R222): each channel's value, the history of a tap, the lowest valid tap, the totals of the rails,
and the triggers that new values fire (R226). A sample of a channel that SENSE does not convert is none. [DESIGN CHOICE, log 136] -/
def takeSamples (l : List Sample) (c : Chip) : Chip :=
  let l := l.filter Sample.fits
  let c := each l (fun x c => takeTap x (takeSample x c)) c
  let c := when (l.any fun x => 56 ≤ x.ch.val && x.ch.val < 60) refreshTap c
  let rails := (List.finRange 16).filter fun r => (phasesOf c r).any fun p => l.any fun x => x.ch.val == p.val
  newValues ((l.filter fun x => !x.inputs.isEmpty).map fun x => x.ch.val) (each rails refreshRail c)

/-- `BusVoltage` and channels 156 and 157 are refreshed (R41). -/
def refreshBus (c : Chip) : Chip :=
  let k := Fin.ofNat 4 (nat c kBusRegTap)
  let valid := (List.finRange 4).filter (tapValid c)
  let v := if tapValid c k || valid.isEmpty then tapMean c k
    else some (median (valid.filterMap (tapMean c)))
  refreshTap (match v with
    | some v => publish 156 (satWord v) (setBus (fun b => { b with voltage := satWord v }) c)
    | none => c)

/-- `BusVoltage` in 100 µV. -/
def busHundredMicro (c : Chip) : Int := roundRat (ofQ 22 c.bus.voltage * 10000)

/-- The source is good (R58): the bus at `HandbackLevel`, and rectifiers enough without ALARM. -/
def sourceGood (c : Chip) : Bool :=
  let enabled := (fittedRms c).filter fun n => c.rms[n].en
  let free := (enabled.filter fun n => !c.rms[n].alarm).length
  let need := if nat c kSourceMinRect = 0 then enabled.length else nat c kSourceMinRect
  decide (hundredMicro (num c kBusTarget) * pct (num c kHandbackLevel) ≤ ofQ 22 c.bus.voltage) && decide (need ≤ free)

/-! ### Rails -/

/-- The period in steps of 125 ps that a rail should take up (R81, R82): of the frequency it is locked to or holds after a
loss, or of `RailFsw`. -/
def nominalTicks (c : Chip) (r : Fin 16) : Nat :=
  let x := c.rails[r]
  let f := if nat c (kRailSyncMode r) != 0 && (x.syncLock || x.syncLost) && x.syncFreq != 0 then x.syncFreq
    else nat c (kRailFsw r)
  (roundRat (8000000000 / (max 1 f : Nat))).toNat

/-- The period of a rail in force, in steps of 125 ps (R74, R75): the one that its first phase took up at a period start,
and the nominal one of a rail that does not switch. -/
def periodTicks (c : Chip) (r : Fin 16) : Nat :=
  if c.rails[r].period = 0 then nominalTicks c r else c.rails[r].period

/-- The switching frequency in force, in Hz. -/
def railHz (c : Chip) (r : Fin 16) : Rat := 8000000000 / (max 1 (periodTicks c r) : Nat)

/-- `RailFswNow` in Hz (Table 3.10): of a rail that produces edges, whose period is in force; else there is nothing to
measure, and the model reads 0. [DEDUCED, log 34] -/
def fswNow (c : Chip) (r : Fin 16) : Nat := if c.rails[r].period = 0 then 0 else (roundRat (railHz c r)).toNat

/-- The slew of the SETV commands to come, in 0.1 mV/µs (R103, R107): the one a SLEW has set since OFF, or `RailVcSlew`. -/
def vcSlewNow (c : Chip) (r : Fin 16) : Nat := c.rails[r].vcSlew.getD (nat c (kRailVcSlew r))

/-- A limit of a phase current in A, as its comparator has it (R73): rounded down to the 10-bit steps of `PhCurrentScale`. -/
def comparatorLimit (c : Chip) (p : Fin 32) (limit : Int) : Rat :=
  let step : Rat := (num c (kPhCurrentScale p) : Rat) / 1000 / 1024
  if step ≤ 0 then 0 else ((limit : Rat) / 1000 / step).floor * step

/-- `RailLimitNow` in mA (R96). -/
def limitNow (c : Chip) (r : Fin 16) : Int :=
  let n := (phasesOf c r).length
  if n = 0 then 0 else num c (kRailCurrentLimit r) * (activePhases c r).length / n

/-- The rail's limit is published on channel 192 + r (Table 7.4, class 07h of Table 7.7). -/
def publishLimit (r : Fin 16) (c : Chip) : Chip :=
  if railType c r = 1 then publish (192 + r) (toQ 16 ((limitNow c r : Rat) / 1000)) c
  else if railType c r = 2 then publish (192 + r) (satWord ((c.rails[r].capLevel * 2147483648 / 10000 : Nat) : Int)) c
  else c

/-- The commanded voltage before margin is published on channel 176 + r (Table 7.4). -/
def publishCommand (r : Fin 16) (c : Chip) : Chip :=
  if railType c r = 1 then publish (176 + r) (toQ 22 (hundredMicro c.rails[r].command)) c else c

/-- The effective target in volts (R93). -/
def effTarget (c : Chip) (r : Fin 16) : Rat :=
  (c.rails[r].ref : Rat) / 2 ^ 22 - (num c (kRailLoadLine r) : Rat) / 1000000 * val c (140 + r)

/-- The sign of a number gives the result of a division by 0 (Table 7.2, DIV). -/
def divByZero (a : Rat) : Word := if 0 < a then 0x7FFFFFFF else if a < 0 then 0x80000000 else 0

/-- A quotient as a Q1.31 word, truncated towards zero and saturated, as DIV with K = 31 forms it (Table 7.2). -/
def divQ31 (a b : Rat) : Word :=
  if b = 0 then divByZero a
  else
    let q := a / b * 2147483648
    satWord (q.num.tdiv q.den)

/-- A number saturates as a word with `n` fractional bits (R216). -/
def overflows (n : Nat) (q : Rat) : Bool := decide ((toQ n q).toInt ≠ roundRat (q * 2 ^ n))

/-- DIV with K = 31 saturates, or has a divisor of 0 (Table 7.2). -/
def divOverflows (a b : Rat) : Bool := b = 0 || decide (1 ≤ a / b) || decide (a / b < -1)

/-- A run of a unit saturates in one of the values that its law stores or divides (R216). [DEDUCED, log 55] -/
def noteSat (u : Unit4) (b : Bool) (c : Chip) : Chip := when b (setMill u.mill fun x => { x with v := true }) c

/-- The first entry of the power-up table is `TTYPE` and `TNUM` (Table 6.4) of the target. -/
def hasUpEntry (c : Chip) (ttype tnum : Nat) : Bool :=
  (List.range (nat c kSeqUpLength)).any fun j =>
    let a := nat c (kSeqUpWordA j)
    field a 28 4 == ttype && field a 24 4 == tnum

/-- The start condition of a target (R84): enabled, and reached by the power-up table or left out of it and the table
completed. -/
def startRule (c : Chip) (enabled reached : Bool) (ttype tnum : Nat) : Bool :=
  enabled && (reached || (!hasUpEntry c ttype tnum && c.seq.upComplete))

/-- The start condition of a rail (R84). -/
def startCond (c : Chip) (r : Fin 16) : Bool := startRule c (flag c (kRailEnable r)) c.seq.railReached[r] 1 r

/-- The hamper of a handle. -/
def hamperOf (c : Chip) (handle : Nat) : Option Hamper := c.hampers.list.find? fun h => h.handle == handle

/-- The hampers whose validation has passed and which have not ended (R278). -/
def holdingHampers (c : Chip) : List Hamper :=
  c.hampers.list.filter fun h => match h.state with
    | .prepared | .armed => true
    | .validating => !c.hampers.queue.contains (.hamper h.handle false)
    | _ => false

/-- A key that a validated hamper stages satisfies a condition (R278). -/
def staged (c : Chip) (p : Key → Bool) : Bool := (holdingHampers c).any fun h => h.writes.any fun w => p w.1

/-- The rail's start is deferred (R278): its type, mask, VC binding or hosting mill is staged. -/
def railStartHeld (c : Chip) (r : Fin 16) : Bool :=
  staged c fun k => k == kRailType r || k == kRailPhaseMask r || k == kRailVcPort r ||
    match loopMill c r with
    | some m => k / 256 == 0x5000 + 0x100 * m.val || k / 256 == 0x5001 + 0x100 * m.val
    | none => false

/-- The cap level of a VC port (R108): the lower of `CapVcLevel`, where enabled, and the rail's own level. -/
def vcLevelNow (c : Chip) (n : Fin 4) : Nat :=
  let a := if flag c (kCapVcEnable n) then c.cap.vcLevel else 10000
  match railOfVc c n with
  | some r => min a c.rails[r].capLevel
  | none => a

/-- A change of a VC port's cap level makes it pending (R108). -/
def vcLevel (n : Fin 4) (c : Chip) : Chip :=
  let l := vcLevelNow c n
  if l = c.vcs[n].level then c else setVc n (fun v => { v with level := l, levelPending := true }) c

/-- A string's charge starts in CC, or in FLOAT while WDFALLBACK is set (R134). -/
def startCharge (s : Fin 4) (c : Chip) : Chip :=
  setStr s (fun x => { x with phase := if x.wdFallback then .float else .cc }) c

/-! ### Sending on the Lane -/

/-- Bytes without the zeros at their end (R332). -/
def trimZeros (b : List Byte) : List Byte := (b.reverse.dropWhile (· == 0)).reverse

/-- Header bytes 0 to 7 (Table 10.1). -/
def headLow (f : LaneFrame) : List Byte :=
  leBytes 2 (f.dest.toNat + 2048 * f.cls.toNat) ++ leBytes 2 f.src.toNat ++ leBytes 2 f.seq.toNat ++
    leBytes 2 (f.payload.length % 512 + bit f.dir 9)

/-- Header bytes 8 and 9 (Table 10.1). -/
def headHigh (f : LaneFrame) : List Byte := leBytes 2 (f.hops.toNat + 2048 * f.turns.toNat)

/-- HCHK of a frame (Table 10.1). -/
def hchkOf (f : LaneFrame) : BitVec 16 := crc16 (headLow f ++ headHigh f)

/-- The CRC-32 of a frame (R331). -/
def crcOf (f : LaneFrame) : BitVec 32 := crc32 (headLow f ++ f.payload)

/-- The other port. -/
def otherPort : LanePort → LanePort
  | .a => .b
  | .b => .a

/-- A port of the Lane. -/
def laneLink (c : Chip) : LanePort → LaneLink
  | .a => c.lane.linkA
  | .b => c.lane.linkB

/-- LANE runs (R329): booted, its clock running, and not in or after block reset. [DEDUCED, log 94, 130] -/
def laneRuns (c : Chip) : Bool :=
  let h := c.hamlets[(8 : Fin 27)]
  c.boot.phase == .running && h.run && !h.blkrst && !h.closed

/-- A node that is JOINING or MEMBER sends and delivers; any other is in pass-through (R329, R339), as in the safe state. -/
def laneActive (c : Chip) : Bool :=
  laneRuns c && !c.watch.safe && match c.lane.state with
    | .joining | .member => true
    | .off | .duplicate => false

/-- A MEMBER delivers frames of every class (R339). -/
def laneMember (c : Chip) : Bool := laneActive c && c.lane.state == .member

/-- A frame leaves that would go by a port: by the other one, TURNS one higher, while that port is wrapped (R328); where
the link is down it is lost. -/
def laneLeave (p : LanePort) (f : LaneFrame) (c : Chip) : Chip :=
  let turned := c.lane.wrap == some p
  let q := if turned then otherPort p else p
  let f := if turned then { f with turns := f.turns + 1 } else f
  if (laneLink c q).up then
    setLane (fun l => { l with tx := l.tx ++ [.frame q { f with hchk := hchkOf f }] }) c
  else c

/-- A frame of this node goes out by one port, its DIR that of the port it leaves by (Table 10.1). [DEDUCED, log 93] -/
def laneCopy (p : LanePort) (dest cls : Nat) (n : BitVec 16) (payload : List Byte) (c : Chip) : Chip :=
  let q := if c.lane.wrap == some p then otherPort p else p
  let f : LaneFrame :=
    { dest := BitVec.ofNat 11 dest, cls := BitVec.ofNat 4 cls, src := BitVec.ofNat 11 c.lane.nodeIdNow, seq := n
      dir := q == .b, hops := 0, turns := 0, payload := payload, hchk := 0, crc := 0 }
  laneLeave p { f with crc := crcOf f } c

/-- A frame of this node goes out (R332, R337): classes 0 to 2 leave out the zeros at the end, and each class counts its
SEQ, one for both copies. A node in pass-through sends link-local frames only (R329). [DEDUCED, log 93] -/
def laneSend (byA byB : Bool) (dest cls : Nat) (payload : List Byte) (c : Chip) : Chip :=
  if !(laneActive c || (laneRuns c && dest == 0x7FE)) then c
  else
    let k : Fin 16 := Fin.ofNat 16 cls
    let n := c.lane.seqs[k]
    let payload := if cls ≤ 2 then trimZeros payload else payload
    let c := setLane (fun l => { l with seqs := l.seqs.set k (n + 1) }) c
    let c := when byA (laneCopy .a dest cls n payload) c
    when byB (laneCopy .b dest cls n payload) c

/-- A time lies within the last `n` µs. -/
def within (c : Chip) (n : Nat) (t : Option Nat) : Bool :=
  match t with
  | some t => decide (c.clock.us < t + n)
  | none => false

end Sys2Proof.Machine
end

