-- ==== Sys2Proof/Machine/AlmOps.lean ====
section
/-! DEFINITION. The Almanac's flash storage: sectors, writing, flush, the boot scan, and the bytes of a record and of an
export (R382, R390 to R398). -/

namespace Sys2Proof.Machine

/-! ### Records as bytes -/

/-- The kind byte of a record (Table 12.2). -/
def RecordKind.number : RecordKind → Nat
  | .event _ => 1
  | .log => 2
  | .gap => 3
  | .mark => 4
  | .close => 5
  | .checkpoint => 6
  | .damaged => 0xFF

/-- The event-kind bits of the flags (Table 12.1). -/
def RecordKind.bits : RecordKind → Nat
  | .event .raised => 0
  | .event .forced => 1
  | .event .echo => 2
  | _ => 3

/-- The record time format (Table 12.1). -/
def timeBytes (ms cycle : Nat) : List Byte := leBytes 8 (ms % 2 ^ 44 * 2 ^ 20 + cycle % 2 ^ 20)

/-- A snapshot entry (Table 12.3). -/
def snapBytes (e : Snap) : List Byte :=
  leBytes 2 e.index ++ leBytes 1 e.sub ++ [e.type] ++ leBytes 4 e.value.toNat

/-- Bytes cut or filled with zeros to a length. -/
def padTo (n : Nat) (b : List Byte) : List Byte := b.take n ++ List.replicate (n - b.length) 0

/-- The 128 data bytes of a record (R382). -/
def recordBytes (r : Record) : List Byte :=
  leBytes 1 r.kind.number ++
    leBytes 1 (r.severity.val + 4 * r.kind.bits + bit r.loss 4 + bit r.reserve 5 + bit r.recovery 6) ++
    leBytes 1 r.source.val ++ [r.code] ++ leBytes 4 (r.seq.getD 0xFFFFFFFF) ++ timeBytes r.timeMs r.cycle ++
    leBytes 2 r.repeats ++ leBytes 4 r.lastRepeat ++ leBytes 1 r.lifeCycle ++ leBytes 1 (min 12 r.entries.length) ++
    toLe 4 r.value ++ leBytes 2 r.node ++ leBytes 1 r.twin.toNat ++ [0] ++
    padTo 96 ((r.entries.take 12).flatMap snapBytes)

/-! ### Sectors -/

/-- The main region is a plain ring (R393). [DEDUCED, log 116] -/
def plainRing (c : Chip) : Bool := lifeCycle c != .deployed || c.boot.phase == .recovery

/-- Sectors of the main region (Table 14.4, R390). -/
def mainPlaces (c : Chip) : Nat := c.nor.size * 256 - 0x640 - 128

/-- Sectors of the critical reserve (R390). -/
def reservePlaces : Nat := 128

/-- The severity of a sector: the highest of its records (R390). -/
def Sector.severity (s : Sector) : Nat := (s.records.map fun r => r.severity.val).foldl max 0

/-- The 32 data bytes of a sector's header codeword (Table 12.5). -/
def Sector.header (reserve : Bool) (s : Sector) : List Byte :=
  padTo 32 ([0x41, 0x4C, 1] ++ leBytes 1 (bit reserve 0) ++ leBytes 4 s.opening ++
    leBytes 4 ((s.records.head?.bind (·.seq)).getD 0xFFFFFFFF) ++ timeBytes s.timeMs s.cycle ++ leBytes 1 s.lifeCycle ++
    leBytes 1 (bit s.plain 0))

/-- The three severity marks of a sector: mark k − 1 is programmed once it holds a record of severity k or above (R390). -/
def Sector.marks (s : Sector) : List Byte := (List.range 3).map fun k => if k < s.severity then 0 else 0xFF

/-- Every record of a sector list lies outside the frozen range of a READY export (R392). [DEDUCED, log 116] -/
def uncovered (c : Chip) (s : Sector) : Bool :=
  c.alm.frozen.state != .ready ||
    s.records.all fun r => !(c.alm.frozen.records.any fun q => q.seq == r.seq)

/-- The oldest sector that a record of a severity may reclaim in the main region (R392, R393): never the open one.
[DEDUCED, log 116] -/
def victim (c : Chip) (sev : Nat) : Option Sector :=
  (c.alm.main.sectors.dropLast).find? fun s =>
    (plainRing c || (decide (s.severity ≤ sev) && decide (s.severity < 3))) && uncovered c s

/-- A region's next successor is chosen and its erase begins (R391): a never-used sector first, then a sector reclaimed. -/
def eraseNext (places : Nat) (reclaim : Option Sector) (g : Region) : Region :=
  if g.erasing.isSome then g
  else if g.touched < places then { g with erasing := some g.touched, touched := g.touched + 1 }
  else match reclaim with
    | some s => { g with erasing := some s.place, sectors := g.sectors.filter fun x => x.place != s.place }
    | none => g

/-- The free slots of the open sector. -/
def openSlots (g : Region) : Nat :=
  match g.sectors.getLast? with
  | some s => if s.closed then 0 else 28 - s.records.length
  | none => 0

/-- Successors are erased ahead of need in both regions (R391). -/
def prepare (c : Chip) : Chip :=
  let a := c.alm
  let main := if openSlots a.main + 28 * a.main.ready.length < 65 && decide (a.main.ready.length < 3) then
    eraseNext (mainPlaces c) (victim c 0) a.main else a.main
  let reserve := if a.reserve.ready.isEmpty then
    eraseNext reservePlaces a.reserve.sectors.dropLast.head? a.reserve else a.reserve
  if c.nor.size = 0 then c else { c with alm := { a with main := main, reserve := reserve } }

/-- The erase of a region's successor completes (R391). -/
def eraseDone (g : Region) : Region :=
  match g.erasing with
  | some p => { g with erasing := none, ready := g.ready ++ [p] }
  | none => g

/-- SECTOR_ERASE_DONE (R391): of the main region where one runs there, else of the reserve. -/
def sectorEraseDone (c : Chip) : Chip :=
  let a := c.alm
  if a.main.erasing.isSome then prepare { c with alm := { a with main := eraseDone a.main } }
  else prepare { c with alm := { a with reserve := eraseDone a.reserve } }

/-- A record can be written to a region now: the open sector has a slot, or an erased successor stands ready. -/
def writable (g : Region) : Bool := decide (0 < openSlots g) || !g.ready.isEmpty

/-- A record is programmed into the next free slot of a region, a sector opened where needed (R390, R391). -/
def program (c : Chip) (r : Record) (g : Region) : Region :=
  if 0 < openSlots g then
    match g.sectors.getLast? with
    | some s => { g with sectors := g.sectors.dropLast ++ [{ s with records := s.records ++ [r] }] }
    | none => g
  else match g.ready with
    | p :: rest => { g with
        ready := rest, openings := g.openings + 1
        sectors := g.sectors ++ [{
          place := p, opening := g.openings + 1, timeMs := nowMs c, cycle := c.clock.powerCycles
          lifeCycle := (lifeCycle c).number, plain := plainRing c, records := [r] }] }
    | [] => g

/-- The record of a thermal shutdown (R375, R393). -/
def shutdownRecord (r : Record) : Bool := r.kind == .log && r.code == 0x40

/-- LOSS is set in the next record to be written (R392). [DEDUCED, log 115] -/
def markLoss (a : Alm) : Alm :=
  match a.buffer with
  | r :: rest => { a with buffer := { r with loss := true } :: rest }
  | [] => { a with lossFlag := true }

/-- The oldest record of the buffer is written, or dropped, or waits for an erase (R391 to R393). -/
def writeRecord (c : Chip) : Chip :=
  let a := c.alm
  match a.buffer with
  | [] => c
  | r :: rest =>
    if r.seq.isNone || c.nor.size = 0 then c
    else
      let toReserve := prepare { c with alm := { a with
        buffer := rest, reserve := program c { r with reserve := true } a.reserve } }
      if shutdownRecord r then
        (if writable a.reserve then toReserve else prepare c)
      else if writable a.main then prepare { c with alm := { a with buffer := rest, main := program c r a.main } }
      else
        let main := eraseNext (mainPlaces c) (victim c r.severity) a.main
        if main.erasing.isSome then { c with alm := { a with main := main } }
        else if plainRing c then c
        else if r.severity = 3 then (if writable a.reserve then toReserve else prepare c)
        else { c with alm := markLoss { a with buffer := rest, lost := a.lost + 1 } }

/-- A record is ready for flash: the buffer holds one that is not held back for repeats (R364, R388). -/
def recordReady (c : Chip) : Bool := !c.alm.buffer.isEmpty && !(c.alm.held && decide (c.alm.buffer.length ≤ 1))

/-- RECORD_WRITE_DONE (R364, R391): the oldest record that is not held reaches its slot; whoever held the memory port has
released it. [DEDUCED, log 108] -/
def recordWriteDone (c : Chip) : Chip :=
  if !recordReady c then c else setGreen (fun g => { g with memLock := none }) (writeRecord c)

/-- Every buffered record is written, the erases it needs included; `n` bounds the steps. [DESIGN CHOICE, log 118] -/
def flushAll : Nat → Chip → Chip
  | 0, c => c
  | n + 1, c =>
    if c.alm.buffer.isEmpty then c
    else flushAll n (sectorEraseDone (writeRecord { c with alm := release c.alm }))

/-- The flush of an export or of a transition (R397, R448). [DESIGN CHOICE, log 118] -/
def flush (c : Chip) : Chip := flushAll 256 c

/-- The open sector of a region closes (R394). -/
def closeOpen (g : Region) : Region :=
  match g.sectors.getLast? with
  | some s => { g with sectors := g.sectors.dropLast ++ [{ s with closed := true }] }
  | none => g

/-- The record that is being programmed goes to the critical reserve (R392, R393). -/
def goesToReserve (c : Chip) : Bool := (c.alm.buffer.head?.map shutdownRecord).getD false || !writable c.alm.main

/-- FLASH_PROGRAM_FAIL (R394): the sector closes, and the next write opens another; where no record is ready, the erase of
a successor has failed, and another is chosen. [DEDUCED, log 117] -/
def flashProgramFail (c : Chip) : Chip :=
  let a := c.alm
  if !clocked c then c
  else if recordReady c then
    let closed := if goesToReserve c then { a with reserve := closeOpen a.reserve } else { a with main := closeOpen a.main }
    raise 227 1 0 (prepare { c with alm := closed })
  else if a.main.erasing.isSome then
    raise 227 2 0 (prepare { c with alm := { a with main := { a.main with erasing := none } } })
  else if a.reserve.erasing.isSome then
    raise 227 2 0 (prepare { c with alm := { a with reserve := { a.reserve with erasing := none } } })
  else c

/-- The held record has waited for `AlmRepeatFlush` since its time (R388). -/
def heldLongEnough (c : Chip) : Bool :=
  match c.alm.buffer.getLast? with
  | some r => decide (r.timeMs + nat c kAlmRepeatFlush * 1000 ≤ nowMs c)
  | none => true

/-- HELD_RECORD_FLUSH (R388): `AlmRepeatFlush` has passed since the record's time. -/
def heldRecordFlush (c : Chip) : Chip := when (heldLongEnough c) (setAlm release) c

/-- ALMANAC_CHECKPOINT (R384): `AlmCheckpoint` has passed since the last one. [DEDUCED, log 119] -/
def almanacCheckpoint (c : Chip) : Chip :=
  if live c && decide (c.alm.checkpointAt + nat c kAlmCheckpoint * 60000 ≤ nowMs c) then
    setAlm (fun a => { a with checkpointAt := nowMs c })
      (accept { kind := .checkpoint, severity := 0, source := 193, code := 1 } c)
  else c

/-! ### The boot scan -/

/-- Every record on flash. -/
def stored (c : Chip) : List Record := (c.alm.main.sectors ++ c.alm.reserve.sectors).flatMap (·.records)

/-- The record of the higher number. -/
def newer (a : Option Record) (r : Record) : Option Record :=
  match a with
  | none => some r
  | some q => if q.seq.getD 0 ≤ r.seq.getD 0 then some r else some q

/-- The newest record on flash, of those that satisfy a condition. [DEDUCED, log 119] -/
def newestOf (c : Chip) (p : Record → Bool) : Option Record := ((stored c).filter p).foldl newer none

/-- The scan at boot (R383, R384, R396): the next number, the waiting records numbered, the counters of a power-on
restored, and a GAP where numbers are missing. [DEDUCED, log 119] -/
def bootScan (powerOn : Bool) (c : Chip) : Chip :=
  let newest := newestOf c fun _ => true
  let mark := newestOf c fun r => r.kind == .mark
  let last := (newest.bind (·.seq)).getD 0
  let ceiling : Nat := match mark with
    | some m => m.value.toNat
    | none => last
  let clean : Bool := match newest with
    | none => true
    | some r => r.kind == .close
  let next := if clean then last + 1 else ceiling + 1
  let waiting := c.alm.buffer
  let c := match newest with
    | some r => if powerOn then { c with clock := { c.clock with
        us := r.timeMs * 1000, powerCycles := (r.cycle + 1) % 2 ^ 20 } } else c
    | none => c
  let c := setAlm (fun a => { a with
    buffer := [], held := false, next := some next, lastMark := mark.bind (·.seq)
    checkpointAt := if powerOn then nowMs c else a.checkpointAt }) c
  let c := each waiting enter c
  if clean then prepare c
  else prepare (accept
    { kind := .gap, severity := 2, source := 193, code := 1, value := (ceiling - last : Nat)
      entries := [{ sub := 0, type := 7, value := BitVec.ofNat 32 (last + 1) },
        { sub := 1, type := 7, value := BitVec.ofNat 32 ceiling }] } c)

/-! ### Export -/

/-- A record placed among others by ascending number. -/
def insertRecord (r : Record) : List Record → List Record
  | [] => [r]
  | q :: rest => if r.seq.getD 0 ≤ q.seq.getD 0 then r :: q :: rest else q :: insertRecord r rest

/-- The records on flash in ascending number order. -/
def storedInOrder (c : Chip) : List Record := (stored c).foldr insertRecord []

/-- EXPORT_START acts (R397): the buffer is flushed and the range frozen. [DESIGN CHOICE, log 118] -/
def exportFreeze (c : Chip) : Chip :=
  let c := flush c
  setAlm (fun a => { a with frozen :=
    { state := .ready, records := storedInOrder c, startMs := nowMs c, startCycle := c.clock.powerCycles } }) c

/-- The number of a record, as its four bytes show it. -/
def seqOf (r : Option Record) : Nat := (r.bind (·.seq)).getD 0

/-- The frozen stream before its digest (R398). -/
def exportBody (c : Chip) : List Byte :=
  let f := c.alm.frozen
  padTo 64 (padTo 28 ([0x41, 0x4C, 0x01, 0, 0, 0, 0, 0] ++ padTo 8 c.fuses.serial ++
    leBytes 4 (seqOf f.records.head?) ++ leBytes 4 (seqOf f.records.getLast?) ++ leBytes 4 f.records.length) ++
    timeBytes f.startMs f.startCycle ++ leBytes 2 (if flag c kLaneEnable then c.lane.nodeIdNow else 0xFFFF)) ++
    f.records.flatMap recordBytes

/-- The frozen stream (R398). -/
def exportBytes (c : Chip) : List Byte := exportBody c ++ (sha256 (exportBody c)).toList

/-! ### The commands -/

/-- HELD_RECORD_FLUSH (R388) answers the state with its effect. -/
def execHeldRecordFlush (s : State) : Host.Outcome State Fault Refusal := answer s (heldRecordFlush s.chip)

/-- RECORD_WRITE_DONE (R391) answers the state with its effect. -/
def execRecordWriteDone (s : State) : Host.Outcome State Fault Refusal := answer s (recordWriteDone s.chip)

/-- SECTOR_ERASE_DONE (R391) answers the state with its effect. -/
def execSectorEraseDone (s : State) : Host.Outcome State Fault Refusal := answer s (sectorEraseDone s.chip)

/-- FLASH_PROGRAM_FAIL (R394) answers the state with its effect. -/
def execFlashProgramFail (s : State) : Host.Outcome State Fault Refusal := answer s (flashProgramFail s.chip)

/-- ALMANAC_CHECKPOINT (R384) answers the state with its effect. -/
def execAlmanacCheckpoint (s : State) : Host.Outcome State Fault Refusal := answer s (almanacCheckpoint s.chip)

end Sys2Proof.Machine
end

