-- ==== Sys2Proof/Machine/Market.lean ====
section
/-! DEFINITION. The market (R254 to R269): statuses, the rules of admission, slots, fences, and the completion of a
request with the answer that its port gives (R298, R301, R310, R320, R347). -/

namespace Sys2Proof.Machine

/-! ### Statuses and details -/

/-- The code of a completion status (Table 8.5). -/
def Status.number : Status → Nat
  | .ok => 0x00
  | .fenced => 0x01
  | .hamletReset => 0x02
  | .timeout => 0x03
  | .memory => 0x04
  | .switchover => 0x05
  | .busy => 0x06
  | .noObject => 0x07
  | .access => 0x08
  | .origin => 0x09
  | .lifecycle => 0x0A
  | .type => 0x0B
  | .range => 0x0C
  | .consistency => 0x0D
  | .stateConflict => 0x0E
  | .hamperOnly => 0x0F
  | .noHamper => 0x10
  | .hamperFull => 0x11
  | .validation => 0x12
  | .aborted => 0x13

/-- The status sets a fence (Table 8.5). -/
def Status.fences : Status → Bool
  | .hamletReset | .timeout | .memory | .switchover => true
  | _ => false

/-- The number of a validation detail (Table 8.10). -/
def Detail.number : Detail → Nat
  | .none => 0x00
  | .range => 0x01
  | .access => 0x02
  | .origin => 0x03
  | .lifecycle => 0x04
  | .type => 0x05
  | .consistency => 0x06
  | .topology => 0x07
  | .sequence => 0x08
  | .shift => 0x09
  | .targetState => 0x0A
  | .time => 0x0B
  | .locked => 0x0C
  | .spoiled => 0x0D
  | .notJoined => 0x0E
  | .nodes => 0x0F
  | .noVote => 0x10
  | .noArmed => 0x11

/-- The detail of a number (Table 8.10). -/
def Detail.ofNumber (n : Nat) : Detail :=
  [Detail.none, .range, .access, .origin, .lifecycle, .type, .consistency, .topology, .sequence, .shift, .targetState,
    .time, .locked, .spoiled, .notJoined, .nodes, .noVote, .noArmed].getD n .none

/-- The number of an origin (Table 8.2). -/
def originNumber : Origin → Nat
  | .reeve => 0
  | .can c => 1 + c.val
  | .twoWire => 3
  | .service => 4
  | .twin => 5
  | .lane n => 16 + n.val

/-- A network, service or Lane origin: those that receive an origin fence at a claim (R268). -/
def hostOrigin : Origin → Bool
  | .can _ | .twoWire | .service | .lane _ => true
  | .reeve | .twin => false

/-- A Lane origin. -/
def laneOrigin : Origin → Bool
  | .lane _ => true
  | _ => false

/-! ### The rules of admission -/

/-- The index lies in a range. -/
def indexIn (k : Key) (lo hi : Nat) : Bool := decide (lo ≤ k / 256) && decide (k / 256 ≤ hi)

/-- The objects that belong to each unit and are never mirrored (R418). -/
def unmirrored (k : Key) : Bool :=
  indexIn k 0x1000 0x25FF || (indexIn k 0x5000 0x5FFF && (let j := k / 256 % 256; j == 0x0C || j == 0x0D || j == 0x0E))

/-- The volatile objects that Table 13.5 names and a write changes. -/
def mirroredVolatile (k : Key) : Bool :=
  (List.range 16).any fun r => k == kRailEnable r || k == kRailTarget r || k == kMarginRail r

/-- The object is mirrored (R418): every other stored object, and those that Table 13.5 names. -/
def mirrored (k : Key) : Bool :=
  !unmirrored k && (mirroredVolatile k || match objOf k with
    | some o => o.pers == .stored
    | none => false)

/-- The reaction maps and the test events of the Watch, which are written by service and local origins only (R255, R361). -/
def ownSettings (k : Key) : Bool := indexIn k 0x2700 0x27FF && (k % 256 == 5 || k % 256 == 6)

/-- The origin rules that hold in every state (R255, R267, R361). [DEDUCED, log 67] -/
def originAllows (o : Origin) (k : Key) : Bool :=
  match o with
  | .lane _ => !(indexIn k 0x2000 0x20FF || indexIn k 0x2200 0x22FF || indexIn k 0x2400 0x24FF ||
      k == kLaneEnable || k == kLaneNodeId || k == kFenceClearOrigin || ownSettings k)
  | .twin => mirrored k
  | .can _ | .twoWire => !(k == kFenceClearOrigin || ownSettings k)
  | .service => true
  | .reeve => k != kFenceClearOrigin

/-- The life-cycle rule of a read (Table 8.3). -/
def readAllowed (lc : LifeCycle) (o : Origin) : Bool :=
  match lc, o with
  | .blank, .service | .blank, .reeve => true
  | .blank, _ | .retired, _ => false
  | _, _ => true

/-- The life-cycle rule of a write (Table 8.3). -/
def writeAllowed (lc : LifeCycle) (o : Origin) (k : Key) : Bool :=
  match lc, o with
  | .blank, .service | .blank, .reeve => indexIn k 0x2000 0x20FF || indexIn k 0x2200 0x22FF
  | .blank, _ | .retired, _ => false
  | .provisioned, .lane _ => false
  | _, _ => true

/-- The checks of admission that the object gives a read (R252, R255, R257). [DEDUCED, log 67] -/
def readCheck (c : Chip) (o : Origin) (k : Key) : Status :=
  match objOf k with
  | none => .noObject
  | some d =>
    if d.access == .wo then .access
    else if !readAllowed (lifeCycle c) o then .lifecycle
    else .ok

/-- The checks of admission that the object gives a write (R252, R255, R257); `stage` lets HMP objects through.
[DEDUCED, log 67] -/
def writeCheck (c : Chip) (o : Origin) (k : Key) (stage : Bool) : Status :=
  match objOf k with
  | none => .noObject
  | some d =>
    if d.access == .ro || d.access == .const then .access
    else if !originAllows o k then .origin
    else if !writeAllowed (lifeCycle c) o k then .lifecycle
    else if d.access == .hmp && !stage && o != .twin then .hamperOnly
    else .ok

/-- The type and range of a value's bytes (R250, R473): the value, or the status that refuses it. [DEDUCED, log 68] -/
def valueCheck (k : Key) (b : List Byte) : Status × Val :=
  match objOf k with
  | none => (.noObject, .num 0)
  | some d =>
    match d.parse b with
    | none => (.type, .num 0)
    | some v => if d.inRange v then (.ok, v) else (.range, v)

/-! ### Slots and fences -/

/-- A slot is free for the origin (R256). -/
def slotFree (c : Chip) (o : Origin) : Bool :=
  let l := c.market.reqs
  let n := l.length
  let mine := (l.filter fun q => q.origin == o).length
  let locals := (l.filter fun q => q.origin == .reeve).length
  let lanes := (l.filter fun q => laneOrigin q.origin).length
  decide (n < 512) && (o == .reeve || (decide (mine < 64) && decide (n - locals < 480) &&
    (!laneOrigin o || decide (lanes < 256))))

/-- A fence stands for the pair of origin and object, or for the origin (R265, R268). `FenceClear` is never fenced. -/
def fencedPair (c : Chip) (o : Origin) (k : Key) : Bool :=
  k != kFenceClear && (c.market.fences.contains (o, k) || c.market.originFences.contains o)

/-- The hamlet that holds an object, after what Table 1.1 says each hamlet holds: the fault collector's objects in WATCH,
the recorder's in ALMANAC, the request engine's in MARKET, those of the sequencer, the monitors and margining in SEQ,
measured values in SENSE, duties, trim codes and kill latches in PWM, those of the host ports in NET, of the Lane in LANE,
of the twin port in TWIN and of the memory port in MEM, a mill's in the mill, and the settings and everything else in
REEVE. [DEDUCED, log 66] -/
def hamletOf (c : Chip) (k : Key) : Fin 27 :=
  let i := k / 256
  let j := k % 256
  if 0x2600 ≤ i && i ≤ 0x27FF then 0
  else if 0x2800 ≤ i && i ≤ 0x28FF then 1
  else if 0x2100 ≤ i && i ≤ 0x2110 then 3
  else if 0x2900 ≤ i && i ≤ 0x2A3F then 4
  else if 0x2500 ≤ i && i ≤ 0x25FF then 5
  else if (0x1000 ≤ i && i ≤ 0x1FFF) || (0x2200 ≤ i && i ≤ 0x22FF) then 7
  else if 0x2300 ≤ i && i ≤ 0x230F then 8
  else if 0x2400 ≤ i && i ≤ 0x24FF then 9
  else if i == 0x2030 then 10
  else if 0x2D00 ≤ i && i ≤ 0x2D7F then (if j == 0x0B then 5 else if j == 0x0C then 6 else 2)
  else if 0x2D80 ≤ i && i ≤ 0x2DFF && i % 2 == 1 then (if 3 ≤ j && j ≤ 6 then 5 else 6)
  else if 0x4400 ≤ i && i ≤ 0x45FF then (if j == 4 then 5 else if j == 5 || j == 6 then 6 else 2)
  else if 0x3000 ≤ i && i ≤ 0x3FFF && i % 256 == 2 then (if j == 2 || j == 3 then 5 else 6)
  else if 0x4000 ≤ i && i ≤ 0x43FF && i % 256 == 2 && 3 ≤ j && j ≤ 5 then 5
  else if 0x5000 ≤ i && i ≤ 0x5FFF && 6 ≤ i % 256 then Fin.ofNat 27 (11 + (i / 256 - 0x50))
  else if i == 0x2C20 && 6 ≤ k % 256 && k % 256 ≤ 13 then
    match hostOf c 5 0 with
    | some u => Fin.ofNat 27 (11 + u.mill)
    | none => 2
  else 2

/-! ### Replies -/

/-- The length that a port can carry in an answer (R310, R319, R347); none: any. [DEDUCED, log 69] -/
def replyLimit : Reply → Option Nat
  | .tw _ => some 32
  | .svc _ _ => some 4095
  | .od _ _ _ => some 240
  | _ => none

/-- The direction of a unicast (R337): the one with fewer hops, or both where they are equal, or unknown within 100 ms of
a wrap or unwrap on the ring. [DEDUCED, log 96] -/
def laneUnicast (dest : Fin 1024) (cls : Nat) (payload : List Byte) (c : Chip) : Chip :=
  let turned := match c.lane.turnedAt with
    | some t => decide (c.clock.us < t + 100000)
    | none => false
  match turned, c.lane.nodes.find? fun n => n.node == dest with
  | false, some { hopsA := some a, hopsB := some b, .. } =>
    laneSend (decide (a ≤ b)) (decide (b ≤ a)) dest.val cls payload c
  | _, _ => laneSend true true dest.val cls payload c

/-- The number of an OD operation (Table 10.5). -/
def odOpNumber : OdOp → Nat
  | .read => 0x10
  | .write => 0x11
  | .domainRead => 0x12
  | .domainWrite => 0x13

/-- The OD RESPONSE payload (Table 10.5). -/
def odResponse (op : OdOp) (tag : BitVec 16) (k : Key) (status offset : Nat) (data : List Byte) : List Byte :=
  [2, BitVec.ofNat 8 (odOpNumber op)] ++ leBytes 2 tag.toNat ++ leBytes 2 (k / 256) ++ leBytes 1 (k % 256) ++
    leBytes 1 status ++ leBytes 4 offset ++ [0, 0, 0, 0] ++ data

/-- An OD request is answered (R347). -/
def odAnswer (node : Fin 1024) (op : OdOp) (tag : BitVec 16) (k : Key) (status offset : Nat) (data : List Byte)
    (c : Chip) : Chip :=
  laneUnicast node 3 (odResponse op tag k status offset data) c

/-- A service response frame (Table 9.11): its CRC covers CMD with bit 7 set, FLAGS, TAG, LEN and the payload. -/
def svcFrame (cmd : Nat) (tag : BitVec 16) (status : Nat) (data : List Byte) (last : Bool) : SvcTx :=
  { cmd := BitVec.ofNat 8 cmd, tag := tag, status := BitVec.ofNat 8 status, data := data, last := last
    crc := crc32 (leBytes 1 (128 + cmd % 128) ++ leBytes 1 (bit last 0) ++ leBytes 2 tag.toNat ++
      leBytes 2 (data.length + 1) ++ leBytes 1 status ++ data) }

/-- A service response of one frame is sent. -/
def svcAnswer (cmd : Nat) (tag : BitVec 16) (status : Nat) (data : List Byte) (c : Chip) : Chip :=
  setSvc (fun s => { s with tx := s.tx ++ [svcFrame cmd tag status data true] }) c

/-- A CAN message goes out on a line. -/
def canSend (line : Fin 2) (m : CanTx) (c : Chip) : Chip := setCan (fun x => { x with tx := x.tx ++ [(line, m)] }) c

/-- A frame of the USDO server goes out, where the line is not in bus-off and the NMT state lets USDO run (R293, R295). -/
def usdoSend (line : Fin 2) (m : CanTx) (c : Chip) : Chip :=
  when (!c.can.lines[line].busOff && (c.can.nmt == .preOperational || c.can.nmt == .operational)) (canSend line m) c

/-- The entry's bytes map an object that the PDO may carry (R299). [PRESUMED, log 82] -/
def mappable (tx : Bool) (v : Nat) : Bool :=
  match objOf (v / 256) with
  | none => false
  | some d =>
    (match d.access with
      | .rw => true
      | .ro => tx
      | .wo => !tx
      | .const | .hmp => false) &&
    match d.type.size with
    | some n => v % 256 == 8 * n
    | none => false

/-- The entries of a PDO's mapping below a count. -/
def mapEntries (c : Chip) (tx : Bool) (i n : Nat) : List Nat :=
  (List.range n).map fun j => if tx then nat c (kTpdoMap i j) else nat c (kRpdoMap i j)

/-- The abort code of a USDO whose request did not complete with OK (Table 9.1, R299). [PRESUMED, log 82] -/
def abortCode (c : Chip) (q : Req) (st : Status) : Nat :=
  let write := q.data.isSome
  let i := q.k / 256
  let tx := decide (0x1A00 ≤ i)
  let mapping := (0x1600 ≤ i && i ≤ 0x160F) || (0x1A00 ≤ i && i ≤ 0x1A0F)
  let n := leNat (q.data.getD [])
  let valid := !hasBit (nat c (if tx then kTpdoCobId (i % 16) else kRpdoCobId (i % 16))) 31
  match st with
  | .noObject => if indexExists q.k then 0x06090011 else 0x06020000
  | .access => if write then 0x06010002 else 0x06010001
  | .type => 0x06070010
  | .range => 0x06090030
  | .lifecycle => 0x08000022
  | .stateConflict => if mapping && valid then 0x08000022 else 0x08000021
  | .memory => 0x06060000
  | .consistency =>
    if !mapping then 0x0F00000D
    else if if q.k % 256 = 0 then (mapEntries c tx (i % 16) n).all (mappable tx) else mappable tx n then 0x06040042
    else 0x06040041
  | st => 0x0F000000 + st.number

/-- The result of a two-wire request is held (R313): of more than eight, the oldest is discarded and counted.
[DEDUCED, log 88] -/
def twHold (r : TwResult) (c : Chip) : Chip :=
  setTw (fun t =>
    if t.results.length < 8 then { t with results := t.results ++ [r] }
    else { t with results := t.results.drop 1 ++ [r], resultsLost := satSucc 65535 t.resultsLost }) c

/-- The answer that a request's port gives at its completion. -/
def reply (q : Req) (st : Status) (v : List Byte) (c : Chip) : Chip :=
  let ok := st == .ok
  match q.reply with
  | .own => c
  | .usdo l seg =>
    let reading := seg && q.data.isNone
    let open_ := match c.can.lines[l].usdo with
      | some s => s.k == q.k && !s.ready
      | none => false
    if reading && !open_ then c
    else if !ok then
      usdoSend l (.usdoAbort q.k (BitVec.ofNat 32 (abortCode c q st)))
        (when reading (setLine l fun x => { x with usdo := none }) c)
    else if q.data.isSome then usdoSend l (.usdoOk q.k) c
    else if seg then
      usdoSend l (.usdoInit q.k v.length)
        (setLine l (fun x => { x with usdo := some { write := false, k := q.k, data := v } }) c)
    else usdoSend l (.usdoData q.k v) c
  | .rpdo _ => if ok then c else setCan (fun x => { x with rpdoRejects := satSucc 65535 x.rpdoRejects }) c
  | .tw seq =>
    let c := twHold { seq := seq, status := BitVec.ofNat 8 st.number, data := if ok then v else [], at_ := c.clock.us } c
    match q.data with
    | some d =>
      if ok && seq != 0 then
        setTw (fun t => { t with
          history := ({ seq := seq, k := q.k, len := d.length, data := d, at_ := nowMs c } :: t.history).take 8 }) c
      else c
    | none => c
  | .svc cmd tag => svcAnswer cmd.toNat tag st.number (if ok then v else []) c
  | .svcCopy tag n =>
    if ok then
      let piece := v.take n
      svcAnswer 0x12 tag 0 piece (setSvc (fun s => { s with
        reader := some { k := q.k, data := v, next := piece.length } }) c)
    else svcAnswer 0x12 tag st.number [] c
  | .od node op tag =>
    if ok && decide (240 < v.length) then odAnswer node op tag q.k Status.type.number 0 [] c
    else odAnswer node op tag q.k st.number 0 (if ok then v else []) c
  | .odCopy node tag n =>
    if ok then
      let piece := v.take (min n 240)
      odAnswer node .domainRead tag q.k 0 0 piece (setLane (fun l => { l with
        readers := { node := node, t := { k := q.k, data := v, next := piece.length }, at_ := c.clock.us } ::
          l.readers.filter (·.node != node) }) c)
    else odAnswer node .domainRead tag q.k st.number 0 [] c

/-! ### Completion -/

/-- A completion is recorded and answered; the request holds no slot any more (R259). -/
def finish (q : Req) (st : Status) (v : List Byte) (c : Chip) : Chip :=
  let c := setMarket (fun m => { m with
    reqs := m.reqs.filter fun x => x.id != q.id
    done := m.done ++ [{ id := q.id, origin := q.origin, k := q.k, write := q.data.isSome, status := st, value := v }] }) c
  let c := each (List.finRange 27) (fun h => setHamlet h fun x => { x with
    inbox := x.inbox.filter fun p => p != .request q.id
    outbox := x.outbox.filter fun p => p.2 != .request q.id
    unsent := x.unsent.filter fun p => p.2 != .request q.id }) c
  reply q st v c

/-- Every request of the origin to the object that waits undispatched completes FENCED (R265), `FenceClear` apart
(R267). -/
def fenceQueued (o : Origin) (k : Key) (c : Chip) : Chip :=
  each (c.market.reqs.filter fun q => q.origin == o && q.k == k && !q.dispatched && q.k != kFenceClear)
    (fun q => finish q .fenced []) c

/-- A fence is placed on a pair of origin and object (R265). -/
def placeFence (o : Origin) (k : Key) (c : Chip) : Chip :=
  setMarket (fun m => { m with fences := if m.fences.contains (o, k) then m.fences else m.fences ++ [(o, k)] }) c

/-- A request completes with a status (R259); a fence is placed where the status sets one (R265). -/
def complete (q : Req) (st : Status) (v : List Byte) (c : Chip) : Chip :=
  let c := finish q st v c
  if st.fences then fenceQueued q.origin q.k (placeFence q.origin q.k c) else c

/-- Requests that all complete with one fence-setting status, each exactly once (R259, R268): none of them is FENCED by
the fence of another. -/
def completeAll (l : List Req) (st : Status) (c : Chip) : Chip :=
  each l (fun q => placeFence q.origin q.k) (each l (fun q => finish q st []) c)

/-- The request of a number. -/
def reqOf (c : Chip) (id : Nat) : Option Req := c.market.reqs.find? fun q => q.id == id

/-- The request of a number completes, if the market still holds it. -/
def completeId (id : Nat) (st : Status) (v : List Byte) (c : Chip) : Chip :=
  match reqOf c id with
  | some q => complete q st v c
  | none => c

/-- An origin fence is placed (R268): its requests that wait undispatched complete FENCED. -/
def originFence (o : Origin) (c : Chip) : Chip :=
  let c := setMarket (fun m => { m with
    originFences := if m.originFences.contains o then m.originFences else m.originFences ++ [o] }) c
  each (c.market.reqs.filter fun q => q.origin == o && !q.dispatched && q.k != kFenceClear)
    (fun q => finish q .fenced []) c

/-- Every origin (Table 8.2). -/
def allOrigins : List Origin :=
  [.reeve, .can 0, .can 1, .twoWire, .service, .twin] ++ (List.finRange 1024).map .lane

/-- FENCE_CLEAR acts (R267): one fence of the origin, or every one. -/
def clearFence (o : Origin) (v : Nat) (c : Chip) : Chip :=
  setMarket (fun m =>
    if v = 0xFFFFFFFF then { m with
      fences := m.fences.filter fun f => f.1 != o, originFences := m.originFences.filter fun x => x != o }
    else { m with fences := m.fences.filter fun f => f != (o, v) }) c

/-- FENCE_CLEAR_ORIGIN acts (R267): every fence of the origin of a number. -/
def clearFencesOf (n : Nat) (c : Chip) : Chip :=
  setMarket (fun m => { m with
    fences := m.fences.filter fun f => originNumber f.1 != n
    originFences := m.originFences.filter fun x => originNumber x != n }) c

end Sys2Proof.Machine
end

