-- ==== Sys2Proof/Machine/Rails.lean ====
section
/-! DEFINITION. Phase ports and rails: protection, the rail state machine, synchronisation, RAILLOOP, BALANCE, and
phase failure (R71 to R98, R112 to R117). -/

namespace Sys2Proof.Machine

/-! ### Duties and periods -/

/-- The on-time rules of R74, on a duty in Q1.31: no pulse for 0, at least 20 ns, `RailDutyMax`, the least off-time,
and edges to the nearest 125 ps. [DESIGN CHOICE, log 10] -/
def shapeDuty (c : Chip) (r : Fin 16) (w : Word) : Word :=
  let n : Int := periodTicks c r
  let d := ofQ 31 w
  if d ≤ 0 then 0
  else
    let top := min (pct (num c (kRailDutyMax r)) * n).floor (n - 160 - 2 * num c (kRailDeadTime r))
    let on := max 0 (min top (max 160 (roundRat (d * n))))
    toQ 31 ((on : Rat) / n)

/-- The rail's duties are held, or ramp to 0 by themselves, after a loss of feedback (R112). -/
def dutyHeld (c : Chip) (p : Fin 32) : Bool :=
  match railOfPhase c p with
  | some r => c.rails[r].state == .fbHold || c.rails[r].state == .dutyRamp
  | none => false

/-- A duty reaches the PWM hamlet: it takes effect at the next period start of the phase (R75), unless the rail's duties are
held (R112). -/
def writeDuty (p : Fin 32) (w : Word) (c : Chip) : Chip :=
  if dutyHeld c p then c else setPhase p (fun x => { x with dutyNext := some w }) c

/-- The phase produces no edge: its outputs and `PHn_DRVEN` are low. -/
def phaseLow (p : Fin 32) (c : Chip) : Chip :=
  setPhase p (fun x => { x with
    duty := 0, dutyNext := none, enabled := false, drven := false, highEnded := false, lowEnded := false }) c

/-- Every phase of the rail is low. -/
def railLow (r : Fin 16) (c : Chip) : Chip := each (phasesOf c r) phaseLow c

/-- The active phases of a rail are interleaved at 360°/n in ascending order (R78), from the next period start of its
first phase (R75); a phase whose offset a class 03h write set keeps it (Table 7.7). -/
def interleave (r : Fin 16) (c : Chip) : Chip :=
  let ps := activePhases c r
  each ps.zipIdx (fun e c => setPhase e.1 (fun x =>
    if x.offsetForced then x else { x with offsetNext := some (BitVec.ofNat 16 (e.2 * 65536 / ps.length)) }) c) c

/-! ### The state machine -/

/-- A completion is queued on a VC port (R104). -/
def vcComplete (n : Fin 4) (tag : BitVec 6) (code : Nat) (c : Chip) : Chip :=
  setVc n (fun v => { v with queue := v.queue ++ [{ tag := tag, code := BitVec.ofNat 8 code }] }) c

/-- A SETV in flight on the rail's VC port is ABORTED (R104), with its event (Table 3.12). -/
def vcAbort (r : Fin 16) (c : Chip) : Chip :=
  match vcOf c r with
  | none => c
  | some n =>
    match c.vcs[n].inFlight with
    | none => c
    | some t => raise (178 + n) 2 0 (vcComplete n t 2 (setVc n (fun v => { v with inFlight := none }) c))

/-- The rail goes to a state, in which no period has yet counted (R86, R87, R104); leaving REGULATE aborts a SETV in flight
(R104). -/
def railGo (r : Fin 16) (st : RailState) (c : Chip) : Chip :=
  let c := when (c.rails[r].state == .regulate && st != .regulate) (vcAbort r) c
  setRail r (fun x => { x with state := st, since := c.clock.us, quiet := 0, settled := 0 }) c

/-- The kill latches of the rail and its phases are cleared (Table 3.3). -/
def clearKills (r : Fin 16) (c : Chip) : Chip :=
  let c := each (phasesOf c r) (fun p => setPhase p fun x => { x with kill := false }) c
  setRail r (fun x => { x with killed := false }) c

/-- The rail comes to OFF (Table 3.3, R87, R107): outputs low, dropped phases readmitted, VC slew reset, forced offsets
and periods given up, the chatter bit cleared (R199). [DEDUCED, log 31] -/
def railToOff (r : Fin 16) (c : Chip) : Chip :=
  let c := railLow r (railGo r .off c)
  let c := each ((32 + r.val) :: (phasesOf c r).map (·.val)) (fun ch =>
    setChan (Fin.ofNat 256 ch) fun x => { x with rippleFail := false }) c
  let c := each (phasesOf c r) (fun p => setPhase p fun x => { x with
    dropped := false, cause := .none, pendingCause := .none, offsetForced := false, integ := 0, bal := 0 }) c
  let c := setRail r (fun x => { x with
    vcHolds := false, vcSlew := none, ref := 0, slope := 0, iLim := false, dutyLim := false
    period := 0, periodNext := none, edgeDelay := none, edgeEvery := 1, loop := {}, icmd := 0 }) c
  publishLimit r (setSeq (fun q => { q with chatter := q.chatter.set r false }) c)

/-- The monitors bound to a rail (R191). -/
def monitorsOf (c : Chip) (r : Fin 16) : List (Fin 64) :=
  (List.finRange 64).filter fun m => nat c (kWmRail m) == r.val

/-- The rail leaves OFF: the monitors bound to it show no kill since (Table 6.3, KILLED). -/
def leaveOff (r : Fin 16) (c : Chip) : Chip :=
  each (monitorsOf c r) (fun m => setWm m fun w => { w with killed := false }) c

/-- The rail enters FAULT with its outputs low. [DEDUCED, log 29] -/
def railFault (r : Fin 16) (c : Chip) : Chip := railLow r (railGo r .fault c)

/-- The rail enters ON-DELAY (Table 3.3): PREBIAS and FBLOST clear (R85, R112). A rail whose voltage or input channel fails
there, or has failed before, enters FAULT without switching. [DEDUCED, log 29] -/
def enterOnDelay (r : Fin 16) (c : Chip) : Chip :=
  let c := setRail r (fun x => { x with prebias := false, fbLost := false }) (railGo r .onDelay c)
  if passes c (32 + r) && passes c (nat c (kRailInputChannel r)) then c else railFault r c

/-- The start condition acts (Table 3.3): OFF to ON-DELAY, OFF-DELAY back to REGULATE. In BLANK no rail leaves OFF
(Table 14.10), and a rail held by a validated hamper stays in OFF (R278). [DEDUCED, log 52] -/
def railStart (r : Fin 16) (c : Chip) : Chip :=
  if !startCond c r then c
  else match c.rails[r].state with
    | .off =>
      if railType c r == 0 || lifeCycle c == .blank || railStartHeld c r then c
      else leaveOff r (enterOnDelay r c)
    | .offDelay => railGo r .regulate c
    | _ => c

/-- The magnitude of a slope (R85): the `RailTarget` in force over the time, or the reference over it while that is 0; in
volts per second. -/
def slopeOf (c : Chip) (r : Fin 16) (timeUs : Nat) : Rat :=
  let t : Rat := c.rails[r].target
  let v := if t = 0 then ratAbs ((c.rails[r].ref : Rat) / 2 ^ 22) else t / 10000
  v * 1000000 / (timeUs : Rat)

/-- Ramp-down begins (R85, R87): a BUCK reference falls at its slope, a BIDIR command moves to 0 over the time. -/
def rampDown (r : Fin 16) (c : Chip) : Chip :=
  let t := nat c (kRailRampDownTime r)
  let s := if railType c r == 2 then ratAbs (ofQ 16 c.rails[r].icmd) * 1000000 / (t : Rat) else slopeOf c r t
  setRail r (fun x => { x with slope := s }) (railGo r .rampDown c)

/-- A stop request (R84, Table 3.3). -/
def railStop (r : Fin 16) (c : Chip) : Chip :=
  match c.rails[r].state with
  | .onDelay => railToOff r c
  | .ramp => rampDown r c
  | .regulate => railGo r .offDelay c
  | .fault => railToOff r (clearKills r c)
  | _ => c

/-- Feedback is lost (R80, R112, Table 3.3): the duties are held, and one that waits is given up. In STANDBY it changes no
state (R415). -/
def feedbackLost (r : Fin 16) (c : Chip) : Chip :=
  if switching c.rails[r] && drives c then
    let c := each (phasesOf c r) (fun p => setPhase p fun x => { x with dutyNext := none }) c
    raise (32 + r) 1 0 (setRail r (fun x => { x with fbLost := true }) (railGo r .fbHold c))
  else c

/-- The rail's own sense or input channel fails pilot or range (R80, Table 3.3). -/
def railChannelFails (r : Fin 16) (c : Chip) : Chip :=
  if c.rails[r].state == .onDelay && drives c then railFault r c else feedbackLost r c

/-- A kill acts on a rail (R20, R73): every output is low at the pin, and a rail that is neither OFF nor in FAULT enters
FAULT. In STANDBY the pins are the owner's and no state changes (R415); while this unit lets go of them, the pins go low
and the state stays. [DEDUCED, log 29] -/
def killRail (r : Fin 16) (c : Chip) : Chip :=
  let c := setRail r (fun x => { x with killed := true }) c
  if c.twin.state == .standby then c
  else if drives c && c.rails[r].state != .off && c.rails[r].state != .fault then railFault r c
  else railLow r c

/-- PHASE_KILL (R73, Table 3.3): the magnitude of the current, in mA, crosses the comparator's kill threshold; the kill
latches and is recorded in every rail state. -/
def phaseKill (p : Fin 32) (current : Int) (c : Chip) : Chip :=
  match railOfPhase c p with
  | none => c
  | some r =>
    if !live c || ratAbs ((current : Rat) / 1000) < comparatorLimit c p (num c (kPhKillLimit p)) then c
    else killRail r (raise p 1 current (setPhase p (fun x => { x with kill := true }) c))

/-- PEAK_LIMIT (R73): the current, in mA, crosses the comparator's peak threshold; the positive limit ends PWMH; the
negative one ends PWML on a BIDIR rail, and on a BUCK rail in RAMP-DOWN only. -/
def peakLimit (p : Fin 32) (current : Int) (c : Chip) : Chip :=
  match railOfPhase c p with
  | none => c
  | some r =>
    let i : Rat := (current : Rat) / 1000
    let limit := comparatorLimit c p (num c (kPhPeakLimit p))
    if !c.phases[p].drven || ratAbs i < limit then c
    else if 0 ≤ i then setPhase p (fun x => { x with highEnded := true, peakAt := some c.clock.us }) c
    else if railType c r == 2 || c.rails[r].state == .rampDown then
      setPhase p (fun x => { x with lowEnded := true, peakAt := some c.clock.us }) c
    else c

/-- The period start of a rail's first phase (R75, R81, R83): a period or an offset that waits comes into force for every
phase, `SYNCOUT` rises where the rail drives it, and a locked rail has the phase start at `RailSyncOffset` after each
reference edge, which is every second one with ×½. -/
def firstPhaseStart (r : Fin 16) (c : Chip) : Chip :=
  let c := setRail r (fun x => { x with
    period := x.periodNext.getD x.period
    periodNext := none
    syncRises := x.syncRises + (if flag c (kRailSyncOut r) then 1 else 0) }) c
  let c := setRail r (fun x => { x with
    edgeDelay := if x.syncLock then some (nat c (kRailSyncOffset r) * periodTicks c r / 256) else none
    edgeEvery := if nat c (kRailSyncMode r) = 1 then 2 else 1 }) c
  each (phasesOf c r) (fun q => setPhase q fun x => { x with
    offset := x.offsetNext.getD x.offset, offsetNext := none }) c

/-- The duty of a phase one period on (R112): in DUTY-RAMP a straight line from the held duty to 0. -/
def rampedDuty (run : Nat) (x : Phase) : Phase :=
  { x with
    rampLeft := x.rampLeft - 1
    duty := toQ 31 (ofQ 31 x.rampFrom * (x.rampLeft - 1 : Nat) / (max 1 run : Nat)) }

/-- The triggers of a period start (Table 7.6): kind 1 of the phase, and kind 5 of its rail at the lowest active phase. -/
def periodTriggers (p : Fin 32) (r : Fin 16) (c : Chip) : Chip :=
  let c := fire 1 (· == p.val) c
  if (activePhases c r).head? == some p then fire 5 (· == r.val) c else c

/-- PERIOD_START (R71, R74, R75, R83, R112, R226): the duty that waits takes effect, and at the rail's first phase a period or
offset that waits; the period's triggers fire. In STANDBY the hamlet computes every edge behind the pins (R415). -/
def periodStart (p : Fin 32) (c : Chip) : Chip :=
  match railOfPhase c p with
  | none => c
  | some r =>
    if !c.phases[p].drven then c
    else
      let c := periodTriggers p r c
      let c := if (activePhases c r).head? == some p then firstPhaseStart r c else c
      let c := if c.rails[r].state == .dutyRamp then setPhase p (rampedDuty c.rails[r].rampOver) c else c
      setPhase p (fun x => { x with
        duty := match x.dutyNext with
          | some w => shapeDuty c r w
          | none => x.duty
        dutyNext := none, highEnded := false, lowEnded := false }) c

/-- The check that the channel of a phase fails (R114). [DEDUCED, log 32] -/
def senseCause (c : Chip) (ch : Nat) : DropCause :=
  let x := chanOf c ch
  if x.pilotFail then .pilot else if x.rangeFail then .range else if x.rippleFail then .ripple else .none

/-- ON_DELAY_ELAPSED (R85, R86, Table 3.3): the reference starts at the sensed output, or a BIDIR rail in HOLD-ZERO
with its duties preset; `PHn_DRVEN` rises. -/
def onDelayElapsed (r : Fin 16) (c : Chip) : Chip :=
  if c.rails[r].state != .onDelay || !drives c then c
  else
    let bidir := railType c r == 2
    let vs := if (chanInt c (32 + r)) < 0 then 0 else chanInt c (32 + r)
    let c := setRail r (fun x => { x with
      ref := if bidir then 0 else vs
      prebias := !bidir && decide (0 < vs)
      target := num c (kRailTarget r), command := num c (kRailTarget r)
      vcHolds := false, period := nominalTicks c r, periodNext := none, loop := {}, icmd := 0 }) (railGo r .ramp c)
    let c := setRail r (fun x => { x with slope := slopeOf c r (nat c (kRailRampTime r)) }) c
    let c := if bidir then c else publishCommand r c
    let preset := divQ31 (val c (32 + r)) (val c (nat c (kRailInputChannel r)))
    let c := each (activePhases c r) (fun p => setPhase p fun x => { x with
      drven := true, enabled := true, integ := 0, bal := 0, pendingCause := senseCause c p.val
      dutyNext := if bidir then some preset else some 0 }) c
    publishLimit r (interleave r c)

/-- The commanded value after margin (R94), in volts. -/
def commandVolts (c : Chip) (r : Fin 16) : Rat :=
  hundredMicro c.rails[r].command * (1 + (num c (kMarginRail r) : Rat) / 1000)

/-- The reference of a BUCK rail stands at the commanded value (R85, R104). -/
def refAtTarget (c : Chip) (r : Fin 16) : Bool := c.rails[r].ref == roundRat (commandVolts c r * 2 ^ 22)

/-- A BIDIR rail has been in its state for a time, with 16 periods of less than 5 % of `RailCurrentLimit` last (R86, R87). -/
def bidirQuiet (c : Chip) (r : Fin 16) (timeUs : Nat) : Bool :=
  decide (c.rails[r].since + timeUs ≤ c.clock.us) && decide (16 ≤ c.rails[r].quiet)

/-- RAMP_COMPLETE (R85, R86, R191, Table 3.3): a BUCK reference has reached the commanded value, or a BIDIR rail has kept
the condition of R86; an under-voltage fault that was masked is a fault from now on. -/
def rampComplete (r : Fin 16) (c : Chip) : Chip :=
  if c.rails[r].state != .ramp || !drives c ||
      !(if railType c r == 2 then bidirQuiet c r (nat c (kRailRampTime r)) else refAtTarget c r) then c
  else
    let c := railGo r .regulate c
    each ((monitorsOf c r).filter fun m : Fin 64 => flag c (kWmEnable m) && c.wms[m].faultUv) (fun m => raise (80 + m) 1 0) c

/-- OFF_DELAY_ELAPSED (Table 3.3). -/
def offDelayElapsed (r : Fin 16) (c : Chip) : Chip :=
  if c.rails[r].state == .offDelay && drives c then rampDown r c else c

/-- RAMP_DOWN_COMPLETE (R87, Table 3.3): the rail is OFF, and starts again where its start condition is true. -/
def rampDownComplete (r : Fin 16) (c : Chip) : Chip :=
  if c.rails[r].state == .rampDown && drives c &&
      (if railType c r == 2 then bidirQuiet c r (nat c (kRailRampDownTime r)) else decide (c.rails[r].ref ≤ 0)) then
    railStart r (railToOff r c)
  else c

/-- FB_HOLD_ELAPSED (R112): each duty begins to fall to 0, over the whole periods of `RailRampDownTime`. -/
def fbHoldElapsed (r : Fin 16) (c : Chip) : Chip :=
  if c.rails[r].state == .fbHold && drives c then
    let n := max 1 ((nat c (kRailRampDownTime r) : Rat) * railHz c r / 1000000).floor.toNat
    let c := each (phasesOf c r) (fun p => setPhase p fun x => { x with rampFrom := x.duty, rampLeft := n }) c
    setRail r (fun x => { x with rampOver := n }) (railGo r .dutyRamp c)
  else c

/-- DUTY_RAMP_COMPLETE (R112): every active phase's duty has reached 0. -/
def dutyRampComplete (r : Fin 16) (c : Chip) : Chip :=
  if c.rails[r].state == .dutyRamp && drives c && (activePhases c r).all fun p => c.phases[p].duty == 0 then
    railFault r c
  else c

/-- The cause of a FAULT counts as cleared (R88): both sense channels pass and the loop mill is ready. -/
def causeCleared (c : Chip) (r : Fin 16) : Bool :=
  passes c (32 + r) && passes c (nat c (kRailInputChannel r)) &&
    match loopMill c r with
    | some m => c.mills[m].state == .ready
    | none => false

/-- RAIL_AUTO_RESTART (Table 3.3). -/
def railAutoRestart (r : Fin 16) (c : Chip) : Chip :=
  if c.rails[r].state == .fault && drives c && flag c (kRailAutoRestart r) && startCond c r && causeCleared c r then
    enterOnDelay r (clearKills r c)
  else c

/-- The reference begins to move, at the ramp slope of the `RailTarget` in force (R85, R94). -/
def moveAtRamp (r : Fin 16) (c : Chip) : Chip :=
  setRail r (fun x => { x with slope := slopeOf c r (nat c (kRailRampTime r)) }) c

/-- A change of `RailTarget` acts (R85, R107) on a rail whose command no VC port holds: it is in force, and on a BUCK rail
in RAMP or REGULATE the reference moves to it at the ramp slope. -/
def railTargetActs (r : Fin 16) (c : Chip) : Chip :=
  let x := c.rails[r]
  if x.vcHolds then c
  else
    let c := setRail r (fun x => { x with target := num c (kRailTarget r) }) c
    if railType c r == 1 && (x.state == .ramp || x.state == .regulate) then
      publishCommand r (moveAtRamp r (setRail r (fun x => { x with command := num c (kRailTarget r) }) c))
    else c

/-- A rail that produces edges takes up its nominal period at the next period start of its first phase (R75). -/
def retime (r : Fin 16) (c : Chip) : Chip :=
  when (c.rails[r].period != 0) (setRail r fun x => { x with periodNext := some (nominalTicks c r) }) c

/-- `RailFsw` acts (R75, R81, R82) on a rail that neither is locked nor holds the frequency of a lock. [DEDUCED, log 34] -/
def railFswActs (r : Fin 16) (c : Chip) : Chip :=
  when (nat c (kRailSyncMode r) = 0 || !(c.rails[r].syncLock || c.rails[r].syncLost)) (retime r) c

/-- `RailSyncMode` acts (R81): a lock of another mode ends. [DEDUCED, log 34] -/
def syncModeActs (r : Fin 16) (c : Chip) : Chip :=
  retime r (setRail r (fun x => { x with syncLock := false, syncLost := false, syncStarted := false }) c)

/-! ### Synchronisation -/

/-- The frequency that the rail would lock to (R81). [DEDUCED, log 34] -/
def lockFrequency (mode f : Nat) : Nat :=
  if mode = 1 then f / 2 else if mode = 2 then f else if mode = 3 then 2 * f else 4 * f

/-- SYNC_LOCK_START (R81): refused outside 100 kHz to 2 MHz, or more than 10 % from `RailFsw`. [DEDUCED, log 34] -/
def syncLockStart (r : Fin 16) (frequency : Nat) (c : Chip) : Chip :=
  let mode := nat c (kRailSyncMode r)
  let f := lockFrequency mode frequency
  let fsw := nat c (kRailFsw r)
  if mode = 0 || frequency < 100000 || 2000000 < frequency || 10 * fsw < 10 * f - fsw || 11 * fsw < 10 * f ||
      10 * f < 9 * fsw || !live c then c
  else setRail r (fun x => { x with syncStarted := true, syncNext := f, syncSeen := true }) c

/-- SYNC_LOCK_ACHIEVED (R81). [DEDUCED, log 34] -/
def syncLockAchieved (r : Fin 16) (c : Chip) : Chip :=
  if c.rails[r].syncStarted && live c then
    retime r (setRail r (fun x => { x with
      syncLock := true, syncLost := false, syncStarted := false, syncFreq := x.syncNext }) c)
  else c

/-- SYNCIN_LOST (R82): the rail holds its last frequency, which of a rail that had not yet locked is the one before. -/
def syncinLost (r : Fin 16) (c : Chip) : Chip :=
  if (c.rails[r].syncLock || c.rails[r].syncStarted) && live c then
    raise (32 + r) 2 0
      (setRail r (fun x => { x with syncLock := false, syncStarted := false, syncLost := true, syncSeen := false }) c)
  else c

/-- `SYNCOUT` (R83, Table 14.4): the pulses of the rail with `RailSyncOut`, of 50 % duty from each period start of its first
phase; with none, `SYNCIN` while it is present. [DEDUCED, log 34] -/
def syncOut (c : Chip) : SyncOut :=
  match firstFin 16 fun r => flag c (kRailSyncOut r) with
  | some r => if drives c && c.rails[r].period != 0 then .pulses r (periodTicks c r / 2) (periodTicks c r) else .low
  | none => if live c && (List.finRange 16).any fun r => c.rails[r].syncSeen then .buffer else .low

/-! ### The laws -/

/-- A value moved towards another by no more than a step. -/
def approach (now target step : Rat) : Rat :=
  if now ≤ target then ratMin target (now + step) else ratMax target (now - step)

/-- The reference one period later (R85, R87, R93, R94, R105), in Q10.22. -/
def refNext (c : Chip) (r : Fin 16) : Int :=
  let x := c.rails[r]
  let now := (x.ref : Rat) / 2 ^ 22
  let target := if x.state == .rampDown then 0 else commandVolts c r
  roundRat (approach now target (x.slope / railHz c r) * 2 ^ 22)

/-- A rail's consecutive periods of a condition, up to 16 (R86, R87, R104). -/
def countPeriods (holds : Bool) (n : Nat) : Nat := if holds then min 16 (n + 1) else 0

/-- RAILLOOP with BALANCE on a BUCK rail (R89 to R93, R96), with the coefficients of Table 3.4.
[DESIGN CHOICE, log 10] -/
def railloopLaw (u : Unit4) (r : Fin 16) (c : Chip) : Chip :=
  let k := coef c u
  let x := c.rails[r]
  let l := x.loop
  let v := val c (32 + r)
  let vin := val c (nat c (kRailInputChannel r))
  let i := val c (140 + r)
  let ref := refNext c r
  let eq := (ref : Rat) / 2 ^ 22 - k 7 * i - v
  let e := toQ 22 eq
  let x1q := if l.held then ofQ 22 l.x1 else ofQ 22 l.x1 + k 0 * (ofQ 22 e + ofQ 22 l.e1)
  let x1 := toQ 22 x1q
  let x2q := k 1 * ofQ 22 x1 + k 2 * ofQ 22 l.x1p + k 3 * ofQ 22 l.x2
  let x2 := toQ 22 x2q
  let uvq := k 4 * ofQ 22 x2 + k 5 * ofQ 22 l.x2p + k 6 * ofQ 22 l.uv
  let uv := toQ 22 uvq
  let ilim := (limitNow c r : Rat) / 1000
  let uiq := ratMin (ofQ 22 l.ui) (ofQ 22 uv) - k 9 * (i - ilim)
  let ui := toQ 22 uiq
  let lower := ratMin (ofQ 22 uv) (ofQ 22 ui)
  let out := clampRat 0 (vin * pct (num c (kRailDutyMax r))) lower
  let held := decide (out ≠ ofQ 22 uv)
  let active := activePhases c r
  let share := i / (active.length : Rat)
  let blim := pct (num c (kRailBalanceLimit r)) * vin
  let c := setRail r (fun x => { x with
    ref := ref, iLim := decide (ofQ 22 ui < ofQ 22 uv), dutyLim := decide (out ≠ lower)
    settled := countPeriods (decide (ratAbs (v - (ref : Rat) / 2 ^ 22 + k 7 * i) ≤
      ratAbs ((ref : Rat) / 2 ^ 22 - k 7 * i) / 100) && ref == roundRat (commandVolts c r * 2 ^ 22)) x.settled
    loop := { x1 := x1, x1p := x1, x2 := x2, x2p := x2, uv := uv, ui := ui, e1 := e, held := held } }) c
  let c := noteSat u ([eq, x1q, x2q, uvq, uiq].any (overflows 22)) c
  each active (fun p c =>
    let b := toQ 22 (clampRat (-blim) blim (ofQ 22 c.phases[p].bal + k 8 * (share - val c p)))
    let c := noteSat u (divOverflows (out + ofQ 22 b) vin) c
    writeDuty p (divQ31 (out + ofQ 22 b) vin) (setPhase p (fun y => { y with bal := b }) c)) c

/-- Diode emulation (R86): a phase of a BUCK rail in RAMP whose current sample is 0 or below ends its `PHn_PWML` for the
period. -/
def diodeEmulation (r : Fin 16) (samples : List Sample) (c : Chip) : Chip :=
  if railType c r != 1 || c.rails[r].state != .ramp then c
  else
    let ended (p : Fin 32) : Bool := samples.any fun x => x.ch.val == p.val && x.inputs.any fun i => decide (adcVolts p i ≤ 0)
    each ((activePhases c r).filter ended) (fun p => setPhase p fun x => { x with lowEnded := true }) c

/-- One run of RAILLOOP on a BUCK rail (R89), while the rail switches under its loop. -/
def railloopUnit (r : Fin 16) (u : Unit4) (c : Chip) : Chip :=
  if railType c r == 1 && switching c.rails[r] then railloopLaw u r c else c

/-- The command after the mode of the string (R97). -/
def modeClamp (m : RailMode) (v : Rat) : Rat :=
  match m with
  | .charge => ratMax 0 v
  | .discharge => ratMin 0 v
  | .auto => v
  | .holdZero | .buck => 0

/-- i_cmd of this run (R86, R87, R97, R98, R225). -/
def bidirCommand (c : Chip) (r : Fin 16) (stale : Bool) : Rat :=
  let x := c.rails[r]
  match x.state with
  | .regulate | .offDelay => if stale then 0 else modeClamp (railMode c r) (val c (176 + r))
  | .rampDown => approach (ofQ 16 x.icmd) 0 (x.slope / railHz c r)
  | _ => 0

/-- BALANCE on a BIDIR rail (R97, R225), with the coefficients of Table 7.9. ILIM is set while the command of a regulating
rail stands at `RailLimitNow` or above, which is how R96 selects the limit there. [DESIGN CHOICE, log 10; DEDUCED,
log 140] -/
def balanceLaw (u : Unit4) (r : Fin 16) (c : Chip) : Chip :=
  let k := coef c u
  let stale := chanStale c (176 + r)
  let onset := stale && !c.rails[r].stale
  let icmd := toQ 16 (bidirCommand c r stale)
  let active := activePhases c r
  let share := ofQ 16 icmd / (active.length : Rat)
  let vlow := val c (32 + r)
  let vhigh := val c (nat c (kRailInputChannel r))
  let quiet := decide (ratAbs (val c (140 + r)) < (num c (kRailCurrentLimit r) : Rat) / 1000 / 20)
  let atLimit := decide ((limitNow c r : Rat) / 1000 ≤ ratAbs (ofQ 16 icmd))
  let c := setRail r (fun x => { x with
    icmd := icmd, stale := stale, quiet := countPeriods quiet x.quiet
    iLim := atLimit && (x.state == .regulate || x.state == .offDelay) }) c
  let c := when onset (raise (32 + r) 5 0) c
  each active (fun p c =>
    let e := share - val c p
    let xq := ofQ 22 c.phases[p].integ + k 1 * e
    let x := toQ 22 xq
    let drive := vlow + k 0 * e + ofQ 22 x
    let c := noteSat u (overflows 22 xq || divOverflows drive vhigh) c
    writeDuty p (divQ31 drive vhigh) (setPhase p (fun y => { y with integ := x }) c)) c

/-- One run of BALANCE on a BIDIR rail (R97), while the rail switches. -/
def balanceUnit (r : Fin 16) (u : Unit4) (c : Chip) : Chip :=
  if railType c r == 2 && switching c.rails[r] then balanceLaw u r c else c

/-! ### Phase failure -/

/-- A phase of a switching rail meets a failure condition (R113, R114); the first cause is kept. -/
def phaseFails (p : Fin 32) (cause : DropCause) (c : Chip) : Chip :=
  match railOfPhase c p with
  | none => c
  | some r =>
    if switching c.rails[r] && drives c && !c.phases[p].dropped && c.phases[p].pendingCause == .none then
      setPhase p (fun x => { x with pendingCause := cause }) c
    else c

/-- The other active phases of a phase's rail (R113, R114). -/
def neighbours (c : Chip) (r : Fin 16) (p : Fin 32) : List (Fin 32) := (activePhases c r).filter (· != p)

/-- The mean of a figure of some phases. -/
def meanOf (ps : List (Fin 32)) (f : Fin 32 → Rat) : Rat := (ps.map f).foldl (· + ·) 0 / (max 1 ps.length : Nat)

/-- The conditions of R113 hold for a phase: little current, a duty or a command that should drive one, and neighbours that
carry theirs. -/
def looksOpen (c : Chip) (r : Fin 16) (p : Fin 32) : Bool :=
  let peak : Rat := (num c (kPhPeakLimit p) : Rat) / 1000
  let ps := neighbours c r p
  let share := ratAbs (ofQ 16 c.rails[r].icmd) / (max 1 (activePhases c r).length : Nat)
  decide (ratAbs (val c p) < peak / 20) &&
    (decide (1 / 10 ≤ ofQ 31 c.phases[p].duty) || (railType c r == 2 && decide (peak / 5 ≤ share))) &&
    !ps.isEmpty && decide (peak / 5 ≤ meanOf ps fun q => ratAbs (val c q))

/-- The conditions of R114 hold for a phase: its current is far from its neighbours', with its trim at an end of its range. -/
def disagrees (c : Chip) (r : Fin 16) (p : Fin 32) : Bool :=
  let peak : Rat := (num c (kPhPeakLimit p) : Rat) / 1000
  let ps := neighbours c r p
  let blim := pct (num c (kRailBalanceLimit r)) * val c (nat c (kRailInputChannel r))
  !ps.isEmpty && decide (peak / 2 < ratAbs (val c p - meanOf ps fun q => val c q)) &&
    (c.phases[p].bal == toQ 22 blim || c.phases[p].bal == toQ 22 (-blim))

/-- A check of a phase of a rail that meets its conditions in the state. -/
def phaseCheck (holds : Chip → Fin 16 → Fin 32 → Bool) (p : Fin 32) (cause : DropCause) (c : Chip) : Chip :=
  match railOfPhase c p with
  | none => c
  | some r => when (holds c r p) (phaseFails p cause) c

/-- PHASE_FAIL_OPEN (R113): the period of the command is the last of 16 (log 3). -/
def phaseFailOpen (p : Fin 32) (c : Chip) : Chip := phaseCheck looksOpen p .openPhase c

/-- PHASE_SENSE_DISAGREE (R114): the period of the command is the last of 16 (log 3). -/
def phaseSenseDisagree (p : Fin 32) (c : Chip) : Chip := phaseCheck disagrees p .disagreement c

/-- PHASE_DROP (R115): the phase is driven low, the rest re-interleaved, and the limit derated; the rail of the last
active phase enters FAULT. -/
def phaseDrop (p : Fin 32) (c : Chip) : Chip :=
  match railOfPhase c p with
  | none => c
  | some r =>
    if c.phases[p].pendingCause == .none || !switching c.rails[r] || !drives c then c
    else
      let c := setPhase p (fun x => { x with dropped := true, cause := x.pendingCause, pendingCause := .none }) c
      let c := phaseLow p c
      let c := raise (32 + r) 3 0 (raise p 2 0 c)
      let c := if (activePhases c r).isEmpty then railFault r c else interleave r c
      publishLimit r c

/-- The rail's own cap level changes (R108, R116): a VC port's level follows, and a BIDIR rail publishes it. -/
def railCapLevel (r : Fin 16) (level : Nat) (c : Chip) : Chip :=
  let c := setRail r (fun x => { x with
    capLevel := level, capReq := if level = 10000 then false else x.capReq }) c
  let c := publishLimit r c
  match vcOf c r with
  | some n => vcLevel n c
  | none => c

/-- CAPREQ_SET (R116): while PHLOST and ILIM are set. -/
def capreqSet (r : Fin 16) (c : Chip) : Chip :=
  if phLost c r && c.rails[r].iLim && drives c then
    raise (32 + r) 4 0 (setRail r (fun x => { x with capReq := true }) c)
  else c

/-- RAIL_CAP_FALL (R116). -/
def railCapFall (r : Fin 16) (c : Chip) : Chip :=
  let x := c.rails[r]
  if x.capReq && x.iLim && drives c then
    railCapLevel r (max (min x.capLevel (nat c kCapVcMinLevel)) (x.capLevel - 500)) c
  else c

/-- RAIL_CAP_RISE (R116). -/
def railCapRise (r : Fin 16) (c : Chip) : Chip :=
  let x := c.rails[r]
  if x.capReq && !x.iLim && drives c then railCapLevel r (min 10000 (x.capLevel + 100)) c else c

/-! ### The commands -/

/-- PHASE_KILL (R73) answers the state with its effect. -/
def execPhaseKill (p : Fin 32) (current : Int) (s : State) : Host.Outcome State Fault Refusal :=
  guarded (inRange current (-2147483648) 2147483647) s (phaseKill p current s.chip)

/-- PEAK_LIMIT (R73) answers the state with its effect. -/
def execPeakLimit (p : Fin 32) (current : Int) (s : State) : Host.Outcome State Fault Refusal :=
  guarded (inRange current (-2147483648) 2147483647) s (peakLimit p current s.chip)

/-- PERIOD_START (R75) answers the state with its effect. -/
def execPeriodStart (p : Fin 32) (s : State) : Host.Outcome State Fault Refusal := answer s (periodStart p s.chip)

/-- ON_DELAY_ELAPSED (R88) answers the state with its effect. -/
def execOnDelayElapsed (r : Fin 16) (s : State) : Host.Outcome State Fault Refusal := answer s (onDelayElapsed r s.chip)

/-- RAMP_COMPLETE (R88) answers the state with its effect. -/
def execRampComplete (r : Fin 16) (s : State) : Host.Outcome State Fault Refusal := answer s (rampComplete r s.chip)

/-- OFF_DELAY_ELAPSED (R88) answers the state with its effect. -/
def execOffDelayElapsed (r : Fin 16) (s : State) : Host.Outcome State Fault Refusal :=
  answer s (offDelayElapsed r s.chip)

/-- RAMP_DOWN_COMPLETE (R87) answers the state with its effect. -/
def execRampDownComplete (r : Fin 16) (s : State) : Host.Outcome State Fault Refusal :=
  answer s (rampDownComplete r s.chip)

/-- FEEDBACK_LOST (R112) answers the state with its effect. -/
def execFeedbackLost (r : Fin 16) (s : State) : Host.Outcome State Fault Refusal := answer s (feedbackLost r s.chip)

/-- FB_HOLD_ELAPSED (R112) answers the state with its effect. -/
def execFbHoldElapsed (r : Fin 16) (s : State) : Host.Outcome State Fault Refusal := answer s (fbHoldElapsed r s.chip)

/-- DUTY_RAMP_COMPLETE (R112) answers the state with its effect. -/
def execDutyRampComplete (r : Fin 16) (s : State) : Host.Outcome State Fault Refusal :=
  answer s (dutyRampComplete r s.chip)

/-- RAIL_AUTO_RESTART (R88) answers the state with its effect. -/
def execRailAutoRestart (r : Fin 16) (s : State) : Host.Outcome State Fault Refusal :=
  answer s (railAutoRestart r s.chip)

/-- SYNC_LOCK_START (R81) answers the state with its effect. -/
def execSyncLockStart (r : Fin 16) (frequency : Nat) (s : State) : Host.Outcome State Fault Refusal :=
  guarded (decide (frequency < 2 ^ 32)) s (syncLockStart r frequency s.chip)

/-- SYNC_LOCK_ACHIEVED (R81) answers the state with its effect. -/
def execSyncLockAchieved (r : Fin 16) (s : State) : Host.Outcome State Fault Refusal :=
  answer s (syncLockAchieved r s.chip)

/-- SYNCIN_LOST (R82) answers the state with its effect. -/
def execSyncinLost (r : Fin 16) (s : State) : Host.Outcome State Fault Refusal := answer s (syncinLost r s.chip)

/-- PHASE_FAIL_OPEN (R113) answers the state with its effect. -/
def execPhaseFailOpen (p : Fin 32) (s : State) : Host.Outcome State Fault Refusal := answer s (phaseFailOpen p s.chip)

/-- PHASE_SENSE_DISAGREE (R114) answers the state with its effect. -/
def execPhaseSenseDisagree (p : Fin 32) (s : State) : Host.Outcome State Fault Refusal :=
  answer s (phaseSenseDisagree p s.chip)

/-- PHASE_DROP (R115) answers the state with its effect. -/
def execPhaseDrop (p : Fin 32) (s : State) : Host.Outcome State Fault Refusal := answer s (phaseDrop p s.chip)

/-- CAPREQ_SET (R116) answers the state with its effect. -/
def execCapreqSet (r : Fin 16) (s : State) : Host.Outcome State Fault Refusal := answer s (capreqSet r s.chip)

/-- RAIL_CAP_FALL (R116) answers the state with its effect. -/
def execRailCapFall (r : Fin 16) (s : State) : Host.Outcome State Fault Refusal := answer s (railCapFall r s.chip)

/-- RAIL_CAP_RISE (R116) answers the state with its effect. -/
def execRailCapRise (r : Fin 16) (s : State) : Host.Outcome State Fault Refusal := answer s (railCapRise r s.chip)

end Sys2Proof.Machine
end

