-- ==== Sys2Proof/Machine/Mills.lean ====
section
/-! DEFINITION. The mills: instruction words, execution, channels, outputs, triggers, banks, and trace capture
(R214 to R235, R243 to R245). -/

namespace Sys2Proof.Machine

/-! ### Instruction words -/

/-- A word of format R (Table 7.1). -/
def fmtR (op mm cc d a b x : Nat) : BitVec 48 :=
  BitVec.ofNat 48 (op * 2 ^ 42 + mm * 2 ^ 40 + cc * 2 ^ 32 + d * 2 ^ 25 + a * 2 ^ 18 + b * 2 ^ 11 + x)

/-- The word of LDI, of format L (Table 7.1). -/
def fmtL (d : Nat) (imm : Word) : BitVec 48 :=
  BitVec.ofNat 48 (3 * 2 ^ 42 + d / 32 * 2 ^ 40 + d % 32 * 2 ^ 35 + imm.toNat)

/-- The instruction that a mill executes next, while a run of custom millwork executes (R220, R226).
[DESIGN CHOICE, log 59] -/
def millNext (c : Chip) (m : Fin 16) : Option (BitVec 48) :=
  let x := c.mills[m]
  if x.state == .ready && nat c (kMillSource m) == 2 && x.running.isSome then x.program[x.pc]? else none

/-- The mill is at this instruction. [DESIGN CHOICE, log 59] -/
def millAt (c : Chip) (m : Fin 16) (w : BitVec 48) : Bool := millNext c m == some w

/-- The state word waits for a read (R221). -/
def isPending (x : Mill) (d : Fin 128) : Bool := x.reads.any fun r => r.dest == d

/-- One instruction executes: it must be the next one, and none of the words that it reads or writes may be pending
(R221); then the PC moves on. [DESIGN CHOICE, log 7, 59] -/
def millStep (m : Fin 16) (w : BitVec 48) (touched : List (Fin 128)) (f : Mill → Mill) (c : Chip) : Chip :=
  if millAt c m w && touched.all fun d => !isPending c.mills[m] d then
    setMill m (fun x => { f x with pc := x.pc + 1 }) c
  else c

/-! ### Arithmetic -/

/-- A state word is written with the low-order result of an operation that cannot saturate. -/
def setWord (d : Fin 128) (w : Word) (x : Mill) : Mill := { x with words := x.words.set d w }

/-- A state word is written with a saturated result; saturation sets V (R216). -/
def setSat (d : Fin 128) (v : Int) (x : Mill) : Mill :=
  let w := satWord v
  { x with words := x.words.set d w, v := x.v || w.toInt != v }

/-- ACC is written, saturated at 64 bits; saturation sets V (R216). [DEDUCED, log 55] -/
def setAcc (v : Int) (x : Mill) : Mill :=
  let a : Acc := BitVec.ofInt 64 (clampInt (-9223372036854775808) 9223372036854775807 v)
  { x with acc := a, v := x.v || a.toInt != v }

/-- `v` × 2^`k`, rounded towards minus infinity. -/
def shiftInt (v k : Int) : Int := if 0 ≤ k then v * 2 ^ k.toNat else v / 2 ^ (-k).toNat

/-- A word of the active state. -/
def stateInt (x : Mill) (a : Fin 128) : Int := x.words[a].toInt

/-- The active coefficient of a slot (R214). -/
def activeCoef (x : Mill) (s : Fin 256) : Coef := if x.activeB then x.bankB[s] else x.bankA[s]

/-- P of the product instructions (R215). [DEDUCED, log 55] -/
def product (x : Mill) (s : Fin 256) (a : Fin 128) (f : BitVec 6) : Int :=
  let k := activeCoef x s
  shiftInt (k.value.toInt * stateInt x a) (k.shift + f.toInt)

/-! ### Trace -/

/-- `MillTraceSel` of a channel: its KIND, ADDR and STATE (Table 7.12). -/
def traceKind (c : Chip) (m : Fin 16) (k : Fin 4) : Nat := field (nat c (kMillTraceSel m k)) 30 2
def traceAddr (c : Chip) (m : Fin 16) (k : Fin 4) : Nat := field (nat c (kMillTraceSel m k)) 16 11
def traceState (c : Chip) (m : Fin 16) (k : Fin 4) : Fin 128 := Fin.ofNat 128 (field (nat c (kMillTraceSel m k)) 0 7)

/-- An instruction produces a value that a trace channel may take (R244). -/
def traceNote (m : Fin 16) (kind pc : Nat) (w : Word) (c : Chip) : Chip :=
  each ((List.finRange 4).filter fun k => traceKind c m k == kind && traceAddr c m k == pc) (fun k =>
    setMill m fun x => { x with trace := { x.trace with last := x.trace.last.set k (some w) } }) c

/-- The entry that a channel captures (R244): of an instruction that has not executed, its previous entry again; with
none before it, a free value. The words and the program of a stock mill are not given, and its entries are free.
[DESIGN CHOICE, log 8; DEDUCED, log 54] -/
def traceEntry (c : Chip) (m : Fin 16) (k : Fin 4) : Word :=
  let x := c.mills[m]
  let free := Config.freeWord (c.fresh + k)
  if nat c (kMillSource m) = 1 then free
  else if traceKind c m k = 0 then x.words[traceState c m k]
  else (x.trace.last[k] <|> x.trace.buf[k].head?).getD free

/-- The condition of `MillTraceTrig` on the newest two entries of the named channel (Table 7.13). [DEDUCED, log 54] -/
def traceCond (c : Chip) (m : Fin 16) (new : Word) (old : Option Word) : Bool :=
  let level := num c (kMillTraceLevel m)
  let v := new.toInt
  match field (nat c (kMillTraceTrig m)) 12 4, old with
  | 1, _ => decide (level < v)
  | 2, _ => decide (v < level)
  | 3, some o => decide (o.toInt < level) && decide (level ≤ v)
  | 4, some o => decide (level < o.toInt) && decide (v ≤ level)
  | _, _ => false

/-- One capture of all four channels (R244, R245); the buffers hold the newest entry first. [DEDUCED, log 54] -/
def traceCapture (m : Fin 16) (c : Chip) : Chip :=
  let t := c.mills[m].trace
  let pre := nat c (kMillTracePre m)
  let ch : Fin 4 := Fin.ofNat 4 (field (nat c (kMillTraceTrig m)) 8 2)
  let held := t.buf[ch].length
  let entry := traceEntry c m
  let hit := traceCond c m (entry ch) t.buf[ch].head?
  let byWatch := field (nat c (kMillTraceTrig m)) 12 4 == 5 && t.watchHit
  let fires := t.state == .armed && (t.forced || byWatch || (hit && decide (pre ≤ held)))
  let buf := Vector.ofFn fun k : Fin 4 => (entry k :: t.buf[k]).take 4096
  let pos := if fires then min held 4095 else if held = 4096 then t.trigPos - 1 else t.trigPos
  let post := if fires then 4095 - pre else if t.state == .triggered then t.post - 1 else t.post
  let state := if fires || t.state == .triggered then (if post = 0 then TraceState.done else .triggered) else t.state
  each (List.finRange 4) (fun _ => takeFree) (setMill m (fun x => { x with trace := { t with
    state := state, buf := buf, last := Vector.replicate 4 none, post := post, trigPos := pos
    forced := t.forced && !fires, watchHit := t.watchHit && !fires, byWatch := t.byWatch || (fires && byWatch && !t.forced) } }) c)

/-- The END of a run of a slot: every `MillTraceDecim`-th run of `MillTraceSlot` is captured (R244). -/
def traceEnd (m : Fin 16) (slot : Fin 4) (c : Chip) : Chip :=
  let t := c.mills[m].trace
  if slot.val != nat c (kMillTraceSlot m) || !(t.state == .armed || t.state == .triggered) then c
  else
    let n := t.runs + 1
    let c := setMill m (fun x => { x with trace := { x.trace with runs := n } }) c
    if n % max 1 (nat c (kMillTraceDecim m)) = 0 then
      traceCapture m (setMill m (fun x => { x with trace := { x.trace with runs := 0 } }) c)
    else c

/-- A write of `MillTraceCtl` acts (R245): 1 arms, 2 forces, 0 returns to IDLE with the data kept. -/
def traceCtl (m : Fin 16) (v : Int) (c : Chip) : Chip :=
  setMill m (fun x => { x with trace :=
    if v = 1 then { state := .armed }
    else if v = 2 then { x.trace with forced := x.trace.forced || x.trace.state == .armed }
    else { x.trace with state := .idle, forced := false, watchHit := false } }) c

/-! ### The instructions -/

/-- NOP. -/
def insNop (m : Fin 16) (c : Chip) : Chip := millStep m (fmtR 0x00 0 0 0 0 0 0) [] id c

/-- The banks change places (R234); until the Reeve has copied, BANKPEND stays set (R235). -/
def switchBanks (x : Mill) : Mill := { x with activeB := !x.activeB, switchAtEnd := false, staged := false, bankPend := true }

/-- A run ends (R216, R228, R234): counted, HBLOST clear, the banks switched where a change waits. -/
def endRun (m : Fin 16) (c : Chip) : Chip :=
  match c.mills[m].running with
  | none => c
  | some k =>
    let c := traceEnd m k c
    let now := c.clock.us
    setMill m (fun x =>
      let x := { x with
        running := none
        stat := { x.stat with
          runs := x.stat.runs + 1, hbLost := false
          satCount := if x.v then satSucc 65535 x.stat.satCount else x.stat.satCount
          satAt := if x.v then some now else x.stat.satAt } }
      if x.switchAtEnd then switchBanks x else x) c

/-- END (R219): the run ends once every pending read has landed. -/
def insEnd (m : Fin 16) (c : Chip) : Chip :=
  if millAt c m (fmtR 0x01 0 0 0 0 0 0) && c.mills[m].reads.isEmpty then endRun m c else c

/-- A branch condition holds (Table 7.3). -/
def brCond (x : Mill) (cond : BitVec 3) : Bool :=
  match cond.toNat with
  | 0 => true
  | 1 => x.z
  | 2 => !x.z
  | 3 => x.n
  | 4 => !x.n
  | 5 => !x.n && !x.z
  | 6 => x.n || x.z
  | _ => x.v

/-- BR. -/
def insBr (m : Fin 16) (cond : BitVec 3) (addr : BitVec 11) (c : Chip) : Chip :=
  if millAt c m (fmtR 0x02 0 cond.toNat 0 0 0 addr.toNat) then
    setMill m (fun x => { x with pc := if brCond x cond then addr.toNat else x.pc + 1 }) c
  else c

/-- LDI. -/
def insLdi (m : Fin 16) (d : Fin 128) (imm : Word) (c : Chip) : Chip :=
  millStep m (fmtL d imm) [d] (setWord d imm) c

/-- MOV. -/
def insMov (m : Fin 16) (d a : Fin 128) (c : Chip) : Chip :=
  millStep m (fmtR 0x04 0 0 d a 0 0) [d, a] (fun x => setWord d x.words[a] x) c

/-- CLRA. -/
def insClra (m : Fin 16) (c : Chip) : Chip := millStep m (fmtR 0x05 0 0 0 0 0 0) [] (fun x => { x with acc := 0 }) c

/-- LDA. -/
def insLda (m : Fin 16) (a : Fin 128) (f : BitVec 6) (c : Chip) : Chip :=
  millStep m (fmtR 0x06 0 0 0 a 0 f.toNat) [a] (fun x => setAcc (shiftInt (stateInt x a) (31 + f.toInt)) x) c

/-- STA (R216): M = 1 rounds to nearest, halves upwards. -/
def insSta (m : Fin 16) (d : Fin 128) (round : Bool) (c : Chip) : Chip :=
  millStep m (fmtR 0x07 (if round then 1 else 0) 0 d 0 0 0) [d]
    (fun x => setSat d ((x.acc.toInt + if round then 2 ^ 30 else 0) / 2 ^ 31) x) c

/-- A product instruction: P is traced (Table 7.12), and ACC written. [DEDUCED, log 55] -/
def productStep (op : Nat) (m : Fin 16) (s : Fin 256) (a : Fin 128) (f : BitVec 6) (g : Int → Int → Int) (c : Chip) : Chip :=
  let w := fmtR op 0 s 0 a 0 f.toNat
  if millAt c m w && !isPending c.mills[m] a then
    let x := c.mills[m]
    let p := product x s a f
    millStep m w [a] (fun x => setAcc (g x.acc.toInt p) x) (traceNote m 1 x.pc (satWord (p / 2 ^ 31)) c)
  else c

/-- MAC. -/
def insMac (m : Fin 16) (s : Fin 256) (a : Fin 128) (f : BitVec 6) (c : Chip) : Chip :=
  productStep 0x08 m s a f (fun acc p => acc + p) c

/-- MSU. -/
def insMsu (m : Fin 16) (s : Fin 256) (a : Fin 128) (f : BitVec 6) (c : Chip) : Chip :=
  productStep 0x09 m s a f (fun acc p => acc - p) c

/-- MPY. -/
def insMpy (m : Fin 16) (s : Fin 256) (a : Fin 128) (f : BitVec 6) (c : Chip) : Chip :=
  productStep 0x0A m s a f (fun _ p => p) c

/-- ADD. -/
def insAdd (m : Fin 16) (d a b : Fin 128) (c : Chip) : Chip :=
  millStep m (fmtR 0x0B 0 0 d a b 0) [d, a, b] (fun x => setSat d (stateInt x a + stateInt x b) x) c

/-- SUB. -/
def insSub (m : Fin 16) (d a b : Fin 128) (c : Chip) : Chip :=
  millStep m (fmtR 0x0C 0 0 d a b 0) [d, a, b] (fun x => setSat d (stateInt x a - stateInt x b) x) c

/-- MIN. -/
def insMin (m : Fin 16) (d a b : Fin 128) (c : Chip) : Chip :=
  millStep m (fmtR 0x0D 0 0 d a b 0) [d, a, b] (fun x => setSat d (min (stateInt x a) (stateInt x b)) x) c

/-- MAX. -/
def insMax (m : Fin 16) (d a b : Fin 128) (c : Chip) : Chip :=
  millStep m (fmtR 0x0E 0 0 d a b 0) [d, a, b] (fun x => setSat d (max (stateInt x a) (stateInt x b)) x) c

/-- CLAMP. -/
def insClamp (m : Fin 16) (d a b : Fin 128) (c : Chip) : Chip :=
  millStep m (fmtR 0x0F 0 0 d a b 0) [d, a, b]
    (fun x => setSat d (min (max (stateInt x d) (stateInt x a)) (stateInt x b)) x) c

/-- ABS. -/
def insAbs (m : Fin 16) (d a : Fin 128) (c : Chip) : Chip :=
  millStep m (fmtR 0x10 0 0 d a 0 0) [d, a] (fun x => setSat d (max (stateInt x a) (-(stateInt x a))) x) c

/-- NEG. -/
def insNeg (m : Fin 16) (d a : Fin 128) (c : Chip) : Chip :=
  millStep m (fmtR 0x11 0 0 d a 0 0) [d, a] (fun x => setSat d (-(stateInt x a)) x) c

/-- ASH. -/
def insAsh (m : Fin 16) (d a : Fin 128) (f : BitVec 6) (c : Chip) : Chip :=
  millStep m (fmtR 0x12 0 0 d a 0 f.toNat) [d, a] (fun x => setSat d (shiftInt (stateInt x a) f.toInt) x) c

/-- MULS. -/
def insMuls (m : Fin 16) (d a b : Fin 128) (k : BitVec 6) (c : Chip) : Chip :=
  millStep m (fmtR 0x13 0 0 d a b k.toNat) [d, a, b]
    (fun x => setSat d (shiftInt (stateInt x a * stateInt x b) (-(k.toNat : Int))) x) c

/-- DIV: truncated towards zero; a divisor of 0 gives its result by the sign of S[A] and sets V. -/
def insDiv (m : Fin 16) (d a b : Fin 128) (k : BitVec 6) (c : Chip) : Chip :=
  millStep m (fmtR 0x14 0 0 d a b k.toNat) [d, a, b] (fun x =>
    if stateInt x b = 0 then { setWord d (divByZero (stateInt x a : Rat)) x with v := true }
    else setSat d ((stateInt x a * 2 ^ k.toNat).tdiv (stateInt x b)) x) c

/-- CMP. -/
def insCmp (m : Fin 16) (a b : Fin 128) (c : Chip) : Chip :=
  millStep m (fmtR 0x15 0 0 0 a b 0) [a, b] (fun x => { x with
    z := x.words[a] == x.words[b], n := decide (stateInt x a < stateInt x b) }) c

/-- AND. -/
def insAnd (m : Fin 16) (d a b : Fin 128) (c : Chip) : Chip :=
  millStep m (fmtR 0x16 0 0 d a b 0) [d, a, b] (fun x => setWord d (x.words[a] &&& x.words[b]) x) c

/-- OR. -/
def insOr (m : Fin 16) (d a b : Fin 128) (c : Chip) : Chip :=
  millStep m (fmtR 0x17 0 0 d a b 0) [d, a, b] (fun x => setWord d (x.words[a] ||| x.words[b]) x) c

/-- XOR. -/
def insXor (m : Fin 16) (d a b : Fin 128) (c : Chip) : Chip :=
  millStep m (fmtR 0x18 0 0 d a b 0) [d, a, b] (fun x => setWord d (x.words[a] ^^^ x.words[b]) x) c

/-- RD (R221): the read is issued and the word marked pending; a seventeenth read waits. -/
def insRd (m : Fin 16) (d : Fin 128) (ch : Fin 256) (status : Bool) (c : Chip) : Chip :=
  if c.mills[m].reads.length < 16 then
    millStep m (fmtR 0x19 (if status then 1 else 0) ch d 0 0 0) [d]
      (fun x => { x with reads := x.reads ++ [{ pc := x.pc, dest := d, ch := ch, status := status }] }) c
  else c

/-- A stock working channel, whose contents and format Table 7.4 leaves to each stock law. -/
def workingChannel (ch : Nat) : Bool := decide (208 ≤ ch) && decide (ch < 240)

/-- RD_LAND (R221 to R223): the pending read of a word lands, with the channel's present value or status word; a stock
working channel gives a free value. [DESIGN CHOICE, log 8; DEDUCED, log 56] -/
def rdLand (m : Fin 16) (d : Fin 128) (c : Chip) : Chip :=
  match c.mills[m].reads.find? fun r => r.dest == d with
  | none => c
  | some r =>
    let w := if workingChannel r.ch then freeWord c else if r.status then chanStatus c r.ch
      else if chanReserved r.ch then 0 else (chanOf c r.ch).word
    let c := setMill m (fun x => { setWord d w x with reads := x.reads.filter fun q => q.dest != d }) c
    traceNote m 2 r.pc w (when (workingChannel r.ch) takeFree c)

/-- The mill owns the rail (R231): it is its loop mill. -/
def ownsRail (c : Chip) (m : Fin 16) (r : Fin 16) : Bool := loopMill c r == some m

/-- Custom millwork owns an output (R224, R230, R231). [DEDUCED, log 57] -/
def ownsOutput (c : Chip) (m : Fin 16) (cls index : Nat) : Bool :=
  let ofPhase : Bool := decide (index < 32) && match railOfPhase c (Fin.ofNat 32 index) with
    | some r => ownsRail c m r
    | none => false
  let ofRail : Bool := decide (index < 16) && ownsRail c m (Fin.ofNat 16 index)
  match cls with
  | 1 | 3 => ofPhase
  | 2 | 7 => ofRail
  | 4 => decide (index < 8) && flag c (kMillOwnTrims m)
  | 5 => index == 240 + m.val ||
      (decide (176 ≤ index) && decide (index < 192) && ownsRail c m (Fin.ofNat 16 (index - 176)))
  | 6 => decide (1 ≤ index) && decide (index ≤ 16)
  | 8 => decide (index < 256)
  | _ => false

/-- WR (R230, R231): the output is queued, or discarded, counted and recorded where the mill does not own it; a full
queue waits. [DEDUCED, log 57] -/
def insWr (m : Fin 16) (cls : BitVec 8) (index : BitVec 11) (a : Fin 128) (c : Chip) : Chip :=
  let x := c.mills[m]
  let w := fmtR 0x1A 0 cls.toNat 0 a 0 index.toNat
  if !millAt c m w || isPending x a then c
  else if ownsOutput c m cls.toNat index.toNat then
    if x.outQueue.length < 8 then
      millStep m w [a] (fun x => { x with
        outQueue := x.outQueue ++ [{ cls := cls, index := index, value := x.words[a] }] })
        (traceNote m 3 x.pc x.words[a] c)
    else c
  else
    let now := c.clock.us
    let c := millStep m w [a] (fun x => { x with stat := { x.stat with
      writeRejects := satSucc 65535 x.stat.writeRejects, wrejAt := some now } }) (traceNote m 3 x.pc x.words[a] c)
    raise (156 + m) 4 0 c

/-! ### Outputs -/

/-- The rail takes duty, period and offset writes (R231). [DEDUCED, log 57] -/
def railTakes (c : Chip) (r : Fin 16) : Bool :=
  match c.rails[r].state with
  | .off | .fbHold | .dutyRamp | .fault => false
  | _ => true

/-- An output reaches its hamlet and takes effect (Table 7.7). [DEDUCED, log 57] -/
def deliver (m : Fin 16) (q : MillOutput) (c : Chip) : Chip :=
  let i := q.index.toNat
  let v := q.value.toInt
  let p : Fin 32 := Fin.ofNat 32 i
  let r : Fin 16 := Fin.ofNat 16 i
  match q.cls.toNat with
  | 1 => (match railOfPhase c p with
    | some r =>
      if railTakes c r && !c.phases[p].dropped then writeDuty p (if v < 0 then 0 else q.value) c else c
    | none => c)
  | 2 =>
    if railTakes c r && nat c (kRailSyncMode r) == 0 then
      setRail r (fun x => { x with periodNext := some (clampInt 4000 80000 v).toNat }) c
    else c
  | 3 => (match railOfPhase c p with
    | some r =>
      if railTakes c r && !c.phases[p].dropped then
        setPhase p (fun x => { x with offsetNext := some (q.value.setWidth 16), offsetForced := true }) c
      else c
    | none => c)
  | 4 =>
    match c.bus.state with
    | .handover | .onBattery | .qualifying => c
    | _ => when (flag c (kRmFitted (Fin.ofNat 8 i).val))
        (setRm (Fin.ofNat 8 i) fun x => { x with trim := q.value.setWidth 16, writtenAt := c.clock.us }) c
  | 5 => publish i q.value c
  | 6 => setMill m (fun x => { x with outs := x.outs.set (Fin.ofNat 16 (i - 1)) q.value }) c
  | 7 => railCapLevel r (clampInt 0 10000 v).toNat c
  | 8 =>
    raise (156 + m) i v (setMill m (fun x => { x with stat := { x.stat with
      eventCode := BitVec.ofNat 8 i, eventValue := q.value } }) c)
  | _ => c

/-- MILL_OUTPUT_DELIVERY (R230): the oldest queued output is delivered. -/
def millOutputDelivery (m : Fin 16) (c : Chip) : Chip :=
  match c.mills[m].outQueue with
  | [] => c
  | q :: rest => deliver m q (setMill m (fun x => { x with outQueue := rest }) c)

/-! ### Triggers, runs and banks -/

/-- The slot has a trigger, of a kind other than 0. -/
def hasTrigger (c : Chip) (m : Fin 16) (k : Fin 4) : Bool := (slotTrigger c { mill := m, slot := k }).1 != 0

/-- The period of a slot's timer in 10 ns (R226, R239): 100 µs for a stock unit, `MillTimer` for custom millwork. -/
def timerPeriod (c : Chip) (m : Fin 16) : Nat := if nat c (kMillSource m) = 1 then 10000 else nat c (kMillTimer m)

/-- MILL_TRIGGER (R226, R227): the timer of a slot of kind 3 fires once it is due. The triggers of the other kinds fire with
what they name: a period start, a new value, an apply instant. [DESIGN CHOICE, log 61] -/
def millTrigger (m : Fin 16) (k : Fin 4) (c : Chip) : Chip :=
  if (slotTrigger c { mill := m, slot := k }).1 == 3 && c.mills[m].state == .ready &&
      decide (c.mills[m].due[k] ≤ 100 * c.clock.us) then
    fireSlot { mill := m, slot := k } (setMill m (fun x => { x with due := x.due.set k (x.due[k] + timerPeriod c m) }) c)
  else c

/-- A run of a slot starts (R216, R227): the slot is no longer pending, and ACC and the flags are clear. -/
def startRun (k : Fin 4) (x : Mill) : Mill :=
  { x with slots := x.slots.set k false, running := some k, acc := 0, z := false, n := false, v := false }

/-- MILL_RUN_START (R216, R227): the lowest pending slot starts at its entry address. -/
def millRunStart (m : Fin 16) (c : Chip) : Chip :=
  let x := c.mills[m]
  if x.state != .ready || x.running.isSome then c
  else match firstFin 4 fun k => x.slots[k] with
    | none => c
    | some k => setMill m (fun x => { startRun k x with pc := nat c (kMillTrigEntry m k) }) c

/-- A stock run of a unit (R227, R228, R234): it starts, unless MILL_RUN_START has started it, runs its law, and ends. -/
def stockRun (u : Unit4) (law : Chip → Chip) (c : Chip) : Chip :=
  endRun u.mill (law (setMill u.mill (fun x => if x.running.isSome then x else startRun u.slot x) c))

/-- BANK_COPY_DONE (R235). -/
def bankCopyDone (m : Fin 16) (c : Chip) : Chip :=
  if c.mills[m].bankPend then
    setMill m (fun x =>
      let x := if x.activeB then { x with bankA := x.bankB } else { x with bankB := x.bankA }
      { x with bankPend := false }) c
  else c

/-- The inactive bank of a mill, changed; the change waits for an apply instant (R233). -/
def stageCoef (m : Fin 16) (s : Fin 256) (k : Coef) (c : Chip) : Chip :=
  setMill m (fun x =>
    let x := if x.activeB then { x with bankA := x.bankA.set s k } else { x with bankB := x.bankB.set s k }
    { x with staged := true }) c

/-- At an apply instant the banks of a mill with a staged change switch (R234): at once, or at the END of the run. -/
def bankSwitch (m : Fin 16) (c : Chip) : Chip :=
  let x := c.mills[m]
  if x.staged then
    setMill m (fun x => if x.running.isSome then { x with switchAtEnd := true, staged := false } else switchBanks x) c
  else c

/-- The rails that a mill hosts or owns (R229). -/
def railsOf (c : Chip) (m : Fin 16) : List (Fin 16) := (List.finRange 16).filter fun r => ownsRail c m r

/-- The mill hosts a stock unit or owns a rail (Table 13.3). -/
def millServes (c : Chip) (m : Fin 16) : Bool :=
  (List.finRange 4).any (fun k => unitWord c { mill := m, slot := k } != 0) || !(railsOf c m).isEmpty

/-! ### The commands -/

/-- NOP (R219) answers the state with its effect. -/
def execNop (m : Fin 16) (s : State) : Host.Outcome State Fault Refusal := answer s (insNop m s.chip)

/-- END (R219) answers the state with its effect. -/
def execEnd (m : Fin 16) (s : State) : Host.Outcome State Fault Refusal := answer s (insEnd m s.chip)

/-- BR (R219) answers the state with its effect. -/
def execBr (m : Fin 16) (cond : BitVec 3) (addr : BitVec 11) (s : State) : Host.Outcome State Fault Refusal :=
  answer s (insBr m cond addr s.chip)

/-- LDI (R219) answers the state with its effect. -/
def execLdi (m : Fin 16) (d : Fin 128) (imm : Word) (s : State) : Host.Outcome State Fault Refusal :=
  answer s (insLdi m d imm s.chip)

/-- MOV (R219) answers the state with its effect. -/
def execMov (m : Fin 16) (d a : Fin 128) (s : State) : Host.Outcome State Fault Refusal :=
  answer s (insMov m d a s.chip)

/-- CLRA (R219) answers the state with its effect. -/
def execClra (m : Fin 16) (s : State) : Host.Outcome State Fault Refusal := answer s (insClra m s.chip)

/-- LDA (R219) answers the state with its effect. -/
def execLda (m : Fin 16) (a : Fin 128) (f : BitVec 6) (s : State) : Host.Outcome State Fault Refusal :=
  answer s (insLda m a f s.chip)

/-- STA (R216) answers the state with its effect. -/
def execSta (m : Fin 16) (d : Fin 128) (round : Bool) (s : State) : Host.Outcome State Fault Refusal :=
  answer s (insSta m d round s.chip)

/-- MAC (R219) answers the state with its effect. -/
def execMac (m : Fin 16) (c : Fin 256) (a : Fin 128) (f : BitVec 6) (s : State) : Host.Outcome State Fault Refusal :=
  answer s (insMac m c a f s.chip)

/-- MSU (R219) answers the state with its effect. -/
def execMsu (m : Fin 16) (c : Fin 256) (a : Fin 128) (f : BitVec 6) (s : State) : Host.Outcome State Fault Refusal :=
  answer s (insMsu m c a f s.chip)

/-- MPY (R219) answers the state with its effect. -/
def execMpy (m : Fin 16) (c : Fin 256) (a : Fin 128) (f : BitVec 6) (s : State) : Host.Outcome State Fault Refusal :=
  answer s (insMpy m c a f s.chip)

/-- ADD (R219) answers the state with its effect. -/
def execAdd (m : Fin 16) (d a b : Fin 128) (s : State) : Host.Outcome State Fault Refusal :=
  answer s (insAdd m d a b s.chip)

/-- SUB (R219) answers the state with its effect. -/
def execSub (m : Fin 16) (d a b : Fin 128) (s : State) : Host.Outcome State Fault Refusal :=
  answer s (insSub m d a b s.chip)

/-- MIN (R219) answers the state with its effect. -/
def execMin (m : Fin 16) (d a b : Fin 128) (s : State) : Host.Outcome State Fault Refusal :=
  answer s (insMin m d a b s.chip)

/-- MAX (R219) answers the state with its effect. -/
def execMax (m : Fin 16) (d a b : Fin 128) (s : State) : Host.Outcome State Fault Refusal :=
  answer s (insMax m d a b s.chip)

/-- CLAMP (R219) answers the state with its effect. -/
def execClamp (m : Fin 16) (d a b : Fin 128) (s : State) : Host.Outcome State Fault Refusal :=
  answer s (insClamp m d a b s.chip)

/-- ABS (R219) answers the state with its effect. -/
def execAbs (m : Fin 16) (d a : Fin 128) (s : State) : Host.Outcome State Fault Refusal :=
  answer s (insAbs m d a s.chip)

/-- NEG (R219) answers the state with its effect. -/
def execNeg (m : Fin 16) (d a : Fin 128) (s : State) : Host.Outcome State Fault Refusal :=
  answer s (insNeg m d a s.chip)

/-- ASH (R219) answers the state with its effect. -/
def execAsh (m : Fin 16) (d a : Fin 128) (f : BitVec 6) (s : State) : Host.Outcome State Fault Refusal :=
  answer s (insAsh m d a f s.chip)

/-- MULS (R219) answers the state with its effect. -/
def execMuls (m : Fin 16) (d a b : Fin 128) (k : BitVec 6) (s : State) : Host.Outcome State Fault Refusal :=
  answer s (insMuls m d a b k s.chip)

/-- CMP (R219) answers the state with its effect. -/
def execCmp (m : Fin 16) (a b : Fin 128) (s : State) : Host.Outcome State Fault Refusal :=
  answer s (insCmp m a b s.chip)

/-- AND (R219) answers the state with its effect. -/
def execAnd (m : Fin 16) (d a b : Fin 128) (s : State) : Host.Outcome State Fault Refusal :=
  answer s (insAnd m d a b s.chip)

/-- OR (R219) answers the state with its effect. -/
def execOr (m : Fin 16) (d a b : Fin 128) (s : State) : Host.Outcome State Fault Refusal :=
  answer s (insOr m d a b s.chip)

/-- XOR (R219) answers the state with its effect. -/
def execXor (m : Fin 16) (d a b : Fin 128) (s : State) : Host.Outcome State Fault Refusal :=
  answer s (insXor m d a b s.chip)

/-- RD (R222) answers the state with its effect. -/
def execRd (m : Fin 16) (d : Fin 128) (ch : Fin 256) (status : Bool) (s : State) : Host.Outcome State Fault Refusal :=
  answer s (insRd m d ch status s.chip)

/-- RD_LAND (R221) answers the state with its effect. -/
def execRdLand (m : Fin 16) (d : Fin 128) (s : State) : Host.Outcome State Fault Refusal := answer s (rdLand m d s.chip)

/-- WR (R230) answers the state with its effect. -/
def execWr (m : Fin 16) (cls : BitVec 8) (index : BitVec 11) (a : Fin 128) (s : State) : Host.Outcome State Fault Refusal :=
  answer s (insWr m cls index a s.chip)

/-- MILL_OUTPUT_DELIVERY (R230) answers the state with its effect. -/
def execMillOutputDelivery (m : Fin 16) (s : State) : Host.Outcome State Fault Refusal :=
  answer s (when (live s.chip) (millOutputDelivery m) s.chip)

/-- MILL_TRIGGER (R227) answers the state with its effect. -/
def execMillTrigger (m : Fin 16) (k : Fin 4) (s : State) : Host.Outcome State Fault Refusal :=
  answer s (when (live s.chip) (millTrigger m k) s.chip)

/-- MILL_RUN_START (R227) answers the state with its effect. -/
def execMillRunStart (m : Fin 16) (s : State) : Host.Outcome State Fault Refusal := answer s (when (live s.chip) (millRunStart m) s.chip)

/-- BANK_COPY_DONE (R235) answers the state with its effect. -/
def execBankCopyDone (m : Fin 16) (s : State) : Host.Outcome State Fault Refusal := answer s (when (live s.chip) (bankCopyDone m) s.chip)

end Sys2Proof.Machine
end

