-- ==== Sys2Proof/Machine/Derive.lean ====
section
/-! DEFINITION. What the Reeve derives for the stock units (R44, R90, R240 to R242), their budget load (R237), and the
loading of a mill (R238). -/

namespace Sys2Proof.Machine

/-! ### Coefficients -/

/-- π, to 31 decimal places. [DESIGN CHOICE, log 11] -/
def piRat : Rat := 31415926535897932384626433832795 / 10000000000000000000000000000000

/-- The shifts that a coefficient may take, the smallest first (R44). -/
def shifts : List Int := (List.range 32).map fun (k : Nat) => Int.ofNat k - 16

/-- A value as a coefficient (R44); none where it needs a shift above +15 (R242). [DEDUCED, log 12] -/
def encodeCoef (v : Rat) : Option Coef :=
  (shifts.find? fun s => decide (ratAbs v < (2 : Rat) ^ s)).map fun s =>
    { value := toQ 31 (v / (2 : Rat) ^ s), shift := s }

/-- The three lead terms of a section (Table 3.4), for its zero and pole in Hz and the frequency of the rail.
[DESIGN CHOICE, log 11; DEDUCED, log 12] -/
def leadTerms (fsw fz fp : Nat) : List Rat :=
  let z : Rat := (fsw : Rat) / (piRat * fz)
  let p : Rat := (fsw : Rat) / (piRat * fp)
  [(1 + z) / (1 + p), (1 - z) / (1 + p), (p - 1) / (1 + p)]

/-- The coefficients of RAILLOOP (Table 3.4). -/
def railloopCoefs (c : Chip) (r : Nat) : List Rat :=
  let f := nat c (kRailFsw r)
  let t : Rat := 1 / (f : Rat)
  [(nat c (kRailKi r) : Rat) * t / 2] ++ leadTerms f (nat c (kRailFz1 r)) (nat c (kRailFp1 r)) ++
    leadTerms f (nat c (kRailFz2 r)) (nat c (kRailFp2 r)) ++
    [(nat c (kRailLoadLine r) : Rat) / 1000000, (nat c (kRailBalanceKi r) : Rat) * t, (nat c (kRailLimitKi r) : Rat) * t]

/-- The coefficients of BALANCE on a BIDIR rail (Table 7.9). -/
def balanceCoefs (c : Chip) (r : Nat) : List Rat :=
  [(nat c (kRailBidirKp r) : Rat) / 1000, (nat c (kRailBidirKi r) : Rat) / (nat c (kRailFsw r) : Rat)]

/-- FRAC of a port (Table 2.3): its rated power over that of the active set. [DESIGN CHOICE, log 21] -/
def fracOf (c : Chip) (n : Fin 8) : Rat :=
  let active := (fittedRms c).filter fun k => !c.rms[k].fallback
  let sum : Rat := (active.map fun k => (num c (kRmRatedPower k.val) : Rat)).foldl (· + ·) 0
  if active.contains n then (num c (kRmRatedPower n) : Rat) / sum else 0

/-- The coefficients of BUSSHARE (Table 2.3). [DESIGN CHOICE, log 21] -/
def busshareCoefs (c : Chip) : List Rat :=
  let lim := hundredMicro (num c kBusTrimLimit)
  [(nat c kBusKp : Rat) / 1000, (nat c kBusKi : Rat) / 1000000, (nat c kShareKi : Rat) / 10000000, 1, lim, lim / 2, 0, 0] ++
    (List.finRange 8).map (fracOf c)

/-- SHARE of a string (Table 4.6): over the fitted strings. -/
def dischargeShare (c : Chip) (s : Fin 4) : Rat :=
  let sum : Rat := ((fittedStrs c).map fun t => (num c (kStrDischargeLimit t.val) : Rat)).foldl (· + ·) 0
  if (fittedStrs c).contains s && sum != 0 then (num c (kStrDischargeLimit s) : Rat) / sum else 0

/-- The coefficients of CHARGE (Table 4.6). -/
def chargeCoefs (c : Chip) : List Rat :=
  [(nat c kChgBusKp : Rat) / 1000, (nat c kChgBusKi : Rat) / 4000, (nat c kChgVoltKp : Rat) / 1000,
    (nat c kChgVoltKi : Rat) / 4000, 1 / (pct (num c kChargeRegBand) * hundredMicro (num c kBusTarget)), 0, 0, 0] ++
    ((List.finRange 4).map fun s => (num c (kStrTempComp s.val) : Rat) / 1000000 * nat c (kStrCells s.val)) ++
    (List.finRange 4).map (dischargeShare c)

/-- The capacitance in use in F (R56). -/
def capInUse (c : Chip) : Rat :=
  ((if c.well.useMeasured then c.well.capMeasured else nat c kWellCapacitance : Nat) : Rat) / 1000000

/-- The coefficients of WELLRATE (Table 7.10). -/
def wellrateCoefs (c : Chip) : List Rat :=
  let half := capInUse c / 2
  let vmin := pct (num c kWellBusVmin) * hundredMicro (num c kBusTarget)
  [half, half * vmin * vmin, pct (num c kWellConvEff), 1 / 10000]

/-- The coefficients of a stock unit, from its slot 0 on (Table 7.8). -/
def unitCoefs (c : Chip) (w : Nat) : List Rat :=
  match w / 256 with
  | 1 => railloopCoefs c (w % 256)
  | 2 => balanceCoefs c (w % 256)
  | 3 => busshareCoefs c
  | 4 => chargeCoefs c
  | 5 => wellrateCoefs c
  | _ => []

/-- Every coefficient that the Reeve derives for a mill: its slot and value (R236). -/
def derived (c : Chip) (m : Fin 16) : List (Nat × Rat) :=
  (List.finRange 4).flatMap fun k =>
    (unitCoefs c (unitWord c { mill := m, slot := k })).zipIdx.map fun e => (64 * k.val + e.2, e.1)

/-- Every derived value of every mill fits a shift (R242). [DEDUCED, log 63] -/
def derivable (c : Chip) : Bool := (List.finRange 16).all fun m => (derived c m).all fun e => (encodeCoef e.2).isSome

/-- The words that the Reeve derives for a mill. -/
def derivedWords (c : Chip) (m : Fin 16) : List (Fin 256 × Coef) :=
  (derived c m).filterMap fun e => (encodeCoef e.2).map fun k => (Fin.ofNat 256 e.1, k)

/-- At an apply instant the Reeve rederives (R45, R242): a mill whose words change has them staged into its inactive
bank; one whose copy runs waits for the first apply instant after it (R235). [DEDUCED, log 62] -/
def derive (c : Chip) : Chip :=
  let busy (m : Fin 16) : Bool := c.mills[m].bankPend || c.mills[m].switchAtEnd
  let stale (m : Fin 16) : Bool := (derivedWords c m).any fun e => activeCoef c.mills[m] e.1 != e.2
  let waits := (List.finRange 16).any fun m => busy m && stale m
  let todo := (List.finRange 16).filter fun m => !busy m && stale m
  let c := each todo (fun m c => each (derivedWords c m) (fun e => stageCoef m e.1 e.2) c) c
  setBus (fun b => { b with fracPending := false }) (setHampers (fun h => { h with derive := waits }) c)

/-! ### Budget load -/

/-- The budget cycles of a unit per run, and its trigger rate per second (R237, Table 7.8). -/
def unitLoad (c : Chip) (w : Nat) : Rat :=
  let r : Fin 16 := Fin.ofNat 16 (w % 256)
  let n : Rat := ((phasesOf c r).length : Rat)
  let rms : Rat := ((fittedRms c).length : Rat)
  let strs : Rat := ((fittedStrs c).length : Rat)
  match w / 256 with
  | 1 => (80 + 8 * n) * (11 * (nat c (kRailFsw r) : Rat) / 10)
  | 2 => (40 + 10 * n) * (11 * (nat c (kRailFsw r) : Rat) / 10)
  | 3 => (120 + 30 * rms) * 10000
  | 4 => (100 + 80 * strs) * 4000
  | 5 => (150 + 30 * strs + 10 * rms) * 10000
  | _ => 0

/-- The budget load of a mill in 0.01 % (R237). -/
def budgetLoad (c : Chip) (m : Fin 16) : Rat :=
  ((List.finRange 4).map fun k => unitLoad c (unitWord c { mill := m, slot := k })).foldl (· + ·) 0 / 40000

/-! ### Loading -/

/-- The words of `MillCode` (Table 7.14). -/
def codeWords : Nat → List Byte → List (BitVec 48)
  | 0, _ => []
  | n + 1, b => BitVec.ofNat 48 (leNat (b.take 6)) :: codeWords n (b.drop 6)

/-- The bank that a load writes (R238). -/
def loadBank (c : Chip) (m : Fin 16) : Vector Coef 256 :=
  let custom : Vector Coef 256 := Vector.ofFn fun s : Fin 256 =>
    if s.val < 128 then
      { value := BitVec.ofInt 32 (num c (key (0x5002 + 0x100 * m.val) (1 + s.val)))
        shift := num c (key (0x5004 + 0x100 * m.val) (1 + s.val)) }
    else
      { value := BitVec.ofInt 32 (num c (key (0x5003 + 0x100 * m.val) (s.val - 127)))
        shift := num c (key (0x5005 + 0x100 * m.val) (s.val - 127)) }
  (derivedWords c m).foldl (fun b e => b.set e.1 e.2) custom

/-- The slot's trigger is of kind 3, which first fires at the mark-ready instant (R226, R239). [DEDUCED, log 61] -/
def timed (c : Chip) (m : Fin 16) (k : Fin 4) : Bool := (slotTrigger c { mill := m, slot := k }).1 == 3

/-- The state words of a stock unit are cleared (R217, R238): the integrators, filter states and sums that its law keeps from
one run to the next. [DEDUCED, log 60] -/
def clearUnit (c₀ : Chip) (u : Unit4) (c : Chip) : Chip :=
  let w := unitWord c₀ u
  let r : Fin 16 := Fin.ofNat 16 (w % 256)
  let phases (c : Chip) : Chip := each (phasesOf c r) (fun p => setPhase p fun x => { x with integ := 0, bal := 0 }) c
  match w / 256 with
  | 1 => phases (setRail r (fun x => { x with loop := {} }) c)
  | 2 => phases c
  | 3 => each (List.finRange 8) (fun n => setRm n fun x => { x with integ := 0 }) (setBus (fun b => { b with iv := 0 }) c)
  | 4 => each (List.finRange 4) (fun s => setStr s fun x => { x with xv := 0 })
      (setBatt (fun b => { b with xb := 0, ichTot := 0 }) c)
  | 5 => setWell (fun w => { w with stringJ := 0, busJ := 0, runs := 0 }) c
  | _ => c

/-- The Reeve loads a mill (R238): with `MillSource` 0 it is IDLE. [DEDUCED, log 60] -/
def loadMill (m : Fin 16) (c : Chip) : Chip :=
  let source := nat c (kMillSource m)
  let bank := loadBank c m
  let due := 100 * c.clock.us + timerPeriod c m
  let c := each ((List.finRange 4).map fun k => { mill := m, slot := k }) (clearUnit c) c
  setMill m (fun x => { x with
    state := if source = 0 then .idle else .ready
    program := if source = 2 then codeWords (nat c (kMillCodeLength m)) (bytes c (kMillCode m)) else []
    bankA := bank, bankB := bank, bankPend := false, staged := false, switchAtEnd := false
    words := Vector.replicate 128 0, pc := 0, running := none, reads := [], trace := {}
    slots := Vector.ofFn (timed c m), due := Vector.replicate 4 due
    stat := { x.stat with illegal := false, runLimit := false, hbLost := false } }) c

/-- The hamlet of a mill (R9). -/
def millHamlet (m : Fin 16) : Fin 27 := Fin.ofNat 27 (11 + m)

/-- MILL_LOAD (R238, R17): a mill that loads, or that a block reset wiped, is loaded and marked ready.
[DEDUCED, log 60] -/
def millLoad (m : Fin 16) (c : Chip) : Chip :=
  let st := c.mills[m].state
  if (st == .loading || st == .reset) && reeveRuns c && !c.hamlets[millHamlet m].blkrst then
    openHamlet (millHamlet m) (loadMill m c)
  else c

/-! ### The commands -/

/-- MILL_LOAD (R238) answers the state with its effect. -/
def execMillLoad (m : Fin 16) (s : State) : Host.Outcome State Fault Refusal := answer s (millLoad m s.chip)

end Sys2Proof.Machine
end

