-- ==== Sys2Proof/Machine/Monitors.lean ====
section
/-! DEFINITION. Window monitors (R187 to R197, R211): codes, comparators, the kill link, warnings and read-back. -/

namespace Sys2Proof.Machine

/-- The margin of a rail in 0.1 % (R94, R209); BIDIR rails ignore it. -/
def marginOf (c : Chip) (r : Fin 16) : Int := if railType c r = 2 then 0 else num c (kMarginRail r)

/-- The rail that a monitor is bound to (`WmRail`). -/
def wmRail (c : Chip) (m : Fin 64) : Option (Fin 16) :=
  let v := nat c (kWmRail m)
  if h : v < 16 then some ⟨v, h⟩ else none

/-- The margin that a monitor's thresholds follow (R211). -/
def followedMargin (c : Chip) (m : Fin 64) : Int :=
  if flag c (kWmFollowMargin m) then (match wmRail c m with
    | some r => marginOf c r
    | none => 0)
  else 0

/-- A threshold of a monitor in 100 µV, multiplied by its margin (R211). -/
def withMargin (t margin : Int) : Rat := (t : Rat) * (1 + (margin : Rat) / 1000)

/-- `WmUvCode` (R188, R211): rounded up. [DEDUCED, log 50] -/
def uvCode (c : Chip) (m : Fin 64) : Int :=
  (withMargin (num c (kWmUvFault m)) c.wms[m].uvMargin * 1024 / (num c (kWmScale m) : Rat)).ceil

/-- `WmOvCode` (R188, R211): rounded down. [DEDUCED, log 50] -/
def ovCode (c : Chip) (m : Fin 64) : Int :=
  (withMargin (num c (kWmOvFault m)) c.wms[m].ovMargin * 1024 / (num c (kWmScale m) : Rat)).floor

/-- The code that a threshold DAC has in force, with its hysteresis offset (R189). -/
def dacCode (c : Chip) (m : Fin 64) (ov : Bool) : Int :=
  let h := num c (kWmHyst m)
  if ov then clampInt 0 1023 (ovCode c m - (if c.wms[m].faultOv then h else 0))
  else clampInt 0 1023 (uvCode c m + (if c.wms[m].faultUv then h else 0))

/-- UVMASK (R191): the bound rail is in a state other than REGULATE and OFF-DELAY. [DEDUCED, log 49] -/
def uvMasked (c : Chip) (m : Fin 64) : Bool :=
  match wmRail c m with
  | some r => c.rails[r].state != .regulate && c.rails[r].state != .offDelay
  | none => false

/-- FAULTUV (R190, R191). [DEDUCED, log 49] -/
def faultUv (c : Chip) (m : Fin 64) : Bool := flag c (kWmEnable m) && c.wms[m].faultUv && !uvMasked c m

/-- FAULTOV (R190). -/
def faultOv (c : Chip) (m : Fin 64) : Bool := flag c (kWmEnable m) && c.wms[m].faultOv

/-- The monitor is in window (R189), which a monitor with unpowered comparators is not. [DEDUCED, log 33] -/
def inWindow (c : Chip) (m : Fin 64) : Bool := flag c (kWmEnable m) && !faultUv c m && !faultOv c m

/-- The code of a monitor's UV threshold moves now (R195). -/
def uvMoves (m : Fin 64) (c : Chip) : Chip := setWm m (fun w => { w with uvMovedAt := some c.clock.us }) c

/-- The code of a monitor's OV threshold moves now (R195). -/
def ovMoves (m : Fin 64) (c : Chip) : Chip := setWm m (fun w => { w with ovMovedAt := some c.clock.us }) c

/-- The channel of a monitor fails its pilot or range check, and its warnings are suspended (R194, STALE). -/
def wmStale (c : Chip) (m : Fin 64) : Bool := !passes c (nat c (kWmChannel m))

/-- The kill link (R193): the kill latches on every phase of the rail, which enters FAULT. -/
def railKillLine (r : Fin 16) (c : Chip) : Chip :=
  killRail r (each (phasesOf c r) (fun p => setPhase p fun x => { x with kill := true }) c)

/-- WM_FAULT_ONSET (R189 to R193). -/
def wmFaultOnset (m : Fin 64) (ov : Bool) (c : Chip) : Chip :=
  if !flag c (kWmEnable m) || !live c then c
  else if !ov then
    let onset := !c.wms[m].faultUv && !uvMasked c m
    when onset (raise (80 + m) 1 0) (uvMoves m (setWm m (fun w => { w with faultUv := true }) c))
  else
    let onset := !c.wms[m].faultOv
    let c := when onset (raise (80 + m) 1 0) (ovMoves m (setWm m (fun w => { w with faultOv := true }) c))
    match wmRail c m with
    | some r =>
      if onset && flag c (kWmOvKill m) then
        railKillLine r (raise (80 + m) 2 0 (setWm m (fun w => { w with killed := true }) c))
      else c
    | none => c

/-- WM_FAULT_CLEAR (R189). -/
def wmFaultClear (m : Fin 64) (ov : Bool) (c : Chip) : Chip :=
  if !flag c (kWmEnable m) || !live c then c
  else if ov then ovMoves m (setWm m (fun w => { w with faultOv := false }) c)
  else uvMoves m (setWm m (fun w => { w with faultUv := false }) c)

/-- WM_WARNING_ONSET (R194): `WmValue` lies beyond a warning threshold. -/
def wmWarningOnset (m : Fin 64) (ov : Bool) (c : Chip) : Chip :=
  if !flag c (kWmEnable m) || !live c || wmStale c m then c
  else
    let w := c.wms[m]
    let beyond := if ov then decide (withMargin (num c (kWmOvWarn m)) w.ovMargin < w.value)
      else decide ((w.value : Rat) < withMargin (num c (kWmUvWarn m)) w.uvMargin) && !uvMasked c m
    let onset := beyond && !(if ov then w.warnOv else w.warnUv)
    let c := if beyond then
        setWm m (fun w => if ov then { w with warnOv := true } else { w with warnUv := true }) c else c
    when onset (raise 234 1 0) c

/-- WM_WARNING_CLEAR (R194): `WmValue` has come back inside the threshold by the hysteresis. -/
def wmWarningClear (m : Fin 64) (ov : Bool) (c : Chip) : Chip :=
  if !flag c (kWmEnable m) || !live c || wmStale c m then c
  else
    let w := c.wms[m]
    let h : Rat := (num c (kWmHyst m) : Rat) * (num c (kWmScale m) : Rat) / 1024
    let inside := if ov then decide ((w.value : Rat) ≤ withMargin (num c (kWmOvWarn m)) w.ovMargin - h)
      else decide (withMargin (num c (kWmUvWarn m)) w.uvMargin + h ≤ w.value)
    if inside then setWm m (fun w => if ov then { w with warnOv := false } else { w with warnUv := false }) c else c

/-- A reading of a DAC joins the counts of readings in a row, and sets or clears the DAC's error (R195). -/
def countReading (ov bad : Bool) (w : Wm) : Wm :=
  let nb (n : Nat) : Nat := if bad then min 2 (n + 1) else 0
  let ng (n : Nat) : Nat := if bad then 0 else min 2 (n + 1)
  let err (b : Nat) (g : Nat) (e : Bool) : Bool := b == 2 || (e && g != 2)
  if ov then { w with badOv := nb w.badOv, goodOv := ng w.goodOv, errOv := err (nb w.badOv) (ng w.goodOv) w.errOv }
  else { w with badUv := nb w.badUv, goodUv := ng w.goodUv, errUv := err (nb w.badUv) (ng w.goodUv) w.errUv }

/-- WM_DAC_READBACK (R195): two bad readings in a row of one DAC set its error, two good ones clear it; DACERR is the error
of either. A reading within 20 µs of a change of the code is discarded. [DEDUCED, log 50] -/
def wmDacReadback (m : Fin 64) (ov : Bool) (reading : BitVec 12) (c : Chip) : Chip :=
  let movedAt := if ov then c.wms[m].ovMovedAt else c.wms[m].uvMovedAt
  if !live c || within c 20 movedAt then c
  else
    let d := (reading.toNat : Int) - 4 * dacCode c m ov
    let bad := decide (12 < d) || decide (d < -12)
    let was := if ov then c.wms[m].errOv else c.wms[m].errUv
    let c := setWm m (countReading ov bad) c
    let now := if ov then c.wms[m].errOv else c.wms[m].errUv
    when (!was && now && flag c (kWmEnable m)) (raise 233 1 0) c

/-- A monitor that is disabled has its comparators unpowered (`WmEnable`). -/
def wmDisable (m : Fin 64) (c : Chip) : Chip :=
  setWm m (fun w => { w with faultUv := false, faultOv := false, warnUv := false, warnOv := false }) c

/-- Both thresholds of a monitor stand at the margin that it follows: its configuration has changed (R197, R211). -/
def wmConfigured (m : Fin 64) (c : Chip) : Chip :=
  let v := followedMargin c m
  ovMoves m (uvMoves m (setWm m (fun w => { w with uvMargin := v, ovMargin := v }) c))

/-- A margin applies to a rail (R209, R211): the reference moves at the ramp slope (R94), the widening thresholds move at
once, and each change to a value other than 0 is recorded. -/
def marginApplied (r : Fin 16) (c : Chip) : Chip :=
  let v := marginOf c r
  let written := num c (kMarginRail r)
  let changed := written != c.rails[r].margin
  let c := setRail r (fun x => { x with margin := written }) c
  let c := each ((monitorsOf c r).filter fun m : Fin 64 => flag c (kWmFollowMargin m)) (fun m c =>
    ovMoves m (uvMoves m (setWm m (fun w => { w with uvMargin := min w.uvMargin v, ovMargin := max w.ovMargin v }) c))) c
  let moving := match c.rails[r].state with
    | .ramp | .regulate | .offDelay => railType c r == 1
    | _ => false
  let c := when moving (moveAtRamp r) c
  when (changed && written != 0) (raise 235 1 0) c

/-- MARGIN_NARROW_MOVE (R211): the reference has reached its margined value, and the narrowing threshold moves. -/
def marginNarrowMove (m : Fin 64) (c : Chip) : Chip :=
  match wmRail c m with
  | none => c
  | some r =>
    if flag c (kWmFollowMargin m) && live c && refAtTarget c r then
      ovMoves m (uvMoves m (setWm m (fun w => { w with uvMargin := marginOf c r, ovMargin := marginOf c r }) c))
    else c

/-! ### The commands -/

/-- WM_FAULT_ONSET (R190) answers the state with its effect. -/
def execWmFaultOnset (m : Fin 64) (ov : Bool) (s : State) : Host.Outcome State Fault Refusal :=
  answer s (wmFaultOnset m ov s.chip)

/-- WM_FAULT_CLEAR (R189) answers the state with its effect. -/
def execWmFaultClear (m : Fin 64) (ov : Bool) (s : State) : Host.Outcome State Fault Refusal :=
  answer s (wmFaultClear m ov s.chip)

/-- WM_WARNING_ONSET (R194) answers the state with its effect. -/
def execWmWarningOnset (m : Fin 64) (ov : Bool) (s : State) : Host.Outcome State Fault Refusal :=
  answer s (wmWarningOnset m ov s.chip)

/-- WM_DAC_READBACK (R195) answers the state with its effect. -/
def execWmDacReadback (m : Fin 64) (ov : Bool) (reading : BitVec 12) (s : State) : Host.Outcome State Fault Refusal :=
  answer s (wmDacReadback m ov reading s.chip)

/-- MARGIN_NARROW_MOVE (R211) answers the state with its effect. -/
def execMarginNarrowMove (m : Fin 64) (s : State) : Host.Outcome State Fault Refusal :=
  answer s (marginNarrowMove m s.chip)

/-- WM_WARNING_CLEAR (R194) answers the state with its effect. -/
def execWmWarningClear (m : Fin 64) (ov : Bool) (s : State) : Host.Outcome State Fault Refusal :=
  answer s (wmWarningClear m ov s.chip)

end Sys2Proof.Machine
end

