-- ==== Sys2Proof/Machine/Checks.lean ====
section
/-! DEFINITION. The cross-checks that a write or a hamper must pass (R277): each rule of a chapter, over the values that
would be in force, and the detail with which it fails. -/

namespace Sys2Proof.Machine

/-- A check that fails with a detail. -/
def need (ok : Bool) (d : Detail) : List Detail := if ok then [] else [d]

/-- Every two members of a list differ. -/
def distinct : List Nat → Bool
  | [] => true
  | a :: rest => !rest.contains a && distinct rest

/-! ### Chapters 1 to 3 -/

/-- The mill would hold a program bound to a trigger (R29). -/
def millBound (c : Chip) (m : Fin 16) : Bool := (List.finRange 4).any fun k => hasTrigger c m k

/-- `HamletParkMask` (R29). -/
def checkPark (c : Chip) : List Detail :=
  let mask := nat c kHamletParkMask
  need (!(hasBit mask 8 && flag c kLaneEnable) && !(hasBit mask 9 && c.twin.role != .single) &&
    (List.finRange 16).all fun m => !(hasBit mask (11 + m.val) && millBound c m)) .topology

/-- How many stock units of a code and instance the mills would run (R237). -/
def hostCount (c : Chip) (code instance_ : Nat) : Nat :=
  (unitPlaces.filter fun u => unitWord c u == code * 256 + instance_).length

/-- BUSSHARE, CHARGE and WELLRATE would be hosted as R237 asks. -/
def checkHosts (c : Chip) : List Detail :=
  let bus := hostCount c 3 0
  let charge := hostCount c 4 0
  let trims := countFin 16 fun m => flag c (kMillOwnTrims m)
  need (hostCount c 5 0 == 1 && (bus == 1 || (bus == 0 && (fittedRms c).isEmpty)) &&
    (charge == 1 || (charge == 0 && (fittedStrs c).isEmpty)) && !(0 < bus && 0 < trims) && trims ≤ 1) .topology

/-- `RmTrimMin` ≤ `RmTrimNeutral` ≤ `RmTrimMax`, and the rated power of a fitted port (R38). -/
def checkRm (c : Chip) (n : Fin 8) : List Detail :=
  need (num c (kRmTrimMin n) ≤ num c (kRmTrimNeutral n) && num c (kRmTrimNeutral n) ≤ num c (kRmTrimMax n) &&
    (!flag c (kRmFitted n) || 100000 ≤ num c (kRmRatedPower n))) .consistency

/-- The order of the bus levels (R57), and the band of charge regulation (R130). -/
def checkLevels (c : Chip) : List Detail :=
  let up (a b : Key) : Bool := decide (num c a < num c b)
  need (up kWellBusVmin kHandoverLevel && up kHandoverLevel kHoldupLevel && up kHoldupLevel kChargeRegLevel &&
    up kChargeRegLevel kHandbackLevel && num c kHandbackLevel < 10000 &&
    num c kHoldupLevel < num c kChargeRegLevel - num c kChargeRegBand) .consistency

/-- `PhPeakLimit` < `PhKillLimit` ≤ `PhCurrentScale` (R76). -/
def checkPhase (c : Chip) (p : Fin 32) : List Detail :=
  need (num c (kPhPeakLimit p) < num c (kPhKillLimit p) && num c (kPhKillLimit p) ≤ num c (kPhCurrentScale p)) .consistency

/-- The rails of a type other than unused whose masks share a phase with a rail's (R77). -/
def maskClash (c : Chip) (r : Fin 16) : Bool :=
  (List.finRange 16).any fun q => q != r && nat c (kRailPhaseMask r) &&& nat c (kRailPhaseMask q) != 0

/-- How many strings would be bound to a rail. -/
def boundStrings (c : Chip) (r : Fin 16) : Nat := countFin 4 fun s => strRail c s == some r

/-- How many mills would run a rail's loop (R237). -/
def loopHosts (c : Chip) (r : Fin 16) : Nat :=
  hostCount c (railType c r) r + countFin 16 fun m => nat c (kMillSource m) == 2 && hasBit (nat c (kMillOwnRails m)) r.val

/-- The topology of a rail (R77, R237); `old` gives the state and the values before. [DEDUCED, log 74] -/
def checkRail (old c : Chip) (r : Fin 16) : List Detail :=
  let n := (phasesOf c r).length
  let t := railType c r
  let vc := nat c (kRailVcPort r)
  need (old.rails[r].state == .off || (railType old r == t && nat old (kRailPhaseMask r) == nat c (kRailPhaseMask r)))
    .targetState ++
  need (!maskClash c r && (t == 0 || (1 ≤ n && n ≤ 8)) && (t != 2 || boundStrings c r == 1) &&
    (vc == 0xFF || (t != 2 && (List.finRange 16).all fun q => q == r || nat c (kRailVcPort q) != vc)) &&
    (countFin 16 fun q => flag c (kRailSyncOut q)) ≤ 1 && (t == 0 || loopHosts c r == 1) &&
    (t == 1 || hostCount c 1 r == 0) && (t == 2 || hostCount c 2 r == 0)) .topology

/-- The budget load of every mill of stock units (R237). -/
def checkLoads (c : Chip) : List Detail :=
  need ((List.finRange 16).all fun m => nat c (kMillSource m) != 1 || budgetLoad c m ≤ 8000) .topology

/-- The rails that a string was and would be bound to. -/
def bindingRails (old c : Chip) (s : Fin 4) : List (Fin 16) :=
  let a := strRail old s
  a.toList ++ ((strRail c s).filter fun r => a != some r).toList

/-- The order of a rail's poles and zeros, and its frequency (R77). -/
def checkLoop (c : Chip) (r : Fin 16) : List Detail :=
  let fp1 := nat c (kRailFp1 r)
  let fsw := nat c (kRailFsw r)
  need (100000 ≤ fsw && fsw ≤ 2000000) .topology ++
  need (nat c (kRailFz1 r) < fp1 && nat c (kRailFz2 r) < fp1 && fp1 ≤ nat c (kRailFp2 r) && 2 * nat c (kRailFp2 r) ≤ fsw)
    .consistency

/-! ### Chapters 4 to 6 -/

/-- The points of a string's table, as state of charge and voltage. -/
def ocvWords (c : Chip) (s : Fin 4) : List (Nat × Nat) :=
  (List.range 32).map fun j => (nat c (kStrOcvPoint s j) / 65536, nat c (kStrOcvPoint s j) % 65536)

/-- State of charge rises strictly, and voltage never falls. -/
def rising : List (Nat × Nat) → Bool
  | [] => true
  | a :: rest => (match rest with
    | [] => true
    | b :: _ => decide (a.1 < b.1) && decide (a.2 ≤ b.2)) && rising rest

/-- The points of R124. [DEDUCED, log 46] -/
def checkOcv (c : Chip) (s : Fin 4) : List Detail :=
  let l := ocvWords c s
  need (rising l && (l.head?.map (·.1)) == some 0 && (l.getLast?.map (·.1)) == some 10000) .consistency

/-- A string's binding (R123, R130, R278): its rail, its chemistry, and the states in which it may change.
[DEDUCED, log 46] -/
def checkBinding (old c : Chip) (s : Fin 4) : List Detail :=
  let st := old.strs[s].state
  let same := num old (kStrRail s) == num c (kStrRail s) && num old (kStrChemistry s) == num c (kStrChemistry s) &&
    num old (kStrCells s) == num c (kStrCells s) && num old (kStrRatedCapacity s) == num c (kStrRatedCapacity s)
  need (same || !(st == .closing || st == .inService || st == .fallow)) .targetState ++
  match strRail c s with
  | none => []
  | some r =>
    need (railType c r == 2 && boundStrings c r == 1 && nat c (kStrChemistry s) != 0) .consistency ++ checkOcv c s

/-- The strings bound to a rail still find one of type BIDIR (R130). -/
def checkBound (c : Chip) (r : Fin 16) : List Detail := need (boundStrings c r == 0 || railType c r == 2) .consistency

/-- A string's charge settings (R130). -/
def checkCharge (c : Chip) (s : Fin 4) : List Detail :=
  need (num c (kStrFloatVoltage s) ≤ num c (kStrAbsorbVoltage s) && num c (kStrAbsorbVoltage s) ≤ num c (kStrCellVmax s) &&
    num c (kStrChargeTempMin s) + 80 ≤ num c (kStrChargeTempMax s)) .consistency

/-- A power-path port (R182). -/
def checkPp (old c : Chip) (n : Fin 8) : List Detail :=
  let gain := num c (kPpOrVdsGain n)
  need (nat old (kPpRole n) == nat c (kPpRole n) || old.pps[n].state == .off) .targetState ++
  need (2 * num c (kPpCurrentLimit n) ≤ num c (kPpIScale n) && 0 < num c (kPpUvRise n) - num c (kPpUvHyst n) &&
    num c (kPpUvRise n) < num c (kPpOvFall n) && num c (kPpOrFwdDrop n) < num c (kPpOrOnDrop n) &&
    (nat c (kPpRole n) != 2 || (gain * num c (kPpOrOnDrop n) ≤ 240000 && gain * 100 ≤ 240000))) .consistency

/-- An enabled window monitor (R196), its codes with the margin that they follow (R211). [DEDUCED, log 50] -/
def checkWm (c : Chip) (m : Fin 64) : List Detail :=
  let unbound := nat c (kWmRail m) == 0xFF
  let code (t : Int) : Rat := withMargin t (followedMargin c m) * 1024 / (num c (kWmScale m) : Rat)
  if !flag c (kWmEnable m) then []
  else
    need ((code (num c (kWmUvFault m))).ceil ≤ 1023 && (code (num c (kWmOvFault m))).floor ≤ 1023) .range ++
    need (num c (kWmUvFault m) ≤ num c (kWmUvWarn m) && num c (kWmUvWarn m) < num c (kWmOvWarn m) &&
      num c (kWmOvWarn m) ≤ num c (kWmOvFault m) && num c (kWmUvFault m) < num c (kWmOvFault m) &&
      !(flag c (kWmOvKill m) && (unbound || nat c (kWmMode m) != 0)) && !(flag c (kWmFollowMargin m) && unbound)) .consistency

/-- A target of the sequencer exists (Table 6.4). -/
def seqTargetOk (down : Bool) (a : Nat) : Bool :=
  let t := field a 28 4
  let n := field a 24 4
  if t = 0 then true
  else if t = 1 then true
  else if t = 2 || t = 3 || t = 5 then decide (n < 8)
  else if t = 4 then decide (n < 4) && !down
  else false

/-- A sequencer table (R205) of a length, its words given by a function. -/
def checkSeq (down : Bool) (len : Nat) (word : Nat → Nat) : List Detail :=
  let l := (List.range len).map word
  need (len ≤ 64 && (l.all fun a => seqTargetOk down a && wnumOk (field a 20 4) (field a 0 8)) &&
    distinct ((l.filter fun a => field a 28 4 != 0).map fun a => a / 2 ^ 24)) .sequence

/-! ### The mills -/

/-- Every rail that a mill hosts or owns is OFF. -/
def millRailsOff (c : Chip) (m : Fin 16) : Bool := (railsOf c m).all fun r => c.rails[r].state == .off

/-- A trigger word's parameter fits its kind (Table 7.6). [DEDUCED, log 63] -/
def trigOk (w : Nat) : Bool :=
  let p := w % 4096
  match w / 4096 with
  | 0 => p == 0
  | 1 => decide (p < 32)
  | 2 => decide (p < 140)
  | 3 => p == 0
  | 4 => p == 0
  | 5 => decide (p < 16)
  | _ => false

/-- A word of `MillUnit` names no unit, or one of Table 7.8 with its instance. [DEDUCED, log 63] -/
def unitOk (c : Chip) (w : Nat) : Bool :=
  let code := w / 256
  let n := w % 256
  w == 0 || ((code == 1 || code == 2) && n < 16 && nat c (kRailType n) == code) || ((3 ≤ code && code ≤ 5) && n == 0)

/-- A mill's own objects (R237). [DEDUCED, log 63] -/
def checkMill (c : Chip) (m : Fin 16) : List Detail :=
  let src := nat c (kMillSource m)
  let units := (List.finRange 4).map fun (k : Fin 4) => nat c (kMillUnit0 m k)
  let trigs := (List.finRange 4).map fun (k : Fin 4) => nat c (kMillTrig m k)
  let len := nat c (kMillCodeLength m)
  let custom := nat c (kMillOwnRails m) != 0 || flag c (kMillOwnTrims m) || trigs.any (· != 0) || len != 0 ||
    ((List.finRange 4).any fun k => nat c (kMillTrigEntry m k) != 0) ||
    !(bytes c (kMillCode m)).isEmpty
  let codeTotal := ((List.finRange 16).map fun (q : Fin 16) => nat c (kMillCodeLength q)).foldl (· + ·) 0
  let entries := (List.finRange 4).all fun k =>
    nat c (kMillTrig m k) / 4096 == 0 || decide (nat c (kMillTrigEntry m k) < len)
  need ((src == 1 || units.all (· == 0)) && !(src == 1 && custom) && (units.all (unitOk c)) && (trigs.all trigOk) &&
    (src != 2 || (entries && (bytes c (kMillCode m)).length == 6 * len)) && (src != 1 || budgetLoad c m ≤ 8000) &&
    codeTotal ≤ 16384) .topology

/-- The source, the units, the triggers and the code of a mill. -/
def placement (c : Chip) (m : Fin 16) : List Nat × List Byte :=
  ([nat c (kMillSource m), nat c (kMillCodeLength m)] ++
    (List.finRange 4).flatMap fun (k : Fin 4) => [nat c (kMillUnit0 m k), nat c (kMillTrig m k), nat c (kMillTrigEntry m k)],
    bytes c (kMillCode m))

/-- A placement changes only while its rails are OFF, and that of BUSSHARE, CHARGE and WELLRATE only in ON-SOURCE with no
fallow window (R237). -/
def checkPlacement (old c : Chip) (m : Fin 16) : List Detail :=
  let moved := [3, 4, 5].any fun code => hostOf old code 0 != hostOf c code 0
  need ((placement old m == placement c m || (millRailsOff old m && millRailsOff { c with rails := old.rails } m)) &&
    (!moved || (old.bus.state == .onSource && old.batt.fallowString.isNone))) .targetState

/-- A slot of a stock unit (R235, R236). -/
def stockSlot (c : Chip) (m : Fin 16) (slot : Nat) : Bool :=
  nat c (kMillSource m) == 1 && nat c (kMillUnit0 m (slot / 64)) != 0

/-! ### The ports, the Watch and the Almanac -/

/-- A source that may have a resettable owner (R359, Tables 11.1, 11.4). -/
def mayOwn (i : Nat) : Bool :=
  (32 ≤ i && i ≤ 47) || i == 57 || (68 ≤ i && i ≤ 71) || (156 ≤ i && i ≤ 177) || i == 182 || i == 183 || i == 195 ||
    (199 ≤ i && i ≤ 218) || (221 ≤ i && i ≤ 224)

/-- `SrcReaction` (R359). -/
def checkReaction (c : Chip) (i : Nat) : List Detail :=
  let v := nat c (kSrcReaction i)
  need (mayOwn i || !(hasBit v 2 || hasBit v 10)) .consistency

/-- The thermal levels (R374). -/
def checkTherm (c : Chip) : List Detail :=
  let top : Int := if c.fuses.grade = 2 then 2080 else 1920
  let down := num c kThermShutdownLevel
  let warn := num c kThermWarnLevel
  need (down ≤ top && 1280 ≤ down && 960 ≤ warn && warn + 80 ≤ down) .consistency

/-- `ThermMask` (R378). -/
def checkMask (c : Chip) : List Detail :=
  need (lifeCycle c == .service) .lifecycle ++
  need ((countFin 12 fun k => hasBit (nat c kThermMask) k) ≤ 4) .consistency

/-- An entry of a snapshot list (R386). -/
def checkSnap (v : Nat) : List Detail :=
  need (v == 0 || match objOf (v / 256) with
    | some d => d.access != .wo && d.type.size.isSome
    | none => false) .consistency

/-- A PDO mapping (R299): it changes only while its PDO is invalid, an entry written names what the PDO can carry, or 0, and
so do those within the count, in 64 bytes.
[PRESUMED, log 82] -/
def checkMapping (old c : Chip) (tx : Bool) (k : Fin 16) (j : Nat) : List Detail :=
  let cob := if tx then nat old (kTpdoCobId k) else nat old (kRpdoCobId k)
  let n := if tx then nat c (kTpdoMapCount k) else nat c (kRpdoMapCount k)
  let l := mapEntries c tx k n
  let entry := (mapEntries c tx k j).getLast?.getD 0
  need (hasBit cob 31) .targetState ++
  need (entry == 0 || mappable tx entry) .consistency ++
  need ((l.all (mappable tx)) && (l.map fun v => v % 256).foldl (· + ·) 0 ≤ 512) .consistency

/-! ### All of them -/

/-- The object governs derived coefficients (R242). [DEDUCED, log 74] -/
def governs (k : Key) : Bool :=
  let i := k / 256
  i == 0x2C10 || i == 0x2C11 || i == 0x2C20 || i == 0x2C50 || indexIn k 0x2D00 0x2D7F || indexIn k 0x3000 0x40FF ||
    indexIn k 0x4100 0x43FF || (indexIn k 0x5000 0x5FFF && i % 256 == 0)

/-- Every check that bears on an object (R277), with the chip before and the chip that would be; the first counts.
[DEDUCED, log 63, 74] -/
def crossChecks (old c : Chip) (k : Key) : List Detail :=
  let i := k / 256
  let j := k % 256
  let own :=
    if k = kHamletParkMask then checkPark c
    else if 0x2D00 ≤ i && i < 0x2D80 then
      checkRm c (Fin.ofNat 8 ((i - 0x2D00) / 16)) ++ (if j = 1 then checkHosts c ++ checkLoads c else [])
    else if i = 0x2C18 || k = kWellBusVmin || k = kChargeRegLevel || k = kChargeRegBand then checkLevels c
    else if 0x4400 ≤ i && i < 0x4600 then checkPhase c (Fin.ofNat 32 ((i - 0x4400) / 16))
    else if 0x3000 ≤ i && i < 0x4000 then
      let r := Fin.ofNat 16 ((i - 0x3000) / 256)
      (if i % 256 = 0 && (j ≤ 2 || j = 8 || j = 19) then checkRail old c r ++ checkBound c r else []) ++
        (if i % 256 = 1 || j = 5 then checkLoop c r else []) ++
        (if i % 256 = 0 && (j ≤ 2 || j = 5) then checkLoads c else [])
    else if 0x4000 ≤ i && i < 0x4400 then
      let s := Fin.ofNat 4 ((i - 0x4000) / 256)
      (if i % 256 = 0 && j ≤ 4 then checkBinding old c s ++
          (if j = 1 then (bindingRails old c s).flatMap (checkRail old c) ++ checkHosts c ++ checkLoads c else [])
        else if i % 256 = 3 && j ≤ 32 then checkOcv c s else []) ++
        (if (i % 256 = 0 && (j = 2 || j = 10)) || i % 256 = 1 then checkCharge c s else [])
    else if 0x2D80 ≤ i && i < 0x2E00 then checkPp old c (Fin.ofNat 8 ((i - 0x2D80) / 16))
    else if 0x2A00 ≤ i && i < 0x2A40 then checkWm c (Fin.ofNat 64 (i - 0x2A00))
    else if i = 0x2910 then
      (List.finRange 64).flatMap fun (m : Fin 64) => if nat c (kWmRail m) == j - 1 then checkWm c m else []
    else if i = 0x2900 || k = kSeqUpLength then checkSeq false (nat c kSeqUpLength) fun j => nat c (kSeqUpWordA j)
    else if i = 0x2902 || k = kSeqDownLength then checkSeq true (nat c kSeqDownLength) fun j => nat c (kSeqDownWordA j)
    else if 0x5000 ≤ i && i < 0x6000 then
      let m := Fin.ofNat 16 ((i - 0x5000) / 256)
      if i % 256 ≤ 1 then
        checkPlacement old c m ++ checkMill c m ++ checkHosts c ++
          need ((List.finRange 16).all fun r => railType c r == 0 || loopHosts c r == 1) .topology
      else if i % 256 = 2 || i % 256 = 4 then need (!stockSlot c m (j - 1)) .topology
      else if i % 256 = 3 || i % 256 = 5 then need (!stockSlot c m (127 + j)) .topology
      else []
    else if 0x2700 ≤ i && i < 0x2800 then (if j = 5 then checkReaction c (i - 0x2700) else [])
    else if k = kThermWarnLevel || k = kThermShutdownLevel then checkTherm c
    else if k = kThermMask then checkMask c
    else if 0x2820 ≤ i && i < 0x2840 then checkSnap (nat c k)
    else if 0x1600 ≤ i && i < 0x1610 then checkMapping old c false (Fin.ofNat 16 (i - 0x1600)) j
    else if 0x1A00 ≤ i && i < 0x1A10 then checkMapping old c true (Fin.ofNat 16 (i - 0x1A00)) j
    else []
  own ++ (if governs k then need (derivable c) .shift else [])

/-- The status with which a direct write is refused for a detail (R277). [DEDUCED, log 74] -/
def Detail.direct : Detail → Status
  | .targetState | .locked => .stateConflict
  | .lifecycle => .lifecycle
  | .range => .range
  | .access => .access
  | .origin => .origin
  | .type => .type
  | .none | .consistency | .topology | .sequence | .shift | .time | .spoiled | .notJoined | .nodes | .noVote | .noArmed =>
    .consistency

/-- The first failing write of a list, with its place and detail, in the chip that would be (R277). [DEDUCED, log 74] -/
def firstFailure (old new : Chip) : Nat → List (Key × Val) → Option (Detail × Nat)
  | _, [] => none
  | n, (k, _) :: rest =>
    match crossChecks old new k with
    | d :: _ => some (d, n)
    | [] => firstFailure old new (n + 1) rest

end Sys2Proof.Machine
end

