-- ==== Sys2Proof/Machine/Bus.lean ====
section
/-! DEFINITION. The plant bus: rectifiers, taps, BUSSHARE, plant sharing, the well, hand-over and hand-back
(R33 to R62, R241). -/

namespace Sys2Proof.Machine

/-! ### Rectifiers -/

/-- The port leaves the active set (R45): its integrator is cleared and FALLBACK sets at once. -/
def rmLeave (n : Fin 8) (c : Chip) : Chip :=
  if c.rms[n].fallback then c
  else
    let c := setRm n (fun r => { r with fallback := true, integ := 0 }) c
    let c := setBus (fun b => { b with fracPending := true }) c
    when ((List.finRange 8).all fun k => c.rms[k].fallback) (setBus fun b => { b with iv := 0 }) c

/-- The port may be in the active set (R43), FALLBACK apart. -/
def rmEligible (c : Chip) (n : Fin 8) : Bool :=
  flag c (kRmFitted n) && c.rms[n].en && !c.rms[n].alarm && !c.rms[n].shareOor && !c.rms[n].shareStale

/-- `RMn_EN` and ALARM follow their conditions (R36, R37), with an event at the onset of an alarm. An unfitted port drives
`RMn_TRIM` low; one that becomes fitted drives its neutral code (R36, R45). -/
def rmRefresh (n : Fin 8) (c : Chip) : Chip :=
  let en := flag c (kRmFitted n) && flag c (kRmEnableCmd n) && c.rms[n].seqEn
  let alarm := en && c.rms[n].alarmIn == flag c (kRmAlarmActiveHigh n)
  let onset := alarm && !c.rms[n].alarm
  let fit := flag c (kRmFitted n)
  let c := setRm n (fun r => { r with
    en := en, alarm := alarm, trimDriven := fit
    trim := if !fit then 0 else if r.trimDriven then r.trim else BitVec.ofNat 16 (nat c (kRmTrimNeutral n)) }) c
  let c := when onset (raise (48 + n) 1 0) c
  when (!rmEligible c n) (rmLeave n) c

/-- The code at which a port's trim rests: neutral, and 0, which is a low pin, on an unfitted port (R36, R47). -/
def restTrim (c : Chip) (n : Fin 8) : BitVec 16 := if flag c (kRmFitted n) then BitVec.ofNat 16 (nat c (kRmTrimNeutral n)) else 0

/-- Every trim goes to its neutral code at once; FALLBACK sets and the integrators of BUSSHARE clear (R47). -/
def trimsNeutral (c : Chip) : Chip :=
  let c := each (List.finRange 8) (fun n c =>
    setRm n (fun r => { r with trim := restTrim c n, fallback := true, integ := 0 }) c) c
  setBus (fun b => { b with iv := 0, fracPending := true }) c

/-- SHARE_OVERRANGE (R35): the input lies above 2.45 V. [DEDUCED, log 18] -/
def shareOverrange (n : Fin 8) (c : Chip) : Chip :=
  if (chanOf c (48 + n)).pin ≤ 2450000 then c else
  let onset := !c.rms[n].shareOor
  let c := setRm n (fun r => { r with shareOor := true }) c
  let c := when onset (raise (48 + n) 2 0) c
  rmLeave n c

/-- The share channel of a rectifier fails or passes its pilot check (R35). -/
def shareStale (n : Fin 8) (failed : Bool) (c : Chip) : Chip :=
  let onset := failed && !c.rms[n].shareStale
  let c := setRm n (fun r => { r with shareStale := failed }) c
  let c := when onset (raise (48 + n) 3 0) c
  when failed (rmLeave n) c

/-- RM_ALARM_DEGLITCHED (R37): the stable level of `RMn_ALM`. -/
def rmAlarmDeglitched (n : Fin 8) (level : Bool) (c : Chip) : Chip :=
  rmRefresh n (setRm n (fun r => { r with alarmIn := level }) c)

/-! ### Taps -/

/-- TAP_VALIDITY_CHANGE (R40): the judgement of 10 ms, which holds for a tap only if its latest sample lies within
`BusTapTolerance` of the median, and only once the first 10 ms of samples are in. [DESIGN CHOICE, log 20] -/
def tapValidityChange (k : Fin 4) (inTolerance : Bool) (c : Chip) : Chip :=
  if !tapsSettled c then c
  else
    let c := refreshTap (setBus (fun b => { b with tapOk := b.tapOk.set k (inTolerance && tapWithin c k) }) c)
    when (hasBit (nat c kBusTapFitted) k && !tapValid c k) (raise 58 1 k) c

/-- NO_VALID_TAP_REPEAT (R42). -/
def noValidTapRepeat (c : Chip) : Chip :=
  when (tapsSettled c && !anyTapValid c) (raise 58 2 0) c

/-- `BusVoltage` lies outside the range from `WellBusVmin` to `BusOvLevel`, both fractions of `BusTarget` (R48). -/
def busOutside (c : Chip) : Bool :=
  let v := ofQ 22 c.bus.voltage
  let t := hundredMicro (num c kBusTarget)
  decide (v < t * pct (num c kWellBusVmin)) || decide (t * pct (num c kBusOvLevel) < v)

/-- BUS_OUT_OF_RANGE (R48). -/
def busOutOfRange (c : Chip) : Chip := when (live c && busOutside c) (raise 56 1 (busHundredMicro c)) c

/-! ### BUSSHARE -/

/-- A trim code that moves towards another by no more than `BusTrimSlew` (R43, R45). [DESIGN CHOICE, log 10] -/
def slewTrim (c : Chip) (old new : Int) : Int :=
  let d : Int := num c kBusTrimSlew
  clampInt (old - d) (old + d) new

/-- A port outside the active set moves to neutral at the slew limit (R42, R45). -/
def trimHome (n : Fin 8) (c : Chip) : Chip :=
  setRm n (fun r => { r with
    trim := BitVec.ofInt 16 (slewTrim c r.trim.toNat (num c (kRmTrimNeutral n))), writtenAt := c.clock.us }) c

/-- A port that is eligible joins the active set from its neutral code (R45). -/
def rmJoin (n : Fin 8) (c : Chip) : Chip :=
  if c.rms[n].fallback && rmEligible c n then
    let c := setRm n (fun r => { r with
      fallback := false, integ := 0, trim := BitVec.ofNat 16 (nat c (kRmTrimNeutral n)) }) c
    setBus (fun b => { b with fracPending := true }) c
  else c

/-- The trims are held at neutral under R47 by the bus state. -/
def trimsHeld (c : Chip) : Bool :=
  match c.bus.state with
  | .handover | .onBattery | .qualifying => true
  | .onSource | .handback => false

/-- The law of BUSSHARE over the active set (R43), with the coefficients of the unit that hosts it (Table 2.3); iv stays
clear while the set is empty (R45).
[DESIGN CHOICE, log 10] -/
def busshareLaw (u : Unit4) (c : Chip) : Chip :=
  let k := coef c u
  let vreg := ofQ 22 c.bus.voltage
  let ev := hundredMicro (num c kBusTarget) + c.bus.plantTrim - vreg
  let iv := toQ 22 (clampRat (-(k 4)) (k 4) (ofQ 22 c.bus.iv + k 1 * ev))
  let uv := k 0 * ev + ofQ 22 iv
  let active := (List.finRange 8).filter fun n => !c.rms[n].fallback
  let cur (n : Fin 8) : Rat := val c (48 + n)
  let itot := (active.map cur).foldl (· + ·) 0
  let c := setBus (fun b => { b with iv := if active.isEmpty then 0 else iv }) c
  each active (fun n c =>
    let es := k (8 + n) * itot - cur n
    let is := toQ 22 (clampRat (-(k 5)) (k 5) (ofQ 22 c.rms[n].integ + k 2 * es))
    let v := uv + ofQ 22 is + k 3 * (val c (56 + nat c (kRmTap n)) - vreg)
    let code := roundRat ((num c (kRmTrimNeutral n) : Rat) + v * 1000000 / (num c (kRmTrimGain n) : Rat))
    let code := clampInt (num c (kRmTrimMin n)) (num c (kRmTrimMax n)) code
    setRm n (fun r => { r with
      integ := is, trim := BitVec.ofInt 16 (slewTrim c r.trim.toNat code), writtenAt := c.clock.us }) c) c

/-- One run of BUSSHARE (R42, R43, R45, R47). -/
def busshareUnit (u : Unit4) (c : Chip) : Chip :=
  if trimsHeld c then trimsNeutral c
  else if !anyTapValid c then
    let c := each (List.finRange 8) rmLeave c
    each (fittedRms c) trimHome c
  else
    let c := each (fittedRms c) rmJoin c
    let c := busshareLaw u c
    each ((fittedRms c).filter fun n => c.rms[n].fallback) trimHome c

/-- TRIM_STALE_NEUTRAL (R47). -/
def trimStaleNeutral (c : Chip) : Chip := when (live c) trimsNeutral c

/-! ### Plant sharing -/

/-- The SHARE payload of this shelf (Table 2.5). -/
def sharePayload (c : Chip) : List Byte :=
  leBytes 1 (nat c kShareGroup) ++ leBytes 1 c.bus.state.number ++
    leBytes 2 (bit c.well.stale 0 + bit (decide (0 < c.cap.stage)) 1) ++ toLe 4 c.cap.budget ++ toLe 4 c.cap.demand ++
    leBytes 4 c.well.published ++ leBytes 4 c.well.rideNow

/-- SHARE_FRAME_SEND (R49, R338): by both ports, from the unit that owns the shelf. -/
def shareFrameSend (c : Chip) : Chip :=
  if nat c kShareGroup != 0 && drives c && c.lane.state == .member then laneSend true true 0x7FF 1 (sharePayload c) c
  else c

/-- The members of the group heard within `ShareTimeout` (R50). -/
def youngMembers (c : Chip) : List Member :=
  c.bus.members.filter fun m => decide (c.clock.us < m.heardAt + nat c kShareTimeout * 1000)

/-- PLANT_TRIM_UPDATE (R50, R51). A utilisation whose budget is 0 is a free value. With `ShareGroup` 0 the trim keeps its
last value, which the laws go on adding: the rules give it no other. [DESIGN CHOICE, log 8; DEDUCED, log 22] -/
def plantTrimUpdate (c : Chip) : Chip :=
  if nat c kShareGroup == 0 || !drives c || c.bus.state == .handover then c
  else if c.bus.silent then
    setBus (fun b => { b with rampLeft := b.rampLeft - 1, plantTrim := b.rampFrom * (b.rampLeft - 1 : Nat) / 1000 }) c
  else
    let ms := youngMembers c
    let dem : Rat := (c.cap.demand + (ms.map (·.demand)).foldl (· + ·) 0 : Int)
    let bud : Rat := (c.cap.budget + (ms.map (·.budget)).foldl (· + ·) 0 : Int)
    let band := hundredMicro (num c kShareBand)
    if c.cap.budget = 0 || bud = 0 then
      takeFree (setBus (fun b => { b with plantTrim := clampRat (-band) band (ofQ 22 (freeWord c)) }) c)
    else
      let step := (num c kPlantShareKi : Rat) / 1000 * (dem / bud - (c.cap.demand : Rat) / c.cap.budget) * 100 / 1000
      setBus (fun b => { b with plantTrim := clampRat (-band) band (b.plantTrim + step) }) c

/-- SHARE_FRAME_RECEIVE (R50, R51): frames of another group are ignored. -/
def shareFrameReceive (node : Fin 1024) (p : SharePayload) (c : Chip) : Chip :=
  if !laneMember c || nat c kShareGroup == 0 || p.group.toNat != nat c kShareGroup || node.val == c.lane.nodeIdNow then c
  else setBus (fun b => { b with
    members := { node := node, budget := p.budget, demand := p.demand, heardAt := c.clock.us } ::
      b.members.filter (·.node != node)
    silent := false }) c

/-- SHARE_GROUP_SILENT (R51). [DEDUCED, log 22] -/
def shareGroupSilent (c : Chip) : Chip :=
  if nat c kShareGroup == 0 || !live c then c
  else raise 60 1 0 (setBus (fun b => { b with silent := true, rampFrom := b.plantTrim, rampLeft := 1000 }) c)

/-! ### The well -/

/-- A quantity in whole units, as an UNSIGNED32 reads it. -/
def floorU32 (q : Rat) : Nat := min 0xFFFFFFFF q.floor.toNat

/-- A ride-through figure (R54): energy divided by load in mW, FFFFFFFFh for a load of 0 or less. -/
def rideTime (energy : Nat) (loadMw : Rat) : Nat :=
  if loadMw ≤ 0 then 0xFFFFFFFF else floorU32 ((energy : Rat) * 1000 / loadMw)

/-- The well objects are written from the two parts (R53, R54). Between two estimator updates the largest single string
contribution is that of the last update, while WELLRATE bridges the string part itself. [DEDUCED, log 139] -/
def publishWell (busPart : Rat) (c : Chip) : Chip :=
  let w := c.well
  let total := floorU32 (busPart + w.stringJ)
  setWell (fun w => { w with
    published := total
    publishedBus := floorU32 busPart
    publishedString := floorU32 w.stringJ
    publishedLessOne := floorU32 (busPart + w.stringJ - w.largestJ)
    rideNow := rideTime total (w.load * 1000)
    rideDesign := rideTime total (num c kWellDesignLoad : Rat) }) c

/-- One run of WELLRATE (R241): demand on channel 158, and the fast part of the well. -/
def wellrateUnit (u : Unit4) (c : Chip) : Chip :=
  let k := coef c u
  let vb := ofQ 22 c.bus.voltage
  let pr := vb * ((fittedRms c).map fun n => val c (48 + n.val)).foldl (· + ·) 0
  let powers := ((List.finRange 4).filter (available c)).map fun s => val c (64 + s.val) * val c (68 + s.val)
  let ps := powers.foldl (· + ·) 0
  let pd := (powers.map fun p => ratMax 0 (-p)).foldl (· + ·) 0
  let d := toQ 8 (pr + pd)
  let c := noteSat u (overflows 8 (pr + pd)) (publish 158 d c)
  let gain := Config.filterGain 100 (nat c kWellLoadFilter * 1000000)
  let c := setWell (fun w => { w with
    stringJ := w.stringJ + k 2 * k 3 * ps
    busJ := ratMax 0 (k 0 * vb * vb - k 1)
    load := w.load + gain * (ofQ 8 d - w.load)
    runs := (w.runs + 1) % 10 }) c
  if c.well.runs = 0 then
    publishWell c.well.busJ (setWell (fun w => { w with stale := false }) c)
  else c

/-- WELL_STRING_REPLACE (R53): the string part from the estimator. -/
def wellStringReplace (c : Chip) : Chip :=
  if !live c then c
  else
    let parts := ((List.finRange 4).filter (wellCounts c)).map fun s => (c.ests[s].usableJ : Rat) * pct (num c kWellConvEff)
    setWell (fun w => { w with
      stringJ := parts.foldl (· + ·) 0, largestJ := parts.foldl ratMax 0 }) c

/-- WELL_STALE (R55). -/
def wellStale (c : Chip) : Chip :=
  if !live c || c.well.stale then c else raise 57 1 0 (setWell (fun w => { w with stale := true }) c)

/-- WELL_REEVE_UPDATE (R55): the bus part taken as 0 J. -/
def wellReeveUpdate (c : Chip) : Chip := when (live c && c.well.stale) (publishWell 0) c

/-! ### Hand-over and hand-back -/

/-- The identification of the bus capacitance at a hand-over (R56), in µF. -/
def identify (c : Chip) : Chip :=
  let t := hundredMicro (num c kBusTarget)
  let v1 := t * 99 / 100
  let v2 := t * pct (num c kHandoverLevel)
  let d : Rat := (c.bus.triggerDemand : Rat) / 1000
  if c.bus.fallTime < 200 || 10 * c.bus.triggerDemand < c.bus.triggerBudget || v1 * v1 - v2 * v2 ≤ 0 then c
  else
    let cid := floorU32 (roundRat (2 * d * (c.bus.fallTime : Rat) / (v1 * v1 - v2 * v2)))
    let low := decide ((cid : Rat) < (nat c kWellCapacitance : Rat) * (1 - pct (num c kWellCapTolerance)))
    let c := setWell (fun w => { w with capMeasured := cid, useMeasured := low, capLow := low }) c
    let c := setHampers (fun h => { h with derive := true }) c
    when low (raise 63 1 cid) c

/-- Every available string has its rail regulating in DISCHARGE (R60, R62). -/
def allDischarging (c : Chip) : Bool :=
  ((List.finRange 4).filter (available c)).all fun s =>
    match strRail c s with
    | none => false
    | some r => c.rails[r].state == .regulate && railMode c r == .discharge

/-- HANDOVER_COMPLETE (R60, R62, R56): the strings regulate, none is available, or 2 ms have passed. NOSTRING, for which the
rules give no end, clears at the end of a later hand-over that finds its strings regulating. [DEDUCED, log 139] -/
def handoverComplete (timedOut : Bool) (c : Chip) : Chip :=
  let nobody := !((List.finRange 4).any (available c))
  if c.bus.state != .handover || !drives c || !(timedOut || nobody || allDischarging c) then c
  else
    let lost := nobody || !allDischarging c
    let c := identify c
    let c := setWell (fun w => { w with noString := lost }) c
    let c := when lost (raise 62 1 0) c
    setBus (fun b => { b with
      handovers := (b.handovers + 1) % 2 ^ 32
      state := if sourceGood c then .qualifying else .onBattery
      since := c.clock.us }) c

/-- SOURCE_BECOMES_GOOD (R60). -/
def sourceBecomesGood (c : Chip) : Chip :=
  if c.bus.state == .onBattery && drives c && sourceGood c then
    setBus (fun b => { b with state := .qualifying, since := c.clock.us }) c
  else c

/-- SOURCE_STOPS_GOOD (R60). -/
def sourceStopsGood (c : Chip) : Chip :=
  if c.bus.state == .qualifying && drives c && !sourceGood c then
    setBus (fun b => { b with state := .onBattery, since := c.clock.us }) c
  else c

/-- SOURCE_QUALIFIED (R60, R134): HANDBACK begins; every string in FLOAT starts its charge in CC, but for one with
WDFALLBACK. -/
def sourceQualified (c : Chip) : Chip :=
  if c.bus.state == .qualifying && drives c && sourceGood c then
    let c := setBus (fun b => { b with state := .handback, since := c.clock.us, fracPending := true }) c
    each ((List.finRange 4).filter fun s => c.strs[s].phase == .float) startCharge c
  else c

/-- HANDBACK_RAMP_END (R60, R136): xb clears at ON-SOURCE. -/
def handbackRampEnd (c : Chip) : Chip :=
  if c.bus.state == .handback && drives c then
    setBatt (fun b => { b with xb := 0 }) (setBus (fun b => { b with state := .onSource, since := c.clock.us }) c)
  else c

/-! ### The commands -/

/-- SHARE_OVERRANGE (R35) answers the state with its effect. -/
def execShareOverrange (n : Fin 8) (s : State) : Host.Outcome State Fault Refusal := answer s (shareOverrange n s.chip)

/-- RM_ALARM_DEGLITCHED (R37) answers the state with its effect. -/
def execRmAlarmDeglitched (n : Fin 8) (level : Bool) (s : State) : Host.Outcome State Fault Refusal :=
  answer s (rmAlarmDeglitched n level s.chip)

/-- TAP_VALIDITY_CHANGE (R40) answers the state with its effect. -/
def execTapValidityChange (k : Fin 4) (inTolerance : Bool) (s : State) : Host.Outcome State Fault Refusal :=
  answer s (tapValidityChange k inTolerance s.chip)

/-- NO_VALID_TAP_REPEAT (R42) answers the state with its effect. -/
def execNoValidTapRepeat (s : State) : Host.Outcome State Fault Refusal := answer s (noValidTapRepeat s.chip)

/-- TRIM_STALE_NEUTRAL (R47) answers the state with its effect. -/
def execTrimStaleNeutral (s : State) : Host.Outcome State Fault Refusal := answer s (trimStaleNeutral s.chip)

/-- BUS_OUT_OF_RANGE (R48) answers the state with its effect. -/
def execBusOutOfRange (s : State) : Host.Outcome State Fault Refusal := answer s (busOutOfRange s.chip)

/-- SHARE_FRAME_SEND (R49) answers the state with its effect. -/
def execShareFrameSend (s : State) : Host.Outcome State Fault Refusal := answer s (shareFrameSend s.chip)

/-- PLANT_TRIM_UPDATE (R50) answers the state with its effect. -/
def execPlantTrimUpdate (s : State) : Host.Outcome State Fault Refusal := answer s (plantTrimUpdate s.chip)

/-- SHARE_FRAME_RECEIVE (R50) answers the state with its effect. -/
def execShareFrameReceive (node : Fin 1024) (p : SharePayload) (s : State) : Host.Outcome State Fault Refusal :=
  guarded (p.fits) s (shareFrameReceive node p s.chip)

/-- SHARE_GROUP_SILENT (R51) answers the state with its effect. -/
def execShareGroupSilent (s : State) : Host.Outcome State Fault Refusal := answer s (shareGroupSilent s.chip)

/-- WELL_STRING_REPLACE (R53) answers the state with its effect. -/
def execWellStringReplace (s : State) : Host.Outcome State Fault Refusal := answer s (wellStringReplace s.chip)

/-- WELL_STALE (R55) answers the state with its effect. -/
def execWellStale (s : State) : Host.Outcome State Fault Refusal := answer s (wellStale s.chip)

/-- WELL_REEVE_UPDATE (R55) answers the state with its effect. -/
def execWellReeveUpdate (s : State) : Host.Outcome State Fault Refusal := answer s (wellReeveUpdate s.chip)

/-- HANDOVER_COMPLETE (R62) answers the state with its effect. -/
def execHandoverComplete (timedOut : Bool) (s : State) : Host.Outcome State Fault Refusal :=
  answer s (handoverComplete timedOut s.chip)

/-- SOURCE_BECOMES_GOOD (R60) answers the state with its effect. -/
def execSourceBecomesGood (s : State) : Host.Outcome State Fault Refusal := answer s (sourceBecomesGood s.chip)

/-- SOURCE_STOPS_GOOD (R60) answers the state with its effect. -/
def execSourceStopsGood (s : State) : Host.Outcome State Fault Refusal := answer s (sourceStopsGood s.chip)

/-- SOURCE_QUALIFIED (R60) answers the state with its effect. -/
def execSourceQualified (s : State) : Host.Outcome State Fault Refusal := answer s (sourceQualified s.chip)

/-- HANDBACK_RAMP_END (R60) answers the state with its effect. -/
def execHandbackRampEnd (s : State) : Host.Outcome State Fault Refusal := answer s (handbackRampEnd s.chip)

end Sys2Proof.Machine
end

