-- ==== Sys2Proof/Machine/PowerPath.lean ====
section
/-! DEFINITION. Power-path ports (R163 to R185): windows, insertion, ramp, the fault timer, trips and retry, ORING,
shedding and power-good. -/

namespace Sys2Proof.Machine

/-- `PpRole` (Table 5.4): 0 unused, 1 FEED, 2 ORING, 3 LOAD. -/
def ppRole (c : Chip) (n : Fin 8) : Nat := nat c (kPpRole n)

/-- The port is FEED or LOAD. -/
def ppLimits (c : Chip) (n : Fin 8) : Bool := ppRole c n == 1 || ppRole c n == 3

/-- Both windows are satisfied (R169). -/
def windowsOk (p : Pp) : Bool := p.uvOk && p.ovOk

/-- The port's start condition (R168). -/
def ppStartCond (c : Chip) (n : Fin 8) : Bool := startRule c (flag c (kPpEnable n)) c.seq.ppReached[n] 2 n

/-- The gate goes to code 0 and `PPn_FOFF` high; PG is withdrawn and the fault timer stops. -/
def ppOff (n : Fin 8) (c : Chip) : Chip :=
  setPp n (fun p => { p with
    gate := 0, foff := true, pg := false, pgDefer := false, pgCount := 0, pgSince := none, limiting := false
    timer := false, count := 0, idle := 0 }) c

/-- Entry to WAIT-INPUT with its windows unsatisfied (R169). -/
def ppWait (n : Fin 8) (c : Chip) : Chip :=
  setPp n (fun p => { p with state := .waitInput, uvOk := false, ovOk := false }) c

/-- A staged role holds the port in OFF (R278). -/
def ppHeld (c : Chip) (n : Fin 8) : Bool := staged c fun k => k == kPpRole n

/-- The start condition acts (Table 5.2): `PpRetriesLeft` is loaded (R175). In BLANK no port leaves OFF (Table 14.10).
[DEDUCED, log 52] -/
def ppStart (n : Fin 8) (c : Chip) : Chip :=
  if c.pps[n].state != .off || !ppStartCond c n || ppRole c n == 0 || ppHeld c n || lifeCycle c == .blank then c
  else ppWait n (setPp n (fun p => { p with retriesLeft := nat c (kPpRetryCount n) }) c)

/-- A stop request (Table 5.2). -/
def ppStop (n : Fin 8) (c : Chip) : Chip :=
  if c.pps[n].state == .off then c
  else setPp n (fun p => { p with state := .off, kill := false }) (ppOff n c)

/-- An attempt begins (R171, Table 5.2): `PPn_FOFF` low, code 0, the reference at the sensed output, the timers from 0. -/
def ppRamp (n : Fin 8) (c : Chip) : Chip :=
  setPp n (fun p => { p with
    state := .ramp, foff := false, gate := 0, kill := false, rampAt := c.clock.us, limiting := false, timer := false
    count := 0, idle := 0, pgCount := 0, pgBreak := 0, ref := val c (88 + n), rise := 0 }) c

/-- An ORING port goes on with its drop regulation, to `PpOrFwdDrop`, from code 0 (R176, Table 5.2). -/
def ppOn (n : Fin 8) (c : Chip) : Chip :=
  setPp n (fun p => { p with
    state := .on, foff := false, gate := 0, kill := false, pgCount := 0, pgBreak := 0
    ref := hundredMicro (num c (kPpOrFwdDrop n)) }) c

/-- The off-time after an attempt of some µs (R174), in µs. -/
def retryOffTime (c : Chip) (n : Fin 8) (onTime : Nat) : Nat :=
  let q : Rat := (onTime : Rat) * (10000 / (nat c (kPpRetryDuty n) : Rat) - 1)
  min 3600000000 (max 10000 q.ceil.toNat)

/-- A trip (R172 to R175): counted and recorded; a retry waits, or the port latches. A kill's PG is withdrawn at the next
tick (Table 5.3, case 9). -/
def ppTrip (n : Fin 8) (killed : Bool) (c : Chip) : Chip :=
  let x := c.pps[n]
  let pg := x.pg && killed
  let unlimited := nat c (kPpRetryCount n) = 255
  let latch := !unlimited && x.retriesLeft == 0
  let c := setPp n (fun p => { p with pg := pg }) (ppOff n c)
  let c := setPp n (fun p => { p with
    state := if latch then .latched else .retryWait
    retriesLeft := if unlimited then 255 else p.retriesLeft - 1
    offTime := retryOffTime c n (c.clock.us - p.rampAt)
    trips := satSucc 65535 p.trips }) c
  when latch (raise (72 + n) 2 0) (raise (72 + n) 1 0 c)

/-- The port is in RAMP or ON, in a role with a fault timer. -/
def ppTripable (c : Chip) (n : Fin 8) : Bool :=
  ppLimits c n && (c.pps[n].state == .ramp || c.pps[n].state == .on)

/-- The current at which the comparator kills, in A (R165): twice `PpCurrentLimit`, rounded down to steps of
`PpIScale` / 512. -/
def killThreshold (c : Chip) (n : Fin 8) : Rat :=
  let step : Rat := (num c (kPpIScale n) : Rat) / 1000 / 512
  if step ≤ 0 then 0 else (2 * (num c (kPpCurrentLimit n) : Rat) / 1000 / step).floor * step

/-- The comparator of a port trips at a voltage of its pair, in µV (R165): above the kill threshold in FEED and LOAD, below
−10 mV of forward voltage in ORING. -/
def comparatorTrips (c : Chip) (n : Fin 8) (pair : Int) : Bool :=
  if ppLimits c n then decide (killThreshold c n < (pair : Rat) / 250000 * (num c (kPpIScale n) : Rat) / 1000)
  else ppRole c n == 2 && decide (pair < -10000 * num c (kPpOrVdsGain n))

/-- The comparator is armed (R165, R181): in every state but OFF, in STANDBY and in the safe state as well. -/
def ppArmed (c : Chip) (n : Fin 8) : Bool := c.boot.phase == .running && c.pps[n].state != .off

/-- PP_KILL (R165, R172, R181), with the voltage of the pair in µV. A kill of a port that drives the shelf is a trip: in
RAMP or ON with its retry, and in any other state counted and recorded, since Table 5.2 moves none. [DEDUCED, log 48] -/
def ppKill (n : Fin 8) (pair : Int) (c : Chip) : Chip :=
  if !ppArmed c n || !ppLimits c n || !comparatorTrips c n pair then c
  else
    let c := setPp n (fun p => { p with foff := true, gate := 0, kill := true }) c
    if !drives c then c
    else if ppTripable c n then ppTrip n true c
    else raise (72 + n) 1 0 (setPp n (fun p => { p with trips := satSucc 65535 p.trips }) c)

/-- ORING_REVERSE_TURNOFF (R165, R176, R181), with the voltage of the pair in µV: counted and recorded in every state, and
from ON to REVERSE (Table 5.2). [DEDUCED, log 48] -/
def oringReverseTurnoff (n : Fin 8) (pair : Int) (c : Chip) : Chip :=
  if !ppArmed c n || ppRole c n != 2 || !comparatorTrips c n pair then c
  else
    let c := setPp n (fun p => { p with foff := true, gate := 0 }) c
    if !drives c then c
    else
      let c := raise (72 + n) 3 0 (setPp n (fun p => { p with reverses := satSucc 65535 p.reverses }) c)
      if c.pps[n].state == .on then setPp n (fun p => { p with state := .reverse }) (ppOff n c) else c

/-! ### The tick -/

/-- Step 2 of R167: the windows, by level (R169). -/
def ppWindows (n : Fin 8) (c : Chip) : Chip :=
  let v := roundRat (val c (80 + n) * 10000)
  let ok := passes c (80 + n)
  let up := num c (kPpUvRise n)
  let ov := num c (kPpOvFall n)
  setPp n (fun p => { p with
    uvOk := ok && (if p.uvOk then decide (up - num c (kPpUvHyst n) ≤ v) else decide (up ≤ v))
    ovOk := ok && (if p.ovOk then decide (v ≤ ov + num c (kPpOvHyst n)) else decide (v ≤ ov)) }) c

/-- Step 3 of R167: the fault timer starts, counts, holds and clears (R172). -/
def ppTimer (n : Fin 8) (c : Chip) : Chip :=
  if !ppTripable c n then c
  else setPp n (fun p =>
    if p.limiting then { p with timer := true, count := p.count + 1, idle := 0 }
    else if p.timer && 1000 ≤ p.idle + 1 then { p with timer := false, count := 0, idle := 0 }
    else if p.timer then { p with idle := p.idle + 1 }
    else p) c

/-- A window is lost in RAMP, ON or REVERSE (Table 5.2, R185). -/
def ppWindowLost (n : Fin 8) (c : Chip) : Chip :=
  let event := c.pps[n].state != .reverse
  when event (raise (72 + n) 4 0) (ppWait n (ppOff n c))

/-- A failure of channel 96 + n sends an ORING port to WAIT-INPUT (R176, Table 5.2). -/
def ppSenseLost (n : Fin 8) (c : Chip) : Chip := ppWait n (ppOff n c)

/-- The state has a failure of channel 96 + n in Table 5.2. -/
def oringWatched (st : PpState) : Bool :=
  match st with
  | .insert | .on | .reverse => true
  | _ => false

/-- Step 4 of R167: the transitions of Table 5.2 that the tick's levels decide. -/
def ppTransitions (n : Fin 8) (c : Chip) : Chip :=
  let p := c.pps[n]
  if ppTripable c n && ((p.timer && decide (nat c (kPpFaultTime n) ≤ p.count)) ||
      !passes c (88 + n) || !passes c (96 + n)) then ppTrip n false c
  else if ppRole c n == 2 && oringWatched p.state && !passes c (96 + n) then ppSenseLost n c
  else match p.state with
    | .off => ppStart n c
    | .waitInput =>
      if windowsOk p && (ppRole c n != 2 || passes c (96 + n)) then setPp n (fun p => { p with state := .insert }) c else c
    | .insert => if windowsOk p then c else ppWait n c
    | .ramp | .on | .reverse => if windowsOk p then c else ppWindowLost n c
    | .retryWait | .latched | .shed => c

/-- The output has reached the input minus `PpPgDrop` (R171, R179). -/
def outputUp (c : Chip) (n : Fin 8) : Bool := decide (val c (80 + n) - hundredMicro (num c (kPpPgDrop n)) ≤ val c (88 + n))

/-- The good condition (R179). -/
def ppGood (c : Chip) (n : Fin 8) : Bool :=
  let p := c.pps[n]
  p.state == .on && (ppRole c n == 2 || (p.gate == 4095 && outputUp c n))

/-- PG asserts, or is deferred while the fault timer runs (R179). -/
def ppAssert (n : Fin 8) (c : Chip) : Chip :=
  setPp n (fun p =>
    if p.timer then { p with pgDefer := true }
    else { p with pg := true, pgDefer := false, pgSince := some c.clock.us, pgBreak := 0 }) c

/-- PG is withdrawn (R179). -/
def ppWithdraw (n : Fin 8) (c : Chip) : Chip :=
  setPp n (fun p => { p with pg := false, pgDefer := false, pgCount := 0, pgBreak := 0, pgSince := none }) c

/-- Step 5 of R167: qualification advances or clears; PG asserts, is deferred, or is withdrawn (R179). -/
def ppPg (n : Fin 8) (c : Chip) : Chip :=
  let p := c.pps[n]
  let q := nat c (kPpPgQualTime n)
  if p.pg then
    if p.state != .on then ppWithdraw n c
    else if ppGood c n then setPp n (fun p => { p with pgBreak := 0 }) c
    else if p.timer then c
    else if q ≤ p.pgBreak + 1 then ppWithdraw n c
    else setPp n (fun p => { p with pgBreak := p.pgBreak + 1 }) c
  else if !ppGood c n then setPp n (fun p => { p with pgCount := 0, pgDefer := false }) c
  else
    let c := setPp n (fun p => { p with pgCount := min q (p.pgCount + 1) }) c
    if q ≤ c.pps[n].pgCount then ppAssert n c else c

/-- The power through a LOAD port over the last 10 ms (R177), in mW with the time of each value.
[DESIGN CHOICE, log 27] -/
def ppPower (n : Fin 8) (c : Chip) : Chip :=
  if ppRole c n != 3 then c
  else
    let w := roundRat (val c (88 + n) * val c (96 + n) * 1000)
    setPp n (fun p => { p with
      power := (c.clock.us, w) :: p.power.filter fun e => decide (c.clock.us < e.1 + 10000) }) c

/-- One port's part of a SEQ tick (R167). [DEDUCED, log 48] -/
def ppTick (n : Fin 8) (c : Chip) : Chip :=
  ppPg n (ppTransitions n (ppTimer n (ppPower n (ppWindows n c))))

/-! ### The events of a port -/

/-- The lesser of the two terms of the gate loop; the port limits where the current term is selected (R171). -/
def gateTerms (voltageTerm currentTerm : BitVec 12) (p : Pp) : Pp :=
  { p with
    gate := if currentTerm < voltageTerm then currentTerm else voltageTerm
    limiting := decide (currentTerm < voltageTerm) }

/-- The voltage term in ON (R171): the code rises to 4,095 over 1 ms, which is 2,000 samples, and stays there. -/
def risenCode (p : Pp) : BitVec 12 :=
  BitVec.ofNat 12 (p.riseFrom.toNat + (4095 - p.riseFrom.toNat) * (2000 - p.rise) / 2000)

/-- PP_GATE_LOOP (R171, R176): one ADC sample, of 500 ns. In RAMP the reference rises by `PpRampRate`, and the loops give
the terms that follow from it and from `PpCurrentLimit`; an ORING port's term regulates to `PpOrFwdDrop`. The spec gives
the loops no gains, so the terms come with the command. [DESIGN CHOICE, log 145] -/
def ppGateLoop (n : Fin 8) (voltageTerm currentTerm : BitVec 12) (c : Chip) : Chip :=
  if !live c then c
  else match ppRole c n, c.pps[n].state with
    | 2, .on => setPp n (fun p => { p with gate := voltageTerm }) c
    | 2, _ => c
    | _, .ramp =>
      setPp n (fun p => gateTerms voltageTerm currentTerm { p with ref := p.ref + (nat c (kPpRampRate n) : Rat) / 2000000 }) c
    | _, .on => setPp n (fun p =>
        let p := { p with rise := p.rise - 1 }
        gateTerms (risenCode p) currentTerm p) c
    | _, _ => c

/-- PP_INSERT_ELAPSED (R170, Table 5.2). -/
def ppInsertElapsed (n : Fin 8) (c : Chip) : Chip :=
  if c.pps[n].state != .insert || !windowsOk c.pps[n] || !drives c then c
  else if ppRole c n == 2 then ppOn n c
  else ppRamp n c

/-- PP_RAMP_COMPLETE (R171, Table 5.2): the output has come up, and the gate code begins to rise to 4,095. -/
def ppRampComplete (n : Fin 8) (c : Chip) : Chip :=
  if c.pps[n].state == .ramp && drives c && outputUp c n then
    setPp n (fun p => { p with state := .on, riseFrom := p.gate, rise := 2000 }) c
  else c

/-- PP_FAULT_TIMER_EXPIRY (R172). -/
def ppFaultTimerExpiry (n : Fin 8) (c : Chip) : Chip :=
  if ppTripable c n && c.pps[n].timer && drives c then ppTrip n false c else c

/-- PP_FAULT_TIMER_CLEAR (R172). -/
def ppFaultTimerClear (n : Fin 8) (c : Chip) : Chip :=
  if c.pps[n].timer && !c.pps[n].limiting && drives c then
    setPp n (fun p => { p with timer := false, count := 0, idle := 0 }) c
  else c

/-- PP_RAMP_TIMEOUT (R172). -/
def ppRampTimeout (n : Fin 8) (c : Chip) : Chip :=
  if c.pps[n].state == .ramp && drives c then ppTrip n false c else c

/-- PP_RETRY_OFF_ELAPSED (R174, Table 5.2). -/
def ppRetryOffElapsed (n : Fin 8) (c : Chip) : Chip :=
  if c.pps[n].state != .retryWait || !drives c then c
  else if windowsOk c.pps[n] then ppRamp n c
  else ppWait n c

/-- PP_RETRIES_RELOAD (R175). -/
def ppRetriesReload (n : Fin 8) (c : Chip) : Chip :=
  if c.pps[n].pg && drives c then setPp n (fun p => { p with retriesLeft := nat c (kPpRetryCount n) }) c else c

/-- ORING_REVERSE_RECOVER (R176, Table 5.2): the forward voltage is at `PpOrOnDrop` or above. -/
def oringReverseRecover (n : Fin 8) (c : Chip) : Chip :=
  if c.pps[n].state == .reverse && drives c && decide (hundredMicro (num c (kPpOrOnDrop n)) ≤ val c (96 + n)) then ppOn n c
  else c

/-- PP_PG_QUALIFIED (R179). -/
def ppPgQualified (n : Fin 8) (c : Chip) : Chip :=
  if ppGood c n && !c.pps[n].pg && drives c then
    ppAssert n (setPp n (fun p => { p with pgCount := nat c (kPpPgQualTime n) }) c)
  else c

/-- PP_PG_LOST_TIMEOUT (R179). -/
def ppPgLostTimeout (n : Fin 8) (c : Chip) : Chip :=
  if c.pps[n].pg && !ppGood c n && !c.pps[n].timer && drives c then ppWithdraw n c else c

/-! ### Shedding -/

/-- The mean power over the last 10 ms (R177), in mW; of no values, the present power. [DESIGN CHOICE, log 27] -/
def meanPower (c : Chip) (n : Fin 8) : Int :=
  let l := c.pps[n].power.filter fun e => decide (c.clock.us < e.1 + 10000)
  if l.isEmpty then roundRat (val c (88 + n) * val c (96 + n) * 1000)
  else roundRat (((l.map (·.2)).foldl (· + ·) 0 : Int) / (l.length : Rat))

/-- A LOAD port in RAMP or ON can be shed (R65, R177). -/
def ppSheddable (c : Chip) (n : Fin 8) : Bool :=
  ppRole c n == 3 && (c.pps[n].state == .ramp || c.pps[n].state == .on)

/-- A shed (R177): the power is recorded, the gate goes to 0 with `PPn_FOFF` low, PG is withdrawn. -/
def ppShed (n : Fin 8) (c : Chip) : Chip :=
  let w := meanPower c n
  setPp n (fun p => { p with state := .shed, foff := false, shedPower := w }) (ppOff n c)

/-- A restore (R177): RAMP where both windows are satisfied, WAIT-INPUT otherwise. -/
def ppRestore (n : Fin 8) (c : Chip) : Chip :=
  if c.pps[n].state != .shed then c
  else if windowsOk c.pps[n] then ppRamp n c
  else ppWait n (setPp n (fun p => { p with foff := true }) c)

/-- A port channel fails its pilot or range check (R164, R172, R176, R185). -/
def ppChannelFails (n : Fin 8) (ch : Nat) (c : Chip) : Chip :=
  let c := raise (72 + n) 5 0 c
  if !drives c then c
  else if ch = 80 + n then
    let st := c.pps[n].state
    let c := setPp n (fun p => { p with uvOk := false, ovOk := false }) c
    if st == .ramp || st == .on || st == .reverse then ppWindowLost n c
    else if st == .insert then ppWait n c
    else c
  else if ppTripable c n then ppTrip n false c
  else if ppRole c n == 2 && ch = 96 + n && oringWatched c.pps[n].state then ppSenseLost n c
  else c

/-! ### The commands -/

/-- PP_KILL (R165) answers the state with its effect. -/
def execPpKill (n : Fin 8) (pair : Int) (s : State) : Host.Outcome State Fault Refusal :=
  guarded (inRange pair (-2147483648) 2147483647) s (ppKill n pair s.chip)

/-- ORING_REVERSE_TURNOFF (R165) answers the state with its effect. -/
def execOringReverseTurnoff (n : Fin 8) (pair : Int) (s : State) : Host.Outcome State Fault Refusal :=
  guarded (inRange pair (-2147483648) 2147483647) s (oringReverseTurnoff n pair s.chip)

/-- PP_GATE_LOOP (R171) answers the state with its effect. -/
def execPpGateLoop (n : Fin 8) (voltageTerm : BitVec 12) (currentTerm : BitVec 12) (s : State) : Host.Outcome State Fault Refusal :=
  answer s (ppGateLoop n voltageTerm currentTerm s.chip)

/-- PP_INSERT_ELAPSED (R170) answers the state with its effect. -/
def execPpInsertElapsed (n : Fin 8) (s : State) : Host.Outcome State Fault Refusal :=
  answer s (ppInsertElapsed n s.chip)

/-- PP_RAMP_COMPLETE (R171) answers the state with its effect. -/
def execPpRampComplete (n : Fin 8) (s : State) : Host.Outcome State Fault Refusal := answer s (ppRampComplete n s.chip)

/-- PP_FAULT_TIMER_EXPIRY (R172) answers the state with its effect. -/
def execPpFaultTimerExpiry (n : Fin 8) (s : State) : Host.Outcome State Fault Refusal :=
  answer s (ppFaultTimerExpiry n s.chip)

/-- PP_FAULT_TIMER_CLEAR (R172) answers the state with its effect. -/
def execPpFaultTimerClear (n : Fin 8) (s : State) : Host.Outcome State Fault Refusal :=
  answer s (ppFaultTimerClear n s.chip)

/-- PP_RAMP_TIMEOUT (R172) answers the state with its effect. -/
def execPpRampTimeout (n : Fin 8) (s : State) : Host.Outcome State Fault Refusal := answer s (ppRampTimeout n s.chip)

/-- PP_RETRY_OFF_ELAPSED (R174) answers the state with its effect. -/
def execPpRetryOffElapsed (n : Fin 8) (s : State) : Host.Outcome State Fault Refusal :=
  answer s (ppRetryOffElapsed n s.chip)

/-- PP_RETRIES_RELOAD (R175) answers the state with its effect. -/
def execPpRetriesReload (n : Fin 8) (s : State) : Host.Outcome State Fault Refusal :=
  answer s (ppRetriesReload n s.chip)

/-- ORING_REVERSE_RECOVER (R176) answers the state with its effect. -/
def execOringReverseRecover (n : Fin 8) (s : State) : Host.Outcome State Fault Refusal :=
  answer s (oringReverseRecover n s.chip)

/-- PP_PG_QUALIFIED (R179) answers the state with its effect. -/
def execPpPgQualified (n : Fin 8) (s : State) : Host.Outcome State Fault Refusal := answer s (ppPgQualified n s.chip)

/-- PP_PG_LOST_TIMEOUT (R179) answers the state with its effect. -/
def execPpPgLostTimeout (n : Fin 8) (s : State) : Host.Outcome State Fault Refusal :=
  answer s (ppPgLostTimeout n s.chip)

end Sys2Proof.Machine
end

