-- ==== Sys2Proof/Machine/Strings.lean ====
section
/-! DEFINITION. Battery strings: their states, removal, ship mode, the long press, the estimator and its slots, fallow
windows and the host watchdog (R119 to R159, the law of CHARGE apart). -/

namespace Sys2Proof.Machine

/-! ### The open-circuit table -/

/-- The straight line through points in rising order, clamped at its ends. -/
def interp : List (Rat × Rat) → Rat → Rat
  | [], _ => 0
  | [p], _ => p.2
  | p :: q :: rest, x =>
    if x ≤ p.1 then p.2
    else if x < q.1 then p.2 + (q.2 - p.2) * (x - p.1) / (q.1 - p.1)
    else interp (q :: rest) x

/-- The points of a string's table (R124): state of charge in 0.01 % and cell voltage in V. -/
def ocvPoints (c : Chip) (s : Fin 4) : List (Rat × Rat) :=
  (List.range 32).map fun j =>
    let w := nat c (kStrOcvPoint s j)
    (((w / 65536 : Nat) : Rat), hundredMicro ((w % 65536 : Nat) : Int))

/-- The cell voltage at a state of charge in 0.01 % (R124). -/
def ocv (c : Chip) (s : Fin 4) (soc : Rat) : Rat := interp (ocvPoints c s) soc

/-- The state of charge in 0.01 % at a cell voltage (R124). Where points share that voltage, the spec names no one state
of charge: a free value between the ends of the level stretch. [DESIGN CHOICE, log 8; DEDUCED, log 37] -/
def socAt (c : Chip) (s : Fin 4) (v : Rat) : Rat :=
  let l := (ocvPoints c s).map fun p => (p.2, p.1)
  let lo := interp l v
  let flat := (l.filter fun p => p.1 == v).map (·.2)
  let hi := flat.foldl ratMax lo
  if lo = hi then lo else lo + (hi - lo) * ((freeWord c).toNat : Rat) / 4294967295

/-! ### Estimator slots -/

/-- The 48 bytes of a string's block (Table 4.7); a block that is not valid is zeros. -/
def blockBytes : Option EstBlock → List Byte
  | none => List.replicate 48 0
  | some b =>
    leBytes 4 b.capacity ++ leBytes 4 b.charge ++ leBytes 4 b.resistance ++ leBytes 2 b.anchorSoc ++ leBytes 2 b.budget ++
      leBytes 8 b.anchorTime ++ toLe 4 b.dq ++ leBytes 4 b.throughput ++ toLe 4 b.lastVoltage ++ leBytes 4 b.cycles ++
      leBytes 2 (bit b.frozen 0 + bit b.lowConf 1 + bit b.anchorDiscarded 2) ++ leBytes 1 b.phase ++ List.replicate 5 (0 : Byte)

/-- The 224 bytes of an entry (Table 4.7). -/
def entryBytes (e : EstEntry) : List Byte :=
  leBytes 4 e.sequence ++ leBytes 8 (e.timeMs * 1048576 + e.cycle) ++ leBytes 1 1 ++ leBytes 1 (bit e.ship 0) ++
    leBytes 1 (maskFin 4 fun s => (e.blocks[s]).isSome) ++ List.replicate 17 (0 : Byte) ++
    (List.finRange 4).flatMap fun s => blockBytes e.blocks[s]

/-- Some bytes of a list. -/
def slice (d : List Byte) (i n : Nat) : List Byte := (d.drop i).take n

/-- The block that 48 bytes spell (Table 4.7). -/
def blockOf (d : List Byte) : EstBlock :=
  let state := leNat (slice d 40 2)
  { capacity := leNat (slice d 0 4), charge := leNat (slice d 4 4), resistance := leNat (slice d 8 4)
    anchorSoc := leNat (slice d 12 2), budget := leNat (slice d 14 2), anchorTime := leNat (slice d 16 8)
    dq := leInt (slice d 24 4), throughput := leNat (slice d 28 4), lastVoltage := leInt (slice d 32 4)
    cycles := leNat (slice d 36 4), frozen := hasBit state 0, lowConf := hasBit state 1
    anchorDiscarded := hasBit state 2, phase := leNat (slice d 42 1) }

/-- The entry that bytes of format 01h spell (Table 4.7). -/
def entryOf (d : List Byte) : Option EstEntry :=
  if d.length = 224 && slice d 12 1 == [1] then
    let time := leNat (slice d 4 8)
    let valid := leNat (slice d 14 1)
    some { sequence := leNat (slice d 0 4), timeMs := time / 1048576, cycle := time % 1048576
           ship := hasBit (leNat (slice d 13 1)) 0
           blocks := Vector.ofFn fun s => if hasBit valid s.val then some (blockOf (slice d (32 + 48 * s.val) 48)) else none }
  else none

/-- The valid entry of a slot (R155). -/
def slotEntry : EstSlot → Option EstEntry
  | .entry d => entryOf d
  | .erased | .torn => none

/-- The newest valid entry (R155): the one with the higher sequence number. -/
def newestEntry (c : Chip) : Option EstEntry :=
  match slotEntry c.nor.slots[0], slotEntry c.nor.slots[1] with
  | some a, some b => if a.sequence < b.sequence then some b else some a
  | some a, none => some a
  | none, b => b

/-- The slot that does not hold the newest valid entry (R153). -/
def staleSlot (c : Chip) : Fin 2 :=
  match slotEntry c.nor.slots[0], slotEntry c.nor.slots[1] with
  | some a, some b => if a.sequence < b.sequence then 0 else 1
  | some _, none => 1
  | none, _ => 0

/-- The error budget in 0.01 % (R146), exact. -/
def errorBudget (c : Chip) (s : Fin 4) : Rat :=
  let e := c.ests[s]
  let hours : Rat := ((nowMs c - e.anchorAt.getD 0 : Nat) : Rat) / 3600000
  (pct (num c (kStrCountGainErr s)) * e.throughput + (num c (kStrCountOffset s) : Rat) * hours) /
    (nat c (kStrRatedCapacity s) : Rat) * 10000

/-- The number of a charge phase (Table 4.9). -/
def ChargePhase.number : ChargePhase → Nat
  | .none => 0
  | .cc => 1
  | .absorb => 2
  | .float => 3

/-- The charge phase of a number. -/
def ChargePhase.ofNumber (n : Nat) : ChargePhase :=
  if n = 1 then .cc else if n = 2 then .absorb else if n = 3 then .float else .none

/-- The block of a string (Table 4.7). Its equivalent full cycles are a free value: the spec gives no rule for them.
[DESIGN CHOICE, log 8] -/
def estBlock (c : Chip) (s : Fin 4) : EstBlock :=
  let e := c.ests[s]
  { capacity := e.capacity
    charge := (roundRat (e.charge * 100)).toNat
    resistance := (roundRat e.resistance).toNat
    anchorSoc := e.anchorSoc
    budget := min 65535 (errorBudget c s).floor.toNat
    anchorTime := e.anchorAt.getD 0 * 1048576 + e.anchorCycle
    dq := roundRat e.dq
    throughput := (roundRat e.throughput).toNat
    lastVoltage := roundRat (val c (64 + s) * 10000)
    cycles := (freeWord c).toNat
    frozen := c.strs[s].frozen
    lowConf := c.strs[s].lowConf
    anchorDiscarded := e.anchorBad
    phase := c.strs[s].phase.number }

/-- The entry that a slot write stores now (Table 4.7); with no valid entry to replace, its sequence number is 1.
[DESIGN CHOICE, log 143] -/
def newEntry (c : Chip) : EstEntry :=
  { sequence := match newestEntry c with
      | some e => (e.sequence + 1) % 2 ^ 32
      | none => 1
    timeMs := nowMs c
    cycle := c.clock.powerCycles
    ship := c.batt.shipFlag
    blocks := Vector.ofFn fun s => if (strRail c s).isSome then some (estBlock c s) else none }

/-- A slot write starts (R153, R154): only by the unit that drives the shelf, and not below the VAUX warning level. The
slot is torn until the write is done; a write asked for during one follows it. [DEDUCED, log 43; DESIGN CHOICE, log 143] -/
def slotWrite (c : Chip) : Chip :=
  if !drives c || c.alm.direct then c
  else if c.batt.slotWrite.isSome then setBatt (fun b => { b with slotOwed := true }) c
  else
    let k := staleSlot c
    let e := newEntry c
    takeFree (setBatt (fun b => { b with slotWrite := some (k, entryBytes e), slotOwed := false, lastSave := nowMs c })
      (setNor (fun n => { n with slots := n.slots.set k .torn }) c))

/-- ESTIMATOR_SLOT_WRITE_DONE (R153): the slot holds the newest entry. [DEDUCED, log 43] -/
def estimatorSlotWriteDone (c : Chip) : Chip :=
  match c.batt.slotWrite with
  | none => c
  | some (k, d) =>
    let owed := c.batt.slotOwed
    let c := setBatt (fun b => { b with slotWrite := none, slotOwed := false }) c
    when owed slotWrite (setNor (fun n => { n with slots := n.slots.set k (.entry d) }) c)

/-- ESTIMATOR_SAVE_INTERVAL (R153). [DEDUCED, log 43] -/
def estimatorSaveInterval (c : Chip) : Chip := slotWrite c

/-! ### The reset and the check of an estimate -/

/-- The estimate is reset (R129): charge from the table at the present voltage, capacity rated, anchor discarded.
[DEDUCED, log 38] -/
def resetEstimate (s : Fin 4) (c : Chip) : Chip :=
  let rated := nat c (kStrRatedCapacity s)
  let soc := socAt c s (val c (64 + s) / (nat c (kStrCells s) : Rat))
  let c := setEst s (fun e => { e with
    charge := soc / 10000 * rated, capacity := rated, anchorAt := some (nowMs c), anchorCycle := c.clock.powerCycles, anchored := false, anchorBad := true
    dq := 0, throughput := 0, history := [] }) c
  raise (64 + s) 6 0 (takeFree (setStr s (fun x => { x with lowConf := true }) c))

/-- The reinsertion check (R129): within ±10 % of the last voltage held in the slot, the estimator resumes. -/
def reinsertionCheck (s : Fin 4) (c : Chip) : Chip :=
  if !c.strs[s].frozen then c
  else
    let v := val c (64 + s) * 10000
    let near := match newestEntry c with
      | some e => (match e.blocks[s] with
        | some b => decide (10 * ratAbs (v - b.lastVoltage) ≤ (b.lastVoltage : Rat))
        | none => false)
      | none => false
    let c := if near then setEst s (fun e => { e with history := [] }) c else resetEstimate s c
    setStr s (fun x => { x with frozen := false }) c

/-! ### The state machine -/

/-- The string goes to a state; outside IN-SERVICE and FALLOW its charge phase is none (R134). -/
def strGo (s : Fin 4) (st : StrState) (c : Chip) : Chip :=
  setStr s (fun x => { x with
    state := st
    phase := if st == .inService || st == .fallow then x.phase else .none
    resting := if st == .inService || st == .fallow then x.resting else false
    seqWaits := false }) c

/-- `BSn_SW` goes high: the switch opens, and its feedback contact with it (Table 4.2). [DEDUCED, log 144] -/
def openSwitch (s : Fin 4) (c : Chip) : Chip := setStr s (fun x => { x with sw := true, closed := false }) c

/-- Entry to QUALIFYING (Table 4.4): `BSn_SW` high, unless the ship latch is set. -/
def toQualifying (s : Fin 4) (c : Chip) : Chip :=
  let c := setStr s (fun x => { x with pattern := .none }) c
  strGo s .qualifying (when (!c.strs[s].shipLatch) (openSwitch s) c)

/-- Entry to IN-SERVICE with its reinsertion check; the charge starts (Table 4.4, R129, R134). -/
def toInService (s : Fin 4) (c : Chip) : Chip := startCharge s (strGo s .inService (reinsertionCheck s c))

/-- Entry to FAULT raises the string's source (Table 4.14). -/
def strFault (s : Fin 4) (c : Chip) : Chip := raise (64 + s) 2 0 (strGo s .fault c)

/-- A staged string object holds the moves to CLOSING and from ABSENT to IN-SERVICE (R278). -/
def strHeld (c : Chip) (s : Fin 4) : Bool :=
  staged c fun k => k == kStrRail s || k == kStrChemistry s || k == kStrCells s || k == kStrRatedCapacity s

/-- The presence level of a string in V (R125). -/
def presenceLevel (c : Chip) (s : Fin 4) : Rat := hundredMicro (num c (kStrShutdownVoltage s)) / 2

/-- The string's voltage lies in the qualification window (R125). -/
def inQualWindow (c : Chip) (s : Fin 4) : Bool :=
  let v := val c (64 + s)
  decide (hundredMicro (num c (kStrShutdownVoltage s)) ≤ v) &&
    decide (v ≤ hundredMicro (num c (kStrCellVmax s)) * nat c (kStrCells s))

/-- STRING_PRESENCE_ABSENT (Table 4.4, R153): the voltage lies below the presence level. -/
def stringPresenceAbsent (n : Fin 4) (c : Chip) : Chip :=
  if c.strs[n].state == .qualifying && drives c && decide (val c (64 + n) < presenceLevel c n) then
    slotWrite (strGo n .absent c)
  else c

/-- The move out of QUALIFYING (Table 4.4): the ship-clear pattern first where the latch is set; else `BSn_SW` low and
CLOSING. -/
def strClose (n : Fin 4) (c : Chip) : Chip :=
  let c := setStr n (fun x => { x with seqWaits := false }) c
  if c.strs[n].shipLatch then setStr n (fun x => { x with pattern := .clear, sw := false }) c
  else strGo n .closing (setStr n (fun x => { x with sw := false }) c)

/-- The power-up table names the string and has not reached its entry (R203). [DEDUCED, log 52] -/
def strAwaitsEntry (c : Chip) (n : Fin 4) : Bool := hasUpEntry c 4 n && !c.seq.strReached[n]

/-- STRING_QUALIFIED (Table 4.4, R203, R278): the voltage lies in the window; a string that the power-up table has yet to
reach, or that a validated hamper holds, waits with its qualification met. -/
def stringQualified (n : Fin 4) (c : Chip) : Chip :=
  if c.strs[n].state != .qualifying || !drives c || c.strs[n].pattern != .none || !inQualWindow c n then c
  else if strAwaitsEntry c n || strHeld c n then setStr n (fun x => { x with seqWaits := true }) c
  else strClose n c

/-- A string that waits with its qualification met closes once nothing holds it (R203, R278). -/
def strRelease (n : Fin 4) (c : Chip) : Chip :=
  if c.strs[n].seqWaits && c.strs[n].state == .qualifying && !strAwaitsEntry c n && !strHeld c n then strClose n c else c

/-- SHIP_PATTERN_COMPLETE (R121, R125, R126, R278): the latch is set, and a string on its way to SHIP is there; or it is
clear, and a string that qualifies closes, or waits with `BSn_SW` high while something holds it. [DEDUCED, log 41] -/
def shipPatternComplete (n : Fin 4) (c : Chip) : Chip :=
  match c.strs[n].pattern with
  | .none => c
  | .set => setStr n (fun x => { x with pattern := .none, shipLatch := true, sw := true }) c
  | .clear =>
    let c := setStr n (fun x => { x with pattern := .none, shipLatch := false, sw := false }) c
    let c := if c.strs[n].state != .qualifying then c
      else if strAwaitsEntry c n || strHeld c n then openSwitch n (setStr n (fun x => { x with seqWaits := true }) c)
      else strGo n .closing c
    if c.batt.shipFlag && (fittedStrs c).all fun s => !c.strs[s].shipLatch then
      slotWrite (setBatt (fun b => { b with shipFlag := false, shipBoot := false }) c)
    else c

/-- SWITCH_FEEDBACK_CLOSED (Table 4.4). -/
def switchFeedbackClosed (n : Fin 4) (c : Chip) : Chip :=
  let c := setStr n (fun x => { x with closed := true }) c
  if c.strs[n].state == .closing && drives c then toInService n c else c

/-- SWITCH_FEEDBACK_TIMEOUT (Table 4.4): no feedback in CLOSING, or the switch closed in OPEN or SHIP. -/
def switchFeedbackTimeout (n : Fin 4) (c : Chip) : Chip :=
  if !drives c then c
  else match c.strs[n].state with
    | .closing => strFault n (openSwitch n c)
    | .opened | .ship => strFault n (setStr n (fun x => { x with closed := true }) c)
    | _ => c

/-! ### Fallow windows -/

/-- The conditions of R149 that must hold throughout a window of a string. -/
def fallowHolds (c : Chip) (s : Fin 4) : Bool :=
  flag c kFallowEnable && c.bus.state == .onSource && !c.well.stale &&
    decide (nat c kWellFloor ≤ c.well.publishedLessOne) &&
    (c.strs[s].state == .inService || c.strs[s].state == .fallow) &&
    (List.finRange 4).all fun t => t == s || c.strs[t].state != .fallow

/-- A `FallowRequest` for a string meets the conditions of R149: a window may start, or the string's own is running.
[DEDUCED, log 39] -/
def fallowAsked (c : Chip) (s : Fin 4) : Bool :=
  fallowHolds c s && (c.strs[s].state == .fallow || c.cap.stage == 0)

/-- A window of a string may start (R149). -/
def fallowMayStart (c : Chip) (s : Fin 4) : Bool :=
  fallowHolds c s && c.cap.stage == 0 && c.batt.fallowString.isNone && c.strs[s].state == .inService

/-- What an aborted window leaves (R148, R150): the retry delay, an event and a record. [DEDUCED, log 39] -/
def fallowAbortMarks (s : Fin 4) (c : Chip) : Chip :=
  let c := setBatt (fun b => { b with fallowString := none }) c
  let c := setStr s (fun x => { x with retryAt := some (nowMs c + nat c kFallowRetryDelay * 60000) }) c
  log 0x21 (68 + s) 0 (s.val : Int) [] (raise (68 + s) 4 0 c)

/-- The window in progress is aborted: the string returns to service (R150, Table 4.4). [DEDUCED, log 39] -/
def fallowAbort (c : Chip) : Chip :=
  match c.batt.fallowString with
  | none => c
  | some s => fallowAbortMarks s (strGo s .inService c)

/-- The window of a string ends with its state already left (removal, opening). [DEDUCED, log 39] -/
def fallowLost (s : Fin 4) (c : Chip) : Chip :=
  when (c.batt.fallowString == some s) (fallowAbortMarks s) c

/-- `StrLastRest` in minutes (Table 4.10). [DEDUCED, log 38] -/
def lastRest (c : Chip) (s : Fin 4) : Nat := min 0xFFFFFFFF ((nowMs c - c.ests[s].anchorAt.getD 0) / 60000)

/-- No aborted window keeps the string from being chosen (R148). -/
def retryOver (c : Chip) (s : Fin 4) : Bool :=
  match c.strs[s].retryAt with
  | none => true
  | some t => decide (t ≤ nowMs c)

/-- A string is due for a window (R148). -/
def fallowDue (c : Chip) (s : Fin 4) : Bool :=
  (strRail c s).isSome && decide (nat c kFallowInterval * 60 ≤ lastRest c s) && retryOver c s

/-- Of the due strings, that with the longest time since its last rest, the lowest number on a tie (R148). -/
def longestDue (c : Chip) : Option (Fin 4) :=
  ((List.finRange 4).filter (fallowDue c)).foldl (fun best s =>
    match best with
    | none => some s
    | some b => if c.ests[s].anchorAt.getD 0 < c.ests[b].anchorAt.getD 0 then some s else some b) none

/-- The string that the Reeve chooses (R148): the requested one, or the due one with the longest time since its last rest.
A requested string that waits after an abort is not chosen. [DEDUCED, log 39] -/
def fallowChoice (c : Chip) : Option (Fin 4) :=
  match c.batt.fallowChosen with
  | some s => if retryOver c s then some s else longestDue c
  | none => longestDue c

/-- FALLOW_CHECK (R148, R149). -/
def fallowCheck (c : Chip) : Chip :=
  if !drives c then c
  else
    let choice := fallowChoice c
    let c := setBatt (fun b => { b with fallowChosen := none }) c
    match choice with
    | none => c
    | some s =>
      if fallowMayStart c s then
        setBatt (fun b => { b with fallowString := some s, fallowStart := nowMs c }) (strGo s .fallow c)
      else c

/-- FALLOW_CONDITION_FAIL (R150). -/
def fallowConditionFail (c : Chip) : Chip :=
  match c.batt.fallowString with
  | none => c
  | some s => if drives c && !fallowHolds c s then fallowAbort c else c

/-- FALLOW_NO_REST (R150). -/
def fallowNoRest (c : Chip) : Chip := if drives c then fallowAbort c else c

/-! ### Removal and reinsertion -/

/-- A condition of R128 can remove a string in its state (Table 4.4): in FALLOW, only (b) and (c). -/
def removable (st : StrState) (cause : RemovalCause) : Bool :=
  match st, cause with
  | .inService, _ => true
  | .fallow, .noCurrent => false
  | .fallow, _ => true
  | _, _ => false

/-- The rest current in mA (R144). -/
def restCurrent (c : Chip) (s : Fin 4) : Rat :=
  let v := num c (kStrRestCurrent s)
  if v = 0 then (nat c (kStrRatedCapacity s) : Rat) / 500 else (v : Rat)

/-- A cause of R128 holds in the state: a command of four rest currents with less than one flowing, `BSn_SW` low with the
feedback open, or a voltage below the presence level. -/
def removed (c : Chip) (s : Fin 4) (cause : RemovalCause) : Bool :=
  match cause with
  | .noCurrent =>
    ((strRail c s).any fun r => switching c.rails[r]) && strMode c s != .holdZero &&
      decide (4 * restCurrent c s ≤ ratAbs (ofQ 16 c.strs[s].cmd) * 1000) &&
      decide (ratAbs (val c (68 + s)) * 1000 < restCurrent c s)
  | .feedbackOpen => !c.strs[s].sw
  | .lowVoltage => decide (val c (64 + s) < presenceLevel c s)

/-- STRING_REMOVAL (R128, Table 4.4, Table 4.14). [DEDUCED, log 39] -/
def stringRemoval (n : Fin 4) (cause : RemovalCause) (c : Chip) : Chip :=
  if !removable c.strs[n].state cause || !removed c n cause || !drives c then c
  else
    let c := setStr n (fun x => { x with frozen := true, closed := x.closed && cause != .feedbackOpen }) c
    let c := fallowLost n (strGo n .absent c)
    slotWrite (log 0x25 (64 + n) 2 (n.val : Int) [] (raise (64 + n) 1 0 c))

/-- STRING_REINSERTION (Table 4.4): the voltage lies above the presence level; by the switch feedback. -/
def stringReinsertion (n : Fin 4) (closed : Bool) (c : Chip) : Chip :=
  if c.strs[n].state != .absent || !drives c || val c (64 + n) ≤ presenceLevel c n then c
  else
    let c := setStr n (fun x => { x with closed := closed }) c
    if !closed then toQualifying n c
    else if strHeld c n then c
    else toInService n c

/-- A FAULT string requalifies (Table 4.4). [DEDUCED, log 45, 51] -/
def requalify (n : Fin 4) (c : Chip) : Chip := if c.strs[n].state == .fault then toQualifying n c else c

/-- A hamper applies `StrRail` (Table 4.4): a string fitted qualifies; FFh unfits it. -/
def strRailApplied (n : Fin 4) (c : Chip) : Chip :=
  match strRail c n, c.strs[n].state with
  | some _, .unfitted => toQualifying n c
  | none, .unfitted => c
  | none, _ => fallowLost n (strGo n .unfitted c)
  | some _, _ => c

/-- NTC_FAIL (R120): the input lies above 1,190 mV or below 12 mV; the temperature channel then reads as too hot.
[DEDUCED, log 42] -/
def ntcFail (n : Fin 4) (c : Chip) : Chip :=
  let pin := (chanOf c (72 + n)).pin
  if 12000 ≤ pin ∧ pin ≤ 1190000 then c else
  let onset := !c.strs[n].ntcFail
  let c := publish (72 + n) 0x7FFFFFFF (setStr n (fun x => { x with ntcFail := true }) c)
  when onset (raise (64 + n) 3 0) c

/-! ### Ship mode and the long press -/

/-- The bitmap of fitted strings (Table 12.4). -/
def fittedMask (c : Chip) : Nat := maskFin 4 fun s => (strRail c s).isSome

/-- A cancel (R156): of an arm, a pending opening or a powered SHIP state; strings in SHIP qualify. [DEDUCED, log 41] -/
def shipCancel (c : Chip) : Chip :=
  let c := setBatt (fun b => { b with shipArm := none, shipPending := false, shipBoot := false }) c
  each ((List.finRange 4).filter fun s => c.strs[s].state == .ship) (fun s c =>
    toQualifying s (setStr s (fun x => { x with shipLatch := x.shipLatch || x.pattern == .set }) c)) c

/-- SHIP_OPENING (R157): the slot with SHIP, the record, and every fitted string into SHIP. [DEDUCED, log 41] -/
def shipOpening (c : Chip) : Chip :=
  if !c.batt.shipPending || !drives c then c
  else
    let c := setBatt (fun b => { b with shipPending := false, shipArm := none, shipFlag := true, shipBoot := false }) c
    let c := log 0x23 64 1 (fittedMask c : Int) [] (slotWrite c)
    each ((fittedStrs c).filter fun s => c.strs[s].state != .ship) (fun s c =>
      fallowLost s (strGo s .ship (setStr s (fun x => { x with pattern := .set }) (openSwitch s c)))) c

/-- SHIP_SOURCE_GOOD (R58, R158): after a boot with SHIP set. [DEDUCED, log 41] -/
def shipSourceGood (c : Chip) : Chip :=
  if !c.batt.shipBoot || !drives c || !sourceGood c then c
  else
    let c := setBatt (fun b => { b with shipBoot := false }) c
    each ((List.finRange 4).filter fun s => c.strs[s].state == .ship) toQualifying c

/-- The states that a long press takes to OPEN (Table 4.4). -/
def longPressed (st : StrState) : Bool :=
  match st with
  | .qualifying | .closing | .inService | .fallow | .absent => true
  | _ => false

/-- LONG_PRESS (R159). -/
def longPress (c : Chip) : Chip :=
  if !drives c then c
  else
    let c := slotWrite (log 0x24 64 1 (fittedMask c : Int) [] c)
    let c := setBatt (fun b => { b with longOpen := true }) c
    each ((List.finRange 4).filter fun s => longPressed c.strs[s].state) (fun s c =>
      fallowLost s (strGo s .opened (setStr s (fun x => { x with pattern := .none }) (openSwitch s c)))) c

/-- LONG_PRESS_OPEN_END (R159, Table 4.4). -/
def longPressOpenEnd (c : Chip) : Chip :=
  if !c.batt.longOpen || !drives c then c
  else
    let c := setBatt (fun b => { b with longOpen := false }) c
    each ((List.finRange 4).filter fun s => c.strs[s].state == .opened) (fun s c =>
      strGo s .closing (setStr s (fun x => { x with sw := false }) c)) c

/-! ### The host watchdog -/

/-- A heartbeat restarts the period (R138). -/
def battBeat (c : Chip) : Chip := setBatt (fun b => { b with expired := false, wdStart := nowMs c }) c

/-- BATT_WATCHDOG_EXPIRY (R138, R134). -/
def battWatchdogExpiry (c : Chip) : Chip :=
  if !c.batt.wdRunning || c.batt.expired || !live c then c
  else
    let c := setBatt (fun b => { b with expired := true }) c
    each (fittedStrs c) (fun s c =>
      let c := setStr s (fun x => { x with
        wdFallback := true, phase := if x.phase == .none then .none else .float }) c
      log 0x20 (68 + s) 1 (s.val : Int) [] (raise (68 + s) 1 0 c)) c

/-- An accepted write of a charge object clears WDFALLBACK while the watchdog is not expired (R139). -/
def chargeObjectWritten (s : Fin 4) (c : Chip) : Chip :=
  if c.batt.expired then c else setStr s (fun x => { x with wdFallback := false }) c

/-! ### The estimator -/

/-- The string rests (R144): little current, and its switch open, its rail in HOLD-ZERO, or in CHARGE at 0. -/
def rests (c : Chip) (s : Fin 4) : Bool :=
  decide (ratAbs (val c (68 + s)) * 1000 < restCurrent c s) &&
    (c.strs[s].sw || c.strs[s].shipLatch || strMode c s == .holdZero ||
      (strMode c s == .charge && c.strs[s].cmd == 0))

/-- The resistance moves 1/64 of the way towards R_step at a step of the current within 1 ms (R141): current and voltage
in words of their channels, the samples of the last 1 ms held. [DEDUCED, log 37] -/
def resistanceStep (s : Fin 4) (c : Chip) : Chip :=
  let i := chanInt c (68 + s)
  let v := chanInt c (64 + s)
  let rated : Rat := (nat c (kStrRatedCapacity s) : Rat) / 1000
  let e := c.ests[s]
  match e.history.getLast? with
  | some (i0, v0) =>
    let di : Rat := ((i - i0 : Int) : Rat) / 65536
    if rated / 20 ≤ ratAbs di then
      let step := ((v - v0 : Int) : Rat) / 4194304 / di * 1000000
      setEst s (fun e => { e with
        resistance := clampRat 0 10000000 (e.resistance + (step - e.resistance) / 64), history := [(i, v)] }) c
    else setEst s (fun e => { e with history := ((i, v) :: e.history).take 4 }) c
  | none => setEst s (fun e => { e with history := [(i, v)] }) c

/-- ESTIMATOR_SAMPLE (R140, R141, R142, R144, R146): one sample of 250 µs of a string's current. [DEDUCED, log 37] -/
def estimatorSample (n : Fin 4) (samples : List Sample) (c : Chip) : Chip :=
  let c := takeSamples samples c
  if !live c || (strRail c n).isNone then c
  else
    let i := val c (68 + n)
    let gain := Config.filterGain 250 (nat c (kStrLoadFilter n) * 1000000)
    let c := setEst n (fun e => { e with iFilt := e.iFilt + gain * (ratMax 0 (-i) - e.iFilt) }) c
    let c := setStr n (fun x => { x with resting := rests c n }) c
    if c.strs[n].frozen then setEst n (fun e => { e with history := [] }) c
    else
      let q := i * 1000 / 14400000
      let w := if 0 < q then q * pct (num c (kStrChargeEff n)) else q
      let c := resistanceStep n c
      setEst n (fun e => { e with
        charge := clampRat 0 e.capacity (e.charge + w), dq := e.dq + w, throughput := e.throughput + ratAbs q }) c

/-- The predicted string voltage at a discharge current in A (R142). -/
def vPred (c : Chip) (s : Fin 4) (amps : Rat) : Rat :=
  (nat c (kStrCells s) : Rat) * ocv c s c.ests[s].socAbs - amps * c.ests[s].resistance / 1000000

/-- The outputs of a string's estimator (R140, R142, R143), each rounded down, for which the rules give no rounding.
[DESIGN CHOICE, log 13] -/
def refreshEst (s : Fin 4) (c : Chip) : Chip :=
  let e := c.ests[s]
  let cap : Rat := e.capacity
  let cells : Rat := nat c (kStrCells s)
  let vsd := hundredMicro (num c (kStrShutdownVoltage s))
  let socAbs := if cap = 0 then 0 else (e.charge / cap * 10000).floor.toNat
  let soc0 := socAt c s ((vsd + e.iFilt * e.resistance / 1000000) / cells)
  let q0 := soc0 / 10000 * cap
  let avail := ratMax 0 (e.charge - q0)
  let c := setEst s (fun e => { e with socAbs := socAbs }) c
  takeFree (setEst s (fun e => { e with
    soc := if e.charge ≤ q0 then 0 else (avail / (cap - q0) * 10000).floor.toNat
    usableJ := min 0xFFFFFFFF (avail * 36 / 10 * (vPred c s e.iFilt + vsd) / 2).floor.toNat
    timeToShutdown := if e.iFilt ≤ 0 then 0xFFFFFFFF else min 0xFFFFFFFF (avail * 36 / 10 / e.iFilt).floor.toNat }) c)

/-- ESTIMATOR_REFRESH (R140). -/
def estimatorRefresh (c : Chip) : Chip := when (live c) (each (fittedStrs c) refreshEst) c

/-- Capacity is learned at a second anchor (R146, R147). [DEDUCED, log 38] -/
def learnCapacity (s : Fin 4) (soc : Nat) (c : Chip) : Chip :=
  let e := c.ests[s]
  let apart : Nat := if soc < e.anchorSoc then e.anchorSoc - soc else soc - e.anchorSoc
  if !e.anchored || e.anchorBad || apart < 4000 || 200 ≤ errorBudget c s then c
  else
    let meas := ratAbs e.dq / ((apart : Rat) / 10000)
    let rated : Rat := nat c (kStrRatedCapacity s)
    if rated / 2 ≤ meas ∧ meas ≤ rated * 12 / 10 then
      let cap := (e.capacity : Rat) + pct (num c (kStrLearnWeight s)) * (meas - e.capacity)
      setEst s (fun e => { e with capacity := cap.floor.toNat }) (setStr s (fun x => { x with learnRej := false }) c)
    else raise (68 + s) 3 0 (setStr s (fun x => { x with learnRej := true }) c)

/-- An anchor is taken (R145). With NTCFAIL no rule gives the temperature of the correction: a free value.
[DEDUCED, log 38; DESIGN CHOICE, log 8] -/
def takeAnchor (s : Fin 4) (c : Chip) : Chip :=
  let cells : Rat := nat c (kStrCells s)
  let t := if c.strs[s].ntcFail then ofQ 16 (freeWord c) else val c (72 + s)
  let c := takeFree c
  let v := val c (64 + s) / cells - (num c (kStrOcvTempCo s) : Rat) / 1000000 * (t - 25)
  let soc := (socAt c s v).floor.toNat
  let c := learnCapacity s soc (takeFree c)
  let c := setEst s (fun e => { e with
    charge := (soc : Rat) / 10000 * e.capacity, socAbs := soc, anchorBad := !e.anchored, anchored := true
    anchorAt := some (nowMs c), anchorCycle := c.clock.powerCycles, anchorSoc := soc, dq := 0, throughput := 0 }) c
  setStr s (fun x => { x with lowConf := false }) c

/-- REST_POINT (R145, R151, R153): the anchor, the slot, and the end of the string's fallow window. -/
def restPoint (n : Fin 4) (c : Chip) : Chip :=
  if !c.strs[n].resting || c.strs[n].frozen || (strRail c n).isNone || !drives c then c
  else
    let c := takeAnchor n c
    let c := if c.batt.fallowString == some n then
        setBatt (fun b => { b with fallowString := none }) (strGo n .inService c) else c
    slotWrite c

/-! ### Charge phases -/

/-- CHARGE_CC_TO_ABSORB (R134). -/
def chargeCcToAbsorb (n : Fin 4) (c : Chip) : Chip :=
  if c.strs[n].phase == .cc && !c.strs[n].wdFallback && live c then
    setStr n (fun x => { x with phase := .absorb }) c
  else c

/-- ABSORB_END (R134). -/
def absorbEnd (n : Fin 4) (c : Chip) : Chip :=
  if c.strs[n].phase == .absorb && live c then setStr n (fun x => { x with phase := .float }) c else c

/-- REBULK (R134). -/
def rebulk (n : Fin 4) (c : Chip) : Chip :=
  if c.strs[n].phase == .float && !c.strs[n].wdFallback && live c &&
      decide (c.ests[n].socAbs < nat c (kStrRebulkSoc n)) then
    setStr n (fun x => { x with phase := .cc }) c
  else c

/-- STRING_OVERVOLTAGE (R133): the voltage exceeds its maximum. -/
def stringOvervoltage (n : Fin 4) (c : Chip) : Chip :=
  let top := hundredMicro (num c (kStrCellVmax n)) * nat c (kStrCells n)
  if (strRail c n).isNone || !live c || val c (64 + n) ≤ top then c
  else
    let onset := !c.strs[n].overV
    let c := setStr n (fun x => { x with overV := true, ich := 0 }) c
    when onset (raise (64 + n) 4 0) c

/-! ### The commands -/

/-- NTC_FAIL (R120) answers the state with its effect. -/
def execNtcFail (n : Fin 4) (s : State) : Host.Outcome State Fault Refusal := answer s (ntcFail n s.chip)

/-- STRING_PRESENCE_ABSENT (R125) answers the state with its effect. -/
def execStringPresenceAbsent (n : Fin 4) (s : State) : Host.Outcome State Fault Refusal :=
  answer s (stringPresenceAbsent n s.chip)

/-- STRING_QUALIFIED (R125) answers the state with its effect. -/
def execStringQualified (n : Fin 4) (s : State) : Host.Outcome State Fault Refusal :=
  answer s (stringQualified n s.chip)

/-- SWITCH_FEEDBACK_CLOSED (R125) answers the state with its effect. -/
def execSwitchFeedbackClosed (n : Fin 4) (s : State) : Host.Outcome State Fault Refusal :=
  answer s (switchFeedbackClosed n s.chip)

/-- SWITCH_FEEDBACK_TIMEOUT (R125) answers the state with its effect. -/
def execSwitchFeedbackTimeout (n : Fin 4) (s : State) : Host.Outcome State Fault Refusal :=
  answer s (switchFeedbackTimeout n s.chip)

/-- STRING_REMOVAL (R128) answers the state with its effect. -/
def execStringRemoval (n : Fin 4) (cause : RemovalCause) (s : State) : Host.Outcome State Fault Refusal :=
  answer s (stringRemoval n cause s.chip)

/-- STRING_REINSERTION (R125) answers the state with its effect. -/
def execStringReinsertion (n : Fin 4) (closed : Bool) (s : State) : Host.Outcome State Fault Refusal :=
  answer s (stringReinsertion n closed s.chip)

/-- LONG_PRESS_OPEN_END (R125) answers the state with its effect. -/
def execLongPressOpenEnd (s : State) : Host.Outcome State Fault Refusal := answer s (longPressOpenEnd s.chip)

/-- SHIP_SOURCE_GOOD (R158) answers the state with its effect. -/
def execShipSourceGood (s : State) : Host.Outcome State Fault Refusal := answer s (shipSourceGood s.chip)

/-- STRING_OVERVOLTAGE (R133) answers the state with its effect. -/
def execStringOvervoltage (n : Fin 4) (s : State) : Host.Outcome State Fault Refusal :=
  answer s (stringOvervoltage n s.chip)

/-- CHARGE_CC_TO_ABSORB (R134) answers the state with its effect. -/
def execChargeCcToAbsorb (n : Fin 4) (s : State) : Host.Outcome State Fault Refusal :=
  answer s (chargeCcToAbsorb n s.chip)

/-- ABSORB_END (R134) answers the state with its effect. -/
def execAbsorbEnd (n : Fin 4) (s : State) : Host.Outcome State Fault Refusal := answer s (absorbEnd n s.chip)

/-- REBULK (R134) answers the state with its effect. -/
def execRebulk (n : Fin 4) (s : State) : Host.Outcome State Fault Refusal := answer s (rebulk n s.chip)

/-- BATT_WATCHDOG_EXPIRY (R138) answers the state with its effect. -/
def execBattWatchdogExpiry (s : State) : Host.Outcome State Fault Refusal := answer s (battWatchdogExpiry s.chip)

/-- ESTIMATOR_SAMPLE (R140) answers the state with its effect. -/
def execEstimatorSample (n : Fin 4) (samples : List Sample) (s : State) : Host.Outcome State Fault Refusal :=
  guarded (samples.all Sample.fits) s (estimatorSample n samples s.chip)

/-- ESTIMATOR_REFRESH (R140) answers the state with its effect. -/
def execEstimatorRefresh (s : State) : Host.Outcome State Fault Refusal := answer s (estimatorRefresh s.chip)

/-- REST_POINT (R145) answers the state with its effect. -/
def execRestPoint (n : Fin 4) (s : State) : Host.Outcome State Fault Refusal := answer s (restPoint n s.chip)

/-- FALLOW_CHECK (R148) answers the state with its effect. -/
def execFallowCheck (s : State) : Host.Outcome State Fault Refusal := answer s (fallowCheck s.chip)

/-- FALLOW_CONDITION_FAIL (R150) answers the state with its effect. -/
def execFallowConditionFail (s : State) : Host.Outcome State Fault Refusal := answer s (fallowConditionFail s.chip)

/-- FALLOW_NO_REST (R150) answers the state with its effect. -/
def execFallowNoRest (s : State) : Host.Outcome State Fault Refusal := answer s (fallowNoRest s.chip)

/-- ESTIMATOR_SAVE_INTERVAL (R153) answers the state with its effect. -/
def execEstimatorSaveInterval (s : State) : Host.Outcome State Fault Refusal := answer s (estimatorSaveInterval s.chip)

/-- SHIP_OPENING (R157) answers the state with its effect. -/
def execShipOpening (s : State) : Host.Outcome State Fault Refusal := answer s (shipOpening s.chip)

/-- LONG_PRESS (R159) answers the state with its effect. -/
def execLongPress (s : State) : Host.Outcome State Fault Refusal := answer s (longPress s.chip)

/-- SHIP_PATTERN_COMPLETE (R125) answers the state with its effect. -/
def execShipPatternComplete (n : Fin 4) (s : State) : Host.Outcome State Fault Refusal :=
  answer s (shipPatternComplete n s.chip)

/-- ESTIMATOR_SLOT_WRITE_DONE (R153) answers the state with its effect. -/
def execEstimatorSlotWriteDone (s : State) : Host.Outcome State Fault Refusal :=
  answer s (estimatorSlotWriteDone s.chip)

end Sys2Proof.Machine
end

