-- ==== Sys2Proof/Machine/Sequencer.lean ====
section
/-! DEFINITION. Rail good, the sequencer and the PG outputs (R198 to R208), and the SEQ tick (R167). -/

namespace Sys2Proof.Machine

/-- The raw good of a rail (R198). -/
def rawGoodNow (c : Chip) (r : Fin 16) : Bool :=
  c.rails[r].state == .regulate && (monitorsOf c r).all fun m : Fin 64 => !flag c (kWmEnable m) || inWindow c m

/-- RAW_GOOD_TRANSITION (R198, R199). [DEDUCED, log 50] -/
def rawGoodTransition (r : Fin 16) (c : Chip) : Chip :=
  let now := rawGoodNow c r
  if now == c.seq.rawGood[r] || !drives c then c
  else
    let times := c.clock.us :: c.seq.transitions[r].filter fun t => decide (c.clock.us ≤ t + 10000)
    let chatter := decide (8 ≤ times.length)
    let c := setSeq (fun q => { q with
      rawGood := q.rawGood.set r now
      good := q.good.set r false
      transitions := q.transitions.set r (if chatter then [] else times)
      chatter := q.chatter.set r (q.chatter[r] || chatter) }) c
    when chatter (raise 232 1 0) c

/-- RAIL_GOOD_QUALIFIED (R198). -/
def railGoodQualified (r : Fin 16) (c : Chip) : Chip :=
  if rawGoodNow c r && c.seq.rawGood[r] && drives c then
    setSeq (fun q => { q with good := q.good.set r true }) c
  else c

/-- A wait condition holds (Table 6.6). [DEDUCED, log 49] -/
def seqCond (c : Chip) (wtype wnum : Nat) : Bool :=
  let r : Fin 16 := Fin.ofNat 16 wnum
  let p : Fin 8 := Fin.ofNat 8 wnum
  let m : Fin 64 := Fin.ofNat 64 wnum
  if wtype = 0 then true
  else if wtype = 1 then c.seq.good[r]
  else if wtype = 2 then c.rails[r].state == .off
  else if wtype = 3 then c.pps[p].pg
  else if wtype = 4 then c.pps[p].state == .off
  else if wtype = 5 then inWindow c m
  else if wtype = 6 then c.wms[m].faultUv
  else if wtype = 7 then available c (Fin.ofNat 4 wnum)
  else if wtype = 8 then c.rms[p].en && !c.rms[p].alarm
  else sourceGood c

/-- The PG outputs are released while the power-up table has asserted them and their `PgFollow` holds (R208). -/
def pgOutputs (c : Chip) : Chip :=
  setSeq (fun q => { q with pgOut := Vector.ofFn fun n =>
    let f := nat c (kPgFollow n)
    q.pgAsserted[n] && (f == 0 || seqCond c (f / 4096) (f % 256)) }) c

/-- Every start condition is judged by level (R84, R168). -/
def startAll (c : Chip) : Chip := each (List.finRange 8) ppStart (each (List.finRange 16) railStart c)

/-- A target is marked reached or not, with what follows at once (R203, R204). -/
def seqMark (ttype tnum : Nat) (on : Bool) (c : Chip) : Chip :=
  let r : Fin 16 := Fin.ofNat 16 tnum
  let p : Fin 8 := Fin.ofNat 8 tnum
  let s : Fin 4 := Fin.ofNat 4 tnum
  if ttype = 1 then
    let c := setSeq (fun q => { q with railReached := q.railReached.set r on }) c
    if on then railStart r c else railStop r c
  else if ttype = 2 then
    let c := setSeq (fun q => { q with ppReached := q.ppReached.set p on }) c
    if on then ppStart p c else ppStop p c
  else if ttype = 3 then
    rmRefresh p (setRm p (fun x => { x with seqEn := on }) (setSeq (fun q => { q with rmReached := q.rmReached.set p on }) c))
  else if ttype = 4 then
    let c := setSeq (fun q => { q with strReached := q.strReached.set s on }) c
    if on then strRelease s c else c
  else if ttype = 5 then pgOutputs (setSeq (fun q => { q with pgReached := q.pgReached.set p on }) c)
  else c

/-- A table's action on a target (R203, R204): the target is marked, and a PG output asserted or deasserted (R208). -/
def seqTake (ttype tnum : Nat) (on : Bool) (c : Chip) : Chip :=
  let c := if ttype = 5 then setSeq (fun q => { q with pgAsserted := q.pgAsserted.set (Fin.ofNat 8 tnum) on }) c else c
  seqMark ttype tnum on c

/-- A target is reached (Table 6.8). -/
def seqReached (c : Chip) (ttype tnum : Nat) : Bool :=
  if ttype = 1 then c.seq.railReached[Fin.ofNat 16 tnum]
  else if ttype = 2 then c.seq.ppReached[Fin.ofNat 8 tnum]
  else if ttype = 3 then c.seq.rmReached[Fin.ofNat 8 tnum]
  else if ttype = 4 then c.seq.strReached[Fin.ofNat 4 tnum]
  else if ttype = 5 then c.seq.pgReached[Fin.ofNat 8 tnum]
  else true

/-- The targets that can be marked: their TTYPE and how many there are (Table 6.4). -/
def seqTargets : List (Nat × Nat) :=
  [(1, 16), (2, 8), (3, 8), (4, 4), (5, 8)].flatMap fun t => (List.range t.2).map fun n => (t.1, n)

/-- Word A of an entry of the table in use. -/
def seqWordA (c : Chip) (j : Nat) : Nat :=
  if c.seq.state == .powerUp then nat c (kSeqUpWordA j) else nat c (kSeqDownWordA j)

/-- Word B of an entry of the table in use. -/
def seqWordB (c : Chip) (j : Nat) : Nat :=
  if c.seq.state == .powerUp then nat c (kSeqUpWordB j) else nat c (kSeqDownWordB j)

/-- DELAY of an entry, in µs (Table 6.5). -/
def seqDelay (c : Chip) (j : Nat) : Nat := seqWordB c j / 65536 * 100

/-- TIMEOUT of an entry, in µs (Table 6.5); 0: none. -/
def seqTimeout (c : Chip) (j : Nat) : Nat := seqWordB c j % 65536 * 1000

/-- The condition of the running entry holds (R202). -/
def entryCond (c : Chip) (j : Nat) : Bool := seqCond c (field (seqWordA c j) 20 4) (field (seqWordA c j) 0 8)

/-- The entry's condition has held for its delay (R202). -/
def delayOver (c : Chip) (j : Nat) : Bool :=
  entryCond c j && (seqDelay c j == 0 || match c.seq.condAt with
    | some t => decide (t + seqDelay c j ≤ c.clock.us)
    | none => false)

/-- The entry has run for its timeout, and has one (R202, R206). -/
def timedOut (c : Chip) (j : Nat) : Bool := seqTimeout c j != 0 && decide (c.seq.entryAt + seqTimeout c j ≤ c.clock.us)

/-- An entry starts (R202): its timeout runs, and its delay from the moment at which its condition holds. -/
def entryStart (j : Nat) (c : Chip) : Chip :=
  let held := if entryCond c j then some c.clock.us else none
  setSeq (fun q => { q with entry := some j, entryAt := c.clock.us, condAt := held }) c

/-- A tick of the running entry (R202): a break of its condition stops the delay, which restarts when it returns. -/
def entryTick (c : Chip) : Chip :=
  match c.seq.entry with
  | none => c
  | some j => setSeq (fun q => { q with
      condAt := if !entryCond c j then none else if q.condAt.isSome then q.condAt else some c.clock.us }) c

/-- The power-up table has completed (Table 6.7, R203): every target with no entry is marked reached. -/
def seqUpDone (c : Chip) : Chip :=
  let c := setSeq (fun q => { q with state := .up, entry := none, upComplete := true }) c
  each (seqTargets.filter fun t => !hasUpEntry c t.1 t.2) (fun t => seqMark t.1 t.2 true) c

/-- The power-down table has completed (Table 6.7): the minimum off-time starts. -/
def seqDownDone (c : Chip) : Chip :=
  setSeq (fun q => { q with
    state := if q.pendingOn then .offHold else .off, entry := none, pendingOn := false, offAt := some c.clock.us }) c

/-- The first power-down entry from `j` on that runs (R204): one whose target is reached, or of TTYPE 0. -/
def nextDown (c : Chip) (j : Nat) : Option Nat :=
  (List.range (nat c kSeqDownLength)).find? fun i =>
    decide (j ≤ i) && seqReached c (field (nat c (kSeqDownWordA i)) 28 4) (field (nat c (kSeqDownWordA i)) 24 4)

/-- The table goes on with entry `j`, or has completed (R202, Table 6.7). -/
def seqEnter (j : Nat) (c : Chip) : Chip :=
  match c.seq.state with
  | .powerUp => if j < nat c kSeqUpLength then entryStart j c else seqUpDone c
  | .powerDown =>
    match nextDown c j with
    | some i => entryStart i c
    | none => seqDownDone c
  | _ => c

/-- The power-up table starts at entry 0. -/
def seqStartUp (c : Chip) : Chip :=
  seqEnter 0 (setSeq (fun q => { q with state := .powerUp, upComplete := false, pendingOn := false }) c)

/-- The power-down table starts at entry 0. -/
def seqStartDown (c : Chip) : Chip :=
  seqEnter 0 (setSeq (fun q => { q with state := .powerDown, upComplete := false, pendingOn := false }) c)

/-- `SeqMinOffTime` has passed since the last power-down completed, if one has (Table 6.7). -/
def minOffPassed (c : Chip) : Bool :=
  match c.seq.offAt with
  | none => true
  | some t => decide (t + nat c kSeqMinOffTime * 1000 ≤ c.clock.us)

/-- An on request (Table 6.7). -/
def seqOn (c : Chip) : Chip :=
  match c.seq.state with
  | .off =>
    if minOffPassed c then seqStartUp c else setSeq (fun q => { q with state := .offHold }) c
  | .powerDown => setSeq (fun q => { q with pendingOn := true }) c
  | .powerUp | .up | .offHold => c

/-- An off request (Table 6.7). -/
def seqOff (c : Chip) : Chip :=
  match c.seq.state with
  | .powerUp | .up => seqStartDown c
  | .powerDown => setSeq (fun q => { q with pendingOn := false }) c
  | .offHold => setSeq (fun q => { q with state := .off }) c
  | .off => c

/-- SEQ_MIN_OFF_ELAPSED (Table 6.7). -/
def seqMinOffElapsed (c : Chip) : Chip := if c.seq.state == .offHold && drives c && minOffPassed c then seqStartUp c else c

/-- The running entry acts on its target, and the next one starts (R202 to R204). -/
def seqAct (j : Nat) (c : Chip) : Chip :=
  let a := seqWordA c j
  seqEnter (j + 1) (seqTake (field a 28 4) (field a 24 4) (c.seq.state == .powerUp) c)

/-- SEQ_ENTRY_DELAY_END (R202): the condition has held throughout the delay. -/
def seqEntryDelayEnd (c : Chip) : Chip :=
  match c.seq.entry with
  | none => c
  | some j => if delayOver c j && drives c then seqAct j c else c

/-- SEQ_UP_TIMEOUT (R206). -/
def seqUpTimeout (c : Chip) : Chip :=
  match c.seq.entry with
  | none => c
  | some j =>
    if c.seq.state != .powerUp || !drives c || !timedOut c j then c
    else
      let c := raise 230 1 0 c
      if nat c kSeqUpTimeoutAction = 1 then seqOff c else seqEnter (j + 1) c

/-- SEQ_DOWN_TIMEOUT (R206). -/
def seqDownTimeout (c : Chip) : Chip :=
  match c.seq.entry with
  | none => c
  | some j => if c.seq.state != .powerDown || !drives c || !timedOut c j then c else seqAct j (raise 231 1 0 c)

/-- The sequencer acts on source 232 turning SEVERE (R200); a standby's changes no state (R415). -/
def seqChatterAction (c : Chip) : Chip :=
  let a := nat c kSeqChatterAction
  if drives c && ((a = 1 && c.seq.state == .powerUp) || a = 2) then seqOff c else c

/-- SEQ_TICK (R167): the ports step by step, then what the SEQ hamlet judges by level: the condition of the running entry,
start conditions and PG outputs. [DEDUCED, log 51] -/
def seqTick (samples : List Sample) (c : Chip) : Chip :=
  let c := takeSamples samples c
  if !drives c then c
  else pgOutputs (startAll (entryTick (each (List.finRange 4) strRelease (each (List.finRange 8) ppTick c))))

/-! ### The commands -/

/-- SEQ_TICK (R167) answers the state with its effect. -/
def execSeqTick (samples : List Sample) (s : State) : Host.Outcome State Fault Refusal :=
  guarded (samples.all Sample.fits) s (seqTick samples s.chip)

/-- RAW_GOOD_TRANSITION (R198) answers the state with its effect. -/
def execRawGoodTransition (r : Fin 16) (s : State) : Host.Outcome State Fault Refusal :=
  answer s (rawGoodTransition r s.chip)

/-- RAIL_GOOD_QUALIFIED (R198) answers the state with its effect. -/
def execRailGoodQualified (r : Fin 16) (s : State) : Host.Outcome State Fault Refusal :=
  answer s (railGoodQualified r s.chip)

/-- SEQ_ENTRY_DELAY_END (R202) answers the state with its effect. -/
def execSeqEntryDelayEnd (s : State) : Host.Outcome State Fault Refusal := answer s (seqEntryDelayEnd s.chip)

/-- SEQ_UP_TIMEOUT (R206) answers the state with its effect. -/
def execSeqUpTimeout (s : State) : Host.Outcome State Fault Refusal := answer s (seqUpTimeout s.chip)

/-- SEQ_DOWN_TIMEOUT (R206) answers the state with its effect. -/
def execSeqDownTimeout (s : State) : Host.Outcome State Fault Refusal := answer s (seqDownTimeout s.chip)

/-- SEQ_MIN_OFF_ELAPSED (R207) answers the state with its effect. -/
def execSeqMinOffElapsed (s : State) : Host.Outcome State Fault Refusal := answer s (seqMinOffElapsed s.chip)

end Sys2Proof.Machine
end

