-- ==== Sys2Proof/Machine/Flags.lean ====
section
/-! DEFINITION. Every status word of the spec, bit by bit, and the state numbers that objects show. -/

namespace Sys2Proof.Machine

/-! ### Numbers of states -/

/-- `StrState` (Table 4.4). -/
def StrState.number : StrState → Nat
  | .unfitted => 0
  | .qualifying => 1
  | .closing => 2
  | .inService => 3
  | .fallow => 4
  | .absent => 5
  | .opened => 6
  | .ship => 7
  | .fault => 8

/-- `PpState` (Table 5.2). -/
def PpState.number : PpState → Nat
  | .off => 0
  | .waitInput => 1
  | .insert => 2
  | .ramp => 3
  | .on => 4
  | .retryWait => 5
  | .latched => 6
  | .shed => 7
  | .reverse => 8

/-- `SeqState` (Table 6.7). -/
def SeqState.number : SeqState → Nat
  | .off => 0
  | .powerUp => 1
  | .up => 2
  | .powerDown => 3
  | .offHold => 4

/-- `MillState` (Table 7.15). -/
def MillState.number : MillState → Nat
  | .idle => 0
  | .loading => 1
  | .ready => 2
  | .stopped => 3
  | .reset => 4

/-- `MillTraceState` (Table 7.15). -/
def TraceState.number : TraceState → Nat
  | .idle => 0
  | .armed => 1
  | .triggered => 2
  | .done => 3

/-- `HamperState` (Table 8.8). -/
def HamperState.number : HamperState → Nat
  | .opened => 1
  | .joined => 2
  | .validating => 3
  | .prepared => 4
  | .armed => 5
  | .applied => 6
  | .rolledBack => 7
  | .failed => 8
  | .aborted => 9
  | .partial_ => 10

/-- The NMT field of `CanStatus` (Table 9.6). -/
def NmtState.number : NmtState → Nat
  | .initialising => 0
  | .preOperational => 1
  | .operational => 2
  | .stopped => 3

/-- `LaneState` (Table 10.3). -/
def LaneState.number : LaneState → Nat
  | .off => 0
  | .joining => 1
  | .member => 2
  | .duplicate => 3

/-- `SrcState` (Table 11.2). -/
def SrcState.number : SrcState → Nat
  | .clear => 0
  | .active => 1
  | .severe => 2
  | .quiet => 3

/-- `TwinRole` (Table 13.6). -/
def TwinRole.number : TwinRole → Nat
  | .single => 0
  | .preferred => 1
  | .alternate => 2

/-- `TwinState` (Table 13.4). -/
def TwinState.number : TwinState → Nat
  | .single => 0
  | .starting => 1
  | .owner => 2
  | .releasing => 3
  | .standby => 4

/-- `AlmExportState` (Table 12.6). -/
def ExpState.number : ExpState → Nat
  | .none => 0
  | .ready => 1
  | .receipted => 2

/-- `ResetCause` (Table 14.1). -/
def ResetCause.number : ResetCause → Nat
  | .powerOn => 0
  | .external => 1
  | .watch => 2
  | .reeveWatchdog => 3
  | .thermalRestart => 4
  | .lifeCycle => 5
  | .command => 6

/-- The image status codes (Table 14.7). -/
def imageStatusNumber : ImageStatus → Nat
  | .valid => 0
  | .erased => 1
  | .headerMalformed => 2
  | .productNotServed => 3
  | .keyMismatch => 4
  | .signatureInvalid => 5
  | .digestMismatch => 6
  | .notChecked => 7

/-- `UpdateState` (Table 14.12). -/
def UpdateState.number : UpdateState → Nat
  | .idle => 0
  | .erasing => 1
  | .receiving => 2
  | .ended => 3
  | .abandoned => 4

/-- `ParamStoreState` (Table 14.12). -/
def StoreState.number : StoreState → Nat
  | .idle => 0
  | .running => 1
  | .done => 2
  | .failed => 3

/-! ### Status words -/

/-- A sub-index of `HamletStatus` (Table 1.5). -/
def hamletStatus (c : Chip) (h : Fin 27) : Nat :=
  let x := c.hamlets[h]
  min 65535 x.wakes * 65536 + bit (c.clock.refLost && h.val != 0) 7 + bit x.closed 6 + bit x.realign 5 + bit x.blkrst 4 + bit x.parked 3 +
    bit x.waking 2 + bit x.run 0

/-- `RmStatus` (Table 2.2). -/
def rmStatus (c : Chip) (n : Fin 8) : Nat :=
  let r := c.rms[n]
  let t := r.trim.toNat
  bit r.fallback 7 + bit (t == nat c (kRmTrimMin n) || t == nat c (kRmTrimMax n)) 6 + bit r.shareStale 5 +
    bit r.shareOor 4 + bit r.alarm 3 + bit (r.en && c.twin.state != .standby) 2 + bit r.seqEn 1 + bit (flag c (kRmFitted n)) 0

/-- `WellStatus` (Table 2.7). -/
def wellStatus (c : Chip) : Nat := bit c.well.stale 0 + bit c.well.capLow 1 + bit c.well.noString 2

/-- CAUSE of `PhStatus` (Table 3.2). -/
def DropCause.number : DropCause → Nat
  | .none => 0
  | .openPhase => 1
  | .pilot => 2
  | .range => 3
  | .ripple => 4
  | .disagreement => 5

/-- `PhStatus` (Table 3.2). -/
def phStatus (c : Chip) (p : Fin 32) : Nat :=
  let x := c.phases[p]
  bit x.dropped 7 + 16 * x.cause.number + bit (within c 1000 x.peakAt) 3 + bit x.kill 2 + bit (x.drven && c.twin.state != .standby) 1 +
    bit (railOfPhase c p).isSome 0

/-- `RailStatus` (Table 3.11). -/
def railStatus (c : Chip) (r : Fin 16) : Nat :=
  let x := c.rails[r]
  bit x.dutyLim 11 + bit x.iLim 10 + bit x.capReq 9 + bit (phLost c r) 8 + bit x.syncLost 7 + bit x.syncLock 6 +
    bit x.fbLost 5 + bit x.killed 4 + bit x.prebias 3 + (railMode c r).number

/-- `StrStatus` (Table 4.12). -/
def strStatus (c : Chip) (s : Fin 4) : Nat :=
  let x := c.strs[s]
  bit x.overV 10 + bit x.learnRej 9 + bit x.resting 8 + bit x.lowConf 7 + bit x.estOld 6 + bit x.frozen 5 +
    bit x.wdFallback 4 + bit x.ntcFail 3 + bit x.closed 2 + bit (x.sw || x.shipLatch) 1 + bit (!available c s) 0

/-- `PpStatus` (Table 5.6). -/
def ppStatus (c : Chip) (n : Fin 8) : Nat :=
  let p := c.pps[n]
  let fails := !passes c (80 + n) || !passes c (88 + n) || !passes c (96 + n)
  bit fails 10 + bit p.pgDefer 9 + bit p.pg 8 + bit (p.state == .reverse) 7 + bit p.limiting 6 + bit p.timer 5 +
    bit p.kill 4 + bit p.ovOk 3 + bit p.uvOk 2 + bit (p.foff || c.twin.state == .standby) 1 + bit (p.gate != 0) 0

/-- `WmStatus` (Table 6.3). -/
def wmStatus (c : Chip) (m : Fin 64) : Nat :=
  let w := c.wms[m]
  bit (w.errUv || w.errOv) 9 + bit (wmStale c m) 8 + bit w.killed 7 + bit w.warnOv 6 + bit (w.warnUv && !uvMasked c m) 5 +
    bit (faultOv c m) 4 + bit (faultUv c m) 3 + bit (uvMasked c m) 2 + bit (inWindow c m) 1 + bit (flag c (kWmEnable m)) 0

/-- A rail that the mill hosts has found its command channel STALE (Table 7.16). -/
def staleCmd (c : Chip) (m : Fin 16) : Bool := (railsOf c m).any fun r => c.rails[r].stale

/-- `MillStatus` (Table 7.16). -/
def millStatus (c : Chip) (m : Fin 16) : Nat :=
  let x := c.mills[m]
  bit (staleCmd c m) 8 + bit x.stat.hbLost 7 + bit x.stat.runLimit 6 + bit x.stat.illegal 5 +
    bit (within c 1000000 x.stat.wrejAt) 4 + bit (within c 1000000 x.stat.overrunAt) 3 +
    bit (within c 1000000 x.stat.satAt) 2 + bit x.bankPend 1 + bit (x.state == .ready) 0

/-- `HamperResult` (Table 8.9). -/
def resultWord (r : Result) : Nat :=
  r.status.number * 2 ^ 24 + r.detail.number * 2 ^ 18 + r.node % 1024 * 256 + r.pos % 256

/-- The line is in use (R292). -/
def lineUsed (c : Chip) (l : Fin 2) : Bool := l.val == 0 || nat c kCanMode == 1

/-- `CanStatus` of a line (Table 9.6). -/
def canStatus (c : Chip) (l : Fin 2) : Nat :=
  let x := c.can.lines[l]
  c.can.nmt.number * 64 + bit (within c 1000000 x.emcyDropAt) 5 + bit (c.can.rpdoStale != 0) 4 + bit x.hbTimedOut[0] 3 +
    bit x.busOff 2 + bit x.errPassive 1 + bit (lineUsed c l) 0

/-- `TwStatus` (Table 9.9); a frame reaches the model whole, so that no transaction is ever in progress. -/
def twStatus (c : Chip) : Nat :=
  bit (within c 1000000 c.tw.dupAt) 4 + bit (within c 1000000 c.tw.pecAt) 3 + bit (within c 1000000 c.tw.sdaAt) 2 +
    bit (within c 1000000 c.tw.sclAt) 1

/-- `LaneStatus` (Table 10.8). -/
def laneStatus (c : Chip) : Nat :=
  let l := c.lane
  bit (within c 1000000 l.epochAt) 8 + bit l.dupId 7 + bit l.tvalid 6 +
    bit (l.master == some l.nodeIdNow && l.state == .member) 5 + bit l.holdover 4 + bit (l.wrap == some .a) 3 +
    bit (l.wrap == some .b) 2 + bit l.linkB.up 1 + bit l.linkA.up 0

/-- `LanePortStatus` of a port (Table 10.7). -/
def lanePortStatus (c : Chip) (p : LanePort) : Nat :=
  let x := match p with
    | .a => c.lane.linkA
    | .b => c.lane.linkB
  bit x.farRxOk 3 + bit x.miswire 2 + bit (c.lane.wrap.isSome && c.lane.wrap != some p) 1 + bit x.up 0

/-- `ThermStatus` (Table 11.10). -/
def thermStatus (c : Chip) : Nat :=
  let mask := nat c kThermMask
  bit c.therm.stopping 3 + bit ((List.finRange 12).any fun k => c.therm.dies[k].broken) 2 + bit (mask != 0) 1 +
    bit ((List.finRange 12).any fun k => c.therm.dies[k].warned && !hasBit mask k) 0

/-! ### The Watch and the twin -/

/-- The set in force of a source in a state: its eight bits (Table 11.3). -/
def setOf (c : Chip) (i : Fin 256) (severe : Bool) : Nat :=
  let v := nat c (kSrcReaction i)
  if severe then v / 256 else v % 256

/-- The boot has taken the stored Watch settings (Table 14.3, step 10). -/
def settingsTaken (c : Chip) : Bool :=
  match c.boot.phase with
  | .running => true
  | .step n => decide (9 ≤ n.val)
  | _ => false

/-- `FAULT#` is low (R360). -/
def faultPin (c : Chip) : Bool :=
  !settingsTaken c || c.watch.safe || c.reeve.watchdog || (List.finRange 256).any fun i =>
    match c.watch.srcs[i].state with
    | .active => hasBit (setOf c i false) 4
    | .severe => hasBit (setOf c i true) 4
    | _ => false

/-- The error register (R304, Table 9.3): the sources that set each of its bits. -/
def errorBit (i : Nat) : Nat :=
  if i ≤ 31 || (72 ≤ i && i ≤ 79) then 1
  else if i ≤ 143 then 2
  else if i ≤ 155 then 3
  else if 172 ≤ i && i ≤ 191 then 4
  else 7

/-- `ErrorRegister` (R304). [DEDUCED, log 87] -/
def errorRegister (c : Chip) : Nat :=
  let on := (List.finRange 256).filter fun i => c.watch.srcs[i].state != .clear
  let bitOf (b : Nat) : Nat := bit (on.any fun i => errorBit i == b) b
  bit (!on.isEmpty) 0 + bitOf 1 + bitOf 2 + bitOf 3 + bitOf 4 + bitOf 7

/-- The source is set in `TwinGiveUpMap`. [DEDUCED, log 107] -/
def inGiveUpMap (c : Chip) (i : Nat) : Bool := hasBit ((bytes c kTwinGiveUpMap).getD (i / 8) 0).toNat (i % 8)

/-- The unit is HEALTHY (R410). [DEDUCED, log 110, 112] -/
def healthy (c : Chip) : Bool :=
  let bad (s : SrcState) : Bool := s == .active || s == .severe
  !c.twin.lockstep &&
    ((List.finRange 16).all fun m => !millServes c m || (c.mills[m].state == .ready && !c.mills[m].stat.hbLost)) &&
    !bad c.watch.srcs[(245 : Fin 256)].state && !bad c.watch.srcs[(246 : Fin 256)].state &&
    (List.finRange 256).all fun i => !(inGiveUpMap c i && bad c.watch.srcs[i].state)

/-- The partner's last STATE frame shows HEALTHY and READY (Table 13.7). -/
def partnerReady (c : Chip) : Bool :=
  match c.twin.partner with
  | some f => f.healthy && f.ready
  | none => false

/-- `TwinStatus` (Table 13.7). -/
def twinStatus (c : Chip) : Nat :=
  let t := c.twin
  bit t.ownOut 8 + bit t.ret 7 + bit (within c 1000000 t.yieldAt) 6 + bit t.holding 5 + bit t.stale 4 +
    bit (partnerReady c) 3 + bit (healthy c) 2 + bit t.ownIn 1 + bit t.link 0

end Sys2Proof.Machine
end

