-- ==== Sys2Proof/Machine/Emcy.lean ====
section
/-! DEFINITION. EMCY messages (R304, R305) and the return of a Watch source to CLEAR (Table 11.2). -/

namespace Sys2Proof.Machine

/-- The error code of a source (Table 9.3). -/
def emcyCode (i : Nat) : Nat :=
  if i ≤ 31 || (72 ≤ i && i ≤ 79) then 0x2300
  else if i ≤ 47 then 0x3300
  else if i ≤ 63 then 0x3100
  else if i ≤ 143 then 0x3200
  else if i ≤ 155 then 0x4200
  else if i ≤ 171 then 0x6100
  else if i ≤ 191 then 0x8100
  else if i ≤ 229 then 0x5000
  else if 240 ≤ i && i ≤ 247 then 0x6000
  else 0xFF00

/-- An EMCY can be queued: `CanEmcyEnable` is 1 and the NMT state is Pre-operational or Operational (R304). -/
def emcyOn (c : Chip) : Bool :=
  flag c kCanEmcyEnable && (c.can.nmt == .preOperational || c.can.nmt == .operational)

/-- An EMCY joins the queue of a line, or is dropped and counted where 16 wait (R305). [DEDUCED, log 87] -/
def emcyPush (e : Emcy) (l : Fin 2) (c : Chip) : Chip :=
  if c.can.lines[l].emcyQ.length < 16 then setLine l (fun x => { x with emcyQ := x.emcyQ ++ [e] }) c
  else setCan (fun x => { x with emcyLost := satSucc 65535 x.emcyLost })
    (setLine l (fun x => { x with emcyDropAt := some c.clock.us }) c)

/-- The EMCY of a transition of a source (R304, Table 9.2), on every line in use. [DEDUCED, log 87] -/
def emcy (i : Fin 256) (dest : SrcState) (register record : Nat) (c : Chip) : Chip :=
  let code := if dest = .clear then 0 else emcyCode i
  let e : Emcy :=
    { code := BitVec.ofNat 16 code, register := BitVec.ofNat 8 register, source := i
      transition := BitVec.ofNat 8 dest.number, record := BitVec.ofNat 24 record }
  when (emcyOn c) (each ((List.finRange 2).filter (lineUsed c)) (emcyPush e)) c

/-- A source returns to CLEAR, with its EMCY (R304). [DEDUCED, log 87] -/
def sourceCleared (i : Fin 256) (c : Chip) : Chip :=
  let c := setSrc i (fun x => { x with state := .clear }) c
  emcy i .clear (errorRegister c) 0 c

/-- A source disabled is CLEAR, its history gone (Table 11.2). [DEDUCED, log 87] -/
def clearSource (i : Fin 256) (c : Chip) : Chip :=
  let was := c.watch.srcs[i].state
  let c := setSrc i (fun x => { x with times := [] }) c
  when (was != .clear) (sourceCleared i) c

end Sys2Proof.Machine
end

