-- ==== Sys2Proof/Machine/HamperOps.lean ====
section
/-! DEFINITION. What the hampers share: changing one, ending one, its place in the queue of apply instants, and the
effect of a lost origin (R271, R282, R283). -/

namespace Sys2Proof.Machine

/-- The hamper of a handle changes. -/
def setHamper (handle : Nat) (f : Hamper → Hamper) (c : Chip) : Chip :=
  setHampers (fun h => { h with list := h.list.map fun x => if x.handle == handle then f x else x }) c

/-- The number of the request that brought an item which is still to be validated (R280): of a hamper its command's, of an
implicit hamper its write's. -/
def itemOrder (c : Chip) : Item → Option Nat
  | .hamper handle false => (hamperOf c handle).map (·.order)
  | .implicit _ id _ _ => some id
  | .hamper _ true | .mirror _ _ _ | .store | .exercise => none

/-- An item placed before the first one that was admitted after it. -/
def placeItem (later : Item → Bool) (i : Item) : List Item → List Item
  | [] => [i]
  | q :: rest => if later q then i :: q :: rest else q :: placeItem later i rest

/-- An item is added to those that wait for an apply instant: hampers in the order in which their commands were admitted,
which is that of their requests' numbers (R257, R280); every other item behind them. -/
def enqueue (i : Item) (c : Chip) : Chip :=
  let later (q : Item) : Bool := match itemOrder c i, itemOrder c q with
    | some a, some b => decide (a < b)
    | _, _ => false
  setHampers (fun h => { h with queue := placeItem later i h.queue }) c

/-- The hamper waits for no apply instant any more. -/
def unqueue (handle : Nat) (c : Chip) : Chip :=
  setHampers (fun h =>
    { h with queue := h.queue.filter fun q => q != .hamper handle true && q != .hamper handle false }) c

/-- The request that waits for a hamper completes. -/
def completeHeld (h : Hamper) (st : Status) (c : Chip) : Chip :=
  match h.req with
  | some id => completeId id st [] c
  | none => c

/-- A hamper ends (R282, R283): its staged writes and locks go, its outcome stays, and a command that waits completes. -/
def endHamper (h : Hamper) (dest : HamperState) (r : Result) (st : Status) (c : Chip) : Chip :=
  completeHeld h st (unqueue h.handle
    (setHamper h.handle (fun x => { x with state := dest, result := r, writes := [], req := none }) c))

/-- A hamper is rolled back (R282). -/
def rollBack (h : Hamper) (c : Chip) : Chip := endHamper h .rolledBack {} .ok c

/-- Every OPEN or JOINED hamper of lost origins is rolled back (R282). -/
def originsLost (p : Origin → Bool) (c : Chip) : Chip :=
  each (c.hampers.list.filter fun h => p h.origin && (h.state == .opened || h.state == .joined)) rollBack c

/-- An origin is lost (Table 8.2). -/
def originLost (o : Origin) (c : Chip) : Chip := originsLost (· == o) c

/-- This node's Lane ID, as `HamperResult` names it. -/
def ownNode (c : Chip) : Nat := c.lane.nodeIdNow

/-- The entries that hold T (Table 12.4, code 11h). -/
def timeEntries (t : Nat) : List Nat := [t % 2 ^ 32, t / 2 ^ 32 % 2 ^ 32]

/-- The value that names a coordinator and its handle (Table 12.4, code 11h): for a hamper that no coordinator leads,
this node and its own handle. -/
def domainValue (c : Chip) (h : Hamper) : Int :=
  match h.join with
  | some (n, k) => ((n.val * 256 + k.toNat : Nat) : Int)
  | none => ((ownNode c * 256 + h.handle : Nat) : Int)

end Sys2Proof.Machine
end

