-- ==== Sys2Proof/Machine/LaneOps.lean ====
section
/-! DEFINITION. What the Lane's rows share: the time master, the epoch, membership, `LaneTimeSet` and the gateway's
requests (R339, R343, R345, R346, R349). -/

namespace Sys2Proof.Machine

/-! ### Lane time -/

/-- TVALID clears: one event (R345). [DEDUCED, log 100] -/
def clearTvalid (c : Chip) : Chip :=
  when c.lane.tvalid (fun c => raise 183 4 0 (setLane (fun l => { l with tvalid := false, lockCount := 0 }) c)) c

/-- The node is the time master. -/
def isMaster (c : Chip) : Bool := c.lane.master == some c.lane.nodeIdNow && c.lane.state == .member

/-- An ARMED hamper is discarded at an epoch change, with a CRITICAL record (R346). -/
def discardArmed (h : Hamper) (c : Chip) : Chip :=
  endHamper h .aborted { status := .aborted, node := ownNode c, pos := 255 } .aborted
    (log 0x15 183 3 (domainValue c h) (timeEntries h.t) c)

/-- The epoch changes (R346). The master's TVALID is always set (R345); any other node's clears until relock.
[DEDUCED, log 100] -/
def epochChange (e : BitVec 8) (c : Chip) : Chip :=
  let c := setLane (fun l => { l with epoch := e, epochAt := some c.clock.us, slew := 0 }) c
  let c := when (!isMaster c) clearTvalid c
  let c := each (c.hampers.list.filter fun h => h.state == .armed) discardArmed c
  raise 183 5 0 c

/-- The Lane time steps. [DESIGN CHOICE, log 99] -/
def stepLaneTime (t : Nat) (c : Chip) : Chip := { c with clock := { c.clock with laneNs := t % 2 ^ 64 } }

/-- The node's own claim to be time master (R343). -/
def ownEligible (c : Chip) : Bool := c.lane.state == .member && flag c kLaneTimeEligible && !c.clock.refLost

/-- A node's last ROLL, received within `LaneNodeTimeout`, shows it MEMBER, eligible and free of REFLOST (R343). A
joining node sends an age of 0 (R340). -/
def eligibleNode (c : Chip) (n : LaneNode) : Bool :=
  match n.roll with
  | some (f, t) => within c (nat c kLaneNodeTimeout * 1000) (some t) && f.age != 0 && f.flags.eligible && !f.flags.refLost
  | none => false

/-- The lowest of some node numbers. -/
def lowest (l : List Nat) : Option Nat := l.foldl (fun a n => match a with
  | none => some n
  | some b => some (min b n)) none

/-- The time master by R343; a node that is OFF or a duplicate chooses none. -/
def masterNow (c : Chip) : Option Nat :=
  match c.lane.state with
  | .off | .duplicate => none
  | .joining | .member =>
    lowest ((c.lane.nodes.filter (eligibleNode c)).map (fun n => n.node.val) ++
      if ownEligible c then [c.lane.nodeIdNow] else [])

/-- The node becomes master (R343): it goes on from valid time, or starts at 0 with a new epoch; its TVALID is set. -/
def becomeMaster (c : Chip) : Chip :=
  let valid := c.lane.tvalid
  let c := setLane (fun l => { l with tvalid := true, holdover := false, holdoverAt := none, timeWritten := false, hops := 0 }) c
  if valid then c else epochChange (c.lane.epoch + 1) (stepLaneTime 0 c)

/-- The time master is chosen again (R343): a change records one event. [DEDUCED, log 94] -/
def chooseMaster (c : Chip) : Chip :=
  let m := masterNow c
  if m = c.lane.master then c
  else
    let c := raise 183 3 0 (setLane (fun l => { l with master := m }) c)
    when (isMaster c) becomeMaster c

/-- A write of `LaneTimeSet` (R346). [DEDUCED, log 100] -/
def laneTimeWrite (v : List Byte) (c : Chip) : Status × Chip :=
  let t : Int := leNat v
  let d := t - c.clock.laneNs
  if !isMaster c then (.stateConflict, c)
  else if !c.lane.timeWritten then
    (.ok, epochChange (c.lane.epoch + 1) (stepLaneTime t.toNat (setLane (fun l => { l with timeWritten := true }) c)))
  else if d < -1000000000 || 1000000000 < d then (.range, c)
  else (.ok, setLane (fun l => { l with slew := d }) c)

/-! ### Membership -/

/-- Every Lane origin is lost (R339). [DESIGN CHOICE, log 101] -/
def laneOriginsLost (c : Chip) : Chip := originsLost laneOrigin c

/-- The node starts joining (Table 10.3): enabled, a link up, the boot step table completed, and not BLANK (Table 14.10). -/
def laneJoin (c : Chip) : Chip :=
  if c.lane.state == .off && flag c kLaneEnable && (c.lane.linkA.up || c.lane.linkB.up) && c.boot.phase == .running &&
      lifeCycle c != .blank then
    chooseMaster (setLane (fun l => { l with state := .joining, memberSince := none, joinedAt := some c.clock.us }) c)
  else c

/-- `LaneEnable` written 0 (Table 10.3): OFF, but a node leaves DUPLICATE only through chip reset. [DEDUCED, log 98] -/
def laneOff (c : Chip) : Chip :=
  chooseMaster (laneOriginsLost (setLane (fun l => { l with
    state := if l.state == .duplicate then .duplicate else .off, memberSince := none, joinedAt := none }) c))

/-- `LaneEnable` is in force at a new value. [DEDUCED, log 52, 98] -/
def laneEnabled (c : Chip) : Chip := if flag c kLaneEnable then (if c.lane.dupId then c else laneJoin c) else laneOff c

/-! ### The gateway -/

/-- A write of `LaneGwRequest` (R349): the target and class, then a REQUEST payload. [DEDUCED, log 103] -/
def gwRequest (v : List Byte) (c : Chip) : Status × Chip :=
  let head := leNat (v.take 2)
  let node : Fin 1024 := Fin.ofNat 1024 (head % 1024)
  let alm := hasBit head 15
  let payload := v.drop 2
  if c.lane.state != .member then (.stateConflict, c)
  else if 32 ≤ c.gw.waiting.length then (.busy, c)
  else
    let tag := BitVec.ofNat 16 (leNat ((payload.drop 2).take 2))
    let q : GwReq := { node := node, alm := alm, tag := tag, head := payload.take 7, at_ := c.clock.us }
    (.ok, laneUnicast node (if alm then 4 else 3) payload (setGw (fun g => { g with waiting := g.waiting ++ [q] }) c))

/-- A read of `LaneGwResult` removes the oldest response (R349). -/
def gwCollect (c : Chip) : Chip := setGw (fun g => { g with results := g.results.drop 1 }) c

end Sys2Proof.Machine
end

