-- ==== Sys2Proof/Machine/NorLayout.lean ====
section
/-! DEFINITION. What stands in the NOR (R433 to R436, R440, R441): the directory record, the image header and its check,
and the parameter set. -/

namespace Sys2Proof.Machine

/-- `n` bytes from byte `i` on, as a number (R6). -/
def numAt (b : List Byte) (i n : Nat) : Nat := leNat ((b.drop i).take n)

/-! ### The directory -/

/-- The data bytes of a directory record (Table 14.5) for a NOR of so many MiB; the address bytes are those of R432. -/
def dirBytes (seq size : Nat) : List Byte :=
  padTo 128 ([0x42, 0x44, 1, 0] ++ leBytes 4 seq ++ leBytes 2 size ++ leBytes 1 (if size = 16 then 3 else 4) ++ [0] ++
    leBytes 4 0x640000 ++ leBytes 4 (size * 2 ^ 20 - 2 ^ 19))

/-- The sequence of a record. -/
def dirSeq (b : List Byte) : Nat := numAt b 4 4

/-- The NOR size of a record, in MiB. -/
def dirSize (b : List Byte) : Nat := numAt b 8 2

/-- A copy is valid (R434): its codewords correct, and magic, format and layout fields match. [DEDUCED, log 134] -/
def dirValid (b : List Byte) : Bool := b == dirBytes (dirSeq b) (dirSize b)

/-- The record that the ROM uses: of the valid copies the one with the higher sequence (R434). -/
def directoryInUse (n : Nor) : Option (List Byte) :=
  match dirValid n.directory[(0 : Fin 2)], dirValid n.directory[(1 : Fin 2)] with
  | true, true =>
    some (if dirSeq n.directory[(0 : Fin 2)] < dirSeq n.directory[(1 : Fin 2)] then n.directory[(1 : Fin 2)] else n.directory[(0 : Fin 2)])
  | true, false => some n.directory[(0 : Fin 2)]
  | false, true => some n.directory[(1 : Fin 2)]
  | false, false => none

/-! ### Image slots -/

/-- `n` bytes of a slot from byte `i` on; erased flash reads FFh. -/
def Image.read (s : Image) (i n : Nat) : List Byte := (List.range n).map fun j => s.bytes.getD (i + j) 0xFF

/-- A number in the header of a slot (Table 14.6). -/
def Image.field (s : Image) (i n : Nat) : Nat := leNat (s.read i n)

/-- The generation in the header as read, without a check (R436): FFFFFFFFh of erased flash. [DEDUCED, log 129] -/
def Image.generation (s : Image) : Nat := s.field 4 4

/-- Nothing is programmed in the slot (Table 14.7). -/
def Image.erased (s : Image) : Bool := s.bytes.all (· == 0xFF)

/-- Magic, format and lengths of a header (Table 14.6, R435). [DEDUCED, log 129] -/
def Image.headerOk (s : Image) : Bool :=
  s.read 0 3 == [0x49, 0x4D, 1] && decide (s.field 8 4 ≤ 1572864) && decide (s.field 12 4 ≤ 2 ^ 20) &&
    decide (s.field 12 4 ≤ s.field 8 4) && decide (s.field 8 4 ≤ s.field 12 4 + 2 ^ 19)

/-- The check of a slot by the boot ROM (R436, Table 14.7), against the key hash of the fuses. -/
def Image.check (keyHash : List Byte) (s : Image) : ImageStatus :=
  if s.erased then .erased
  else if !s.headerOk then .headerMalformed
  else if s.field 16 4 != 0x6410 || decide (0xB001 < s.field 20 4) then .productNotServed
  else if (sha256 (s.read 64 64)).toList != keyHash then .keyMismatch
  else if !ecdsaVerify (s.read 64 64) (sha256 (s.read 0 64)).toList (s.read 128 64) then .signatureInvalid
  else if (sha256 (s.read 4096 (s.field 8 4))).toList != s.read 32 32 then .digestMismatch
  else .valid

/-! ### Parameter sets -/

/-- An entry of the body (R440). -/
def paramEntry (e : Key × List Byte) : List Byte :=
  leBytes 2 (e.1 / 256) ++ leBytes 1 e.1 ++ [0] ++ leBytes 2 e.2.length ++ e.2

/-- The body of a set, padded to whole codewords (R440). -/
def paramBody (l : List (Key × List Byte)) : List Byte :=
  let b := l.flatMap paramEntry
  padTo ((b.length + 31) / 32 * 32) b

/-- The data bytes of a set's header (Table 14.9). [DEDUCED, log 132] -/
def paramHeader (set : Fin 2) (generation length entries ms cycle life image : Nat) : List Byte :=
  [0x50, 0x53, 1] ++ leBytes 1 set.val ++ leBytes 4 generation ++ leBytes 4 length ++ leBytes 2 entries ++ [0, 0] ++
    timeBytes ms cycle ++ leBytes 1 life ++ [0] ++ leBytes 4 image ++ [0, 0]

/-- The data bytes of the commit marker of a header and a body (R440). -/
def paramMarker (header body : List Byte) : List Byte :=
  padTo 32 ([0x43, 0x4D, 1, 0] ++ (header.drop 4).take 8) ++ (sha256 (header ++ body)).toList

/-- The header of a region corrects, with the magic and format of Table 14.9. -/
def ParamRegion.headed (r : ParamRegion) : Bool := r.header.length == 32 && r.header.take 3 == [0x50, 0x53, 1]

/-- The generation in the header of a region. -/
def ParamRegion.generation (r : ParamRegion) : Nat := numAt r.header 4 4

/-- A set is committed (R441): header, body and marker correct, and the marker's generation, length and digest match. -/
def ParamRegion.committed (r : ParamRegion) : Bool :=
  r.headed && r.body.length == numAt r.header 8 4 && r.marker == paramMarker r.header r.body

/-- The entries at the start of a body, so many at the most. -/
def readEntries : Nat → List Byte → List (Key × List Byte)
  | 0, _ => []
  | n + 1, b =>
    let v := (b.drop 6).take (numAt b 4 2)
    if b.length < 6 || v.length < numAt b 4 2 then []
    else (numAt b 0 2 * 256 + numAt b 2 1, v) :: readEntries n (b.drop (6 + v.length))

/-- The entries of a set (R440). -/
def ParamRegion.entries (r : ParamRegion) : List (Key × List Byte) := readEntries (numAt r.header 12 2) r.body

end Sys2Proof.Machine
end

