-- ==== Sys2Proof/Machine/Read.lean ====
section
/-! DEFINITION. What a read of each object returns (R252, R259): the value in force of an object that a write
changes, and for every other object the value that its table computes. -/

namespace Sys2Proof.Machine

/-! ### Units -/

/-- A channel in 100 µV (Table 0.3). [DESIGN CHOICE, log 13] -/
def chanVolts (c : Chip) (ch : Nat) : Val := .num (roundRat (val c ch * 10000))

/-- A channel in 1 mA (Table 0.3). [DESIGN CHOICE, log 13] -/
def chanAmps (c : Chip) (ch : Nat) : Val := .num (roundRat (val c ch * 1000))

/-- A number that a status or a counter shows. [DESIGN CHOICE, log 13] -/
def shown (n : Nat) : Option Val := some (.num (n : Int))

/-- A number saturated to 32 bits. [DESIGN CHOICE, log 13] -/
def shown32 (n : Nat) : Option Val := shown (min 0xFFFFFFFF n)

/-! ### Tables 1.4 to 5.5 -/

/-- Table 1.4; the green's latencies are free values: the spec gives no length of a transfer. -/
def readHamlet (c : Chip) (i j : Nat) : Option Val :=
  if i = 0x2640 && 1 ≤ j then shown (hamletStatus c (Fin.ofNat 27 (j - 1)))
  else if i = 0x2642 && 1 ≤ j && j ≤ 4 then shown (freeWord c).toNat
  else if i = 0x2642 && j = 5 then shown ((freeWord c).toNat % 10001)
  else none

/-- Table 2.1. -/
def readRm (c : Chip) (n : Fin 8) (j : Nat) : Option Val :=
  if j = 11 then some (chanAmps c (48 + n))
  else if j = 12 then shown c.rms[n].trim.toNat
  else if j = 13 then shown (rmStatus c n)
  else none

/-- Tables 2.4, 2.6, 2.7, 2.9 and 2.10. -/
def readBus (c : Chip) (i j : Nat) : Option Val :=
  if i = 0x2C10 && j = 1 then some (.num (busHundredMicro c))
  else if i = 0x2C10 && j = 5 then shown (maskFin 4 (tapValid c))
  else if i = 0x2C30 && j = 5 then some (.num (roundRat (c.bus.plantTrim * 10000)))
  else if i = 0x2C30 && j = 6 then shown (youngMembers c).length
  else if i = 0x2C20 then
    (if j = 6 then shown c.well.published
    else if j = 7 then shown c.well.publishedBus
    else if j = 8 then shown c.well.publishedString
    else if j = 9 then shown c.well.publishedLessOne
    else if j = 10 then shown c.well.rideNow
    else if j = 11 then shown c.well.rideDesign
    else if j = 12 then shown (wellStatus c)
    else if j = 13 then shown c.well.capMeasured
    else none)
  else if i = 0x2C00 then
    (if j = 1 then shown c.bus.state.number
    else if j = 2 then shown32 c.bus.handovers
    else if j = 3 then shown32 ((c.clock.us - c.bus.since) / 1000)
    else none)
  else if i = 0x2C40 then
    (if j = 11 then some (.num c.cap.budget)
    else if j = 12 then some (.num c.cap.demand)
    else if j = 13 then shown c.cap.stage
    else if j = 14 then shown c.cap.vcLevel
    else if j = 15 then shown c.cap.doorLevel
    else if j = 16 then shown c.cap.sequence.toNat
    else if j = 17 then shown (maskFin 8 fun n => c.cap.shed.contains n)
    else none)
  else none

/-- Table 3.1. -/
def readPhase (c : Chip) (p : Fin 32) (j : Nat) : Option Val :=
  if j = 4 then some (chanAmps c p)
  else if j = 5 then some (.num (clampInt 0 10000 (roundRat (ofQ 31 c.phases[p].duty * 10000))))
  else if j = 6 then shown (phStatus c p)
  else none

/-- Table 3.10. [DEDUCED, log 30] -/
def readRail (c : Chip) (r : Fin 16) (j : Nat) : Option Val :=
  if j = 1 then shown c.rails[r].state.number
  else if j = 2 then some (chanVolts c (32 + r))
  else if j = 3 then some (chanAmps c (140 + r))
  else if j = 4 then some (.num (roundRat (effTarget c r * 10000)))
  else if j = 5 then shown (railStatus c r)
  else if j = 6 then shown (((activePhases c r).map fun p => 2 ^ p.val).foldl (· + ·) 0)
  else if j = 7 then some (.num (limitNow c r))
  else if j = 8 then shown (fswNow c r)
  else if j = 9 then shown c.rails[r].vcErrors
  else none

/-- Tables 4.9 and 4.10. [DEDUCED, log 46] -/
def readStr (c : Chip) (s : Fin 4) (i j : Nat) : Option Val :=
  let e := c.ests[s]
  if i % 256 = 1 then
    (if j = 12 then shown c.strs[s].phase.number
    else if j = 13 then some (.num (roundRat (ofQ 16 c.strs[s].cmd * 1000)))
    else none)
  else if i % 256 = 2 then
    (if j = 1 then shown c.strs[s].state.number
    else if j = 2 then shown (strStatus c s)
    else if j = 3 then some (chanVolts c (64 + s))
    else if j = 4 then some (chanAmps c (68 + s))
    else if j = 5 then some (.num (if c.strs[s].ntcFail then 0x7FFF else roundRat (val c (72 + s) * 16)))
    else if j = 6 then shown e.soc
    else if j = 7 then shown e.socAbs
    else if j = 8 then shown (min 12000 (e.capacity * 10000 / max 1 (nat c (kStrRatedCapacity s))))
    else if j = 9 then shown32 e.capacity
    else if j = 10 then shown e.timeToShutdown
    else if j = 11 then shown e.usableJ
    else if j = 12 then shown (roundRat e.resistance).toNat
    else if j = 13 then shown (min 65535 (errorBudget c s).floor.toNat)
    else if j = 14 then shown (lastRest c s)
    else none)
  else none

/-- Table 4.13. -/
def readBatt (c : Chip) (j : Nat) : Option Val :=
  if j = 9 then shown (match c.batt.fallowString with
    | some s => s.val
    | none => 0xFF)
  else none

/-- Table 5.5. -/
def readPp (c : Chip) (n : Fin 8) (j : Nat) : Option Val :=
  let p := c.pps[n]
  let role := nat c (kPpRole n)
  if j = 1 then shown p.state.number
  else if j = 2 then shown (ppStatus c n)
  else if j = 3 then some (chanVolts c (80 + n))
  else if j = 4 then some (chanVolts c (88 + n))
  else if j = 5 then some (if role = 1 || role = 3 then chanAmps c (96 + n) else .num 0)
  else if j = 6 then some (if role = 2 then chanVolts c (96 + n) else .num 0)
  else if j = 7 then shown p.retriesLeft
  else if j = 8 then shown p.trips
  else if j = 9 then shown p.reverses
  else if j = 10 then some (.num p.shedPower)
  else none

/-! ### Tables 6.2 to 8.12 -/

/-- Table 6.2. -/
def readWm (c : Chip) (m : Fin 64) (j : Nat) : Option Val :=
  if j = 14 then some (.num (clampInt 0 1023 (uvCode c m)))
  else if j = 15 then some (.num (clampInt 0 1023 (ovCode c m)))
  else if j = 16 then shown (wmStatus c m)
  else if j = 17 then some (.num c.wms[m].value)
  else none

/-- Table 6.8. -/
def readSeq (c : Chip) (i j : Nat) : Option Val :=
  let q := c.seq
  if i = 0x2904 then
    (if j = 5 then shown q.state.number
    else if j = 6 then shown (q.entry.getD 0xFF)
    else if j = 11 then shown (maskFin 16 (fun r => q.railReached[r]) + 65536 * maskFin 8 (fun n => q.ppReached[n]) +
      2 ^ 24 * maskFin 8 fun n => q.rmReached[n])
    else if j = 12 then shown (maskFin 4 (fun s => q.strReached[s]) + 256 * maskFin 8 fun n => q.pgReached[n])
    else if j = 13 then shown (maskFin 16 fun r => q.good[r])
    else if j = 14 then shown (maskFin 16 fun r => q.chatter[r])
    else none)
  else if i = 0x2905 && j = 9 then shown (maskFin 8 fun n => q.pgOut[n])
  else none

/-- The state words of a mill (Table 7.14): those of stock millwork are free values, since its programs are not given. -/
def readWord (c : Chip) (m : Fin 16) (n : Nat) : Int :=
  if nat c (kMillSource m) = 1 then (freeWord c).toInt else c.mills[m].words[Fin.ofNat 128 n].toInt

/-- Tables 7.14 and 7.15. The measured load and run time are free values: the model gives a run no length. -/
def readMill (c : Chip) (m : Fin 16) (i j : Nat) : Option Val :=
  let x := c.mills[m]
  let k := i % 256
  let coefOf (n : Nat) : Coef := if x.activeB then x.bankB[Fin.ofNat 256 n] else x.bankA[Fin.ofNat 256 n]
  if j = 0 then none
  else if k = 2 || k = 3 then some (.num (coefOf (128 * (k - 2) + (j - 1))).value.toInt)
  else if k = 4 || k = 5 then some (.num (coefOf (128 * (k - 4) + (j - 1))).shift)
  else if k = 7 then some (.num (readWord c m (j - 1)))
  else if k = 8 then some (.num x.outs[Fin.ofNat 16 (j - 1)].toInt)
  else if k = 6 then
    (if j = 1 then shown x.state.number
    else if j = 2 then shown (millStatus c m)
    else if j = 3 then shown (min 10000 (budgetLoad c m).floor.toNat)
    else if j = 4 then shown ((freeWord c).toNat % 10001)
    else if j = 5 then shown x.stat.runs.toNat
    else if j = 6 then shown x.stat.overruns
    else if j = 7 then shown x.stat.satCount
    else if j = 8 then shown x.stat.writeRejects
    else if j = 9 then shown (freeWord c).toNat
    else if j = 10 then shown (bit x.activeB 0)
    else if j = 11 then shown x.stat.eventCode.toNat
    else if j = 12 then some (.num x.stat.eventValue.toInt)
    else if j = 13 then shown x.stat.stopPc.toNat
    else none)
  else if k = 12 then
    (if j = 2 then shown x.trace.state.number
    else if j = 8 then shown x.trace.buf[(0 : Fin 4)].length
    else if j = 9 then shown x.trace.trigPos
    else none)
  else if k = 13 then
    some (.bytes (x.trace.buf[Fin.ofNat 4 (j - 1)].reverse.flatMap fun w => leBytes 4 w.toNat))
  else none

/-- Table 8.6. -/
def readMarket (c : Chip) (j : Nat) : Option Val :=
  if j = 1 then shown c.market.reqs.length
  else if j = 2 then shown c.market.peak
  else if j = 5 then shown c.market.busyCount
  else if j = 6 then shown (min 65535 (c.market.fences.length + c.market.originFences.length))
  else none

/-- A hamper that has not ended (Table 8.8). -/
def Hamper.isOpen (h : Hamper) : Bool :=
  match h.state with
  | .opened | .joined | .validating | .prepared | .armed => true
  | .applied | .rolledBack | .failed | .aborted | .partial_ => false

/-- The bits of node numbers in 128 bytes (R289, R341). -/
def nodeBytes (l : List (Fin 1024)) : List Byte :=
  (List.range 128).map fun k => BitVec.ofNat 8 (maskFin 8 fun b => l.any fun n => n.val == 8 * k + b.val)

/-- Table 8.12; `HamperStage` is each origin's own (R273), `HamperApplyTime` and `HamperNodes` each handle's. -/
def readHamper (c : Chip) (o : Origin) (i j : Nat) : Option Val :=
  if i = 0x2120 then
    (if j = 2 then shown (match c.hampers.stage.find? fun p => p.1 == o with
      | some p => p.2
      | none => 0)
    else if j = 5 then shown (c.hampers.list.filter Hamper.isOpen).length
    else none)
  else if j = 0 then none
  else if i = 0x2121 then shown (match hamperOf c j with
    | some h => h.state.number
    | none => 0)
  else if i = 0x2122 then shown (match hamperOf c j with
    | some h => resultWord h.result
    | none => 0)
  else if i = 0x2123 then some (.bytes (match hamperOf c j with
    | some h => h.applyTime
    | none => []))
  else if i = 0x2124 then some (.bytes (match hamperOf c j with
    | some h => h.nodes
    | none => []))
  else if i = 0x2125 then some (.bytes (match hamperOf c j with
    | some h => if h.missing.isEmpty then [] else nodeBytes h.missing
    | none => []))
  else none

/-! ### Tables 9.4 to 10.7 -/

/-- `CanErrorCounters` (Table 9.5): 0 until the line communicates; then ISO 11898-1 moves them frame by frame, and they are
free within what its states mean: neither above 127 in error active, one of them above it in error passive, and the
transmit counter saturated in bus-off. [DESIGN CHOICE, log 8; PRESUMED, log 86] -/
def errorCounters (c : Chip) (l : Fin 2) : Nat :=
  let w := (freeWord c).toNat
  let x := c.can.lines[l]
  let rx := field w 8 7
  let tx := field w 0 7
  if c.can.nmt == .initialising || !lineUsed c l then 0
  else if x.busOff then (rx + bit (hasBit w 15) 7) * 256 + 255
  else if x.errPassive then
    (if hasBit w 16 then (rx + 128) * 256 + tx + bit (hasBit w 7) 7 else (rx + bit (hasBit w 15) 7) * 256 + tx + 128)
  else rx * 256 + tx

/-- Tables 9.4, 9.5, 9.8 and 9.14, with the identity of R3; `CobIdEmcy` follows the node-ID until it is written. -/
def readPorts (c : Chip) (i j : Nat) : Option Val :=
  if i = 0x1001 then shown (errorRegister c)
  else if i = 0x1014 then (if num c kCobIdEmcy < 0 then shown (0x80 + c.can.nodeId) else none)
  else if i = 0x1018 && j = 1 then shown 0x00594B49
  else if i = 0x1018 && j = 2 then shown 0x00006410
  else if i = 0x1018 && j = 3 then shown 0x0000B001
  else if i = 0x2201 then
    (if j = 1 || j = 2 then shown (canStatus c (Fin.ofNat 2 (j - 1)))
    else if j = 3 || j = 4 then shown (errorCounters c (Fin.ofNat 2 (j - 3)))
    else if j = 5 then shown c.can.emcyLost
    else if j = 6 then shown c.can.rpdoStale.toNat
    else if j = 7 then shown c.can.rpdoRejects
    else none)
  else if i = 0x2210 then
    (if j = 1 then shown (0x40 + c.tw.strapCode)
    else if j = 13 then shown (twStatus c)
    else if j = 14 then shown c.tw.pecErrors
    else if j = 15 then shown c.tw.resultsLost
    else none)
  else if i = 0x2220 then
    (if j = 1 then shown c.svc.rate
    else if j = 3 then shown c.svc.crcErrors
    else if j = 4 then shown c.svc.linkDrops
    else none)
  else none

/-- A member that is heard (Table 10.7): its last ROLL is not that of a joining node (R340). [DEDUCED, log 98] -/
def memberHeard (n : LaneNode) : Bool :=
  n.heard && match n.roll with
    | some (f, _) => f.age != 0
    | none => true

/-- Table 10.7. `LaneNodeMap` is empty until a node is heard. [DEDUCED, log 98] -/
def readLane (c : Chip) (i j : Nat) : Option Val :=
  let l := c.lane
  let link : LaneLink := if j % 2 = 1 then l.linkA else l.linkB
  let heard := (l.nodes.filter (·.heard)).map (·.node)
  if i = 0x2300 then
    (if j = 3 then shown l.nodeIdNow
    else if j = 9 then shown l.state.number
    else if j = 10 then shown (laneStatus c)
    else if j = 11 then shown (l.master.getD 0xFFFF)
    else if j = 12 then shown l.hops
    else if j = 13 then some (.bytes (leBytes 8 c.clock.laneNs))
    else if j = 15 then shown l.epoch.toNat
    else if j = 16 then shown (l.nodes.filter memberHeard).length
    else none)
  else if i = 0x2301 then
    (if j = 1 then shown (lanePortStatus c .a)
    else if j = 2 then shown (lanePortStatus c .b)
    else if j = 3 || j = 4 then shown32 link.delay
    else if j = 5 || j = 6 then shown link.crcErrors.toNat
    else if j = 7 || j = 8 then shown link.linkDowns
    else none)
  else if i = 0x2302 then (if j = 1 then some (.bytes (if l.nodes.isEmpty then [] else nodeBytes heard)) else none)
  else if i = 0x2310 then
    (if j = 2 then some (.bytes ((c.gw.results.head?.map (·.data)).getD []))
    else if j = 3 then shown c.gw.waiting.length
    else if j = 4 then shown c.gw.lost
    else none)
  else none

/-! ### Tables 11.7 to 14.12 -/

/-- Table 11.7. -/
def readSrc (c : Chip) (i : Fin 256) (j : Nat) : Option Val :=
  let s := c.watch.srcs[i]
  if j = 7 then shown s.state.number
  else if j = 8 then shown s.recoveries
  else if j = 9 then shown s.events.toNat
  else if j = 10 then shown s.lastCode.toNat
  else if j = 11 then some (.num s.lastValue)
  else none

/-- Table 11.8. -/
def readWatch (c : Chip) (i j : Nat) : Option Val :=
  let w := c.watch
  if i = 0x2600 then
    (if j = 1 then shown (countFin 256 fun k => w.srcs[k].state == .active)
    else if j = 2 then shown (countFin 256 fun k => w.srcs[k].state == .severe)
    else if j = 3 then shown (bit (faultPin c) 0)
    else if j = 4 then shown w.lastSource.val
    else if j = 7 then shown w.revocations
    else if j = 8 then shown w.corrected.toNat
    else none)
  else if i = 0x2601 && 1 ≤ j then shown w.memCorrected[Fin.ofNat 5 (j - 1)].toNat
  else if i = 0x2602 && j = 1 then
    some (.bytes ((List.range 64).map fun k => BitVec.ofNat 8
      (((List.range 4).map fun b => w.srcs[Fin.ofNat 256 (4 * k + b)].state.number * 4 ^ b).foldl (· + ·) 0)))
  else none

/-- Table 11.9. -/
def readTherm (c : Chip) (i j : Nat) : Option Val :=
  if i = 0x2500 then
    (if j = 6 then some (.num c.therm.hottest)
    else if j = 7 then shown c.therm.hottestAt.val
    else if j = 8 then some (.num c.therm.slope)
    else if j = 9 then shown32 c.therm.predict
    else if j = 10 then shown (thermStatus c)
    else none)
  else if i = 0x2501 && 1 ≤ j then
    let d := c.therm.dies[Fin.ofNat 12 (j - 1)]
    some (.num (d.reads.headD 0))
  else none

/-- Table 12.6. -/
def readAlm (c : Chip) (i j : Nat) : Option Val :=
  let a := c.alm
  if i = 0x2800 then
    (if j = 4 then shown32 (a.next.getD 0)
    else if j = 5 then some (.bytes (timeBytes (nowMs c) c.clock.powerCycles))
    else if j = 6 then shown a.buffer.length
    else if j = 7 then shown a.dropped.toNat
    else if j = 8 then shown a.lost.toNat
    else if j = 9 then shown (bit (plainRing c) 0)
    else if j = 10 then shown (mainPlaces c)
    else if j = 11 then shown a.reserve.sectors.length
    else none)
  else if i = 0x2840 then
    (if j = 2 then shown a.frozen.state.number
    else if j = 3 then shown (seqOf a.frozen.records.head?)
    else if j = 4 then shown (seqOf a.frozen.records.getLast?)
    else if j = 5 then some (.bytes (exportBytes c))
    else none)
  else none

/-- Table 13.6. -/
def readTwin (c : Chip) (j : Nat) : Option Val :=
  let t := c.twin
  if j = 1 then shown t.role.number
  else if j = 2 then shown t.state.number
  else if j = 3 then shown (twinStatus c)
  else if j = 9 then shown t.takeovers
  else if j = 10 then shown t.lastCause
  else if j = 11 then shown32 t.lastGap
  else if j = 12 then shown t.partnerSeq
  else if j = 13 then shown32 (match t.mirrorAt with
    | some at_ => c.clock.us - at_
    | none => 0xFFFFFFFF)
  else if j = 14 then shown32 (match t.healthySince with
    | some at_ => (c.clock.us - at_) / 1000000
    | none => 0)
  else none

/-- The generation of an image slot, FFFFFFFFh unless it was valid at the last boot (Table 14.12). -/
def imageGen (c : Chip) (s : Fin 2) : Nat :=
  c.boot.gens[s]

/-- Table 14.12. -/
def readIdent (c : Chip) (i j : Nat) : Option Val :=
  let b := c.boot
  if i = 0x2000 then
    (if j = 1 then some (.bytes (padTo 8 c.fuses.serial))
    else if j = 2 then shown c.fuses.grade
    else if j = 3 then shown (lifeCycle c).number
    else if j = 4 then shown ((64 - c.fuses.service) / 2)
    else if j = 5 then some (.bytes (padTo 32 c.fuses.keyHash))
    else if j = 6 then shown b.cause.number
    else if j = 7 then shown32 b.bootTime
    else if j = 9 then some (.bytes c.nor.assetTag)
    else none)
  else if i = 0x2010 then
    (if j = 1 then shown b.slot.val
    else if j = 2 then shown32 (imageGen c 0)
    else if j = 3 then shown32 (imageGen c 1)
    else if j = 4 then shown (imageStatusNumber b.status[(0 : Fin 2)])
    else if j = 5 then shown (imageStatusNumber b.status[(1 : Fin 2)])
    else if j = 6 then shown c.update.state.number
    else if j = 7 then shown32 c.update.received
    else none)
  else if i = 0x2020 then
    (if j = 2 then shown b.store.number
    else if j = 3 then shown (match b.setInForce with
      | some s => s.val
      | none => 0xFF)
    else if j = 4 then shown32 b.generation
    else if j = 5 then shown (resultWord b.loadResult)
    else if j = 6 then shown b.rejected
    else if j = 7 then shown32 b.bodySize
    else none)
  else if i = 0x2030 then
    (if j = 1 then shown c.nor.size
    else if j = 2 then shown c.nor.ioMode
    else if j = 3 then shown32 c.nor.clock
    else none)
  else none

/-! ### A read -/

/-- The value of an object that no write alone determines; none: the value in force. -/
def liveValue (c : Chip) (o : Origin) (k : Key) : Option Val :=
  let i := k / 256
  let j := k % 256
  if 0x2640 ≤ i && i ≤ 0x2642 then readHamlet c i j
  else if 0x2D00 ≤ i && i < 0x2D80 then readRm c (Fin.ofNat 8 ((i - 0x2D00) / 16)) j
  else if 0x2C00 ≤ i && i < 0x2C50 then readBus c i j
  else if i = 0x2C50 then readBatt c j
  else if 0x4400 ≤ i && i < 0x4600 then readPhase c (Fin.ofNat 32 ((i - 0x4400) / 16)) j
  else if 0x3000 ≤ i && i < 0x4000 && i % 256 = 2 then readRail c (Fin.ofNat 16 ((i - 0x3000) / 256)) j
  else if 0x4000 ≤ i && i < 0x4400 then readStr c (Fin.ofNat 4 ((i - 0x4000) / 256)) i j
  else if 0x2D80 ≤ i && i < 0x2E00 && i % 16 = 1 then readPp c (Fin.ofNat 8 ((i - 0x2D80) / 16)) j
  else if 0x2A00 ≤ i && i < 0x2A40 then readWm c (Fin.ofNat 64 (i - 0x2A00)) j
  else if 0x2900 ≤ i && i < 0x2A00 then readSeq c i j
  else if 0x5000 ≤ i && i < 0x6000 then readMill c (Fin.ofNat 16 ((i - 0x5000) / 256)) i j
  else if i = 0x2100 then readMarket c j
  else if 0x2120 ≤ i && i ≤ 0x2125 then readHamper c o i j
  else if (0x1000 ≤ i && i < 0x2000) || (0x2200 ≤ i && i ≤ 0x2220) then readPorts c i j
  else if 0x2300 ≤ i && i < 0x2400 then readLane c i j
  else if 0x2700 ≤ i && i < 0x2800 then readSrc c (Fin.ofNat 256 (i - 0x2700)) j
  else if 0x2600 ≤ i && i < 0x2640 then readWatch c i j
  else if 0x2500 ≤ i && i < 0x2600 then readTherm c i j
  else if 0x2800 ≤ i && i < 0x2900 then readAlm c i j
  else if i = 0x2400 then readTwin c j
  else if 0x2000 ≤ i && i < 0x2100 then readIdent c i j
  else none

/-- The value that a read of an object returns. -/
def valueOf (c : Chip) (o : Origin) (k : Key) : Val := (liveValue c o k).getD (cfg c k)

/-- The bytes that a read of an object returns. -/
def readBytes (c : Chip) (o : Origin) (k : Key) : List Byte :=
  match objOf k with
  | some d => d.render (valueOf c o k)
  | none => []

/-- The state of its unit that refuses a read: a trace that runs (R246), an export that is not READY (R398).
[DEDUCED, log 69] -/
def readConflict (c : Chip) (k : Key) : Bool :=
  let i := k / 256
  if 0x5000 ≤ i && i < 0x6000 && i % 256 = 13 && k % 256 != 0 then
    match c.mills[Fin.ofNat 16 ((i - 0x5000) / 256)].trace.state with
    | .armed | .triggered => true
    | .idle | .done => false
  else k == kAlmExportData && c.alm.frozen.state != .ready

/-- A read of an object is carried out: its status and its bytes. -/
def readObject (c : Chip) (o : Origin) (k : Key) : Status × List Byte :=
  match readCheck c o k with
  | .ok => if readConflict c k then (.stateConflict, []) else (.ok, readBytes c o k)
  | st => (st, [])

/-- The read takes a free value, and the next read another. [DESIGN CHOICE, log 8] -/
def readsFree (c : Chip) (k : Key) : Bool :=
  let i := k / 256
  let j := k % 256
  (i == 0x2642 && j != 0) || (i == 0x2201 && (j == 3 || j == 4)) || (0x5000 ≤ i && i < 0x6000 &&
    ((i % 256 == 6 && (j == 4 || j == 9)) ||
      (i % 256 == 7 && nat c (kMillSource (Fin.ofNat 16 ((i - 0x5000) / 256))) == 1)))

end Sys2Proof.Machine
end

