-- ==== Sys2Proof/Machine/WatchRecords.lean ====
section
/-! DEFINITION. How the Watch classifies events (R354 to R357), and the records, snapshots and EMCY that it passes (R358,
R387, R388). -/

namespace Sys2Proof.Machine

/-- The Watch runs: WATCH has started (Table 14.3), no reset is in progress, and the chip is not in the safe state. -/
def watchRuns (c : Chip) : Bool :=
  !c.watch.safe && match c.boot.phase with
    | .porAsserted | .flushing | .rstHeld => false
    | .step n => decide (2 ≤ n.val)
    | .recovery | .running => true

/-! ### Classification -/

/-- A reaction set taken (R357): the event, the set's eight bits, the state it leaves and whether it entered it, and the
error register after the event. -/
structure Taken where
  event : Event
  set : Nat
  dest : SrcState
  entered : Bool
  register : Nat
deriving DecidableEq, Repr

/-- The state after an event (Table 11.2). -/
def SrcState.after (s : SrcState) (reaching : Bool) : SrcState :=
  match s with
  | .severe => .severe
  | .clear | .active | .quiet => if reaching then .severe else .active

/-- The events of a source that a new one is counted with: the last N, the newest first (R355). -/
def heldTimes (c : Chip) (i : Fin 256) : List Nat := (nowMs c :: c.watch.srcs[i].times).take (nat c (kSrcCount i))

/-- The new event reaches N: it and the N − 1 before it all fall within T (R355). -/
def reachesN (c : Chip) (i : Fin 256) : Bool :=
  (heldTimes c i).length == nat c (kSrcCount i) && (heldTimes c i).all fun t => nowMs c ≤ t + nat c (kSrcWindow i)

/-- An event is classified (R354 to R357); a disabled source ignores it (R361). -/
def classify (e : Event) (c : Chip) : Chip × Option Taken :=
  if !flag c (kSrcEnable e.src) then (c, none)
  else
    let was := c.watch.srcs[e.src].state
    let dest := was.after (reachesN c e.src)
    let times := heldTimes c e.src
    let d := setSrc e.src (fun x => { x with
      state := dest, times := times, events := x.events + 1, lastCode := e.code, lastValue := e.value }) c
    let d := setWatch (fun w => { w with lastSource := e.src }) d
    (d, some { event := e, set := setOf c e.src (dest == .severe), dest := dest, entered := was != dest, register := errorRegister d })

/-- The events in ascending source ID, those of one source in order of arrival (R354). [DEDUCED, log 105] -/
def insertEvent (e : Event) : List Event → List Event
  | [] => [e]
  | f :: rest => if e.src ≤ f.src then e :: f :: rest else f :: insertEvent e rest

/-- Every event is classified in turn; the sets taken in that order. -/
def classifyAll : List Event → Chip → Chip × List Taken
  | [], c => (c, [])
  | e :: rest, c =>
    let r := classify e c
    let q := classifyAll rest r.1
    (q.1, r.2.toList ++ q.2)

/-! ### Records and snapshots -/

/-- The type code of a snapshot entry (Table 12.3). -/
def snapType : ObjType → BitVec 8
  | .bool => 1
  | .i16 => 3
  | .i32 => 4
  | .u8 => 5
  | .u16 => 6
  | .u32 => 7
  | .str | .dom => 0xFE

/-- One object of a snapshot list is read over the Watch's reserved path (R387). [DEDUCED, log 109] -/
def snapEntry (c : Chip) (k : Key) : Snap :=
  let h := c.hamlets[hamletOf c k]
  let e : Snap := { index := k / 256, sub := k % 256, type := 0xFE }
  if h.blkrst then { e with value := BitVec.ofNat 32 Status.hamletReset.number }
  else if h.closed then { e with value := BitVec.ofNat 32 Status.timeout.number }
  else match objOf k, valueOf c .reeve k with
    | some d, .num v => { e with type := snapType d.type, value := BitVec.ofInt 32 v }
    | _, _ => { e with value := BitVec.ofNat 32 Status.noObject.number }

/-- The objects of the snapshot list of a source (R386). -/
def snapKeys (c : Chip) (i : Fin 256) : List Key :=
  let l := nat c (kAlmSnapMap i)
  if 32 ≤ l then []
  else (((List.range 12).map fun j => nat c (kAlmSnapList l j)).takeWhile (· != 0)).map (· / 256)

/-- A hamlet that a reader finds stopped is woken by the access (R21). [DEDUCED, log 109] -/
def wake (h : Fin 27) (c : Chip) : Chip :=
  if c.hamlets[h].run || c.hamlets[h].blkrst then c
  else startClock h (setHamlet h (fun x => { x with wakes := satSucc 65535 x.wakes }) c)

/-- The snapshot of an EVENT record: each listed object in list order (R387). [DEDUCED, log 109] -/
def snapshot (c : Chip) : List Key → Chip × List Snap
  | [] => (c, [])
  | k :: rest =>
    let c := when (!c.hamlets[hamletOf c k].closed) (wake (hamletOf c k)) c
    let e := snapEntry c k
    let r := snapshot (when (readsFree c k) takeFree c) rest
    (r.1, e :: r.2)

/-- The held record into which an event is folded (R388). -/
def foldsInto (c : Chip) (e : Event) (sev : Fin 4) : Option Record :=
  match c.alm.buffer.getLast? with
  | some r =>
    if c.alm.held && r.kind == .event e.kind && r.source == e.src && r.code == e.code && r.severity == sev &&
        decide (nowMs c ≤ r.timeMs + r.lastRepeat + nat c kAlmRepeatWindow) then some r
    else none
  | none => none

/-- An EVENT record passes to the Almanac: folded, or new with its snapshot (R387, R388). The number that its EMCY
carries, 0 where none. -/
def recordEvent (e : Event) (sev : Fin 4) (c : Chip) : Chip × Nat :=
  match foldsInto c e sev with
  | some r =>
    let r' := { r with repeats := satSucc 65535 r.repeats, lastRepeat := nowMs c - r.timeMs }
    (setAlm (fun a => { a with buffer := a.buffer.dropLast ++ [r'] }) c, r.seq.getD 0)
  | none =>
    let s := snapshot c (snapKeys c e.src)
    let r : Record :=
      { kind := .event e.kind, severity := sev, source := e.src, code := e.code, value := e.value, entries := s.2 }
    let d := accept r s.1
    (d, if d.alm.dropped = s.1.alm.dropped then seqOf d.alm.buffer.getLast? else 0)

/-- Step 2 of an evaluation for one set taken: the record, and the EMCY of a transition (R304, R357).
[DEDUCED, log 107] -/
def passRecord (t : Taken) (c : Chip) : Chip :=
  let r := if hasBit t.set 5 then recordEvent t.event (Fin.ofNat 4 (t.set / 64)) c else (c, 0)
  when t.entered (emcy t.event.src t.dest t.register r.2) r.1

/-- The Watch classifies the events that have arrived and passes their records, as an evaluation does (R354, R358): what a
chip reset does before its flush (R428). [DEDUCED, log 135] -/
def passRecords (c : Chip) : Chip :=
  if !watchRuns c then c
  else
    let r := classifyAll (c.watch.arrived.foldr insertEvent []) (setWatch (fun w => { w with arrived := [] }) c)
    each r.2 passRecord r.1

end Sys2Proof.Machine
end

