-- ==== Sys2Proof/Machine/Reset.lean ====
section
/-! DEFINITION. Power-on reset and the chip resets (R426 to R429, R395, R409): what is kept, the flush, and the wipe. -/

namespace Sys2Proof.Machine

/-- The fuses of a transition are blown (Table 14.11). -/
def blow (c : Chip) (dest : LifeCycle) : Fuses :=
  match dest with
  | .provisioned => { c.fuses with p := true }
  | .retired => { c.fuses with x := true }
  | .service => { c.fuses with service := c.fuses.service + 1 }
  | .deployed => if lifeCycle c == .service then { c.fuses with service := c.fuses.service + 1 } else { c.fuses with d := true }
  | .blank => c.fuses

/-- The fuses after a loss of power, and whether the erase of a retirement is due: where a transition was being carried out
the fuse holds the old state or the new one, as a free value says (R445, R448). [DESIGN CHOICE, log 8, 92] -/
def cutTransition (c : Chip) : Fuses × Bool :=
  match c.lc.accepted with
  | some dest => if (freeWord c).getLsbD 0 then (blow c dest, dest == .retired) else (c.fuses, false)
  | none => (c.fuses, false)

/-- An estimator slot whose program a reset cuts off is torn (R154). [DESIGN CHOICE, log 44] -/
def tornSlots (c : Chip) : Vector EstSlot 2 :=
  match c.batt.slotWrite with
  | some (k, _) => c.nor.slots.set k .torn
  | none => c.nor.slots

/-- The twin port after a reset: the role of the strap, `OWN_OUT` low, and the level of `OWN_IN` (R401, R404, R414). -/
def twinAfter (c : Chip) (hold : Bool) : Twin :=
  { role := c.twin.role, ownIn := c.twin.ownIn, holding := hold, releasedAt := c.twin.releasedAt, ownInAt := c.twin.ownInAt
    state := if c.twin.role == .single then .single else .starting }

/-- The pins that the hold of R409 keeps: duties, offsets and gate codes. [DEDUCED, log 126] -/
def heldPhases (c : Chip) (hold : Bool) : Vector Phase 32 := if hold then c.phases else Vector.replicate 32 {}

/-- The power-path pins that the hold of R409 keeps. [DEDUCED, log 126] -/
def heldPps (c : Chip) (hold : Bool) : Vector Pp 8 :=
  if hold then c.pps.map fun p => { gate := p.gate, foff := p.foff } else Vector.replicate 8 {}

/-- The wipe (R428): everything but the ALMANAC counters, the levels of `BSn_SW` and `RMn_EN`, the fuses and what stands
in the NOR; the Almanac's buffer is left for the flush. With `hold`, the pins of R409 stay.
[DESIGN CHOICE, log 118; DEDUCED, log 126, 127] -/
def wipe (hold : Bool) (boot : Boot) (c : Chip) : Chip :=
  { clock := { us := c.clock.us, powerCycles := c.clock.powerCycles, almFallback := c.clock.almFallback,
               refLost := c.clock.refLost, resetAt := c.clock.us }
    hamlets := (Vector.replicate 27 {}).set 0 { run := true } |>.set 1 { run := true }
    rms := c.rms.map fun r =>
      { en := r.en, alarmIn := r.alarmIn, trim := if hold then r.trim else 0x8000, trimDriven := hold && r.trimDriven }
    phases := heldPhases c hold
    pps := heldPps c hold
    strs := c.strs.map fun s => { sw := s.sw, shipLatch := s.shipLatch }
    tw := { strapCode := c.tw.strapCode }
    reeve := { watchdog := boot.cause == .reeveWatchdog }
    alm := { buffer := c.alm.buffer, next := c.alm.next, lastMark := c.alm.lastMark, direct := c.alm.direct
             lossFlag := c.alm.lossFlag, checkpointAt := c.alm.checkpointAt, main := c.alm.main, reserve := c.alm.reserve }
    twin := twinAfter c hold
    boot := boot
    fuses := c.fuses
    nor := { c.nor with slots := tornSlots c }
    test := c.test
    fresh := c.fresh }

/-- An update is open. -/
def updating (c : Chip) : Bool := c.update.state == .erasing || c.update.state == .receiving

/-- An open update is abandoned (R439). -/
def abandonUpdate (c : Chip) : Chip :=
  if updating c then
    logRaise 0x6C 244 1 c.update.slot.val [c.update.received]
      (setUpdate (fun u => { u with state := .abandoned, pieces := [] }) c)
  else c

/-- The CLOSE record that ends a flush (R395): where no numbers are given, the buffer's records are lost.
[DEDUCED, log 92, 111] -/
def closeRecord (c : Chip) : Chip :=
  if c.alm.next.isNone then { c with alm := { c.alm with buffer := [], held := false } }
  else enterAt 66 (stamp c { kind := .close, severity := 0, source := 193, code := 1 }) { c with alm := release c.alm }

/-- A chip reset can begin: Ulvia has power and no reset is in progress. [DEDUCED, log 92] -/
def resettable (c : Chip) : Bool :=
  match c.boot.phase with
  | .porAsserted | .flushing | .rstHeld => false
  | .step n => decide (3 ≤ n.val)
  | .recovery | .running => true

/-- A chip reset other than power-on (R427, R428): the flush begins, and everything else is wiped.
The Watch passes its records first.
[DESIGN CHOICE, log 118; DEDUCED, log 135] -/
def chipReset (cause : ResetCause) (hold : Bool) (c : Chip) : Chip :=
  if !resettable c then c
  else
    let c := closeRecord (passRecords (abandonUpdate c))
    wipe hold { phase := .flushing, cause := cause, rstLow := c.boot.rstLow } c

/-- The flush ends (R395): records not written by then are lost. -/
def endFlush (c : Chip) : Chip :=
  { c with
    alm := { direct := c.alm.direct, checkpointAt := c.alm.checkpointAt, main := c.alm.main, reserve := c.alm.reserve }
    nor := { c.nor with size := 0, ioMode := 0, clock := 0 }
    boot := { c.boot with phase := .step 2 } }

/-- The hold of R409 ends while Ulvia restarts: the pins take the levels of Table 14.2. -/
def endRestartHold (c : Chip) : Chip :=
  { c with
    phases := Vector.replicate 32 {}
    pps := Vector.replicate 8 {}
    rms := c.rms.map fun r => { r with trim := 0x8000, trimDriven := false }
    twin := { c.twin with holding := false } }

/-- RESET_FLUSH_END (R395): 5 ms after its start. -/
def resetFlushEnd (c : Chip) : Chip :=
  if c.boot.phase == .flushing && decide (c.clock.resetAt + 5000 ≤ c.clock.us) then endFlush c else c

/-- BOOT_WIPE_COMPLETE (Table 14.3, step 4; R431): after a flush, once the buffer is written. [DEDUCED, log 130] -/
def bootWipeComplete (c : Chip) : Chip :=
  let done (c : Chip) : Chip :=
    { c with boot := { c.boot with phase := if c.boot.rstLow then .rstHeld else .step 3 } }
  match c.boot.phase with
  | .step n => if n.val = 2 then done c else c
  | .flushing => if c.alm.buffer.isEmpty then done (endFlush c) else c
  | _ => c

/-- POWER_ON_RESET (R426): the ALMANAC counters, the buffer and the levels of `BSn_SW` and `RMn_EN` are lost.
[DEDUCED, log 127; DESIGN CHOICE, log 92] -/
def powerOnReset (c : Chip) : Chip :=
  let cut := cutTransition c
  { rms := c.rms.map fun r => { alarmIn := r.alarmIn }
    strs := c.strs.map fun s => { shipLatch := s.shipLatch }
    alm := { main := c.alm.main, reserve := c.alm.reserve }
    twin := { ownIn := c.twin.ownIn, ownInAt := c.twin.ownInAt }
    boot := { rstLow := c.boot.rstLow }
    fuses := cut.1
    nor := { c.nor with slots := tornSlots c, size := 0, ioMode := 0, clock := 0, eraseDue := c.nor.eraseDue || cut.2 }
    test := c.test
    fresh := c.fresh + 1 }

/-! ### The commands -/

/-- RESET_FLUSH_END (R395) answers the state with its effect. -/
def execResetFlushEnd (s : State) : Host.Outcome State Fault Refusal := answer s (resetFlushEnd s.chip)

/-- POWER_ON_RESET (R426) answers the state with its effect. -/
def execPowerOnReset (s : State) : Host.Outcome State Fault Refusal := answer s (powerOnReset s.chip)

/-- BOOT_WIPE_COMPLETE (R430) answers the state with its effect. -/
def execBootWipeComplete (s : State) : Host.Outcome State Fault Refusal := answer s (bootWipeComplete s.chip)

end Sys2Proof.Machine
end

