-- ==== Sys2Proof/Machine/Writes.lean ====
section
/-! DEFINITION. A write that is carried out: its value in force, what that does, the commands that write-only objects
are, and the checks that a direct write must pass (R253, R277, R278, R416, R472). -/

namespace Sys2Proof.Machine

/-! ### A value in force -/

/-- A value in force: `StrResistance` in its estimator, `AssetTag` in the identity region, any other in the list. -/
def storeValue (k : Key) (v : Val) (c : Chip) : Chip :=
  match firstFin 4 fun s => k == kStrResistance s, v with
  | some s, .num n => setEst s (fun e => { e with resistance := n }) c
  | _, _ =>
    if k = kAssetTag then
      setNor (fun n => { n with assetTag := match v with
        | .bytes b => b
        | .num _ => [] }) c
    else put k v c

/-- Several values in force at once. -/
def storeAll (l : List (Key × Val)) (c : Chip) : Chip := each l (fun e => storeValue e.1 e.2) c

/-- Table 4.3: rest time, temperature compensation, shutdown voltage per cell, cell maximum, charge efficiency, and
temperature coefficient, in the units of their objects. -/
def chemistryRow : Int → Option (Int × Int × Int × Int × Int × Int)
  | 1 => some (30, -2500, 10000, 17000, 9000, -500)
  | 2 => some (30, -3000, 10000, 16000, 8500, -500)
  | 3 => some (30, -3000, 17500, 24500, 9700, 200)
  | 4 => some (20, 0, 28000, 36500, 9950, -100)
  | _ => none

/-- The values that a new chemistry of a string loads (R123). -/
def chemistryValues (c : Chip) (s : Fin 4) : List (Key × Val) :=
  match chemistryRow (num c (kStrChemistry s)) with
  | none => []
  | some (rest, comp, shut, vmax, eff, temp) =>
    [(kStrRestTime s, .num rest), (kStrTempComp s, .num comp),
      (kStrShutdownVoltage s, .num (shut * num c (kStrCells s))), (kStrCellVmax s, .num vmax),
      (kStrChargeEff s, .num eff), (kStrOcvTempCo s, .num temp)]

/-- The values that the chemistries among some written keys load, except those that are written too (R123): every write of a
chemistry counts as a new one, also of the code in force. [DEDUCED, log 142] -/
def loadChemistries (ks : List Key) (c : Chip) : Chip :=
  each ((List.finRange 4).filter fun (s : Fin 4) => ks.contains (kStrChemistry s))
    (fun (s : Fin 4) c => storeAll ((chemistryValues c s).filter fun e => !ks.contains e.1) c) c

/-! ### What a value in force does -/

/-- A hamlet is parked or unparked by `HamletParkMask` (R22, R29); the accesses that waited for an unparked one are
delivered (R21). -/
def parkHamlet (h : Fin 27) (c : Chip) : Chip :=
  let on := hasBit (nat c kHamletParkMask) h
  if on == c.hamlets[h].parked then c
  else
    let c := setHamlet h (fun x => { x with parked := on }) c
    if on then setHamlet h (fun x => { x with run := false, waking := false }) c else startClock h c

/-- The EMCY messages that wait are discarded and counted (R305). -/
def discardEmcy (c : Chip) : Chip :=
  each (List.finRange 2) (fun l c =>
    let n := c.can.lines[l].emcyQ.length
    setCan (fun x => { x with emcyLost := min 65535 (x.emcyLost + n) }) (setLine l (fun x => { x with emcyQ := [] }) c)) c

/-- HBLOST clears on both lines (R296). -/
def clearHbLost (c : Chip) : Chip :=
  each (List.finRange 2) (fun l => setLine l fun x => { x with hbTimedOut := x.hbTimedOut.set 0 false }) c

/-- The slot of a custom coefficient object (Table 7.14). -/
def coefSlot (k : Key) : Option (Fin 16 × Fin 256) :=
  let i := k / 256
  let j := k % 256
  let n := i % 256
  if 0x5000 ≤ i && i < 0x6000 && 2 ≤ n && n ≤ 5 && 1 ≤ j then
    some (Fin.ofNat 16 ((i - 0x5000) / 256), Fin.ofNat 256 (if n % 2 = 0 then j - 1 else 127 + j))
  else none

/-- The custom coefficient that the objects of a slot hold. -/
def slotCoef (c : Chip) (m : Fin 16) (s : Fin 256) : Coef :=
  if s.val < 128 then
    { value := BitVec.ofInt 32 (num c (key (0x5002 + 0x100 * m.val) (1 + s.val)))
      shift := num c (key (0x5004 + 0x100 * m.val) (1 + s.val)) }
  else
    { value := BitVec.ofInt 32 (num c (key (0x5003 + 0x100 * m.val) (s.val - 127)))
      shift := num c (key (0x5005 + 0x100 * m.val) (s.val - 127)) }

/-- What the objects of a rail do at once (R84, R85, R96). -/
def railEffect (r : Fin 16) (i j : Nat) (c : Chip) : Chip :=
  if i % 256 = 0 then
    (if j = 3 then (if flag c (kRailEnable r) then railStart r c else railStop r c)
    else if j = 4 then railTargetActs r c
    else if j = 5 then railFswActs r c
    else if j = 6 then syncModeActs r c
    else if j ≤ 2 then publishLimit r c
    else c)
  else if i % 256 = 1 && j = 7 then publishLimit r c
  else c

/-- What an object does when its value comes into force. -/
def effect (k : Key) (c : Chip) : Chip :=
  let i := k / 256
  let j := k % 256
  if 0x2D00 ≤ i && i < 0x2D80 then
    (if j ≤ 2 || j = 10 then rmRefresh (Fin.ofNat 8 ((i - 0x2D00) / 16)) c else c)
  else if i = 0x2C42 then vcLevel (Fin.ofNat 4 (j - 1)) c
  else if 0x3000 ≤ i && i < 0x4000 then railEffect (Fin.ofNat 16 ((i - 0x3000) / 256)) i j c
  else if 0x4000 ≤ i && i < 0x4400 then
    let s := Fin.ofNat 4 ((i - 0x4000) / 256)
    (if i % 256 = 0 && j = 1 then strRailApplied s c
    else if i % 256 = 1 && 1 ≤ j && j ≤ 11 then chargeObjectWritten s c
    else c)
  else if 0x2D80 ≤ i && i < 0x2E00 && i % 16 = 0 && j = 2 then
    let n := Fin.ofNat 8 ((i - 0x2D80) / 16)
    (if flag c (kPpEnable n) then ppStart n c else ppStop n c)
  else if 0x2A00 ≤ i && i < 0x2A40 then
    let m := Fin.ofNat 64 (i - 0x2A00)
    (if j = 1 then when (!flag c k) (wmDisable m) c
    else if j = 11 || j = 12 then wmConfigured m c
    else ovMoves m (uvMoves m c))
  else if i = 0x2910 then marginApplied (Fin.ofNat 16 (j - 1)) c
  else if i = 0x2905 then pgOutputs c
  else if k = kHamletParkMask then each (List.finRange 27) parkHamlet c
  else if k = kCanEmcyEnable then when (!flag c k) discardEmcy c
  else if k = kConsumerHeartbeatTime 0 then clearHbLost c
  else if 0x2700 ≤ i && i < 0x2800 && j = 1 then when (!flag c k) (clearSource (Fin.ofNat 256 (i - 0x2700))) c
  else if k = kLaneEnable then laneEnabled c
  else if k = kLaneTimeEligible then chooseMaster c
  else match coefSlot k with
    | some (m, s) => stageCoef m s (slotCoef c m s) c
    | none => c

/-- The objects of a mill's program or placement change with some written keys (R238). -/
def millTouched (old new : Chip) (ks : List Key) (m : Fin 16) : Bool :=
  ks.any fun k => (k / 256 == 0x5000 + 0x100 * m.val || k / 256 == 0x5001 + 0x100 * m.val) && cfg old k != cfg new k

/-- A load of a mill begins (R229, R238): its run is abandoned, each rail that it serves loses its loop, and MILL_LOAD
completes it. [DEDUCED, log 60, 61] -/
def beginLoad (m : Fin 16) (c : Chip) : Chip :=
  each (railsOf c m) feedbackLost (setMill m (fun x => { x with
    state := if x.state = .reset then .reset else .loading, running := none, reads := [] }) c)

/-- The owner owes its partner the values that came into force (R417, R418). -/
def noteChanged (ks : List Key) (c : Chip) : Chip :=
  if c.twin.state == .owner then
    setTwin (fun t => { t with changed := (ks.filter mirrored).foldl (fun l k => if l.contains k then l else l ++ [k]) t.changed }) c
  else c

/-- Values come into force together, and act (R260, R280): what they govern is derived, and the banks switch, at an apply
instant (R234, R242). -/
def applyWrites (l : List (Key × Val)) (c : Chip) : Chip :=
  let ks := l.map (·.1)
  let old := c
  let c := loadChemistries ks (storeAll l c)
  let c := each ks effect c
  let c := each ((List.finRange 16).filter (millTouched old c ks)) beginLoad c
  let c := when (ks.any governs) (setHampers fun h => { h with derive := true }) c
  noteChanged ks c

/-! ### The commands that write-only objects are -/

/-- The partner can take the shelf (R408, R422). -/
def partnerStandby (c : Chip) : Bool :=
  c.twin.link && match c.twin.partner with
    | some f => f.healthy && f.ready && f.state == 4
    | none => false

/-- A hamper is VALIDATING, PREPARED or ARMED (R422, R423). -/
def hamperInFlight (c : Chip) : Bool :=
  c.hampers.list.any fun h => h.state == .validating || h.state == .prepared || h.state == .armed

/-- VAUX lies below its warning level (R368): records are not held. [DEDUCED, log 110] -/
def supplyLow (c : Chip) : Bool := c.alm.direct

/-- EXPORT_START and EXPORT_ABANDON act (R397). -/
def exportCtl (v : Int) (c : Chip) : Status × Chip :=
  if v = 1 then (if c.alm.frozen.state == .ready then (.stateConflict, c) else (.ok, exportFreeze c))
  else (.ok, setAlm (fun a => { a with frozen := {} }) c)

/-- EXPORT_RECEIPT acts (R399): the digest must be that of a READY export. [DEDUCED, log 120] -/
def exportReceive (digest : List Byte) (c : Chip) : Status × Chip :=
  if c.alm.frozen.state == .ready && digest == (sha256 (exportBody c)).toList then
    (.ok, log 0x50 193 0 (seqOf c.alm.frozen.records.getLast? : Int) []
      (setAlm (fun a => { a with frozen := { a.frozen with state := .receipted } }) c))
  else (.consistency, c)

/-- FALLOW_REQUEST acts (R148, R149). -/
def fallowChoose (v : Int) (c : Chip) : Status × Chip :=
  let s := Fin.ofNat 4 v.toNat
  if fallowAsked c s then (.ok, setBatt (fun b => { b with fallowChosen := some s }) c) else (.stateConflict, c)

/-- SHIP_MODE_ARM acts (R156). -/
def shipArm (o : Origin) (v : Int) (c : Chip) : Status × Chip :=
  if v = 0 then (.ok, shipCancel c) else (.ok, setBatt (fun b => { b with shipArm := some (o, nowMs c) }) c)

/-- SHIP_MODE_CONFIRM acts (R156): within 10 s of a live arm of the same origin. -/
def shipConfirm (o : Origin) (c : Chip) : Status × Chip :=
  match c.batt.shipArm with
  | some (p, t) =>
    if p = o ∧ nowMs c ≤ t + 10000 then (.ok, setBatt (fun b => { b with shipArm := none, shipPending := true }) c)
    else (.stateConflict, c)
  | none => (.stateConflict, c)

/-- SEQ_COMMAND acts (R207): a BLANK chip ignores on requests (Table 14.10), and a standby's sequencer changes no state
(R415). [DEDUCED, log 51, 52] -/
def seqRequest (v : Int) (c : Chip) : Chip :=
  if !drives c then c
  else if v = 0 then seqOff c
  else if lifeCycle c == .blank then c
  else seqOn c

/-- A write-only object acts on its value; none: it waits for an apply instant, commands a hamper or is no such object. -/
def commandWrite (o : Origin) (k : Key) (v : Val) (c : Chip) : Option (Status × Chip) :=
  let n : Int := match v with
    | .num n => n
    | .bytes _ => 0
  let b : List Byte := match v with
    | .num _ => []
    | .bytes b => b
  let i := k / 256
  if k = kBattHeartbeat then some (.ok, battBeat c)
  else if k = kFallowRequest then some (fallowChoose n c)
  else if k = kShipModeArm then some (shipArm o n c)
  else if k = kShipModeConfirm then some (shipConfirm o c)
  else if k = kSeqCommand then some (.ok, seqRequest n c)
  else if k = kFenceClear then some (.ok, clearFence o n.toNat c)
  else if k = kFenceClearOrigin then some (.ok, clearFencesOf n.toNat c)
  else if k = kLaneTimeSet then some (laneTimeWrite b c)
  else if k = kLaneGwRequest then some (gwRequest b c)
  else if k = kAlmExportCtl then some (exportCtl n c)
  else if k = kAlmExportReceipt then some (exportReceive b c)
  else if k = kChipResetCmd then some (.ok, c)
  else if 0x2700 ≤ i && i < 0x2800 && k % 256 = 6 then some (.ok, raiseKind .forced (i - 0x2700) 0 0 c)
  else match firstFin 16 fun m => k == kMillTraceCtl m with
    | some m => some (.ok, traceCtl m n c)
    | none => match firstFin 4 fun s => k == kStrRequalify s with
      | some s => some (.ok, when (drives c) (requalify s) c)
      | none => none

/-! ### Direct writes -/

/-- The object is locked by a hamper whose validation has passed (R278). -/
def lockedBy (c : Chip) (handle : Nat) (k : Key) : Bool :=
  (holdingHampers c).any fun h => h.handle != handle && h.writes.any fun w => w.1 == k

/-- The checks that a direct write's value must pass beside its type and range: R416, R278, and those of R277. -/
def directCheck (o : Origin) (k : Key) (v : Val) (c : Chip) : Status :=
  if c.twin.state == .standby && mirrored k && o != .twin then .stateConflict
  else if lockedBy c 0 k then .stateConflict
  else if k = kAssetTag && !(lifeCycle c == .blank || lifeCycle c == .provisioned) then .lifecycle
  else match crossChecks c (storeValue k v c) k with
    | [] => .ok
    | d :: _ => d.direct

/-- A direct write to an object whose value comes into force at once (R472): the Reeve derives what it governs. -/
def directWrite (o : Origin) (k : Key) (v : Val) (c : Chip) : Status × Chip :=
  match directCheck o k v c with
  | .ok => (.ok, when (governs k) derive (applyWrites [(k, v)] c))
  | st => (st, c)

end Sys2Proof.Machine
end

