-- ==== Sys2Proof/Machine/TwinOps.lean ====
section
/-! DEFINITION. Giving up and taking the shelf (R405 to R411), and what a mill that stops does (R112, R229). -/

namespace Sys2Proof.Machine

/-! ### Giving up -/

/-- Every pending request completes with SWITCHOVER (R268, R408). -/
def switchoverAll (c : Chip) : Chip := completeAll c.market.reqs .switchover c

/-- The release of R408: `OWN_OUT` low, the outputs held, the requests answered, and the event. -/
def releaseShelf (cause : Nat) (c : Chip) : Chip :=
  let c := setTwin (fun t => { t with
    state := .releasing, ownOut := false, lastCause := cause, holding := cause != 8, releasedAt := some c.clock.us }) c
  raise 182 3 cause (switchoverAll c)

/-- A give-up for cause 1 to 4, 6 or 7 (R408): made only with a partner that can take the shelf. -/
def giveUp (cause : Nat) (c : Chip) : Chip :=
  if c.twin.state != .owner then c
  else if partnerStandby c then releaseShelf cause c
  else raise 182 7 cause c

/-- A give-up for cause 5 or 8 (R407, R409). -/
def giveUpNow (cause : Nat) (c : Chip) : Chip := if c.twin.state == .owner then releaseShelf cause c else c

/-- Entry to STANDBY (Table 13.4, R419): the hold has ended, and RESYNC goes to the owner. [DEDUCED, log 123] -/
def toStandby (c : Chip) : Chip :=
  setTwin (fun t => { t with
    state := .standby, ownOut := false, holding := false, ready := false, mirrorSeqIn := none, healthySince := none
    returnSince := none, ret := false, changed := [], tx := t.tx ++ [.resync] }) c

/-! ### Taking -/

/-- The comparator latches that a standby took at its own pins are cleared, the gate drive of a port in RAMP or ON goes on,
and its fault timer starts from 0 (R411). -/
def clearLatches (c : Chip) : Chip :=
  { c with
    phases := c.phases.map fun p => { p with kill := false }
    rails := c.rails.map fun r => { r with killed := false }
    pps := c.pps.map fun p =>
      let on := p.state == .ramp || p.state == .on
      { p with kill := false, foff := p.foff && !on, timer := false, count := 0, idle := 0 } }

/-- Every network, service and Lane origin receives an origin fence (R268). -/
def fenceHosts (c : Chip) : Chip :=
  let c := setMarket (fun m => { m with originFences := allOrigins.filter fun o => hostOrigin o || m.originFences.contains o }) c
  each (c.market.reqs.filter fun q => hostOrigin q.origin && !q.dispatched && q.k != kFenceClear) (fun q => finish q .fenced []) c

/-- The claim (R410, R411): the shelf goes on from the shadow, and the timers that R411 names start again. -/
def claim (c : Chip) : Chip :=
  let c := setTwin (fun t => { t with
    state := .owner, ownOut := true, takeovers := satSucc 65535 t.takeovers, ready := false, ret := false
    healthySince := none, returnSince := none, holding := false }) c
  let c := fenceHosts (clearLatches c)
  let c := match c.seq.entry with
    | some j => seqEnter j c
    | none => c
  let c := when (c.bus.state == .qualifying || c.bus.state == .handover) (setBus fun b => { b with since := c.clock.us }) c
  slotWrite (raise 182 4 c.twin.partnerSeq c)

/-- A claim by a unit that must be HEALTHY (R410): one that is not withholds it, with an event. [DEDUCED, log 125] -/
def claimHealthy (c : Chip) : Chip := if healthy c then claim c else raise 182 8 0 c

/-! ### Mills that stop -/

/-- The rails that a mill hosts or owns lose their feedback (R112, R229). -/
def railsLoseMill (m : Fin 16) (c : Chip) : Chip := when (drives c) (each (railsOf c m) feedbackLost) c

/-- A mill that runs the shelf fails (Table 13.3): a give-up for cause 3. [DEDUCED, log 65] -/
def millGivesUp (m : Fin 16) (c : Chip) : Chip := when (millServes c m) (giveUp 3) c

/-- A mill that runs the shelf fails: a give-up where one is possible, and else R112. -/
def millFails (m : Fin 16) (c : Chip) : Chip := railsLoseMill m (millGivesUp m c)

/-- A mill stops (R220, R228, R229). -/
def millStops (m : Fin 16) (f : Mill → Mill) (c : Chip) : Chip :=
  millFails m (raise (156 + m) 1 0 (setMill m (fun x => { f x with state := .stopped, running := none, reads := [] }) c))

end Sys2Proof.Machine
end

