-- ==== Sys2Proof/Machine/MillStops.lean ====
section
/-! DEFINITION. The mills: illegal instructions, the run limit, the mill heartbeat, and trace dumps (R220, R228, R246). -/

namespace Sys2Proof.Machine

/-- The bounds of an instruction's fields (Tables 7.1, 7.2): the greatest M and C, whether D, A and B are used, and the
greatest X; none for a reserved OP and for LDI, whose fields differ. -/
def insFields (op : Nat) : Option (Nat × Nat × Bool × Bool × Bool × Nat) :=
  if op = 0x00 || op = 0x01 || op = 0x05 then some (0, 0, false, false, false, 0)
  else if op = 0x02 then some (0, 7, false, false, false, 2047)
  else if op = 0x04 || op = 0x10 || op = 0x11 then some (0, 0, true, true, false, 0)
  else if op = 0x06 then some (0, 0, false, true, false, 63)
  else if op = 0x07 then some (1, 0, true, false, false, 0)
  else if op = 0x08 || op = 0x09 || op = 0x0A then some (0, 255, false, true, false, 63)
  else if (0x0B ≤ op && op ≤ 0x0F) || (0x16 ≤ op && op ≤ 0x18) then some (0, 0, true, true, true, 0)
  else if op = 0x12 then some (0, 0, true, true, false, 63)
  else if op = 0x13 then some (0, 0, true, true, true, 63)
  else if op = 0x14 then some (0, 0, true, true, true, 62)
  else if op = 0x15 then some (0, 0, false, true, true, 0)
  else if op = 0x19 then some (1, 255, true, false, false, 0)
  else if op = 0x1A then some (0, 255, false, true, false, 2047)
  else none

/-- The word is an instruction (R219, R220): OP not reserved, M and K in range, every unused field 0. -/
def legalWord (w : BitVec 48) : Bool :=
  let v := w.toNat
  let op := field v 42 6
  if op = 0x03 then field v 32 3 == 0
  else match insFields op with
    | none => false
    | some (m, c, d, a, b, x) =>
      decide (field v 40 2 ≤ m) && decide (field v 32 8 ≤ c) && (d || field v 25 7 == 0) && (a || field v 18 7 == 0) &&
        (b || field v 11 7 == 0) && decide (field v 0 11 ≤ x)

/-- ILLEGAL_INSTRUCTION (R220): the mill meets a word that is no instruction, or the end of its code. -/
def illegalInstruction (m : Fin 16) (c : Chip) : Chip :=
  let x := c.mills[m]
  let bad := match x.program[x.pc]? with
    | none => true
    | some w => !legalWord w
  if x.state == .ready && nat c (kMillSource m) == 2 && x.running.isSome && bad then
    millStops m (fun x => { x with stat := { x.stat with illegal := true, stopPc := BitVec.ofNat 16 x.pc } }) c
  else c

/-- DIV with K above 62 is out of range, and the mill that meets it stops (R220). -/
def divOrStop (m : Fin 16) (d a b : Fin 128) (k : BitVec 6) (c : Chip) : Chip :=
  if k.toNat ≤ 62 then insDiv m d a b k c
  else when (millAt c m (fmtR 0x14 0 0 d a b k.toNat)) (illegalInstruction m) c

/-- RUN_LIMIT (R228). [DEDUCED, log 58] -/
def runLimit (m : Fin 16) (c : Chip) : Chip :=
  let x := c.mills[m]
  if x.state == .ready && x.running.isSome then
    millStops m (fun x => { x with stat := { x.stat with runLimit := true } }) c
  else c

/-- MILL_HEARTBEAT_LOST (R228; cause 3 of Table 13.3). [DEDUCED, log 65] -/
def millHeartbeatLost (m : Fin 16) (k : Fin 4) (c : Chip) : Chip :=
  let x := c.mills[m]
  if x.state == .ready && x.slots[k] then
    when (millServes c m) (giveUp 3)
      (raise (156 + m) 2 0 (setMill m (fun x => { x with stat := { x.stat with hbLost := true } }) c))
  else c

/-! ### Trace dumps -/

/-- The sequence number of the next dump: one above the newest stored. [DEDUCED, log 64] -/
def dumpSequence (c : Chip) : Nat :=
  (c.nor.dumps.toList.filterMap id).foldl (fun a d => max a (leNat (d.data.take 4) + 1)) 0

/-- The header of a dump (R246). [DEDUCED, log 64] -/
def dumpHeader (c : Chip) (m : Fin 16) : List Byte :=
  let t := c.mills[m].trace
  padTo 32 (leBytes 4 (dumpSequence c) ++ timeBytes (nowMs c) c.clock.powerCycles ++ leBytes 1 m ++
      leBytes 1 (field (nat c (kMillTraceTrig m)) 12 4) ++ leBytes 2 t.trigPos ++ leBytes 2 t.buf[(0 : Fin 4)].length) ++
    (List.finRange 4).flatMap fun (k : Fin 4) => leBytes 4 (nat c (kMillTraceSel m k))

/-- TRACE_DUMP_STORED (R246): a trace that reached DONE on a Watch event goes into the next slot, with an INFO record. -/
def traceDumpStored (m : Fin 16) (c : Chip) : Chip :=
  let t := c.mills[m].trace
  if flag c (kMillTraceDump m) && t.state == .done && t.byWatch && c.nor.size != 0 && live c then
    let slot := Fin.ofNat 15 c.nor.dumpNext
    let d : Dump := { mill := m, data := dumpHeader c m, channels := (List.finRange 4).map fun (k : Fin 4) => t.buf[k].reverse }
    let c := setNor (fun n => { n with dumps := n.dumps.set slot (some d), dumpNext := (slot.val + 1) % 15 }) c
    log 0x30 (156 + m) 0 (slot.val : Int) [] (setMill m (fun x => { x with trace := { x.trace with byWatch := false } }) c)
  else c

/-! ### The commands -/

/-- DIV (R219) answers the state with its effect. -/
def execDiv (m : Fin 16) (d a b : Fin 128) (k : BitVec 6) (s : State) : Host.Outcome State Fault Refusal :=
  answer s (divOrStop m d a b k s.chip)

/-- ILLEGAL_INSTRUCTION (R220) answers the state with its effect. -/
def execIllegalInstruction (m : Fin 16) (s : State) : Host.Outcome State Fault Refusal :=
  answer s (illegalInstruction m s.chip)

/-- RUN_LIMIT (R228) answers the state with its effect. -/
def execRunLimit (m : Fin 16) (s : State) : Host.Outcome State Fault Refusal := answer s (when (live s.chip) (runLimit m) s.chip)

/-- MILL_HEARTBEAT_LOST (R228) answers the state with its effect. -/
def execMillHeartbeatLost (m : Fin 16) (k : Fin 4) (s : State) : Host.Outcome State Fault Refusal :=
  answer s (when (live s.chip) (millHeartbeatLost m k) s.chip)

/-- TRACE_DUMP_STORED (R246) answers the state with its effect. -/
def execTraceDumpStored (m : Fin 16) (s : State) : Host.Outcome State Fault Refusal :=
  answer s (traceDumpStored m s.chip)

end Sys2Proof.Machine
end

