-- ==== Sys2Proof/Machine/CanSend.lean ====
section
/-! DEFINITION. Sending on the CAN lines: which lines carry a message, and the transmission of a TPDO (R292, R295,
R300). -/

namespace Sys2Proof.Machine

/-- The lines that carry a message of Ulvia's (R292, R293): those in use that are not in bus-off. -/
def canLines (c : Chip) : List (Fin 2) := (List.finRange 2).filter fun l => lineUsed c l && !c.can.lines[l].busOff

/-- A message goes out on every line (R292). -/
def canSendAll (m : CanTx) (c : Chip) : Chip := each (canLines c) (fun l => canSend l m) c

/-- An entry of a TPDO's mapping. -/
def tpdoMap (c : Chip) (k : Fin 16) : List Key :=
  (List.range (nat c (kTpdoMapCount k))).map fun j => nat c (kTpdoMap k j) / 256

/-- A sample goes through the market (R300): it fails where the local origin is fenced from the object, or its hamlet is in
block reset or closed after one. [DESIGN CHOICE, log 84] -/
def sampleFails (c : Chip) (k : Key) : Bool :=
  let h := c.hamlets[hamletOf c k]
  fencedPair c .reeve k || !slotFree c .reeve || h.blkrst || h.closed || c.hamlets[(3 : Fin 27)].blkrst ||
    c.hamlets[(3 : Fin 27)].closed

/-- The mapped values of a TPDO, read by the local origin (R300); none: a sample fails. -/
def sampleAll (c : Chip) : List Key → Option (List Byte)
  | [] => some []
  | k :: rest =>
    match sampleFails c k, readObject c .reeve k with
    | false, (.ok, b) => (sampleAll c rest).map fun more => b ++ more
    | _, _ => none

/-- The TPDO is valid: bit 31 of its COB-ID is 0 (R299). -/
def tpdoValid (c : Chip) (k : Fin 16) : Bool := !hasBit (nat c (kTpdoCobId k)) 31

/-- A TPDO is sent with the values in force (R300), in Operational only (R295); a failed sample skips it. -/
def sendTpdo (k : Fin 16) (c : Chip) : Chip :=
  if !tpdoValid c k || c.can.nmt != .operational then c
  else match sampleAll c (tpdoMap c k) with
    | none => c
    | some v =>
      canSendAll (.tpdo k v) (setCan (fun x => { x with
        tpdos := x.tpdos.set k { x.tpdos[k] with values := some v, sentAt := some c.clock.us, delayed := false } }) c)

/-- The inhibit time of a TPDO, in 100 µs, still runs (R300). -/
def tpdoInhibited (c : Chip) (k : Fin 16) : Bool := within c (nat c (kTpdoInhibit k) * 100) c.can.tpdos[k].sentAt

/-- A transmission that capping commands (R300): delayed to the end of the inhibit time, and several leave as one.
[DEDUCED, log 84] -/
def commandTpdo (k : Fin 16) (c : Chip) : Chip :=
  if tpdoInhibited c k then
    setCan (fun x => { x with tpdos := x.tpdos.set k { x.tpdos[k] with delayed := true } }) c
  else sendTpdo k c

/-- The cap PDO is transmitted (R68). -/
def capPdo (c : Chip) : Chip :=
  let n := nat c kCapPdoNumber
  if n = 0 then c else commandTpdo (Fin.ofNat 16 (n - 1)) c

end Sys2Proof.Machine
end

