-- ==== Sys2Proof/Machine/NetOps.lean ====
section
/-! DEFINITION. What the host ports share: whether NET serves them, a restart of the CAN communication, the drop of the
service link, and the wipe of NET (R295, R321, R474). -/

namespace Sys2Proof.Machine

/-- NET receives frames (R474): Ulvia runs, and NET is in no block reset and not closed after one. -/
def netUp (c : Chip) : Bool := live c && !hamletShut c.hamlets[(7 : Fin 27)]

/-- The entries of the parameter set in force (R440): none of one that failed its validation (R441). -/
def setEntries (c : Chip) : List (Key × List Byte) :=
  match c.boot.noAutoStart, c.boot.setInForce with
  | false, some s => c.nor.params[s].entries
  | _, _ => []

/-- The value of an entry (R441), if its object exists and is stored, and the value passes type and range.
[DEDUCED, log 131] -/
def entryValue (k : Key) (b : List Byte) : Option Val :=
  match objOf k, valueCheck k b with
  | some d, (.ok, v) => if d.pers = .stored then some v else none
  | _, _ => none

/-- An entry comes into force (R441). -/
def loadEntry (k : Key) (b : List Byte) (c : Chip) : Chip :=
  match entryValue k b with
  | some v => put k v c
  | none => c

/-- The objects 1000h to 1FFFh take their values of the parameter set in force (R295). [DEDUCED, log 86] -/
def reloadComm (c : Chip) : Chip :=
  let c := { c with od := c.od.filter fun e => !indexIn e.1 0x1000 0x1FFF }
  each ((setEntries c).filter fun e => indexIn e.1 0x1000 0x1FFF) (fun e => loadEntry e.1 e.2) c

/-- The communication starts (R295, R296): a new node-ID, no session, HBLOST clear, the boot-up message, Pre-operational.
[DEDUCED, log 86] -/
def startComm (c : Chip) : Chip :=
  let c := reloadComm (setCan (fun x => { x with nodeId := nat c kCanNodeId, nmt := .preOperational }) c)
  let c := setCan (fun x => { x with
    rpdos := Vector.replicate 16 {}, tpdos := Vector.replicate 16 {}
    lines := x.lines.map fun l => { l with usdo := none, hbTimedOut := l.hbTimedOut.set 0 false } }) c
  canSendAll (.bootUp c.can.nodeId) c

/-- The service link drops (R321): an open update is abandoned (R439). -/
def dropLink (counted : Bool) (c : Chip) : Chip :=
  let c := abandonUpdate (originLost .service c)
  let c := setSvc (fun s => { s with
    up := false, rate := 115200, newRate := none, proving := false, reader := none, writer := none
    linkDrops := if counted then satSucc 65535 s.linkDrops else s.linkDrops }) c
  raise 175 1 0 c

/-- The reply goes to a port of NET. -/
def Reply.ofNet : Reply → Bool
  | .usdo _ _ | .rpdo _ | .tw _ | .svc _ _ | .svcCopy _ _ => true
  | .own | .od _ _ _ | .odCopy _ _ _ => false

/-- NET is wiped (R474): every host session ends, and answers of requests in the market are discarded. -/
def wipeNet (c : Chip) : Chip :=
  let c := when c.svc.up (dropLink false) c
  let c := setMarket (fun m => { m with
    reqs := m.reqs.map (fun q => if q.reply.ofNet then { q with reply := .own } else q)
    offered := m.offered.map (fun q => if q.reply.ofNet then { q with reply := .own } else q) }) c
  { c with
    svc := { tx := c.svc.tx }
    can := { nodeId := c.can.nodeId, tx := c.can.tx }
    tw := { strapCode := c.tw.strapCode, answers := c.tw.answers } }

end Sys2Proof.Machine
end

