-- ==== Sys2Proof/Machine/Hampers.lean ====
section
/-! DEFINITION. Hampers (R271 to R289): opening, staging, the commands, validation, domain frames, and the end of a
hamper. -/

namespace Sys2Proof.Machine

/-! ### Opening -/

/-- The handles after the last one given, in rotation (R271). [DEDUCED, log 71] -/
def rotation (c : Chip) : List Nat := (List.range 255).map fun i => (c.hampers.lastHandle + i) % 255 + 1

/-- A read of `HamperOpen` opens a hamper for the origin (R271). [DEDUCED, log 71] -/
def openHamper (o : Origin) (c : Chip) : Status × Nat × Chip :=
  if 16 ≤ (c.hampers.list.filter Hamper.isOpen).length then (.hamperFull, 0, c)
  else
    match (rotation c).find? fun h => !(c.hampers.list.any fun x => x.handle == h && x.isOpen) with
    | none => (.hamperFull, 0, c)
    | some h => (.ok, h, setHampers (fun x => { x with
        lastHandle := h, list := (x.list.filter fun y => y.handle != h) ++ [{ handle := h, origin := o }] }) c)

/-! ### Staging -/

/-- `HamperStage` of an origin (R273). -/
def stageOf (c : Chip) (o : Origin) : Nat :=
  match c.hampers.stage.find? fun p => p.1 == o with
  | some p => p.2
  | none => 0

/-- The hamper that an origin stages in: OPEN and its own. -/
def stagingHamper (c : Chip) (o : Origin) : Option Hamper :=
  c.hampers.list.find? fun h => h.handle == stageOf c o && h.state == .opened && h.origin == o

/-- The write is executed directly whatever `HamperStage` holds (R273): no write-only object carries a setting.
[DEDUCED, log 71] -/
def stageExempt (k : Key) : Bool :=
  k == kHamperStage || k / 256 == 0x2123 || k / 256 == 0x2124 || match objOf k with
    | some d => d.access == .wo
    | none => false

/-- A write of `HamperStage` (R273). -/
def writeStage (o : Origin) (v : Nat) (c : Chip) : Status × Chip :=
  let set (c : Chip) : Chip := setHampers (fun x => { x with
    stage := (x.stage.filter fun p => p.1 != o) ++ (if v = 0 then [] else [(o, v)]) }) c
  if v = 0 then (.ok, set c)
  else if c.hampers.list.any fun h => h.handle == v && h.state == .opened && h.origin == o then (.ok, set c)
  else (.noHamper, c)

/-- A write of `HamperApplyTime` or `HamperNodes` of a handle (R276). -/
def writeHamperData (o : Origin) (k : Key) (b : List Byte) (c : Chip) : Status × Chip :=
  let h := k % 256
  if c.hampers.list.any fun x => x.handle == h && x.state == .opened && x.origin == o then
    (.ok, setHamper h (fun x => if k / 256 = 0x2123 then { x with applyTime := b } else { x with nodes := b }) c)
  else (.noHamper, c)

/-- The place of a write among staged writes: that of the one it replaces, or the next. [DEDUCED, log 72] -/
def placeOf : List (Key × Val) → Key → Nat
  | [], _ => 0
  | (k, _) :: rest, q => if k = q then 0 else 1 + placeOf rest q

/-- The staged writes with one more; it replaces an earlier one in its place (R272). -/
def stageIn : List (Key × Val) → Key → Val → List (Key × Val)
  | [], q, v => [(q, v)]
  | (k, w) :: rest, q, v => if k = q then (q, v) :: rest else (k, w) :: stageIn rest q v

/-- The DOMAIN bytes of staged writes (R272). -/
def domainBytes (l : List (Key × Val)) : Nat :=
  (l.map fun e => match e.2, objOf e.1 with
    | .bytes b, some d => if d.type == .dom then b.length else 0
    | _, _ => 0).foldl (· + ·) 0

/-- The hamper is spoiled by a refused write (R274): the first such status and place count. -/
def spoil (h : Hamper) (k : Key) (st : Status) (c : Chip) : Chip :=
  setHamper h.handle (fun x => { x with spoiled := match x.spoiled with
    | some p => some p
    | none => some (st, if st = .hamperFull then 255 else min 255 (placeOf x.writes k)) }) c

/-- A write refused at admission spoils the hamper that its origin stages in (R274). [DEDUCED, log 72] -/
def spoilAdmission (o : Origin) (k : Key) (st : Status) (c : Chip) : Chip :=
  if stageExempt k then c
  else match stagingHamper c o with
    | some h => spoil h k st c
    | none => c

/-- A write is staged, or refused (R272 to R274). [DEDUCED, log 72] -/
def stageWrite (o : Origin) (k : Key) (b : List Byte) (c : Chip) : Status × Chip :=
  match stagingHamper c o with
  | none => (.noHamper, c)
  | some h =>
    let refuse (st : Status) : Status × Chip := (st, spoil h k st c)
    match writeCheck c o k true with
    | .ok =>
      match valueCheck k b with
      | (.ok, v) =>
        let writes := stageIn h.writes k v
        let all := (c.hampers.list.map fun x => domainBytes (if x.handle = h.handle then writes else x.writes)).foldl (· + ·) 0
        if 256 < writes.length || 131072 < all then refuse .hamperFull
        else (.ok, setHamper h.handle (fun x => { x with writes := writes }) c)
      | (st, _) => refuse st
    | st => refuse st

/-! ### Domain frames -/

/-- A HAMPER payload (Table 8.11). -/
def hamperPayload (type handle node t deadline vote detail pos : Nat) : List Byte :=
  leBytes 1 type ++ leBytes 1 handle ++ leBytes 2 node ++ leBytes 8 t ++ leBytes 8 deadline ++ leBytes 1 vote ++
    leBytes 1 detail ++ leBytes 1 pos ++ [0]

/-- A frame of the coordinator to every node (R286): COMMIT and ABORT leave in both directions (R287, R337). -/
def domainBroadcast (type : Nat) (h : Hamper) (c : Chip) : Chip :=
  laneSend true (5 ≤ type) 0x7FF 2 (hamperPayload type h.handle (ownNode c) h.t 0 0 0 0) c

/-- A VOTE or ARMED of a participant to its coordinator (R286). -/
def domainAnswer (type : Nat) (h : Hamper) (vote detail pos : Nat) (c : Chip) : Chip :=
  match h.join with
  | some (n, k) => laneUnicast n 2 (hamperPayload type k.toNat n.val h.t 0 vote detail pos) c
  | none => c

/-- The participants of a coordinator: the nodes of `HamperNodes`, its own bit ignored (R285). -/
def participants (c : Chip) (h : Hamper) : List (Fin 1024) :=
  (List.finRange 1024).filter fun n => n.val != ownNode c && hasBit (h.nodes.getD (n / 8) 0).toNat (n % 8)

/-- The coordinator aborts (R287): every node is told, and the hamper ends with the node that failed.
[DEDUCED, log 78] -/
def abortDomain (h : Hamper) (node : Nat) (d : Detail) (pos : Nat) (c : Chip) : Chip :=
  endHamper h .aborted { status := .aborted, detail := d, node := node, pos := pos } .aborted (domainBroadcast 6 h c)

/-- The coordinator runs so many domain hampers (R285). -/
def coordinated (c : Chip) : Nat :=
  (c.hampers.list.filter fun h => h.mode == .coordinator && (h.state == .validating || h.state == .armed) &&
    !(c.hampers.queue.contains (.hamper h.handle false))).length

/-! ### Validation -/

/-- The detail that a refused check of one write reports (R277). [DEDUCED, log 75] -/
def Status.detail : Status → Detail
  | .range => .range
  | .access | .noObject | .hamperOnly => .access
  | .origin => .origin
  | .lifecycle => .lifecycle
  | .type => .type
  | .ok => .none
  | .stateConflict => .targetState
  | .fenced | .hamletReset | .timeout | .memory | .switchover | .busy | .consistency | .noHamper | .hamperFull
  | .validation | .aborted => .consistency

/-- One staged write, checked again (R277, R278). [DEDUCED, log 75] -/
def recheck (c : Chip) (h : Hamper) (e : Key × Val) : Detail :=
  match writeCheck c h.origin e.1 true, objOf e.1 with
  | .ok, some d =>
    if !d.inRange e.2 then .range
    else if e.1 = kAssetTag && !(lifeCycle c == .blank || lifeCycle c == .provisioned) then .lifecycle
    else if lockedBy c h.handle e.1 then .locked
    else .none
  | st, _ => st.detail

/-- The first staged write that fails its check. [DEDUCED, log 75] -/
def recheckAll (c : Chip) (h : Hamper) : Nat → List (Key × Val) → Option (Detail × Nat)
  | _, [] => none
  | n, e :: rest =>
    match recheck c h e with
    | .none => recheckAll c h (n + 1) rest
    | d => some (d, n)

/-- The chip that would be, once the staged writes were in force. -/
def staging (c : Chip) (h : Hamper) : Chip := loadChemistries (h.writes.map (·.1)) (storeAll h.writes c)

/-- The hamper changes the placement of BUSSHARE, CHARGE or WELLRATE (R279). -/
def movesShared (old new : Chip) : Bool := [3, 4, 5].any fun code => hostOf old code 0 != hostOf new code 0

/-- The apply time suits R281. [DEDUCED, log 75, 77] -/
def timeOk (c : Chip) (t : Nat) : Bool :=
  laneTimeValid c && t % 10000 == 0 && decide (c.clock.laneNs + 1000000 ≤ t) &&
    decide (t ≤ c.clock.laneNs + 86400000000000)

/-- The apply time and the schedulability (R279, R281, R285). -/
def scheduleCheck (c : Chip) (h : Hamper) : Detail :=
  match h.mode with
  | .none | .commit => .none
  | .commitAt | .participant => if timeOk c h.t && !movesShared c (staging c h) then .none else .time
  | .coordinator =>
    if !(timeOk c h.t && decide (h.admittedAt + (nat c kDomainVoteWindow + 5) * 1000000 ≤ h.t) &&
        !movesShared c (staging c h)) then .time
    else if (participants c h).isEmpty || 4 ≤ coordinated c then .nodes
    else .none

/-- Validation (R274, R277): the first failure in the spec's order. -/
def validate (c : Chip) (h : Hamper) : Option (Detail × Nat) :=
  match h.spoiled with
  | some (_, pos) => some (.spoiled, pos)
  | none => match recheckAll c h 0 h.writes with
    | some f => some f
    | none => match scheduleCheck c h with
      | .none => firstFailure c (staging c h) 0 h.writes
      | d => some (d, 255)

/-- A hamper fails its validation (R276, R287). -/
def failHamper (h : Hamper) (f : Detail × Nat) (c : Chip) : Chip :=
  endHamper h .failed { status := .validation, detail := f.1, node := ownNode c, pos := f.2 } .validation c

/-- A hamper's validation passes: COMMIT waits for the next apply tick, COMMIT-AT for its time, and a coordinator sends
PREPARE (R276, R280, R281, R287). -/
def passHamper (h : Hamper) (c : Chip) : Chip :=
  match h.mode with
  | .none | .commit | .participant =>
    setHampers (fun x => { x with
      queue := x.queue.map fun q => if q = .hamper h.handle false then .hamper h.handle true else q }) c
  | .commitAt =>
    completeHeld h .ok (unqueue h.handle (setHamper h.handle (fun x => { x with state := .armed, req := none }) c))
  | .coordinator =>
    let deadline := c.clock.laneNs + nat c kDomainVoteWindow * 1000000
    each (participants c h) (fun n =>
      laneUnicast n 2 (hamperPayload 1 h.handle (ownNode c) h.t deadline 0 0 0))
        (unqueue h.handle (setHamper h.handle (fun x => { x with deadline := deadline }) c))

/-- HAMPER_VALIDATION_COMPLETE (R277, R280): hampers are validated one at a time, in the order of their commands.
[DEDUCED, log 73] -/
def hamperValidationComplete (c : Chip) : Chip :=
  match c.hampers.queue with
  | .hamper handle false :: _ =>
    match hamperOf c handle with
    | none => unqueue handle c
    | some h => match validate c h with
      | some f => failHamper h f c
      | none => passHamper h c
  | _ => c

/-! ### Commands -/

/-- COMMIT, COMMIT-AT and COMMIT-DOMAIN (R276): the hamper waits for its validation. [DEDUCED, log 76] -/
def startCommit (h : Hamper) (mode : CommitMode) (id : Nat) (c : Chip) : Status × Bool × Chip :=
  if h.state != .opened then (.noHamper, false, c)
  else
    let at_ := ((reqOf c id).map (·.admitted)).getD c.clock.laneNs
    let c := setHamper h.handle (fun x => { x with
      state := .validating, mode := mode, req := some id, order := id, t := leNat x.applyTime, admittedAt := at_ }) c
    (.ok, true, enqueue (.hamper h.handle false) c)

/-- The coordinator waits for votes or for its arming point, which lies ahead (R287). [DEDUCED, log 77] -/
def beforeArming (c : Chip) (h : Hamper) : Bool :=
  h.mode == .coordinator && (h.state == .validating || h.state == .armed) && h.decision.isNone &&
    !(c.hampers.queue.contains (.hamper h.handle false)) && decide (c.clock.laneNs + 2000000 ≤ h.t)

/-- ROLLBACK (R281, R282, R287). [DEDUCED, log 76] -/
def rollbackCommand (h : Hamper) (c : Chip) : Status × Chip :=
  if h.state == .opened || h.state == .joined then (.ok, rollBack h c)
  else if !h.isOpen then (.noHamper, c)
  else if h.mode == .commitAt && h.state == .armed && decide (c.clock.laneNs + 100000 ≤ h.t) then (.ok, rollBack h c)
  else if beforeArming c h then (.ok, abortDomain h (ownNode c) .none 255 c)
  else (.stateConflict, c)

/-- JOIN (R284). [DEDUCED, log 76] -/
def joinCommand (h : Hamper) (node : Fin 1024) (chandle : BitVec 8) (c : Chip) : Status × Chip :=
  if h.state != .opened || c.hampers.list.any fun x => x.handle != h.handle && x.isOpen && x.join == some (node, chandle) then
    (.stateConflict, c)
  else (.ok, setHamper h.handle (fun x => { x with
    state := .joined, mode := .participant, join := some (node, chandle) }) c)

/-- A write of `HamperCommand` (R276): its status, whether the request waits instead, and what it does. -/
def hamperCommand (o : Origin) (id v : Nat) (c : Chip) : Status × Bool × Chip :=
  let cmd := field v 28 4
  match hamperOf c (v % 256) with
  | none => (.noHamper, false, c)
  | some h =>
    if h.origin != o && !(cmd == 4 && o == .service) then (.noHamper, false, c)
    else if cmd = 1 then startCommit h .commit id c
    else if cmd = 2 then startCommit h .commitAt id c
    else if cmd = 3 then startCommit h .coordinator id c
    else
      let r := if cmd = 4 then rollbackCommand h c
        else joinCommand h (Fin.ofNat 1024 (field v 16 10)) (BitVec.ofNat 8 (field v 8 8)) c
      (r.1, false, r.2)

/-- HAMPER_TIMEOUT (R282). -/
def hamperTimeout (handle : BitVec 8) (c : Chip) : Chip :=
  match hamperOf c handle.toNat with
  | some h => if h.state == .opened || h.state == .joined then rollBack h c else c
  | none => c

/-! ### The end with an apply -/

/-- A hamper applies (R260, R280): its writes at once, an INFO record, and a COMMIT completes.
[DESIGN CHOICE, log 79] -/
def applyHamper (h : Hamper) (c : Chip) : Chip :=
  endHamper h .applied {} .ok
    (log 0x10 195 0 (h.handle * 65536 + h.writes.length : Nat) []
      (applyWrites h.writes (setHampers (fun x => { x with applied := true }) c)))

/-- A mill still copies a bank that these writes would change (R235): they wait for the first apply tick after it.
[DEDUCED, log 62] -/
def waitsForCopy (l : List (Key × Val)) (c : Chip) : Bool :=
  let new := storeAll l c
  (List.finRange 16).any fun m => (c.mills[m].bankPend || c.mills[m].switchAtEnd) &&
    ((l.any fun e => (coefSlot e.1).any fun p => p.1 == m) ||
      (l.any (fun e => governs e.1) && derivedWords new m != derivedWords c m))

/-- The banks of every mill with a staged change switch at an apply instant (R234). -/
def switchAll (c : Chip) : Chip := each (List.finRange 16) bankSwitch c

/-- What the end of an apply instant does (R226, R234, R242): the Reeve's derivations, the bank switches, and, where a hamper
applied, the triggers of kind 4. -/
def settle (c : Chip) : Chip :=
  let c := switchAll (if c.hampers.derive || c.bus.fracPending then derive c else c)
  if c.hampers.applied then fire 4 (fun _ => true) (setHampers (fun x => { x with applied := false }) c) else c

/-! ### Domain hampers -/

/-- The coordinator's hamper of a frame that answers it. -/
def coordinatorOf (c : Chip) (f : DomainFrame) : Option Hamper :=
  if f.coordinator.val = ownNode c then
    c.hampers.list.find? fun h => h.handle == f.handle.toNat && h.mode == .coordinator && h.isOpen
  else none

/-- The participant's hamper that is joined to a frame's coordinator handle. -/
def participantOf (c : Chip) (f : DomainFrame) : Option Hamper :=
  c.hampers.list.find? fun h => h.mode == .participant && h.isOpen && h.join == some (f.coordinator, f.handle)

/-- DOMAIN_PREPARE_RECEIVE (R288): the joined hamper is validated, and a vote goes back. -/
def domainPrepareReceive (f : DomainFrame) (c : Chip) : Chip :=
  if !laneMember c then c else
  match participantOf c f with
  | none => laneUnicast f.coordinator 2
      (hamperPayload 2 f.handle.toNat f.coordinator.val f.applyTime 0 1 Detail.notJoined.number 255) c
  | some h =>
    if h.state != .joined then c
    else
      let h := { h with t := f.applyTime }
      match validate c h with
      | some d => domainAnswer 2 h 1 d.1.number d.2 (failHamper h d c)
      | none => domainAnswer 2 h 0 0 0 (setHamper h.handle (fun x => { x with t := f.applyTime, state := .prepared }) c)

/-- DOMAIN_VOTE_RECEIVE (R287): the first NO aborts; the last YES sends GO. -/
def domainVoteReceive (node : Fin 1024) (f : DomainFrame) (c : Chip) : Chip :=
  if !laneMember c then c else
  match coordinatorOf c f with
  | none => c
  | some h =>
    if h.state != .validating || h.go || !(participants c h).contains node then c
    else if f.no then abortDomain h node.val (Detail.ofNumber f.detail.toNat) f.position.toNat c
    else
      let votes := if h.votes.contains node then h.votes else h.votes ++ [node]
      let all := (participants c h).all fun n => votes.contains n
      let c := setHamper h.handle (fun x => { x with
        votes := votes, go := all, state := if all then .armed else x.state }) c
      when all (domainBroadcast 3 h) c

/-- The first participant that a list leaves out. -/
def firstMissing (c : Chip) (h : Hamper) (l : List (Fin 1024)) : Nat :=
  (((participants c h).find? fun n => !l.contains n).map (·.val)).getD (ownNode c)

/-- DOMAIN_VOTE_DEADLINE (R287). -/
def domainVoteDeadline (handle : BitVec 8) (c : Chip) : Chip :=
  match hamperOf c handle.toNat with
  | some h =>
    if h.mode == .coordinator && h.state == .validating && !h.go && decide (h.deadline ≤ c.clock.laneNs) &&
        !(c.hampers.queue.contains (.hamper h.handle false)) then
      abortDomain h (firstMissing c h h.votes) .noVote 255 c
    else c
  | none => c

/-- DOMAIN_GO_RECEIVE (R288). -/
def domainGoReceive (f : DomainFrame) (c : Chip) : Chip :=
  if !laneMember c then c else
  match participantOf c f with
  | some h => if h.state == .prepared then setHamper h.handle (fun x => { x with state := .armed }) c else c
  | none => c

/-- DOMAIN_ARMING_POINT (R288), 2 ms before T: an ARMED participant sends ARMED and records it; one still PREPARED discards. -/
def domainArmingPoint (handle : BitVec 8) (c : Chip) : Chip :=
  match hamperOf c handle.toNat with
  | some h =>
    if h.mode != .participant || decide (c.clock.laneNs + 2000000 < h.t) then c
    else if h.state == .armed && !h.armedSent then
      log 0x11 195 0 (domainValue c h) (timeEntries h.t)
        (domainAnswer 4 h 0 0 0 (setHamper h.handle (fun x => { x with armedSent := true }) c))
    else if h.state == .prepared then
      endHamper h .aborted { status := .aborted, node := ownNode c, pos := 255 } .aborted c
    else c
  | none => c

/-- DOMAIN_ARMED_RECEIVE (R287). -/
def domainArmedReceive (node : Fin 1024) (f : DomainFrame) (c : Chip) : Chip :=
  if !laneMember c then c else
  match coordinatorOf c f with
  | some h =>
    if (participants c h).contains node && !h.armedNodes.contains node then
      setHamper h.handle (fun x => { x with armedNodes := x.armedNodes ++ [node] }) c
    else c
  | none => c

/-- DOMAIN_DECISION_POINT (R276, R287), 1 ms before T: COMMIT if every ARMED has arrived, ABORT otherwise. [DEDUCED, log 78] -/
def domainDecisionPoint (handle : BitVec 8) (c : Chip) : Chip :=
  match hamperOf c handle.toNat with
  | some h =>
    if h.mode != .coordinator || h.state != .armed || h.decision.isSome || decide (c.clock.laneNs + 1000000 < h.t) then c
    else if (participants c h).all fun n => h.armedNodes.contains n then
      domainBroadcast 5 h (completeHeld h .ok
        (setHamper h.handle (fun x => { x with decision := some true, req := none }) c))
    else abortDomain h (firstMissing c h h.armedNodes) .noArmed 255
      (setHamper h.handle (fun x => { x with decision := some false }) c)
  | none => c

/-- DOMAIN_DECISION_REPEAT (R287): the coordinator's decision again, until 0.5 ms before T. [DEDUCED, log 78] -/
def domainDecisionRepeat (handle : BitVec 8) (c : Chip) : Chip :=
  match hamperOf c handle.toNat with
  | some h =>
    if h.mode != .coordinator || decide (h.t < c.clock.laneNs + 500000) then c
    else match h.decision with
      | some d => domainBroadcast (if d then 5 else 6) h c
      | none => c
  | none => c

/-- DOMAIN_COMMIT_RECEIVE (R288). -/
def domainCommitReceive (f : DomainFrame) (c : Chip) : Chip :=
  if !laneMember c then c else
  match participantOf c f with
  | some h => if h.state == .armed then setHamper h.handle (fun x => { x with decision := some true }) c else c
  | none => c

/-- DOMAIN_ABORT_RECEIVE (R288), in any state: the hamper is discarded, and one that failed its validation and voted NO
becomes ABORTED with the result of that validation. [DEDUCED, log 78] -/
def domainAbortReceive (f : DomainFrame) (c : Chip) : Chip :=
  if !laneMember c then c else
  match participantOf c f with
  | some h => endHamper h .aborted { status := .aborted, node := f.coordinator.val, pos := 255 } .aborted c
  | none =>
    match c.hampers.list.find? fun h => h.mode == .participant && h.state == .failed && h.join == some (f.coordinator, f.handle) with
    | some h => setHamper h.handle (fun x => { x with state := .aborted }) c
    | none => c

/-- A domain hamper whose decision is COMMIT applies (R287, R288), and a participant sends APPLIED; one whose banks are still
copied waits (R235). [DEDUCED, log 62] -/
def applyDomain (h : Hamper) (c : Chip) : Chip :=
  if waitsForCopy h.writes c then c
  else
    let c := applyHamper h c
    match h.mode, h.join with
    | .participant, some (n, k) => laneSend true false 0x7FF 2 (hamperPayload 7 k.toNat n.val h.t 0 0 0 0) c
    | _, _ => c

/-- DOMAIN_APPLY_TIME (R287, R288): a node that knows the decision applies; a participant that does not discards, with a
CRITICAL record. -/
def domainApplyTime (handle : BitVec 8) (c : Chip) : Chip :=
  match hamperOf c handle.toNat with
  | some h =>
    if h.state != .armed || decide (c.clock.laneNs < h.t) then c
    else match h.mode, h.decision with
      | .coordinator, some true | .participant, some true => settle (applyDomain h c)
      | .participant, _ =>
        log 0x12 195 3 (domainValue c h) (timeEntries h.t)
          (endHamper h .aborted { status := .aborted, node := ownNode c, pos := 255 } .aborted c)
      | _, _ => c
  | none => c

/-- DOMAIN_APPLIED_RECEIVE (R287, R289). -/
def domainAppliedReceive (node : Fin 1024) (f : DomainFrame) (c : Chip) : Chip :=
  if !laneMember c then c else
  if f.coordinator.val = ownNode c then
    match hamperOf c f.handle.toNat with
    | some h =>
      if h.mode == .coordinator && h.state == .applied && (participants c h).contains node && !h.appliedNodes.contains node then
        setHamper h.handle (fun x => { x with appliedNodes := x.appliedNodes ++ [node] }) c
      else c
    | none => c
  else c

/-- DOMAIN_REPORT_END (R289). -/
def domainReportEnd (handle : BitVec 8) (c : Chip) : Chip :=
  match hamperOf c handle.toNat with
  | some h =>
    let missing := (participants c h).filter fun n => !h.appliedNodes.contains n
    if h.mode == .coordinator && h.state == .applied && !missing.isEmpty &&
        decide (h.t + nat c kDomainReportTime * 1000000 ≤ c.clock.laneNs) then
      log 0x14 195 2 (missing.length : Int) []
        (setHamper h.handle (fun x => { x with state := .partial_, missing := missing }) c)
    else c
  | none => c

/-! ### The commands -/

/-- HAMPER_VALIDATION_COMPLETE (R277) answers the state with its effect. -/
def execHamperValidationComplete (s : State) : Host.Outcome State Fault Refusal :=
  answer s (when (live s.chip) hamperValidationComplete s.chip)

/-- HAMPER_TIMEOUT (R282) answers the state with its effect. -/
def execHamperTimeout (h : BitVec 8) (s : State) : Host.Outcome State Fault Refusal := answer s (when (live s.chip) (hamperTimeout h) s.chip)

/-- DOMAIN_PREPARE_RECEIVE (R288) answers the state with its effect. -/
def execDomainPrepareReceive (f : DomainFrame) (s : State) : Host.Outcome State Fault Refusal :=
  guarded (f.fits) s (domainPrepareReceive f s.chip)

/-- DOMAIN_VOTE_RECEIVE (R287) answers the state with its effect. -/
def execDomainVoteReceive (node : Fin 1024) (f : DomainFrame) (s : State) : Host.Outcome State Fault Refusal :=
  guarded (f.fits) s (domainVoteReceive node f s.chip)

/-- DOMAIN_VOTE_DEADLINE (R287) answers the state with its effect. -/
def execDomainVoteDeadline (h : BitVec 8) (s : State) : Host.Outcome State Fault Refusal :=
  answer s (when (live s.chip) (domainVoteDeadline h) s.chip)

/-- DOMAIN_GO_RECEIVE (R288) answers the state with its effect. -/
def execDomainGoReceive (f : DomainFrame) (s : State) : Host.Outcome State Fault Refusal :=
  guarded (f.fits) s (domainGoReceive f s.chip)

/-- DOMAIN_ARMING_POINT (R288) answers the state with its effect. -/
def execDomainArmingPoint (h : BitVec 8) (s : State) : Host.Outcome State Fault Refusal :=
  answer s (when (live s.chip) (domainArmingPoint h) s.chip)

/-- DOMAIN_ARMED_RECEIVE (R287) answers the state with its effect. -/
def execDomainArmedReceive (node : Fin 1024) (f : DomainFrame) (s : State) : Host.Outcome State Fault Refusal :=
  guarded (f.fits) s (domainArmedReceive node f s.chip)

/-- DOMAIN_DECISION_POINT (R287) answers the state with its effect. -/
def execDomainDecisionPoint (h : BitVec 8) (s : State) : Host.Outcome State Fault Refusal :=
  answer s (when (live s.chip) (domainDecisionPoint h) s.chip)

/-- DOMAIN_DECISION_REPEAT (R287) answers the state with its effect. -/
def execDomainDecisionRepeat (h : BitVec 8) (s : State) : Host.Outcome State Fault Refusal :=
  answer s (when (live s.chip) (domainDecisionRepeat h) s.chip)

/-- DOMAIN_COMMIT_RECEIVE (R288) answers the state with its effect. -/
def execDomainCommitReceive (f : DomainFrame) (s : State) : Host.Outcome State Fault Refusal :=
  guarded (f.fits) s (domainCommitReceive f s.chip)

/-- DOMAIN_ABORT_RECEIVE (R288) answers the state with its effect. -/
def execDomainAbortReceive (f : DomainFrame) (s : State) : Host.Outcome State Fault Refusal :=
  guarded (f.fits) s (domainAbortReceive f s.chip)

/-- DOMAIN_APPLY_TIME (R288) answers the state with its effect. -/
def execDomainApplyTime (h : BitVec 8) (s : State) : Host.Outcome State Fault Refusal :=
  answer s (when (live s.chip) (domainApplyTime h) s.chip)

/-- DOMAIN_APPLIED_RECEIVE (R289) answers the state with its effect. -/
def execDomainAppliedReceive (node : Fin 1024) (f : DomainFrame) (s : State) : Host.Outcome State Fault Refusal :=
  guarded (f.fits) s (domainAppliedReceive node f s.chip)

/-- DOMAIN_REPORT_END (R289) answers the state with its effect. -/
def execDomainReportEnd (h : BitVec 8) (s : State) : Host.Outcome State Fault Refusal :=
  answer s (when (live s.chip) (domainReportEnd h) s.chip)

end Sys2Proof.Machine
end

