-- ==== Sys2Proof/Machine/Requests.lean ====
section
/-! DEFINITION. Requests (R256 to R265): admission, dispatch, execution and completion; the commands that are writes of
one object; and the rows of the market. -/

namespace Sys2Proof.Machine

/-! ### Execution -/

/-- What carrying out a request gave: the status, the value read, and whether it waits for an apply instant. -/
structure Carried where
  status : Status
  value : List Byte := []
  held : Bool := false
  chip : Chip

/-- A read is carried out (R252, R271, R349); an answer longer than its port carries is refused before it acts.
[DEDUCED, log 69] -/
def carryRead (q : Req) (c : Chip) : Carried :=
  if q.k = kHamperOpen then
    match readCheck c q.origin q.k, openHamper q.origin c with
    | .ok, (.ok, h, c') => { status := .ok, value := leBytes 1 h, chip := c' }
    | .ok, (st, _, c') => { status := st, chip := c' }
    | st, _ => { status := st, chip := c }
  else match readObject c q.origin q.k with
    | (.ok, v) =>
      if (match replyLimit q.reply with
        | some n => decide (n < v.length)
        | none => false) then { status := .type, chip := c }
      else { status := .ok, value := v
             chip := if q.k = kLaneGwResult then gwCollect c else when (readsFree c q.k) takeFree c }
    | (st, _) => { status := st, chip := c }

/-- TWIN_EXERCISE may act (R422). [DEDUCED, log 81] -/
def exerciseAllowed (c : Chip) : Bool :=
  c.twin.state == .owner && partnerStandby c && c.bus.state == .onSource && !hamperInFlight c

/-- A write is carried out (R261, R472). [DEDUCED, log 68, 81] -/
def carryWrite (q : Req) (b : List Byte) (c : Chip) : Carried :=
  let o := q.origin
  let now (r : Status × Chip) : Carried := { status := r.1, chip := r.2 }
  match writeCheck c o q.k false, valueCheck q.k b with
  | .ok, (.ok, v) =>
    let n := leNat b
    if q.k = kHamperStage then now (writeStage o n c)
    else if q.k / 256 = 0x2123 || q.k / 256 = 0x2124 then now (writeHamperData o q.k b c)
    else if q.k = kHamperCommand then
      let r := hamperCommand o q.id n c
      { status := r.1, held := r.2.1, chip := r.2.2 }
    else if q.k = kParamStoreCmd then
      (if c.boot.store == .running || supplyLow c then now (.stateConflict, c)
      else { status := .ok, held := true, chip := enqueue .store c })
    else if q.k = kTwinExercise then
      (if exerciseAllowed c then now (.ok, enqueue .exercise c) else now (.stateConflict, c))
    else if applyInstant q.k then { status := .ok, held := true, chip := enqueue (.implicit o q.id q.k v) c }
    else match commandWrite o q.k v c with
      | some r => now r
      | none => now (directWrite o q.k v c)
  | .ok, (st, _) => now (st, c)
  | st, _ => now (st, c)

/-- A request is carried out at its target. -/
def carryOut (q : Req) (c : Chip) : Carried :=
  match q.data with
  | none => carryRead q c
  | some b => carryWrite q b c

/-- A request changes in the market. -/
def setReq (id : Nat) (f : Req → Req) (c : Chip) : Chip :=
  setMarket (fun m => { m with reqs := m.reqs.map fun q => if q.id == id then f q else q }) c

/-- A request that its hamlet has taken is carried out and completes, or waits for its apply instant. `ChipResetCmd`
starts its reset once it has completed. [DEDUCED, log 81] -/
def serve (q : Req) (c : Chip) : Chip :=
  let r := carryOut q c
  if r.held then setReq q.id (fun x => { x with held := true }) r.chip
  else
    let c := complete q r.status r.value r.chip
    when (q.k == kChipResetCmd && r.status == .ok) (chipReset .command false) c

/-! ### Dispatch -/

/-- Nothing stands in the way of a request from MARKET to a hamlet: the hamlet takes packets, and MARKET's stile has none
waiting towards the green. -/
def pathFree (h : Fin 27) (c : Chip) : Bool :=
  !hamletShut c.hamlets[h] && c.hamlets[(3 : Fin 27)].outbox.isEmpty && c.hamlets[(3 : Fin 27)].unsent.isEmpty

/-- The request goes to its hamlet (R258): taken at once where the path is free, and else sent behind what waits, to
stand at the stile of a hamlet that takes no packet. [DESIGN CHOICE, log 16] -/
def dispatch (q : Req) (c : Chip) : Chip :=
  let h := hamletOf c q.k
  if pathFree h c then setReq q.id (fun x => { x with dispatched := true, taken := true }) c
  else sendPacket 3 h (.request q.id) (setReq q.id (fun x => { x with dispatched := true }) c)

/-- The request that goes next for a pair of origin and object (R258). -/
def nextOf (c : Chip) (o : Origin) (k : Key) : Option Req :=
  let l := c.market.reqs.filter fun q => q.origin == o && q.k == k
  if l.any (·.dispatched) then none else l.head?

/-- MARKET_DISPATCH (R258). -/
def marketDispatch (o : Origin) (k : Key) (c : Chip) : Chip :=
  if !live c then c
  else match nextOf c o k with
    | some q => dispatch q c
    | none => c

/-! ### Admission -/

/-- A request is refused at admission (R259): it completes, never having held a slot. -/
def refuse (q : Req) (st : Status) (c : Chip) : Chip :=
  let c := setMarket (fun m => { m with
    done := m.done ++ [{ id := q.id, origin := q.origin, k := q.k, write := q.data.isSome, status := st }]
    busyCount := if st = .busy then (m.busyCount + 1) % 2 ^ 32 else m.busyCount }) c
  reply q st [] (if q.data.isSome then spoilAdmission q.origin q.k st c else c)

/-- The request takes a slot, and is dispatched if no earlier one of its pair is outstanding (R256, R258). -/
def takeSlot (q : Req) (c : Chip) : Chip :=
  let q := { q with admitted := c.clock.laneNs }
  let c := setMarket (fun m => { m with reqs := m.reqs ++ [q], peak := max m.peak (m.reqs.length + 1) }) c
  marketDispatch q.origin q.k c

/-- A staged write completes at its admission (R265, R273). -/
def takeSlotStaged (q : Req) (b : List Byte) (c : Chip) : Chip :=
  let r := stageWrite q.origin q.k b c
  complete q r.1 [] r.2

/-- Admission (R257): the slot, the fences, the access, origin and life-cycle checks, and the staging handle. -/
def admitReq (q : Req) (c : Chip) : Chip :=
  if !slotFree c q.origin then refuse q .busy c
  else if fencedPair c q.origin q.k then refuse q .fenced c
  else match q.data with
    | none => match readCheck c q.origin q.k with
      | .ok => takeSlot q c
      | st => refuse q st c
    | some b =>
      let stages := stageOf c q.origin != 0 && !stageExempt q.k
      match writeCheck c q.origin q.k stages with
      | .ok => if stages then takeSlotStaged q b c else takeSlot q c
      | st => refuse q st c

/-- A request reaches the market (R257): it is admitted, or offered while the MARKET hamlet is closed (R17). -/
def submit (o : Origin) (k : Key) (data : Option (List Byte)) (r : Reply) (c : Chip) : Chip :=
  if !live c then c
  else
    let q : Req := { id := c.market.nextId, origin := o, k := k, data := data, reply := r }
    let c := setMarket (fun m => { m with nextId := m.nextId + 1 }) c
    if hamletShut c.hamlets[(3 : Fin 27)] then setMarket (fun m => { m with offered := m.offered ++ [q] }) c
    else admitReq q c

/-- The market is ready again (R17): what was offered is admitted in order. -/
def marketReady (c : Chip) : Chip :=
  let l := c.market.offered
  each l admitReq (setMarket (fun m => { m with offered := [] }) c)

/-! ### The rows of the market -/

/-- A write whose whole way from admission to completion is one command. -/
def writeBytes (o : Origin) (k : Key) (b : List Byte) (c : Chip) : Chip :=
  let id := c.market.nextId
  let c := submit o k (some b) .own c
  match reqOf c id with
  | some q => if q.taken && !q.held then serve q c else c
  | none => c

/-- A write of a number, likewise. -/
def writeNum (o : Origin) (k : Key) (v : Int) (c : Chip) : Chip :=
  writeBytes o k (match objOf k with
    | some d => d.render (.num v)
    | none => []) c

/-- A read, likewise. -/
def readNow (o : Origin) (k : Key) (c : Chip) : Chip :=
  let id := c.market.nextId
  let c := submit o k none .own c
  match reqOf c id with
  | some q => if q.taken then serve q c else c
  | none => c

/-- OBJECT_WRITE (R260, R472). -/
def objectWrite (o : Origin) (k : Key) (v : List Byte) (c : Chip) : Chip := writeBytes o k v c

/-- A request of unknown fate was executed or not, as a free value says (Table 8.5). [DESIGN CHOICE, log 8, 70] -/
def perhaps (q : Req) (c : Chip) : Chip :=
  let done := (freeWord c).getLsbD 0
  let c := takeFree c
  if done && q.taken && !q.held then
    let r := carryOut q c
    when (q.k == kChipResetCmd && r.status == .ok) (chipReset .command false) r.chip
  else c

/-- MARKET_COMPLETION (R259): the target answers, or finds an uncorrectable memory error. -/
def marketCompletion (id : Nat) (memoryError : Bool) (c : Chip) : Chip :=
  match reqOf c id with
  | none => c
  | some q =>
    if !q.taken || q.held || !live c then c
    else if memoryError then complete q .memory [] (perhaps q c)
    else serve q c

/-- MARKET_TIMEOUT (R263): never of a request to WATCH or ALMANAC. -/
def marketTimeout (id : Nat) (c : Chip) : Chip :=
  match reqOf c id with
  | none => c
  | some q =>
    if !q.dispatched || (hamletOf c q.k).val ≤ 1 || !live c then c
    else complete q .timeout [] (perhaps q c)

/-- HAMLET_RESET_WAIT_TIMEOUT (R264): a request that waits at the stile of a hamlet in or after block reset. -/
def hamletResetWaitTimeout (id : Nat) (c : Chip) : Chip :=
  match reqOf c id with
  | none => c
  | some q =>
    let h := c.hamlets[hamletOf c q.k]
    if q.dispatched && !q.taken && (h.blkrst || h.closed) then complete q .hamletReset [] c else c

/-! ### Commands that are one write -/

/-- RAIL_ENABLE_WRITE (R84). -/
def railEnableWrite (o : Origin) (r : Fin 16) (v : Int) (c : Chip) : Chip := writeNum o (kRailEnable r) v c

/-- RAIL_TARGET_WRITE (R85). -/
def railTargetWrite (o : Origin) (r : Fin 16) (v : Int) (c : Chip) : Chip := writeNum o (kRailTarget r) v c

/-- STR_REQUALIFY (R125). -/
def strRequalify (o : Origin) (n : Fin 4) (v : Int) (c : Chip) : Chip := writeNum o (kStrRequalify n) v c

/-- BATT_HEARTBEAT (R138). -/
def battHeartbeat (o : Origin) (v : Int) (c : Chip) : Chip := writeNum o kBattHeartbeat v c

/-- FALLOW_REQUEST (R148). -/
def fallowRequest (o : Origin) (v : Int) (c : Chip) : Chip := writeNum o kFallowRequest v c

/-- SHIP_MODE_ARM (R156). -/
def shipModeArm (o : Origin) (v : Int) (c : Chip) : Chip := writeNum o kShipModeArm v c

/-- SHIP_MODE_CONFIRM (R156). -/
def shipModeConfirm (o : Origin) (v : Int) (c : Chip) : Chip := writeNum o kShipModeConfirm v c

/-- PP_ENABLE_WRITE (R168). -/
def ppEnableWrite (o : Origin) (n : Fin 8) (v : Int) (c : Chip) : Chip := writeNum o (kPpEnable n) v c

/-- SEQ_COMMAND (R207). -/
def seqCommand (o : Origin) (v : Int) (c : Chip) : Chip := writeNum o kSeqCommand v c

/-- TRACE_ARM (R245). -/
def traceArm (o : Origin) (m : Fin 16) (c : Chip) : Chip := writeNum o (kMillTraceCtl m) 1 c

/-- TRACE_FORCE (R245). -/
def traceForce (o : Origin) (m : Fin 16) (c : Chip) : Chip := writeNum o (kMillTraceCtl m) 2 c

/-- TRACE_IDLE (R245). -/
def traceIdle (o : Origin) (m : Fin 16) (c : Chip) : Chip := writeNum o (kMillTraceCtl m) 0 c

/-- FENCE_CLEAR (R267). -/
def fenceClear (o : Origin) (v : Int) (c : Chip) : Chip := writeNum o kFenceClear v c

/-- FENCE_CLEAR_ORIGIN (R267). -/
def fenceClearOrigin (o : Origin) (v : Int) (c : Chip) : Chip := writeNum o kFenceClearOrigin v c

/-- HAMPER_OPEN (R271). -/
def hamperOpen (o : Origin) (c : Chip) : Chip := readNow o kHamperOpen c

/-- HAMPER_STAGE (R273). -/
def hamperStage (o : Origin) (v : Int) (c : Chip) : Chip := writeNum o kHamperStage v c

/-- A write of `HamperCommand` (Table 8.7). -/
def hamperWrite (o : Origin) (cmd node chandle : Nat) (h : BitVec 8) (c : Chip) : Chip :=
  writeNum o kHamperCommand (cmd * 2 ^ 28 + node * 2 ^ 16 + chandle * 256 + h.toNat : Nat) c

/-- HAMPER_COMMIT (R276). -/
def hamperCommit (o : Origin) (h : BitVec 8) (c : Chip) : Chip := hamperWrite o 1 0 0 h c

/-- HAMPER_COMMIT_AT (R281). -/
def hamperCommitAt (o : Origin) (h : BitVec 8) (c : Chip) : Chip := hamperWrite o 2 0 0 h c

/-- HAMPER_COMMIT_DOMAIN (R287). -/
def hamperCommitDomain (o : Origin) (h : BitVec 8) (c : Chip) : Chip := hamperWrite o 3 0 0 h c

/-- HAMPER_ROLLBACK (R282). -/
def hamperRollback (o : Origin) (h : BitVec 8) (c : Chip) : Chip := hamperWrite o 4 0 0 h c

/-- HAMPER_JOIN (R284). -/
def hamperJoin (o : Origin) (h : BitVec 8) (node : Fin 1024) (chandle : BitVec 8) (c : Chip) : Chip :=
  hamperWrite o 5 node.val chandle.toNat h c

/-- LANE_ENABLE_WRITE (R339). -/
def laneEnableWrite (o : Origin) (v : Int) (c : Chip) : Chip := writeNum o kLaneEnable v c

/-- LANE_TIME_SET (R346). -/
def laneTimeSet (o : Origin) (v : List Byte) (c : Chip) : Chip := writeBytes o kLaneTimeSet v c

/-- LANE_GW_REQUEST (R349). -/
def laneGwRequest (o : Origin) (v : List Byte) (c : Chip) : Chip := writeBytes o kLaneGwRequest v c

/-- LANE_GW_RESULT (R349). -/
def laneGwResult (o : Origin) (c : Chip) : Chip := readNow o kLaneGwResult c

/-- SRC_ENABLE_WRITE (R356). -/
def srcEnableWrite (o : Origin) (i : Fin 256) (v : Int) (c : Chip) : Chip := writeNum o (kSrcEnable i) v c

/-- SRC_FORCE (R361). -/
def srcForce (o : Origin) (i : Fin 256) (v : Int) (c : Chip) : Chip := writeNum o (kSrcForce i) v c

/-- EXPORT_START (R397). -/
def exportStart (o : Origin) (v : Int) (c : Chip) : Chip := writeNum o kAlmExportCtl v c

/-- EXPORT_ABANDON (R397). -/
def exportAbandon (o : Origin) (v : Int) (c : Chip) : Chip := writeNum o kAlmExportCtl v c

/-- EXPORT_RECEIPT (R399). -/
def exportReceipt (o : Origin) (digest : List Byte) (c : Chip) : Chip := writeBytes o kAlmExportReceipt digest c

/-- TWIN_EXERCISE (R422). -/
def twinExercise (o : Origin) (v : Int) (c : Chip) : Chip := writeNum o kTwinExercise v c

/-- CHIP_RESET_CMD (R427). -/
def chipResetCmd (o : Origin) (v : Int) (c : Chip) : Chip := writeNum o kChipResetCmd v c

/-- PARAM_STORE_CMD (R442). -/
def paramStoreCmd (o : Origin) (v : Int) (c : Chip) : Chip := writeNum o kParamStoreCmd v c

/-! ### The commands -/

/-- RAIL_ENABLE_WRITE (R84) answers the state with its effect. -/
def execRailEnableWrite (o : Origin) (r : Fin 16) (v : Int) (s : State) : Host.Outcome State Fault Refusal :=
  guarded (inRange v 0 255) s (railEnableWrite o r v s.chip)

/-- RAIL_TARGET_WRITE (R85) answers the state with its effect. -/
def execRailTargetWrite (o : Origin) (r : Fin 16) (v : Int) (s : State) : Host.Outcome State Fault Refusal :=
  guarded (inRange v (-2147483648) 2147483647) s (railTargetWrite o r v s.chip)

/-- STR_REQUALIFY (R125) answers the state with its effect. -/
def execStrRequalify (o : Origin) (n : Fin 4) (v : Int) (s : State) : Host.Outcome State Fault Refusal :=
  guarded (inRange v 0 255) s (strRequalify o n v s.chip)

/-- BATT_HEARTBEAT (R138) answers the state with its effect. -/
def execBattHeartbeat (o : Origin) (v : Int) (s : State) : Host.Outcome State Fault Refusal :=
  guarded (inRange v 0 65535) s (battHeartbeat o v s.chip)

/-- FALLOW_REQUEST (R148) answers the state with its effect. -/
def execFallowRequest (o : Origin) (v : Int) (s : State) : Host.Outcome State Fault Refusal :=
  guarded (inRange v 0 255) s (fallowRequest o v s.chip)

/-- SHIP_MODE_ARM (R156) answers the state with its effect. -/
def execShipModeArm (o : Origin) (v : Int) (s : State) : Host.Outcome State Fault Refusal :=
  guarded (inRange v 0 65535) s (shipModeArm o v s.chip)

/-- SHIP_MODE_CONFIRM (R156) answers the state with its effect. -/
def execShipModeConfirm (o : Origin) (v : Int) (s : State) : Host.Outcome State Fault Refusal :=
  guarded (inRange v 0 65535) s (shipModeConfirm o v s.chip)

/-- PP_ENABLE_WRITE (R168) answers the state with its effect. -/
def execPpEnableWrite (o : Origin) (n : Fin 8) (v : Int) (s : State) : Host.Outcome State Fault Refusal :=
  guarded (inRange v 0 255) s (ppEnableWrite o n v s.chip)

/-- SEQ_COMMAND (R207) answers the state with its effect. -/
def execSeqCommand (o : Origin) (v : Int) (s : State) : Host.Outcome State Fault Refusal :=
  guarded (inRange v 0 255) s (seqCommand o v s.chip)

/-- TRACE_ARM (R245) answers the state with its effect. -/
def execTraceArm (o : Origin) (m : Fin 16) (s : State) : Host.Outcome State Fault Refusal :=
  answer s (traceArm o m s.chip)

/-- TRACE_FORCE (R245) answers the state with its effect. -/
def execTraceForce (o : Origin) (m : Fin 16) (s : State) : Host.Outcome State Fault Refusal :=
  answer s (traceForce o m s.chip)

/-- TRACE_IDLE (R245) answers the state with its effect. -/
def execTraceIdle (o : Origin) (m : Fin 16) (s : State) : Host.Outcome State Fault Refusal :=
  answer s (traceIdle o m s.chip)

/-- OBJECT_WRITE (R260) answers the state with its effect. -/
def execObjectWrite (o : Origin) (k : Key) (v : List Byte) (s : State) : Host.Outcome State Fault Refusal :=
  guarded (decide (k < 0x1000000)) s (objectWrite o k v s.chip)

/-- MARKET_DISPATCH (R258) answers the state with its effect. -/
def execMarketDispatch (o : Origin) (k : Key) (s : State) : Host.Outcome State Fault Refusal :=
  guarded (decide (k < 0x1000000)) s (marketDispatch o k s.chip)

/-- MARKET_COMPLETION (R259) answers the state with its effect. -/
def execMarketCompletion (id : Nat) (memoryError : Bool) (s : State) : Host.Outcome State Fault Refusal :=
  answer s (marketCompletion id memoryError s.chip)

/-- MARKET_TIMEOUT (R263) answers the state with its effect. -/
def execMarketTimeout (id : Nat) (s : State) : Host.Outcome State Fault Refusal := answer s (marketTimeout id s.chip)

/-- HAMLET_RESET_WAIT_TIMEOUT (R264) answers the state with its effect. -/
def execHamletResetWaitTimeout (id : Nat) (s : State) : Host.Outcome State Fault Refusal :=
  answer s (when (live s.chip) (hamletResetWaitTimeout id) s.chip)

/-- FENCE_CLEAR (R267) answers the state with its effect. -/
def execFenceClear (o : Origin) (v : Int) (s : State) : Host.Outcome State Fault Refusal :=
  guarded (inRange v 0 4294967295) s (fenceClear o v s.chip)

/-- FENCE_CLEAR_ORIGIN (R267) answers the state with its effect. -/
def execFenceClearOrigin (o : Origin) (v : Int) (s : State) : Host.Outcome State Fault Refusal :=
  guarded (inRange v 0 65535) s (fenceClearOrigin o v s.chip)

/-- HAMPER_OPEN (R271) answers the state with its effect. -/
def execHamperOpen (o : Origin) (s : State) : Host.Outcome State Fault Refusal := answer s (hamperOpen o s.chip)

/-- HAMPER_STAGE (R273) answers the state with its effect. -/
def execHamperStage (o : Origin) (v : Int) (s : State) : Host.Outcome State Fault Refusal :=
  guarded (inRange v 0 255) s (hamperStage o v s.chip)

/-- HAMPER_COMMIT (R276) answers the state with its effect. -/
def execHamperCommit (o : Origin) (h : BitVec 8) (s : State) : Host.Outcome State Fault Refusal :=
  answer s (hamperCommit o h s.chip)

/-- HAMPER_COMMIT_AT (R281) answers the state with its effect. -/
def execHamperCommitAt (o : Origin) (h : BitVec 8) (s : State) : Host.Outcome State Fault Refusal :=
  answer s (hamperCommitAt o h s.chip)

/-- HAMPER_COMMIT_DOMAIN (R287) answers the state with its effect. -/
def execHamperCommitDomain (o : Origin) (h : BitVec 8) (s : State) : Host.Outcome State Fault Refusal :=
  answer s (hamperCommitDomain o h s.chip)

/-- HAMPER_ROLLBACK (R282) answers the state with its effect. -/
def execHamperRollback (o : Origin) (h : BitVec 8) (s : State) : Host.Outcome State Fault Refusal :=
  answer s (hamperRollback o h s.chip)

/-- HAMPER_JOIN (R284) answers the state with its effect. -/
def execHamperJoin (o : Origin) (h : BitVec 8) (node : Fin 1024) (chandle : BitVec 8) (s : State) : Host.Outcome State Fault Refusal :=
  answer s (hamperJoin o h node chandle s.chip)

/-- LANE_ENABLE_WRITE (R339) answers the state with its effect. -/
def execLaneEnableWrite (o : Origin) (v : Int) (s : State) : Host.Outcome State Fault Refusal :=
  guarded (inRange v 0 255) s (laneEnableWrite o v s.chip)

/-- LANE_TIME_SET (R346) answers the state with its effect. -/
def execLaneTimeSet (o : Origin) (v : List Byte) (s : State) : Host.Outcome State Fault Refusal :=
  guarded (decide (v.length ≤ 4096)) s (laneTimeSet o v s.chip)

/-- LANE_GW_REQUEST (R349) answers the state with its effect. -/
def execLaneGwRequest (o : Origin) (v : List Byte) (s : State) : Host.Outcome State Fault Refusal :=
  answer s (laneGwRequest o v s.chip)

/-- LANE_GW_RESULT (R349) answers the state with its effect. -/
def execLaneGwResult (o : Origin) (s : State) : Host.Outcome State Fault Refusal := answer s (laneGwResult o s.chip)

/-- SRC_ENABLE_WRITE (R356) answers the state with its effect. -/
def execSrcEnableWrite (o : Origin) (i : Fin 256) (v : Int) (s : State) : Host.Outcome State Fault Refusal :=
  guarded (inRange v 0 255) s (srcEnableWrite o i v s.chip)

/-- SRC_FORCE (R361) answers the state with its effect. -/
def execSrcForce (o : Origin) (i : Fin 256) (v : Int) (s : State) : Host.Outcome State Fault Refusal :=
  guarded (inRange v 0 255) s (srcForce o i v s.chip)

/-- EXPORT_START (R397) answers the state with its effect. -/
def execExportStart (o : Origin) (v : Int) (s : State) : Host.Outcome State Fault Refusal :=
  guarded (inRange v 0 255) s (exportStart o v s.chip)

/-- EXPORT_ABANDON (R397) answers the state with its effect. -/
def execExportAbandon (o : Origin) (v : Int) (s : State) : Host.Outcome State Fault Refusal :=
  guarded (inRange v 0 255) s (exportAbandon o v s.chip)

/-- EXPORT_RECEIPT (R399) answers the state with its effect. -/
def execExportReceipt (o : Origin) (digest : List Byte) (s : State) : Host.Outcome State Fault Refusal :=
  answer s (exportReceipt o digest s.chip)

/-- TWIN_EXERCISE (R422) answers the state with its effect. -/
def execTwinExercise (o : Origin) (v : Int) (s : State) : Host.Outcome State Fault Refusal :=
  guarded (inRange v 0 255) s (twinExercise o v s.chip)

/-- CHIP_RESET_CMD (R427) answers the state with its effect. -/
def execChipResetCmd (o : Origin) (v : Int) (s : State) : Host.Outcome State Fault Refusal :=
  guarded (inRange v 0 65535) s (chipResetCmd o v s.chip)

/-- PARAM_STORE_CMD (R442) answers the state with its effect. -/
def execParamStoreCmd (o : Origin) (v : Int) (s : State) : Host.Outcome State Fault Refusal :=
  guarded (inRange v 0 65535) s (paramStoreCmd o v s.chip)

end Sys2Proof.Machine
end

