-- ==== Sys2Proof/Machine/BlockReset.lean ====
section
/-! DEFINITION. The block reset of a hamlet (R14, R17, R18, R264, R268, R474): its start, its end, and the mark-ready of
the hamlet's owner. -/

namespace Sys2Proof.Machine

/-- The hamlet can be block-reset (R359). -/
def resettableHamlet (h : Fin 27) : Bool := h.val == 3 || (7 ≤ h.val && h.val ≤ 26)

/-- The mill of a hamlet. -/
def millOf (h : Fin 27) : Option (Fin 16) := if 11 ≤ h.val then some (Fin.ofNat 16 (h.val - 11)) else none

/-- The twin link is lost (R403, R413): origin 5 is lost, and a standby's mirror is stale. -/
def twinLinkDown (c : Chip) : Chip :=
  if !c.twin.link then c
  else
    let c := originLost .twin c
    raise 182 1 0 (setTwin (fun t => { t with
      link := false, returnSince := none, ret := false, stale := t.stale || t.state == .standby }) c)

/-- LANE is wiped (R14, R329): its links go, TVALID clears, and every node is lost with its origin. The ID in use stays.
[DEDUCED, log 17] -/
def wipeLane (c : Chip) : Chip :=
  let c := laneOriginsLost (clearTvalid c)
  { c with lane := { nodeIdNow := c.lane.nodeIdNow, tx := c.lane.tx, delivered := c.lane.delivered } }

/-- A mill is wiped (R14): it holds nothing until it is loaded. -/
def wipeMill (m : Fin 16) (c : Chip) : Chip := setMill m (fun _ => { state := .reset }) c

/-- TWIN is wiped (R14): the link and what it has received go; role, state and the ownership lines are hardwired (R28,
R404). [DEDUCED, log 17] -/
def wipeTwin (c : Chip) : Chip :=
  setTwin (fun t => { t with
    partner := none, partnerSeq := 0, mirrorSeqOut := 0, mirrorSeqIn := none, track := none, heartbeat := 0 }) (twinLinkDown c)

/-- MEM is wiped (R14): the NOR program in progress is cut off, and tears the estimator slot that it writes (R154).
[DEDUCED, log 17] -/
def wipeMem (c : Chip) : Chip :=
  setBatt (fun b => { b with slotWrite := none }) (setNor (fun n => { n with slots := tornSlots c }) c)

/-- MARKET is wiped (R14, R268): the fences and counters go at once; what it held is answered when it leaves its block
reset. -/
def wipeMarket (c : Chip) : Chip :=
  setMarket (fun m => { m with fences := [], originFences := [], peak := 0, busyCount := 0 }) c

/-- The memories and registers of a hamlet are wiped (R14). [DEDUCED, log 17] -/
def wipeHamlet (h : Fin 27) (c : Chip) : Chip :=
  if h.val = 3 then wipeMarket c
  else if h.val = 7 then wipeNet c
  else if h.val = 8 then wipeLane c
  else if h.val = 9 then wipeTwin c
  else if h.val = 10 then wipeMem c
  else match millOf h with
    | some m => railsLoseMill m (wipeMill m c)
    | none => c

/-- The give-up for a block reset that is about to start (Table 13.3, cause 3; R408): of a mill that runs the shelf. -/
def resetGivesUp (h : Fin 27) (c : Chip) : Chip :=
  match millOf h with
  | some m => when (!c.hamlets[h].blkrst) (millGivesUp m) c
  | none => c

/-- A block reset starts (R14, R18, R359): the clock stops, what the hamlet had taken completes HAMLET-RESET, its memories
are wiped and its locks released. -/
def blockReset (h : Fin 27) (c : Chip) : Chip :=
  if !resettableHamlet h || c.hamlets[h].blkrst then c
  else
    let c := setHamlet h (fun x => { x with blkrst := true, run := false, waking := false, realign := false }) c
    let c := each (c.market.reqs.filter fun q => q.taken && !q.held && hamletOf c q.k == h) (fun q => complete q .hamletReset []) c
    releaseLocks h (wipeHamlet h c)

/-- MARKET leaves its block reset (R268): what it held completes HAMLET-RESET, and every origin but the local one receives
an origin fence. [DEDUCED, log 17] -/
def marketLeavesReset (c : Chip) : Chip :=
  let c := completeAll c.market.reqs .hamletReset c
  setMarket (fun m => { m with
    reqs := [], fences := [], originFences := allOrigins.filter (· != .reeve), peak := 0, busyCount := 0 }) c

/-- BLOCK_RESET_COMPLETE (R14): the clock runs again, also of a parked hamlet (step 4), the stile realigns, and the hamlet
stays closed. [DEDUCED, log 17] -/
def blockResetComplete (h : Fin 27) (c : Chip) : Chip :=
  if !c.hamlets[h].blkrst then c
  else
    let c := setHamlet h (fun x => { x with blkrst := false, closed := true, realign := true, run := true }) c
    when (h.val == 3) marketLeavesReset c

/-- HAMLET_MARK_READY (R14, R17): the owner has restored the hamlet; a mill is loaded first. [DEDUCED, log 86] -/
def hamletMarkReady (h : Fin 27) (c : Chip) : Chip :=
  if !c.hamlets[h].closed || c.hamlets[h].blkrst then c
  else match millOf h with
    | some m => if c.mills[m].state == .reset || c.mills[m].state == .loading then millLoad m c else openHamlet h c
    | none =>
      let c := openHamlet h c
      if h.val = 3 then marketReady c
      else if h.val = 7 then startComm c
      else if h.val = 8 then laneJoin c
      else c

/-! ### The commands -/

/-- BLOCK_RESET_COMPLETE (R14) answers the state with its effect. -/
def execBlockResetComplete (h : Fin 27) (s : State) : Host.Outcome State Fault Refusal :=
  answer s (blockResetComplete h s.chip)

/-- HAMLET_MARK_READY (R17) answers the state with its effect. -/
def execHamletMarkReady (h : Fin 27) (s : State) : Host.Outcome State Fault Refusal :=
  answer s (hamletMarkReady h s.chip)

end Sys2Proof.Machine
end

