-- ==== Sys2Proof/Machine/SafeState.lean ====
section
/-! DEFINITION. The safe state (R369, R370). -/

namespace Sys2Proof.Machine

/-- The pins and units that the safe state holds (R369): everything not named keeps its state. [DEDUCED, log 111] -/
def safeHold (c : Chip) : Chip :=
  let c := trimsNeutral c
  { c with
    phases := c.phases.map fun p => { p with drven := false, enabled := false }
    mills := c.mills.map fun m =>
      { m with state := if m.state = .ready then .stopped else m.state, running := none, reads := [] }
    seq := { c.seq with pgOut := Vector.replicate 8 false }
    reeve := { c.reeve with halted := true }
    twin := { c.twin with ownOut := false }
    watch := { c.watch with safe := true } }

/-- Ulvia enters the safe state: an owner gives up for cause 8, the outputs are held, and the flush begins (R369, R395,
R408). [DEDUCED, log 111] -/
def enterSafe (c : Chip) : Chip := if c.watch.safe then c else safeHold (closeRecord (giveUpNow 8 c))

end Sys2Proof.Machine
end

