-- ==== Sys2Proof/Machine/WatchUnit.lean ====
section
/-! DEFINITION. The Watch (R352 to R368): reactions, quiet periods, memories, locks and supplies. -/

namespace Sys2Proof.Machine

/-! ### Reactions -/

/-- A reaction that acts only at the entry to its state. -/
def Taken.enters (t : Taken) (n : Nat) : Bool := t.entered && hasBit t.set n

/-- The block-reset owner of a source (Tables 11.1, 11.4). [DEDUCED, log 105] -/
def ownerOf (c : Chip) (e : Event) : Option (Fin 27) :=
  let i := e.src.val
  let host (code : Nat) : Option (Fin 27) := (hostOf c code 0).map fun u => millHamlet u.mill
  if 32 ≤ i && i < 48 then (loopMill c (Fin.ofNat 16 (i - 32))).map millHamlet
  else if i = 57 then host 5
  else if 68 ≤ i && i < 72 then host 4
  else if 156 ≤ i && i < 172 then some (millHamlet (Fin.ofNat 16 (i - 156)))
  else if 172 ≤ i && i < 176 then some 7
  else if i = 176 || i = 177 || i = 183 then some 8
  else if i = 182 then some 9
  else if 192 ≤ i && i < 219 then some (Fin.ofNat 27 (i - 192))
  else if 221 ≤ i && i ≤ 224 then (if 0 ≤ e.value && e.value < 27 then some (Fin.ofNat 27 e.value.toNat) else none)
  else none

/-- The give-ups of step 1 (R408, Table 13.3): causes 1, 3, 4 and 5. [DEDUCED, log 107] -/
def watchGiveUps (t : Taken) (c : Chip) : Chip :=
  let c := when (t.entered && t.dest == .severe && inGiveUpMap c t.event.src) (giveUp 1) c
  let c := match ownerOf c t.event with
    | some h => when (t.enters 2) (resetGivesUp h) c
    | none => c
  let c := when (t.event.src.val == 245 || t.event.src.val == 246) (giveUp 4) c
  when (t.enters 3) (giveUpNow 5) c

/-- Step 4: interrupts and traps to the Reeve (R357, R358). -/
def passSignals (t : Taken) (c : Chip) : Chip :=
  let c := when (hasBit t.set 0) (sendSignal 0 2 (.interrupt t.event.src)) c
  when (t.enters 1) (sendSignal 0 2 (.trap t.event.src)) c

/-- The sequencer acts where source 232 has become SEVERE (R200). -/
def passChatter (t : Taken) (c : Chip) : Chip :=
  when (t.event.src.val == 232 && t.entered && t.dest == .severe) seqChatterAction c

/-- Step 5: the block reset of the owner, where there is one (R357, R359). -/
def passBlockReset (t : Taken) (c : Chip) : Chip :=
  match ownerOf c t.event with
  | some h => when (t.enters 2) (blockReset h) c
  | none => c

/-- The traces that trigger on an event of their source (R244): COND 5. -/
def traceEvents (l : List Taken) (c : Chip) : Chip :=
  each (List.finRange 16) (fun (m : Fin 16) c =>
    let v := nat c (kMillTraceTrig m)
    if field v 12 4 == 5 && (l.any fun t => t.event.src.val == field v 0 8) && c.mills[m].trace.state == .armed then
      setMill m (fun x => { x with trace := { x.trace with watchHit := true } }) c
    else c) c

/-- WATCH_EVALUATION (R354, R358). [DEDUCED, log 135] -/
def watchEvaluation (c : Chip) : Chip :=
  if !watchRuns c then c
  else
    let events := c.watch.arrived.foldr insertEvent []
    let r := classifyAll events (setWatch (fun w => { w with arrived := [] }) c)
    let c := each r.2 watchGiveUps r.1
    let c := each r.2 passRecord (traceEvents r.2 c)
    let c := each r.2 passSignals c
    let c := each r.2 passChatter c
    let c := each r.2 passBlockReset c
    when (r.2.any fun t => t.enters 3) (fun c => chipReset .watch (c.twin.state == .releasing && c.twin.holding) c) c

/-- So many ms have passed since the last event of the source (R354, R356). -/
def quietFor (c : Chip) (i : Fin 256) (ms : Nat) : Bool :=
  match c.watch.srcs[i].times.head? with
  | some t => decide (t + ms ≤ nowMs c)
  | none => true

/-- SOURCE_QUIET (R356): Q has passed without an event. -/
def sourceQuiet (i : Fin 256) (c : Chip) : Chip :=
  let s := c.watch.srcs[i]
  if watchRuns c && (s.state == .active || s.state == .severe) && quietFor c i (nat c (kSrcQuiet i)) then
    let c := setSrc i (fun x => { x with recoveries := satSucc 65535 x.recoveries }) c
    if s.times.any fun t => nowMs c ≤ t + nat c (kSrcWindow i) then setSrc i (fun x => { x with state := .quiet }) c
    else sourceCleared i c
  else c

/-- SOURCE_CLEAR_FROM_QUIET (R356): the last held event is older than T. -/
def sourceClearFromQuiet (i : Fin 256) (c : Chip) : Chip :=
  when (watchRuns c && c.watch.srcs[i].state == .quiet && quietFor c i (nat c (kSrcWindow i) + 1)) (sourceCleared i) c

/-! ### Memories and locks -/

/-- The kinds of memory that R363 tells apart. -/
inductive MemKind where
  | watch | reeve | fixed (h : Nat) | mill (m : Fin 16) | almanac | nor
deriving DecidableEq, Repr

/-- The memory of a hamlet by its kind (Table 11.4). -/
def memKind : MemoryId → MemKind
  | .reeveSram => .reeve
  | .hamlet h =>
    if h.val = 0 then .watch else if h.val = 1 then .almanac else if h.val = 2 then .reeve
    else match millOf h with
      | some m => .mill m
      | none => .fixed h.val
  | .mill m => .mill m
  | .almanacBuffer => .almanac
  | .nor => .nor

/-- A corrected codeword is counted in a sub-index of `MemCorrectedCount`. -/
def countCorrected (n : Fin 5) (c : Chip) : Chip :=
  setWatch (fun w => { w with memCorrected := w.memCorrected.set n (w.memCorrected[n] + 1) }) c

/-- MEMORY_CORRECTED (R363, R367). [DEDUCED, log 106] -/
def memoryCorrected (mem : MemoryId) (c : Chip) : Chip :=
  if !watchRuns c then c
  else match memKind mem with
    | .watch => setWatch (fun w => { w with corrected := w.corrected + 1 }) c
    | .reeve => raise 220 1 0 (countCorrected 0 c)
    | .fixed h => raise 222 1 h (countCorrected 1 c)
    | .mill m => raise 224 1 (11 + m.val : Nat) (countCorrected 2 c)
    | .almanac => raise 225 1 0 (countCorrected 3 c)
    | .nor => countCorrected 4 c

/-- WATCH_SELF_CHECK_FAIL (R367): the record bypasses classification, and the safe state follows. [DEDUCED, log 106] -/
def watchSelfCheckFail (mismatch : Bool) (c : Chip) : Chip :=
  if !watchRuns c then c
  else enterSafe (accept
    { kind := .event .raised, severity := 3, source := 192, code := 4, value := if mismatch then 2 else 1 } c)

/-- MEMORY_UNCORRECTABLE (R363, R367). [DEDUCED, log 105, 106] -/
def memoryUncorrectable (mem : MemoryId) (c : Chip) : Chip :=
  if !watchRuns c then c
  else match memKind mem with
    | .watch => watchSelfCheckFail false c
    | .reeve => raise 219 1 0 c
    | .fixed h => raise 221 1 h c
    | .mill m => raiseKind .echo (156 + m) 1 223 (raise 223 1 (11 + m.val : Nat) c)
    | .almanac => raise 225 2 0 c
    | .nor => raise 226 1 0 c

/-- A lock is revoked: the block reset of its holder, which releases it, the count and the event (R26, R364, R365).
[DEDUCED, log 108] -/
def revoke (src : Nat) (h : Fin 27) (c : Chip) : Chip :=
  raise src 1 h.val (blockReset h (resetGivesUp h (setWatch (fun w => { w with revocations := satSucc 65535 w.revocations }) c)))

/-- The hamlet can hold a lock: a block reset has released every lock of one in it or closed after it (R14, R26). -/
def mayHoldLock (h : Fin 27) (c : Chip) : Bool := !c.hamlets[h].blkrst && !c.hamlets[h].closed

/-- MEM_LOCK_REVOKE (R364): the hamlet that holds the memory-port lock loses it by its block reset. One that is never
block-reset keeps it, with one event for the hold, until a record reaches the flash. [DEDUCED, log 108] -/
def memLockRevoke (h : Fin 27) (c : Chip) : Chip :=
  if !watchRuns c || !recordReady c || !mayHoldLock h c || c.green.memLock = some h then c
  else
    let c := setGreen (fun g => { g with memLock := some h }) c
    if resettableHamlet h then revoke 228 h c else raise 228 1 h.val c

/-- GREEN_LOCK_REVOKE (R365). [DEDUCED, log 108] -/
def greenLockRevoke (h : Fin 27) (c : Chip) : Chip :=
  when (watchRuns c && mayHoldLock h c && resettableHamlet h)
    (fun c => revoke 229 h (setGreen (fun g => { g with greenLock := some h }) c)) c

/-! ### Supplies -/

/-- A reading of VAUX, in the format of its channel, lies below a level in V (R368). -/
def vauxBelow (level : Rat) (reading : Int) : Bool := decide (ofQ 22 (satWord reading) < level)

/-- SUPPLY_WARNING (R368, R395, R426): the event, from boot step 10 on, and the Almanac writes each record as it arrives.
[DEDUCED, log 110] -/
def supplyWarning (reading : Int) (c : Chip) : Chip :=
  if !watchRuns c || !settingsTaken c || c.alm.direct || !vauxBelow (22 / 5) reading then c
  else raise 245 1 reading (publish 122 (satWord reading) (setAlm (fun a => { a with direct := true, held := false }) c))

/-- SUPPLY_WARNING_CLEAR (R368, R395): the channel reads at least 1 % above the level. [DEDUCED, log 110] -/
def supplyWarningClear (c : Chip) : Chip :=
  when (!vauxBelow (1111 / 250) (chanInt c 122)) (setAlm fun a => { a with direct := false }) c

/-- SUPPLY_OUT_OF_WINDOW (R368): one event until the channel is back inside. That it has been outside for 10 µs is the
sender's word (log 3). [DEDUCED, log 110] -/
def supplyOutOfWindow (ch : Fin 256) (reading : Int) (c : Chip) : Chip :=
  if !watchRuns c || c.watch.supplyOut.contains ch || !supplyBad ch 0 reading then c
  else raise 246 1 reading (publish ch (satWord reading) (setWatch (fun w => { w with supplyOut := ch :: w.supplyOut }) c))

/-! ### The commands -/

/-- WATCH_EVALUATION (R354) answers the state with its effect. -/
def execWatchEvaluation (s : State) : Host.Outcome State Fault Refusal := answer s (watchEvaluation s.chip)

/-- SOURCE_QUIET (R356) answers the state with its effect. -/
def execSourceQuiet (i : Fin 256) (s : State) : Host.Outcome State Fault Refusal := answer s (sourceQuiet i s.chip)

/-- SOURCE_CLEAR_FROM_QUIET (R356) answers the state with its effect. -/
def execSourceClearFromQuiet (i : Fin 256) (s : State) : Host.Outcome State Fault Refusal :=
  answer s (sourceClearFromQuiet i s.chip)

/-- MEMORY_CORRECTED (R363) answers the state with its effect. -/
def execMemoryCorrected (mem : MemoryId) (s : State) : Host.Outcome State Fault Refusal :=
  answer s (memoryCorrected mem s.chip)

/-- MEMORY_UNCORRECTABLE (R363) answers the state with its effect. -/
def execMemoryUncorrectable (mem : MemoryId) (s : State) : Host.Outcome State Fault Refusal :=
  answer s (memoryUncorrectable mem s.chip)

/-- MEM_LOCK_REVOKE (R364) answers the state with its effect. -/
def execMemLockRevoke (h : Fin 27) (s : State) : Host.Outcome State Fault Refusal := answer s (memLockRevoke h s.chip)

/-- GREEN_LOCK_REVOKE (R365) answers the state with its effect. -/
def execGreenLockRevoke (h : Fin 27) (s : State) : Host.Outcome State Fault Refusal :=
  answer s (greenLockRevoke h s.chip)

/-- WATCH_SELF_CHECK_FAIL (R367) answers the state with its effect. -/
def execWatchSelfCheckFail (mismatch : Bool) (s : State) : Host.Outcome State Fault Refusal :=
  answer s (watchSelfCheckFail mismatch s.chip)

/-- SUPPLY_WARNING (R368) answers the state with its effect. -/
def execSupplyWarning (reading : Int) (s : State) : Host.Outcome State Fault Refusal :=
  guarded (inRange reading (-2147483648) 2147483647) s (supplyWarning reading s.chip)

/-- SUPPLY_OUT_OF_WINDOW (R368) answers the state with its effect. -/
def execSupplyOutOfWindow (ch : Fin 256) (reading : Int) (s : State) : Host.Outcome State Fault Refusal :=
  guarded (inRange reading (-2147483648) 2147483647) s (supplyOutOfWindow ch reading s.chip)

/-- SUPPLY_WARNING_CLEAR (R368) answers the state with its effect. -/
def execSupplyWarningClear (s : State) : Host.Outcome State Fault Refusal := answer s (supplyWarningClear s.chip)

end Sys2Proof.Machine
end

