-- ==== Sys2Proof/Machine/Mirror.lean ====
section
/-! DEFINITION. The mirror of the twins (R417 to R419): the items that the owner sends, and what the standby loads. -/

namespace Sys2Proof.Machine

/-! ### What the owner sends -/

/-- Every object that R418 mirrors. -/
def mirroredKeys : List Key :=
  (List.range 0x3A00).flatMap fun n =>
    let i := 0x2600 + n
    ((tableOf i).filter fun d => d.covers i d.sub).flatMap fun d =>
      ((List.range (d.last + 1 - d.sub)).map fun j => key i (d.sub + j)).filter mirrored

/-- The states of Table 13.5 that objects show. -/
def stateKeys : List Key :=
  (List.range 16).map kRailState ++ (List.range 32).map kPhStatus ++ (List.range 8).map kPpState ++
    (List.range 8).map kPpRetriesLeft ++ (List.range 8).map kRmStatus ++
    [kSeqState, kSeqEntry, kSeqReached, kSeqReachedAux, kPgOutState, kBusState, kPlantTrim, kCapStage, kCapVcLevel,
      kCapDoorLevel, kCapSequence, kCapShedMask] ++
    (List.range 8).map kPpShedPower ++ [kFallowString] ++ (List.range 4).map kStrState ++ (List.range 4).map kStrStatus

/-- An object's present value, as an item. -/
def mirrorObject (c : Chip) (k : Key) : MirrorItem := .object k (readBytes c .twin k)

/-- The VC target of a rail, as an item. [DESIGN CHOICE, log 122] -/
def mirrorVc (c : Chip) (r : Fin 16) : MirrorItem :=
  let x := c.rails[r]
  .vcTarget r (if x.vcHolds then some x.command else none) (vcSlewNow c r)

/-- The states and internal values of Table 13.5. -/
def mirrorStates (c : Chip) : List MirrorItem :=
  stateKeys.map (mirrorObject c) ++ (List.finRange 16).map (mirrorVc c) ++
    (fittedStrs c).map fun s => .estimator s (estBlock c s)

/-- A MIRROR frame leaves (R417): the objects that it names, and the states. [DESIGN CHOICE, log 122] -/
def sendMirror (full : Bool) (ks : List Key) (c : Chip) : Chip :=
  let items := ks.map (mirrorObject c) ++ mirrorStates c
  takeFree (setTwin (fun t => { t with
    mirrorSeqOut := t.mirrorSeqOut + 1, changed := [], tx := t.tx ++ [.mirror (t.mirrorSeqOut + 1) full items] }) c)

/-! ### What the standby loads -/

/-- An estimator block is taken up (Table 4.7). -/
def loadBlock (s : Fin 4) (b : EstBlock) (c : Chip) : Chip :=
  let c := setEst s (fun e => { e with
    charge := (b.charge : Rat) / 100, capacity := b.capacity, resistance := b.resistance
    anchorAt := some (b.anchorTime / 2 ^ 20), anchorCycle := b.anchorTime % 2 ^ 20
    anchorSoc := b.anchorSoc, anchored := !b.lowConf
    anchorBad := b.anchorDiscarded, dq := b.dq, throughput := b.throughput, cycles := b.cycles }) c
  setStr s (fun x => { x with
    frozen := b.frozen, lowConf := b.lowConf, phase := ChargePhase.ofNumber b.phase }) c

/-- The states of `RailState` by their numbers (Table 3.3). -/
def railStates : List RailState := [.off, .onDelay, .ramp, .regulate, .offDelay, .rampDown, .fbHold, .dutyRamp, .fault]

/-- The rail produces edges in a state (R71). -/
def producesEdges (s : RailState) : Bool :=
  match s with
  | .off | .onDelay | .fault => false
  | .ramp | .regulate | .offDelay | .rampDown | .fbHold | .dutyRamp => true

/-- The PWM hamlet of a standby computes the edges of a rail in such a state: its phases are enabled behind the pins, and
low otherwise (R410, R415). -/
def shadowPhases (r : Fin 16) (s : RailState) (c : Chip) : Chip :=
  if producesEdges s then each (activePhases c r) (fun p => setPhase p fun x => { x with drven := true, enabled := true }) c
  else railLow r c

/-- A rail's state is loaded; in REGULATE its reference stands at the target (R417), and in a state with edges it has a
period. [DEDUCED, log 123] -/
def loadRail (r : Fin 16) (v : Nat) (c : Chip) : Chip :=
  match railStates.find? fun s => s.number == v with
  | some s => shadowPhases r s <| setRail r (fun x => { x with
      state := s, ref := if s = .regulate then roundRat (commandVolts c r * 2 ^ 22) else x.ref
      since := if s = x.state then x.since else c.clock.us, target := if x.vcHolds then x.target else num c (kRailTarget r)
      period := if !producesEdges s then 0 else if x.period = 0 then nominalTicks c r else x.period }) c
  | none => c

/-- A port's state is loaded, with the outputs that its gate drive holds behind the pins (R410, Table 5.2). -/
def loadPp (n : Fin 8) (s : PpState) (c : Chip) : Chip :=
  if c.pps[n].state = s then c
  else match s with
    | .ramp => ppRamp n c
    | .on => if ppRole c n == 2 then ppOn n c
      else setPp n (fun p => { p with gate := 4095 }) (ppOn n c)
    | .off | .waitInput | .insert | .retryWait | .latched | .reverse => setPp n (fun p => { p with state := s }) (ppOff n c)
    | .shed => setPp n (fun p => { p with state := s, foff := false }) (ppOff n c)

/-- The drop and its cause are loaded from `PhStatus` (Table 3.2). -/
def loadPhase (p : Fin 32) (v : Nat) (c : Chip) : Chip :=
  let cause := ([.openPhase, .pilot, .range, .ripple, .disagreement].find? fun x => x.number == field v 4 3).getD
    DropCause.none
  when (hasBit v 7) (phaseLow p) (setPhase p (fun x => { x with dropped := hasBit v 7, cause := cause }) c)

/-- The states of `PpState` (Table 5.2). -/
def ppStates : List PpState := [.off, .waitInput, .insert, .ramp, .on, .retryWait, .latched, .shed, .reverse]

/-- The states of `StrState` (Table 4.4). -/
def strStates : List StrState := [.unfitted, .qualifying, .closing, .inService, .fallow, .absent, .opened, .ship, .fault]

/-- The flags and the switch of a string are loaded from `StrStatus` (Table 4.12); CLOSED and UNAVAIL are the unit's own. -/
def loadStrStatus (s : Fin 4) (v : Nat) (c : Chip) : Chip :=
  setStr s (fun x => { x with
    overV := hasBit v 10, learnRej := hasBit v 9, resting := hasBit v 8, lowConf := hasBit v 7, estOld := hasBit v 6
    frozen := hasBit v 5, wdFallback := hasBit v 4, ntcFail := hasBit v 3, sw := hasBit v 1 && !x.shipLatch }) c

/-- The numbers below `n` whose bits are set from bit `lo` of `v`. -/
def bitsFrom (v lo n : Nat) : Vector Bool n := Vector.ofFn fun i => hasBit v (lo + i.val)

/-- A state of Table 13.5 is loaded into the shadow (R417). -/
def loadState (k : Key) (v : Int) (c : Chip) : Chip :=
  let n := v.toNat
  let i := k / 256
  let j := k % 256
  if 0x3000 ≤ i && i < 0x4000 then loadRail (Fin.ofNat 16 ((i - 0x3000) / 256)) n c
  else if 0x4400 ≤ i && i < 0x4600 then loadPhase (Fin.ofNat 32 ((i - 0x4400) / 16)) n c
  else if 0x4000 ≤ i && i < 0x4400 then
    let s := Fin.ofNat 4 ((i - 0x4000) / 256)
    (if j = 1 then setStr s (fun x => { x with state := strStates.getD n x.state }) c else loadStrStatus s n c)
  else if 0x2D80 ≤ i && i < 0x2E00 then
    let p := Fin.ofNat 8 ((i - 0x2D80) / 16)
    (if j = 1 then loadPp p (ppStates.getD n c.pps[p].state) c
    else if j = 7 then setPp p (fun x => { x with retriesLeft := n }) c
    else setPp p (fun x => { x with shedPower := v }) c)
  else if 0x2D00 ≤ i && i < 0x2D80 then
    setRm (Fin.ofNat 8 ((i - 0x2D00) / 16)) (fun x => { x with seqEn := hasBit n 1 }) c
  else if k = kSeqState then
    setSeq (fun q => { q with state := [SeqState.off, .powerUp, .up, .powerDown, .offHold].getD n q.state }) c
  else if k = kSeqEntry then setSeq (fun q => { q with entry := if n = 0xFF then none else some n }) c
  else if k = kSeqReached then setSeq (fun q => { q with
    railReached := bitsFrom n 0 16, ppReached := bitsFrom n 16 8, rmReached := bitsFrom n 24 8 }) c
  else if k = kSeqReachedAux then setSeq (fun q => { q with
    strReached := bitsFrom n 0 4, pgReached := bitsFrom n 8 8,
    pgAsserted := Vector.ofFn fun k => hasBit n (8 + k.val) && hasUpEntry c 5 k.val }) c
  else if k = kPgOutState then setSeq (fun q => { q with pgOut := bitsFrom n 0 8 }) c
  else if k = kBusState then
    setBus (fun b => { b with state := [BusState.onSource, .handover, .onBattery, .qualifying, .handback].getD n b.state }) c
  else if k = kPlantTrim then setBus (fun b => { b with plantTrim := hundredMicro v }) c
  else if k = kCapStage then setCap (fun x => { x with stage := n }) c
  else if k = kCapVcLevel then setCap (fun x => { x with vcLevel := n }) c
  else if k = kCapDoorLevel then setCap (fun x => { x with doorLevel := n }) c
  else if k = kCapSequence then setCap (fun x => { x with sequence := BitVec.ofNat 16 n }) c
  else if k = kCapShedMask then setCap (fun x => { x with shed := (List.finRange 8).filter fun p => hasBit n p.val }) c
  else if k = kFallowString then setBatt (fun b => { b with fallowString := if n < 4 then some (Fin.ofNat 4 n) else none }) c
  else c

/-- The writes of a MIRROR frame to objects that a write changes, and whether each value is of its object's type and
length. [DEDUCED, log 123] -/
def mirrorWrites : List MirrorItem → Bool × List (Key × Val)
  | [] => (true, [])
  | .object k b :: rest =>
    let r := mirrorWrites rest
    if stateKeys.contains k then r
    else match objOf k, valueCheck k b with
      | some _, (.ok, v) => (r.1, (k, v) :: r.2)
      | _, _ => (false, r.2)
  | _ :: rest => mirrorWrites rest

/-- A state or internal value of a MIRROR frame is loaded. -/
def loadItem (i : MirrorItem) (c : Chip) : Chip :=
  match i with
  | .object k b => if stateKeys.contains k then (match objOf k with
    | some d => loadState k (if d.type = .i32 || d.type = .i16 then leInt b else leNat b) c
    | none => c) else c
  | .estimator s e => loadBlock s e c
  | .vcTarget r (some t) w => setRail r (fun x => { x with vcHolds := true, command := t, vcSlew := some w }) c
  | .vcTarget r none w => setRail r (fun x => { x with vcHolds := false, vcSlew := some w }) c

/-- RESYNC is sent (R419). -/
def sendResync (c : Chip) : Chip := setTwin (fun t => { t with tx := t.tx ++ [.resync], mirrorSeqIn := none }) c

/-- A MIRROR frame applies whole, as an implicit hamper from origin 5, or fails its validation (R419).
[DESIGN CHOICE, log 122; DEDUCED, log 123] -/
def applyMirror (seq : BitVec 32) (full : Bool) (items : List MirrorItem) (c : Chip) : Chip :=
  let w := mirrorWrites items
  let h : Hamper := { handle := 0, origin := .twin, writes := w.2 }
  if !w.1 || (validate c h).isSome then
    sendResync (raise 182 6 seq.toNat (setTwin (fun t => { t with stale := true }) c))
  else
    let c := each items loadItem (applyWrites w.2 c)
    setTwin (fun t => { t with
      mirrorAt := some c.clock.us, ready := t.ready || full, stale := t.stale && !full }) c

end Sys2Proof.Machine
end

