-- ==== Sys2Proof/Machine/Params.lean ====
section
/-! DEFINITION. Parameter stores (R440, R442, R443). -/

namespace Sys2Proof.Machine

/-- The values that the chemistries of all strings load: the defaults of the objects of Table 4.3. -/
def chemistryDefaults (c : Chip) : List (Key × Val) := (List.finRange 4).flatMap (chemistryValues c)

/-- An entry of a set, if the object is a stored one. -/
def storedEntry (k : Key) (v : Val) : Option (Key × List Byte) :=
  match objOf k with
  | some d => if d.pers = .stored then some (k, d.render v) else none
  | none => none

/-- The entries of a parameter set: every stored object whose value in force differs from its default (R440), which for
the objects of Table 4.3 is the value that the string's chemistry loads. -/
def storedEntries (c : Chip) : List (Key × List Byte) :=
  let chem := chemistryDefaults c
  (c.od.filterMap fun e => if chem.any fun d => d.1 == e.1 then none else storedEntry e.1 e.2) ++
    chem.filterMap fun d => if cfg c d.1 = d.2 then none else storedEntry d.1 (cfg c d.1)

/-- The set that a store writes: the one that is not in force, or set A (R442). [DEDUCED, log 132] -/
def storeSlot (c : Chip) : Fin 2 :=
  match c.boot.setInForce with
  | some 0 => 1
  | _ => 0

/-- The generation of the newest committed set. -/
def newestGeneration (c : Chip) : Nat :=
  ((c.nor.params.toList.filter ParamRegion.committed).map ParamRegion.generation).foldl max 0

/-- A store fails (R443): one event on source 242. -/
def storeFails (c : Chip) : Chip := raise 242 1 0 (setBoot (fun b => { b with store := .failed }) c)

/-- A store starts at an apply tick (R442): the values in force are taken, and the other region holds the header and the
body without the marker; a body above the limit fails before any erase (R443). [DEDUCED, log 132] -/
def startStore (c : Chip) : Chip :=
  let l := storedEntries c
  let body := paramBody l
  let c := setBoot (fun b => { b with store := .running, bodySize := body.length }) c
  if 229312 < body.length then storeFails c
  else
    let header := paramHeader (storeSlot c) (newestGeneration c + 1) body.length l.length (nowMs c) c.clock.powerCycles
      (lifeCycle c).number (imageGen c c.boot.slot)
    setNor (fun n => { n with params := n.params.set (storeSlot c) { header := header, body := body } }) c

/-- PARAM_STORE_DONE (R442): the marker is programmed. [DEDUCED, log 132] -/
def paramStoreDone (c : Chip) : Chip :=
  if c.boot.store != .running then c
  else
    let r := c.nor.params[storeSlot c]
    let c := setNor (fun n => { n with
      params := n.params.set (storeSlot c) { r with marker := paramMarker r.header r.body } }) c
    log 0x64 242 0 (r.generation : Int) [] (setBoot (fun b => { b with store := .done }) c)

/-- PARAM_STORE_FAIL (R443): VAUX has fallen below its warning level during the store. -/
def paramStoreFail (c : Chip) : Chip := if c.boot.store == .running && supplyLow c then storeFails c else c

/-! ### The commands -/

/-- PARAM_STORE_DONE (R442) answers the state with its effect. -/
def execParamStoreDone (s : State) : Host.Outcome State Fault Refusal := answer s (when (live s.chip) paramStoreDone s.chip)

/-- PARAM_STORE_FAIL (R443) answers the state with its effect. -/
def execParamStoreFail (s : State) : Host.Outcome State Fault Refusal := answer s (paramStoreFail s.chip)

end Sys2Proof.Machine
end

