-- ==== Sys2Proof/Machine/Ticks.lean ====
section
/-! DEFINITION. The apply tick (R280): hampers, implicit hampers, mirror frames, stores and exercises, in order. -/

namespace Sys2Proof.Machine

/-- The first item that waits is done with. -/
def popItem (c : Chip) : Chip := setHampers (fun h => { h with queue := h.queue.drop 1 }) c

/-- The oldest `ParamStoreCmd` write that waits completes (R442). -/
def completeStore (st : Status) (c : Chip) : Chip :=
  match c.market.reqs.find? fun q => q.held && q.k == kParamStoreCmd with
  | some q => complete q st [] c
  | none => c

/-- A store command takes effect (R442, R443). [DEDUCED, log 81] -/
def storeItem (c : Chip) : Chip :=
  if c.boot.store == .running || supplyLow c then completeStore .stateConflict c
  else completeStore .ok (startStore c)

/-- The first item applies; none: it waits, with those behind it, for its validation (R280) or for the copy of a bank
(R235). [DEDUCED, log 62, 73] -/
def applyItem (c : Chip) : Option Chip :=
  match c.hampers.queue with
  | [] => none
  | .hamper _ false :: _ => none
  | .hamper handle true :: _ =>
    match hamperOf c handle with
    | none => some (popItem c)
    | some h => if waitsForCopy h.writes c then none else some (applyHamper h c)
  | .implicit o id k v :: _ =>
    match directCheck o k v c with
    | .ok => if waitsForCopy [(k, v)] c then none
      else some (completeId id .ok [] (applyWrites [(k, v)] (setHampers (fun x => { x with applied := true }) (popItem c))))
    | st => some (completeId id st [] (popItem c))
  | .mirror seq full items :: _ =>
    if waitsForCopy (mirrorWrites items).2 c then none else some (applyMirror seq full items (popItem c))
  | .store :: _ => some (storeItem (popItem c))
  | .exercise :: _ => some (giveUp 6 (popItem c))

/-- The items apply one at a time, until one waits. -/
def applyItems : Nat → Chip → Chip
  | 0, c => c
  | n + 1, c =>
    match applyItem c with
    | some d => applyItems n d
    | none => c

/-- A COMMIT-AT hamper, or a domain hamper whose decision is COMMIT, whose time has come (R276, R281, R287).
[DEDUCED, log 80] -/
def dueHampers (c : Chip) : List Hamper :=
  c.hampers.list.filter fun h =>
    (h.mode == .commitAt || ((h.mode == .coordinator || h.mode == .participant) && h.decision == some true)) &&
      h.state == .armed && decide (h.t ≤ c.clock.laneNs)

/-- The ALTERNATE owner gives the shelf back (R423). -/
def giveBack (c : Chip) : Chip :=
  when (c.twin.state == .owner && c.twin.role == .alternate && c.bus.state == .onSource && !hamperInFlight c &&
    partnerStandby c && (match c.twin.partner with
      | some f => f.ret
      | none => false)) (giveUp 7) c

/-- APPLY_TICK (R280). [DEDUCED, log 80] -/
def applyTick (c : Chip) : Chip :=
  if !live c then c
  else
    let c := each (dueHampers c) applyDomain c
    giveBack (settle (applyItems c.hampers.queue.length c))

/-! ### The commands -/

/-- APPLY_TICK (R280) answers the state with its effect. -/
def execApplyTick (s : State) : Host.Outcome State Fault Refusal := answer s (applyTick s.chip)

end Sys2Proof.Machine
end

