-- ==== Sys2Proof/Machine/Service.lean ====
section
/-! DEFINITION. The service port (R318 to R322). -/

namespace Sys2Proof.Machine

/-- ROM recovery mode, in which only PING, RATE and the update commands are served (R320). -/
def inRecovery (c : Chip) : Bool := c.boot.phase == .recovery && !c.watch.safe

/-- The port receives frames. -/
def svcListens (c : Chip) : Bool := netUp c || inRecovery c

/-- A valid frame brings the link up, and proves a new rate (R320, R321). -/
def svcValid (c : Chip) : Chip := setSvc (fun s => { s with up := true, proving := false }) c

/-- A valid frame of a command that ROM recovery mode serves. -/
def svcAlways (f : Chip → Chip) (c : Chip) : Chip := if svcListens c then f (svcValid c) else c

/-- A valid frame of any other command: MODE in ROM recovery mode (R320). -/
def svcNormal (cmd : Nat) (tag : BitVec 16) (f : Chip → Chip) (c : Chip) : Chip :=
  svcAlways (fun c => if inRecovery c then svcAnswer cmd tag 0x22 [] c else f c) c

/-- SVC_PING (R320): `RevisionNumber` and the mode. -/
def svcPing (tag : BitVec 16) (c : Chip) : Chip :=
  svcAlways (fun c => svcAnswer 0x01 tag 0 (leBytes 4 0x0000B001 ++ leBytes 1 (bit (inRecovery c) 0)) c) c

/-- The rates of R318. -/
def svcRates : List Nat := [115200, 230400, 460800, 921600, 1000000, 2000000, 3000000, 6000000, 12000000]

/-- SVC_RATE (R318, R320): any other rate is out of range. [DEDUCED, log 89] -/
def svcRate (tag : BitVec 16) (rate : Nat) (c : Chip) : Chip :=
  svcAlways (fun c =>
    if svcRates.contains rate then svcAnswer 0x02 tag 0 [] (setSvc (fun s => { s with newRate := some rate }) c)
    else svcAnswer 0x02 tag Status.range.number [] c) c

/-- SVC_RATE_CHANGE (R320). -/
def svcRateChange (c : Chip) : Chip :=
  match c.svc.newRate with
  | some r => setSvc (fun s => { s with rate := r, newRate := none, proving := true }) c
  | none => c

/-- SVC_RATE_REVERT (R320): no valid frame within 2 s at the new rate. -/
def svcRateRevert (c : Chip) : Chip :=
  when c.svc.proving (fun c => raise 175 2 0 (setSvc (fun s => { s with rate := 115200, proving := false }) c)) c

/-- SVC_READ (R320). -/
def svcRead (tag : BitVec 16) (k : Key) (c : Chip) : Chip :=
  svcNormal 0x10 tag (submit .service k none (.svc 0x10 tag)) c

/-- SVC_WRITE (R320). -/
def svcWrite (tag : BitVec 16) (k : Key) (data : List Byte) (c : Chip) : Chip :=
  svcNormal 0x11 tag (submit .service k (some data) (.svc 0x11 tag)) c

/-- A DOMAIN-READ is open: its copy is held, or being taken. -/
def svcReading (c : Chip) : Bool :=
  c.svc.reader.isSome || (c.market.reqs ++ c.market.offered).any fun q => match q.reply with
    | .svcCopy _ _ => true
    | _ => false

/-- SVC_DOMAIN_READ (R320): offset 0 takes a copy; a later piece follows the one before it. [DEDUCED, log 89] -/
def svcDomainRead (tag : BitVec 16) (k : Key) (offset length : Nat) (c : Chip) : Chip :=
  svcNormal 0x12 tag (fun c =>
    if 4095 < length then svcAnswer 0x12 tag 0x20 [] c
    else if offset = 0 then
      (if svcReading c then svcAnswer 0x12 tag Status.stateConflict.number [] c
      else submit .service k none (.svcCopy tag length) c)
    else match c.svc.reader with
      | some t =>
        if t.k = k && t.next = offset then
          let piece := (t.data.drop offset).take length
          svcAnswer 0x12 tag 0 piece (setSvc (fun s => { s with reader := some { t with next := offset + piece.length } }) c)
        else svcAnswer 0x12 tag 0x23 [] c
      | none => svcAnswer 0x12 tag 0x23 [] c) c

/-- The pieces of a write so far, the new one included; none: it is out of order (R320, R347). -/
def gather (w : Option Transfer) (k : Key) (offset : Nat) (data : List Byte) : Option (List Byte) :=
  match w with
  | some t => if t.k = k && t.next = offset then some (t.data ++ data) else none
  | none => if offset = 0 then some data else none

/-- SVC_DOMAIN_WRITE (R320): the pieces form one write when a frame with LAST arrives. -/
def svcDomainWrite (tag : BitVec 16) (k : Key) (offset : Nat) (data : List Byte) (last : Bool) (c : Chip) : Chip :=
  svcNormal 0x13 tag (fun c =>
    if offset = 0 && c.svc.writer.isSome then svcAnswer 0x13 tag Status.stateConflict.number [] c
    else match gather c.svc.writer k offset data with
      | none => svcAnswer 0x13 tag 0x23 [] c
      | some all =>
        if last then submit .service k (some all) (.svc 0x13 tag) (setSvc (fun s => { s with writer := none }) c)
        else svcAnswer 0x13 tag 0 [] (setSvc (fun s => { s with writer := some { k := k, data := all, next := all.length } }) c)) c

/-- SVC_DOMAIN_COPY_RELEASE (R320). -/
def svcDomainCopyRelease (c : Chip) : Chip := setSvc (fun s => { s with reader := none }) c

/-- Data split into response frames, LAST on the final one (R320). [DEDUCED, log 64] -/
def traceFrames (tag : BitVec 16) : Nat → List Byte → List SvcTx
  | 0, _ => []
  | n + 1, b =>
    if b.length ≤ 4095 then [svcFrame 0x20 tag 0 b true]
    else svcFrame 0x20 tag 0 (b.take 4095) false :: traceFrames tag n (b.drop 4095)

/-- SVC_TRACE_DUMP (R246, R320): refused while the trace is ARMED or TRIGGERED. [DEDUCED, log 89] -/
def svcTraceDump (tag : BitVec 16) (m : Fin 16) (mask : BitVec 4) (c : Chip) : Chip :=
  svcNormal 0x20 tag (fun c =>
    match c.mills[m].trace.state with
    | .armed | .triggered => svcAnswer 0x20 tag Status.stateConflict.number [] c
    | .idle | .done =>
      let b := ((List.finRange 4).filter fun (k : Fin 4) => mask.getLsbD k.val).flatMap fun (k : Fin 4) =>
        readBytes c .service (kMillTraceData m k)
      setSvc (fun s => { s with tx := s.tx ++ traceFrames tag 17 b }) c) c

/-- The data bytes of a stored trace slot (R246). [DESIGN CHOICE, log 8; DEDUCED, log 89] -/
def dumpBytes (d : Dump) : List Byte :=
  padTo 4096 d.data ++ d.channels.flatMap fun l => padTo 16384 (l.flatMap fun w => leBytes 4 w.toNat)

/-- SVC_SLOT_READ (R320): what an empty slot reads as is a free value. [DEDUCED, log 89] -/
def svcSlotRead (tag : BitVec 16) (slot offset length : Nat) (c : Chip) : Chip :=
  svcNormal 0x21 tag (fun c =>
    if 4095 < length then svcAnswer 0x21 tag 0x20 [] c
    else if 15 ≤ slot || 69632 < offset + length then svcAnswer 0x21 tag Status.range.number [] c
    else match c.nor.dumps[Fin.ofNat 15 slot] with
      | some d => svcAnswer 0x21 tag 0 (((dumpBytes d).drop offset).take length) c
      | none =>
        svcAnswer 0x21 tag 0 ((List.range length).map fun n => BitVec.ofNat 8 (Config.freeWord (c.fresh + n)).toNat)
          { c with fresh := c.fresh + length }) c

/-- A frame is discarded and counted (R319). -/
def svcDiscard (c : Chip) : Chip := when (svcListens c) (setSvc fun s => { s with crcErrors := satSucc 65535 s.crcErrors }) c

/-- SVC_BYTE_GAP (R319). -/
def svcByteGap (c : Chip) : Chip := svcDiscard c

/-- SVC_CRC_ERROR (R319). -/
def svcCrcError (c : Chip) : Chip := svcDiscard c

/-- SVC_LINK_DROP (R321). -/
def svcLinkDrop (c : Chip) : Chip := if svcListens c && c.svc.up then dropLink true c else c

/-- SVC_UNKNOWN_COMMAND (R320): COMMAND, or MODE in ROM recovery mode. [DEDUCED, log 89] -/
def svcUnknownCommand (tag : BitVec 16) (cmd : BitVec 8) (c : Chip) : Chip :=
  svcNormal (cmd.toNat % 128) tag (svcAnswer (cmd.toNat % 128) tag 0x21 []) c

/-! ### The commands -/

/-- SVC_PING (R320) answers the state with its effect. -/
def execSvcPing (tag : BitVec 16) (s : State) : Host.Outcome State Fault Refusal := answer s (svcPing tag s.chip)

/-- SVC_RATE (R320) answers the state with its effect. -/
def execSvcRate (tag : BitVec 16) (rate : Nat) (s : State) : Host.Outcome State Fault Refusal :=
  guarded (decide (rate < 2 ^ 32)) s (svcRate tag rate s.chip)

/-- SVC_RATE_CHANGE (R320) answers the state with its effect. -/
def execSvcRateChange (s : State) : Host.Outcome State Fault Refusal := answer s (svcRateChange s.chip)

/-- SVC_RATE_REVERT (R320) answers the state with its effect. -/
def execSvcRateRevert (s : State) : Host.Outcome State Fault Refusal := answer s (when (live s.chip) svcRateRevert s.chip)

/-- SVC_READ (R320) answers the state with its effect. -/
def execSvcRead (tag : BitVec 16) (k : Key) (s : State) : Host.Outcome State Fault Refusal :=
  guarded (decide (k < 0x1000000)) s (svcRead tag k s.chip)

/-- SVC_WRITE (R320) answers the state with its effect. -/
def execSvcWrite (tag : BitVec 16) (k : Key) (data : List Byte) (s : State) : Host.Outcome State Fault Refusal :=
  guarded (decide (k < 0x1000000) && decide (data.length ≤ 4093)) s (svcWrite tag k data s.chip)

/-- SVC_DOMAIN_READ (R320) answers the state with its effect. -/
def execSvcDomainRead (tag : BitVec 16) (k : Key) (offset length : Nat) (s : State) : Host.Outcome State Fault Refusal :=
  guarded (decide (k < 0x1000000) && decide (offset < 2 ^ 32) && decide (length < 2 ^ 16)) s
    (svcDomainRead tag k offset length s.chip)

/-- SVC_DOMAIN_WRITE (R320) answers the state with its effect. -/
def execSvcDomainWrite (tag : BitVec 16) (k : Key) (offset : Nat) (data : List Byte) (last : Bool) (s : State) : Host.Outcome State Fault Refusal :=
  guarded (decide (k < 0x1000000) && decide (offset < 2 ^ 32) && decide (data.length ≤ 4089)) s
    (svcDomainWrite tag k offset data last s.chip)

/-- SVC_DOMAIN_COPY_RELEASE (R320) answers the state with its effect. -/
def execSvcDomainCopyRelease (s : State) : Host.Outcome State Fault Refusal := answer s (svcDomainCopyRelease s.chip)

/-- SVC_TRACE_DUMP (R320) answers the state with its effect. -/
def execSvcTraceDump (tag : BitVec 16) (m : Fin 16) (mask : BitVec 4) (s : State) : Host.Outcome State Fault Refusal :=
  answer s (svcTraceDump tag m mask s.chip)

/-- SVC_SLOT_READ (R320) answers the state with its effect. -/
def execSvcSlotRead (tag : BitVec 16) (slot : Nat) (offset length : Nat) (s : State) : Host.Outcome State Fault Refusal :=
  guarded (decide (slot < 256) && decide (offset < 2 ^ 32) && decide (length < 2 ^ 16)) s
    (svcSlotRead tag slot offset length s.chip)

/-- SVC_BYTE_GAP (R319) answers the state with its effect. -/
def execSvcByteGap (s : State) : Host.Outcome State Fault Refusal := answer s (svcByteGap s.chip)

/-- SVC_LINK_DROP (R321) answers the state with its effect. -/
def execSvcLinkDrop (s : State) : Host.Outcome State Fault Refusal := answer s (svcLinkDrop s.chip)

/-- SVC_CRC_ERROR (R319) answers the state with its effect. -/
def execSvcCrcError (s : State) : Host.Outcome State Fault Refusal := answer s (svcCrcError s.chip)

/-- SVC_UNKNOWN_COMMAND (R320) answers the state with its effect. -/
def execSvcUnknownCommand (tag : BitVec 16) (cmd : BitVec 8) (s : State) : Host.Outcome State Fault Refusal :=
  answer s (svcUnknownCommand tag cmd s.chip)

end Sys2Proof.Machine
end

