-- ==== Sys2Proof/Machine/LaneUnit.lean ====
section
/-! DEFINITION. The Lane port: links, forwarding, membership, Lane time, remote access and the gateway (R323 to R349). -/

namespace Sys2Proof.Machine

/-! ### Links -/

/-- A Lane port changes. -/
def setLink (p : LanePort) (f : LaneLink → LaneLink) (c : Chip) : Chip :=
  match p with
  | .a => setLane (fun l => { l with linkA := f l.linkA }) c
  | .b => setLane (fun l => { l with linkB := f l.linkB }) c

/-- The Watch source of a port (Table 10.9). -/
def portSource : LanePort → Nat
  | .a => 176
  | .b => 177

/-- LANE_LINK_UP (R326): a far end of the same letter keeps the link down, sets MISWIRE and records one event. -/
def laneLinkUp (p : LanePort) (farPortB : Bool) (c : Chip) : Chip :=
  if !laneRuns c then c
  else if farPortB == (p == .b) then
    let onset := !(laneLink c p).miswire
    when onset (raise (portSource p) 2 0) (setLink p (fun l => { l with up := false, farRxOk := true, miswire := true }) c)
  else
    let c := setLink p (fun l => { l with up := true, farRxOk := true, miswire := false }) c
    if flag c kLaneEnable && !c.lane.dupId then laneJoin c else c

/-- LANE_LINK_DOWN (R327). [DEDUCED, log 97] -/
def laneLinkDown (p : LanePort) (c : Chip) : Chip :=
  let onset := (laneLink c p).up
  let c := setLink p (fun l => { l with
    up := false, farRxOk := false, miswire := false, upstream := none
    linkDowns := if onset then satSucc 65535 l.linkDowns else l.linkDowns }) c
  when onset (raise (portSource p) 1 0) c

/-- LANE_WRAP (R328): one link down and the other up wraps the node; hop counts are unknown after a change (R337). -/
def laneWrap (c : Chip) : Chip :=
  let w : Option LanePort := match c.lane.linkA.up, c.lane.linkB.up with
    | false, true => some .a
    | true, false => some .b
    | _, _ => none
  if !laneRuns c || w = c.lane.wrap then c
  else setLane (fun l => { l with
    wrap := w, ring := none, turnedAt := some c.clock.us
    nodes := l.nodes.map fun n => { n with hopsA := none, hopsB := none } }) c

/-! ### Nodes heard -/

/-- What is known of a node. -/
def nodeOf (c : Chip) (n : Fin 1024) : LaneNode :=
  (c.lane.nodes.find? fun x => x.node == n).getD { node := n, heardAt := c.clock.us }

/-- What is known of a node changes. -/
def setNode (n : Fin 1024) (f : LaneNode → LaneNode) (c : Chip) : Chip :=
  setLane (fun l => { l with nodes := f (nodeOf c n) :: l.nodes.filter (·.node != n) }) c

/-- A frame from a node has arrived (R341). [DEDUCED, log 96] -/
def hear (n : Fin 1024) (c : Chip) : Chip :=
  if n.val = c.lane.nodeIdNow || !laneActive c then c
  else setNode n (fun x => { x with heard := true, heardAt := c.clock.us }) c

/-- The hops to a node by a port (R337). [DEDUCED, log 96] -/
def learnHops (n : Fin 1024) (p : LanePort) (hops : Nat) (turns : BitVec 2) (c : Chip) : Chip :=
  let around := match c.lane.ring with
    | some r => if turns = 0 && hops ≤ r then some (r - hops) else none
    | none => none
  setNode n (fun x => match p with
    | .a => { x with hopsA := some hops, hopsB := match around with
        | some h => some h
        | none => x.hopsB }
    | .b => { x with hopsB := some hops, hopsA := match around with
        | some h => some h
        | none => x.hopsA }) c

/-- The node's own ROLL has come round (R337): the length of an unbroken ring, or none. [DEDUCED, log 96] -/
def learnRing (hops : Nat) (turns : BitVec 2) (c : Chip) : Chip :=
  let r := if turns = 0 then some hops else none
  if r = c.lane.ring then c else setLane (fun l => { l with ring := r, turnedAt := some c.clock.us }) c

/-! ### Frames -/

/-- The greatest LEN of a class (Tables 10.2, 10.5, 10.6). -/
def classLimit (cls : Nat) : Nat :=
  if cls = 0 then 32 else if cls = 1 then 20 else if cls = 2 then 24 else if cls = 4 then 136 else 256

/-- HCHK fails. A frame that has a reserved field set is discarded for that field. [DESIGN CHOICE, log 95] -/
def hchkBad (f : LaneFrame) : Bool := !f.reservedSet && f.hchk != hchkOf f

/-- The receiver discards the frame (R333). [DESIGN CHOICE, log 95] -/
def frameBad (f : LaneFrame) : Bool :=
  f.reservedSet || f.hchk != hchkOf f || f.crc != crcOf f || decide (classLimit f.cls.toNat < f.payload.length)

/-- What a node does with a frame beside delivering it (R335, R338). In pass-through every frame is forwarded (R329).
[DEDUCED, log 94; DESIGN CHOICE, log 95] -/
def forwards (c : Chip) (f : LaneFrame) : Bool :=
  let d := f.dest.toNat
  d != 0x7FE && decide (f.hops.toNat + 1 < 2047) &&
    (!laneActive c ||
      (d != c.lane.nodeIdNow && !(0x400 ≤ d && d ≤ 0x7FD) && (f.src.toNat != c.lane.nodeIdNow || f.turns == 1) &&
        !(f.cls == 1 && decide (nat c kLaneShareReach ≤ f.hops.toNat))))

/-- The frame goes on by the other port, its HOPS one higher; one whose HCHK fails is ended with K30.7 (R335).
[DEDUCED, log 94; DESIGN CHOICE, log 95] -/
def forwardFrame (p : LanePort) (f : LaneFrame) (c : Chip) : Chip :=
  let q := otherPort p
  if hchkBad f then
    let q := if c.lane.wrap == some q then p else q
    if (laneLink c q).up then setLane (fun l => { l with tx := l.tx ++ [.broken q f] }) c else c
  else laneLeave q { f with hops := f.hops + 1 } c

/-- The frame is for this node: unicast, broadcast or link-local. -/
def addressed (c : Chip) (f : LaneFrame) : Bool :=
  f.dest == 0x7FE || f.dest == 0x7FF || f.dest.toNat == c.lane.nodeIdNow

/-- The node delivers frames of this kind now (R329, R332, R339): a MEMBER every class, a JOINING node TIME, and any node
the link-local TIME frames. -/
def delivers (c : Chip) (f : LaneFrame) : Bool :=
  (laneMember c && decide (f.cls.toNat ≤ 4)) || (f.cls == 0 && (laneActive c || f.dest == 0x7FE))

/-- The SEQ values delivered of a source and class (R334). -/
def seqsOf (c : Chip) (f : LaneFrame) : List (BitVec 16) :=
  match c.lane.history.find? fun h => h.src == f.src && h.cls == f.cls with
  | some h => h.seqs
  | none => []

/-- The frame is delivered once (R334). -/
def deliverFrame (f : LaneFrame) (c : Chip) : Chip :=
  if !addressed c f || !delivers c f || (seqsOf c f).contains f.seq then c
  else
    let h : SeqHistory := { src := f.src, cls := f.cls, seqs := (f.seq :: seqsOf c f).take 64 }
    setLane (fun l => { l with
      history := h :: l.history.filter fun x => !(x.src == f.src && x.cls == f.cls), delivered := l.delivered ++ [f] }) c

/-- The frame carries a ROLL (Table 10.4). -/
def carriesRoll (f : LaneFrame) : Bool := f.cls == 0 && f.dest == 0x7FF && f.payload.head? == some 4

/-- What a valid frame teaches of its sender (R337, R341). -/
def learnFrame (p : LanePort) (f : LaneFrame) (c : Chip) : Chip :=
  if !laneActive c then c
  else if f.src.toNat = c.lane.nodeIdNow then
    when (carriesRoll f && f.turns != 1) (learnRing (f.hops.toNat + 1) f.turns) c
  else if h : f.src.toNat < 1024 then
    let n : Fin 1024 := ⟨f.src.toNat, h⟩
    when (carriesRoll f) (learnHops n p (f.hops.toNat + 1) f.turns) (hear n c)
  else c

/-- LANE_FRAME_RECEIVE (R333 to R335). -/
def laneFrameReceive (p : LanePort) (f : LaneFrame) (c : Chip) : Chip :=
  if !laneRuns c || !(laneLink c p).up then c
  else
    let c := if frameBad f then setLink p (fun l => { l with crcErrors := l.crcErrors + 1 }) c
      else deliverFrame f (learnFrame p f c)
    when (forwards c f) (forwardFrame p f) c

/-! ### Membership -/

/-- The flags byte of a TIME frame (Table 10.4). -/
def timeFlags (c : Chip) : Nat :=
  bit c.lane.tvalid 0 + bit (isMaster c) 1 + bit (flag c kLaneTimeEligible) 2 + bit c.clock.refLost 3 + bit c.lane.holdover 4

/-- The member age in ms (R340): 0 while joining. [DEDUCED, log 98] -/
def memberAge (c : Chip) : Nat :=
  match c.lane.memberSince with
  | some t => min 0xFFFFFFFF ((c.clock.us - t) / 1000)
  | none => 0

/-- The chip serial, as ROLL carries it. -/
def ownSerial (c : Chip) : Nat := leNat (padTo 8 c.fuses.serial)

/-- The first 8 bytes of a TSYNC or ROLL (Table 10.4). -/
def timeHead (type hops : Nat) (c : Chip) : List Byte :=
  leBytes 1 type ++ leBytes 1 (timeFlags c) ++ leBytes 2 (c.lane.master.getD 0xFFFF) ++ leBytes 2 hops ++
    leBytes 1 c.lane.epoch.toNat ++ [0]

/-- ROLL_SEND (R337, R340). -/
def rollSend (c : Chip) : Chip :=
  if !laneActive c then c
  else laneSend true false 0x7FF 0
    (padTo 32 (timeHead 4 c.lane.hops c ++ leBytes 8 (ownSerial c) ++ leBytes 4 (memberAge c))) c

/-- The node loses a conflict (R339, R340): pass-through, no node known, every Lane origin lost, DUPID set. -/
def loseConflict (c : Chip) : Chip :=
  let c := laneOriginsLost (setLane (fun l => { l with
    state := .duplicate, dupId := true, nodes := [], memberSince := none, fetches := [] }) c)
  raise 183 1 0 (chooseMaster c)

/-- A ROLL that carries this node's ID and another serial wins over it (R340). -/
def losesTo (c : Chip) (f : RollFrame) : Bool :=
  decide (memberAge c < f.age) || (memberAge c == f.age && decide (f.serial < ownSerial c))

/-- A conflict that this node wins starts the 30 ms of JOINING again (R339). -/
def winConflict (c : Chip) : Chip := setLane (fun l => { l with joinedAt := some c.clock.us }) c

/-- ROLL_RECEIVE (R340, R343). -/
def rollReceive (f : RollFrame) (c : Chip) : Chip :=
  if !laneActive c then c
  else if f.node.val = c.lane.nodeIdNow then
    (if f.serial = ownSerial c then c else if losesTo c f then loseConflict c else winConflict c)
  else chooseMaster (setNode f.node (fun x => { x with roll := some (f, c.clock.us) }) (hear f.node c))

/-- LANE_JOIN_COMPLETE (R339): 30 ms without a conflict. -/
def laneJoinComplete (c : Chip) : Chip :=
  if laneActive c && c.lane.state == .joining && !within c 30000 c.lane.joinedAt then
    chooseMaster (setLane (fun l => { l with state := .member, memberSince := some c.clock.us }) c)
  else c

/-- A node is heard, but no frame of it has arrived for `LaneNodeTimeout` (R341). -/
def overdue (c : Chip) (x : LaneNode) : Bool := x.heard && !within c (nat c kLaneNodeTimeout * 1000) (some x.heardAt)

/-- LANE_NODE_LOST (R282, R341), in every state of the node. -/
def laneNodeLost (n : Fin 1024) (c : Chip) : Chip :=
  if !laneRuns c || !(c.lane.nodes.any fun x => x.node == n && overdue c x) then c
  else
    let c := setNode n (fun x => { x with heard := false, roll := none }) c
    let c := setLane (fun l => { l with
      readers := l.readers.filter (·.node != n), writers := l.writers.filter (·.node != n) }) c
    chooseMaster (raise 183 2 0 (originLost (.lane n) c))

/-! ### Lane time -/

/-- The hops from the master by a port's last TSYNC, where it is usable as upstream (R344). [DEDUCED, log 96] -/
def usableHops (c : Chip) (p : LanePort) : Option Nat :=
  let l := laneLink c p
  match l.upstream with
  | some f =>
    if l.up && within c 3000 (some l.upstreamAt) && c.lane.master == some f.masterId.toNat && f.hops != 0xFFFF then
      some f.hops.toNat
    else none
  | none => none

/-- The upstream port (R344): the lower usable hop count, LANE-A on a tie; the master has none. -/
def upstreamPort (c : Chip) : Option LanePort :=
  if isMaster c then none
  else match usableHops c .a, usableHops c .b with
    | some a, some b => if a ≤ b then some .a else some .b
    | some _, none => some .a
    | none, some _ => some .b
    | none, none => none

/-- The hop count that a TSYNC carries on a port (R344): unusable on the upstream port, and of a node that has none.
[DEDUCED, log 97] -/
def sentHops (c : Chip) (p : LanePort) : Nat :=
  if isMaster c then 0
  else match upstreamPort c with
    | some q => if q = p then 0xFFFF else c.lane.hops
    | none => 0xFFFF

/-- TSYNC_SEND (R344). -/
def tsyncSend (p : LanePort) (c : Chip) : Chip :=
  if !laneRuns c || !(laneLink c p).up then c
  else laneSend (p == .a) (p == .b) 0x7FE 0 (padTo 32 (timeHead 1 (sentHops c p) c ++ leBytes 8 c.clock.laneNs)) c

/-- The offset to the upstream, from a TSYNC and the link delay, in ns. -/
def tsyncOffset (p : LanePort) (f : TsyncFrame) (c : Chip) : Int :=
  (f.departure : Int) + (laneLink c p).delay - f.arrival

/-- Lane time moves by an offset. [DESIGN CHOICE, log 99] -/
def moveLaneTime (d : Int) (c : Chip) : Chip := stepLaneTime ((c.clock.laneNs + d) % (2 ^ 64 : Nat)).toNat c

/-- An offset within ±50 ns for 8 consecutive TSYNCs sets TVALID (R345). [DESIGN CHOICE, log 99] -/
def lockTime (d : Int) (c : Chip) : Chip :=
  let n := if -50 ≤ d && d ≤ 50 then c.lane.lockCount + 1 else 0
  setLane (fun l => { l with lockCount := n, tvalid := l.tvalid || (decide (8 ≤ n) && !c.clock.refLost) }) c

/-- The upstream's TSYNC disciplines Lane time (R345, R346). [DESIGN CHOICE, log 99] -/
def discipline (p : LanePort) (f : TsyncFrame) (c : Chip) : Chip :=
  let d := tsyncOffset p f c
  let c := setLane (fun l => { l with
    holdover := false, holdoverAt := none, syncedAt := some c.clock.us, hops := f.hops.toNat + 1 }) (moveLaneTime d c)
  if f.epoch != c.lane.epoch then epochChange f.epoch c
  else if 10000 < d || d < -10000 then
    (if c.lane.tvalid then epochChange (c.lane.epoch + 1) c else setLane (fun l => { l with lockCount := 0 }) c)
  else lockTime d c

/-- TSYNC_RECEIVE (R344 to R346). -/
def tsyncReceive (p : LanePort) (f : TsyncFrame) (c : Chip) : Chip :=
  if !laneRuns c || !(laneLink c p).up then c
  else
    let c := setLink p (fun l => { l with upstream := some f, upstreamAt := c.clock.us }) c
    when (upstreamPort c == some p) (discipline p f) c

/-- DREQ_SEND (R344). -/
def dreqSend (p : LanePort) (c : Chip) : Chip :=
  if !laneRuns c || !(laneLink c p).up then c
  else
    let t := c.clock.laneNs
    laneSend (p == .a) (p == .b) 0x7FE 0 (padTo 32 (padTo 8 [2] ++ leBytes 8 t)) (setLink p (fun l => { l with t1 := some t }) c)

/-- DREQ_RECEIVE (R344): answered with DRSP. -/
def dreqReceive (p : LanePort) (arrival : Nat) (c : Chip) : Chip :=
  if !laneRuns c || !(laneLink c p).up then c
  else laneSend (p == .a) (p == .b) 0x7FE 0
    (padTo 32 (padTo 8 [3] ++ leBytes 8 arrival ++ leBytes 8 c.clock.laneNs)) c

/-- DRSP_RECEIVE (R344): the link delay, in whole ns. [DEDUCED, log 97] -/
def drspReceive (p : LanePort) (t2 t3 t4 : Nat) (c : Chip) : Chip :=
  match laneRuns c && (laneLink c p).up, (laneLink c p).t1 with
  | true, some t1 =>
    let d : Int := ((t4 : Int) - t1 - ((t3 : Int) - t2)) / 2
    setLink p (fun l => { l with t1 := none, delay := d.toNat }) c
  | _, _ => c

/-- No usable upstream for 3 ms (R345), counted from the last TSYNC used and from the start of joining.
[DEDUCED, log 97] -/
def upstreamGone (c : Chip) : Bool :=
  (upstreamPort c).isNone && !within c 3000 c.lane.syncedAt && !within c 3000 c.lane.joinedAt

/-- HOLDOVER_ENTRY (R345): no usable upstream for 3 ms. -/
def holdoverEntry (c : Chip) : Chip :=
  if laneActive c && !isMaster c && upstreamGone c && !c.lane.holdover then
    setLane (fun l => { l with holdover := true, holdoverAt := some c.clock.us, lockCount := 0 }) c
  else c

/-- HOLDOVER_EXPIRY (R345): HOLDOVER has lasted `LaneHoldover`. -/
def holdoverExpiry (c : Chip) : Chip :=
  when (laneRuns c && c.lane.holdover && !within c (nat c kLaneHoldover * 1000) c.lane.holdoverAt) clearTvalid c

/-! ### Remote access -/

/-- A node holds a DOMAIN-READ open: its copy is held, or being taken (R320, R347). -/
def odReading (c : Chip) (n : Fin 1024) : Bool :=
  (c.lane.readers.any fun r => r.node == n && decide (c.clock.us < r.at_ + 1000000)) ||
    (c.market.reqs ++ c.market.offered).any fun q => match q.reply with
      | .odCopy m _ _ => m == n
      | _ => false

/-- A DOMAIN-READ request (R320, R347): offset 0 takes a copy, held for 1 s after each piece.
[DESIGN CHOICE, log 101] -/
def odDomainRead (src : Fin 1024) (q : OdRequest) (c : Chip) : Chip :=
  let answer (st : Nat) (b : List Byte) (c : Chip) : Chip := odAnswer src .domainRead q.tag q.k st q.offset b c
  if 240 < q.length then answer Status.type.number [] c
  else if q.offset = 0 then
    (if odReading c src then answer Status.stateConflict.number [] c
    else submit (.lane src) q.k none (.odCopy src q.tag q.length) c)
  else match c.lane.readers.find? fun r => r.node == src && decide (c.clock.us < r.at_ + 1000000) with
    | some r =>
      if r.t.k = q.k && r.t.next = q.offset then
        let piece := (r.t.data.drop q.offset).take q.length
        let others := c.lane.readers.filter (·.node != src)
        let r := { r with t := { r.t with next := q.offset + piece.length }, at_ := c.clock.us }
        answer 0 piece (setLane (fun l => { l with readers := r :: others }) c)
      else answer 0x23 [] c
    | none => answer 0x23 [] c

/-- A DOMAIN-WRITE request (R320, R347): the pieces form one write when one with LAST arrives.
[DESIGN CHOICE, log 101] -/
def odDomainWrite (src : Fin 1024) (q : OdRequest) (c : Chip) : Chip :=
  let answer (st : Nat) (c : Chip) : Chip := odAnswer src .domainWrite q.tag q.k st q.offset [] c
  let w := (c.lane.writers.find? fun r => r.node == src).map (·.t)
  let others := c.lane.writers.filter (·.node != src)
  if q.offset = 0 && w.isSome then answer Status.stateConflict.number c
  else match gather w q.k q.offset q.data with
    | none => answer 0x23 c
    | some all =>
      if q.last then
        submit (.lane src) q.k (some all) (.od src .domainWrite q.tag) (setLane (fun l => { l with writers := others }) c)
      else answer 0 (setLane (fun l => { l with writers :=
        { node := src, t := { k := q.k, data := all, next := all.length }, at_ := c.clock.us } :: others }) c)

/-- OD_REQUEST_RECEIVE (R347): a request of origin 16 + SRC. -/
def odRequestReceive (src : Fin 1024) (q : OdRequest) (c : Chip) : Chip :=
  if !laneMember c then c
  else
    let c := hear src c
    match q.op with
    | .read => submit (.lane src) q.k none (.od src .read q.tag) c
    | .write => submit (.lane src) q.k (some q.data) (.od src .write q.tag) c
    | .domainRead => odDomainRead src q c
    | .domainWrite => odDomainWrite src q c

/-- An ALM RESPONSE goes to a node (Table 10.6). [DESIGN CHOICE, log 102] -/
def almAnswer (n : Fin 1024) (tag : BitVec 16) (st : Status) (last : Bool) (record : List Byte) (c : Chip) : Chip :=
  laneUnicast n 4 ([2, 0x20] ++ leBytes 2 tag.toNat ++ leBytes 1 st.number ++ leBytes 1 (bit last 0) ++ [0, 0] ++ record) c

/-- A record qualifies for a fetch (R348). -/
def qualifies (q : AlmServe) (r : Record) : Bool :=
  decide (q.first ≤ r.seq.getD 0) && decide (q.minSeverity ≤ r.severity.val)

/-- The fetch in service gives its next frame from the NOR (R348); the last one ends it. [DESIGN CHOICE, log 102] -/
def almServe (c : Chip) : Chip :=
  match c.lane.fetches with
  | [] => c
  | q :: rest =>
    let done (c : Chip) : Chip := setLane (fun l => { l with fetches := rest }) c
    match (storedInOrder c).filter (qualifies q) with
    | [] => almAnswer q.node q.tag .noObject true [] (done c)
    | r :: more =>
      let last := more.isEmpty || q.left ≤ 1
      let next : AlmServe := { q with first := r.seq.getD 0 + 1, left := q.left - 1 }
      almAnswer q.node q.tag .ok last (recordBytes r)
        (if last then done c else setLane (fun l => { l with fetches := next :: rest }) c)

/-- ALM_FETCH_RECEIVE (R348): one fetch in service, and up to four that wait, of different nodes.
[DESIGN CHOICE, log 102] -/
def almFetchReceive (src : Fin 1024) (q : AlmFetch) (c : Chip) : Chip :=
  if !laneMember c || !reeveRuns c then c
  else
    let c := hear src c
    let refuse (st : Status) : Chip := almAnswer src q.tag st true [] c
    match lifeCycle c with
    | .blank | .retired => refuse .lifecycle
    | .provisioned | .deployed | .service =>
      if 3 < q.minSeverity || q.count = 0 || 64 < q.count then refuse .range
      else if 5 ≤ c.lane.fetches.length || (c.lane.fetches.drop 1).any fun f => f.node == src then refuse .busy
      else setLane (fun l => { l with fetches := l.fetches ++
        [{ node := src, tag := q.tag, minSeverity := q.minSeverity, first := q.first, left := q.count }] }) c

/-- 1 µs passes with no command waiting: the clocks count on where they run, and the fetch in service goes on.
[DESIGN CHOICE, log 2, 102] -/
def idle (s : State) : State :=
  let c := tickBoot (when (clocked s.chip) tickClock s.chip)
  { s with chip := when (laneMember c) almServe c }

/-! ### The gateway -/

/-- The prefix of `LaneGwResult` (Table 10.7). [DEDUCED, log 103] -/
def gwPrefix (n : Fin 1024) (alm : Bool) : List Byte := leBytes 2 (n.val + bit alm 15)

/-- The request `q` has its next frame to wait for (R349). -/
def gwAgain (now : Nat) (q : GwReq) (l : List GwReq) : List GwReq :=
  l.map fun x => if x = q then { x with at_ := now } else x

/-- A response is held for collection; the request it ends waits no more (R349). -/
def gwHold (q : GwReq) (ends : Bool) (payload : List Byte) (c : Chip) : Chip :=
  setGw (fun g => { g with
    results := g.results ++ [{ data := gwPrefix q.node q.alm ++ payload, at_ := c.clock.us }]
    waiting := if ends then g.waiting.erase q else gwAgain c.clock.us q g.waiting }) c

/-- GW_RESPONSE_RECEIVE (R349): the response of a request that waits. -/
def gwResponseReceive (src : Fin 1024) (alm : Bool) (last : Bool) (payload : List Byte) (c : Chip) : Chip :=
  let tag := BitVec.ofNat 16 (leNat ((payload.drop 2).take 2))
  if !laneMember c then c
  else match c.gw.waiting.find? fun q => q.node == src && q.alm == alm && q.tag == tag with
    | some q => gwHold q (!alm || last) payload (hear src c)
    | none => hear src c

/-- The oldest response has been held for 10 s (R349). -/
def gwExpired (c : Chip) : Bool :=
  match c.gw.results.head? with
  | some r => !within c 10000000 (some r.at_)
  | none => false

/-- GW_RESPONSE_EXPIRY (R349): the oldest response has been held for 10 s. -/
def gwResponseExpiry (c : Chip) : Chip :=
  when (gwExpired c) (setGw fun g => { g with results := g.results.drop 1, lost := satSucc 65535 g.lost }) c

/-- The gateway request of a node and tag has had no response, or no next frame, for `LaneOdTimeout` (R349). -/
def gwOverdue (c : Chip) (node : Fin 1024) (tag : BitVec 16) (q : GwReq) : Bool :=
  q.node == node && q.tag == tag && !within c (nat c kLaneOdTimeout * 1000) (some q.at_)

/-- GW_TIMEOUT (R349): the gateway creates a response with status TIMEOUT. [DEDUCED, log 103] -/
def gwTimeout (tag : BitVec 16) (node : Fin 1024) (c : Chip) : Chip :=
  match c.gw.waiting.find? (gwOverdue c node tag) with
  | some q =>
    let h := padTo 7 q.head
    let b := if q.alm then [2, 0x20] ++ leBytes 2 tag.toNat ++ leBytes 1 Status.timeout.number ++ [1, 0, 0]
      else padTo 16 ([2] ++ h.drop 1 ++ leBytes 1 Status.timeout.number)
    gwHold q true b c
  | none => c

/-! ### The commands -/

/-- LANE_LINK_UP (R326) answers the state with its effect. -/
def execLaneLinkUp (p : LanePort) (farPortB : Bool) (s : State) : Host.Outcome State Fault Refusal :=
  answer s (laneLinkUp p farPortB s.chip)

/-- LANE_LINK_DOWN (R327) answers the state with its effect. -/
def execLaneLinkDown (p : LanePort) (s : State) : Host.Outcome State Fault Refusal := answer s (laneLinkDown p s.chip)

/-- LANE_WRAP (R328) answers the state with its effect. -/
def execLaneWrap (s : State) : Host.Outcome State Fault Refusal := answer s (laneWrap s.chip)

/-- LANE_FRAME_RECEIVE (R335) answers the state with its effect. -/
def execLaneFrameReceive (p : LanePort) (f : LaneFrame) (s : State) : Host.Outcome State Fault Refusal :=
  guarded (decide (f.payload.length < 512)) s (laneFrameReceive p f s.chip)

/-- ROLL_SEND (R340) answers the state with its effect. -/
def execRollSend (s : State) : Host.Outcome State Fault Refusal := answer s (rollSend s.chip)

/-- ROLL_RECEIVE (R340) answers the state with its effect. -/
def execRollReceive (f : RollFrame) (s : State) : Host.Outcome State Fault Refusal :=
  guarded (decide (f.serial < 2 ^ 64) && decide (f.age < 2 ^ 32)) s (rollReceive f s.chip)

/-- LANE_JOIN_COMPLETE (R339) answers the state with its effect. -/
def execLaneJoinComplete (s : State) : Host.Outcome State Fault Refusal := answer s (laneJoinComplete s.chip)

/-- LANE_NODE_LOST (R341) answers the state with its effect. -/
def execLaneNodeLost (n : Fin 1024) (s : State) : Host.Outcome State Fault Refusal := answer s (laneNodeLost n s.chip)

/-- TSYNC_SEND (R344) answers the state with its effect. -/
def execTsyncSend (p : LanePort) (s : State) : Host.Outcome State Fault Refusal := answer s (tsyncSend p s.chip)

/-- TSYNC_RECEIVE (R345) answers the state with its effect. -/
def execTsyncReceive (p : LanePort) (f : TsyncFrame) (s : State) : Host.Outcome State Fault Refusal :=
  guarded (decide (f.departure < 2 ^ 64) && decide (f.arrival < 2 ^ 64)) s (tsyncReceive p f s.chip)

/-- DREQ_SEND (R344) answers the state with its effect. -/
def execDreqSend (p : LanePort) (s : State) : Host.Outcome State Fault Refusal := answer s (dreqSend p s.chip)

/-- DREQ_RECEIVE (R344) answers the state with its effect. -/
def execDreqReceive (p : LanePort) (arrival : Nat) (s : State) : Host.Outcome State Fault Refusal :=
  guarded (decide (arrival < 2 ^ 64)) s (dreqReceive p arrival s.chip)

/-- DRSP_RECEIVE (R344) answers the state with its effect. -/
def execDrspReceive (p : LanePort) (t2 t3 t4 : Nat) (s : State) : Host.Outcome State Fault Refusal :=
  guarded (decide (t2 < 2 ^ 64) && decide (t3 < 2 ^ 64) && decide (t4 < 2 ^ 64)) s
    (drspReceive p t2 t3 t4 s.chip)

/-- HOLDOVER_ENTRY (R345) answers the state with its effect. -/
def execHoldoverEntry (s : State) : Host.Outcome State Fault Refusal := answer s (holdoverEntry s.chip)

/-- HOLDOVER_EXPIRY (R345) answers the state with its effect. -/
def execHoldoverExpiry (s : State) : Host.Outcome State Fault Refusal := answer s (holdoverExpiry s.chip)

/-- OD_REQUEST_RECEIVE (R347) answers the state with its effect. -/
def execOdRequestReceive (src : Fin 1024) (q : OdRequest) (s : State) : Host.Outcome State Fault Refusal :=
  guarded (q.fits) s (odRequestReceive src q s.chip)

/-- ALM_FETCH_RECEIVE (R348) answers the state with its effect. -/
def execAlmFetchReceive (src : Fin 1024) (q : AlmFetch) (s : State) : Host.Outcome State Fault Refusal :=
  guarded (q.fits) s (almFetchReceive src q s.chip)

/-- GW_RESPONSE_RECEIVE (R349) answers the state with its effect. -/
def execGwResponseReceive (src : Fin 1024) (alm : Bool) (last : Bool) (payload : List Byte) (s : State) : Host.Outcome State Fault Refusal :=
  guarded (decide (payload.length ≤ 256)) s (gwResponseReceive src alm last payload s.chip)

/-- GW_RESPONSE_EXPIRY (R349) answers the state with its effect. -/
def execGwResponseExpiry (s : State) : Host.Outcome State Fault Refusal := answer s (when (live s.chip) gwResponseExpiry s.chip)

/-- GW_TIMEOUT (R349) answers the state with its effect. -/
def execGwTimeout (tag : BitVec 16) (node : Fin 1024) (s : State) : Host.Outcome State Fault Refusal :=
  answer s (when (live s.chip) (gwTimeout tag node) s.chip)

end Sys2Proof.Machine
end

