-- ==== Sys2Proof/Machine/Twins.lean ====
section
/-! DEFINITION. The twin port and the ownership lines (R401 to R424). -/

namespace Sys2Proof.Machine

/-- The TWIN hamlet serves its port: one of a pair, booted, and not in block reset or parked. -/
def twinUp (c : Chip) : Bool :=
  c.twin.role != .single && c.boot.phase == .running && !hamletShut c.hamlets[(9 : Fin 27)]

/-! ### Frames -/

/-- The time HEALTHY and READY (Table 13.6) and the hold-off towards RETURN run, or start again (R423). -/
def judgeReturn (c : Chip) : Chip :=
  let well := healthy c && c.twin.ready
  let keeps := well && c.twin.link && flag c kTwinAutoReturn && c.twin.state == .standby
  setTwin (fun t => { t with
    healthySince := if well then some (t.healthySince.getD c.clock.us) else none
    returnSince := if keeps then some (t.returnSince.getD c.clock.us) else none
    ret := t.ret && keeps }) c

/-- A STARTING unit whose boot has completed claims or stands by (Table 13.4): a PREFERRED unit at once.
[DEDUCED, log 125] -/
def leaveStarting (c : Chip) : Chip :=
  if c.twin.state != .starting || !live c then c
  else if c.twin.ownIn then toStandby c
  else when (c.twin.role == .preferred && healthy c) claim c

/-- TWIN_STATE_SEND (R403). [DEDUCED, log 124, 125] -/
def twinStateSend (c : Chip) : Chip :=
  if !twinUp c then c
  else
    let c := leaveStarting (judgeReturn c)
    let beat := if reeveRuns c then c.twin.heartbeat + 1 else c.twin.heartbeat
    setTwin (fun t => { t with
      heartbeat := beat
      tx := t.tx ++ [.state t.role.number t.state.number (healthy c) t.ready t.ret beat.toNat c.clock.laneNs
        (c.alm.next.getD 0)] }) c

/-- TWIN_STATE_RECEIVE (R401, R403): the link is up, and a partner of the same role records an event.
[DEDUCED, log 124] -/
def twinStateReceive (f : TwinFrame) (c : Chip) : Chip :=
  if !twinUp c then c
  else
    let same := f.role == c.twin.role.number
    let known := match c.twin.partner with
      | some g => c.twin.link && g.role == f.role
      | none => false
    let beats := match c.twin.partner with
      | some g => g.heartbeat != f.heartbeat
      | none => true
    let c := setTwin (fun t => { t with
      link := true, partner := some f, partnerSeq := f.almSequence, beatAt := if beats then c.clock.us else t.beatAt }) c
    when (same && !known) (raise 182 9 f.role) c

/-- TWIN_LINK_LOST (R403, R413). -/
def twinLinkLost (c : Chip) : Chip := if twinUp c then twinLinkDown c else c

/-- The mean duty of a rail's active phases, as TRACK carries it. [DEDUCED, log 35] -/
def meanDuty (c : Chip) (r : Fin 16) : Word :=
  let l := activePhases c r
  if l.isEmpty then 0
  else toQ 31 (((l.map fun p => ofQ 31 c.phases[p].duty).foldl (· + ·) 0) / (l.length : Rat))

/-- TRACK_SEND (R403, R417). -/
def trackSend (c : Chip) : Chip :=
  if twinUp c && c.twin.state == .owner then
    setTwin (fun t => { t with tx := t.tx ++ [.track ((List.finRange 16).map (meanDuty c))
      ((List.finRange 8).map fun n => c.rms[n].trim) ((List.finRange 4).map fun s => c.strs[s].cmd)] }) c
  else c

/-- TRACK_RECEIVE (R415). -/
def trackReceive (f : TrackFrame) (c : Chip) : Chip :=
  if twinUp c && c.twin.state == .standby then
    setTwin (fun t => { t with track := some f, mirrorAt := some c.clock.us }) c
  else c

/-- MIRROR_SEND (R417). -/
def mirrorSend (c : Chip) : Chip :=
  if twinUp c && c.twin.state == .owner then sendMirror false c.twin.changed c else c

/-- RESYNC_RECEIVE (R419): the full mirror. -/
def resyncReceive (c : Chip) : Chip :=
  if twinUp c && c.twin.state == .owner then sendMirror true mirroredKeys c else c

/-- MIRROR_RECEIVE (R419, Table 13.8): the frame waits for the next apply tick; a gap in the sequence asks for RESYNC, with
its event.
[DESIGN CHOICE, log 122] -/
def mirrorReceive (seq : BitVec 32) (full : Bool) (items : List MirrorItem) (c : Chip) : Chip :=
  if twinUp c && c.twin.state == .standby then
    let gap := match c.twin.mirrorSeqIn with
      | some s => seq != s + 1
      | none => false
    let c := when gap (fun c => raise 182 6 seq.toNat (sendResync c)) c
    enqueue (.mirror seq full items) (setTwin (fun t => { t with mirrorSeqIn := some seq }) c)
  else c

/-! ### The ownership lines -/

/-- A yield (R405): the line falls, the requests are answered, and the unit stands by. [DEDUCED, log 125] -/
def yieldShelf (c : Chip) : Chip :=
  toStandby (switchoverAll (setTwin (fun t => { t with lastCause := 9, yieldAt := some c.clock.us }) c))

/-- OWN_IN_RISE (R405, R408, Table 13.4): `simultaneous`, within 50 ns of the own rise. -/
def ownInRise (simultaneous : Bool) (c : Chip) : Chip :=
  let c := setTwin (fun t => { t with ownIn := true, ownInAt := some c.clock.us }) c
  match c.twin.state with
  | .owner => if simultaneous && c.twin.role == .preferred then c else yieldShelf c
  | .starting => leaveStarting c
  | .single | .releasing | .standby => c

/-- RELEASE_HOLD_END (R408, R409): 2 µs after the rise of `OWN_IN`; the hold of a restart ends with it. -/
def releaseHoldEnd (c : Chip) : Chip :=
  if !c.twin.ownIn || within c 2 c.twin.ownInAt then c
  else if c.twin.state == .releasing && live c then toStandby c
  else if c.twin.state == .starting && c.twin.holding then endRestartHold c
  else c

/-- RELEASE_TIMEOUT (R408, R409): 200 µs after the release without `OWN_IN`. -/
def releaseTimeout (c : Chip) : Chip :=
  if c.twin.ownIn || within c 200 c.twin.releasedAt then c
  else if c.twin.state == .releasing && live c then
    raise 182 5 0 (setTwin (fun t => { t with state := .owner, ownOut := true, holding := false }) c)
  else if c.twin.state == .starting && c.twin.holding then endRestartHold c
  else c

/-- OWN_IN_FALL (R410): a STANDBY unit that is HEALTHY claims; `gap` is the time in ns to the rise of `OWN_OUT`. -/
def ownInFall (gap : Nat) (c : Chip) : Chip :=
  let c := setTwin (fun t => { t with ownIn := false }) c
  if c.twin.state == .standby && live c then
    claimHealthy (when (healthy c) (setTwin fun t => { t with lastGap := gap }) c)
  else c

/-- STALE_HOLDER_CLAIM (R412): the partner's heartbeat has stood still for `TwinHbTimeout`. -/
def staleHolderClaim (c : Chip) : Chip :=
  if c.twin.state == .standby && live c && c.twin.link && c.twin.ownIn && healthy c &&
      decide (c.twin.beatAt + nat c kTwinHbTimeout * 1000 ≤ c.clock.us) then claim (raise 182 2 0 c) else c

/-- ALTERNATE_START_CLAIM (R414, Table 13.4): 250 ms after the boot completed, `OWN_IN` is still low. -/
def alternateStartClaim (c : Chip) : Chip :=
  if c.twin.state == .starting && c.twin.role == .alternate && live c && !c.twin.ownIn && healthy c &&
      decide (c.boot.completedAt + 250000 ≤ c.clock.us) then claim c
  else c

/-- The hold-off of `TwinReturnHoldoff` has passed (R423). -/
def holdoffOver (c : Chip) : Bool :=
  match c.twin.returnSince with
  | some t => decide (t + nat c kTwinReturnHoldoff * 1000000 ≤ c.clock.us)
  | none => false

/-- RETURN_HOLDOFF_END (R401, R423): the unit has been HEALTHY and READY for `TwinReturnHoldoff`. -/
def returnHoldoffEnd (c : Chip) : Chip :=
  let other := match c.twin.partner with
    | some f => f.role != c.twin.role.number
    | none => false
  if c.twin.state == .standby && c.twin.role == .preferred && live c && flag c kTwinAutoReturn && c.twin.link &&
      healthy c && c.twin.ready && other && holdoffOver c then setTwin (fun t => { t with ret := true }) c
  else c

/-! ### The commands -/

/-- TWIN_STATE_RECEIVE (R403) answers the state with its effect. -/
def execTwinStateReceive (f : TwinFrame) (s : State) : Host.Outcome State Fault Refusal :=
  guarded (f.fits) s (twinStateReceive f s.chip)

/-- TWIN_LINK_LOST (R403) answers the state with its effect. -/
def execTwinLinkLost (s : State) : Host.Outcome State Fault Refusal := answer s (twinLinkLost s.chip)

/-- TWIN_STATE_SEND (R403) answers the state with its effect. -/
def execTwinStateSend (s : State) : Host.Outcome State Fault Refusal := answer s (twinStateSend s.chip)

/-- TRACK_SEND (R403) answers the state with its effect. -/
def execTrackSend (s : State) : Host.Outcome State Fault Refusal := answer s (trackSend s.chip)

/-- TRACK_RECEIVE (R415) answers the state with its effect. -/
def execTrackReceive (f : TrackFrame) (s : State) : Host.Outcome State Fault Refusal := answer s (trackReceive f s.chip)

/-- MIRROR_SEND (R417) answers the state with its effect. -/
def execMirrorSend (s : State) : Host.Outcome State Fault Refusal := answer s (mirrorSend s.chip)

/-- MIRROR_RECEIVE (R419) answers the state with its effect. -/
def execMirrorReceive (seq : BitVec 32) (full : Bool) (items : List MirrorItem) (s : State) : Host.Outcome State Fault Refusal :=
  answer s (mirrorReceive seq full items s.chip)

/-- RESYNC_RECEIVE (R419) answers the state with its effect. -/
def execResyncReceive (s : State) : Host.Outcome State Fault Refusal := answer s (resyncReceive s.chip)

/-- OWN_IN_RISE (R405) answers the state with its effect. -/
def execOwnInRise (simultaneous : Bool) (s : State) : Host.Outcome State Fault Refusal :=
  answer s (ownInRise simultaneous s.chip)

/-- RELEASE_HOLD_END (R408) answers the state with its effect. -/
def execReleaseHoldEnd (s : State) : Host.Outcome State Fault Refusal := answer s (releaseHoldEnd s.chip)

/-- RELEASE_TIMEOUT (R408) answers the state with its effect. -/
def execReleaseTimeout (s : State) : Host.Outcome State Fault Refusal := answer s (releaseTimeout s.chip)

/-- OWN_IN_FALL (R410) answers the state with its effect. -/
def execOwnInFall (gap : Nat) (s : State) : Host.Outcome State Fault Refusal :=
  guarded (decide (gap < 2 ^ 32)) s (ownInFall gap s.chip)

/-- STALE_HOLDER_CLAIM (R412) answers the state with its effect. -/
def execStaleHolderClaim (s : State) : Host.Outcome State Fault Refusal := answer s (staleHolderClaim s.chip)

/-- ALTERNATE_START_CLAIM (R414) answers the state with its effect. -/
def execAlternateStartClaim (s : State) : Host.Outcome State Fault Refusal := answer s (alternateStartClaim s.chip)

/-- RETURN_HOLDOFF_END (R423) answers the state with its effect. -/
def execReturnHoldoffEnd (s : State) : Host.Outcome State Fault Refusal := answer s (returnHoldoffEnd s.chip)

end Sys2Proof.Machine
end

