-- ==== Sys2Proof/Machine/Update.lean ====
section
/-! DEFINITION. Firmware update and life-cycle commands (R438, R439, R444 to R448). -/

namespace Sys2Proof.Machine

/-! ### Update -/

/-- An update command arrives while an update is open: the 60 s of R439 start again. -/
def updateHeard (c : Chip) : Chip := when (updating c) (setUpdate fun u => { u with lastAt := c.clock.us }) c

/-- The slot that FFh names (R438): the one that does not run, or in ROM recovery mode the one of the lower valid
generation, and slot A where neither is valid. -/
def otherSlot (c : Chip) : Fin 2 :=
  if inRecovery c then
    match c.boot.status[(0 : Fin 2)], c.boot.status[(1 : Fin 2)] with
    | .valid, .valid => if imageGen c 1 < imageGen c 0 then 1 else 0
    | _, .valid => 1
    | _, _ => 0
  else if c.boot.slot.val = 0 then 1 else 0

/-- The directory is written again by the first update of a chip whose copies are both invalid (R434). -/
def writeDirectory (c : Chip) : Chip :=
  when (directoryInUse c.nor).isNone (setNor fun n => { n with directory := Vector.replicate 2 (dirBytes 1 n.size) }) c

/-- UPDATE_BEGIN (R438, R439): the slot is invalid from its first erase. [DEDUCED, log 90] -/
def updateBegin (tag : BitVec 16) (slot : BitVec 8) (length : Nat) (c : Chip) : Chip :=
  svcAlways (fun c =>
    let c := updateHeard c
    let s : Fin 2 := if slot = 0xFF then otherSlot c else Fin.ofNat 2 slot.toNat
    if lifeCycle c == .retired then svcAnswer 0x30 tag Status.lifecycle.number [] c
    else if 1576960 < length || !(slot == 0 || slot == 1 || slot == 0xFF) then svcAnswer 0x30 tag Status.range.number [] c
    else if updating c || (!inRecovery c && s = c.boot.slot) then svcAnswer 0x30 tag Status.stateConflict.number [] c
    else
      let c := setNor (fun n => { n with images := n.images.set s {} }) (writeDirectory c)
      log 0x6A 244 0 s.val []
        { c with update := { state := .erasing, slot := s, tag := tag, length := length, lastAt := c.clock.us
                             restartAt := c.update.restartAt } }) c

/-- UPDATE_ERASE_DONE (R438): the response names the slot chosen. -/
def updateEraseDone (c : Chip) : Chip :=
  if c.update.state == .erasing then
    svcAnswer 0x30 c.update.tag 0 [BitVec.ofNat 8 c.update.slot.val] (setUpdate (fun u => { u with state := .receiving }) c)
  else c

/-- The bytes received, those still being programmed included. -/
def updateTaken (c : Chip) : Nat := c.update.received + (c.update.pieces.map fun p => p.2.length).foldl (· + ·) 0

/-- UPDATE_DATA (R438): the piece must follow the one before it. [DEDUCED, log 90] -/
def updateData (tag : BitVec 16) (offset : Nat) (data : List Byte) (c : Chip) : Chip :=
  svcAlways (fun c =>
    let c := updateHeard c
    if lifeCycle c == .retired then svcAnswer 0x31 tag Status.lifecycle.number [] c
    else if c.update.state != .receiving || offset != updateTaken c then svcAnswer 0x31 tag 0x23 [] c
    else if c.update.length < offset + data.length then svcAnswer 0x31 tag Status.range.number [] c
    else setUpdate (fun u => { u with pieces := u.pieces ++ [(tag, data)] }) c) c

/-- UPDATE_DATA_PROGRAMMED (R438). -/
def updateDataProgrammed (c : Chip) : Chip :=
  match c.update.pieces with
  | [] => c
  | (tag, b) :: rest =>
    let s := c.update.slot
    let c := setNor (fun n => { n with
      images := n.images.set s { bytes := n.images[s].bytes ++ b } }) c
    svcAnswer 0x31 tag 0 [] (setUpdate (fun u => { u with pieces := rest, received := u.received + b.length }) c)

/-- UPDATE_END (R438, R439): RESTART sets a chip reset 100 ms after the response. [DEDUCED, log 90] -/
def updateEnd (tag : BitVec 16) (restart : Bool) (c : Chip) : Chip :=
  svcAlways (fun c =>
    let c := updateHeard c
    if lifeCycle c == .retired then svcAnswer 0x32 tag Status.lifecycle.number [] c
    else if c.update.state != .receiving || c.update.received != c.update.length then svcAnswer 0x32 tag 0x23 [] c
    else
      let s := c.update.slot
      let c := setUpdate (fun u => { u with
        state := .ended
        restartAt := if restart then some (c.clock.us + 100000) else u.restartAt }) c
      svcAnswer 0x32 tag 0 [] (log 0x6B 244 0 s.val [c.update.length] c)) c

/-- UPDATE_INACTIVITY (R439): 60 s without an update command. -/
def updateInactivity (c : Chip) : Chip :=
  if resettable c && decide (c.update.lastAt + 60000000 ≤ c.clock.us) then abandonUpdate c else c

/-- UPDATE_RESTART_RESET (R439): 100 ms after the response of UPDATE-END with RESTART. -/
def updateRestartReset (c : Chip) : Chip :=
  match c.update.restartAt with
  | some t => if t ≤ c.clock.us then chipReset .command false c else c
  | none => c

/-! ### Life cycle -/

/-- LIFECYCLE_NONCE (R446). -/
def lifecycleNonce (tag : BitVec 16) (c : Chip) : Chip :=
  svcNormal 0x40 tag (fun c =>
    let nonce := (List.range 16).map (Config.nonceByte c.fresh)
    svcAnswer 0x40 tag 0 nonce (takeFree (setLc (fun l => { l with nonce := some (nonce, nowMs c) }) c))) c

/-- The nonce presented is the one in force, within its 60 s (R446). [DEDUCED, log 91] -/
def nonceValid (c : Chip) (t : LcTransition) : Bool :=
  match c.lc.nonce with
  | some (n, at_) => n == t.nonce && decide (nowMs c ≤ at_ + 60000)
  | none => false

/-- The transition is authentic (R446). [DEDUCED, log 91] -/
def authentic (c : Chip) (t : LcTransition) : Bool :=
  nonceValid c t && (sha256 t.publicKey).toList == c.fuses.keyHash &&
    ecdsaVerify t.publicKey
      (sha256 (padTo 8 c.fuses.serial ++ [BitVec.ofNat 8 (lifeCycle c).number, t.target] ++ t.nonce)).toList t.signature

/-- The target of a transition listed in Table 14.11 whose condition holds (R445, R447). -/
def transitionTo (c : Chip) (target : BitVec 8) : Option LifeCycle :=
  let receipted := c.alm.frozen.state == .receipted && !c.alm.frozen.severe
  match lifeCycle c, target.toNat with
  | .blank, 1 => some .provisioned
  | .provisioned, 2 => some .deployed
  | .deployed, 3 => if c.fuses.service < 63 then some .service else none
  | .service, 2 => some .deployed
  | .provisioned, 4 | .deployed, 4 | .service, 4 => if receipted then some .retired else none
  | _, _ => none

/-- A life-cycle command is refused, logged with its reason (R446, Table 14.13). [DEDUCED, log 91] -/
def refuseTransition (tag : BitVec 16) (status reason : Nat) (c : Chip) : Chip :=
  svcAnswer 0x40 tag status [] (logRaise 0x69 243 1 reason [] c)

/-- LIFECYCLE_TRANSITION (R446, R448): the response, LOG 68h, and the flush. [DEDUCED, log 91] -/
def lifecycleTransition (tag : BitVec 16) (t : LcTransition) (c : Chip) : Chip :=
  svcNormal 0x40 tag (fun c =>
    let ok := authentic c t
    let c := when (nonceValid c t) (setLc fun l => { l with nonce := none }) c
    if !ok then refuseTransition tag 0x24 1 c
    else match transitionTo c t.target with
      | none => refuseTransition tag Status.stateConflict.number 2 c
      | some dest =>
        if c.lc.accepted.isSome then refuseTransition tag Status.stateConflict.number 2 c
        else
          let c := setLc (fun l => { l with accepted := some dest }) (svcAnswer 0x40 tag 0 [] c)
          flush (logRaise 0x68 243 1 ((lifeCycle c).number * 256 + dest.number : Nat) [] c)) c

/-- The regions of a transition are erased (Table 14.11). [DEDUCED, log 92] -/
def eraseFor (dest : LifeCycle) (c : Chip) : Chip :=
  match dest with
  | .provisioned => setNor (fun n => { n with params := Vector.replicate 2 {}, slots := Vector.replicate 2 .erased }) c
  | .retired =>
    setAlm (fun a => { a with main := {}, reserve := {} })
      (setNor (fun n => { size := n.size, ioMode := n.ioMode, clock := n.clock }) c)
  | .blank | .deployed | .service => c

/-- LIFECYCLE_ERASE_COMPLETE (R448): the fuses, the erase, and the chip reset. [DEDUCED, log 92] -/
def lifecycleEraseComplete (c : Chip) : Chip :=
  match c.lc.accepted with
  | none => c
  | some dest =>
    if resettable c then chipReset .lifeCycle false (eraseFor dest { c with fuses := blow c dest }) else c

/-! ### The commands -/

/-- UPDATE_BEGIN (R438) answers the state with its effect. -/
def execUpdateBegin (tag : BitVec 16) (slot : BitVec 8) (length : Nat) (s : State) : Host.Outcome State Fault Refusal :=
  guarded (decide (length < 2 ^ 32)) s (updateBegin tag slot length s.chip)

/-- UPDATE_ERASE_DONE (R438) answers the state with its effect. -/
def execUpdateEraseDone (s : State) : Host.Outcome State Fault Refusal := answer s (updateEraseDone s.chip)

/-- UPDATE_DATA (R438) answers the state with its effect. -/
def execUpdateData (tag : BitVec 16) (offset : Nat) (data : List Byte) (s : State) : Host.Outcome State Fault Refusal :=
  guarded (decide (offset < 2 ^ 32) && decide (data.length ≤ 4092) && !data.isEmpty) s
    (updateData tag offset data s.chip)

/-- UPDATE_END (R439) answers the state with its effect. -/
def execUpdateEnd (tag : BitVec 16) (restart : Bool) (s : State) : Host.Outcome State Fault Refusal :=
  answer s (updateEnd tag restart s.chip)

/-- UPDATE_INACTIVITY (R439) answers the state with its effect. -/
def execUpdateInactivity (s : State) : Host.Outcome State Fault Refusal := answer s (updateInactivity s.chip)

/-- LIFECYCLE_NONCE (R446) answers the state with its effect. -/
def execLifecycleNonce (tag : BitVec 16) (s : State) : Host.Outcome State Fault Refusal :=
  answer s (lifecycleNonce tag s.chip)

/-- LIFECYCLE_TRANSITION (R446) answers the state with its effect. -/
def execLifecycleTransition (tag : BitVec 16) (t : LcTransition) (s : State) : Host.Outcome State Fault Refusal :=
  guarded (t.fits) s (lifecycleTransition tag t s.chip)

/-- LIFECYCLE_ERASE_COMPLETE (R448) answers the state with its effect. -/
def execLifecycleEraseComplete (s : State) : Host.Outcome State Fault Refusal :=
  answer s (lifecycleEraseComplete s.chip)

/-- UPDATE_RESTART_RESET (R439) answers the state with its effect. -/
def execUpdateRestartReset (s : State) : Host.Outcome State Fault Refusal := answer s (updateRestartReset s.chip)

/-- UPDATE_DATA_PROGRAMMED (R438) answers the state with its effect. -/
def execUpdateDataProgrammed (s : State) : Host.Outcome State Fault Refusal := answer s (updateDataProgrammed s.chip)

end Sys2Proof.Machine
end

