-- ==== Sys2Proof/Machine/Boot.lean ====
section
/-! DEFINITION. The start (R426 to R437, R441, R155, R289): the boot step table and ROM recovery mode. -/

namespace Sys2Proof.Machine

/-- The last boot step completed is `n + 1` (Table 14.3). -/
def atStep (c : Chip) (n : Nat) : Bool :=
  match c.boot.phase with
  | .step k => k.val == n
  | _ => false

/-- A boot step completes. -/
def toStep (n : Fin 12) (c : Chip) : Chip := setBoot (fun b => { b with phase := .step n }) c

/-! ### Resets and their releases -/

/-- The number of a strap's level (R308). -/
def strapNumber : Strap → Nat
  | .low => 0
  | .opened => 1
  | .high => 2

/-- The role that `TWINSEL` gives (R401). -/
def strapRole : Strap → TwinRole
  | .low => .single
  | .opened => .preferred
  | .high => .alternate

/-- POWER_ON_RELEASE (R426, R454): step 1, with the straps read. -/
def powerOnRelease (straps : Straps) (c : Chip) : Chip :=
  if c.boot.phase != .porAsserted then c
  else
    let role := strapRole straps.twinSel
    let code := strapNumber straps.addrSel0 + 3 * strapNumber straps.addrSel1 + 9 * strapNumber straps.addrSel2
    toStep 0 (setTw (fun t => { t with strapCode := code })
      (setTwin (fun t => { t with role := role, state := if role = .single then .single else .starting }) c))

/-- RST_ASSERT (R427, R428): an external chip reset begins. -/
def rstAssert (c : Chip) : Chip := chipReset .external false (setBoot (fun b => { b with rstLow := true }) c)

/-- RST_RELEASE (R431): a boot that waits at the end of step 4 goes on. [DEDUCED, log 130] -/
def rstRelease (c : Chip) : Chip :=
  setBoot (fun b => { b with rstLow := false, phase := if b.phase = .rstHeld then .step 3 else b.phase }) c

/-- BOOT_REGULATORS_READY (Table 14.3, steps 2 and 3): WATCH and ALMANAC start. -/
def bootRegulatorsReady (c : Chip) : Chip :=
  if !atStep c 0 then c
  else toStep 2 (setHamlet 0 (fun h => { h with run := true }) (setHamlet 1 (fun h => { h with run := true }) c))

/-- BOOT_REFERENCE_LOCKED (Table 14.3, step 5): the reference is present, and every clock generator locks.
[DEDUCED, log 15] -/
def bootReferenceLocked (c : Chip) : Chip :=
  if !atStep c 3 then c
  else toStep 4 { c with
    clock := { c.clock with almFallback := false, refLost := false }
    hamlets := c.hamlets.map fun h => { h with run := true } }

/-! ### ROM recovery mode and the images -/

/-- ROM recovery mode is entered (R437, R450): LOG 63h, INFO when by `RECOV#`. The scan numbers it.
[DEDUCED, log 119, 128] -/
def enterRecovery (why : Nat) (c : Chip) : Chip :=
  let power := c.boot.cause == .powerOn
  let c := setBoot (fun b => { b with phase := .recovery }) c
  let c := when (c.nor.size != 0) (bootScan power) c
  if why = 1 then log 0x63 241 0 (why : Int) [] c else logRaise 0x63 241 3 (why : Int) [] c

/-- BOOT_NOR_DISCOVERED (R432, R434, R437; R448: the ROM finishes the erase of a retirement): a part without a readable table, or below 16 MiB, is source 227's event.
[DEDUCED, log 128, 134] -/
def bootNorDiscovered (part : Option NorPart) (recov : Bool) (c : Chip) : Chip :=
  if !atStep c 4 then c
  else match part with
    | none => enterRecovery 3 (raise 227 3 0 c)
    | some p =>
      if p.sizeMiB < 16 then enterRecovery 3 (raise 227 3 0 c)
      else
        let c := setNor (fun n => { n with size := p.sizeMiB, ioMode := p.ioMode, clock := p.clock }) c
        if lifeCycle c == .retired then enterRecovery 4 (when c.nor.eraseDue (eraseFor .retired) c)
        else if recov then enterRecovery 1 c
        else if (directoryInUse c.nor).isNone then enterRecovery 2 c
        else toStep 5 c

/-- The slot that the ROM checks first (R436). [DEDUCED, log 129] -/
def firstSlot (c : Chip) : Fin 2 :=
  if c.nor.images[(0 : Fin 2)].generation < c.nor.images[(1 : Fin 2)].generation then 1 else 0

/-- BOOT_IMAGE_CHECKED (R436, R437): the copy and check of the slot of a step are complete, and the first slot that passes
boots. -/
def bootImageChecked (slotB : Bool) (c : Chip) : Chip :=
  let s : Fin 2 := if slotB then 1 else 0
  let status := c.nor.images[s].check c.fuses.keyHash
  let boots := status == .valid
  let note (b : Boot) : Boot :=
    { b with status := b.status.set s status, gens := if boots then b.gens.set s c.nor.images[s].generation else b.gens }
  if atStep c 5 && s = firstSlot c then
    if boots then toStep 7 (setBoot (fun b => { note b with slot := s }) c)
    else toStep 6 (setBoot (fun b => { note b with firstFailed := some (s, status) }) c)
  else if atStep c 6 && s ≠ firstSlot c then
    if boots then toStep 7 (setBoot (fun b => { note b with slot := s }) c)
    else enterRecovery 0 (setBoot note c)
  else c

/-! ### The Reeve starts -/

/-- A later record of the flash tells how the hamper of an ARMED record ended (R289): discarded, or found at a boot
before; or a hamper applied in the same power cycle at T, which is 2 ms after the ARMED record.
[DEDUCED, log 78; DESIGN CHOICE, log 79] -/
def armedEnded (l : List Record) (r : Record) : Bool :=
  l.any fun q => q.kind == .log && decide (r.seq.getD 0 < q.seq.getD 0) &&
    ((q.code == 0x10 && q.cycle == r.cycle && decide (r.timeMs + 1 ≤ q.timeMs) && decide (q.timeMs ≤ r.timeMs + 3)) || ((q.code == 0x12 || q.code == 0x13 || q.code == 0x15) && q.value == r.value &&
      q.entries.map (·.value) == r.entries.map (·.value)))

/-- The ARMED records without an apply or abort record are logged (R289). [DESIGN CHOICE, log 79] -/
def logArmed (c : Chip) : Chip :=
  let l := storedInOrder c
  each (l.filter fun r => r.kind == .log && r.code == 0x11 && !armedEnded l r)
    (fun r => log 0x13 195 3 r.value (r.entries.map fun e => e.value.toNat)) c

/-- BOOT_REEVE_START (Table 14.3, step 9; R289, R383, R384, R396, R436). -/
def bootReeveStart (c : Chip) : Chip :=
  if !atStep c 7 then c
  else
    let c := toStep 8 (setReeve (fun r => { r with halted := false }) c)
    let c := bootScan (c.boot.cause == .powerOn) c
    let c := match c.boot.firstFailed with
      | some (s, st) => logRaise 0x62 241 2 ((s.val * 256 + imageStatusNumber st : Nat) : Int) [] c
      | none => c
    logArmed c

/-! ### Step 10 -/

/-- The set that comes into force: the committed one of the higher generation (R441). -/
def setToLoad (c : Chip) : Option (Fin 2) :=
  match c.nor.params[(0 : Fin 2)].committed, c.nor.params[(1 : Fin 2)].committed with
  | true, true => if c.nor.params[(0 : Fin 2)].generation < c.nor.params[(1 : Fin 2)].generation then some 1 else some 0
  | true, false => some 0
  | false, true => some 1
  | false, false => none

/-- The generation of a set whose store was interrupted (R441): its header corrects, it is not committed, and its generation
is above the one in force. [DEDUCED, log 131] -/
def interruptedStore (c : Chip) (inForce : Nat) : Option Nat :=
  ((c.nor.params.toList.filter fun p => p.headed && !p.committed && decide (inForce < p.generation)).map
    ParamRegion.generation).head?

/-- The defaults are in force (R441): LOG 66h. -/
def logDefaults (c : Chip) : Chip := logRaise 0x66 242 2 (resultWord c.boot.loadResult : Int) [] c

/-- The entries of a set come into force, and are validated together as one hamper (R441). [DEDUCED, log 131] -/
def loadSet (s : Fin 2) (p : ParamRegion) (c : Chip) : Chip :=
  let good := p.entries.filterMap fun e => (entryValue e.1 e.2).map fun v => (e.1, v)
  let bad := p.entries.filter fun e => (entryValue e.1 e.2).isNone
  let c := setBoot (fun b => { b with
    setInForce := some s, generation := p.generation, rejected := min 65535 bad.length, bodySize := p.body.length }) c
  let c := each (bad.take 8) (fun e => logRaise 0x67 242 1 (e.1 : Int) []) c
  let new := loadChemistries (good.map (·.1)) (storeAll good c)
  match firstFailure c new 0 good with
  | none => new
  | some (d, n) => logDefaults (setBoot (fun b => { b with
      noAutoStart := true, loadResult := { status := .validation, detail := d, node := ownNode c, pos := n } }) c)

/-- The parameter set is loaded (R441). -/
def loadParameters (c : Chip) : Chip :=
  let found := setToLoad c
  let gen := match found with
    | some s => c.nor.params[s].generation
    | none => 0
  let c := match interruptedStore c gen with
    | some g => logRaise 0x65 242 1 (g : Int) [] c
    | none => c
  match found with
  | some s => loadSet s c.nor.params[s] c
  | none => logDefaults c

/-- ESTOLD is set, with its event and record (R155); the record's severity is a free value. [DEDUCED, log 133] -/
def estOld (s : Fin 4) (c : Chip) : Chip :=
  let sev := Fin.ofNat 4 (freeWord c).toNat
  log 0x22 (68 + s) sev (s.val : Int) []
    (raise (68 + s) 2 0 (takeFree (setStr s (fun x => { x with estOld := true }) c)))

/-- The estimator of a fitted string resumes from the newest valid entry, or starts cold (R155).
[DEDUCED, log 38, 121, 133] -/
def bootEstimator (s : Fin 4) (c : Chip) : Chip :=
  match newestEntry c with
  | none => estOld s (resetEstimate s c)
  | some e =>
    let c := match e.blocks[s] with
      | some b => loadBlock s b c
      | none => resetEstimate s c
    when (c.nor.slots.contains .torn) (estOld s) c

/-- BOOT_PARAMETER_LOAD (Table 14.3, step 10; R40, R155, R339, R441): `closed` is `BSn_SWFB` of each string. -/
def bootParameterLoad (closed : List Bool) (c : Chip) : Chip :=
  if !atStep c 8 then c
  else
    let c := loadParameters (toStep 9 c)
    let c := setLane (fun l => { l with nodeIdNow := nat c kLaneNodeId }) c
    let c := setBus (fun b => { b with tapsJudged := true, tapsFrom := c.clock.us }) c
    let c := each (List.finRange 4) (fun s => setStr s fun x => { x with closed := closed.getD s.val false }) c
    let c := setBatt (fun b => { b with shipFlag := match newestEntry c with
      | some e => e.ship
      | none => false }) c
    each (fittedStrs c) bootEstimator c

/-- BOOT_MILLWORK_LOADED (Table 14.3, step 11; R238). -/
def bootMillworkLoaded (c : Chip) : Chip :=
  if !atStep c 9 then c else toStep 10 (each (List.finRange 16) loadMill c)

/-! ### Step 12 -/

/-- A fitted string enters the state of Table 4.4 at boot; a BLANK chip's strings stay UNFITTED (Table 14.10). One that
enters IN-SERVICE resumes the charge phase of its slot (R134). One in SHIP counts its latch as set, so that it closes
through ship-clear (R158). [DEDUCED, log 41, 47] -/
def bootString (s : Fin 4) (c : Chip) : Chip :=
  if lifeCycle c == .blank then c
  else if c.batt.shipFlag then strGo s .ship (setStr s (fun x => { x with shipLatch := true }) c)
  else if c.strs[s].closed then
    let c := strGo s .inService (reinsertionCheck s c)
    if c.strs[s].phase = .none then startCharge s c else c
  else toQualifying s c

/-- A rectifier port is initialised (R36, R47, R429): the trim is driven, at its neutral code. [DEDUCED, log 130] -/
def bootRm (n : Fin 8) (c : Chip) : Chip :=
  rmRefresh n (setRm n (fun r => { r with trimDriven := false }) c)

/-- An invalid directory copy is written from the valid one (R434). [DEDUCED, log 134] -/
def mendDirectory (i : Fin 2) (c : Chip) : Chip :=
  let good := c.nor.directory[(1 : Fin 2) - i]
  if !dirValid c.nor.directory[i] && dirValid good then
    logRaise 0x61 240 1 (i.val : Int) [] (setNor (fun x => { x with directory := x.directory.set i good }) c)
  else c

/-- What step 12 initialises (Table 14.3; R29, R434). -/
def initialise (c : Chip) : Chip :=
  let c := each (List.finRange 8) bootRm (derive c)
  let c := each (List.finRange 16) publishLimit c
  let c := each (fittedStrs c) bootString c
  let c := setBatt (fun b => { b with shipBoot := b.shipFlag, lastSave := nowMs c }) c
  let c := each (List.finRange 2) mendDirectory (each (List.finRange 27) parkHamlet c)
  when ((directoryInUse c.nor).any fun b => dirSize b != c.nor.size) (raise 240 2 0) c

/-- What starts together at the completion of step 12 (R430): the twins, the sequencer, CAN, the Lane and the battery
watchdog. A standby's sequencer changes no state (R415), and a BLANK chip ignores the on request (Table 14.10). -/
def startTogether (c : Chip) : Chip :=
  let c := leaveStarting c
  let c := when (flag c kSeqAutoStart && !c.boot.noAutoStart && c.twin.state != .standby && lifeCycle c != .blank) seqOn c
  let c := startComm c
  let c := when (!c.lane.dupId) laneJoin c
  setBatt (fun b => { b with wdRunning := true, wdStart := nowMs c }) c

/-- BOOT_COMPLETE (Table 14.3, step 12; R24, R430, R450). [DEDUCED, log 51, 130] -/
def bootComplete (c : Chip) : Chip :=
  if !atStep c 10 then c
  else
    let c := setReeve (fun r => { r with watchdog := false })
      (setBoot (fun b => { b with phase := .running, bootTime := b.timer, completedAt := c.clock.us }) (initialise c))
    startTogether (log 0x60 240 0 (c.boot.bootTime : Int)
      [c.boot.cause.number, c.boot.slot.val, imageGen c c.boot.slot, c.boot.generation] c)

/-! ### The commands -/

/-- POWER_ON_RELEASE (R426) answers the state with its effect. -/
def execPowerOnRelease (straps : Straps) (s : State) : Host.Outcome State Fault Refusal :=
  answer s (powerOnRelease straps s.chip)

/-- RST_ASSERT (R427) answers the state with its effect. -/
def execRstAssert (s : State) : Host.Outcome State Fault Refusal := answer s (rstAssert s.chip)

/-- RST_RELEASE (R431) answers the state with its effect. -/
def execRstRelease (s : State) : Host.Outcome State Fault Refusal := answer s (rstRelease s.chip)

/-- BOOT_REGULATORS_READY (R430) answers the state with its effect. -/
def execBootRegulatorsReady (s : State) : Host.Outcome State Fault Refusal := answer s (bootRegulatorsReady s.chip)

/-- BOOT_REFERENCE_LOCKED (R430) answers the state with its effect. -/
def execBootReferenceLocked (s : State) : Host.Outcome State Fault Refusal := answer s (bootReferenceLocked s.chip)

/-- BOOT_NOR_DISCOVERED (R432) answers the state with its effect. -/
def execBootNorDiscovered (part : Option NorPart) (recov : Bool) (s : State) : Host.Outcome State Fault Refusal :=
  guarded (part.all NorPart.fits) s (bootNorDiscovered part recov s.chip)

/-- BOOT_IMAGE_CHECKED (R436) answers the state with its effect. -/
def execBootImageChecked (slotB : Bool) (s : State) : Host.Outcome State Fault Refusal :=
  answer s (bootImageChecked slotB s.chip)

/-- BOOT_REEVE_START (R430) answers the state with its effect. -/
def execBootReeveStart (s : State) : Host.Outcome State Fault Refusal := answer s (bootReeveStart s.chip)

/-- BOOT_PARAMETER_LOAD (R441) answers the state with its effect. -/
def execBootParameterLoad (closed : List Bool) (s : State) : Host.Outcome State Fault Refusal :=
  guarded (decide (closed.length = 4)) s (bootParameterLoad closed s.chip)

/-- BOOT_MILLWORK_LOADED (R430) answers the state with its effect. -/
def execBootMillworkLoaded (s : State) : Host.Outcome State Fault Refusal := answer s (bootMillworkLoaded s.chip)

/-- BOOT_COMPLETE (R430) answers the state with its effect. -/
def execBootComplete (s : State) : Host.Outcome State Fault Refusal := answer s (bootComplete s.chip)

end Sys2Proof.Machine
end

