-- ==== Sys2Proof/Machine/CanUnit.lean ====
section
/-! DEFINITION. The CAN FD ports (R291 to R305). -/

namespace Sys2Proof.Machine

/-- The line is there: NET runs, and the line is in use (R292). -/
def linePresent (c : Chip) (l : Fin 2) : Bool := netUp c && lineUsed c l && c.can.nmt != .initialising

/-- The line carries frames: it is there, and not in bus-off (R293). -/
def lineServed (c : Chip) (l : Fin 2) : Bool := linePresent c l && !c.can.lines[l].busOff

/-- USDO, SYNC and EMCY run (R295). -/
def talking (c : Chip) : Bool := c.can.nmt == .preOperational || c.can.nmt == .operational

/-! ### Fault confinement -/

/-- CAN_ERROR_PASSIVE (R293). -/
def canErrorPassive (l : Fin 2) (c : Chip) : Chip :=
  if !lineServed c l || c.can.lines[l].errPassive then c
  else raise (172 + l) 1 0 (setLine l (fun x => { x with errPassive := true }) c)

/-- CAN_BUS_OFF (R293). -/
def canBusOff (l : Fin 2) (c : Chip) : Chip :=
  if !lineServed c l then c
  else raise (172 + l) 1 0 (setLine l (fun x => { x with busOff := true, recovering := false }) c)

/-- CAN_BUSOFF_RESTART (R293). -/
def canBusoffRestart (l : Fin 2) (c : Chip) : Chip :=
  when (linePresent c l && c.can.lines[l].busOff) (setLine l fun x => { x with recovering := true }) c

/-- ERROR_ACTIVE_RETURN (R293): from error passive, or at the end of the recovery sequence. -/
def errorActiveReturn (l : Fin 2) (c : Chip) : Chip :=
  let x := c.can.lines[l]
  if linePresent c l && (!x.busOff || x.recovering) then
    setLine l (fun x => { x with errPassive := false, busOff := false, recovering := false }) c
  else c

/-! ### NMT and heartbeats -/

/-- The NMT state changes (R295). -/
def nmtEnter (s : NmtState) (l : Fin 2) (c : Chip) : Chip := when (lineServed c l) (setCan fun x => { x with nmt := s }) c

/-- NMT_START (R295): the SYNC counter of every TPDO with a start value is awaited anew (R303). -/
def nmtStart (l : Fin 2) (c : Chip) : Chip :=
  nmtEnter .operational l (when (lineServed c l && c.can.nmt != .operational)
    (setCan fun x => { x with tpdos := x.tpdos.map fun t => { t with started := false, syncs := 0 } }) c)

/-- NMT_STOP (R295, R305): the EMCY messages that wait are discarded. -/
def nmtStop (l : Fin 2) (c : Chip) : Chip := when (lineServed c l) discardEmcy (nmtEnter .stopped l c)

/-- NMT_PREOPERATIONAL (R295). -/
def nmtPreoperational (l : Fin 2) (c : Chip) : Chip := nmtEnter .preOperational l c

/-- NMT_RESET_COMMUNICATION (R295). -/
def nmtResetCommunication (l : Fin 2) (c : Chip) : Chip := when (lineServed c l) startComm c

/-- NMT_RESET_NODE (R295): the effect of reset communication. -/
def nmtResetNode (l : Fin 2) (c : Chip) : Chip := when (lineServed c l) startComm c

/-- The node that an entry of `1016h` names, and its time. -/
def consumerEntry (c : Chip) (j : Fin 4) : Nat × Nat :=
  let v := nat c (kConsumerHeartbeatTime j)
  (field v 16 7, field v 0 16)

/-- HEARTBEAT_RECEIVE (R296): the entries that name the node, with a time, are alive again on the line. -/
def heartbeatReceive (l : Fin 2) (node : BitVec 7) (c : Chip) : Chip :=
  if !lineServed c l then c
  else
    setLine l (fun x => { x with hbTimedOut := Vector.ofFn fun j =>
      x.hbTimedOut[j] && !((consumerEntry c j).1 == node.toNat && (consumerEntry c j).2 != 0) }) c

/-- HEARTBEAT_CONSUMER_TIMEOUT (R296): sub-index 01h loses origin c + 1. -/
def heartbeatConsumerTimeout (l : Fin 2) (entry : Fin 4) (c : Chip) : Chip :=
  if !linePresent c l || (consumerEntry c entry).2 = 0 || c.can.lines[l].hbTimedOut[entry] then c
  else
    let c := raise (172 + l) 2 0 (setLine l (fun x => { x with hbTimedOut := x.hbTimedOut.set entry true }) c)
    when (entry.val == 0) (originLost (.can l)) c

/-- HEARTBEAT_PRODUCE (R294). -/
def heartbeatProduce (c : Chip) : Chip :=
  when (linePresent c 0 && nat c kProducerHeartbeatTime != 0) (canSendAll (.heartbeat c.can.nodeId c.can.nmt)) c

/-! ### USDO -/

/-- USDO_REQUEST (R297): an expedited one becomes a market request, and a segmented one opens the line's session; that of a
read waits for its copy. [PRESUMED, log 83] -/
def usdoRequest (l : Fin 2) (q : UsdoRequest) (c : Chip) : Chip :=
  if !lineServed c l || !talking c then c
  else if c.can.lines[l].usdo.isSome then usdoSend l (.usdoAbort q.k 0x08000000) c
  else if q.write && q.segmented then
    usdoSend l (.usdoInit q.k 0) (setLine l (fun x => { x with usdo := some { write := true, k := q.k, data := q.data } }) c)
  else if q.segmented then
    submit (.can l) q.k none (.usdo l true)
      (setLine l (fun x => { x with usdo := some { write := false, k := q.k, data := [], ready := false } }) c)
  else submit (.can l) q.k (if q.write then some q.data else none) (.usdo l false) c

/-- USDO_SEGMENT (R297): data of a write, or the next 60 bytes of a read. [PRESUMED, log 83] -/
def usdoSegment (l : Fin 2) (data : List Byte) (last : Bool) (c : Chip) : Chip :=
  if !lineServed c l || !talking c then c
  else match c.can.lines[l].usdo with
    | none => c
    | some s =>
      if s.write then
        let all := s.data ++ data
        if last then submit (.can l) s.k (some all) (.usdo l true) (setLine l (fun x => { x with usdo := none }) c)
        else usdoSend l (.usdoNext s.k) (setLine l (fun x => { x with usdo := some { s with data := all } }) c)
      else if !s.ready then c
      else
        let rest := s.data.drop 60
        usdoSend l (.usdoData s.k (s.data.take 60))
          (setLine l (fun x => { x with usdo := if rest.isEmpty then none else some { s with data := rest } }) c)

/-- USDO_SEGMENT_TIMEOUT (R297). -/
def usdoSegmentTimeout (l : Fin 2) (c : Chip) : Chip :=
  if !linePresent c l then c
  else match c.can.lines[l].usdo with
    | none => c
    | some s =>
      when s.ready (fun c => usdoSend l (.usdoAbort s.k 0x05040000) (setLine l (fun x => { x with usdo := none }) c)) c

/-! ### PDOs -/

/-- The objects of an RPDO's mapping, with their lengths in bytes. -/
def rpdoMap (c : Chip) (k : Fin 16) : List (Key × Nat) :=
  (List.range (nat c (kRpdoMapCount k))).map fun j =>
    let v := nat c (kRpdoMap k j)
    (v / 256, v % 256 / 8)

/-- The mapped objects of an RPDO become writes, in mapping order (R301). -/
def rpdoWrites (l : Fin 2) : List (Key × Nat) → List Byte → Chip → Chip
  | [], _, c => c
  | (k, n) :: rest, b, c => rpdoWrites l rest (b.drop n) (submit (.can l) k (some (b.take n)) (.rpdo l) c)

/-- An RPDO acts; a frame shorter than its mapping is discarded and counted (R301). -/
def rpdoApply (l : Fin 2) (k : Fin 16) (b : List Byte) (c : Chip) : Chip :=
  let m := rpdoMap c k
  if b.length < (m.map (·.2)).foldl (· + ·) 0 then setCan (fun x => { x with rpdoRejects := satSucc 65535 x.rpdoRejects }) c
  else rpdoWrites l m b c

/-- The other line. -/
def otherLine (l : Fin 2) : Fin 2 := if l.val = 0 then 1 else 0

/-- The frame repeats one that the other line brought, 1 ms ago at most (R292). [DEDUCED, log 85] -/
def rpdoDuplicate (c : Chip) (l : Fin 2) (k : Fin 16) (b : List Byte) : Bool :=
  c.can.rpdos[k].heard[otherLine l].any fun f => f.2 == b && decide (c.clock.us ≤ f.1 + 1000)

/-- The frames of a line with one more: those of the last 1 ms. -/
def noteFrame (now : Nat) (b : List Byte) (l : List (Nat × List Byte)) : List (Nat × List Byte) :=
  (now, b) :: l.filter fun f => decide (now ≤ f.1 + 1000)

/-- An RPDO's record changes. -/
def setRpdo (k : Fin 16) (f : Rpdo → Rpdo) (c : Chip) : Chip :=
  setCan (fun x => { x with rpdos := x.rpdos.set k (f x.rpdos[k]) }) c

/-- The RPDO is valid: bit 31 of its COB-ID is 0 (R299). -/
def rpdoValid (c : Chip) (k : Fin 16) : Bool := !hasBit (nat c (kRpdoCobId k)) 31

/-- RPDO_RECEIVE (R292, R300 to R302): a synchronous one waits for the next SYNC. -/
def rpdoReceive (l : Fin 2) (k : Fin 16) (b : List Byte) (c : Chip) : Chip :=
  if !lineServed c l || c.can.nmt != .operational || !rpdoValid c k then c
  else
    let twice := rpdoDuplicate c l k b
    let c := setRpdo k (fun x => { x with heard := x.heard.set l (noteFrame c.clock.us b x.heard[l]) }) c
    if twice then c
    else
      let c := setCan (fun x => { x with rpdoStale := x.rpdoStale &&& ~~~(1#16 <<< k.val) }) c
      if nat c (kRpdoType k) ≤ 0xF0 then setRpdo k (fun x => { x with waiting := some (l, b) }) c
      else rpdoApply l k b c

/-- The line of the last frame of an RPDO. [DEDUCED, log 85] -/
def rpdoLine (c : Chip) (k : Fin 16) : Fin 2 :=
  match c.can.rpdos[k].heard[0].head?, c.can.rpdos[k].heard[1].head? with
  | some a, some b => if a.1 < b.1 then 1 else 0
  | none, some _ => 1
  | _, none => 0

/-- The receive timeout of an RPDO has passed since its last frame (R302). -/
def rpdoOverdue (c : Chip) (k : Fin 16) : Bool :=
  match c.can.rpdos[k].heard[rpdoLine c k].head? with
  | some f => decide (f.1 + nat c (kRpdoTimer k) * 1000 ≤ c.clock.us)
  | none => true

/-- RPDO_TIMEOUT (R302). -/
def rpdoTimeout (k : Fin 16) (c : Chip) : Chip :=
  if !linePresent c 0 || c.can.nmt != .operational || !rpdoValid c k || nat c (kRpdoTimer k) = 0 ||
      c.can.rpdoStale.getLsbD k || !rpdoOverdue c k then c
  else raise (172 + rpdoLine c k) 3 0 (setCan (fun x => { x with rpdoStale := x.rpdoStale ||| (1#16 <<< k.val) }) c)

/-- A TPDO's record changes. -/
def setTpdo (k : Fin 16) (f : Tpdo → Tpdo) (c : Chip) : Chip :=
  setCan (fun x => { x with tpdos := x.tpdos.set k (f x.tpdos[k]) }) c

/-- The SYNC counts for a TPDO (R303): where `1019h` and the TPDO's start value are not 0, from the SYNC on whose counter is
the start value. [PRESUMED, log 82] -/
def syncCounts (c : Chip) (k : Fin 16) (counter : BitVec 8) : Bool :=
  nat c kSyncCounterOverflow == 0 || nat c (kTpdoSyncStart k) == 0 || c.can.tpdos[k].started ||
    counter.toNat == nat c (kTpdoSyncStart k)

/-- A SYNC counts for a synchronous TPDO, which every nth sends (R300). [DEDUCED, log 84] -/
def syncTpdo (counter : BitVec 8) (k : Fin 16) (c : Chip) : Chip :=
  let n := nat c (kTpdoType k)
  if !tpdoValid c k || n = 0 || 0xF0 < n || !syncCounts c k counter then c
  else if n ≤ c.can.tpdos[k].syncs + 1 then sendTpdo k (setTpdo k (fun x => { x with syncs := 0, started := true }) c)
  else setTpdo k (fun x => { x with syncs := x.syncs + 1, started := true }) c

/-- A synchronous RPDO that waits is applied at SYNC (R300). [DEDUCED, log 84] -/
def syncRpdo (k : Fin 16) (c : Chip) : Chip :=
  match c.can.rpdos[k].waiting with
  | some (l, b) => rpdoApply l k b (setRpdo k (fun x => { x with waiting := none }) c)
  | none => c

/-- SYNC_RECEIVE (R300, R303): TPDOs sample before the RPDOs write. [DEDUCED, log 84] -/
def syncReceive (l : Fin 2) (counter : BitVec 8) (c : Chip) : Chip :=
  if !lineServed c l || c.can.nmt != .operational then c
  else each (List.finRange 16) syncRpdo (each (List.finRange 16) (syncTpdo counter) c)

/-- The TPDO is event-driven (R300). -/
def eventDriven (c : Chip) (k : Fin 16) : Bool := tpdoValid c k && decide (0xFE ≤ nat c (kTpdoType k))

/-- The TPDO is the cap PDO (R68). -/
def isCapPdo (c : Chip) (k : Fin 16) : Bool := nat c kCapPdoNumber == k.val + 1

/-- The check of one TPDO (R300): the first sample is what later ones are compared with. [DEDUCED, log 84] -/
def checkTpdo (k : Fin 16) (c : Chip) : Chip :=
  if !eventDriven c k || isCapPdo c k then c
  else match c.can.tpdos[k].values, sampleAll c (tpdoMap c k) with
    | none, some v => setTpdo k (fun x => { x with values := some v }) c
    | some old, some v => when (old != v && !tpdoInhibited c k) (sendTpdo k) c
    | _, none => c

/-- TPDO_EVENT_CHECK (R300): every 1 ms. -/
def tpdoEventCheck (c : Chip) : Chip :=
  if linePresent c 0 && c.can.nmt == .operational then each (List.finRange 16) checkTpdo c else c

/-- TPDO_EVENT_TIMER (R300). -/
def tpdoEventTimer (k : Fin 16) (c : Chip) : Chip :=
  when (linePresent c 0 && eventDriven c k && nat c (kTpdoTimer k) != 0) (sendTpdo k) c

/-- TPDO_INHIBIT_END (R300): a delayed transmission leaves with the values then in force. -/
def tpdoInhibitEnd (k : Fin 16) (c : Chip) : Chip :=
  if linePresent c 0 && c.can.tpdos[k].delayed && !tpdoInhibited c k then sendTpdo k (setTpdo k (fun x => { x with delayed := false }) c) else c

/-! ### EMCY -/

/-- EMCY_SEND (R305): the oldest message leaves, once `1015h` has passed since the one before it. -/
def emcySend (l : Fin 2) (c : Chip) : Chip :=
  if !lineServed c l || !talking c || within c (nat c kInhibitTimeEmcy * 100) c.can.lines[l].emcySentAt then c
  else match c.can.lines[l].emcyQ with
    | e :: rest => canSend l (.emcy e) (setLine l (fun x => { x with emcyQ := rest, emcySentAt := some c.clock.us }) c)
    | [] => c

/-! ### The commands -/

/-- CAN_ERROR_PASSIVE (R293) answers the state with its effect. -/
def execCanErrorPassive (c : Fin 2) (s : State) : Host.Outcome State Fault Refusal :=
  answer s (canErrorPassive c s.chip)

/-- CAN_BUS_OFF (R293) answers the state with its effect. -/
def execCanBusOff (c : Fin 2) (s : State) : Host.Outcome State Fault Refusal := answer s (canBusOff c s.chip)

/-- CAN_BUSOFF_RESTART (R293) answers the state with its effect. -/
def execCanBusoffRestart (c : Fin 2) (s : State) : Host.Outcome State Fault Refusal :=
  answer s (canBusoffRestart c s.chip)

/-- NMT_START (R295) answers the state with its effect. -/
def execNmtStart (c : Fin 2) (s : State) : Host.Outcome State Fault Refusal := answer s (nmtStart c s.chip)

/-- NMT_STOP (R295) answers the state with its effect. -/
def execNmtStop (c : Fin 2) (s : State) : Host.Outcome State Fault Refusal := answer s (nmtStop c s.chip)

/-- NMT_PREOPERATIONAL (R295) answers the state with its effect. -/
def execNmtPreoperational (c : Fin 2) (s : State) : Host.Outcome State Fault Refusal :=
  answer s (nmtPreoperational c s.chip)

/-- NMT_RESET_COMMUNICATION (R295) answers the state with its effect. -/
def execNmtResetCommunication (c : Fin 2) (s : State) : Host.Outcome State Fault Refusal :=
  answer s (nmtResetCommunication c s.chip)

/-- NMT_RESET_NODE (R295) answers the state with its effect. -/
def execNmtResetNode (c : Fin 2) (s : State) : Host.Outcome State Fault Refusal := answer s (nmtResetNode c s.chip)

/-- HEARTBEAT_RECEIVE (R296) answers the state with its effect. -/
def execHeartbeatReceive (c : Fin 2) (node : BitVec 7) (s : State) : Host.Outcome State Fault Refusal :=
  answer s (heartbeatReceive c node s.chip)

/-- HEARTBEAT_CONSUMER_TIMEOUT (R296) answers the state with its effect. -/
def execHeartbeatConsumerTimeout (c : Fin 2) (entry : Fin 4) (s : State) : Host.Outcome State Fault Refusal :=
  answer s (heartbeatConsumerTimeout c entry s.chip)

/-- HEARTBEAT_PRODUCE (R294) answers the state with its effect. -/
def execHeartbeatProduce (s : State) : Host.Outcome State Fault Refusal := answer s (heartbeatProduce s.chip)

/-- USDO_REQUEST (R297) answers the state with its effect. -/
def execUsdoRequest (c : Fin 2) (q : UsdoRequest) (s : State) : Host.Outcome State Fault Refusal :=
  guarded (q.fits) s (usdoRequest c q s.chip)

/-- USDO_SEGMENT (R297) answers the state with its effect. -/
def execUsdoSegment (c : Fin 2) (data : List Byte) (last : Bool) (s : State) : Host.Outcome State Fault Refusal :=
  answer s (usdoSegment c data last s.chip)

/-- USDO_SEGMENT_TIMEOUT (R297) answers the state with its effect. -/
def execUsdoSegmentTimeout (c : Fin 2) (s : State) : Host.Outcome State Fault Refusal :=
  answer s (usdoSegmentTimeout c s.chip)

/-- SYNC_RECEIVE (R300) answers the state with its effect. -/
def execSyncReceive (c : Fin 2) (counter : BitVec 8) (s : State) : Host.Outcome State Fault Refusal :=
  answer s (syncReceive c counter s.chip)

/-- RPDO_RECEIVE (R301) answers the state with its effect. -/
def execRpdoReceive (c : Fin 2) (k : Fin 16) (data : List Byte) (s : State) : Host.Outcome State Fault Refusal :=
  guarded (decide (data.length ≤ 64)) s (rpdoReceive c k data s.chip)

/-- RPDO_TIMEOUT (R302) answers the state with its effect. -/
def execRpdoTimeout (k : Fin 16) (s : State) : Host.Outcome State Fault Refusal := answer s (rpdoTimeout k s.chip)

/-- TPDO_EVENT_CHECK (R300) answers the state with its effect. -/
def execTpdoEventCheck (s : State) : Host.Outcome State Fault Refusal := answer s (tpdoEventCheck s.chip)

/-- TPDO_EVENT_TIMER (R300) answers the state with its effect. -/
def execTpdoEventTimer (k : Fin 16) (s : State) : Host.Outcome State Fault Refusal := answer s (tpdoEventTimer k s.chip)

/-- TPDO_INHIBIT_END (R300) answers the state with its effect. -/
def execTpdoInhibitEnd (k : Fin 16) (s : State) : Host.Outcome State Fault Refusal := answer s (tpdoInhibitEnd k s.chip)

/-- EMCY_SEND (R305) answers the state with its effect. -/
def execEmcySend (c : Fin 2) (s : State) : Host.Outcome State Fault Refusal := answer s (emcySend c s.chip)

/-- ERROR_ACTIVE_RETURN (R293) answers the state with its effect. -/
def execErrorActiveReturn (c : Fin 2) (s : State) : Host.Outcome State Fault Refusal :=
  answer s (errorActiveReturn c s.chip)

end Sys2Proof.Machine
end

