-- ==== Sys2Proof/Machine/Charge.lean ====
section
/-! DEFINITION. The law of CHARGE (R132 to R137). -/

namespace Sys2Proof.Machine

/-- The least of some numbers. -/
def leastOf (first : Rat) (l : List Rat) : Rat := l.foldl ratMin first

/-- The sum of a quantity over some strings. -/
def sumOver (l : List (Fin 4)) (f : Fin 4 → Rat) : Rat := (l.map f).foldl (· + ·) 0

/-- icc in A (R133): with WDFALLBACK, at most a twentieth of the rated capacity. [DEDUCED, log 40] -/
def chargeCurrent (c : Chip) (s : Fin 4) : Rat :=
  let i := (num c (kStrChargeCurrent s) : Rat) / 1000
  if c.strs[s].wdFallback then ratMin i ((nat c (kStrRatedCapacity s) : Rat) / 20000) else i

/-- idis in A (R133). -/
def dischargeCurrent (c : Chip) (s : Fin 4) : Rat := (num c (kStrDischargeLimit s) : Rat) / 1000

/-- The string temperature in °C; with NTCFAIL, the string is treated as above `StrChargeTempMax` (R120). -/
def strTemp (c : Chip) (s : Fin 4) : Rat :=
  if c.strs[s].ntcFail then (num c (kStrChargeTempMax s) : Rat) / 16 else val c (72 + s)

/-- vl in V (R132, R133): the set voltage with its temperature compensation. -/
def chargeVolts (u : Unit4) (c : Chip) (s : Fin 4) : Rat :=
  let x := c.strs[s]
  let perCell := match x.phase with
    | .cc | .absorb => num c (kStrAbsorbVoltage s)
    | .none | .float => num c (kStrFloatVoltage s)
  let vset := hundredMicro perCell * nat c (kStrCells s)
  let tc := clampRat ((num c (kStrChargeTempMin s) : Rat) / 16) ((num c (kStrChargeTempMax s) : Rat) / 16) (strTemp c s)
  let ktc := if flag c (kStrTempCompEnable s) || x.wdFallback then coef c u (8 + s) else 0
  vset + ktc * (tc - 25)

/-- itemp in A (R133). -/
def tempLimit (c : Chip) (s : Fin 4) (icc : Rat) : Rat :=
  let t := strTemp c s
  let lo := (num c (kStrChargeTempMin s) : Rat) / 16
  let hi := (num c (kStrChargeTempMax s) : Rat) / 16
  if c.strs[s].ntcFail || t < lo || hi ≤ t then 0
  else if hi - 5 < t then icc * (hi - t) / 5
  else icc

/-- The strings that can draw charge (R133): available, their rail's mode CHARGE or AUTO. -/
def drawing (c : Chip) : List (Fin 4) :=
  (List.finRange 4).filter fun s => available c s && (strMode c s == .charge || strMode c s == .auto)

/-- icap in A (R133): the share of the stage 1 power limit. At a string voltage of 0 the spec states no quotient: a free
value. [DESIGN CHOICE, log 8, 28] -/
def capLimit (c : Chip) (s : Fin 4) (icc : Rat) : Rat :=
  match c.cap.chargeLimit with
  | none => icc
  | some p =>
    let sum := sumOver (drawing c) (chargeCurrent c)
    let v := val c (64 + s)
    if !(drawing c).contains s || sum = 0 then icc
    else if v = 0 then ofQ 16 (freeWord c)
    else (p : Rat) / 1000 * icc / sum / v

/-- irail in A (R116, R133). -/
def railLimit (c : Chip) (s : Fin 4) (icc : Rat) : Rat :=
  match strRail c s with
  | some r => (c.rails[r].capLevel : Rat) * icc / 10000
  | none => icc

/-- iramp in A (R133): icc rises over `HandbackRamp` in HANDBACK. -/
def rampLimit (c : Chip) (icc : Rat) : Rat :=
  if c.bus.state == .handback then
    icc * ratMin 1 (((c.clock.us - c.bus.since : Nat) : Rat) / (nat c kHandbackRamp * 1000 : Nat))
  else icc

/-- xb, the bus integrator of a run (R132, R133), in A. -/
def busIntegral (u : Unit4) (c : Chip) (eb : Rat) : Rat :=
  let modes := (fittedStrs c).map (strMode c)
  let avail := (List.finRange 4).filter (available c)
  if modes.contains .discharge || modes.contains .auto then
    let lo := if modes.contains .auto then -c.batt.ichTot else 0
    clampRat lo (sumOver avail (dischargeCurrent c)) (ofQ 16 c.batt.xb + coef c u 1 * eb)
  else 0

/-- SHARE of a string in a run (R133): its stored word over those of the available strings. -/
def shareOf (u : Unit4) (c : Chip) (s : Fin 4) : Rat :=
  let avail := (List.finRange 4).filter (available c)
  let sum := sumOver avail fun t => coef c u (12 + t)
  if !available c s || sum = 0 then 0 else coef c u (12 + s) / sum

/-- The command of one string (R132, R133, R135), its integrator and its charge current; published for BALANCE. -/
def chargeString (u : Unit4) (ub : Rat) (s : Fin 4) (c : Chip) : Chip :=
  let k := coef c u
  let icc := chargeCurrent c s
  let v := val c (64 + s)
  let vl := chargeVolts u c s
  let vbus := ofQ 22 c.bus.voltage
  let vzero := hundredMicro (num c kBusTarget) * pct (num c kChargeRegLevel - num c kChargeRegBand)
  let xv := if c.strs[s].phase == .none then (0 : Word)
    else toQ 16 (clampRat 0 icc (ofQ 16 c.strs[s].xv + k 3 * (vl - v)))
  let iv := k 2 * (vl - v) + ofQ 16 xv
  let ib := icc * clampRat 0 1 ((vbus - vzero) * k 4)
  let isOver := c.strs[s].overV &&
    decide (hundredMicro (num c (kStrCellVmax s)) * nat c (kStrCells s) < v)
  let ich := if isOver then 0
    else toQ 16 (ratMax 0 (leastOf icc [iv, ib, tempLimit c s icc, capLimit c s icc, railLimit c s icc, rampLimit c icc]))
  let want := -(shareOf u c s) * ub
  let cmd := match strMode c s with
    | .charge => ich
    | .discharge => toQ 16 (clampRat (-(dischargeCurrent c s)) 0 want)
    | .auto => toQ 16 (clampRat (-(dischargeCurrent c s)) (ofQ 16 ich) want)
    | .holdZero | .buck => 0
  let c := setStr s (fun x => { x with xv := xv, ich := ich, cmd := cmd, overV := isOver }) c
  match strRail c s with
  | some r => publish (176 + r) cmd c
  | none => c

/-- In STANDBY, CHARGE tracks (R415): each command is the owner's, and xv is the value that gives it.
[DEDUCED, log 36] -/
def chargeTrack (u : Unit4) (t : TrackFrame) (s : Fin 4) (c : Chip) : Chip :=
  let cmd := t.commands[s]
  let xv := toQ 16 (clampRat 0 (chargeCurrent c s) (ofQ 16 cmd - coef c u 2 * (chargeVolts u c s - val c (64 + s))))
  let c := setStr s (fun x => { x with xv := xv, cmd := cmd }) c
  match strRail c s with
  | some r => publish (176 + r) cmd c
  | none => c

/-- One run of CHARGE (R132, R415). -/
def chargeUnit (u : Unit4) (c : Chip) : Chip :=
  match c.twin.state, c.twin.track with
  | .standby, some t => each (fittedStrs c) (chargeTrack u t) c
  | _, _ =>
    let eb := hundredMicro (num c kBusTarget) * pct (num c kHoldupLevel) + c.bus.plantTrim - ofQ 22 c.bus.voltage
    let xb := toQ 16 (busIntegral u c eb)
    let ub := coef c u 0 * eb + ofQ 16 xb
    let c := each (fittedStrs c) (chargeString u ub) (setBatt (fun b => { b with xb := xb }) c)
    let avail := (List.finRange 4).filter (available c)
    takeFree (setBatt (fun b => { b with ichTot := sumOver avail fun s => ofQ 16 c.strs[s].ich }) c)

end Sys2Proof.Machine
end

