-- ==== Sys2Proof/Machine/Capping.lean ====
section
/-! DEFINITION. Budget, demand and the stages of capping (R63 to R69), and the hand-over trigger that applies the
prepared plan (R59, R60, R67). -/

namespace Sys2Proof.Machine

/-! ### Budget and demand, in mW -/

/-- The summed rated power of the fitted, enabled rectifiers without ALARM (R63). -/
def ratedPower (c : Chip) : Int :=
  (((fittedRms c).filter fun n => c.rms[n].en && !c.rms[n].alarm).map fun (n : Fin 8) => num c (kRmRatedPower n)).foldl (· + ·) 0

/-- The source budget (R63). -/
def sourceBudget (c : Chip) : Int :=
  let cap := num c kCapSourceCapacity
  if cap = 0 then ratedPower c else min cap (ratedPower c)

/-- The on-battery budget (R63). -/
def batteryBudget (c : Chip) : Int :=
  let one (s : Fin 4) : Rat := dischargeCurrent c s * vPred c s (dischargeCurrent c s) * pct (num c kWellConvEff)
  let strings := (((List.finRange 4).filter (available c)).map one).foldl (· + ·) 0 * 1000
  let target := nat c kRideThroughTarget
  roundRat (if target = 0 then strings else ratMin strings ((c.well.published : Rat) * 1000 / target))

/-- The budget B (R63). -/
def budgetNow (c : Chip) : Int :=
  match c.bus.state with
  | .onSource | .handback => sourceBudget c
  | .handover | .onBattery | .qualifying => batteryBudget c

/-- The demand D (R64), from channel 158. -/
def demandNow (c : Chip) : Int := roundRat (val c 158 * 1000)

/-- The power drawn by string charging (R64). [DEDUCED, log 40] -/
def chargePower (c : Chip) : Int :=
  roundRat ((((List.finRange 4).filter (available c)).map fun s =>
    ratMax 0 (val c (64 + s.val) * val c (68 + s.val))).foldl (· + ·) 0 * 1000)

/-- The target T (R64) of a budget. -/
def capTarget (c : Chip) (b : Int) : Rat := (b : Rat) * (1 - pct (num c kCapMargin))

/-- P₂ (R65): the bus-side power of the rails whose VC port is enabled for capping; the model takes a converter's
bus-side power as the power that its rail delivers. -/
def vcPower (c : Chip) : Rat :=
  (((List.finRange 4).filter fun (n : Fin 4) => flag c (kCapVcEnable n)).map fun (n : Fin 4) =>
    match railOfVc c n with
    | some r => val c (32 + r.val) * val c (140 + r.val) * 1000
    | none => 0).foldl (· + ·) 0

/-- P₃ (R65). -/
def doorPower (c : Chip) (d charge : Rat) : Rat := ratMax 0 (d - charge - vcPower c - (num c kCapDoorFloor : Rat))

/-! ### Stages -/

/-- A level lowered by an excess over a power (R65), no lower than a floor, rounded down to 0.01 %. -/
def cutLevel (level floor : Nat) (x p : Rat) : Nat := max floor ((level : Rat) * (1 - x / p)).floor.toNat

/-- The excess that is left after a level has fallen (R65). [DEDUCED, log 26] -/
def leftOver (x p : Rat) (old new : Nat) : Rat :=
  if old = 0 then x else ratMax 0 (x - p * (1 - (new : Rat) / old))

/-- The floor of stage 1 (R65). -/
def chargeFloor (c : Chip) : Rat :=
  if c.well.rideDesign < nat c kRideThroughTarget then (num c kCapChargeReserve : Rat) else 0

/-- The port that stage 4 sheds next (R65): the lowest priority that is not 0; of equal ones, the lowest port.
[DEDUCED, log 26] -/
def nextShed (c : Chip) (taken : List (Fin 8)) : Option (Fin 8) :=
  let l := (List.finRange 8).filter fun (n : Fin 8) => nat c (kCapShedPriority n) != 0 && ppSheddable c n && !taken.contains n
  l.foldl (fun (best : Option (Fin 8)) (n : Fin 8) => match best with
    | some b => if nat c (kCapShedPriority n) < nat c (kCapShedPriority b) then some n else some b
    | none => some n) none

/-- The ports that a plan sheds for an excess (R65, R67), each taken with its mean power; `n` bounds the steps.
[DEDUCED, log 26] -/
def planSheds (c : Chip) : Nat → Rat → List (Fin 8) → List (Fin 8)
  | 0, _, taken => taken
  | n + 1, x, taken =>
    if x ≤ 0 then taken
    else match nextShed c taken with
      | none => taken
      | some p => planSheds c n (x - meanPower c p) (taken ++ [p])

/-- The stages that R65 gives for an excess, a demand and a charging power; `all` takes every shed that is needed, and
one at most otherwise. [DEDUCED, log 26] -/
def stages (c : Chip) (x0 d charge : Rat) (all : Bool) : Plan :=
  let cap := c.cap
  let base : Rat := match cap.chargeLimit with
    | some l => ratMin l charge
    | none => charge
  let low := chargeFloor c
  let act1 := decide (0 < x0) && decide (0 < charge) && decide (low < base)
  let limit := ratMax low (base - x0)
  let x1 := if act1 then x0 - (base - limit) else x0
  let p2 := vcPower c
  let vmin := nat c kCapVcMinLevel
  let act2 := decide (0 < x1) && decide (0 < p2) && decide (vmin < cap.vcLevel)
  let vc := if act2 then cutLevel cap.vcLevel vmin x1 p2 else cap.vcLevel
  let x2 := if act2 then leftOver x1 p2 cap.vcLevel vc else x1
  let p3 := doorPower c d charge
  let dmin := nat c kCapDoorMinLevel
  let act3 := decide (0 < x2) && nat c kCapPdoNumber != 0 && decide (0 < p3) && decide (dmin < cap.doorLevel)
  let door := if act3 then cutLevel cap.doorLevel dmin x2 p3 else cap.doorLevel
  let x3 := if act3 then leftOver x2 p3 cap.doorLevel door else x2
  { chargeLimit := if act1 then some (roundRat limit) else cap.chargeLimit
    vcLevel := vc, doorLevel := door, sheds := planSheds c (if all then 8 else 1) x3 [] }

/-- `CapStage`: the highest stage engaged (Table 2.10). -/
def restage (c : Chip) : Chip :=
  setCap (fun x => { x with stage :=
    if !x.shed.isEmpty then 4
    else if x.doorLevel < 10000 then 3
    else if x.vcLevel < 10000 then 2
    else if x.chargeLimit.isSome then 1
    else 0 }) c

/-- `CapVcLevel` changes: every enabled VC port is told (R65, R108). -/
def setVcLevel (l : Nat) (c : Chip) : Chip :=
  each (List.finRange 4) vcLevel (setCap (fun x => { x with vcLevel := l }) c)

/-- `CapDoorLevel` changes: `CapSequence` counts and the cap PDO leaves (R68). [DEDUCED, log 25] -/
def setDoorLevel (l : Nat) (c : Chip) : Chip :=
  if l = c.cap.doorLevel then c
  else capPdo (setCap (fun x => { x with doorLevel := l, sequence := x.sequence + 1 }) c)

/-- A port is shed (R65): X is re-evaluated 1 ms later. -/
def capShed (n : Fin 8) (c : Chip) : Chip :=
  ppShed n (setCap (fun x => { x with shed := x.shed ++ [n], awaitReeval := true }) c)

/-- The stages of a plan are engaged. [DEDUCED, log 24] -/
def engage (p : Plan) (c : Chip) : Chip :=
  let c := setCap (fun x => { x with chargeLimit := p.chargeLimit }) c
  restage (each (p.sheds.filter (ppSheddable c)) capShed (setDoorLevel p.doorLevel (setVcLevel p.vcLevel c)))

/-- Every stage is released at once. [DEDUCED, log 25] -/
def releaseAll (c : Chip) : Chip :=
  let c := each c.cap.shed.reverse ppRestore c
  let c := setCap (fun x => { x with chargeLimit := none, shed := [], awaitReeval := false }) c
  restage (setDoorLevel 10000 (setVcLevel 10000 c))

/-! ### The evaluation -/

/-- The bus has not begun to fall: it stands at 99 % of `BusTarget` or above, where the identification of R56 begins. -/
def busUp (c : Chip) : Bool := decide (hundredMicro (num c kBusTarget) * 99 / 100 ≤ ofQ 22 c.bus.voltage)

/-- B and D are computed (R63, R64), and the on-battery plan is prepared (R67). The demand is kept as the one measured
before the source is lost while the bus has not begun to fall (R56). [DEDUCED, log 23] -/
def refreshCap (c : Chip) : Chip :=
  let charge : Rat := chargePower c
  let d : Rat := demandNow c
  let plan := stages c (d - charge - capTarget c (batteryBudget c)) (d - charge) 0 true
  setCap (fun x => { x with
    budget := budgetNow c, demand := demandNow c
    demandBefore := if busUp c then demandNow c else x.demandBefore
    plan := plan, shed := x.shed.filter fun n => c.pps[n].state == .shed }) c

/-- The excess X (R64), of the budget and the demand last computed. -/
def capExcess (c : Chip) : Rat := (c.cap.demand : Rat) - capTarget c c.cap.budget

/-- The stages act on the excess last computed (R65, R66): the charge limit is released last. [DEDUCED, log 24] -/
def actOnExcess (c : Chip) : Chip :=
  let x := capExcess c
  if !flag c kCapEnable then releaseAll c
  else if 0 < x then
    let p := stages c x c.cap.demand (chargePower c) false
    engage (if c.cap.awaitReeval then { p with sheds := [] } else p) c
  else if c.cap.shed.isEmpty && c.cap.doorLevel == 10000 && c.cap.vcLevel == 10000 then
    restage (setCap (fun k => { k with chargeLimit := none }) c)
  else restage c

/-- CAP_EVALUATION (R63 to R67). [DEDUCED, log 24] -/
def capEvaluation (c : Chip) : Chip := if drives c then actOnExcess (refreshCap c) else c

/-- SHED_REEVALUATE (R65): 1 ms after a shed. -/
def shedReevaluate (c : Chip) : Chip :=
  if drives c && c.cap.awaitReeval then
    actOnExcess (setCap (fun x => { x with awaitReeval := false }) (refreshCap c))
  else c

/-- CAP_RESTORE (R66): the last port shed returns if T − D exceeds its power. [DEDUCED, log 26] -/
def capRestore (c : Chip) : Chip :=
  let c' := refreshCap c
  match c'.cap.shed.getLast? with
  | none => c
  | some n =>
    if drives c && capExcess c' ≤ 0 && decide ((c.pps[n].shedPower : Rat) < -capExcess c') then
      restage (ppRestore n (setCap (fun x => { x with shed := x.shed.dropLast }) c'))
    else c

/-- CAP_LEVEL_RISE (R66): `CapDoorLevel`, and after it `CapVcLevel`, by no more than 1.00 %. [DEDUCED, log 26] -/
def capLevelRise (c : Chip) : Chip :=
  if !drives c || 0 < capExcess c || !c.cap.shed.isEmpty then c
  else if c.cap.doorLevel < 10000 then restage (setDoorLevel (min 10000 (c.cap.doorLevel + 100)) c)
  else if c.cap.vcLevel < 10000 then restage (setVcLevel (min 10000 (c.cap.vcLevel + 100)) c)
  else c

/-- CAP_PDO_REPEAT (R68). -/
def capPdoRepeat (c : Chip) : Chip := if drives c && c.cap.doorLevel < 10000 then capPdo c else c

/-- CAP_STAGE_EVENT_REPEAT (R69). -/
def capStageEventRepeat (c : Chip) : Chip := if drives c && 3 ≤ c.cap.stage then raise 61 1 c.cap.stage c else c

/-! ### The hand-over trigger -/

/-- xb is preloaded with `CapDemand` / `BusVoltage` (R136); a quotient by 0 V is a free value.
[DESIGN CHOICE, log 8; DEDUCED, log 23] -/
def preload (c : Chip) : Chip :=
  if ofQ 22 c.bus.voltage = 0 then takeFree (setBatt (fun b => { b with xb := freeWord c }) c)
  else setBatt (fun b => { b with xb := toQ 16 ((c.cap.demand : Rat) / 1000 / ofQ 22 c.bus.voltage) }) c

/-- A condition of R59 holds: the lowest valid tap lies below `HandoverLevel`, or ALARM is active on every fitted, enabled
rectifier, of which there is one at least. -/
def triggerHolds (c : Chip) : Bool :=
  let enabled := (fittedRms c).filter fun n => c.rms[n].en
  (match lowestTap c with
    | some k => decide (val c (56 + k) < hundredMicro (num c kBusTarget) * pct (num c kHandoverLevel))
    | none => false) ||
  (!enabled.isEmpty && enabled.all fun n => c.rms[n].alarm)

/-- HANDOVER_TRIGGER (R59 to R62, R67, R136, R150): in ON-SOURCE and HANDBACK only. The samples are those of the taps by
which it is detected (R41). [DEDUCED, log 23] -/
def handoverTrigger (fallTime : Nat) (samples : List Sample) (c : Chip) : Chip :=
  let c := takeSamples samples c
  if !drives c || !(c.bus.state == .onSource || c.bus.state == .handback) || !triggerHolds c then c
  else
    let c := setBus (fun b => { b with
      state := .handover, since := c.clock.us, fallTime := fallTime
      triggerDemand := c.cap.demandBefore, triggerBudget := c.cap.budget }) c
    let c := preload c
    let c := trimsNeutral (fallowAbort c)
    let c := when (flag c kCapEnable) (engage c.cap.plan) c
    let c := raise 59 1 0 c
    if (List.finRange 4).any (available c) then c else handoverComplete false c

/-! ### The commands -/

/-- HANDOVER_TRIGGER (R60) answers the state with its effect. -/
def execHandoverTrigger (fallTime : Nat) (samples : List Sample) (s : State) : Host.Outcome State Fault Refusal :=
  guarded (decide (fallTime < 2 ^ 32) && samples.all Sample.fits) s
    (handoverTrigger fallTime samples s.chip)

/-- CAP_EVALUATION (R65) answers the state with its effect. -/
def execCapEvaluation (s : State) : Host.Outcome State Fault Refusal := answer s (capEvaluation s.chip)

/-- SHED_REEVALUATE (R65) answers the state with its effect. -/
def execShedReevaluate (s : State) : Host.Outcome State Fault Refusal := answer s (shedReevaluate s.chip)

/-- CAP_RESTORE (R66) answers the state with its effect. -/
def execCapRestore (s : State) : Host.Outcome State Fault Refusal := answer s (capRestore s.chip)

/-- CAP_LEVEL_RISE (R66) answers the state with its effect. -/
def execCapLevelRise (s : State) : Host.Outcome State Fault Refusal := answer s (capLevelRise s.chip)

/-- CAP_PDO_REPEAT (R68) answers the state with its effect. -/
def execCapPdoRepeat (s : State) : Host.Outcome State Fault Refusal := answer s (capPdoRepeat s.chip)

/-- CAP_STAGE_EVENT_REPEAT (R69) answers the state with its effect. -/
def execCapStageEventRepeat (s : State) : Host.Outcome State Fault Refusal := answer s (capStageEventRepeat s.chip)

end Sys2Proof.Machine
end

