-- ==== Sys2Proof/Machine/HamletUnit.lean ====
section
/-! DEFINITION. Clocks, signals, wakes and the Reeve watchdog of the hamlets (R12, R19 to R24). -/

namespace Sys2Proof.Machine

/-- REFERENCE_LOST (R12, R343, R345): no reference edge for 20 µs. -/
def referenceLost (c : Chip) : Chip :=
  if !resettable c || c.clock.refLost then c
  else
    let c := { c with clock := { c.clock with refLost := true, almFallback := true } }
    chooseMaster (clearTvalid (raise 193 1 0 c))

/-- REFERENCE_RETURN (R12): the reference has stayed present for 10 ms. -/
def referenceReturn (c : Chip) : Chip :=
  if !resettable c || !c.clock.refLost then c
  else chooseMaster { c with clock := { c.clock with refLost := false, almFallback := false } }

/-- The first signal that waits at a stile, and the packets without it. [DEDUCED, log 14] -/
def firstSignal : List Packet → Option (Signal × List Packet)
  | [] => none
  | .signal g :: rest => some (g, rest)
  | .request id :: rest => (firstSignal rest).map fun p => (p.1, .request id :: p.2)

/-- A control signal takes effect in its hamlet (R19). [DEDUCED, log 14] -/
def takeSignal (h : Fin 27) (g : Signal) (c : Chip) : Chip :=
  match g with
  | .interrupt i => setReeve (fun r => { r with interrupts := r.interrupts ++ [i] }) c
  | .trap i => setReeve (fun r => { r with traps := r.traps ++ [i] }) c
  | .kill r => railKillLine r c
  | .start => when (h.val == 4) seqOn c
  | .stop => when (h.val == 4) seqOff c

/-- CONTROL_SIGNAL_DELIVERY (R19): the oldest signal that waits at the hamlet's stile; it waits for a hamlet that is
stopped, closed or in block reset (R17, R19). -/
def controlSignalDelivery (h : Fin 27) (c : Chip) : Chip :=
  if hamletShut c.hamlets[h] then c
  else match firstSignal c.hamlets[h].inbox with
    | some (g, rest) =>
      let c := setHamlet h (fun x => { x with inbox := rest }) c
      takeSignal h g (greenServe (greenLoad c) c)
    | none => c

/-- WAKE_ON_ACCESS (R21): the clock of a stopped hamlet starts, and the accesses that waited complete.
[DEDUCED, log 15] -/
def wakeOnAccess (h : Fin 27) (c : Chip) : Chip :=
  if !live c || h.val < 2 then c else wake h c

/-- The requests that wait at a hamlet's stile. -/
def waitingAt (h : Fin 27) (c : Chip) : List Req := c.market.reqs.filter fun q => c.hamlets[h].inbox.contains (.request q.id)

/-- WAKE_TIMEOUT (R21): the accesses that waited are answered with an error, which the market reports as a timeout; never
those of WATCH or ALMANAC (R23). -/
def wakeTimeout (h : Fin 27) (c : Chip) : Chip :=
  if !live c || h.val < 2 || !c.hamlets[h].waking then c
  else
    let c := raise (192 + h) 3 0 (setHamlet h (fun x => { x with waking := false }) c)
    each (waitingAt h c) (fun q => complete q .timeout []) c

/-- PARKED_HAMLET_IDLE_STOP (R22). [DEDUCED, log 15] -/
def parkedHamletIdleStop (h : Fin 27) (c : Chip) : Chip :=
  when (c.hamlets[h].parked && c.hamlets[h].run) (setHamlet h fun x => { x with run := false }) c

/-- REEVE_WATCHDOG_EXPIRY (R24, R408, R409): the watchdog runs while the Reeve does; it is stopped in the safe state. -/
def reeveWatchdogExpiry (c : Chip) : Chip :=
  if !reeveRuns c || c.watch.safe then c
  else
    let c := giveUpNow 5 c
    chipReset .reeveWatchdog (c.twin.state == .releasing && c.twin.holding) c

/-! ### The commands -/

/-- REFERENCE_LOST (R12) answers the state with its effect. -/
def execReferenceLost (s : State) : Host.Outcome State Fault Refusal := answer s (referenceLost s.chip)

/-- REFERENCE_RETURN (R12) answers the state with its effect. -/
def execReferenceReturn (s : State) : Host.Outcome State Fault Refusal := answer s (referenceReturn s.chip)

/-- CONTROL_SIGNAL_DELIVERY (R19) answers the state with its effect. -/
def execControlSignalDelivery (h : Fin 27) (s : State) : Host.Outcome State Fault Refusal :=
  answer s (controlSignalDelivery h s.chip)

/-- WAKE_ON_ACCESS (R21) answers the state with its effect. -/
def execWakeOnAccess (h : Fin 27) (s : State) : Host.Outcome State Fault Refusal := answer s (wakeOnAccess h s.chip)

/-- WAKE_TIMEOUT (R21) answers the state with its effect. -/
def execWakeTimeout (h : Fin 27) (s : State) : Host.Outcome State Fault Refusal := answer s (wakeTimeout h s.chip)

/-- PARKED_HAMLET_IDLE_STOP (R22) answers the state with its effect. -/
def execParkedHamletIdleStop (h : Fin 27) (s : State) : Host.Outcome State Fault Refusal :=
  answer s (parkedHamletIdleStop h s.chip)

/-- REEVE_WATCHDOG_EXPIRY (R24) answers the state with its effect. -/
def execReeveWatchdogExpiry (s : State) : Host.Outcome State Fault Refusal := answer s (reeveWatchdogExpiry s.chip)

end Sys2Proof.Machine
end

