-- ==== Sys2Proof/Machine/Pins.lean ====
section
/-! DEFINITION. The digital signal balls (R451, R453) and the level at each: below the power-on threshold, during reset and
boot (R429), without a selection (R414), in operation, and under the test port (R455). -/

namespace Sys2Proof.Machine

/-- The 190 digital signal balls (Tables 15.1, 15.3). -/
inductive Pin where
  | pwmh (p : Fin 32) | pwml (p : Fin 32) | drven (p : Fin 32)
  | gate (n : Fin 8) | foff (n : Fin 8)
  | rmAlm (n : Fin 8) | rmEn (n : Fin 8) | rmTrim (n : Fin 8)
  | bsSw (s : Fin 4) | bsSwfb (s : Fin 4)
  | vclk (v : Fin 4) | vdat (v : Fin 4) | valt (v : Fin 4)
  | ownOut | ownIn | syncIn | syncOut
  | pg (n : Fin 8) | rst | fault | shrst | recov
  | twinSel | addrSel (n : Fin 3) | twScl | twSda
  | norCs | norSck | norIo (n : Fin 4)
  | svcTxd | svcRxd | canTxd (c : Fin 2) | canRxd (c : Fin 2)
deriving DecidableEq, Repr

/-- What Ulvia puts on a pin: a level; nothing (undriven, released, or an input); a sigma-delta stream of a code (R33,
R166); the pulses of a duty (R71); or the frames of a port, which the state holds as messages. -/
inductive Level where
  | low | high | undriven
  | stream (code : Nat)
  | pulses (duty : Word)
  | frames
deriving DecidableEq, Repr

/-- The digital signal balls from A1 to AG26, row by row (R455, Table 15.1). -/
def digitalBalls : List Pin :=
  let lo (f : Fin 32 → Pin) : List Pin := (List.finRange 16).map fun p => f (Fin.ofNat 32 p.val)
  let hi (f : Fin 32 → Pin) : List Pin := (List.finRange 16).map fun p => f (Fin.ofNat 32 (16 + p.val))
  lo .pwmh ++ (List.finRange 8).map .gate ++ lo .pwml ++ (List.finRange 8).map .foff ++
    lo .drven ++ (List.finRange 4).flatMap (fun v => [.vclk v, .vdat v]) ++
    (List.finRange 8).map .rmAlm ++ (List.finRange 4).map .bsSw ++ (List.finRange 4).map .bsSwfb ++
    [.ownOut, .ownIn, .syncIn, .syncOut] ++ (List.finRange 8).map .pg ++ [.rst, .fault, .shrst, .recov] ++
    .twinSel :: (List.finRange 3).map .addrSel ++ [.twScl, .twSda] ++ [.norCs, .norSck] ++ (List.finRange 4).map .norIo ++
    [.svcTxd, .svcRxd] ++ hi .drven ++ (List.finRange 4).map .valt ++
    (List.finRange 2).flatMap (fun c => [.canTxd c, .canRxd c]) ++ hi .pwml ++ (List.finRange 8).map .rmEn ++
    hi .pwmh ++ (List.finRange 8).map .rmTrim

/-- The level below the power-on threshold (Table 15.3). -/
def unpoweredLevel : Pin → Level
  | .pwmh _ | .pwml _ | .drven _ | .gate _ | .bsSw _ | .norSck | .syncOut | .ownOut => .low
  | .foff _ | .canTxd _ | .svcTxd | .norCs => .high
  | .rmEn _ | .rmTrim _ | .valt _ | .twScl | .twSda | .pg _ | .fault => .undriven
  | .rmAlm _ | .bsSwfb _ | .vclk _ | .vdat _ | .ownIn | .syncIn | .rst | .shrst | .recov | .twinSel | .addrSel _ | .norIo _
  | .svcRxd | .canRxd _ => .undriven

/-- A level of a Boolean. -/
def levelOf (b : Bool) : Level := if b then .high else .low

/-- The level in operation. A frame of NOR, two-wire, CAN, service or VC is one of `frames`. [DEDUCED, log 146] -/
def runningLevel (c : Chip) : Pin → Level
  | .pwmh p | .pwml p => if c.phases[p].drven then .pulses c.phases[p].duty else .low
  | .drven p => levelOf c.phases[p].drven
  | .gate n => .stream c.pps[n].gate.toNat
  | .foff n => levelOf c.pps[n].foff
  | .rmEn n => levelOf c.rms[n].en
  | .rmTrim n =>
    if !flag c (kRmFitted n) then .low
    else if c.rms[n].trimDriven then .stream c.rms[n].trim.toNat else .undriven
  | .bsSw s => levelOf c.strs[s].sw
  | .ownOut => levelOf c.twin.ownOut
  | .pg n => if c.seq.pgOut[n] then .undriven else .low
  | .fault => if faultPin c then .low else .undriven
  | .valt v => if c.vcs[v].levelPending || !c.vcs[v].queue.isEmpty then .low else .undriven
  | .syncOut => match syncOut c with
    | .low => .low
    | .pulses _ _ _ | .buffer => .frames
  | .vdat _ | .twScl | .twSda | .norCs | .norSck | .norIo _ | .svcTxd | .canTxd _ => .frames
  | .rmAlm _ | .bsSwfb _ | .vclk _ | .ownIn | .syncIn | .rst | .shrst | .recov | .twinSel | .addrSel _ | .svcRxd
  | .canRxd _ => .undriven

/-- The level during reset and boot, and in ROM recovery mode (Table 14.2, R437); the hold of R409 overrides the phase, gate
and trim rows. [DEDUCED, log 147] -/
def bootLevel (c : Chip) : Pin → Level
  | .pwmh p => if c.twin.holding then runningLevel c (.pwmh p) else .low
  | .pwml p => if c.twin.holding then runningLevel c (.pwml p) else .low
  | .drven p => if c.twin.holding then runningLevel c (.drven p) else .low
  | .gate n => if c.twin.holding then runningLevel c (.gate n) else .low
  | .foff n => if c.twin.holding then runningLevel c (.foff n) else .high
  | .rmTrim n => if c.twin.holding then runningLevel c (.rmTrim n) else .undriven
  | .pg _ | .ownOut | .syncOut => .low
  | .vdat _ | .valt _ | .twScl | .twSda => .undriven
  | .svcTxd => if c.boot.phase == .recovery then .frames else .high
  | .canTxd _ => .high
  | p => runningLevel c p

/-- The no-selection level of Table 13.2, for a pin that passes through the selectors (R406); any other pin is as in
operation. -/
def unselectedLevel (c : Chip) : Pin → Level
  | .pwmh _ | .pwml _ | .drven _ | .gate _ | .rmEn _ | .pg _ => .low
  | .foff _ => .high
  | .rmTrim n => .stream (nat c (kRmTrimNeutral n))
  | .bsSw _ | .vdat _ | .valt _ => .undriven
  | p => runningLevel c p

/-- The unit's pins hold the no-selection levels (R414). [DEDUCED, log 147] -/
def unselected (c : Chip) : Bool := c.twin.state == .standby || (c.twin.state == .starting && !c.twin.holding)

/-- The level that Ulvia gives a pin, the test port apart. -/
def ownLevel (c : Chip) (p : Pin) : Level :=
  match c.boot.phase with
  | .porAsserted => unpoweredLevel p
  | .flushing | .rstHeld | .step _ | .recovery => bootLevel c p
  | .running => if unselected c then unselectedLevel c p else runningLevel c p

/-! ### The test port -/

/-- The instructions of the test port (R455). -/
inductive TestInstruction where
  | extest | sample | highz | bypass
deriving DecidableEq, Repr

/-- The instruction that the register selects (R455): every other code selects BYPASS. -/
def testInstruction (c : Chip) : TestInstruction :=
  if c.test.ir = 0 then .extest
  else if c.test.ir = 1 then .sample
  else if c.test.ir = 2 then .highz
  else .bypass

/-- The level of a pin (R455): EXTEST gives every digital ball the level of its output cell where its control cell is 1, and
HIGHZ undrives it; under SAMPLE/PRELOAD and BYPASS Ulvia drives it. [DEDUCED, log 146] -/
def pinLevel (c : Chip) (p : Pin) : Level :=
  match testInstruction c with
  | .extest =>
    let b := digitalBalls.idxOf p
    if c.test.cells.getLsbD (3 * b + 2) then levelOf (c.test.cells.getLsbD (3 * b + 1)) else .undriven
  | .highz => .undriven
  | .sample | .bypass => ownLevel c p

end Sys2Proof.Machine
end

