-- ==== Sys2Proof/Machine/Sense.lean ====
section
/-! DEFINITION. The checks of the sense channels (R109 to R111) and what fails with a channel (R35, R40, R80, R112, R114,
R120, R164, Table 11.6). -/

namespace Sys2Proof.Machine

/-- The channel has a converter, and so a pilot and a range (R109, R111, Table 7.4). -/
def converted (ch : Nat) : Bool := decide (ch < 128) && !chanReserved ch

/-- The rails that use a channel as their input channel (R80). -/
def fedBy (c : Chip) (ch : Nat) : List (Fin 16) :=
  (List.finRange 16).filter fun r => railType c r != 0 && nat c (kRailInputChannel r) == ch

/-- What a failed pilot or range check of a channel does. [DEDUCED, log 32] -/
def channelFails (ch : Nat) (cause : DropCause) (c : Chip) : Chip :=
  let c := each (fedBy c ch) railChannelFails c
  if h : ch < 32 then phaseFails ⟨ch, h⟩ cause c
  else if ch < 48 then railChannelFails (Fin.ofNat 16 (ch - 32)) c
  else if ch < 56 then (if cause = .pilot then shareStale (Fin.ofNat 8 (ch - 48)) true c else c)
  else if ch < 60 then
    when (cause == .pilot && tapsSettled c && hasBit (nat c kBusTapFitted) (ch - 56)) (raise 58 1 (ch - 56 : Nat)) (refreshTap c)
  else if 64 ≤ ch && ch < 72 then raise (64 + ch % 4) 5 0 c
  else if 72 ≤ ch && ch < 76 then when (cause == .pilot) (raise (64 + ch % 4) 5 0) c
  else if 80 ≤ ch && ch < 104 then ppChannelFails (Fin.ofNat 8 ch) ch c
  else if ch = 122 then when (cause == .pilot) (raise 245 2 (chanInt c ch)) c
  else if 123 ≤ ch && ch < 128 then when (cause == .pilot) (raise 246 2 (chanInt c ch)) c
  else c

/-- PILOT_CHECK_FAIL (R109). [DEDUCED, log 32] -/
def pilotCheckFail (ch : Fin 256) (c : Chip) : Chip :=
  if !converted ch || !live c || c.chans[ch].pilotFail then c
  else channelFails ch .pilot (setChan ch (fun x => { x with pilotFail := true }) c)

/-- PILOT_CHECK_PASS (R109). -/
def pilotCheckPass (ch : Fin 256) (c : Chip) : Chip :=
  if !converted ch || !live c || !c.chans[ch].pilotFail then c
  else
    let c := setChan ch (fun x => { x with pilotFail := false }) c
    if 48 ≤ ch.val && ch.val < 56 then shareStale (Fin.ofNat 8 (ch.val - 48)) false c else c

/-- RANGE_CHECK_FAIL (R111, R120, R164): the input lies above 98 % of full scale; that it has done so for 16 periods or
samples is the sender's word (log 3). -/
def rangeCheckFail (ch : Fin 256) (c : Chip) : Chip :=
  if !converted ch || !live c || c.chans[ch].rangeFail || !overRange ch c.chans[ch].pin then c
  else channelFails ch .range (setChan ch (fun x => { x with rangeFail := true }) c)

/-- The channel is judged by its ripple (R110): a phase current or a rail voltage whose rail switches with the duty of
every active phase between 5 % and 95 %. -/
def rippled (c : Chip) (ch : Nat) : Bool :=
  let r? := if h : ch < 32 then railOfPhase c ⟨ch, h⟩ else if ch < 48 then some (Fin.ofNat 16 (ch - 32)) else none
  match r? with
  | some r => switching c.rails[r] && (activePhases c r).all fun p =>
      decide ((1 : Rat) / 20 ≤ ofQ 31 c.phases[p].duty) && decide (ofQ 31 c.phases[p].duty ≤ 19 / 20)
  | none => false

/-- RIPPLE_CHECK_FAIL (R110, R112, R114). [DEDUCED, log 31] -/
def rippleCheckFail (ch : Fin 256) (c : Chip) : Chip :=
  if !rippled c ch || !live c || c.chans[ch].rippleFail then c
  else
    let c := setChan ch (fun x => { x with rippleFail := true }) c
    if h : ch.val < 32 then phaseFails ⟨ch.val, h⟩ .ripple c else feedbackLost (Fin.ofNat 16 (ch.val - 32)) c

/-! ### The commands -/

/-- PILOT_CHECK_FAIL (R109) answers the state with its effect. -/
def execPilotCheckFail (ch : Fin 256) (s : State) : Host.Outcome State Fault Refusal :=
  answer s (pilotCheckFail ch s.chip)

/-- PILOT_CHECK_PASS (R109) answers the state with its effect. -/
def execPilotCheckPass (ch : Fin 256) (s : State) : Host.Outcome State Fault Refusal :=
  answer s (pilotCheckPass ch s.chip)

/-- RIPPLE_CHECK_FAIL (R110) answers the state with its effect. -/
def execRippleCheckFail (ch : Fin 256) (s : State) : Host.Outcome State Fault Refusal :=
  answer s (rippleCheckFail ch s.chip)

/-- RANGE_CHECK_FAIL (R111) answers the state with its effect. -/
def execRangeCheckFail (ch : Fin 256) (s : State) : Host.Outcome State Fault Refusal :=
  answer s (rangeCheckFail ch s.chip)

end Sys2Proof.Machine
end

