-- ==== Sys2Proof/Machine/StockRuns.lean ====
section
/-! DEFINITION. The runs of the stock units (R227, R239): a run serves the unit's trigger slot and counts; in STANDBY
it tracks the owner (R415). -/

namespace Sys2Proof.Machine

/-- The TRACK values that a standby follows. -/
def trackOf (c : Chip) : Option TrackFrame := if c.twin.state == .standby then c.twin.track else none

/-- The unit of a code and instance runs its law, where its slot's turn has come; it counts as a run of its mill. -/
def stockUnit (code instance_ : Nat) (law : Unit4 → Chip → Chip) (c : Chip) : Chip :=
  match hostOf c code instance_ with
  | none => c
  | some u => if unitRuns c u then stockRun u (law u) c else c

/-- BUSSHARE tracks (R415): each trim is the owner's, and the port's integrator is the one that gives it.
[DEDUCED, log 36] -/
def busshareTrack (u : Unit4) (t : TrackFrame) (c : Chip) : Chip :=
  let k := coef c u
  let vreg := ofQ 22 c.bus.voltage
  let ev := hundredMicro (num c kBusTarget) + c.bus.plantTrim - vreg
  let uv := k 0 * ev + ofQ 22 c.bus.iv
  each (fittedRms c) (fun n c =>
    let code := t.trims[n]
    let v := ((code.toNat : Rat) - num c (kRmTrimNeutral n)) * (num c (kRmTrimGain n) : Rat) / 1000000
    setRm n (fun r => { r with
      trim := code, integ := toQ 22 (v - uv - k 3 * (val c (56 + nat c (kRmTap n)) - vreg))
      writtenAt := c.clock.us }) c) c

/-- RAILLOOP tracks (R415): the duty is the owner's, and the integrator x1 is the one whose output it is.
[DEDUCED, log 36] -/
def railloopTrack (u : Unit4) (r : Fin 16) (t : TrackFrame) (c : Chip) : Chip :=
  let k := coef c u
  let x := c.rails[r]
  let l := x.loop
  let ref := refNext c r
  let e := toQ 22 ((ref : Rat) / 2 ^ 22 - k 7 * val c (140 + r) - val c (32 + r))
  let out := toQ 22 (ofQ 31 t.duties[r] * val c (nat c (kRailInputChannel r)))
  let x2 := if k 4 = 0 then l.x2 else toQ 22 ((ofQ 22 out - k 5 * ofQ 22 l.x2p - k 6 * ofQ 22 l.uv) / k 4)
  let x1 := if k 1 = 0 then l.x1 else toQ 22 ((ofQ 22 x2 - k 2 * ofQ 22 l.x1p - k 3 * ofQ 22 l.x2) / k 1)
  let c := setRail r (fun x => { x with
    ref := ref, loop := { x1 := x1, x1p := x1, x2 := x2, x2p := x2, uv := out, ui := out, e1 := e, held := false } }) c
  each (activePhases c r) (fun p => writeDuty p t.duties[r]) c

/-- BALANCE on a BIDIR rail tracks (R415). [DEDUCED, log 36] -/
def balanceTrack (u : Unit4) (r : Fin 16) (t : TrackFrame) (c : Chip) : Chip :=
  let k := coef c u
  let icmd := toQ 16 (bidirCommand c r (chanStale c (176 + r)))
  let active := activePhases c r
  let share := ofQ 16 icmd / (active.length : Rat)
  let drive := ofQ 31 t.duties[r] * val c (nat c (kRailInputChannel r))
  let c := setRail r (fun x => { x with icmd := icmd }) c
  each active (fun p c =>
    let e := share - val c p
    writeDuty p t.duties[r] (setPhase p (fun y => { y with integ := toQ 22 (drive - val c (32 + r) - k 0 * e) }) c)) c

/-- BUSSHARE_RUN (R42, R43, R415). -/
def busshareRow (samples : List Sample) (c : Chip) : Chip :=
  stockUnit 3 0 (fun u c => match trackOf c with
    | some t => busshareTrack u t c
    | none => busshareUnit u c) (refreshBus (takeSamples samples c))

/-- WELLRATE_RUN (R241). -/
def wellrateRow (samples : List Sample) (c : Chip) : Chip := stockUnit 5 0 wellrateUnit (refreshBus (takeSamples samples c))

/-- CHARGE_RUN (R132, R415). -/
def chargeRow (samples : List Sample) (c : Chip) : Chip := stockUnit 4 0 chargeUnit (takeSamples samples c)

/-- RAILLOOP_RUN (R86, R89, R415). -/
def railloopRow (r : Fin 16) (samples : List Sample) (c : Chip) : Chip :=
  let c := takeSamples samples c
  stockUnit 1 r (fun u c => match trackOf c with
    | some t => if railType c r == 1 && switching c.rails[r] then railloopTrack u r t c else c
    | none => railloopUnit r u c) (when (trackOf c).isNone (diodeEmulation r samples) c)

/-- BALANCE_BIDIR_RUN (R97, R415). -/
def balanceRow (r : Fin 16) (samples : List Sample) (c : Chip) : Chip :=
  stockUnit 2 r (fun u c => match trackOf c with
    | some t => if railType c r == 2 && switching c.rails[r] then balanceTrack u r t c else c
    | none => balanceUnit r u c) (takeSamples samples c)

/-! ### The commands -/

/-- BUSSHARE_RUN (R43) answers the state with its effect. -/
def execBusshareRun (samples : List Sample) (s : State) : Host.Outcome State Fault Refusal :=
  guarded (samples.all Sample.fits) s (busshareRow samples s.chip)

/-- WELLRATE_RUN (R241) answers the state with its effect. -/
def execWellrateRun (samples : List Sample) (s : State) : Host.Outcome State Fault Refusal :=
  guarded (samples.all Sample.fits) s (wellrateRow samples s.chip)

/-- RAILLOOP_RUN (R89) answers the state with its effect. -/
def execRailloopRun (r : Fin 16) (samples : List Sample) (s : State) : Host.Outcome State Fault Refusal :=
  guarded (samples.all Sample.fits) s (railloopRow r samples s.chip)

/-- BALANCE_BIDIR_RUN (R97) answers the state with its effect. -/
def execBalanceBidirRun (r : Fin 16) (samples : List Sample) (s : State) : Host.Outcome State Fault Refusal :=
  guarded (samples.all Sample.fits) s (balanceRow r samples s.chip)

/-- CHARGE_RUN (R132) answers the state with its effect. -/
def execChargeRun (samples : List Sample) (s : State) : Host.Outcome State Fault Refusal :=
  guarded (samples.all Sample.fits) s (chargeRow samples s.chip)

end Sys2Proof.Machine
end

