-- ==== Sys2Proof/Machine/Thermal.lean ====
section
/-! DEFINITION. The die sensors and the thermal protection (R372 to R378). -/

namespace Sys2Proof.Machine

/-- The sensor is masked (R378). -/
def masked (c : Chip) (k : Fin 12) : Bool := hasBit (nat c kThermMask) k

/-- A read breaks an unmasked sensor (R373): out of range, moved by more than 10 °C, or the 16th identical raw count. -/
def breaks (d : Die) (r : DieReading) (same : Nat) : Bool :=
  decide (r.temp < -880) || decide (2720 < r.temp) || decide (16 ≤ same) ||
    match d.reads.head? with
    | some t => decide (160 < (r.temp - t).natAbs)
    | none => false

/-- One sensor is read (R372 to R374); a masked one is read and reported, and judged by nothing. [DEDUCED, log 113] -/
def readDie (k : Fin 12) (r : DieReading) (c : Chip) : Chip :=
  let d := c.therm.dies[k]
  let same := if d.raw = some r.raw then d.same + 1 else 1
  let breaking := !d.broken && !masked c k && breaks d r same
  let broken := d.broken || breaking
  let t : Int := if broken then 0x7FFF else r.temp
  let warned := !masked c k &&
    (decide (num c kThermWarnLevel ≤ t) || (d.warned && decide (num c kThermWarnLevel - 32 < t)))
  let onset := warned && !d.warned && !broken
  let d := { d with
    reads := (t :: d.reads).take 1024, raw := some r.raw, same := same, broken := broken, warned := warned }
  let c := setTherm (fun x => { x with dies := x.dies.set k d }) c
  let c := newValues [128 + k] (publish (128 + k) (if broken then 0x7FFFFFFF else toQ 16 ((t : Rat) / 16)) c)
  let c := when breaking (raise (144 + k) 2 r.temp) c
  when onset (raise (144 + k) 1 t) c

/-- The unmasked sensors. -/
def unmaskedDies (c : Chip) : List (Fin 12) := (List.finRange 12).filter fun k => !masked c k

/-- The last reading of a sensor. [DEDUCED, log 113] -/
def dieTemp (c : Chip) (k : Fin 12) : Int := (c.therm.dies[k].reads).headD 0

/-- The hottest unmasked sensor, the lowest where several are equal. -/
def hottestDie (c : Chip) : Option (Fin 12) :=
  (unmaskedDies c).foldl (fun b k => match b with
    | none => some k
    | some j => if dieTemp c j < dieTemp c k then some k else some j) none

/-- The least-squares slope of equally spaced values, newest first, per step; 0 of fewer than two. [DEDUCED, log 113] -/
def fitSlope (l : List Int) : Rat :=
  let n : Int := l.length
  if n < 2 then 0
  else
    let xy := (l.reverse.zipIdx.map fun p => (p.2 : Int) * p.1).foldl (· + ·) 0
    let y := l.foldl (· + ·) 0
    let x := n * (n - 1) / 2
    let xx := (n - 1) * n * (2 * n - 1) / 6
    ((n * xy - x * y : Int) : Rat) / (n * xx - x * x : Int)

/-- `ThermPredict` in ms (R377), from a slope in 1/16 °C per read. -/
def predictMs (c : Chip) (hot : Int) (slope : Rat) : Nat :=
  if slope ≤ 0 then 0xFFFFFFFF
  else min 0xFFFFFFFF (((num c kThermShutdownLevel - hot : Int) : Rat) / slope).floor.toNat

/-- The levels are judged after the reads (R374, R376, R377). [DEDUCED, log 113] -/
def judgeTherm (c : Chip) : Chip :=
  match hottestDie c with
  | none => c
  | some k =>
    let hot := dieTemp c k
    let slope := fitSlope c.therm.dies[k].reads
    let p := predictMs c hot slope
    let due := nat c kThermStopMode == 1 && decide (num c kThermWarnLevel ≤ hot) && decide (p < nat c kThermStopHorizon)
    let cool := (unmaskedDies c).all fun j => dieTemp c j ≤ num c kThermShutdownLevel - 240
    setTherm (fun x => { x with
      hottest := hot, hottestAt := k, slope := (satWord (roundRat (slope * 62500))).toInt, predict := p
      overCount := if num c kThermShutdownLevel ≤ hot then x.overCount + 1 else 0
      coolCount := if x.shutdown && cool then x.coolCount + 1 else 0
      window := if !due then none else some (x.window.getD (decide (50 ≤ p))) }) c

/-- DIE_SENSOR_READ (R372 to R374, R376, R377): every 1 ms, in the safe state as well. -/
def dieSensorRead (readings : List DieReading) (c : Chip) : Chip :=
  if !resettable c then c
  else judgeTherm (each (readings.zipIdx) (fun p => readDie (Fin.ofNat 12 p.2) p.1) c)

/-- The CRITICAL record of a shutdown is passed to the Almanac (R375, step 2). [DEDUCED, log 114] -/
def shutdownLog (c : Chip) : Chip :=
  let k := c.therm.hottestAt
  log 0x40 (144 + k) 3 c.therm.hottest [] (setTherm (fun x => { x with recording := true }) c)

/-- THERMAL_SHUTDOWN (R375, R377): the shutdown condition has held for 2 reads. The event is recorded, and then the CRITICAL
record, unless the event's reaction has begun a chip reset; an orderly stop is abandoned. [DEDUCED, log 114] -/
def thermalShutdown (c : Chip) : Chip :=
  if !watchRuns c || c.therm.overCount < 2 || c.therm.recording then c
  else
    let c := watchEvaluation (raise (144 + c.therm.hottestAt) 3 c.therm.hottest c)
    if !watchRuns c then c
    else
      let c := when c.therm.stopping (setSeq fun s => { s with entry := none }) c
      shutdownLog (setTherm (fun x => { x with stopping := false }) c)

/-- THERMAL_RECORD_DONE (R375, step 3): the page program has completed, or 5 ms have passed. -/
def thermalRecordDone (c : Chip) : Chip :=
  if !c.therm.recording then c
  else setTherm (fun x => { x with recording := false, shutdown := true, coolCount := 0 }) (enterSafe c)

/-- THERMAL_RESTART (R376). -/
def thermalRestart (c : Chip) : Chip :=
  if c.therm.shutdown && decide (100 ≤ c.therm.coolCount) then chipReset .thermalRestart false c else c

/-- ORDERLY_STOP_START (R377): the off request of R207. -/
def orderlyStopStart (c : Chip) : Chip :=
  if !watchRuns c || c.therm.window != some true || c.therm.stopping || c.therm.recording then c
  else when (drives c) seqOff (setTherm (fun x => { x with stopping := true }) c)

/-- ORDERLY_STOP_SEQ_OFF (R377): the sequencer is in OFF or OFF-HOLD. -/
def orderlyStopSeqOff (c : Chip) : Chip :=
  if !watchRuns c || !c.therm.stopping || c.therm.recording then c
  else when (c.seq.state == .off || c.seq.state == .offHold) shutdownLog c

/-! ### The commands -/

/-- DIE_SENSOR_READ (R372) answers the state with its effect. -/
def execDieSensorRead (readings : List DieReading) (s : State) : Host.Outcome State Fault Refusal :=
  guarded (decide (readings.length = 12)) s (dieSensorRead readings s.chip)

/-- THERMAL_SHUTDOWN (R375) answers the state with its effect. -/
def execThermalShutdown (s : State) : Host.Outcome State Fault Refusal := answer s (thermalShutdown s.chip)

/-- THERMAL_RECORD_DONE (R375) answers the state with its effect. -/
def execThermalRecordDone (s : State) : Host.Outcome State Fault Refusal := answer s (thermalRecordDone s.chip)

/-- THERMAL_RESTART (R376) answers the state with its effect. -/
def execThermalRestart (s : State) : Host.Outcome State Fault Refusal := answer s (thermalRestart s.chip)

/-- ORDERLY_STOP_START (R377) answers the state with its effect. -/
def execOrderlyStopStart (s : State) : Host.Outcome State Fault Refusal := answer s (orderlyStopStart s.chip)

/-- ORDERLY_STOP_SEQ_OFF (R377) answers the state with its effect. -/
def execOrderlyStopSeqOff (s : State) : Host.Outcome State Fault Refusal := answer s (orderlyStopSeqOff s.chip)

end Sys2Proof.Machine
end

