-- ==== Sys2Proof/Machine/TwoWirePort.lean ====
section
/-! DEFINITION. The two-wire port (R307 to R317). -/

namespace Sys2Proof.Machine

/-- The addresses that the port answers (R308, R309): its base address, and in mode 0 each extra one, in mode 1 those that
agree with the first extra one outside the mask. -/
def twAddressed (c : Chip) (a : BitVec 7) : Bool :=
  let extra (j : Fin 3) : Nat := nat c (kTwExtraAddr1 j)
  a.toNat == 0x40 + c.tw.strapCode ||
    (if nat c kTwAddrMode = 0 then (List.finRange 3).any fun j => extra j != 0 && a.toNat == extra j
    else (List.range 7).all fun b => hasBit (nat c kTwAddrMask) b || a.getLsbD b == hasBit (extra 0) b)

/-- The requests of the port that have not completed; it has four places for them (R312). -/
def twPlaces (c : Chip) : Nat := ((c.market.reqs ++ c.market.offered).filter fun q => match q.reply with
  | .tw _ => true
  | _ => false).length

/-- The port answers an address: NET runs, no recovery is awaited, the address is its own, and a request place is free,
without which it NACKs (R256, R309, R312, R317). -/
def twAnswers (c : Chip) (a : BitVec 7) : Bool :=
  netUp c && !c.tw.waitIdle && twAddressed c a && decide (twPlaces c < 4) && slotFree c .twoWire

/-- The frame is whole: its length agrees with LEN (R311). -/
def twWhole (f : TwFrame) (write : Bool) : Bool :=
  if write then decide (1 ≤ f.len) && decide (f.len ≤ 32) && f.data.length == f.len else f.data.isEmpty

/-- The bytes of a frame before its PEC, the address byte included (Table 9.7). -/
def twBytes (f : TwFrame) (write : Bool) : List Byte :=
  leBytes 1 (2 * f.addr.toNat) ++ leBytes 1 (if write then 0x10 else 0x11) ++ [f.seq] ++ leBytes 2 (f.k / 256) ++
    leBytes 1 (f.k % 256) ++ (if write then leBytes 1 f.len ++ f.data else [])

/-- The frame has a PEC byte that fails (R307, R312). -/
def pecBad (f : TwFrame) (write : Bool) : Bool :=
  match f.pec with
  | some p => p != pecOf (twBytes f write)
  | none => false

/-- The end of a frame is accepted (R311): a PEC that is correct, or none where none is required. -/
def pecAccepted (c : Chip) (f : TwFrame) (write : Bool) : Bool :=
  if f.pec.isSome then !pecBad f write else !flag c kTwPecRequired

/-- A whole frame whose PEC fails is counted (R312). [DEDUCED, log 88] -/
def pecFails (f : TwFrame) (write : Bool) (c : Chip) : Chip :=
  when (pecBad f write) (setTw fun t => { t with pecErrors := satSucc 65535 t.pecErrors, pecAt := some c.clock.us }) c

/-- A kept WRITE that a new one repeats (R315). -/
def twDuplicate (c : Chip) (f : TwFrame) : Bool :=
  f.seq != 0 && c.tw.history.any fun d =>
    d.seq == f.seq && d.k == f.k && d.len == f.len && d.data == f.data && decide (nowMs c ≤ d.at_ + nat c kTwDupWindow)

/-- TW_WRITE (R310, R311, R315). -/
def twWrite (f : TwFrame) (c : Chip) : Chip :=
  if !twAnswers c f.addr || !twWhole f true then c
  else if !pecAccepted c f true then pecFails f true c
  else if twDuplicate c f then
    twHold { seq := f.seq, status := 0, data := [], at_ := c.clock.us } (setTw (fun t => { t with dupAt := some c.clock.us }) c)
  else submit .twoWire f.k (some f.data) (.tw f.seq) c

/-- TW_READ (R310, R311). -/
def twRead (f : TwFrame) (c : Chip) : Chip :=
  if !twAnswers c f.addr || !twWhole f false then c
  else if !pecAccepted c f false then pecFails f false c
  else submit .twoWire f.k none (.tw f.seq) c

/-- The first result with a SEQ is taken out. -/
def dropResult (seq : BitVec 8) : List TwResult → List TwResult
  | [] => []
  | r :: rest => if r.seq = seq then rest else r :: dropResult seq rest

/-- A result as RESULT returns it, with its PEC over the whole transaction (R307, Table 9.7). -/
def twReturned (a : BitVec 7) (seq : BitVec 8) (r : TwResult) : TwResult × Byte :=
  (r, pecOf (leBytes 1 (2 * a.toNat) ++ [0x12, seq] ++ leBytes 1 (2 * a.toNat + 1) ++ [r.seq, r.status] ++
    leBytes 1 r.data.length ++ r.data))

/-- TW_RESULT (R310, R313): SEQ 00h names the oldest; the controller's NACK of PEC and a STOP collect it.
[DEDUCED, log 88] -/
def twResult (a : BitVec 7) (seq : BitVec 8) (collected : Bool) (c : Chip) : Chip :=
  if !twAnswers c a then c
  else
    let r? := if seq = 0 then c.tw.results.head? else c.tw.results.find? fun r => r.seq == seq
    match r? with
    | none => setTw (fun t => { t with
        answers := t.answers ++ [twReturned a seq { seq := 0, status := 0xFF, data := [] }] }) c
    | some r => setTw (fun t => { t with
        answers := t.answers ++ [twReturned a seq r]
        results := if !collected then t.results else if seq = 0 then t.results.drop 1 else dropResult seq t.results }) c

/-- TW_SCL_TIMEOUT (R317). -/
def twSclTimeout (c : Chip) : Chip :=
  when (netUp c) (fun c => raise 174 1 0 (setTw (fun t => { t with waitIdle := true, sclAt := some c.clock.us }) c)) c

/-- TW_SDA_TIMEOUT (R317). -/
def twSdaTimeout (c : Chip) : Chip :=
  when (netUp c) (fun c => raise 174 1 0 (setTw (fun t => { t with waitIdle := true, sdaAt := some c.clock.us }) c)) c

/-- TW_BUS_RECOVERED (R317). -/
def twBusRecovered (c : Chip) : Chip := setTw (fun t => { t with waitIdle := false }) c

/-- TW_RESULT_DISCARD (R313): the oldest result, past its hold, is discarded and counted. -/
def twResultDiscard (c : Chip) : Chip :=
  when (match c.tw.results.head? with
      | some r => decide (r.at_ + 1000000 ≤ c.clock.us)
      | none => false)
    (setTw fun t => { t with results := t.results.drop 1, resultsLost := satSucc 65535 t.resultsLost }) c

/-! ### The commands -/

/-- TW_WRITE (R310) answers the state with its effect. -/
def execTwWrite (f : TwFrame) (s : State) : Host.Outcome State Fault Refusal :=
  guarded (f.fits) s (twWrite f s.chip)

/-- TW_READ (R310) answers the state with its effect. -/
def execTwRead (f : TwFrame) (s : State) : Host.Outcome State Fault Refusal :=
  guarded (f.fits && f.data.isEmpty) s (twRead f s.chip)

/-- TW_RESULT (R310) answers the state with its effect. -/
def execTwResult (a : BitVec 7) (seq : BitVec 8) (collected : Bool) (s : State) : Host.Outcome State Fault Refusal :=
  answer s (twResult a seq collected s.chip)

/-- TW_SCL_TIMEOUT (R317) answers the state with its effect. -/
def execTwSclTimeout (s : State) : Host.Outcome State Fault Refusal := answer s (twSclTimeout s.chip)

/-- TW_SDA_TIMEOUT (R317) answers the state with its effect. -/
def execTwSdaTimeout (s : State) : Host.Outcome State Fault Refusal := answer s (twSdaTimeout s.chip)

/-- TW_BUS_RECOVERED (R317) answers the state with its effect. -/
def execTwBusRecovered (s : State) : Host.Outcome State Fault Refusal := answer s (twBusRecovered s.chip)

/-- TW_RESULT_DISCARD (R313) answers the state with its effect. -/
def execTwResultDiscard (s : State) : Host.Outcome State Fault Refusal := answer s (twResultDiscard s.chip)

end Sys2Proof.Machine
end

