-- ==== Sys2Proof/Machine/Vc.lean ====
section
/-! DEFINITION. Voltage command ports (R99 to R108). -/

namespace Sys2Proof.Machine

/-- The rail of a port that answers: bound, and this unit drives it (R99, R369, R415). -/
def vcRail (c : Chip) (n : Fin 4) : Option (Fin 16) := if drives c then railOfVc c n else none

/-- `VCn_VALT#` is low between transactions (R99, R101): a completion or a new cap level waits on a port that answers, and
no response waits to be read. -/
def vcAlert (c : Chip) (n : Fin 4) : Bool :=
  (vcRail c n).isSome && c.vcs[n].response.isNone && (!c.vcs[n].queue.isEmpty || c.vcs[n].levelPending)

/-- Ulvia accepts a frame, with one low pulse of `VCn_VALT#` until the first turnaround edge, and offers its response with
its CRC (R100, R101): type, tag, code and data word. [DESIGN CHOICE, log 141] -/
def vcAnswer (n : Fin 4) (type : Nat) (tag : BitVec 6) (code : Nat) (data : Option (BitVec 16)) (c : Chip) : Chip :=
  let word := BitVec.ofNat 16 (type * 16384 + tag.toNat * 256 + code)
  let bits := bitsOf 16 word.toNat ++ (data.map fun d => bitsOf 16 d.toNat).getD []
  setVc n (fun v => { v with
    accepts := v.accepts + 1
    response := some { word := word, data := data, crc := BitVec.ofNat 8 (crc8Bits bits 0) } }) c

/-- A NACK (Table 3.6). -/
def vcNack (n : Fin 4) (tag : BitVec 6) (code : Nat) (c : Chip) : Chip := vcAnswer n 1 tag code none c

/-- A VC event is counted in `RailVcErrors` and recorded on the port's source (R102, R108, Table 3.12). -/
def vcError (n : Fin 4) (r : Fin 16) (code : Nat) (c : Chip) : Chip :=
  raise (178 + n) code 0 (setRail r (fun x => { x with vcErrors := satSucc 65535 x.vcErrors }) c)

/-- VC_SETV (R103, R105, R106): only in REGULATE, in range, and with room for its completion; of several refusals the first
in this order is answered, as the rule gives none. The reference moves at the VC slew. [DESIGN CHOICE, log 141] -/
def vcSetv (n : Fin 4) (tag : BitVec 6) (arg : BitVec 16) (c : Chip) : Chip :=
  match vcRail c n with
  | none => c
  | some r =>
    let v : Int := arg.toNat * 10
    let flight := c.vcs[n].inFlight
    if c.rails[r].state != .regulate then vcNack n tag 4 c
    else if v < num c (kRailVcMin r) || num c (kRailVcMax r) < v then vcNack n tag 3 c
    else if 16 < c.vcs[n].queue.length + (if flight.isSome then 1 else 0) + 1 then vcNack n tag 5 c
    else
      let c := match flight with
        | some t => setRail r (fun x => { x with ref := chanInt c (32 + r) }) (vcComplete n t 1 c)
        | none => c
      let c := setRail r (fun x => { x with
        command := v, vcHolds := true, slope := (vcSlewNow c r : Rat) * 100, settled := 0 }) c
      vcAnswer n 0 tag 0 none (publishCommand r (setVc n (fun p => { p with inFlight := some tag }) c))

/-- VC_SLEW (R103): it acts on the SETV commands to come. -/
def vcSlew (n : Fin 4) (tag : BitVec 6) (arg : BitVec 16) (c : Chip) : Chip :=
  match vcRail c n with
  | none => c
  | some r =>
    if arg = 0 then vcNack n tag 3 c
    else vcAnswer n 0 tag 0 none (setRail r (fun x => { x with vcSlew := some arg.toNat }) c)

/-- VC_CAP (R103, R108). -/
def vcCap (n : Fin 4) (tag : BitVec 6) (c : Chip) : Chip :=
  match vcRail c n with
  | none => c
  | some _ =>
    vcAnswer n 0 tag 0 (some (BitVec.ofNat 16 c.vcs[n].level)) (setVc n (fun v => { v with levelPending := false }) c)

/-- The data that a QUERY selector gives, but for selector 0 (R103). -/
def vcData (c : Chip) (n : Fin 4) (r : Fin 16) (sel : Nat) : Option (BitVec 16) :=
  if sel = 1 then some (BitVec.ofInt 16 (roundRat (val c (32 + r) * 1000)))
  else if sel = 2 then some (BitVec.ofInt 16 (roundRat (val c (140 + r) * 100)))
  else if sel = 3 then
    some (BitVec.ofNat 16 (c.rails[r].state.number + bit c.vcs[n].levelPending 8 + bit (!c.vcs[n].queue.isEmpty) 9))
  else if sel = 4 then some (BitVec.ofInt 16 (roundRat (effTarget c r * 1000)))
  else none

/-- VC_QUERY (R103, R104). -/
def vcQuery (n : Fin 4) (tag sel : BitVec 6) (c : Chip) : Chip :=
  match vcRail c n with
  | none => c
  | some r =>
    if sel = 0 then
      match c.vcs[n].queue with
      | [] => vcAnswer n 0 tag 0 (some 0) c
      | d :: rest =>
        vcAnswer n 0 tag 0 (some (BitVec.ofNat 16 (2 * 16384 + d.tag.toNat * 256 + d.code.toNat)))
          (setVc n (fun v => { v with queue := rest }) c)
    else match vcData c n r sel.toNat with
      | some d => vcAnswer n 0 tag 0 (some d) c
      | none => vcNack n tag 2 c

/-- VC_FRAME_NACK (R100, R103): a frame of 40 bits on a port. One whose CRC fails, or whose opcode is not one of the four,
is refused; any other is the command that its opcode names. -/
def vcFrameNack (n : Fin 4) (frame : BitVec 40) (c : Chip) : Chip :=
  match vcRail c n with
  | none => c
  | some r =>
    let f := frame.toNat
    let tag := BitVec.ofNat 6 (field f 30 6)
    let arg := BitVec.ofNat 16 (field f 8 16)
    let op := field f 36 4
    if crc8Bits (bitsOf 32 (f / 256)) 0 != f % 256 then vcError n r 3 (vcNack n tag 1 c)
    else if op = 1 then vcSetv n tag arg c
    else if op = 2 then vcSlew n tag arg c
    else if op = 3 then vcCap n tag c
    else if op = 4 then vcQuery n tag (BitVec.ofNat 6 (field f 24 6)) c
    else vcNack n tag 2 c

/-- VC_FRAME_GAP (R102). -/
def vcFrameGap (n : Fin 4) (c : Chip) : Chip :=
  match vcRail c n with
  | none => c
  | some r => vcError n r 1 c

/-- VC_RESPONSE_READ (R101). -/
def vcResponseRead (n : Fin 4) (c : Chip) : Chip :=
  match vcRail c n with
  | none => c
  | some _ => setVc n (fun v => { v with response := none }) c

/-- VC_RESPONSE_TIMEOUT (R102): the command's effect stands. -/
def vcResponseTimeout (n : Fin 4) (c : Chip) : Chip :=
  match vcRail c n with
  | none => c
  | some r =>
    if c.vcs[n].response.isNone then c
    else vcError n r 1 (setVc n (fun v => { v with response := none }) c)

/-- VC_SETV_DONE (R104): the reference stands at the new target, with 8 periods of the output within 1 %. -/
def vcSetvDone (n : Fin 4) (c : Chip) : Chip :=
  match vcRail c n, c.vcs[n].inFlight with
  | some r, some t =>
    if c.rails[r].state == .regulate && refAtTarget c r && decide (8 ≤ c.rails[r].settled) then vcComplete n t 0 (setVc n (fun v => { v with inFlight := none }) c) else c
  | _, _ => c

/-- VC_SETV_TIMEOUT (R104): 100 ms since the reference reached the target. -/
def vcSetvTimeout (n : Fin 4) (c : Chip) : Chip :=
  match vcRail c n with
  | none => c
  | some r => when (refAtTarget c r) (vcAbort r) c

/-- VC_CAP_UNCOLLECTED (R108). -/
def vcCapUncollected (n : Fin 4) (c : Chip) : Chip :=
  match vcRail c n with
  | none => c
  | some _ => when c.vcs[n].levelPending (raise (178 + n) 4 0) c

/-! ### The commands -/

/-- VC_SETV (R103) answers the state with its effect. -/
def execVcSetv (n : Fin 4) (tag : BitVec 6) (arg : BitVec 16) (s : State) : Host.Outcome State Fault Refusal :=
  answer s (vcSetv n tag arg s.chip)

/-- VC_SLEW (R103) answers the state with its effect. -/
def execVcSlew (n : Fin 4) (tag : BitVec 6) (arg : BitVec 16) (s : State) : Host.Outcome State Fault Refusal :=
  answer s (vcSlew n tag arg s.chip)

/-- VC_CAP (R103) answers the state with its effect. -/
def execVcCap (n : Fin 4) (tag : BitVec 6) (s : State) : Host.Outcome State Fault Refusal :=
  answer s (vcCap n tag s.chip)

/-- VC_QUERY (R103) answers the state with its effect. -/
def execVcQuery (n : Fin 4) (tag : BitVec 6) (sel : BitVec 6) (s : State) : Host.Outcome State Fault Refusal :=
  answer s (vcQuery n tag sel s.chip)

/-- VC_FRAME_GAP (R102) answers the state with its effect. -/
def execVcFrameGap (n : Fin 4) (s : State) : Host.Outcome State Fault Refusal := answer s (vcFrameGap n s.chip)

/-- VC_RESPONSE_READ (R101) answers the state with its effect. -/
def execVcResponseRead (n : Fin 4) (s : State) : Host.Outcome State Fault Refusal := answer s (vcResponseRead n s.chip)

/-- VC_RESPONSE_TIMEOUT (R102) answers the state with its effect. -/
def execVcResponseTimeout (n : Fin 4) (s : State) : Host.Outcome State Fault Refusal :=
  answer s (vcResponseTimeout n s.chip)

/-- VC_SETV_DONE (R104) answers the state with its effect. -/
def execVcSetvDone (n : Fin 4) (s : State) : Host.Outcome State Fault Refusal := answer s (vcSetvDone n s.chip)

/-- VC_SETV_TIMEOUT (R104) answers the state with its effect. -/
def execVcSetvTimeout (n : Fin 4) (s : State) : Host.Outcome State Fault Refusal := answer s (vcSetvTimeout n s.chip)

/-- VC_CAP_UNCOLLECTED (R108) answers the state with its effect. -/
def execVcCapUncollected (n : Fin 4) (s : State) : Host.Outcome State Fault Refusal :=
  answer s (vcCapUncollected n s.chip)

/-- VC_FRAME_NACK (R103) answers the state with its effect. -/
def execVcFrameNack (n : Fin 4) (frame : BitVec 40) (s : State) : Host.Outcome State Fault Refusal :=
  answer s (vcFrameNack n frame s.chip)

end Sys2Proof.Machine
end

