-- ==== Sys2Proof/Machine/Dispatch.lean ====
section
/-! DEFINITION. One arm per command: a direct call of its meaning. -/

namespace Sys2Proof.Machine

/-- The effect of a command on everything but the queue. -/
def exec (i : Instr) (s : State) : Host.Outcome State Fault Refusal :=
  match i with
  | .referenceLost => Sys2Proof.Machine.execReferenceLost s
  | .referenceReturn => Sys2Proof.Machine.execReferenceReturn s
  | .blockResetComplete h => Sys2Proof.Machine.execBlockResetComplete h s
  | .hamletMarkReady h => Sys2Proof.Machine.execHamletMarkReady h s
  | .controlSignalDelivery h => Sys2Proof.Machine.execControlSignalDelivery h s
  | .wakeOnAccess h => Sys2Proof.Machine.execWakeOnAccess h s
  | .wakeTimeout h => Sys2Proof.Machine.execWakeTimeout h s
  | .parkedHamletIdleStop h => Sys2Proof.Machine.execParkedHamletIdleStop h s
  | .reeveWatchdogExpiry => Sys2Proof.Machine.execReeveWatchdogExpiry s
  | .shareOverrange n => Sys2Proof.Machine.execShareOverrange n s
  | .rmAlarmDeglitched n level => Sys2Proof.Machine.execRmAlarmDeglitched n level s
  | .tapValidityChange k inTolerance => Sys2Proof.Machine.execTapValidityChange k inTolerance s
  | .noValidTapRepeat => Sys2Proof.Machine.execNoValidTapRepeat s
  | .busshareRun samples => Sys2Proof.Machine.execBusshareRun samples s
  | .trimStaleNeutral => Sys2Proof.Machine.execTrimStaleNeutral s
  | .busOutOfRange => Sys2Proof.Machine.execBusOutOfRange s
  | .shareFrameSend => Sys2Proof.Machine.execShareFrameSend s
  | .plantTrimUpdate => Sys2Proof.Machine.execPlantTrimUpdate s
  | .shareFrameReceive node p => Sys2Proof.Machine.execShareFrameReceive node p s
  | .shareGroupSilent => Sys2Proof.Machine.execShareGroupSilent s
  | .wellrateRun samples => Sys2Proof.Machine.execWellrateRun samples s
  | .wellStringReplace => Sys2Proof.Machine.execWellStringReplace s
  | .wellStale => Sys2Proof.Machine.execWellStale s
  | .wellReeveUpdate => Sys2Proof.Machine.execWellReeveUpdate s
  | .handoverTrigger fallTime samples => Sys2Proof.Machine.execHandoverTrigger fallTime samples s
  | .handoverComplete timedOut => Sys2Proof.Machine.execHandoverComplete timedOut s
  | .sourceBecomesGood => Sys2Proof.Machine.execSourceBecomesGood s
  | .sourceStopsGood => Sys2Proof.Machine.execSourceStopsGood s
  | .sourceQualified => Sys2Proof.Machine.execSourceQualified s
  | .handbackRampEnd => Sys2Proof.Machine.execHandbackRampEnd s
  | .capEvaluation => Sys2Proof.Machine.execCapEvaluation s
  | .shedReevaluate => Sys2Proof.Machine.execShedReevaluate s
  | .capRestore => Sys2Proof.Machine.execCapRestore s
  | .capLevelRise => Sys2Proof.Machine.execCapLevelRise s
  | .capPdoRepeat => Sys2Proof.Machine.execCapPdoRepeat s
  | .capStageEventRepeat => Sys2Proof.Machine.execCapStageEventRepeat s
  | .phaseKill p current => Sys2Proof.Machine.execPhaseKill p current s
  | .peakLimit p current => Sys2Proof.Machine.execPeakLimit p current s
  | .periodStart p => Sys2Proof.Machine.execPeriodStart p s
  | .railEnableWrite o r v => Sys2Proof.Machine.execRailEnableWrite o r v s
  | .railTargetWrite o r v => Sys2Proof.Machine.execRailTargetWrite o r v s
  | .onDelayElapsed r => Sys2Proof.Machine.execOnDelayElapsed r s
  | .rampComplete r => Sys2Proof.Machine.execRampComplete r s
  | .offDelayElapsed r => Sys2Proof.Machine.execOffDelayElapsed r s
  | .rampDownComplete r => Sys2Proof.Machine.execRampDownComplete r s
  | .feedbackLost r => Sys2Proof.Machine.execFeedbackLost r s
  | .fbHoldElapsed r => Sys2Proof.Machine.execFbHoldElapsed r s
  | .dutyRampComplete r => Sys2Proof.Machine.execDutyRampComplete r s
  | .railAutoRestart r => Sys2Proof.Machine.execRailAutoRestart r s
  | .syncLockStart r frequency => Sys2Proof.Machine.execSyncLockStart r frequency s
  | .syncLockAchieved r => Sys2Proof.Machine.execSyncLockAchieved r s
  | .syncinLost r => Sys2Proof.Machine.execSyncinLost r s
  | .railloopRun r samples => Sys2Proof.Machine.execRailloopRun r samples s
  | .balanceBidirRun r samples => Sys2Proof.Machine.execBalanceBidirRun r samples s
  | .vcSetv n tag arg => Sys2Proof.Machine.execVcSetv n tag arg s
  | .vcSlew n tag arg => Sys2Proof.Machine.execVcSlew n tag arg s
  | .vcCap n tag => Sys2Proof.Machine.execVcCap n tag s
  | .vcQuery n tag sel => Sys2Proof.Machine.execVcQuery n tag sel s
  | .vcFrameGap n => Sys2Proof.Machine.execVcFrameGap n s
  | .vcResponseRead n => Sys2Proof.Machine.execVcResponseRead n s
  | .vcResponseTimeout n => Sys2Proof.Machine.execVcResponseTimeout n s
  | .vcSetvDone n => Sys2Proof.Machine.execVcSetvDone n s
  | .vcSetvTimeout n => Sys2Proof.Machine.execVcSetvTimeout n s
  | .vcCapUncollected n => Sys2Proof.Machine.execVcCapUncollected n s
  | .pilotCheckFail ch => Sys2Proof.Machine.execPilotCheckFail ch s
  | .pilotCheckPass ch => Sys2Proof.Machine.execPilotCheckPass ch s
  | .rippleCheckFail ch => Sys2Proof.Machine.execRippleCheckFail ch s
  | .rangeCheckFail ch => Sys2Proof.Machine.execRangeCheckFail ch s
  | .phaseFailOpen p => Sys2Proof.Machine.execPhaseFailOpen p s
  | .phaseSenseDisagree p => Sys2Proof.Machine.execPhaseSenseDisagree p s
  | .phaseDrop p => Sys2Proof.Machine.execPhaseDrop p s
  | .capreqSet r => Sys2Proof.Machine.execCapreqSet r s
  | .railCapFall r => Sys2Proof.Machine.execRailCapFall r s
  | .railCapRise r => Sys2Proof.Machine.execRailCapRise r s
  | .ntcFail n => Sys2Proof.Machine.execNtcFail n s
  | .stringPresenceAbsent n => Sys2Proof.Machine.execStringPresenceAbsent n s
  | .stringQualified n => Sys2Proof.Machine.execStringQualified n s
  | .switchFeedbackClosed n => Sys2Proof.Machine.execSwitchFeedbackClosed n s
  | .switchFeedbackTimeout n => Sys2Proof.Machine.execSwitchFeedbackTimeout n s
  | .stringRemoval n cause => Sys2Proof.Machine.execStringRemoval n cause s
  | .stringReinsertion n closed => Sys2Proof.Machine.execStringReinsertion n closed s
  | .longPressOpenEnd => Sys2Proof.Machine.execLongPressOpenEnd s
  | .shipSourceGood => Sys2Proof.Machine.execShipSourceGood s
  | .strRequalify o n v => Sys2Proof.Machine.execStrRequalify o n v s
  | .chargeRun samples => Sys2Proof.Machine.execChargeRun samples s
  | .stringOvervoltage n => Sys2Proof.Machine.execStringOvervoltage n s
  | .chargeCcToAbsorb n => Sys2Proof.Machine.execChargeCcToAbsorb n s
  | .absorbEnd n => Sys2Proof.Machine.execAbsorbEnd n s
  | .rebulk n => Sys2Proof.Machine.execRebulk n s
  | .battHeartbeat o v => Sys2Proof.Machine.execBattHeartbeat o v s
  | .battWatchdogExpiry => Sys2Proof.Machine.execBattWatchdogExpiry s
  | .estimatorSample n samples => Sys2Proof.Machine.execEstimatorSample n samples s
  | .estimatorRefresh => Sys2Proof.Machine.execEstimatorRefresh s
  | .restPoint n => Sys2Proof.Machine.execRestPoint n s
  | .fallowCheck => Sys2Proof.Machine.execFallowCheck s
  | .fallowRequest o v => Sys2Proof.Machine.execFallowRequest o v s
  | .fallowConditionFail => Sys2Proof.Machine.execFallowConditionFail s
  | .fallowNoRest => Sys2Proof.Machine.execFallowNoRest s
  | .estimatorSaveInterval => Sys2Proof.Machine.execEstimatorSaveInterval s
  | .shipModeArm o v => Sys2Proof.Machine.execShipModeArm o v s
  | .shipModeConfirm o v => Sys2Proof.Machine.execShipModeConfirm o v s
  | .shipOpening => Sys2Proof.Machine.execShipOpening s
  | .longPress => Sys2Proof.Machine.execLongPress s
  | .ppKill n pair => Sys2Proof.Machine.execPpKill n pair s
  | .oringReverseTurnoff n pair => Sys2Proof.Machine.execOringReverseTurnoff n pair s
  | .seqTick samples => Sys2Proof.Machine.execSeqTick samples s
  | .ppGateLoop n voltageTerm currentTerm => Sys2Proof.Machine.execPpGateLoop n voltageTerm currentTerm s
  | .ppEnableWrite o n v => Sys2Proof.Machine.execPpEnableWrite o n v s
  | .ppInsertElapsed n => Sys2Proof.Machine.execPpInsertElapsed n s
  | .ppRampComplete n => Sys2Proof.Machine.execPpRampComplete n s
  | .ppFaultTimerExpiry n => Sys2Proof.Machine.execPpFaultTimerExpiry n s
  | .ppFaultTimerClear n => Sys2Proof.Machine.execPpFaultTimerClear n s
  | .ppRampTimeout n => Sys2Proof.Machine.execPpRampTimeout n s
  | .ppRetryOffElapsed n => Sys2Proof.Machine.execPpRetryOffElapsed n s
  | .ppRetriesReload n => Sys2Proof.Machine.execPpRetriesReload n s
  | .oringReverseRecover n => Sys2Proof.Machine.execOringReverseRecover n s
  | .ppPgQualified n => Sys2Proof.Machine.execPpPgQualified n s
  | .ppPgLostTimeout n => Sys2Proof.Machine.execPpPgLostTimeout n s
  | .wmFaultOnset m ov => Sys2Proof.Machine.execWmFaultOnset m ov s
  | .wmFaultClear m ov => Sys2Proof.Machine.execWmFaultClear m ov s
  | .wmWarningOnset m ov => Sys2Proof.Machine.execWmWarningOnset m ov s
  | .wmDacReadback m ov reading => Sys2Proof.Machine.execWmDacReadback m ov reading s
  | .rawGoodTransition r => Sys2Proof.Machine.execRawGoodTransition r s
  | .railGoodQualified r => Sys2Proof.Machine.execRailGoodQualified r s
  | .seqEntryDelayEnd => Sys2Proof.Machine.execSeqEntryDelayEnd s
  | .seqUpTimeout => Sys2Proof.Machine.execSeqUpTimeout s
  | .seqDownTimeout => Sys2Proof.Machine.execSeqDownTimeout s
  | .seqCommand o v => Sys2Proof.Machine.execSeqCommand o v s
  | .seqMinOffElapsed => Sys2Proof.Machine.execSeqMinOffElapsed s
  | .marginNarrowMove m => Sys2Proof.Machine.execMarginNarrowMove m s
  | .nop m => Sys2Proof.Machine.execNop m s
  | .end_ m => Sys2Proof.Machine.execEnd m s
  | .br m cond addr => Sys2Proof.Machine.execBr m cond addr s
  | .ldi m d imm => Sys2Proof.Machine.execLdi m d imm s
  | .mov m d a => Sys2Proof.Machine.execMov m d a s
  | .clra m => Sys2Proof.Machine.execClra m s
  | .lda m a f => Sys2Proof.Machine.execLda m a f s
  | .sta m d round => Sys2Proof.Machine.execSta m d round s
  | .mac m c a f => Sys2Proof.Machine.execMac m c a f s
  | .msu m c a f => Sys2Proof.Machine.execMsu m c a f s
  | .mpy m c a f => Sys2Proof.Machine.execMpy m c a f s
  | .add m d a b => Sys2Proof.Machine.execAdd m d a b s
  | .sub m d a b => Sys2Proof.Machine.execSub m d a b s
  | .min m d a b => Sys2Proof.Machine.execMin m d a b s
  | .max m d a b => Sys2Proof.Machine.execMax m d a b s
  | .clamp m d a b => Sys2Proof.Machine.execClamp m d a b s
  | .abs m d a => Sys2Proof.Machine.execAbs m d a s
  | .neg m d a => Sys2Proof.Machine.execNeg m d a s
  | .ash m d a f => Sys2Proof.Machine.execAsh m d a f s
  | .muls m d a b k => Sys2Proof.Machine.execMuls m d a b k s
  | .div m d a b k => Sys2Proof.Machine.execDiv m d a b k s
  | .cmp m a b => Sys2Proof.Machine.execCmp m a b s
  | .and m d a b => Sys2Proof.Machine.execAnd m d a b s
  | .or m d a b => Sys2Proof.Machine.execOr m d a b s
  | .xor m d a b => Sys2Proof.Machine.execXor m d a b s
  | .rd m d ch status => Sys2Proof.Machine.execRd m d ch status s
  | .rdLand m d => Sys2Proof.Machine.execRdLand m d s
  | .wr m cls index a => Sys2Proof.Machine.execWr m cls index a s
  | .millOutputDelivery m => Sys2Proof.Machine.execMillOutputDelivery m s
  | .illegalInstruction m => Sys2Proof.Machine.execIllegalInstruction m s
  | .millTrigger m k => Sys2Proof.Machine.execMillTrigger m k s
  | .millRunStart m => Sys2Proof.Machine.execMillRunStart m s
  | .runLimit m => Sys2Proof.Machine.execRunLimit m s
  | .millHeartbeatLost m k => Sys2Proof.Machine.execMillHeartbeatLost m k s
  | .bankCopyDone m => Sys2Proof.Machine.execBankCopyDone m s
  | .millLoad m => Sys2Proof.Machine.execMillLoad m s
  | .traceArm o m => Sys2Proof.Machine.execTraceArm o m s
  | .traceForce o m => Sys2Proof.Machine.execTraceForce o m s
  | .traceIdle o m => Sys2Proof.Machine.execTraceIdle o m s
  | .traceDumpStored m => Sys2Proof.Machine.execTraceDumpStored m s
  | .objectWrite o k v => Sys2Proof.Machine.execObjectWrite o k v s
  | .marketDispatch o k => Sys2Proof.Machine.execMarketDispatch o k s
  | .marketCompletion id memoryError => Sys2Proof.Machine.execMarketCompletion id memoryError s
  | .marketTimeout id => Sys2Proof.Machine.execMarketTimeout id s
  | .hamletResetWaitTimeout id => Sys2Proof.Machine.execHamletResetWaitTimeout id s
  | .fenceClear o v => Sys2Proof.Machine.execFenceClear o v s
  | .fenceClearOrigin o v => Sys2Proof.Machine.execFenceClearOrigin o v s
  | .hamperOpen o => Sys2Proof.Machine.execHamperOpen o s
  | .hamperStage o v => Sys2Proof.Machine.execHamperStage o v s
  | .hamperCommit o h => Sys2Proof.Machine.execHamperCommit o h s
  | .hamperCommitAt o h => Sys2Proof.Machine.execHamperCommitAt o h s
  | .hamperCommitDomain o h => Sys2Proof.Machine.execHamperCommitDomain o h s
  | .hamperRollback o h => Sys2Proof.Machine.execHamperRollback o h s
  | .hamperJoin o h node chandle => Sys2Proof.Machine.execHamperJoin o h node chandle s
  | .hamperValidationComplete => Sys2Proof.Machine.execHamperValidationComplete s
  | .applyTick => Sys2Proof.Machine.execApplyTick s
  | .hamperTimeout h => Sys2Proof.Machine.execHamperTimeout h s
  | .domainPrepareReceive f => Sys2Proof.Machine.execDomainPrepareReceive f s
  | .domainVoteReceive node f => Sys2Proof.Machine.execDomainVoteReceive node f s
  | .domainVoteDeadline h => Sys2Proof.Machine.execDomainVoteDeadline h s
  | .domainGoReceive f => Sys2Proof.Machine.execDomainGoReceive f s
  | .domainArmingPoint h => Sys2Proof.Machine.execDomainArmingPoint h s
  | .domainArmedReceive node f => Sys2Proof.Machine.execDomainArmedReceive node f s
  | .domainDecisionPoint h => Sys2Proof.Machine.execDomainDecisionPoint h s
  | .domainDecisionRepeat h => Sys2Proof.Machine.execDomainDecisionRepeat h s
  | .domainCommitReceive f => Sys2Proof.Machine.execDomainCommitReceive f s
  | .domainAbortReceive f => Sys2Proof.Machine.execDomainAbortReceive f s
  | .domainApplyTime h => Sys2Proof.Machine.execDomainApplyTime h s
  | .domainAppliedReceive node f => Sys2Proof.Machine.execDomainAppliedReceive node f s
  | .domainReportEnd h => Sys2Proof.Machine.execDomainReportEnd h s
  | .canErrorPassive c => Sys2Proof.Machine.execCanErrorPassive c s
  | .canBusOff c => Sys2Proof.Machine.execCanBusOff c s
  | .canBusoffRestart c => Sys2Proof.Machine.execCanBusoffRestart c s
  | .nmtStart c => Sys2Proof.Machine.execNmtStart c s
  | .nmtStop c => Sys2Proof.Machine.execNmtStop c s
  | .nmtPreoperational c => Sys2Proof.Machine.execNmtPreoperational c s
  | .nmtResetCommunication c => Sys2Proof.Machine.execNmtResetCommunication c s
  | .nmtResetNode c => Sys2Proof.Machine.execNmtResetNode c s
  | .heartbeatReceive c node => Sys2Proof.Machine.execHeartbeatReceive c node s
  | .heartbeatConsumerTimeout c entry => Sys2Proof.Machine.execHeartbeatConsumerTimeout c entry s
  | .heartbeatProduce => Sys2Proof.Machine.execHeartbeatProduce s
  | .usdoRequest c q => Sys2Proof.Machine.execUsdoRequest c q s
  | .usdoSegment c data last => Sys2Proof.Machine.execUsdoSegment c data last s
  | .usdoSegmentTimeout c => Sys2Proof.Machine.execUsdoSegmentTimeout c s
  | .syncReceive c counter => Sys2Proof.Machine.execSyncReceive c counter s
  | .rpdoReceive c k data => Sys2Proof.Machine.execRpdoReceive c k data s
  | .rpdoTimeout k => Sys2Proof.Machine.execRpdoTimeout k s
  | .tpdoEventCheck => Sys2Proof.Machine.execTpdoEventCheck s
  | .tpdoEventTimer k => Sys2Proof.Machine.execTpdoEventTimer k s
  | .tpdoInhibitEnd k => Sys2Proof.Machine.execTpdoInhibitEnd k s
  | .emcySend c => Sys2Proof.Machine.execEmcySend c s
  | .twWrite f => Sys2Proof.Machine.execTwWrite f s
  | .twRead f => Sys2Proof.Machine.execTwRead f s
  | .twResult addr seq collected => Sys2Proof.Machine.execTwResult addr seq collected s
  | .twSclTimeout => Sys2Proof.Machine.execTwSclTimeout s
  | .twSdaTimeout => Sys2Proof.Machine.execTwSdaTimeout s
  | .twBusRecovered => Sys2Proof.Machine.execTwBusRecovered s
  | .twResultDiscard => Sys2Proof.Machine.execTwResultDiscard s
  | .svcPing tag => Sys2Proof.Machine.execSvcPing tag s
  | .svcRate tag rate => Sys2Proof.Machine.execSvcRate tag rate s
  | .svcRateChange => Sys2Proof.Machine.execSvcRateChange s
  | .svcRateRevert => Sys2Proof.Machine.execSvcRateRevert s
  | .svcRead tag k => Sys2Proof.Machine.execSvcRead tag k s
  | .svcWrite tag k data => Sys2Proof.Machine.execSvcWrite tag k data s
  | .svcDomainRead tag k offset length => Sys2Proof.Machine.execSvcDomainRead tag k offset length s
  | .svcDomainWrite tag k offset data last => Sys2Proof.Machine.execSvcDomainWrite tag k offset data last s
  | .svcDomainCopyRelease => Sys2Proof.Machine.execSvcDomainCopyRelease s
  | .svcTraceDump tag m mask => Sys2Proof.Machine.execSvcTraceDump tag m mask s
  | .svcSlotRead tag slot offset length => Sys2Proof.Machine.execSvcSlotRead tag slot offset length s
  | .svcByteGap => Sys2Proof.Machine.execSvcByteGap s
  | .svcLinkDrop => Sys2Proof.Machine.execSvcLinkDrop s
  | .updateBegin tag slot length => Sys2Proof.Machine.execUpdateBegin tag slot length s
  | .updateEraseDone => Sys2Proof.Machine.execUpdateEraseDone s
  | .updateData tag offset data => Sys2Proof.Machine.execUpdateData tag offset data s
  | .updateEnd tag restart => Sys2Proof.Machine.execUpdateEnd tag restart s
  | .updateInactivity => Sys2Proof.Machine.execUpdateInactivity s
  | .lifecycleNonce tag => Sys2Proof.Machine.execLifecycleNonce tag s
  | .lifecycleTransition tag t => Sys2Proof.Machine.execLifecycleTransition tag t s
  | .laneLinkUp p farPortB => Sys2Proof.Machine.execLaneLinkUp p farPortB s
  | .laneLinkDown p => Sys2Proof.Machine.execLaneLinkDown p s
  | .laneWrap => Sys2Proof.Machine.execLaneWrap s
  | .laneFrameReceive p f => Sys2Proof.Machine.execLaneFrameReceive p f s
  | .laneEnableWrite o v => Sys2Proof.Machine.execLaneEnableWrite o v s
  | .rollSend => Sys2Proof.Machine.execRollSend s
  | .rollReceive f => Sys2Proof.Machine.execRollReceive f s
  | .laneJoinComplete => Sys2Proof.Machine.execLaneJoinComplete s
  | .laneNodeLost n => Sys2Proof.Machine.execLaneNodeLost n s
  | .tsyncSend p => Sys2Proof.Machine.execTsyncSend p s
  | .tsyncReceive p f => Sys2Proof.Machine.execTsyncReceive p f s
  | .dreqSend p => Sys2Proof.Machine.execDreqSend p s
  | .dreqReceive p arrival => Sys2Proof.Machine.execDreqReceive p arrival s
  | .drspReceive p t2 t3 t4 => Sys2Proof.Machine.execDrspReceive p t2 t3 t4 s
  | .holdoverEntry => Sys2Proof.Machine.execHoldoverEntry s
  | .holdoverExpiry => Sys2Proof.Machine.execHoldoverExpiry s
  | .laneTimeSet o v => Sys2Proof.Machine.execLaneTimeSet o v s
  | .odRequestReceive src q => Sys2Proof.Machine.execOdRequestReceive src q s
  | .almFetchReceive src q => Sys2Proof.Machine.execAlmFetchReceive src q s
  | .laneGwRequest o v => Sys2Proof.Machine.execLaneGwRequest o v s
  | .laneGwResult o => Sys2Proof.Machine.execLaneGwResult o s
  | .gwResponseReceive src alm last payload => Sys2Proof.Machine.execGwResponseReceive src alm last payload s
  | .gwResponseExpiry => Sys2Proof.Machine.execGwResponseExpiry s
  | .gwTimeout tag node => Sys2Proof.Machine.execGwTimeout tag node s
  | .watchEvaluation => Sys2Proof.Machine.execWatchEvaluation s
  | .sourceQuiet k => Sys2Proof.Machine.execSourceQuiet k s
  | .sourceClearFromQuiet k => Sys2Proof.Machine.execSourceClearFromQuiet k s
  | .srcEnableWrite o k v => Sys2Proof.Machine.execSrcEnableWrite o k v s
  | .srcForce o k v => Sys2Proof.Machine.execSrcForce o k v s
  | .memoryCorrected mem => Sys2Proof.Machine.execMemoryCorrected mem s
  | .memoryUncorrectable mem => Sys2Proof.Machine.execMemoryUncorrectable mem s
  | .memLockRevoke h => Sys2Proof.Machine.execMemLockRevoke h s
  | .greenLockRevoke h => Sys2Proof.Machine.execGreenLockRevoke h s
  | .watchSelfCheckFail mismatch => Sys2Proof.Machine.execWatchSelfCheckFail mismatch s
  | .supplyWarning reading => Sys2Proof.Machine.execSupplyWarning reading s
  | .supplyOutOfWindow ch reading => Sys2Proof.Machine.execSupplyOutOfWindow ch reading s
  | .dieSensorRead readings => Sys2Proof.Machine.execDieSensorRead readings s
  | .thermalShutdown => Sys2Proof.Machine.execThermalShutdown s
  | .thermalRecordDone => Sys2Proof.Machine.execThermalRecordDone s
  | .thermalRestart => Sys2Proof.Machine.execThermalRestart s
  | .orderlyStopStart => Sys2Proof.Machine.execOrderlyStopStart s
  | .orderlyStopSeqOff => Sys2Proof.Machine.execOrderlyStopSeqOff s
  | .heldRecordFlush => Sys2Proof.Machine.execHeldRecordFlush s
  | .recordWriteDone => Sys2Proof.Machine.execRecordWriteDone s
  | .sectorEraseDone => Sys2Proof.Machine.execSectorEraseDone s
  | .flashProgramFail => Sys2Proof.Machine.execFlashProgramFail s
  | .almanacCheckpoint => Sys2Proof.Machine.execAlmanacCheckpoint s
  | .resetFlushEnd => Sys2Proof.Machine.execResetFlushEnd s
  | .exportStart o v => Sys2Proof.Machine.execExportStart o v s
  | .exportAbandon o v => Sys2Proof.Machine.execExportAbandon o v s
  | .exportReceipt o digest => Sys2Proof.Machine.execExportReceipt o digest s
  | .twinStateReceive f => Sys2Proof.Machine.execTwinStateReceive f s
  | .twinLinkLost => Sys2Proof.Machine.execTwinLinkLost s
  | .twinStateSend => Sys2Proof.Machine.execTwinStateSend s
  | .trackSend => Sys2Proof.Machine.execTrackSend s
  | .trackReceive f => Sys2Proof.Machine.execTrackReceive f s
  | .mirrorSend => Sys2Proof.Machine.execMirrorSend s
  | .mirrorReceive seq full items => Sys2Proof.Machine.execMirrorReceive seq full items s
  | .resyncReceive => Sys2Proof.Machine.execResyncReceive s
  | .ownInRise simultaneous => Sys2Proof.Machine.execOwnInRise simultaneous s
  | .releaseHoldEnd => Sys2Proof.Machine.execReleaseHoldEnd s
  | .releaseTimeout => Sys2Proof.Machine.execReleaseTimeout s
  | .ownInFall gap => Sys2Proof.Machine.execOwnInFall gap s
  | .staleHolderClaim => Sys2Proof.Machine.execStaleHolderClaim s
  | .alternateStartClaim => Sys2Proof.Machine.execAlternateStartClaim s
  | .twinExercise o v => Sys2Proof.Machine.execTwinExercise o v s
  | .returnHoldoffEnd => Sys2Proof.Machine.execReturnHoldoffEnd s
  | .powerOnReset => Sys2Proof.Machine.execPowerOnReset s
  | .powerOnRelease straps => Sys2Proof.Machine.execPowerOnRelease straps s
  | .rstAssert => Sys2Proof.Machine.execRstAssert s
  | .rstRelease => Sys2Proof.Machine.execRstRelease s
  | .chipResetCmd o v => Sys2Proof.Machine.execChipResetCmd o v s
  | .bootRegulatorsReady => Sys2Proof.Machine.execBootRegulatorsReady s
  | .bootWipeComplete => Sys2Proof.Machine.execBootWipeComplete s
  | .bootReferenceLocked => Sys2Proof.Machine.execBootReferenceLocked s
  | .bootNorDiscovered part recov => Sys2Proof.Machine.execBootNorDiscovered part recov s
  | .bootImageChecked slotB => Sys2Proof.Machine.execBootImageChecked slotB s
  | .bootReeveStart => Sys2Proof.Machine.execBootReeveStart s
  | .bootParameterLoad closed => Sys2Proof.Machine.execBootParameterLoad closed s
  | .bootMillworkLoaded => Sys2Proof.Machine.execBootMillworkLoaded s
  | .bootComplete => Sys2Proof.Machine.execBootComplete s
  | .paramStoreCmd o v => Sys2Proof.Machine.execParamStoreCmd o v s
  | .paramStoreDone => Sys2Proof.Machine.execParamStoreDone s
  | .paramStoreFail => Sys2Proof.Machine.execParamStoreFail s
  | .vcFrameNack n frame => Sys2Proof.Machine.execVcFrameNack n frame s
  | .svcCrcError => Sys2Proof.Machine.execSvcCrcError s
  | .svcUnknownCommand tag cmd => Sys2Proof.Machine.execSvcUnknownCommand tag cmd s
  | .errorActiveReturn c => Sys2Proof.Machine.execErrorActiveReturn c s
  | .supplyWarningClear => Sys2Proof.Machine.execSupplyWarningClear s
  | .wmWarningClear m ov => Sys2Proof.Machine.execWmWarningClear m ov s
  | .shipPatternComplete n => Sys2Proof.Machine.execShipPatternComplete n s
  | .estimatorSlotWriteDone => Sys2Proof.Machine.execEstimatorSlotWriteDone s
  | .lifecycleEraseComplete => Sys2Proof.Machine.execLifecycleEraseComplete s
  | .updateRestartReset => Sys2Proof.Machine.execUpdateRestartReset s
  | .updateDataProgrammed => Sys2Proof.Machine.execUpdateDataProgrammed s

end Sys2Proof.Machine
end

