-- ==== Sys2Proof/Safety.lean ====
section
/-! DEFINITION. What statements about the machine are said in: the parts of the chip, a change confined to some of them,
and a command that completes. -/

namespace Sys2Proof.Machine

/-- The parts of the chip: the fields of `Chip`. -/
inductive Part where
  | clock | hamlets | green | chans | rms | bus | well | cap | phases | rails | vcs | strs | ests | batt | pps | wms | seq | mills
  | market | hampers | can | tw | svc | update | lc | lane | gw | watch | reeve | therm | alm | twin | boot | fuses | nor
  | test | od | fresh
deriving DecidableEq, Repr

/-- What a part holds. -/
abbrev Part.Value : Part → Type
  | .clock => Clock
  | .hamlets => Vector Hamlet 27
  | .green => Green
  | .chans => Vector Chan 256
  | .rms => Vector Rm 8
  | .bus => Bus
  | .well => Well
  | .cap => Cap
  | .phases => Vector Phase 32
  | .rails => Vector Rail 16
  | .vcs => Vector Vc 4
  | .strs => Vector Str 4
  | .ests => Vector Est 4
  | .batt => Batt
  | .pps => Vector Pp 8
  | .wms => Vector Wm 64
  | .seq => Seq
  | .mills => Vector Mill 16
  | .market => Market
  | .hampers => Hampers
  | .can => Can
  | .tw => TwoWire
  | .svc => Svc
  | .update => Update
  | .lc => LcCommand
  | .lane => Lane
  | .gw => Gateway
  | .watch => Watch
  | .reeve => Reeve
  | .therm => Therm
  | .alm => Alm
  | .twin => Twin
  | .boot => Boot
  | .fuses => Fuses
  | .nor => Nor
  | .test => TestPort
  | .od => List (Key × Val)
  | .fresh => Nat

/-- A part of the chip. -/
def part : (p : Part) → Chip → p.Value
  | .clock, c => c.clock
  | .hamlets, c => c.hamlets
  | .green, c => c.green
  | .chans, c => c.chans
  | .rms, c => c.rms
  | .bus, c => c.bus
  | .well, c => c.well
  | .cap, c => c.cap
  | .phases, c => c.phases
  | .rails, c => c.rails
  | .vcs, c => c.vcs
  | .strs, c => c.strs
  | .ests, c => c.ests
  | .batt, c => c.batt
  | .pps, c => c.pps
  | .wms, c => c.wms
  | .seq, c => c.seq
  | .mills, c => c.mills
  | .market, c => c.market
  | .hampers, c => c.hampers
  | .can, c => c.can
  | .tw, c => c.tw
  | .svc, c => c.svc
  | .update, c => c.update
  | .lc, c => c.lc
  | .lane, c => c.lane
  | .gw, c => c.gw
  | .watch, c => c.watch
  | .reeve, c => c.reeve
  | .therm, c => c.therm
  | .alm, c => c.alm
  | .twin, c => c.twin
  | .boot, c => c.boot
  | .fuses, c => c.fuses
  | .nor, c => c.nor
  | .test, c => c.test
  | .od, c => c.od
  | .fresh, c => c.fresh

/-- `d` differs from `c` in the named parts at most: every other part of the chip is as it was. -/
def Only (l : List Part) (c d : Chip) : Prop := ∀ p, p ∉ l → part p d = part p c

/-- The packet is a control signal, not a request. -/
def isSignal : Packet → Bool
  | .signal _ => true
  | .request _ => false

/-- The command answers a next state: the queue is as it was, the chip changes in the named parts at most and
satisfies `P`. -/
def Gives (i : Instr) (s : State) (l : List Part) (P : Chip → Prop) : Prop :=
  ∃ c, exec i s = .next { s with chip := c } ∧ Only l s.chip c ∧ P c

/-- A response of a voltage command port (R100, R101): its word and data word, and the CRC-8 that ends it. -/
def vcResponseOf (word : Nat) (data : Option (BitVec 16)) : VcResponse :=
  { word := BitVec.ofNat 16 word, data := data
    crc := BitVec.ofNat 8 (crc8Bits (bitsOf 16 (word % 65536) ++ (data.map fun d => bitsOf 16 d.toNat).getD []) 0) }

/-- The rail has just gone to a state (R86, R87, R104): no period has counted in it yet. -/
def wentTo (x : Rail) (st : RailState) (now : Nat) : Rail := { x with state := st, since := now, quiet := 0, settled := 0 }

/-- The request that a sender's next write or read makes (R256), once its hamlet has taken it. -/
def ownRequest (o : Origin) (k : Key) (data : Option (List Byte)) (c : Chip) : Req :=
  { id := c.market.nextId, origin := o, k := k, data := data, reply := .own, dispatched := true, taken := true,
    admitted := c.clock.laneNs }

/-- The market has given the request its slot. -/
def placed (q : Req) (c : Chip) : Chip :=
  { c with market := { c.market with
      nextId := c.market.nextId + 1, reqs := c.market.reqs ++ [q], peak := max c.market.peak (c.market.reqs.length + 1) } }

/-- A write or read of the sender reaches its target at once (R256, R257, R258): the chip runs, the market and the
target's hamlet take packets, a slot is free, no fence stands, the object admits it, no request of the sender to the
object is outstanding, and the sender stages nothing (or the object is never staged). -/
def reaches (o : Origin) (k : Key) (write : Bool) (c : Chip) : Bool :=
  live c && !hamletShut c.hamlets[(3 : Fin 27)] && slotFree c o && !fencedPair c o k && pathFree (hamletOf c k) c &&
    (if write then writeCheck c o k false == .ok && (stageOf c o == 0 || stageExempt k) else readCheck c o k == .ok) &&
    c.market.reqs.all fun q => q.id != c.market.nextId && !(q.origin == o && q.k == k)

/-- The number is of the object's type and in its range (R473). -/
def admissible (k : Key) (v : Int) : Bool :=
  match objOf k with
  | some d => valueCheck k (d.render (.num v)) == (.ok, .num v)
  | none => false

/-- The write that the sender made in `c` has completed with OK in `d`, the last to complete. -/
def writeDone (o : Origin) (k : Key) (c d : Chip) : Prop :=
  d.market.done.getLast? = some { id := c.market.nextId, origin := o, k := k, write := true, status := .ok }

/-- The mill after an instruction that writes the word `w` to the state word `d`; the PC moves on. -/
def wroteWord (x : Mill) (d : Fin 128) (w : Word) : Mill := { x with words := x.words.set d w, pc := x.pc + 1 }

/-- The mill after an instruction whose exact result is `v`: the state word `d` holds it saturated at 32 bits, V is set
where it saturates (R216), and the PC moves on. -/
def wroteSat (x : Mill) (d : Fin 128) (v : Int) : Mill :=
  { wroteWord x d (BitVec.ofInt 32 (max (-2147483648) (min 2147483647 v))) with
    v := x.v || decide (v < -2147483648) || decide (2147483647 < v) }

/-- P of R215 before it is rounded: Cv × S[a] × 2^(Cs + F), with the slot `k` of the active bank. -/
def exactProduct (x : Mill) (k : Fin 256) (a : Fin 128) (f : BitVec 6) : Rat :=
  let q := if x.activeB then x.bankB[k] else x.bankA[k]
  (q.value.toInt * x.words[a].toInt : Int) * (2 : Rat) ^ (q.shift + f.toInt)

/-- The mill after an instruction whose exact result is `v`: ACC holds it saturated at 64 bits, V is set where it
saturates (R216), and the PC moves on. -/
def wroteAcc (x : Mill) (v : Int) : Mill :=
  { x with
    acc := BitVec.ofInt 64 (max (-9223372036854775808) (min 9223372036854775807 v)), pc := x.pc + 1
    v := x.v || decide (v < -9223372036854775808) || decide (9223372036854775807 < v) }

/-- The transitions of Table 14.11. -/
def transitionListed : LifeCycle → LifeCycle → Bool
  | .blank, .provisioned | .provisioned, .deployed | .deployed, .service | .service, .deployed => true
  | .provisioned, .retired | .deployed, .retired | .service, .retired => true
  | _, _ => false

/-- The life-cycle fuses hold a history that the transitions of Table 14.11 can make: nothing is blown before P, no service
fuse before D and no more than the 64 there are; and a transition that has been accepted is one of the table. -/
def lifeCycleInv (c : Chip) : Prop :=
  (c.fuses.d ∨ c.fuses.x → c.fuses.p) ∧ (0 < c.fuses.service → c.fuses.d) ∧ c.fuses.service ≤ 64 ∧
    ∀ t, c.lc.accepted = some t → transitionListed (lifeCycle c) t ∧ (t = .service → c.fuses.service < 63)

/-- The events of a source that wait at the WATCH stile. -/
def eventsOf (i : Fin 256) (c : Chip) : Nat := (c.watch.arrived.filter fun e => e.src == i).length

end Sys2Proof.Machine
end

