-- ==== Sys2Proof/Certificates/Slice0/Obligations.lean ====
section
/-! DEFINITION. The statements for the provers. -/

open Sys2Proof Sys2Proof.Machine

/-- REFERENCE_LOST and REFERENCE_RETURN move ALMANAC to and from its RC fallback. A block reset ends with the hamlet closed,
its clock running and its stile realigning, MARKET empty and fenced. Mark-ready opens a hamlet. The oldest control signal at a
stile takes effect. An access wakes a stopped hamlet, and what waited is taken; a failed wake raises the hamlet source and ends
its requests. A parked hamlet stops again. The Reeve watchdog makes a chip reset. Every other part of the chip is unchanged. Rests on R12, R14, R17, R19, R21,
R22, R24, R268. -/
def Obligations.ClockAndHamletCommands : Prop :=
  (∀ (s : State), resettable s.chip → s.chip.clock.refLost = false →
    Gives .referenceLost s [.clock, .hamlets, .market, .hampers, .can, .tw, .svc, .lane, .watch, .alm] fun c =>
      c.clock.refLost = true ∧ c.clock.almFallback = true) ∧
  (∀ (s : State), resettable s.chip → s.chip.clock.refLost = true →
    Gives .referenceReturn s [.clock, .hamlets, .market, .hampers, .can, .tw, .svc, .lane, .watch, .alm] fun c =>
      c.clock.refLost = false ∧ c.clock.almFallback = false) ∧
  (∀ (s : State) (h : Fin 27), s.chip.hamlets[h].blkrst = true →
    Gives (.blockResetComplete h) s [.hamlets, .market, .can, .tw, .svc, .lane] fun c =>
      c.hamlets[h].blkrst = false ∧ c.hamlets[h].closed = true ∧ c.hamlets[h].run = true ∧ c.hamlets[h].realign = true ∧
      (h.val = 3 → c.market.reqs = [] ∧ c.market.fences = [] ∧ c.market.originFences = allOrigins.filter (· != .reeve)) ∧
      (h.val ≠ 3 → c.market = s.chip.market)) ∧
  (∀ (s : State) (h : Fin 27), s.chip.hamlets[h].closed = true → s.chip.hamlets[h].blkrst = false → reeveRuns s.chip →
    Gives (.hamletMarkReady h) s [.clock, .hamlets, .green, .rms, .bus, .well, .phases, .rails, .strs, .batt, .mills, .market,
      .hampers, .can, .tw, .svc, .lane, .watch, .alm, .od] fun c => c.hamlets[h].closed = false ∧ c.hamlets[h].realign = false) ∧
  (∀ (s : State) (h : Fin 27) (g : Signal) (rest : List Packet), hamletShut s.chip.hamlets[h] = false → firstSignal
    s.chip.hamlets[h].inbox = some (g, rest) →
    Gives (.controlSignalDelivery h) s [.hamlets, .green, .chans, .rms, .bus, .phases, .rails, .vcs, .strs, .pps, .wms, .seq,
      .market, .watch, .reeve] fun c =>
      rest <+: c.hamlets[h].inbox ∧ match g with
      | .interrupt i => c.reeve.interrupts = s.chip.reeve.interrupts ++ [i]
      | .trap i => c.reeve.traps = s.chip.reeve.traps ++ [i]
      | .kill r => c.rails[r].killed = true ∧ ∀ p ∈ phasesOf s.chip r, c.phases[p].kill = true
      | .start => h.val = 4 → c.seq.state ≠ .off
      | .stop => h.val = 4 → c.seq.state = .off ∨ c.seq.state = .powerDown) ∧
  (∀ (s : State) (h : Fin 27), live s.chip → 2 ≤ h.val → s.chip.hamlets[h].run = false → s.chip.hamlets[h].blkrst = false →
    Gives (.wakeOnAccess h) s [.hamlets, .green, .market] fun c =>
      c.hamlets[h].run = true ∧ c.hamlets[h].waking = false ∧
      c.hamlets[h].wakes = satSucc 65535 s.chip.hamlets[h].wakes ∧
      (s.chip.hamlets[h].closed = false → s.chip.hamlets[h].inbox.filter isSignal <+: c.hamlets[h].inbox ∧
      ∀ q ∈ c.market.reqs, .request q.id ∈ s.chip.hamlets[h].inbox → q.taken = true)) ∧
  (∀ (s : State) (h : Fin 27), live s.chip → 2 ≤ h.val → s.chip.hamlets[h].waking = true →
    Gives (.wakeTimeout h) s [.hamlets, .market, .can, .tw, .svc, .lane, .watch] fun c =>
      c.hamlets[h].waking = false ∧ c.watch = (raise (192 + h) 3 0 s.chip).watch ∧
      ∀ q ∈ waitingAt h s.chip, reqOf c q.id = none) ∧
  (∀ (s : State) (h : Fin 27), s.chip.hamlets[h].parked = true → s.chip.hamlets[h].run = true →
    Gives (.parkedHamletIdleStop h) s [.hamlets] fun c =>
      c.hamlets = s.chip.hamlets.set h { s.chip.hamlets[h] with run := false }) ∧
  (∀ (s : State), reeveRuns s.chip → s.chip.watch.safe = false → resettable s.chip →
    ∃ c, exec .reeveWatchdogExpiry s = .next { s with chip := c } ∧
      c.boot.phase = .flushing ∧ c.boot.cause = .reeveWatchdog ∧ c.reeve.watchdog = true ∧ c.clock.us = s.chip.clock.us ∧
      c.fuses = s.chip.fuses ∧ ∀ i : Fin 4, c.strs[i].sw = s.chip.strs[i].sw)

/-- SHARE_OVERRANGE on an input above 2.45 V latches SHAREOOR, takes the port out of the active set and raises source 48 + n at
onset. RM_ALARM_DEGLITCHED sets RMn_EN and ALARM by their conditions, with an event at onset. Once the first 10 ms of samples
are in, a tap takes its new judgement, with an event when it is not valid, and channel 157 the lowest valid tap; no valid tap
raises source 58. A BUSSHARE run with a valid tap writes the trim of every fitted port anew, one without empties the active set,
and one while the trims are held puts every port at rest: neutral, or low where none is fitted. TRIM_STALE_NEUTRAL does the
same. BUS_OUT_OF_RANGE on a bus out of range raises source 56 with the bus voltage. Rests on R35, R36, R37, R40, R41, R42, R43,
R45, R47, R48. -/
def Obligations.RectifierAndTapCommands : Prop :=
  (∀ (s : State) (n : Fin 8), 2450000 < (chanOf s.chip (48 + n)).pin →
    Gives (.shareOverrange n) s [.rms, .bus, .watch] fun c =>
      c.rms[n].shareOor = true ∧ c.rms[n].fallback = true ∧ (∀ m : Fin 8, m ≠ n → c.rms[m] = s.chip.rms[m]) ∧
      c.watch = if s.chip.rms[n].shareOor then s.chip.watch else (raise (48 + n) 2 0 s.chip).watch) ∧
  (∀ (s : State) (n : Fin 8) (level : Bool),
    Gives (.rmAlarmDeglitched n level) s [.rms, .bus, .watch] fun c =>
      c.rms[n].alarmIn = level ∧
      c.rms[n].en = (flag s.chip (kRmFitted n) && flag s.chip (kRmEnableCmd n) && s.chip.rms[n].seqEn) ∧
      c.rms[n].alarm = (c.rms[n].en && level == flag s.chip (kRmAlarmActiveHigh n)) ∧
      c.rms[n].trimDriven = flag s.chip (kRmFitted n) ∧ (flag s.chip (kRmFitted n) = false → c.rms[n].trim = 0) ∧
      (c.rms[n].alarm = true → c.rms[n].fallback = true) ∧ (∀ m : Fin 8, m ≠ n → c.rms[m] = s.chip.rms[m]) ∧
      c.watch = if c.rms[n].alarm && !s.chip.rms[n].alarm then (raise (48 + n) 1 0 s.chip).watch else s.chip.watch) ∧
  (∀ (s : State) (k : Fin 4) (inTolerance : Bool), tapsSettled s.chip →
    Gives (.tapValidityChange k inTolerance) s [.chans, .bus, .watch] fun c =>
      c.bus = { s.chip.bus with tapOk := s.chip.bus.tapOk.set k (inTolerance && tapWithin s.chip k) } ∧
      (∀ j, lowestTap c = some j → (chanOf c 157).word = (chanOf s.chip (56 + j)).word) ∧
      c.watch = if hasBit (nat s.chip kBusTapFitted) k && !tapValid c k then (raise 58 1 k s.chip).watch else s.chip.watch) ∧
  (∀ (s : State), tapsSettled s.chip → anyTapValid s.chip = false →
    Gives .noValidTapRepeat s [.watch] fun c =>
      c.watch = (raise 58 2 0 s.chip).watch) ∧
  (∀ (s : State) (samples : List Sample) (u : Unit4), samples.all Sample.fits → trackOf s.chip = none → hostOf s.chip 3 0 = some u
    → unitRuns (takeSamples samples s.chip) u → trimsHeld s.chip = false →
    Gives (.busshareRun samples) s [.chans, .rms, .bus, .wms, .mills, .watch, .fresh] fun c =>
      (∀ n ∈ fittedRms s.chip, c.rms[n].writtenAt = s.chip.clock.us) ∧
      (anyTapValid (takeSamples samples s.chip) = false → ∀ n : Fin 8, c.rms[n].fallback = true)) ∧
  (∀ (s : State) (samples : List Sample) (u : Unit4), samples.all Sample.fits → trackOf s.chip = none → hostOf s.chip 3 0 = some u
    → unitRuns (takeSamples samples s.chip) u → trimsHeld s.chip = true →
    Gives (.busshareRun samples) s [.chans, .rms, .bus, .wms, .mills, .watch, .fresh] fun c =>
      ∀ n : Fin 8, c.rms[n].trim = restTrim s.chip n ∧ c.rms[n].fallback = true) ∧
  (∀ (s : State), live s.chip →
    Gives .trimStaleNeutral s [.rms, .bus] fun c =>
      (∀ n : Fin 8, c.rms[n].trim = restTrim s.chip n ∧ c.rms[n].fallback = true ∧ c.rms[n].integ = 0) ∧ c.bus.iv = 0) ∧
  (∀ (s : State), live s.chip → busOutside s.chip →
    Gives .busOutOfRange s [.watch] fun c =>
      c.watch = (raise 56 1 (busHundredMicro s.chip) s.chip).watch)

/-- A SHARE of an owning member advances the sequence number of class 1 by one. A valid SHARE frame of another member of the group
becomes its newest entry and ends silence. PlantTrim stays within ShareBand, or ramps while the group is silent. Silence raises
source 60 and starts a ramp of 1,000 steps. A WELLRATE run publishes demand on channel 158, counts to ten, and the tenth ends
STALE. The string part is the sum over the strings that count. A stale well raises source 57 and is then recomputed with a bus
part of 0 J. Rests on R49, R50, R51, R53, R55, R241. -/
def Obligations.PlantSharingAndWellCommands : Prop :=
  (∀ (s : State), nat s.chip kShareGroup ≠ 0 → drives s.chip → s.chip.lane.state = .member → laneActive s.chip →
    Gives .shareFrameSend s [.lane] fun c =>
      c.lane.seqs = s.chip.lane.seqs.set 1 (s.chip.lane.seqs[(1 : Fin 16)] + 1)) ∧
  (∀ (s : State), nat s.chip kShareGroup ≠ 0 → drives s.chip → s.chip.bus.state ≠ .handover → 0 ≤ num s.chip kShareBand →
    Gives .plantTrimUpdate s [.bus, .fresh] fun c =>
      (s.chip.bus.silent = true → c.bus.rampLeft = s.chip.bus.rampLeft - 1) ∧
      (s.chip.bus.silent = false → -hundredMicro (num s.chip kShareBand) ≤ c.bus.plantTrim ∧
      c.bus.plantTrim ≤ hundredMicro (num s.chip kShareBand))) ∧
  (∀ (s : State) (node : Fin 1024) (p : SharePayload), p.fits → laneMember s.chip → nat s.chip kShareGroup ≠ 0 → p.group.toNat =
    nat s.chip kShareGroup → node.val ≠ s.chip.lane.nodeIdNow →
    Gives (.shareFrameReceive node p) s [.bus] fun c =>
      c.bus.members = { node := node, budget := p.budget, demand := p.demand, heardAt := s.chip.clock.us } ::
      s.chip.bus.members.filter (fun m => m.node != node) ∧ c.bus.silent = false) ∧
  (∀ (s : State), nat s.chip kShareGroup ≠ 0 → live s.chip →
    Gives .shareGroupSilent s [.bus, .watch] fun c =>
      c.bus = { s.chip.bus with silent := true, rampFrom := s.chip.bus.plantTrim, rampLeft := 1000 } ∧
      c.watch = (raise 60 1 0 s.chip).watch) ∧
  (∀ (s : State) (samples : List Sample) (u : Unit4), samples.all Sample.fits → hostOf s.chip 5 0 = some u → unitRuns
    (takeSamples samples s.chip) u →
    Gives (.wellrateRun samples) s [.chans, .bus, .well, .wms, .mills, .watch, .fresh] fun c =>
      (chanOf c 158).writtenAt = some s.chip.clock.us ∧ c.well.runs = (s.chip.well.runs + 1) % 10 ∧
      (c.well.runs = 0 → c.well.stale = false)) ∧
  (∀ (s : State), live s.chip →
    Gives .wellStringReplace s [.well] fun c =>
      c.well.stringJ = (((List.finRange 4).filter (wellCounts s.chip)).map fun k =>
      (s.chip.ests[k].usableJ : Rat) * pct (num s.chip kWellConvEff)).foldl (· + ·) 0) ∧
  (∀ (s : State), live s.chip → s.chip.well.stale = false →
    Gives .wellStale s [.well, .watch] fun c =>
      c.well = { s.chip.well with stale := true } ∧ c.watch = (raise 57 1 0 s.chip).watch) ∧
  (∀ (s : State), live s.chip → s.chip.well.stale = true →
    Gives .wellReeveUpdate s [.well] fun c =>
      c.well.publishedBus = 0 ∧ c.well.published = c.well.publishedString ∧ c.well.stale = true)

/-- A trigger in ON-SOURCE or HANDBACK, where the lowest valid tap lies below HandoverLevel or every fitted, enabled rectifier
alarms, leaves for HANDOVER, or at once beyond it, with every trim at rest and the fall time, demand and budget noted.
Completion counts a hand-over and moves to QUALIFYING or ON-BATTERY as the source is good or not. A good source starts and a bad
one ends QUALIFYING. A qualified source starts HANDBACK, each string in FLOAT charging in CC or, under WDFALLBACK, FLOAT. HANDBACK ends in ON-SOURCE with xb 0. Rests on R56, R60, R62, R134, R136. -/
def Obligations.HandoverAndHandbackCommands : Prop :=
  (∀ (s : State) (fallTime : Nat) (samples : List Sample), fallTime < 2 ^ 32 → samples.all Sample.fits → drives s.chip →
    s.chip.bus.state = .onSource ∨ s.chip.bus.state = .handback → triggerHolds (takeSamples samples s.chip) →
    Gives (.handoverTrigger fallTime samples) s [.chans, .rms, .bus, .well, .cap, .vcs, .strs, .batt, .pps, .wms, .mills, .hampers,
      .can, .watch, .alm, .fresh] fun c =>
      (c.bus.state = .handover ∨ c.bus.state = .onBattery ∨ c.bus.state = .qualifying) ∧ c.bus.fallTime = fallTime ∧
      c.bus.triggerDemand = s.chip.cap.demandBefore ∧ c.bus.triggerBudget = s.chip.cap.budget ∧
      ∀ n : Fin 8, c.rms[n].trim = restTrim s.chip n ∧ c.rms[n].fallback = true) ∧
  (∀ (s : State) (timedOut : Bool), s.chip.bus.state = .handover → drives s.chip → (timedOut || !((List.finRange 4).any (available
    s.chip)) || allDischarging s.chip) = true →
    Gives (.handoverComplete timedOut) s [.bus, .well, .hampers, .watch] fun c =>
      c.bus.state = (if sourceGood s.chip then .qualifying else .onBattery) ∧ c.bus.since = s.chip.clock.us ∧
      c.bus.handovers = (s.chip.bus.handovers + 1) % 2 ^ 32 ∧
      c.well.noString = (!((List.finRange 4).any (available s.chip)) || !allDischarging s.chip)) ∧
  (∀ (s : State), s.chip.bus.state = .onBattery → drives s.chip → sourceGood s.chip →
    Gives .sourceBecomesGood s [.bus] fun c =>
      c.bus = { s.chip.bus with state := .qualifying, since := s.chip.clock.us }) ∧
  (∀ (s : State), s.chip.bus.state = .qualifying → drives s.chip → sourceGood s.chip = false →
    Gives .sourceStopsGood s [.bus] fun c =>
      c.bus = { s.chip.bus with state := .onBattery, since := s.chip.clock.us }) ∧
  (∀ (s : State), s.chip.bus.state = .qualifying → drives s.chip → sourceGood s.chip →
    Gives .sourceQualified s [.bus, .strs] fun c =>
      c.bus.state = .handback ∧ c.bus.since = s.chip.clock.us ∧
      ∀ k : Fin 4, c.strs[k] = if s.chip.strs[k].phase = .float then
      { s.chip.strs[k] with phase := if s.chip.strs[k].wdFallback then .float else .cc } else s.chip.strs[k]) ∧
  (∀ (s : State), s.chip.bus.state = .handback → drives s.chip →
    Gives .handbackRampEnd s [.bus, .batt] fun c =>
      c.bus = { s.chip.bus with state := .onSource, since := s.chip.clock.us } ∧ c.batt = { s.chip.batt with xb := 0 })

/-- An evaluation computes budget and demand; with CapEnable 0 it releases every stage. A re-evaluation after a shed computes them
again. A restore takes the last shed port off the list. A level rises by at most 1.00 %, CapDoorLevel before CapVcLevel, and a
change of CapDoorLevel counts in CapSequence. The cap PDO repeats while CapDoorLevel is below 10,000, and stage 3 or 4 raises
source 61. Rests on R63, R64, R65, R66, R68, R69. -/
def Obligations.CappingCommands : Prop :=
  (∀ (s : State), drives s.chip →
    Gives .capEvaluation s [.cap, .vcs, .pps, .can] fun c =>
      c.cap.budget = budgetNow s.chip ∧ c.cap.demand = demandNow s.chip ∧
      (flag s.chip kCapEnable = false → c.cap.stage = 0 ∧ c.cap.shed = [] ∧ c.cap.vcLevel = 10000 ∧ c.cap.doorLevel = 10000 ∧
      c.cap.chargeLimit = none)) ∧
  (∀ (s : State), drives s.chip → s.chip.cap.awaitReeval = true →
    Gives .shedReevaluate s [.cap, .vcs, .pps, .can] fun c =>
      c.cap.budget = budgetNow s.chip ∧ c.cap.demand = demandNow s.chip) ∧
  (∀ (s : State) (n : Fin 8), drives s.chip → (refreshCap s.chip).cap.shed.getLast? = some n → capExcess (refreshCap s.chip) ≤ 0 →
    (s.chip.pps[n].shedPower : Rat) < -capExcess (refreshCap s.chip) →
    Gives .capRestore s [.cap, .pps] fun c =>
      c.cap.shed = (refreshCap s.chip).cap.shed.dropLast ∧ c.pps[n].state ≠ .shed) ∧
  (∀ (s : State), drives s.chip → capExcess s.chip ≤ 0 → s.chip.cap.shed = [] → s.chip.cap.doorLevel < 10000 →
    Gives .capLevelRise s [.cap, .vcs, .can] fun c =>
      c.cap.doorLevel = min 10000 (s.chip.cap.doorLevel + 100) ∧ c.cap.vcLevel = s.chip.cap.vcLevel ∧
      c.cap.sequence = s.chip.cap.sequence + 1) ∧
  (∀ (s : State), drives s.chip → capExcess s.chip ≤ 0 → s.chip.cap.shed = [] → s.chip.cap.doorLevel = 10000 → s.chip.cap.vcLevel
    < 10000 →
    Gives .capLevelRise s [.cap, .vcs, .can] fun c =>
      c.cap.vcLevel = min 10000 (s.chip.cap.vcLevel + 100) ∧ c.cap.doorLevel = 10000) ∧
  (∀ (s : State), drives s.chip → s.chip.cap.doorLevel < 10000 →
    Gives .capPdoRepeat s [.can] fun c =>
      c.can = (capPdo s.chip).can) ∧
  (∀ (s : State), drives s.chip → 3 ≤ s.chip.cap.stage →
    Gives .capStageEventRepeat s [.watch] fun c =>
      c.watch = (raise 61 1 s.chip.cap.stage s.chip).watch)

/-- A rail leaves ON-DELAY for RAMP with its reference at the sensed output (0 for BIDIR), its active phases driven, and its
command RailTarget. It enters REGULATE once the reference stands at the commanded value (a BIDIR rail: once it is quiet), leaves
OFF-DELAY for RAMP-DOWN at its slope, and comes to OFF, once the reference is 0 (a BIDIR rail: once it is quiet), with its phases
low and readmitted. Lost feedback takes a switching rail to FB-HOLD with FBLOST and an event, its duties held; then to DUTY-RAMP,
in which each falls from where it stood, and, once all are 0, to FAULT with its phases low. A FAULT rail whose cause has cleared returns to ON-DELAY. Rests on R85, R86,
R87, R88, R112. -/
def Obligations.RailStateCommands : Prop :=
  (∀ (s : State) (r : Fin 16), s.chip.rails[r].state = .onDelay → drives s.chip →
    Gives (.onDelayElapsed r) s [.chans, .phases, .rails, .vcs, .watch] fun c =>
      c.rails[r].state = .ramp ∧ c.rails[r].vcHolds = false ∧
      c.rails[r].ref = (if railType s.chip r = 2 then 0 else max 0 (chanInt s.chip (32 + r))) ∧
      c.rails[r].command = num s.chip (kRailTarget r) ∧ c.rails[r].target = num s.chip (kRailTarget r) ∧
      (∀ p ∈ activePhases s.chip r, c.phases[p].drven = true ∧ c.phases[p].enabled = true) ∧
      ∀ q : Fin 16, q ≠ r → c.rails[q] = s.chip.rails[q]) ∧
  (∀ (s : State) (r : Fin 16), s.chip.rails[r].state = .ramp → drives s.chip →
    (if railType s.chip r = 2 then bidirQuiet s.chip r (nat s.chip (kRailRampTime r)) else refAtTarget s.chip r) = true →
    Gives (.rampComplete r) s [.rails, .vcs, .watch] fun c =>
      c.rails = s.chip.rails.set r (wentTo s.chip.rails[r] .regulate s.chip.clock.us)) ∧
  (∀ (s : State) (r : Fin 16), s.chip.rails[r].state = .offDelay → drives s.chip →
    Gives (.offDelayElapsed r) s [.rails, .vcs, .watch] fun c =>
      c.rails = s.chip.rails.set r { wentTo s.chip.rails[r] .rampDown s.chip.clock.us with
      slope := if railType s.chip r = 2 then
      ratAbs (ofQ 16 s.chip.rails[r].icmd) * 1000000 / (nat s.chip (kRailRampDownTime r) : Rat) else slopeOf s.chip r (nat s.chip
        (kRailRampDownTime r)) }) ∧
  (∀ (s : State) (r : Fin 16), s.chip.rails[r].state = .rampDown → drives s.chip →
    (if railType s.chip r = 2 then bidirQuiet s.chip r (nat s.chip (kRailRampDownTime r)) else decide (s.chip.rails[r].ref ≤ 0)) =
      true →
    Gives (.rampDownComplete r) s [.chans, .phases, .rails, .vcs, .wms, .seq, .watch] fun c =>
      (c.rails[r].state = .off ∨ c.rails[r].state = .onDelay ∨ c.rails[r].state = .fault) ∧
      (startCond s.chip r = false → c.rails[r].state = .off) ∧ c.rails[r].ref = 0 ∧
      (∀ p ∈ phasesOf s.chip r, c.phases[p].drven = false ∧ c.phases[p].duty = 0 ∧ c.phases[p].dropped = false) ∧
      ∀ q : Fin 16, q ≠ r → c.rails[q] = s.chip.rails[q]) ∧
  (∀ (s : State) (r : Fin 16), switching s.chip.rails[r] → drives s.chip →
    Gives (.feedbackLost r) s [.phases, .rails, .vcs, .watch] fun c =>
      c.rails = s.chip.rails.set r { wentTo s.chip.rails[r] .fbHold s.chip.clock.us with fbLost := true } ∧
      (∀ p ∈ phasesOf s.chip r, c.phases[p].dutyNext = none ∧ c.phases[p].duty = s.chip.phases[p].duty) ∧
      c.watch.arrived.getLast? = some { src := Fin.ofNat 256 (32 + r), code := 1, value := 0 }) ∧
  (∀ (s : State) (r : Fin 16), s.chip.rails[r].state = .fbHold → drives s.chip →
    Gives (.fbHoldElapsed r) s [.phases, .rails, .vcs, .watch] fun c =>
      c.rails = s.chip.rails.set r { wentTo s.chip.rails[r] .dutyRamp s.chip.clock.us with rampOver := c.rails[r].rampOver } ∧
      1 ≤ c.rails[r].rampOver ∧ ∀ p ∈ phasesOf s.chip r, c.phases[p] =
      { s.chip.phases[p] with rampFrom := s.chip.phases[p].duty, rampLeft := c.rails[r].rampOver }) ∧
  (∀ (s : State) (r : Fin 16), s.chip.rails[r].state = .dutyRamp → drives s.chip → (∀ p ∈ activePhases s.chip r,
    s.chip.phases[p].duty = 0) →
    Gives (.dutyRampComplete r) s [.phases, .rails, .vcs, .watch] fun c =>
      c.rails = s.chip.rails.set r (wentTo s.chip.rails[r] .fault s.chip.clock.us) ∧
      ∀ p ∈ phasesOf s.chip r, c.phases[p].drven = false ∧ c.phases[p].enabled = false ∧ c.phases[p].duty = 0) ∧
  (∀ (s : State) (r : Fin 16), s.chip.rails[r].state = .fault → drives s.chip → flag s.chip (kRailAutoRestart r) → startCond
    s.chip r → causeCleared s.chip r →
    Gives (.railAutoRestart r) s [.phases, .rails, .vcs, .watch] fun c =>
      c.rails = s.chip.rails.set r { wentTo s.chip.rails[r] .onDelay s.chip.clock.us with
      killed := false, prebias := false, fbLost := false } ∧ ∀ p ∈ phasesOf s.chip r, c.phases[p].kill = false)

/-- A current at the kill threshold latches a kill on the phase and its rail with an event, makes the rail's phases low, and takes a
rail that is neither OFF nor in FAULT to FAULT. One at the peak threshold ends PWMH, or PWML for a negative crossing on a BIDIR
rail or in RAMP-DOWN. A period start takes the duty that waits, and at the first phase the period; in DUTY-RAMP the duty falls
along its line. Lock to SYNCIN starts within 10 % of RailFsw, SYNCLOCK follows with the frequency locked to, and a lost SYNCIN
sets SYNCLOST with an event and keeps the frequency. Rests on R73, R75, R81, R82, R112. -/
def Obligations.PhaseAndSyncCommands : Prop :=
  (∀ (s : State) (p : Fin 32) (current : Int) (r : Fin 16), inRange current (-2147483648) 2147483647 → railOfPhase s.chip p = some
    r → live s.chip → comparatorLimit s.chip p (num s.chip (kPhKillLimit p)) ≤ ratAbs ((current : Rat) / 1000) →
    Gives (.phaseKill p current) s [.phases, .rails, .vcs, .watch] fun c =>
      c.phases[p].kill = true ∧ c.rails[r].killed = true ∧
      (raise p 1 current s.chip).watch.arrived <+: c.watch.arrived ∧
      (drives s.chip = true → (s.chip.rails[r].state ≠ .off → c.rails[r].state = .fault) ∧
      ∀ q ∈ phasesOf s.chip r, c.phases[q].drven = false ∧ c.phases[q].duty = 0) ∧
      ∀ q : Fin 16, q ≠ r → c.rails[q] = s.chip.rails[q]) ∧
  (∀ (s : State) (p : Fin 32) (current : Int) (r : Fin 16), 0 ≤ current → current ≤ 2147483647 → railOfPhase s.chip p = some r →
    s.chip.phases[p].drven = true → comparatorLimit s.chip p (num s.chip (kPhPeakLimit p)) ≤ ratAbs ((current : Rat) / 1000) →
    Gives (.peakLimit p current) s [.phases] fun c =>
      c.phases = s.chip.phases.set p { s.chip.phases[p] with highEnded := true, peakAt := some s.chip.clock.us }) ∧
  (∀ (s : State) (p : Fin 32) (current : Int) (r : Fin 16), -2147483648 ≤ current → current < 0 → railOfPhase s.chip p = some r →
    s.chip.phases[p].drven = true → comparatorLimit s.chip p (num s.chip (kPhPeakLimit p)) ≤ ratAbs ((current : Rat) / 1000) →
    railType s.chip r = 2 ∨ s.chip.rails[r].state = .rampDown →
    Gives (.peakLimit p current) s [.phases] fun c =>
      c.phases = s.chip.phases.set p { s.chip.phases[p] with lowEnded := true, peakAt := some s.chip.clock.us }) ∧
  (∀ (s : State) (p : Fin 32) (r : Fin 16), railOfPhase s.chip p = some r → s.chip.phases[p].drven = true →
    Gives (.periodStart p) s [.phases, .rails, .mills, .watch] fun c =>
      c.phases[p].dutyNext = none ∧ c.phases[p].highEnded = false ∧ c.phases[p].lowEnded = false ∧
      c.rails[r].state = s.chip.rails[r].state ∧
      (s.chip.rails[r].state ≠ .dutyRamp →
      c.phases[p].duty = (s.chip.phases[p].dutyNext.map (shapeDuty c r)).getD s.chip.phases[p].duty) ∧
      (s.chip.rails[r].state = .dutyRamp → s.chip.phases[p].dutyNext = none → c.phases[p].duty =
      toQ 31 (ofQ 31 s.chip.phases[p].rampFrom * (s.chip.phases[p].rampLeft - 1 : Nat) / (max 1 s.chip.rails[r].rampOver : Nat))) ∧
      ((activePhases s.chip r).head? = some p → c.rails[r].periodNext = none ∧
      c.rails[r].period = s.chip.rails[r].periodNext.getD s.chip.rails[r].period)) ∧
  (∀ (s : State) (r : Fin 16) (frequency : Nat), frequency < 2 ^ 32 → live s.chip → nat s.chip (kRailSyncMode r) ≠ 0 → 100000 ≤
    frequency → frequency ≤ 2000000 → 9 * nat s.chip (kRailFsw r) ≤ 10 * lockFrequency (nat s.chip (kRailSyncMode r)) frequency →
    10 * lockFrequency (nat s.chip (kRailSyncMode r)) frequency ≤ 11 * nat s.chip (kRailFsw r) →
    Gives (.syncLockStart r frequency) s [.rails] fun c =>
      c.rails = s.chip.rails.set r { s.chip.rails[r] with
      syncStarted := true, syncNext := lockFrequency (nat s.chip (kRailSyncMode r)) frequency, syncSeen := true }) ∧
  (∀ (s : State) (r : Fin 16), s.chip.rails[r].syncStarted = true → live s.chip →
    Gives (.syncLockAchieved r) s [.rails] fun c =>
      c.rails = s.chip.rails.set r { s.chip.rails[r] with
      syncLock := true, syncLost := false, syncStarted := false, syncFreq := s.chip.rails[r].syncNext,
      periodNext := if s.chip.rails[r].period = 0 then s.chip.rails[r].periodNext else some (nominalTicks c r) }) ∧
  (∀ (s : State) (r : Fin 16), s.chip.rails[r].syncLock = true ∨ s.chip.rails[r].syncStarted = true → live s.chip →
    Gives (.syncinLost r) s [.rails, .watch] fun c =>
      c.rails = s.chip.rails.set r { s.chip.rails[r] with
      syncLock := false, syncStarted := false, syncLost := true, syncSeen := false } ∧ c.watch = (raise (32 + r) 2 0 s.chip).watch)

/-- A RAILLOOP run of a switching BUCK rail, after its samples are taken, moves the reference to refNext, forms the error of the
effective target against the sensed voltage, and gives every active phase a new duty. A BALANCE run of a switching BIDIR rail
takes i_cmd by mode and state, 0 where the command channel is stale, and gives every active phase a new duty. In STANDBY the
duties are the owner's. Rests on R89, R93, R96, R97, R225, R415. -/
def Obligations.LoopLawCommands : Prop :=
  (∀ (s : State) (r : Fin 16) (samples : List Sample) (u : Unit4), samples.all Sample.fits → trackOf s.chip = none → hostOf s.chip
    1 r = some u → unitRuns (takeSamples samples s.chip) u → railType s.chip r = 1 → switching s.chip.rails[r] →
    Gives (.railloopRun r samples) s [.chans, .bus, .phases, .rails, .wms, .mills, .watch, .fresh] fun c =>
      c.rails[r].state = s.chip.rails[r].state ∧ c.rails[r].ref = refNext (takeSamples samples s.chip) r ∧
      c.rails[r].loop.e1 = toQ 22 ((c.rails[r].ref : Rat) / 2 ^ 22 - coef s.chip u 7 * val (takeSamples samples s.chip) (140 + r)
        -
      val (takeSamples samples s.chip) (32 + r)) ∧
      (∀ p ∈ activePhases s.chip r, c.phases[p].dutyNext.isSome = true ∧ c.phases[p].duty = s.chip.phases[p].duty) ∧
      ∀ q : Fin 16, q ≠ r → c.rails[q] = s.chip.rails[q]) ∧
  (∀ (s : State) (r : Fin 16) (samples : List Sample) (u : Unit4), samples.all Sample.fits → trackOf s.chip = none → hostOf s.chip
    2 r = some u → unitRuns (takeSamples samples s.chip) u → railType s.chip r = 2 → switching s.chip.rails[r] →
    Gives (.balanceBidirRun r samples) s [.chans, .bus, .phases, .rails, .wms, .mills, .watch, .fresh] fun c =>
      c.rails[r].icmd = toQ 16 (bidirCommand (takeSamples samples s.chip) r (chanStale (takeSamples samples s.chip) (176 + r))) ∧
      c.rails[r].stale = chanStale (takeSamples samples s.chip) (176 + r) ∧ c.rails[r].state = s.chip.rails[r].state ∧
      (∀ q : Fin 16, q ≠ r → c.rails[q] = s.chip.rails[q]) ∧
      (∀ p ∈ activePhases s.chip r, c.phases[p].dutyNext.isSome = true ∧ c.phases[p].duty = s.chip.phases[p].duty) ∧
      (chanStale (takeSamples samples s.chip) (176 + r) = false → c.watch = (takeSamples samples s.chip).watch)) ∧
  (∀ (s : State) (r : Fin 16) (samples : List Sample) (u : Unit4) (t : TrackFrame), samples.all Sample.fits → trackOf s.chip =
    some t → hostOf s.chip 2 r = some u → unitRuns (takeSamples samples s.chip) u → railType s.chip r = 2 → switching s.chip.rails[r] →
    Gives (.balanceBidirRun r samples) s [.chans, .bus, .phases, .rails, .wms, .mills, .watch, .fresh] fun c =>
      ∀ p ∈ activePhases s.chip r, c.phases[p].dutyNext = some t.duties[r] ∧ c.phases[p].duty = s.chip.phases[p].duty)

/-- On a port that answers: a SETV in REGULATE, in range and with room, becomes the command and is in flight with an ACK; a SLEW
sets the slew of those to come; a CAP answers the level and clears pending; a QUERY with SEL 0 pops the oldest completion; every
response ends with its CRC; a frame with a bad CRC is answered NACK and counted with an event, one with an opcode that is none is
answered NACK. A frame gap and a response timeout count errors, a read or lost response is
withdrawn, DONE and ABORTED completions queue once the reference stands at its target, and a pending cap level uncollected makes an event. Rests on R100, R101, R102,
R103, R104, R106, R107, R108. -/
def Obligations.VoltageCommandPortCommands : Prop :=
  (∀ (s : State) (n : Fin 4) (tag : BitVec 6) (arg : BitVec 16) (r : Fin 16), vcRail s.chip n = some r → s.chip.rails[r].state =
    .regulate → num s.chip (kRailVcMin r) ≤ arg.toNat * 10 → (arg.toNat : Int) * 10 ≤ num s.chip (kRailVcMax r) →
    s.chip.vcs[n].queue.length + (if s.chip.vcs[n].inFlight.isSome then 2 else 1) ≤ 16 →
    Gives (.vcSetv n tag arg) s [.chans, .rails, .vcs] fun c =>
      c.rails[r].command = arg.toNat * 10 ∧ c.rails[r].vcHolds = true ∧ c.vcs[n].inFlight = some tag ∧
      c.vcs[n].response = some (vcResponseOf (tag.toNat * 256) none) ∧
      c.vcs[n].accepts = s.chip.vcs[n].accepts + 1 ∧
      c.vcs[n].queue = s.chip.vcs[n].queue ++ (match s.chip.vcs[n].inFlight with
      | some t => [{ tag := t, code := 1 }]
      | none => []) ∧ ∀ q : Fin 16, q ≠ r → c.rails[q] = s.chip.rails[q]) ∧
  (∀ (s : State) (n : Fin 4) (tag : BitVec 6) (arg : BitVec 16) (r : Fin 16), vcRail s.chip n = some r → arg ≠ 0 →
    Gives (.vcSlew n tag arg) s [.rails, .vcs] fun c =>
      c.rails = s.chip.rails.set r { s.chip.rails[r] with vcSlew := some arg.toNat } ∧
      c.vcs[n].response = some (vcResponseOf (tag.toNat * 256) none) ∧
      c.vcs[n].accepts = s.chip.vcs[n].accepts + 1) ∧
  (∀ (s : State) (n : Fin 4) (tag : BitVec 6) (r : Fin 16), vcRail s.chip n = some r →
    Gives (.vcCap n tag) s [.vcs] fun c =>
      c.vcs[n].levelPending = false ∧ c.vcs[n].accepts = s.chip.vcs[n].accepts + 1 ∧ c.vcs[n].response =
      some (vcResponseOf (tag.toNat * 256) (some (BitVec.ofNat 16 s.chip.vcs[n].level)))) ∧
  (∀ (s : State) (n : Fin 4) (tag : BitVec 6) (r : Fin 16) (d : VcDone) (rest : List VcDone), vcRail s.chip n = some r →
    s.chip.vcs[n].queue = d :: rest →
    Gives (.vcQuery n tag 0) s [.vcs] fun c =>
      c.vcs = s.chip.vcs.set n { s.chip.vcs[n] with
      queue := rest, accepts := s.chip.vcs[n].accepts + 1, response :=
      some (vcResponseOf (tag.toNat * 256) (some (BitVec.ofNat 16 (2 * 16384 + d.tag.toNat * 256 + d.code.toNat)))) }) ∧
  (∀ (s : State) (n : Fin 4) (tag : BitVec 6) (sel : BitVec 6) (r : Fin 16) (d : BitVec 16), vcRail s.chip n = some r → sel ≠ 0 →
    vcData s.chip n r sel.toNat = some d →
    Gives (.vcQuery n tag sel) s [.vcs] fun c =>
      c.vcs = s.chip.vcs.set n { s.chip.vcs[n] with
      accepts := s.chip.vcs[n].accepts + 1, response := some (vcResponseOf (tag.toNat * 256) (some d)) }) ∧
  (∀ (s : State) (n : Fin 4) (frame : BitVec 40) (r : Fin 16), vcRail s.chip n = some r → crc8Bits (bitsOf 32 (frame.toNat / 256))
    0 ≠ frame.toNat % 256 →
    Gives (.vcFrameNack n frame) s [.rails, .vcs, .watch] fun c =>
      c.rails = s.chip.rails.set r { s.chip.rails[r] with vcErrors := satSucc 65535 s.chip.rails[r].vcErrors } ∧
      c.vcs = s.chip.vcs.set n { s.chip.vcs[n] with
      accepts := s.chip.vcs[n].accepts + 1, response := some (vcResponseOf (16384 + field frame.toNat 30 6 * 256 + 1) none) } ∧
      c.watch = (raise (178 + n) 3 0 s.chip).watch) ∧
  (∀ (s : State) (n : Fin 4) (frame : BitVec 40) (r : Fin 16), vcRail s.chip n = some r → crc8Bits (bitsOf 32 (frame.toNat / 256))
    0 = frame.toNat % 256 → field frame.toNat 36 4 = 0 ∨ 4 < field frame.toNat 36 4 →
    Gives (.vcFrameNack n frame) s [.vcs] fun c =>
      c.vcs = s.chip.vcs.set n { s.chip.vcs[n] with
      accepts := s.chip.vcs[n].accepts + 1, response := some (vcResponseOf (16384 + field frame.toNat 30 6 * 256 + 2) none) }) ∧
  (∀ (s : State) (n : Fin 4) (r : Fin 16), vcRail s.chip n = some r →
    Gives (.vcFrameGap n) s [.rails, .watch] fun c =>
      c.rails = s.chip.rails.set r { s.chip.rails[r] with vcErrors := satSucc 65535 s.chip.rails[r].vcErrors } ∧
      c.watch = (raise (178 + n) 1 0 s.chip).watch) ∧
  (∀ (s : State) (n : Fin 4) (r : Fin 16), vcRail s.chip n = some r →
    Gives (.vcResponseRead n) s [.vcs] fun c =>
      c.vcs = s.chip.vcs.set n { s.chip.vcs[n] with response := none }) ∧
  (∀ (s : State) (n : Fin 4) (r : Fin 16), vcRail s.chip n = some r → s.chip.vcs[n].response.isSome →
    Gives (.vcResponseTimeout n) s [.rails, .vcs, .watch] fun c =>
      c.vcs = s.chip.vcs.set n { s.chip.vcs[n] with response := none } ∧
      c.rails = s.chip.rails.set r { s.chip.rails[r] with vcErrors := satSucc 65535 s.chip.rails[r].vcErrors } ∧ c.watch = (raise
        (178 + n) 1 0 s.chip).watch) ∧
  (∀ (s : State) (n : Fin 4) (r : Fin 16) (t : BitVec 6), vcRail s.chip n = some r → s.chip.vcs[n].inFlight = some t →
    s.chip.rails[r].state = .regulate → refAtTarget s.chip r → 8 ≤ s.chip.rails[r].settled →
    Gives (.vcSetvDone n) s [.vcs] fun c =>
      c.vcs = s.chip.vcs.set n { s.chip.vcs[n] with
      inFlight := none, queue := s.chip.vcs[n].queue ++ [{ tag := t, code := 0 }] }) ∧
  (∀ (s : State) (n : Fin 4) (r : Fin 16) (t : BitVec 6), vcRail s.chip n = some r → s.chip.vcs[n].inFlight = some t →
    refAtTarget s.chip r →
    Gives (.vcSetvTimeout n) s [.vcs, .watch] fun c =>
      c.vcs = s.chip.vcs.set n { s.chip.vcs[n] with
      inFlight := none, queue := s.chip.vcs[n].queue ++ [{ tag := t, code := 2 }] } ∧ c.watch = (raise (178 + n) 2 0 s.chip).watch) ∧
  (∀ (s : State) (n : Fin 4) (r : Fin 16), vcRail s.chip n = some r → s.chip.vcs[n].levelPending = true →
    Gives (.vcCapUncollected n) s [.watch] fun c =>
      c.watch = (raise (178 + n) 4 0 s.chip).watch)

/-- A failed pilot, range (on an input above 98 % of full scale) or ripple check sets its flag on the channel. A failed rail sense channel takes a switching rail that
this unit drives to FB-HOLD with FBLOST; a failed phase channel gives the phase its cause. A pilot check that passes again
clears its flag and nothing else of the channel. Every other channel is unchanged. Rests on R109, R110, R111, R112, R114. -/
def Obligations.ChannelCheckCommands : Prop :=
  (∀ (s : State) (ch : Fin 256), live s.chip → converted ch → s.chip.chans[ch].pilotFail = false →
    Gives (.pilotCheckFail ch) s [.chans, .rms, .bus, .phases, .rails, .vcs, .pps, .watch] fun c =>
      c.chans[ch].pilotFail = true ∧ c.chans[ch].word = s.chip.chans[ch].word ∧
      (∀ d : Fin 256, d ≠ ch → d.val < 140 → c.chans[d] = s.chip.chans[d]) ∧
      (∀ r : Fin 16, ch.val = 32 + r.val → switching s.chip.rails[r] = true → drives s.chip = true → c.rails[r].state = .fbHold ∧
        c.rails[r].fbLost = true)) ∧
  (∀ (s : State) (ch : Fin 256), live s.chip → converted ch → s.chip.chans[ch].pilotFail = true →
    Gives (.pilotCheckPass ch) s [.chans, .rms, .bus, .watch] fun c =>
      c.chans = s.chip.chans.set ch { s.chip.chans[ch] with pilotFail := false }) ∧
  (∀ (s : State) (ch : Fin 256), live s.chip → converted ch → s.chip.chans[ch].rangeFail = false → overRange ch s.chip.chans[ch].pin →
    Gives (.rangeCheckFail ch) s [.chans, .rms, .bus, .phases, .rails, .vcs, .pps, .watch] fun c =>
      c.chans[ch].rangeFail = true ∧ c.chans[ch].word = s.chip.chans[ch].word ∧
      (∀ d : Fin 256, d ≠ ch → d.val < 140 → c.chans[d] = s.chip.chans[d]) ∧
      (∀ (p : Fin 32) (r : Fin 16), ch.val = p.val → railOfPhase s.chip p = some r → switching s.chip.rails[r] = true → drives
        s.chip = true →
      s.chip.phases[p].dropped = false → s.chip.phases[p].pendingCause = .none → (fedBy s.chip ch).isEmpty →
        c.phases[p].pendingCause = .range)) ∧
  (∀ (s : State) (ch : Fin 256), live s.chip → rippled s.chip ch → s.chip.chans[ch].rippleFail = false →
    Gives (.rippleCheckFail ch) s [.chans, .phases, .rails, .vcs, .watch] fun c =>
      c.chans = s.chip.chans.set ch { s.chip.chans[ch] with rippleFail := true } ∧
      (∀ r : Fin 16, ch.val = 32 + r.val → drives s.chip = true → c.rails[r].state = .fbHold ∧ c.rails[r].fbLost = true))

/-- A phase that carries no current where it should, or one that disagrees with its neighbours at the end of its trim, takes its cause on a switching rail; the drop takes the phase low with that
cause, with events on the phase and the rail, and with no active phase left the rail enters FAULT. With PHLOST and ILIM, CAPREQ
is set with an event. While ILIM stays the cap level falls by 500 down to CapVcMinLevel, and once it is clear it rises by 100,
CAPREQ ending at 10,000. Rests on R113, R114, R115, R116. -/
def Obligations.PhaseFailureCommands : Prop :=
  (∀ (s : State) (p : Fin 32) (r : Fin 16), railOfPhase s.chip p = some r → switching s.chip.rails[r] → drives s.chip →
    s.chip.phases[p].dropped = false → s.chip.phases[p].pendingCause = .none → looksOpen s.chip r p →
    Gives (.phaseFailOpen p) s [.phases] fun c =>
      c.phases = s.chip.phases.set p { s.chip.phases[p] with pendingCause := .openPhase }) ∧
  (∀ (s : State) (p : Fin 32) (r : Fin 16), railOfPhase s.chip p = some r → switching s.chip.rails[r] → drives s.chip →
    s.chip.phases[p].dropped = false → s.chip.phases[p].pendingCause = .none → disagrees s.chip r p →
    Gives (.phaseSenseDisagree p) s [.phases] fun c =>
      c.phases = s.chip.phases.set p { s.chip.phases[p] with pendingCause := .disagreement }) ∧
  (∀ (s : State) (p : Fin 32) (r : Fin 16), railOfPhase s.chip p = some r → switching s.chip.rails[r] → drives s.chip →
    s.chip.phases[p].pendingCause ≠ .none →
    Gives (.phaseDrop p) s [.chans, .phases, .rails, .vcs, .watch] fun c =>
      c.phases[p].dropped = true ∧ c.phases[p].cause = s.chip.phases[p].pendingCause ∧ c.phases[p].pendingCause = .none ∧
      c.phases[p].duty = 0 ∧ c.phases[p].drven = false ∧ c.phases[p].enabled = false ∧
      (raise (32 + r) 3 0 (raise p 2 0 s.chip)).watch.arrived <+: c.watch.arrived ∧
      c.rails = (if (activePhases c r).isEmpty then s.chip.rails.set r (wentTo s.chip.rails[r] .fault s.chip.clock.us)
        else s.chip.rails)) ∧
  (∀ (s : State) (r : Fin 16), phLost s.chip r → s.chip.rails[r].iLim = true → drives s.chip →
    Gives (.capreqSet r) s [.rails, .watch] fun c =>
      c.rails = s.chip.rails.set r { s.chip.rails[r] with capReq := true } ∧
      c.watch = (raise (32 + r) 4 0 s.chip).watch) ∧
  (∀ (s : State) (r : Fin 16), s.chip.rails[r].capReq = true → s.chip.rails[r].iLim = true → drives s.chip →
    Gives (.railCapFall r) s [.chans, .rails, .vcs] fun c =>
      c.rails[r].capLevel = max (min s.chip.rails[r].capLevel (nat s.chip kCapVcMinLevel)) (s.chip.rails[r].capLevel - 500) ∧
      ∀ q : Fin 16, q ≠ r → c.rails[q] = s.chip.rails[q]) ∧
  (∀ (s : State) (r : Fin 16), s.chip.rails[r].capReq = true → s.chip.rails[r].iLim = false → drives s.chip →
    Gives (.railCapRise r) s [.chans, .rails, .vcs] fun c =>
      c.rails = s.chip.rails.set r { s.chip.rails[r] with
      capLevel := min 10000 (s.chip.rails[r].capLevel + 100), capReq := decide (s.chip.rails[r].capLevel + 100 < 10000) })

/-- QUALIFYING goes to ABSENT below the presence level, or, with its voltage in the window, to CLOSING with BSn_SW low, the
ship-clear pattern first where the latch is set. Closed feedback in CLOSING enters IN-SERVICE; a feedback timeout enters FAULT
with an event. A removal that its cause shows freezes the estimator, raises an event and enters ABSENT; above the presence level
a reinsertion with an open switch qualifies, with a closed one enters IN-SERVICE. A completed ship-set pattern sets the latch
with BSn_SW high; a completed ship-clear pattern clears it and closes, or waits where the string is held. A thermistor failure
reads as too hot. Every other string is unchanged.
Rests on R120, R121, R125, R126, R128, R129. -/
def Obligations.StringStateCommands : Prop :=
  (∀ (s : State) (n : Fin 4), (chanOf s.chip (72 + n)).pin < 12000 ∨ 1190000 < (chanOf s.chip (72 + n)).pin →
    Gives (.ntcFail n) s [.chans, .strs, .watch] fun c =>
      c.strs = s.chip.strs.set n { s.chip.strs[n] with ntcFail := true } ∧ (chanOf c (72 + n)).word = 0x7FFFFFFF ∧
      c.watch = if s.chip.strs[n].ntcFail then s.chip.watch else (raise (64 + n) 3 0 s.chip).watch) ∧
  (∀ (s : State) (n : Fin 4), s.chip.strs[n].state = .qualifying → drives s.chip → val s.chip (64 + n) < presenceLevel s.chip n →
    Gives (.stringPresenceAbsent n) s [.strs, .batt, .nor, .fresh] fun c =>
      c.strs = s.chip.strs.set n { s.chip.strs[n] with
      state := .absent, phase := .none, resting := false, seqWaits := false }) ∧
  (∀ (s : State) (n : Fin 4), s.chip.strs[n].state = .qualifying → drives s.chip → s.chip.strs[n].pattern = .none → strAwaitsEntry
    s.chip n = false → strHeld s.chip n = false → inQualWindow s.chip n →
    Gives (.stringQualified n) s [.strs] fun c =>
      c.strs = s.chip.strs.set n (if s.chip.strs[n].shipLatch then
      { s.chip.strs[n] with pattern := .clear, sw := false, seqWaits := false } else
      { s.chip.strs[n] with state := .closing, sw := false, phase := .none, resting := false, seqWaits := false })) ∧
  (∀ (s : State) (n : Fin 4), s.chip.strs[n].state = .qualifying → drives s.chip → s.chip.strs[n].pattern = .none →
    (strAwaitsEntry s.chip n || strHeld s.chip n) = true → inQualWindow s.chip n →
    Gives (.stringQualified n) s [.strs] fun c =>
      c.strs = s.chip.strs.set n { s.chip.strs[n] with seqWaits := true }) ∧
  (∀ (s : State) (n : Fin 4), s.chip.strs[n].state = .closing → drives s.chip →
    Gives (.switchFeedbackClosed n) s [.strs, .ests, .watch, .fresh] fun c =>
      c.strs[n].state = .inService ∧ c.strs[n].closed = true ∧ c.strs[n].frozen = false ∧
      c.strs[n].phase = (if s.chip.strs[n].wdFallback then .float else .cc) ∧ ∀ m : Fin 4, m ≠ n → c.strs[m] = s.chip.strs[m]) ∧
  (∀ (s : State) (n : Fin 4), s.chip.strs[n].state = .closing → drives s.chip →
    Gives (.switchFeedbackTimeout n) s [.strs, .watch] fun c =>
      c.strs = s.chip.strs.set n { s.chip.strs[n] with
      state := .fault, sw := true, closed := false, phase := .none, resting := false, seqWaits := false } ∧
      c.watch = (raise (64 + n) 2 0 s.chip).watch) ∧
  (∀ (s : State) (n : Fin 4), s.chip.strs[n].state = .opened ∨ s.chip.strs[n].state = .ship → drives s.chip →
    Gives (.switchFeedbackTimeout n) s [.strs, .watch] fun c =>
      c.strs = s.chip.strs.set n { s.chip.strs[n] with
      state := .fault, closed := true, phase := .none, resting := false, seqWaits := false } ∧
      c.watch = (raise (64 + n) 2 0 s.chip).watch) ∧
  (∀ (s : State) (n : Fin 4) (cause : RemovalCause), removable s.chip.strs[n].state cause → removed s.chip n cause → drives
    s.chip →
    Gives (.stringRemoval n cause) s [.strs, .batt, .watch, .alm, .nor, .fresh] fun c =>
      c.strs[n].state = .absent ∧ c.strs[n].frozen = true ∧ c.strs[n].phase = .none ∧
      c.strs[n].closed = (s.chip.strs[n].closed && cause != .feedbackOpen) ∧
      { src := Fin.ofNat 256 (64 + n), code := 1, value := 0 } ∈ c.watch.arrived ∧ ∀ m : Fin 4, m ≠ n → c.strs[m] = s.chip.strs[m]) ∧
  (∀ (s : State) (n : Fin 4), s.chip.strs[n].state = .absent → drives s.chip → presenceLevel s.chip n < val s.chip (64 + n) →
    Gives (.stringReinsertion n false) s [.strs, .ests, .watch, .fresh] fun c =>
      c.strs = s.chip.strs.set n { s.chip.strs[n] with
      state := .qualifying, sw := s.chip.strs[n].sw || !s.chip.strs[n].shipLatch, pattern := .none, closed := false, phase :=
        .none,
      resting := false, seqWaits := false }) ∧
  (∀ (s : State) (n : Fin 4), s.chip.strs[n].state = .absent → drives s.chip → strHeld s.chip n = false → presenceLevel
    s.chip n < val s.chip (64 + n) →
    Gives (.stringReinsertion n true) s [.strs, .ests, .watch, .fresh] fun c =>
      c.strs[n].state = .inService ∧ c.strs[n].closed = true ∧ c.strs[n].frozen = false ∧
      c.strs[n].phase = (if s.chip.strs[n].wdFallback then .float else .cc) ∧ ∀ m : Fin 4, m ≠ n → c.strs[m] = s.chip.strs[m]) ∧
  (∀ (s : State) (n : Fin 4), s.chip.strs[n].pattern = .set →
    Gives (.shipPatternComplete n) s [.strs, .batt, .nor, .fresh] fun c =>
      c.strs = s.chip.strs.set n { s.chip.strs[n] with
      pattern := .none, shipLatch := true, sw := true }) ∧
  (∀ (s : State) (n : Fin 4), s.chip.strs[n].pattern = .clear → s.chip.strs[n].state = .qualifying → (strAwaitsEntry s.chip n ||
    strHeld s.chip n) = true →
    Gives (.shipPatternComplete n) s [.strs, .batt, .nor, .fresh] fun c =>
      c.strs = s.chip.strs.set n { s.chip.strs[n] with
      pattern := .none, shipLatch := false, sw := true, closed := false, seqWaits := true }) ∧
  (∀ (s : State) (n : Fin 4), s.chip.strs[n].pattern = .clear → s.chip.strs[n].state = .qualifying → strAwaitsEntry s.chip n =
    false → strHeld s.chip n = false →
    Gives (.shipPatternComplete n) s [.strs, .batt, .nor, .fresh] fun c =>
      c.strs = s.chip.strs.set n { s.chip.strs[n] with
      state := .closing, pattern := .none, shipLatch := false, sw := false, phase := .none, resting := false, seqWaits := false })

/-- The opening of a pending ship mode drives every fitted string not in SHIP into SHIP with the ship-set pattern. A good source
after a SHIP boot, and the end of a long press, take strings on. A long press opens every string that Table 4.4 lists. The
watchdog expiry sets WDFALLBACK on every fitted string. Rests on R125, R138, R157, R158, R159. -/
def Obligations.ShipModeAndWatchdogCommands : Prop :=
  (∀ (s : State), s.chip.batt.shipPending = true → drives s.chip →
    Gives .shipOpening s [.strs, .batt, .watch, .alm, .nor, .fresh] fun c =>
      c.batt.shipPending = false ∧ c.batt.shipArm = none ∧ c.batt.shipFlag = true ∧
      ∀ n ∈ fittedStrs s.chip, c.strs[n].state = .ship ∧
      (s.chip.strs[n].state ≠ .ship → c.strs[n].sw = true ∧ c.strs[n].closed = false ∧ c.strs[n].pattern = .set ∧ c.strs[n].phase = .none)) ∧
  (∀ (s : State), s.chip.batt.shipBoot = true → drives s.chip → sourceGood s.chip →
    Gives .shipSourceGood s [.strs, .batt] fun c =>
      c.batt = { s.chip.batt with shipBoot := false } ∧
      ∀ n : Fin 4, c.strs[n] = if s.chip.strs[n].state = .ship then { s.chip.strs[n] with
      state := .qualifying, sw := s.chip.strs[n].sw || !s.chip.strs[n].shipLatch,
      closed := s.chip.strs[n].closed && s.chip.strs[n].shipLatch, pattern := .none, phase := .none, resting := false,
      seqWaits := false } else s.chip.strs[n]) ∧
  (∀ (s : State), drives s.chip →
    Gives .longPress s [.strs, .batt, .watch, .alm, .nor, .fresh] fun c =>
      c.batt.longOpen = true ∧ ∀ n : Fin 4, longPressed s.chip.strs[n].state = true →
      c.strs[n].state = .opened ∧ c.strs[n].sw = true ∧ c.strs[n].closed = false ∧ c.strs[n].pattern = .none ∧ c.strs[n].phase = .none) ∧
  (∀ (s : State), s.chip.batt.longOpen = true → drives s.chip →
    Gives .longPressOpenEnd s [.strs, .batt] fun c =>
      c.batt = { s.chip.batt with longOpen := false } ∧
      ∀ n : Fin 4, c.strs[n] = if s.chip.strs[n].state = .opened then { s.chip.strs[n] with
      state := .closing, sw := false, phase := .none, resting := false, seqWaits := false } else s.chip.strs[n]) ∧
  (∀ (s : State), s.chip.batt.wdRunning = true → s.chip.batt.expired = false → live s.chip →
    Gives .battWatchdogExpiry s [.strs, .batt, .watch, .alm] fun c =>
      c.batt = { s.chip.batt with expired := true } ∧
      (∀ n ∈ fittedStrs s.chip, c.strs[n] =
        { s.chip.strs[n] with wdFallback := true, phase := if s.chip.strs[n].phase = .none then .none else .float }) ∧
      ∀ n : Fin 4, n ∉ fittedStrs s.chip → c.strs[n] = s.chip.strs[n])

/-- A CHARGE run leaves every fitted string a charge current of at least 0; a string in HOLD-ZERO has command 0, one in CHARGE its
charge current, and one in STANDBY the tracked command. Over-voltage sets OVERV with ich 0 and an event at onset. The charge
phase goes CC to ABSORB to FLOAT and, below the rebulk level, back to CC, but for WDFALLBACK. Rests on R132, R133, R134, R135.
-/
def Obligations.ChargeCommands : Prop :=
  (∀ (s : State) (samples : List Sample) (u : Unit4), samples.all Sample.fits → trackOf s.chip = none → hostOf s.chip 4 0 = some u
    → unitRuns (takeSamples samples s.chip) u →
    Gives (.chargeRun samples) s [.chans, .bus, .strs, .batt, .wms, .mills, .watch, .fresh] fun c =>
      ∀ n ∈ fittedStrs s.chip, 0 ≤ ofQ 16 c.strs[n].ich ∧ c.strs[n].state = s.chip.strs[n].state ∧
      (strMode s.chip n = .charge → c.strs[n].cmd = c.strs[n].ich) ∧ (strMode s.chip n = .holdZero → c.strs[n].cmd = 0)) ∧
  (∀ (s : State) (samples : List Sample) (u : Unit4) (t : TrackFrame), samples.all Sample.fits → trackOf s.chip = some t → hostOf
    s.chip 4 0 = some u → unitRuns (takeSamples samples s.chip) u →
    Gives (.chargeRun samples) s [.chans, .bus, .strs, .batt, .wms, .mills, .watch, .fresh] fun c =>
      ∀ n ∈ fittedStrs s.chip, c.strs[n].cmd = t.commands[n]) ∧
  (∀ (s : State) (n : Fin 4), (strRail s.chip n).isSome → live s.chip →
    hundredMicro (num s.chip (kStrCellVmax n)) * nat s.chip (kStrCells n) < val s.chip (64 + n) →
    Gives (.stringOvervoltage n) s [.strs, .watch] fun c =>
      c.strs = s.chip.strs.set n { s.chip.strs[n] with overV := true, ich := 0 } ∧
      c.watch = if s.chip.strs[n].overV then s.chip.watch else (raise (64 + n) 4 0 s.chip).watch) ∧
  (∀ (s : State) (n : Fin 4), s.chip.strs[n].phase = .cc → s.chip.strs[n].wdFallback = false → live s.chip →
    Gives (.chargeCcToAbsorb n) s [.strs] fun c =>
      c.strs = s.chip.strs.set n { s.chip.strs[n] with phase := .absorb }) ∧
  (∀ (s : State) (n : Fin 4), s.chip.strs[n].phase = .absorb → live s.chip →
    Gives (.absorbEnd n) s [.strs] fun c =>
      c.strs = s.chip.strs.set n { s.chip.strs[n] with phase := .float }) ∧
  (∀ (s : State) (n : Fin 4), s.chip.strs[n].phase = .float → s.chip.strs[n].wdFallback = false → live s.chip →
    s.chip.ests[n].socAbs < nat s.chip (kStrRebulkSoc n) →
    Gives (.rebulk n) s [.strs] fun c =>
      c.strs = s.chip.strs.set n { s.chip.strs[n] with phase := .cc })

/-- A sample of a string that is not frozen adds to its throughput and leaves its charge within 0 and the capacity. A refresh
forms StrSocAbs of every fitted string and leaves charge and capacity. A rest point takes an anchor at the present time, clears
LOWCONF and ends the string's fallow window. The check starts the window of the chosen string where R149 allows it. A failed
condition or a missing rest ends a window with an event, the string back in service and a retry time. A save starts a slot write
to the older slot, whose end makes it the entry held. Rests on R140, R142, R145, R148, R149, R150, R151, R153. -/
def Obligations.EstimatorAndFallowCommands : Prop :=
  (∀ (s : State) (n : Fin 4) (samples : List Sample), samples.all Sample.fits → live s.chip → (strRail s.chip n).isSome →
    s.chip.strs[n].frozen = false →
    Gives (.estimatorSample n samples) s [.chans, .bus, .strs, .ests, .wms, .mills, .watch] fun c =>
      0 ≤ c.ests[n].charge ∧ c.ests[n].charge ≤ max 0 (s.chip.ests[n].capacity : Rat) ∧
      c.ests[n].throughput = s.chip.ests[n].throughput + ratAbs (val (takeSamples samples s.chip) (68 + n) * 1000 / 14400000) ∧
      c.ests[n].capacity = s.chip.ests[n].capacity ∧ ∀ m : Fin 4, m ≠ n → c.ests[m] = s.chip.ests[m] ∧ c.strs[m] = s.chip.strs[m]) ∧
  (∀ (s : State), live s.chip →
    Gives .estimatorRefresh s [.ests, .fresh] fun c =>
      ∀ n : Fin 4, c.ests[n].charge = s.chip.ests[n].charge ∧ c.ests[n].capacity = s.chip.ests[n].capacity ∧
      (n ∉ fittedStrs s.chip → c.ests[n] = s.chip.ests[n]) ∧ (n ∈ fittedStrs s.chip → s.chip.ests[n].capacity ≠ 0 →
      c.ests[n].socAbs = (s.chip.ests[n].charge / s.chip.ests[n].capacity * 10000).floor.toNat)) ∧
  (∀ (s : State) (n : Fin 4), s.chip.strs[n].resting = true → s.chip.strs[n].frozen = false → (strRail s.chip n).isSome → drives
    s.chip →
    Gives (.restPoint n) s [.strs, .ests, .batt, .watch, .nor, .fresh] fun c =>
      c.ests[n].anchorAt = some (nowMs s.chip) ∧ c.ests[n].anchorCycle = s.chip.clock.powerCycles ∧ c.ests[n].anchored = true ∧ c.ests[n].dq = 0 ∧ c.ests[n].throughput = 0 ∧
      c.strs[n].lowConf = false ∧ (s.chip.batt.fallowString = some n → c.batt.fallowString = none ∧ c.strs[n].state = .inService)
        ∧
      ∀ m : Fin 4, m ≠ n → c.ests[m] = s.chip.ests[m] ∧ c.strs[m] = s.chip.strs[m]) ∧
  (∀ (s : State) (n : Fin 4), drives s.chip → fallowChoice s.chip = some n → fallowMayStart s.chip n →
    Gives .fallowCheck s [.strs, .batt] fun c =>
      c.strs = s.chip.strs.set n { s.chip.strs[n] with state := .fallow, seqWaits := false } ∧
      c.batt = { s.chip.batt with fallowChosen := none, fallowString := some n, fallowStart := nowMs s.chip }) ∧
  (∀ (s : State) (n : Fin 4), drives s.chip → s.chip.batt.fallowString = some n → fallowHolds s.chip n = false →
    Gives .fallowConditionFail s [.strs, .batt, .watch, .alm] fun c =>
      c.batt.fallowString = none ∧ c.strs = s.chip.strs.set n { s.chip.strs[n] with
      state := .inService, seqWaits := false, retryAt := some (nowMs s.chip + nat s.chip kFallowRetryDelay * 60000) } ∧
      c.watch = (raise (68 + n) 4 0 s.chip).watch) ∧
  (∀ (s : State) (n : Fin 4), drives s.chip → s.chip.batt.fallowString = some n →
    Gives .fallowNoRest s [.strs, .batt, .watch, .alm] fun c =>
      c.batt.fallowString = none ∧ c.strs = s.chip.strs.set n { s.chip.strs[n] with
      state := .inService, seqWaits := false, retryAt := some (nowMs s.chip + nat s.chip kFallowRetryDelay * 60000) } ∧
      c.watch = (raise (68 + n) 4 0 s.chip).watch) ∧
  (∀ (s : State), drives s.chip → s.chip.alm.direct = false → s.chip.batt.slotWrite = none →
    Gives .estimatorSaveInterval s [.batt, .nor, .fresh] fun c =>
      c.batt.slotWrite = some (staleSlot s.chip, entryBytes (newEntry s.chip)) ∧ c.batt.lastSave = nowMs s.chip ∧
      c.nor = { s.chip.nor with slots := s.chip.nor.slots.set (staleSlot s.chip) .torn }) ∧
  (∀ (s : State) (k : Fin 2) (e : List Byte), s.chip.batt.slotWrite = some (k, e) → s.chip.batt.slotOwed = false →
    Gives .estimatorSlotWriteDone s [.batt, .nor, .fresh] fun c =>
      c.batt = { s.chip.batt with slotWrite := none } ∧
      c.nor = { s.chip.nor with slots := s.chip.nor.slots.set k (.entry e) })

/-- A pair voltage beyond the comparator's threshold kills a FEED or LOAD port and turns an ORING port off: FOFF is high and the gate
at 0. A kill in RAMP or ON trips: the port waits for a retry or latches, counted with an event; in any other state but OFF it is
counted with an event. A reverse turn-off is counted with an event, and takes a port in ON to REVERSE. The fault timer expiry and the ramp timeout trip. The timer clears. After the off-time the port ramps
with its windows satisfied and waits otherwise. PpRetriesLeft reloads. A REVERSE port recovers to ON from gate 0. The other
ports are unchanged. Rests on R165, R172, R174, R175, R176. -/
def Obligations.PortTripAndRetryCommands : Prop :=
  (∀ (s : State) (n : Fin 8) (pair : Int), inRange pair (-2147483648) 2147483647 → drives s.chip → ppTripable s.chip n →
    comparatorTrips s.chip n pair →
    Gives (.ppKill n pair) s [.pps, .watch] fun c =>
      c.pps[n].kill = true ∧ c.pps[n].state = (if nat s.chip (kPpRetryCount n) ≠ 255 ∧ s.chip.pps[n].retriesLeft = 0 then .latched
        else .retryWait) ∧
      c.pps[n].foff = true ∧ c.pps[n].gate = 0 ∧ c.pps[n].pg = s.chip.pps[n].pg ∧ c.pps[n].timer = false ∧ c.pps[n].count = 0 ∧
      c.pps[n].trips = satSucc 65535 s.chip.pps[n].trips ∧ c.pps[n].retriesLeft = (if nat s.chip (kPpRetryCount n) = 255 then 255
        else s.chip.pps[n].retriesLeft - 1) ∧
      c.pps[n].offTime = retryOffTime s.chip n (s.chip.clock.us - s.chip.pps[n].rampAt) ∧
      (raise (72 + n) 1 0 s.chip).watch.arrived <+: c.watch.arrived ∧ ∀ m : Fin 8, m ≠ n → c.pps[m] = s.chip.pps[m]) ∧
  (∀ (s : State) (n : Fin 8) (pair : Int), inRange pair (-2147483648) 2147483647 → drives s.chip → s.chip.pps[n].state ≠ .off →
    ppLimits s.chip n → ppTripable s.chip n = false → comparatorTrips s.chip n pair →
    Gives (.ppKill n pair) s [.pps, .watch] fun c =>
      c.pps = s.chip.pps.set n { s.chip.pps[n] with
      foff := true, gate := 0, kill := true, trips := satSucc 65535 s.chip.pps[n].trips } ∧
      c.watch = (raise (72 + n) 1 0 s.chip).watch) ∧
  (∀ (s : State) (n : Fin 8) (pair : Int), inRange pair (-2147483648) 2147483647 → drives s.chip → ppRole s.chip n = 2 →
    s.chip.pps[n].state ≠ .off → s.chip.pps[n].state ≠ .on → comparatorTrips s.chip n pair →
    Gives (.oringReverseTurnoff n pair) s [.pps, .watch] fun c =>
      c.pps = s.chip.pps.set n { s.chip.pps[n] with
      foff := true, gate := 0, reverses := satSucc 65535 s.chip.pps[n].reverses } ∧
      c.watch = (raise (72 + n) 3 0 s.chip).watch) ∧
  (∀ (s : State) (n : Fin 8) (pair : Int), inRange pair (-2147483648) 2147483647 → drives s.chip → ppRole s.chip n = 2 →
    s.chip.pps[n].state = .on → comparatorTrips s.chip n pair →
    Gives (.oringReverseTurnoff n pair) s [.pps, .watch] fun c =>
      c.pps = s.chip.pps.set n { s.chip.pps[n] with
      state := .reverse, reverses := satSucc 65535 s.chip.pps[n].reverses, gate := 0, foff := true, pg := false, pgDefer := false,
        pgCount := 0, pgSince := none, limiting := false, timer := false, count := 0, idle := 0 } ∧
      c.watch = (raise (72 + n) 3 0 s.chip).watch) ∧
  (∀ (s : State) (n : Fin 8), drives s.chip → ppTripable s.chip n → s.chip.pps[n].timer = true →
    Gives (.ppFaultTimerExpiry n) s [.pps, .watch] fun c =>
      c.pps[n].state = (if nat s.chip (kPpRetryCount n) ≠ 255 ∧ s.chip.pps[n].retriesLeft = 0 then .latched else .retryWait) ∧
      c.pps[n].foff = true ∧ c.pps[n].gate = 0 ∧ c.pps[n].pg = false ∧ c.pps[n].timer = false ∧ c.pps[n].count = 0 ∧
      c.pps[n].trips = satSucc 65535 s.chip.pps[n].trips ∧ c.pps[n].retriesLeft = (if nat s.chip (kPpRetryCount n) = 255 then 255
        else s.chip.pps[n].retriesLeft - 1) ∧
      c.pps[n].offTime = retryOffTime s.chip n (s.chip.clock.us - s.chip.pps[n].rampAt) ∧
      (raise (72 + n) 1 0 s.chip).watch.arrived <+: c.watch.arrived ∧ ∀ m : Fin 8, m ≠ n → c.pps[m] = s.chip.pps[m]) ∧
  (∀ (s : State) (n : Fin 8), drives s.chip → s.chip.pps[n].timer = true → s.chip.pps[n].limiting = false →
    Gives (.ppFaultTimerClear n) s [.pps] fun c =>
      c.pps = s.chip.pps.set n { s.chip.pps[n] with timer := false, count := 0, idle := 0 }) ∧
  (∀ (s : State) (n : Fin 8), drives s.chip → s.chip.pps[n].state = .ramp →
    Gives (.ppRampTimeout n) s [.pps, .watch] fun c =>
      c.pps[n].state = (if nat s.chip (kPpRetryCount n) ≠ 255 ∧ s.chip.pps[n].retriesLeft = 0 then .latched else .retryWait) ∧
      c.pps[n].foff = true ∧ c.pps[n].gate = 0 ∧ c.pps[n].pg = false ∧ c.pps[n].timer = false ∧ c.pps[n].count = 0 ∧
      c.pps[n].trips = satSucc 65535 s.chip.pps[n].trips ∧ c.pps[n].retriesLeft = (if nat s.chip (kPpRetryCount n) = 255 then 255
        else s.chip.pps[n].retriesLeft - 1) ∧
      c.pps[n].offTime = retryOffTime s.chip n (s.chip.clock.us - s.chip.pps[n].rampAt) ∧
      (raise (72 + n) 1 0 s.chip).watch.arrived <+: c.watch.arrived ∧ ∀ m : Fin 8, m ≠ n → c.pps[m] = s.chip.pps[m]) ∧
  (∀ (s : State) (n : Fin 8), drives s.chip → s.chip.pps[n].state = .retryWait →
    Gives (.ppRetryOffElapsed n) s [.pps] fun c =>
      c.pps = s.chip.pps.set n (if windowsOk s.chip.pps[n] then
      { s.chip.pps[n] with
      state := .ramp, foff := false, gate := 0, kill := false, rampAt := s.chip.clock.us, limiting := false, timer := false,
      count := 0, idle := 0, pgCount := 0, pgBreak := 0, ref := val s.chip (88 + n), rise := 0 } else
      { s.chip.pps[n] with state := .waitInput, uvOk := false, ovOk := false })) ∧
  (∀ (s : State) (n : Fin 8), drives s.chip → s.chip.pps[n].pg = true →
    Gives (.ppRetriesReload n) s [.pps] fun c =>
      c.pps = s.chip.pps.set n { s.chip.pps[n] with retriesLeft := nat s.chip (kPpRetryCount n) }) ∧
  (∀ (s : State) (n : Fin 8), drives s.chip → s.chip.pps[n].state = .reverse → hundredMicro (num s.chip (kPpOrOnDrop n)) ≤
    val s.chip (96 + n) →
    Gives (.oringReverseRecover n) s [.pps] fun c =>
      c.pps = s.chip.pps.set n { s.chip.pps[n] with
      state := .on, foff := false, gate := 0, kill := false, pgCount := 0, pgBreak := 0,
      ref := hundredMicro (num s.chip (kPpOrFwdDrop n)) })

/-- The gate loop takes the lesser term and limits where it is the current term; its reference rises in RAMP, and in ON its code rises
to 4,095 over 2,000 samples. After insertion a FEED or LOAD port ramps from code 0 and an ORING port is ON. A ramp completes to
ON once the output has come up. A qualified good condition asserts PG, or defers it while
the fault timer runs; a broken one withdraws it. A SEQ tick moves a WAIT-INPUT port with both windows satisfied to INSERT and
sets the PG outputs. Rests on R167, R169, R170, R171, R179, R208. -/
def Obligations.PortRampAndPowerGoodCommands : Prop :=
  (∀ (s : State) (n : Fin 8) (voltageTerm currentTerm : BitVec 12), live s.chip → ppRole s.chip n ≠ 2 → s.chip.pps[n].state =
    .ramp →
    Gives (.ppGateLoop n voltageTerm currentTerm) s [.pps] fun c =>
      c.pps = s.chip.pps.set n { s.chip.pps[n] with
      gate := (if currentTerm < voltageTerm then currentTerm else voltageTerm), limiting := decide (currentTerm < voltageTerm),
      ref := s.chip.pps[n].ref + (nat s.chip (kPpRampRate n) : Rat) / 2000000 }) ∧
  (∀ (s : State) (n : Fin 8) (voltageTerm currentTerm : BitVec 12), live s.chip → ppRole s.chip n ≠ 2 → s.chip.pps[n].state =
    .on →
    Gives (.ppGateLoop n voltageTerm currentTerm) s [.pps] fun c =>
      c.pps[n].rise = s.chip.pps[n].rise - 1 ∧
      c.pps = s.chip.pps.set n { s.chip.pps[n] with
      gate := (if currentTerm < risenCode c.pps[n] then currentTerm else risenCode c.pps[n]),
      limiting := decide (currentTerm < risenCode c.pps[n]), rise := s.chip.pps[n].rise - 1 }) ∧
  (∀ (s : State) (n : Fin 8) (voltageTerm currentTerm : BitVec 12), live s.chip → ppRole s.chip n = 2 → s.chip.pps[n].state = .on
    →
    Gives (.ppGateLoop n voltageTerm currentTerm) s [.pps] fun c =>
      c.pps = s.chip.pps.set n { s.chip.pps[n] with gate := voltageTerm }) ∧
  (∀ (s : State) (n : Fin 8), drives s.chip → s.chip.pps[n].state = .insert → windowsOk s.chip.pps[n] →
    Gives (.ppInsertElapsed n) s [.pps] fun c =>
      c.pps = s.chip.pps.set n (if ppRole s.chip n = 2 then
      { s.chip.pps[n] with
      state := .on, foff := false, gate := 0, kill := false, pgCount := 0, pgBreak := 0,
      ref := hundredMicro (num s.chip (kPpOrFwdDrop n)) } else
      { s.chip.pps[n] with
      state := .ramp, foff := false, gate := 0, kill := false, rampAt := s.chip.clock.us, limiting := false, timer := false,
      count := 0, idle := 0, pgCount := 0, pgBreak := 0, ref := val s.chip (88 + n), rise := 0 })) ∧
  (∀ (s : State) (n : Fin 8), drives s.chip → s.chip.pps[n].state = .ramp → outputUp s.chip n →
    Gives (.ppRampComplete n) s [.pps] fun c =>
      c.pps = s.chip.pps.set n { s.chip.pps[n] with state := .on, riseFrom := s.chip.pps[n].gate, rise := 2000 }) ∧
  (∀ (s : State) (n : Fin 8), drives s.chip → ppGood s.chip n → s.chip.pps[n].pg = false →
    Gives (.ppPgQualified n) s [.pps] fun c =>
      c.pps = s.chip.pps.set n (if s.chip.pps[n].timer then
      { s.chip.pps[n] with pgCount := nat s.chip (kPpPgQualTime n), pgDefer := true } else
      { s.chip.pps[n] with pgCount := nat s.chip (kPpPgQualTime n), pg := true, pgDefer := false, pgSince := some s.chip.clock.us, pgBreak := 0 })) ∧
  (∀ (s : State) (n : Fin 8), drives s.chip → ppGood s.chip n = false → s.chip.pps[n].pg = true → s.chip.pps[n].timer = false →
    Gives (.ppPgLostTimeout n) s [.pps] fun c =>
      c.pps = s.chip.pps.set n { s.chip.pps[n] with pg := false, pgDefer := false, pgCount := 0, pgBreak := 0, pgSince := none }) ∧
  (∀ (s : State) (samples : List Sample), samples.all Sample.fits → drives s.chip →
    Gives (.seqTick samples) s [.chans, .bus, .phases, .rails, .vcs, .strs, .pps, .wms, .seq, .mills, .watch] fun c =>
      (∀ n : Fin 8, s.chip.pps[n].state = .waitInput → ppRole s.chip n ≠ 2 → windowsOk (ppWindows n (takeSamples samples
        s.chip)).pps[n] = true →
      c.pps[n].state = .insert) ∧ (∀ n : Fin 8, s.chip.pps[n].state = .latched ∨ s.chip.pps[n].state = .shed → c.pps[n].state =
        s.chip.pps[n].state) ∧
      (∀ n : Fin 8, c.seq.pgOut[n] = (s.chip.seq.pgAsserted[n] && (nat s.chip (kPgFollow n) == 0 || seqCond c (nat s.chip
        (kPgFollow n) / 4096) (nat s.chip (kPgFollow n) % 256)))) ∧
      c.clock = s.chip.clock)

/-- An under-voltage onset sets its comparator, with an event unless masked. An over-voltage onset sets FAULTOV with an event, and
with the kill link kills the bound rail with a second event. A clear clears the one comparator. A value beyond a warning
threshold sets the warning with an event on 234, and one back inside by the hysteresis clears it. The second bad read-back of an
over-voltage DAC, later than 20 µs after its code moved, sets DACERR. The narrowing thresholds take the margin once the reference
stands at its target. Other monitors are unchanged. Rests on
R189, R190, R191, R193, R194, R195, R211. -/
def Obligations.MonitorCommands : Prop :=
  (∀ (s : State) (m : Fin 64), flag s.chip (kWmEnable m) → live s.chip →
    Gives (.wmFaultOnset m false) s [.phases, .rails, .vcs, .wms, .watch] fun c =>
      c.wms = s.chip.wms.set m { s.chip.wms[m] with faultUv := true, uvMovedAt := some s.chip.clock.us } ∧
      c.watch = if s.chip.wms[m].faultUv || uvMasked s.chip m then s.chip.watch else (raise (80 + m) 1 0 s.chip).watch) ∧
  (∀ (s : State) (m : Fin 64), flag s.chip (kWmEnable m) → live s.chip → s.chip.wms[m].faultOv = false → flag s.chip (kWmOvKill m)
    = false →
    Gives (.wmFaultOnset m true) s [.phases, .rails, .vcs, .wms, .watch] fun c =>
      c.wms = s.chip.wms.set m { s.chip.wms[m] with faultOv := true, ovMovedAt := some s.chip.clock.us } ∧
      c.watch = (raise (80 + m) 1 0 s.chip).watch ∧ c.rails = s.chip.rails ∧ c.phases = s.chip.phases) ∧
  (∀ (s : State) (m : Fin 64) (r : Fin 16), flag s.chip (kWmEnable m) → live s.chip → s.chip.wms[m].faultOv = false → flag s.chip
    (kWmOvKill m) → wmRail s.chip m = some r →
    Gives (.wmFaultOnset m true) s [.phases, .rails, .vcs, .wms, .watch] fun c =>
      c.wms = s.chip.wms.set m { s.chip.wms[m] with faultOv := true, ovMovedAt := some s.chip.clock.us, killed := true } ∧
      (raise (80 + m) 2 0 (raise (80 + m) 1 0 s.chip)).watch.arrived <+: c.watch.arrived ∧ c.rails[r].killed = true ∧
      (∀ p ∈ phasesOf s.chip r, c.phases[p].kill = true) ∧ (drives s.chip = true → s.chip.rails[r].state ≠ .off → c.rails[r].state
        = .fault)) ∧
  (∀ (s : State) (m : Fin 64) (ov : Bool), flag s.chip (kWmEnable m) → live s.chip →
    Gives (.wmFaultClear m ov) s [.wms] fun c =>
      c.wms = s.chip.wms.set m (if ov then { s.chip.wms[m] with faultOv := false, ovMovedAt := some s.chip.clock.us } else
        { s.chip.wms[m] with faultUv := false, uvMovedAt := some s.chip.clock.us })) ∧
  (∀ (s : State) (m : Fin 64), flag s.chip (kWmEnable m) → live s.chip → wmStale s.chip m = false →
    withMargin (num s.chip (kWmOvWarn m)) s.chip.wms[m].ovMargin < (s.chip.wms[m].value : Rat) →
    Gives (.wmWarningOnset m true) s [.wms, .watch] fun c =>
      c.wms = s.chip.wms.set m { s.chip.wms[m] with warnOv := true } ∧
      c.watch = if s.chip.wms[m].warnOv then s.chip.watch else (raise 234 1 0 s.chip).watch) ∧
  (∀ (s : State) (m : Fin 64), flag s.chip (kWmEnable m) → live s.chip → wmStale s.chip m = false → uvMasked s.chip m = false →
    (s.chip.wms[m].value : Rat) < withMargin (num s.chip (kWmUvWarn m)) s.chip.wms[m].uvMargin →
    Gives (.wmWarningOnset m false) s [.wms, .watch] fun c =>
      c.wms = s.chip.wms.set m { s.chip.wms[m] with warnUv := true } ∧
      c.watch = if s.chip.wms[m].warnUv then s.chip.watch else (raise 234 1 0 s.chip).watch) ∧
  (∀ (s : State) (m : Fin 64), flag s.chip (kWmEnable m) → live s.chip → wmStale s.chip m = false → (s.chip.wms[m].value : Rat) ≤
    withMargin (num s.chip (kWmOvWarn m)) s.chip.wms[m].ovMargin - (num s.chip (kWmHyst m) : Rat) * num s.chip (kWmScale m) / 1024 →
    Gives (.wmWarningClear m true) s [.wms] fun c =>
      c.wms = s.chip.wms.set m { s.chip.wms[m] with warnOv := false }) ∧
  (∀ (s : State) (m : Fin 64), flag s.chip (kWmEnable m) → live s.chip → wmStale s.chip m = false →
    withMargin (num s.chip (kWmUvWarn m)) s.chip.wms[m].uvMargin + (num s.chip (kWmHyst m) : Rat) * num s.chip (kWmScale m) / 1024 ≤
    (s.chip.wms[m].value : Rat) →
    Gives (.wmWarningClear m false) s [.wms] fun c =>
      c.wms = s.chip.wms.set m { s.chip.wms[m] with warnUv := false }) ∧
  (∀ (s : State) (m : Fin 64) (reading : BitVec 12), flag s.chip (kWmEnable m) → live s.chip → s.chip.wms[m].badOv = 1 →
    s.chip.wms[m].errOv = false → within s.chip 20 s.chip.wms[m].ovMovedAt = false → 12 < (reading.toNat : Int) - 4 * dacCode s.chip m true →
    Gives (.wmDacReadback m true reading) s [.wms, .watch] fun c =>
      c.wms = s.chip.wms.set m { s.chip.wms[m] with badOv := 2, goodOv := 0, errOv := true } ∧ c.watch = (raise 233 1 0
        s.chip).watch) ∧
  (∀ (s : State) (m : Fin 64) (r : Fin 16), wmRail s.chip m = some r → flag s.chip (kWmFollowMargin m) → live s.chip →
    refAtTarget s.chip r →
    Gives (.marginNarrowMove m) s [.wms] fun c =>
      c.wms = s.chip.wms.set m { s.chip.wms[m] with
      uvMargin := marginOf s.chip r, ovMargin := marginOf s.chip r, uvMovedAt := some s.chip.clock.us,
      ovMovedAt := some s.chip.clock.us })

/-- A raw good that changes restarts qualification and counts; eight within 10 ms set the chatter bit with an event. A qualified
rail is good. An entry whose condition held for its delay marks its target and the next entry starts. An up timeout, of an entry that has one,
makes an event and, by
SeqUpTimeoutAction, an off request or the next entry; a down timeout acts at once with an event. Once the minimum off-time has
passed, the power-up table starts. Rests on R198, R199, R202, R204, R206, R207. -/
def Obligations.SequencerCommands : Prop :=
  (∀ (s : State) (r : Fin 16), rawGoodNow s.chip r ≠ s.chip.seq.rawGood[r] → drives s.chip →
    Gives (.rawGoodTransition r) s [.seq, .watch] fun c =>
      c.seq.rawGood = s.chip.seq.rawGood.set r (rawGoodNow s.chip r) ∧ c.seq.good = s.chip.seq.good.set r false ∧
      (c.seq.chatter[r] = (s.chip.seq.chatter[r] || decide (8 ≤ 1 + (s.chip.seq.transitions[r].filter fun t => decide
        (s.chip.clock.us ≤ t + 10000)).length))) ∧
      c.watch = if 8 ≤ 1 + (s.chip.seq.transitions[r].filter fun t => decide (s.chip.clock.us ≤ t + 10000)).length then (raise 232
        1 0 s.chip).watch else s.chip.watch) ∧
  (∀ (s : State) (r : Fin 16), rawGoodNow s.chip r → s.chip.seq.rawGood[r] = true → drives s.chip →
    Gives (.railGoodQualified r) s [.seq] fun c =>
      c.seq = { s.chip.seq with good := s.chip.seq.good.set r true }) ∧
  (∀ (s : State) (j : Nat), s.chip.seq.state = .powerUp → s.chip.seq.entry = some j → delayOver s.chip j → drives s.chip → j + 1 < nat s.chip kSeqUpLength →
    Gives .seqEntryDelayEnd s [.chans, .rms, .bus, .phases, .rails, .vcs, .strs, .pps, .wms, .seq, .watch] fun c =>
      c.seq.state = .powerUp ∧ c.seq.entry = some (j + 1) ∧
      seqReached c (field (seqWordA s.chip j) 28 4) (field (seqWordA s.chip j) 24 4) = true) ∧
  (∀ (s : State) (j : Nat), s.chip.seq.state = .powerUp → s.chip.seq.entry = some j → drives s.chip → timedOut
    s.chip j → nat s.chip kSeqUpTimeoutAction ≠ 1 → j + 1 < nat s.chip kSeqUpLength →
    Gives .seqUpTimeout s [.chans, .rms, .bus, .phases, .rails, .vcs, .strs, .pps, .wms, .seq, .watch] fun c =>
      c.seq = { s.chip.seq with
      entry := some (j + 1), entryAt := s.chip.clock.us,
      condAt := if entryCond s.chip (j + 1) then some s.chip.clock.us else none } ∧ c.watch = (raise 230 1 0 s.chip).watch) ∧
  (∀ (s : State) (j : Nat), s.chip.seq.state = .powerUp → s.chip.seq.entry = some j → drives s.chip → timedOut
    s.chip j → nat s.chip kSeqUpTimeoutAction = 1 →
    Gives .seqUpTimeout s [.chans, .rms, .bus, .phases, .rails, .vcs, .strs, .pps, .wms, .seq, .watch] fun c =>
      c.seq = (seqStartDown s.chip).seq ∧ (c.seq.state = .powerDown ∨ c.seq.state = .off) ∧ c.watch = (raise 230 1 0 s.chip).watch) ∧
  (∀ (s : State) (j : Nat), s.chip.seq.state = .powerDown → s.chip.seq.entry = some j → drives s.chip → timedOut
    s.chip j → 1 ≤ field (seqWordA s.chip j) 28 4 → field (seqWordA s.chip j) 28 4 ≤ 5 →
    Gives .seqDownTimeout s [.chans, .rms, .bus, .phases, .rails, .vcs, .strs, .pps, .wms, .seq, .watch] fun c =>
      seqReached c (field (seqWordA s.chip j) 28 4) (field (seqWordA s.chip j) 24 4) = false ∧
      { src := Fin.ofNat 256 231, code := 1, value := 0 } ∈ c.watch.arrived ∧ c.seq.entry ≠ some j) ∧
  (∀ (s : State), s.chip.seq.state = .offHold → drives s.chip → minOffPassed s.chip → 0 < nat s.chip kSeqUpLength →
    Gives .seqMinOffElapsed s [.chans, .rms, .bus, .phases, .rails, .vcs, .strs, .pps, .wms, .seq, .watch] fun c =>
      c.seq.state = .powerUp ∧ c.seq.entry = some 0 ∧ c.seq.entryAt = s.chip.clock.us ∧ c.seq.upComplete = false ∧
      c.seq.pendingOn = false)

/-- ADD, SUB, MIN, MAX, CLAMP, ABS, NEG, ASH, MULS and DIV at the PC of a run write their exact result, saturated at 32 bits, to
S[D], set V where it saturates, and move the PC on. ASH and MULS round towards minus infinity and DIV truncates towards zero; a
divisor of 0 gives 7FFFFFFFh, 80000000h or 0 by the sign of S[A] and sets V. No other word, mill or part of the chip changes.
A DIV with K 63 is illegal and stops the mill. Rests on R216, R219, R220, R221. -/
def Obligations.MillArithmeticInstructions : Prop :=
  (∀ (s : State) (m : Fin 16) (d a b : Fin 128), millAt s.chip m (fmtR 0x0B 0 0 d a b 0) → ([d, a, b].all fun w => !isPending
    s.chip.mills[m] w) →
    Gives (.add m d a b) s [.mills] fun c =>
      c.mills = s.chip.mills.set m (wroteSat s.chip.mills[m] d (s.chip.mills[m].words[a].toInt + s.chip.mills[m].words[b].toInt))) ∧
  (∀ (s : State) (m : Fin 16) (d a b : Fin 128), millAt s.chip m (fmtR 0x0C 0 0 d a b 0) → ([d, a, b].all fun w => !isPending
    s.chip.mills[m] w) →
    Gives (.sub m d a b) s [.mills] fun c =>
      c.mills = s.chip.mills.set m (wroteSat s.chip.mills[m] d (s.chip.mills[m].words[a].toInt - s.chip.mills[m].words[b].toInt))) ∧
  (∀ (s : State) (m : Fin 16) (d a b : Fin 128), millAt s.chip m (fmtR 0x0D 0 0 d a b 0) → ([d, a, b].all fun w => !isPending
    s.chip.mills[m] w) →
    Gives (.min m d a b) s [.mills] fun c =>
      c.mills = s.chip.mills.set m (wroteSat s.chip.mills[m] d (min s.chip.mills[m].words[a].toInt
        s.chip.mills[m].words[b].toInt))) ∧
  (∀ (s : State) (m : Fin 16) (d a b : Fin 128), millAt s.chip m (fmtR 0x0E 0 0 d a b 0) → ([d, a, b].all fun w => !isPending
    s.chip.mills[m] w) →
    Gives (.max m d a b) s [.mills] fun c =>
      c.mills = s.chip.mills.set m (wroteSat s.chip.mills[m] d (max s.chip.mills[m].words[a].toInt
        s.chip.mills[m].words[b].toInt))) ∧
  (∀ (s : State) (m : Fin 16) (d a b : Fin 128), millAt s.chip m (fmtR 0x0F 0 0 d a b 0) → ([d, a, b].all fun w => !isPending
    s.chip.mills[m] w) →
    Gives (.clamp m d a b) s [.mills] fun c =>
      c.mills = s.chip.mills.set m (wroteSat s.chip.mills[m] d (min (max s.chip.mills[m].words[d].toInt
        s.chip.mills[m].words[a].toInt) s.chip.mills[m].words[b].toInt))) ∧
  (∀ (s : State) (m : Fin 16) (d a : Fin 128), millAt s.chip m (fmtR 0x10 0 0 d a 0 0) → ([d, a].all fun w => !isPending
    s.chip.mills[m] w) →
    Gives (.abs m d a) s [.mills] fun c =>
      c.mills = s.chip.mills.set m (wroteSat s.chip.mills[m] d (max s.chip.mills[m].words[a].toInt
        (-s.chip.mills[m].words[a].toInt)))) ∧
  (∀ (s : State) (m : Fin 16) (d a : Fin 128), millAt s.chip m (fmtR 0x11 0 0 d a 0 0) → ([d, a].all fun w => !isPending
    s.chip.mills[m] w) →
    Gives (.neg m d a) s [.mills] fun c =>
      c.mills = s.chip.mills.set m (wroteSat s.chip.mills[m] d (-s.chip.mills[m].words[a].toInt))) ∧
  (∀ (s : State) (m : Fin 16) (d a : Fin 128) (f : BitVec 6), millAt s.chip m (fmtR 0x12 0 0 d a 0 f.toNat) → ([d, a].all fun w =>
    !isPending s.chip.mills[m] w) →
    Gives (.ash m d a f) s [.mills] fun c =>
      c.mills = s.chip.mills.set m (wroteSat s.chip.mills[m] d (((s.chip.mills[m].words[a].toInt : Rat) * (2 : Rat) ^
        f.toInt).floor))) ∧
  (∀ (s : State) (m : Fin 16) (d a b : Fin 128) (k : BitVec 6), millAt s.chip m (fmtR 0x13 0 0 d a b k.toNat) → ([d, a, b].all fun
    w => !isPending s.chip.mills[m] w) →
    Gives (.muls m d a b k) s [.mills] fun c =>
      c.mills = s.chip.mills.set m (wroteSat s.chip.mills[m] d (s.chip.mills[m].words[a].toInt * s.chip.mills[m].words[b].toInt /
        2 ^ k.toNat))) ∧
  (∀ (s : State) (m : Fin 16) (d a b : Fin 128) (k : BitVec 6), millAt s.chip m (fmtR 0x14 0 0 d a b k.toNat) → ([d, a, b].all fun
    w => !isPending s.chip.mills[m] w) → k.toNat ≤ 62 → s.chip.mills[m].words[b].toInt ≠ 0 →
    Gives (.div m d a b k) s [.mills] fun c =>
      c.mills = s.chip.mills.set m (wroteSat s.chip.mills[m] d ((s.chip.mills[m].words[a].toInt * 2 ^ k.toNat).tdiv
        s.chip.mills[m].words[b].toInt))) ∧
  (∀ (s : State) (m : Fin 16) (d a b : Fin 128) (k : BitVec 6), millAt s.chip m (fmtR 0x14 0 0 d a b k.toNat) → ([d, a, b].all fun
    w => !isPending s.chip.mills[m] w) → k.toNat ≤ 62 → s.chip.mills[m].words[b].toInt = 0 →
    Gives (.div m d a b k) s [.mills] fun c =>
      c.mills = s.chip.mills.set m { wroteWord s.chip.mills[m] d
      (if s.chip.mills[m].words[a].toInt = 0 then 0 else if 0 < s.chip.mills[m].words[a].toInt then 0x7FFFFFFF else 0x80000000)
        with v := true }) ∧
  (∀ (s : State) (m : Fin 16) (d a b : Fin 128), millAt s.chip m (fmtR 0x14 0 0 d a b 63) → s.chip.twin.state = .single →
    Gives (.div m d a b 63) s [.hamlets, .phases, .rails, .vcs, .mills, .market, .can, .tw, .svc, .lane, .watch, .twin] fun c =>
      c.mills[m].state = .stopped ∧ c.mills[m].running = none ∧ c.mills[m].words = s.chip.mills[m].words ∧
      c.mills[m].stat = { s.chip.mills[m].stat with illegal := true, stopPc := BitVec.ofNat 16 s.chip.mills[m].pc } ∧
      (raise (156 + m) 1 0 s.chip).watch.arrived <+: c.watch.arrived)

/-- NOP moves the PC on. MOV, LDI, AND, OR and XOR write S[D]. CMP sets Z where the words are equal and N where S[A] is less. BR
goes to its address where its condition holds and to the next instruction otherwise. END with no read outstanding ends the run
and counts it. Nothing but the mill changes (and, at END, a free value). Rests on R216, R218, R219, R221. -/
def Obligations.MillWordAndFlowInstructions : Prop :=
  (∀ (s : State) (m : Fin 16), millAt s.chip m (fmtR 0x00 0 0 0 0 0 0) →
    Gives (.nop m ) s [.mills] fun c =>
      c.mills = s.chip.mills.set m { s.chip.mills[m] with pc := s.chip.mills[m].pc + 1 }) ∧
  (∀ (s : State) (m : Fin 16) (d a : Fin 128), millAt s.chip m (fmtR 0x04 0 0 d a 0 0) → ([d, a].all fun w => !isPending
    s.chip.mills[m] w) →
    Gives (.mov m d a) s [.mills] fun c =>
      c.mills = s.chip.mills.set m (wroteWord s.chip.mills[m] d s.chip.mills[m].words[a])) ∧
  (∀ (s : State) (m : Fin 16) (d : Fin 128) (imm : Word), millAt s.chip m (fmtL d imm) → isPending s.chip.mills[m] d = false →
    Gives (.ldi m d imm) s [.mills] fun c =>
      c.mills = s.chip.mills.set m (wroteWord s.chip.mills[m] d imm)) ∧
  (∀ (s : State) (m : Fin 16) (d a b : Fin 128), millAt s.chip m (fmtR 0x16 0 0 d a b 0) → ([d, a, b].all fun w => !isPending
    s.chip.mills[m] w) →
    Gives (.and m d a b) s [.mills] fun c =>
      c.mills = s.chip.mills.set m (wroteWord s.chip.mills[m] d (s.chip.mills[m].words[a] &&& s.chip.mills[m].words[b]))) ∧
  (∀ (s : State) (m : Fin 16) (d a b : Fin 128), millAt s.chip m (fmtR 0x17 0 0 d a b 0) → ([d, a, b].all fun w => !isPending
    s.chip.mills[m] w) →
    Gives (.or m d a b) s [.mills] fun c =>
      c.mills = s.chip.mills.set m (wroteWord s.chip.mills[m] d (s.chip.mills[m].words[a] ||| s.chip.mills[m].words[b]))) ∧
  (∀ (s : State) (m : Fin 16) (d a b : Fin 128), millAt s.chip m (fmtR 0x18 0 0 d a b 0) → ([d, a, b].all fun w => !isPending
    s.chip.mills[m] w) →
    Gives (.xor m d a b) s [.mills] fun c =>
      c.mills = s.chip.mills.set m (wroteWord s.chip.mills[m] d (s.chip.mills[m].words[a] ^^^ s.chip.mills[m].words[b]))) ∧
  (∀ (s : State) (m : Fin 16) (a b : Fin 128), millAt s.chip m (fmtR 0x15 0 0 0 a b 0) → ([a, b].all fun w => !isPending
    s.chip.mills[m] w) →
    Gives (.cmp m a b) s [.mills] fun c =>
      c.mills = s.chip.mills.set m { s.chip.mills[m] with
      z := decide (s.chip.mills[m].words[a].toInt = s.chip.mills[m].words[b].toInt), n := decide (s.chip.mills[m].words[a].toInt <
        s.chip.mills[m].words[b].toInt), pc := s.chip.mills[m].pc + 1 }) ∧
  (∀ (s : State) (m : Fin 16) (cond : BitVec 3) (addr : BitVec 11), millAt s.chip m (fmtR 0x02 0 cond.toNat 0 0 0 addr.toNat) →
    Gives (.br m cond addr) s [.mills] fun c =>
      c.mills = s.chip.mills.set m { s.chip.mills[m] with
      pc := if brCond s.chip.mills[m] cond then addr.toNat else s.chip.mills[m].pc + 1 }) ∧
  (∀ (s : State) (m : Fin 16) (k : Fin 4), millAt s.chip m (fmtR 0x01 0 0 0 0 0 0) → s.chip.mills[m].reads = [] →
    s.chip.mills[m].running = some k →
    Gives (.end_ m) s [.mills, .fresh] fun c =>
      c.mills[m].running = none ∧ c.mills[m].words = s.chip.mills[m].words ∧ c.mills[m].acc = s.chip.mills[m].acc ∧
      c.mills[m].stat = { s.chip.mills[m].stat with
      runs := s.chip.mills[m].stat.runs + 1, hbLost := false,
      satCount := (if s.chip.mills[m].v then satSucc 65535 s.chip.mills[m].stat.satCount else s.chip.mills[m].stat.satCount),
      satAt := (if s.chip.mills[m].v then some s.chip.clock.us else s.chip.mills[m].stat.satAt) } ∧
      c.mills[m].activeB = (s.chip.mills[m].activeB != s.chip.mills[m].switchAtEnd) ∧ ∀ q : Fin 16, q ≠ m → c.mills[q] =
        s.chip.mills[q])

/-- CLRA clears ACC. LDA loads S[A] × 2^(31 + F). MAC adds, MSU subtracts and MPY loads P = Cv × S[A] × 2^(Cs + F) of the active
bank, rounded towards minus infinity. ACC saturates at 64 bits with V. STA writes ACC × 2^-31, rounded down with M 0 and to
nearest with M 1, saturated at 32 bits with V. Nothing but the mill changes. Rests on R214, R215, R216, R219. -/
def Obligations.MillAccumulatorInstructions : Prop :=
  (∀ (s : State) (m : Fin 16), millAt s.chip m (fmtR 0x05 0 0 0 0 0 0) →
    Gives (.clra m ) s [.mills] fun c =>
      c.mills = s.chip.mills.set m { s.chip.mills[m] with acc := 0, pc := s.chip.mills[m].pc + 1 }) ∧
  (∀ (s : State) (m : Fin 16) (a : Fin 128) (f : BitVec 6), millAt s.chip m (fmtR 0x06 0 0 0 a 0 f.toNat) → ([a].all fun w =>
    !isPending s.chip.mills[m] w) →
    Gives (.lda m a f) s [.mills] fun c =>
      c.mills = s.chip.mills.set m (wroteAcc s.chip.mills[m] ((s.chip.mills[m].words[a].toInt : Rat) * (2 : Rat) ^ (31 +
        f.toInt)).floor)) ∧
  (∀ (s : State) (m : Fin 16) (d : Fin 128) (round : Bool), millAt s.chip m (fmtR 0x07 (if round then 1 else 0) 0 d 0 0 0) →
    ([d].all fun w => !isPending s.chip.mills[m] w) →
    Gives (.sta m d round) s [.mills] fun c =>
      c.mills = s.chip.mills.set m (wroteSat s.chip.mills[m] d ((s.chip.mills[m].acc.toInt + (if round then 2 ^ 30 else 0)) / 2 ^
        31))) ∧
  (∀ (s : State) (m : Fin 16) (k : Fin 256) (a : Fin 128) (f : BitVec 6), millAt s.chip m (fmtR 0x08 0 k 0 a 0 f.toNat) → ([a].all
    fun w => !isPending s.chip.mills[m] w) →
    Gives (.mac m k a f) s [.mills] fun c =>
      c.mills = s.chip.mills.set m
        { wroteAcc s.chip.mills[m] (s.chip.mills[m].acc.toInt + (exactProduct s.chip.mills[m] k a f).floor) with trace := c.mills[m].trace }) ∧
  (∀ (s : State) (m : Fin 16) (k : Fin 256) (a : Fin 128) (f : BitVec 6), millAt s.chip m (fmtR 0x09 0 k 0 a 0 f.toNat) → ([a].all
    fun w => !isPending s.chip.mills[m] w) →
    Gives (.msu m k a f) s [.mills] fun c =>
      c.mills = s.chip.mills.set m
        { wroteAcc s.chip.mills[m] (s.chip.mills[m].acc.toInt - (exactProduct s.chip.mills[m] k a f).floor) with trace := c.mills[m].trace }) ∧
  (∀ (s : State) (m : Fin 16) (k : Fin 256) (a : Fin 128) (f : BitVec 6), millAt s.chip m (fmtR 0x0A 0 k 0 a 0 f.toNat) → ([a].all
    fun w => !isPending s.chip.mills[m] w) →
    Gives (.mpy m k a f) s [.mills] fun c =>
      c.mills = s.chip.mills.set m
        { wroteAcc s.chip.mills[m] ((exactProduct s.chip.mills[m] k a f).floor) with trace := c.mills[m].trace })

/-- RD with fewer than 16 reads outstanding issues its read and marks S[D] pending. A landing read writes the channel value, 0 for
a reserved channel, its status word, or, of a working channel of the stock units, a free value (the model's choice, log 57), and the word is pending no more. An owned WR with room queues its output; an unowned one
is counted with an event. The oldest output of class 06h goes to MillOut and of class 05h to its channel. Rests on R221, R222,
R223, R230, R231. -/
def Obligations.MillInputAndOutputInstructions : Prop :=
  (∀ (s : State) (m : Fin 16) (d : Fin 128) (ch : Fin 256) (status : Bool), millAt s.chip m (fmtR 0x19 (if status then 1 else 0)
    ch d 0 0 0) → ([d].all fun w => !isPending s.chip.mills[m] w) → s.chip.mills[m].reads.length < 16 →
    Gives (.rd m d ch status) s [.mills] fun c =>
      c.mills = s.chip.mills.set m { s.chip.mills[m] with
      reads := s.chip.mills[m].reads ++ [{ pc := s.chip.mills[m].pc, dest := d, ch := ch, status := status }], pc :=
        s.chip.mills[m].pc + 1 }) ∧
  (∀ (s : State) (m : Fin 16) (d : Fin 128) (q : MillRead), (s.chip.mills[m].reads.find? (fun r => r.dest == d) = some q) →
    Gives (.rdLand m d) s [.mills, .fresh] fun c =>
      c.mills = s.chip.mills.set m { s.chip.mills[m] with
      words := s.chip.mills[m].words.set d (if workingChannel q.ch then freeWord s.chip else if q.status then chanStatus s.chip q.ch else if chanReserved q.ch then 0 else (chanOf
        s.chip q.ch).word),
      reads := s.chip.mills[m].reads.filter (fun r => r.dest != d), trace := c.mills[m].trace }) ∧
  (∀ (s : State) (m : Fin 16) (cls : BitVec 8) (index : BitVec 11) (a : Fin 128), millAt s.chip m (fmtR 0x1A 0 cls.toNat 0 a 0
    index.toNat) → ([a].all fun w => !isPending s.chip.mills[m] w) → ownsOutput s.chip m cls.toNat index.toNat →
    s.chip.mills[m].outQueue.length < 8 →
    Gives (.wr m cls index a) s [.mills, .watch] fun c =>
      c.mills = s.chip.mills.set m { s.chip.mills[m] with
      outQueue := s.chip.mills[m].outQueue ++ [{ cls := cls, index := index, value := s.chip.mills[m].words[a] }],
      trace := c.mills[m].trace, pc := s.chip.mills[m].pc + 1 } ∧ c.watch = s.chip.watch) ∧
  (∀ (s : State) (m : Fin 16) (cls : BitVec 8) (index : BitVec 11) (a : Fin 128), millAt s.chip m (fmtR 0x1A 0 cls.toNat 0 a 0
    index.toNat) → ([a].all fun w => !isPending s.chip.mills[m] w) → ownsOutput s.chip m cls.toNat index.toNat = false →
    Gives (.wr m cls index a) s [.mills, .watch] fun c =>
      c.mills = s.chip.mills.set m { s.chip.mills[m] with
      stat :=
        { s.chip.mills[m].stat with writeRejects := satSucc 65535 s.chip.mills[m].stat.writeRejects, wrejAt := some s.chip.clock.us },
      trace := c.mills[m].trace, pc := s.chip.mills[m].pc + 1 } ∧ c.watch = (raise (156 + m) 4 0 s.chip).watch) ∧
  (∀ (s : State) (m : Fin 16) (q : MillOutput) (rest : List MillOutput), s.chip.mills[m].outQueue = q :: rest → live s.chip → q.cls = 6 → 1 ≤
    q.index.toNat → q.index.toNat ≤ 16 →
    Gives (.millOutputDelivery m) s [.chans, .rms, .phases, .rails, .vcs, .mills, .watch] fun c =>
      c.mills = s.chip.mills.set m { s.chip.mills[m] with
      outQueue := rest, outs := s.chip.mills[m].outs.set (Fin.ofNat 16 (q.index.toNat - 1)) q.value } ∧ c.chans = s.chip.chans ∧
        c.phases = s.chip.phases) ∧
  (∀ (s : State) (m : Fin 16) (q : MillOutput) (rest : List MillOutput), s.chip.mills[m].outQueue = q :: rest → live s.chip → q.cls = 5 →
    q.index.toNat < 256 →
    Gives (.millOutputDelivery m) s [.chans, .rms, .phases, .rails, .vcs, .mills, .watch] fun c =>
      c.mills = s.chip.mills.set m { s.chip.mills[m] with outQueue := rest } ∧
      c.chans = s.chip.chans.set (Fin.ofNat 256 q.index.toNat)
        { (chanOf s.chip q.index.toNat) with word := q.value, writtenAt := some s.chip.clock.us }) ∧
  (∀ (s : State) (m : Fin 16) (q : MillOutput) (rest : List MillOutput) (p : Fin 32) (r : Fin 16), s.chip.mills[m].outQueue = q ::
    rest → live s.chip → q.cls = 1 → q.index.toNat = p.val → railOfPhase s.chip p = some r → railTakes s.chip r → s.chip.phases[p].dropped =
    false →
    Gives (.millOutputDelivery m) s [.chans, .rms, .phases, .rails, .vcs, .mills, .watch] fun c =>
      c.mills = s.chip.mills.set m { s.chip.mills[m] with outQueue := rest } ∧
      c.phases = s.chip.phases.set p { s.chip.phases[p] with dutyNext := some (if q.value.toInt < 0 then 0 else q.value) })

/-- A timer trigger that is due makes the slot of a READY mill pending, or counts an overrun, and sets the next one a period on. The lowest pending slot starts at its entry with ACC
and flags clear. An illegal instruction and the run limit stop the mill with their bit; a lost heartbeat sets HBLOST; each makes
an event. A bank copy ends BANKPEND. A load clears words and trace and makes the mill READY. A trace DONE on a Watch event goes
to the next dump slot. Rests on R216, R217, R220, R227, R228, R229, R235, R238, R246. -/
def Obligations.MillControlCommands : Prop :=
  (∀ (s : State) (m : Fin 16) (k : Fin 4), live s.chip → s.chip.mills[m].state = .ready → timed s.chip m k → s.chip.mills[m].due[k]
    ≤ 100 * s.chip.clock.us → s.chip.mills[m].slots[k] = false →
    Gives (.millTrigger m k) s [.mills, .watch] fun c =>
      c.mills = s.chip.mills.set m { s.chip.mills[m] with
      slots := s.chip.mills[m].slots.set k true,
      due := s.chip.mills[m].due.set k (s.chip.mills[m].due[k] + timerPeriod s.chip m) } ∧ c.watch = s.chip.watch) ∧
  (∀ (s : State) (m : Fin 16) (k : Fin 4), live s.chip → s.chip.mills[m].state = .ready → timed s.chip m k → s.chip.mills[m].due[k]
    ≤ 100 * s.chip.clock.us → s.chip.mills[m].slots[k] = true →
    Gives (.millTrigger m k) s [.mills, .watch] fun c =>
      c.mills[m].due = s.chip.mills[m].due.set k (s.chip.mills[m].due[k] + timerPeriod s.chip m) ∧
      c.mills[m].slots = s.chip.mills[m].slots ∧ c.mills[m].stat.overruns = satSucc 65535 s.chip.mills[m].stat.overruns ∧
      c.mills[m].stat.overrunAt = some s.chip.clock.us ∧ (s.chip.mills[m].stat.overrunEventAt = none → c.watch = (raise (156 + m)
        3 0 s.chip).watch) ∧
      ∀ q : Fin 16, q ≠ m → c.mills[q] = s.chip.mills[q]) ∧
  (∀ (s : State) (m : Fin 16) (k : Fin 4), live s.chip → s.chip.mills[m].state = .ready → s.chip.mills[m].running = none →
    s.chip.mills[m].slots[k] = true → (∀ j : Fin 4, j < k → s.chip.mills[m].slots[j] = false) →
    Gives (.millRunStart m) s [.mills] fun c =>
      c.mills = s.chip.mills.set m { s.chip.mills[m] with
      slots := s.chip.mills[m].slots.set k false, running := some k, pc := nat s.chip (kMillTrigEntry m k), acc := 0, z := false,
        n := false, v := false }) ∧
  (∀ (s : State) (m : Fin 16), s.chip.mills[m].state = .ready → nat s.chip (kMillSource m) = 2 → s.chip.mills[m].running.isSome →
    ((s.chip.mills[m].program[s.chip.mills[m].pc]?.all fun w => !legalWord w) = true) → s.chip.twin.state = .single →
    Gives (.illegalInstruction m) s [.hamlets, .phases, .rails, .vcs, .mills, .market, .can, .tw, .svc, .lane, .watch, .twin] fun c =>
      c.mills[m].stat = { s.chip.mills[m].stat with illegal := true, stopPc := BitVec.ofNat 16 s.chip.mills[m].pc } ∧
        c.mills[m].running = none ∧ c.mills[m].reads = [] ∧ c.mills[m].state = .stopped ∧
      (raise (156 + m) 1 0 s.chip).watch.arrived <+: c.watch.arrived ∧ ∀ q : Fin 16, q ≠ m → c.mills[q] = s.chip.mills[q]) ∧
  (∀ (s : State) (m : Fin 16), live s.chip → s.chip.mills[m].state = .ready → s.chip.mills[m].running.isSome → s.chip.twin.state =
    .single →
    Gives (.runLimit m) s [.hamlets, .phases, .rails, .vcs, .mills, .market, .can, .tw, .svc, .lane, .watch, .twin] fun c =>
      c.mills[m].stat = { s.chip.mills[m].stat with runLimit := true } ∧ c.mills[m].running = none ∧ c.mills[m].reads = [] ∧
        c.mills[m].state = .stopped ∧
      (raise (156 + m) 1 0 s.chip).watch.arrived <+: c.watch.arrived ∧ ∀ q : Fin 16, q ≠ m → c.mills[q] = s.chip.mills[q]) ∧
  (∀ (s : State) (m : Fin 16) (k : Fin 4), live s.chip → s.chip.mills[m].state = .ready → s.chip.mills[m].slots[k] = true →
    s.chip.twin.state = .single →
    Gives (.millHeartbeatLost m k) s [.hamlets, .mills, .market, .can, .tw, .svc, .lane, .watch, .twin] fun c =>
      c.mills = s.chip.mills.set m { s.chip.mills[m] with
      stat := { s.chip.mills[m].stat with hbLost := true } } ∧ (raise (156 + m) 2 0 s.chip).watch.arrived <+: c.watch.arrived) ∧
  (∀ (s : State) (m : Fin 16), live s.chip → s.chip.mills[m].bankPend = true →
    Gives (.bankCopyDone m) s [.mills] fun c =>
      c.mills[m].bankPend = false ∧ c.mills[m].bankA = c.mills[m].bankB ∧
      (if s.chip.mills[m].activeB then c.mills[m].bankB = s.chip.mills[m].bankB else c.mills[m].bankA = s.chip.mills[m].bankA) ∧
      { c.mills[m] with bankA := s.chip.mills[m].bankA, bankB := s.chip.mills[m].bankB, bankPend := true } = s.chip.mills[m] ∧
      ∀ q : Fin 16, q ≠ m → c.mills[q] = s.chip.mills[q]) ∧
  (∀ (s : State) (m : Fin 16), s.chip.mills[m].state = .loading ∨ s.chip.mills[m].state = .reset → reeveRuns s.chip →
    s.chip.hamlets[millHamlet m].blkrst = false →
    Gives (.millLoad m) s [.hamlets, .green, .rms, .bus, .well, .phases, .rails, .strs, .batt, .mills, .market] fun c =>
      c.mills[m].state = (if nat s.chip (kMillSource m) = 0 then .idle else .ready) ∧ c.mills[m].words = Vector.replicate 128 0 ∧
      c.mills[m].trace = {} ∧ c.mills[m].bankA = c.mills[m].bankB ∧ c.mills[m].bankPend = false ∧ c.mills[m].running = none ∧
      c.mills[m].slots = Vector.ofFn (timed s.chip m) ∧ c.hamlets[millHamlet m].closed = false ∧ ∀ q : Fin 16, q ≠ m → c.mills[q]
        = s.chip.mills[q]) ∧
  (∀ (s : State) (m : Fin 16), flag s.chip (kMillTraceDump m) → s.chip.mills[m].trace.state = .done →
    s.chip.mills[m].trace.byWatch = true → s.chip.nor.size ≠ 0 → live s.chip →
    Gives (.traceDumpStored m) s [.mills, .alm, .nor] fun c =>
      c.mills = s.chip.mills.set m { s.chip.mills[m] with trace := { s.chip.mills[m].trace with byWatch := false } } ∧
      (c.nor.dumps[Fin.ofNat 15 s.chip.nor.dumpNext]).isSome = true ∧ (∀ j : Fin 15, j ≠ Fin.ofNat 15 s.chip.nor.dumpNext →
        c.nor.dumps[j] = s.chip.nor.dumps[j]) ∧
      c.nor.dumpNext = (s.chip.nor.dumpNext % 15 + 1) % 15)

/-- A write that reaches its target and passes its checks completes with OK. RailEnable 1 takes an OFF rail whose entry is reached, and whose
output and input channels pass their checks, to ON-DELAY and 0 a REGULATE rail to OFF-DELAY; RailTarget moves the command; PpEnable 1 takes an OFF port to WAIT-INPUT.
StrRequalify takes a FAULT string to QUALIFYING. The heartbeat, fallow, ship, sequencer and trace commands take effect as
stated. Rests on R84, R85, R125, R138, R148, R156, R168, R207, R245, R257, R472. -/
def Obligations.SettingAndRequestWrites : Prop :=
  (∀ (s : State) (o : Origin) (r : Fin 16), reaches o (kRailEnable r) true s.chip → directCheck o (kRailEnable r) (.num 1) s.chip
    = .ok → s.chip.rails[r].state = .off → s.chip.seq.railReached[r] = true → railType s.chip r ≠ 0 → lifeCycle s.chip ≠ .blank →
    railStartHeld s.chip r = false → passes s.chip (32 + r) → passes s.chip (nat s.chip (kRailInputChannel r)) → odSorted
    s.chip.od →
    ∃ c, exec (.railEnableWrite o r 1) s = .next { s with chip := c } ∧
      c.rails[r].state = .onDelay ∧ flag c (kRailEnable r) = true ∧ writeDone o (kRailEnable r) s.chip c) ∧
  (∀ (s : State) (o : Origin) (r : Fin 16), reaches o (kRailEnable r) true s.chip → directCheck o (kRailEnable r) (.num 0) s.chip
    = .ok → s.chip.rails[r].state = .regulate → odSorted s.chip.od →
    ∃ c, exec (.railEnableWrite o r 0) s = .next { s with chip := c } ∧
      c.rails[r].state = .offDelay ∧ flag c (kRailEnable r) = false ∧ writeDone o (kRailEnable r) s.chip c) ∧
  (∀ (s : State) (o : Origin) (r : Fin 16) (v : Int), reaches o (kRailTarget r) true s.chip → inRange v (-2147483648) 2147483647 →
    admissible (kRailTarget r) v → directCheck o (kRailTarget r) (.num v) s.chip = .ok → railType s.chip r = 1 →
    s.chip.rails[r].state = .regulate → s.chip.rails[r].vcHolds = false → odSorted s.chip.od →
    ∃ c, exec (.railTargetWrite o r v) s = .next { s with chip := c } ∧
      num c (kRailTarget r) = v ∧ c.rails[r].target = v ∧ c.rails[r].command = v ∧ c.rails[r].state = .regulate ∧ writeDone o (kRailTarget r) s.chip c) ∧
  (∀ (s : State) (o : Origin) (n : Fin 8), reaches o (kPpEnable n) true s.chip → directCheck o (kPpEnable n) (.num 1) s.chip = .ok
    → s.chip.pps[n].state = .off → s.chip.seq.ppReached[n] = true → ppRole s.chip n ≠ 0 → lifeCycle s.chip ≠ .blank → ppHeld
    s.chip n = false → odSorted s.chip.od →
    ∃ c, exec (.ppEnableWrite o n 1) s = .next { s with chip := c } ∧
      c.pps[n].state = .waitInput ∧ c.pps[n].retriesLeft = nat s.chip (kPpRetryCount n) ∧ flag c (kPpEnable n) = true ∧ writeDone
        o (kPpEnable n) s.chip c) ∧
  (∀ (s : State) (o : Origin) (n : Fin 4), reaches o (kStrRequalify n) true s.chip → drives s.chip → s.chip.strs[n].state = .fault
    →
    ∃ c, exec (.strRequalify o n 1) s = .next { s with chip := c } ∧
      c.strs = s.chip.strs.set n { s.chip.strs[n] with
      state := .qualifying, sw := s.chip.strs[n].sw || !s.chip.strs[n].shipLatch,
      closed := s.chip.strs[n].closed && s.chip.strs[n].shipLatch, pattern := .none, phase := .none, resting :=
        false, seqWaits := false } ∧ writeDone o (kStrRequalify n) s.chip c) ∧
  (∀ (s : State) (o : Origin) (v : Int), reaches o (kBattHeartbeat) true s.chip → inRange v 0 65535 → admissible kBattHeartbeat v
    →
    ∃ c, exec (.battHeartbeat o v) s = .next { s with chip := c } ∧
      c.batt = { s.chip.batt with expired := false, wdStart := nowMs s.chip } ∧ writeDone o (kBattHeartbeat) s.chip c) ∧
  (∀ (s : State) (o : Origin) (n : Fin 4), reaches o (kFallowRequest) true s.chip → fallowMayStart s.chip n →
    ∃ c, exec (.fallowRequest o n) s = .next { s with chip := c } ∧
      c.batt = { s.chip.batt with fallowChosen := some n } ∧ writeDone o (kFallowRequest) s.chip c) ∧
  (∀ (s : State) (o : Origin), reaches o (kShipModeArm) true s.chip →
    ∃ c, exec (.shipModeArm o 0x0A5A) s = .next { s with chip := c } ∧
      c.batt = { s.chip.batt with shipArm := some (o, nowMs s.chip) } ∧ writeDone o (kShipModeArm) s.chip c) ∧
  (∀ (s : State) (o : Origin), reaches o (kShipModeArm) true s.chip →
    ∃ c, exec (.shipModeArm o 0) s = .next { s with chip := c } ∧
      c.batt = { s.chip.batt with shipArm := none, shipPending := false, shipBoot := false } ∧ (∀ n : Fin 4, s.chip.strs[n].state =
        .ship → c.strs[n].state = .qualifying) ∧ writeDone o (kShipModeArm) s.chip c) ∧
  (∀ (s : State) (o : Origin) (t : Nat), reaches o (kShipModeConfirm) true s.chip → s.chip.batt.shipArm = some (o, t) → nowMs
    s.chip ≤ t + 10000 →
    ∃ c, exec (.shipModeConfirm o 0x05A5) s = .next { s with chip := c } ∧
      c.batt = { s.chip.batt with shipArm := none, shipPending := true } ∧ writeDone o (kShipModeConfirm) s.chip c) ∧
  (∀ (s : State) (o : Origin), reaches o (kSeqCommand) true s.chip → drives s.chip → lifeCycle s.chip ≠ .blank → s.chip.seq.state
    = .off → s.chip.seq.offAt = none → 0 < nat s.chip kSeqUpLength →
    ∃ c, exec (.seqCommand o 1) s = .next { s with chip := c } ∧
      c.seq = { s.chip.seq with
      state := .powerUp, entry := some 0, entryAt := s.chip.clock.us,
      condAt := if seqCond s.chip (field (nat s.chip (kSeqUpWordA 0)) 20 4) (field (nat s.chip (kSeqUpWordA 0)) 0 8) then
        some s.chip.clock.us else none, upComplete := false, pendingOn := false } ∧ writeDone o
        (kSeqCommand) s.chip c) ∧
  (∀ (s : State) (o : Origin), reaches o (kSeqCommand) true s.chip → drives s.chip → s.chip.seq.state = .offHold →
    ∃ c, exec (.seqCommand o 0) s = .next { s with chip := c } ∧
      c.seq = { s.chip.seq with state := .off } ∧ writeDone o (kSeqCommand) s.chip c) ∧
  (∀ (s : State) (o : Origin) (m : Fin 16), reaches o (kMillTraceCtl m) true s.chip →
    ∃ c, exec (.traceArm o m) s = .next { s with chip := c } ∧
      c.mills = s.chip.mills.set m { s.chip.mills[m] with trace := { state := .armed } } ∧ writeDone o (kMillTraceCtl m) s.chip c) ∧
  (∀ (s : State) (o : Origin) (m : Fin 16), reaches o (kMillTraceCtl m) true s.chip → s.chip.mills[m].trace.state = .armed →
    ∃ c, exec (.traceForce o m) s = .next { s with chip := c } ∧
      c.mills = s.chip.mills.set m { s.chip.mills[m] with trace := { s.chip.mills[m].trace with forced := true } } ∧ writeDone o
        (kMillTraceCtl m) s.chip c) ∧
  (∀ (s : State) (o : Origin) (m : Fin 16), reaches o (kMillTraceCtl m) true s.chip →
    ∃ c, exec (.traceIdle o m) s = .next { s with chip := c } ∧
      c.mills = s.chip.mills.set m { s.chip.mills[m] with
      trace := { s.chip.mills[m].trace with state := .idle, forced := false, watchHit := false } } ∧ writeDone o (kMillTraceCtl m)
        s.chip c)

/-- A read of HamperOpen with fewer than 16 open hampers opens one for its origin under a handle of 1 to 255. HamperStage names
the hamper that its origin stages in. COMMIT, COMMIT-AT and COMMIT-DOMAIN of an own OPEN hamper make it VALIDATING in their
mode, waiting behind the items admitted earlier, and their request completes later. ROLLBACK ends an OPEN hamper ROLLED-BACK without its
writes. JOIN makes it JOINED to the coordinator handle. Rests on R271, R273, R276, R281, R282, R284, R287. -/
def Obligations.HamperCommandWrites : Prop :=
  (∀ (s : State) (o : Origin), reaches o kHamperOpen false s.chip → (s.chip.hampers.list.filter Hamper.isOpen).length < 16 →
    ∃ c, exec (.hamperOpen o) s = .next { s with chip := c } ∧
      hamperOf c c.hampers.lastHandle = some { handle := c.hampers.lastHandle, origin := o } ∧ 1 ≤ c.hampers.lastHandle ∧
      c.hampers.lastHandle ≤ 255 ∧ (s.chip.hampers.list.any fun x => x.handle == c.hampers.lastHandle && x.isOpen) = false ∧
      c.hampers.queue = s.chip.hampers.queue) ∧
  (∀ (s : State) (o : Origin) (h : BitVec 8), reaches o kHamperStage true s.chip → h ≠ 0 → (s.chip.hampers.list.any fun y =>
    y.handle == h.toNat && y.state == .opened && y.origin == o) →
    ∃ c, exec (.hamperStage o h.toNat) s = .next { s with chip := c } ∧
      c.hampers = { s.chip.hampers with stage := (s.chip.hampers.stage.filter fun p => p.1 != o) ++ [(o, h.toNat)] }) ∧
  (∀ (s : State) (o : Origin) (h : BitVec 8) (x : Hamper), reaches o kHamperCommand true s.chip → hamperOf s.chip h.toNat = some x
    → x.state = .opened → x.origin = o → (s.chip.hampers.queue.all fun i => (itemOrder s.chip i).all (· ≤ s.chip.market.nextId)) →
    ∃ c, exec (.hamperCommit o h) s = .next { s with chip := c } ∧
      c.hampers.queue = s.chip.hampers.queue ++ [.hamper h.toNat false] ∧
      c.hampers.list = s.chip.hampers.list.map (fun y => if y.handle == x.handle then
        { y with
        state := .validating, mode := .commit, req := some s.chip.market.nextId, order := s.chip.market.nextId,
        t := leNat y.applyTime, admittedAt := s.chip.clock.laneNs }
        else y)) ∧
  (∀ (s : State) (o : Origin) (h : BitVec 8) (x : Hamper), reaches o kHamperCommand true s.chip → hamperOf s.chip h.toNat = some x
    → x.state = .opened → x.origin = o → (s.chip.hampers.queue.all fun i => (itemOrder s.chip i).all (· ≤ s.chip.market.nextId)) →
    ∃ c, exec (.hamperCommitAt o h) s = .next { s with chip := c } ∧
      c.hampers.queue = s.chip.hampers.queue ++ [.hamper h.toNat false] ∧
      c.hampers.list = s.chip.hampers.list.map (fun y => if y.handle == x.handle then
        { y with
        state := .validating, mode := .commitAt, req := some s.chip.market.nextId, order := s.chip.market.nextId,
        t := leNat y.applyTime, admittedAt := s.chip.clock.laneNs }
        else y)) ∧
  (∀ (s : State) (o : Origin) (h : BitVec 8) (x : Hamper), reaches o kHamperCommand true s.chip → hamperOf s.chip h.toNat = some x
    → x.state = .opened → x.origin = o → (s.chip.hampers.queue.all fun i => (itemOrder s.chip i).all (· ≤ s.chip.market.nextId)) →
    ∃ c, exec (.hamperCommitDomain o h) s = .next { s with chip := c } ∧
      c.hampers.queue = s.chip.hampers.queue ++ [.hamper h.toNat false] ∧
      c.hampers.list = s.chip.hampers.list.map (fun y => if y.handle == x.handle then
        { y with
        state := .validating, mode := .coordinator, req := some s.chip.market.nextId, order := s.chip.market.nextId,
        t := leNat y.applyTime, admittedAt := s.chip.clock.laneNs }
        else y)) ∧
  (∀ (s : State) (o : Origin) (h : BitVec 8) (x : Hamper), reaches o kHamperCommand true s.chip → hamperOf s.chip h.toNat = some x
    → x.state = .opened → x.origin = o → x.req = none →
    ∃ c, exec (.hamperRollback o h) s = .next { s with chip := c } ∧
      c.hampers.list = s.chip.hampers.list.map (fun y => if y.handle == x.handle then
        { y with state := .rolledBack, result := {}, writes := [], req := none } else y) ∧
      writeDone o kHamperCommand s.chip c) ∧
  (∀ (s : State) (o : Origin) (h : BitVec 8) (node : Fin 1024) (chandle : BitVec 8) (x : Hamper), reaches o kHamperCommand true
    s.chip → hamperOf s.chip h.toNat = some x → x.state = .opened → x.origin = o → ((s.chip.hampers.list.any fun y => y.isOpen &&
    y.join == some (node, chandle)) = false) →
    ∃ c, exec (.hamperJoin o h node chandle) s = .next { s with chip := c } ∧
      c.hampers.list = s.chip.hampers.list.map (fun y => if y.handle == x.handle then
        { y with state := .joined, mode := .participant, join := some (node, chandle) } else y) ∧
      writeDone o kHamperCommand s.chip c)

/-- LaneEnable 1 starts joining where a link is up and 0 goes to OFF, except from DUPLICATE, which only a reset ends. LaneTimeSet slews on the master. LaneGwRequest queues its
request and LaneGwResult removes the oldest response. SrcEnable 0 empties the times of a source in CLEAR; SrcForce records one
FORCED event. AlmExportCtl 1 freezes an export, 0 drops it, and a matching digest receipts it. TwinExercise and ParamStoreCmd
wait for the next apply tick. ChipResetCmd starts a chip reset with cause 6. Rests on R339, R346, R349, R356, R361, R397, R399,
R422, R427, R442. -/
def Obligations.LaneWatchExportAndResetWrites : Prop :=
  (∀ (s : State) (o : Origin), reaches o (kLaneEnable) true s.chip → directCheck o kLaneEnable (.num 1) s.chip = .ok →
    s.chip.lane.state = .off → s.chip.lane.dupId = false → (s.chip.lane.linkA.up || s.chip.lane.linkB.up) = true → lifeCycle
    s.chip ≠ .blank → odSorted s.chip.od →
    ∃ c, exec (.laneEnableWrite o 1) s = .next { s with chip := c } ∧
      c.lane.state = .joining ∧ flag c kLaneEnable = true ∧ writeDone o (kLaneEnable) s.chip c) ∧
  (∀ (s : State) (o : Origin), reaches o (kLaneEnable) true s.chip → directCheck o kLaneEnable (.num 0) s.chip = .ok → odSorted
    s.chip.od →
    ∃ c, exec (.laneEnableWrite o 0) s = .next { s with chip := c } ∧
      c.lane.state = (if s.chip.lane.state = .duplicate then .duplicate else .off) ∧ flag c kLaneEnable = false ∧ writeDone o (kLaneEnable) s.chip c) ∧
  (∀ (s : State) (o : Origin) (v : List Byte), reaches o (kLaneTimeSet) true s.chip → v.length = 8 → isMaster s.chip →
    s.chip.lane.timeWritten = true → leNat v ≤ s.chip.clock.laneNs + 1000000000 → s.chip.clock.laneNs ≤ leNat v + 1000000000 →
    ∃ c, exec (.laneTimeSet o v) s = .next { s with chip := c } ∧
      c.lane = { s.chip.lane with slew := (leNat v : Int) - s.chip.clock.laneNs } ∧ c.clock = s.chip.clock ∧ writeDone o
        (kLaneTimeSet) s.chip c) ∧
  (∀ (s : State) (o : Origin) (v : List Byte), reaches o (kLaneGwRequest) true s.chip → valueCheck kLaneGwRequest v = (.ok, .bytes
    v) → s.chip.lane.state = .member → s.chip.gw.waiting.length < 32 →
    ∃ c, exec (.laneGwRequest o v) s = .next { s with chip := c } ∧
      c.gw.waiting.length = s.chip.gw.waiting.length + 1 ∧ s.chip.gw.waiting <+: c.gw.waiting ∧ c.gw.results = s.chip.gw.results ∧
        writeDone o (kLaneGwRequest) s.chip c) ∧
  (∀ (s : State) (o : Origin), reaches o kLaneGwResult false s.chip →
    ∃ c, exec (.laneGwResult o) s = .next { s with chip := c } ∧
      c.gw = { s.chip.gw with results := s.chip.gw.results.drop 1 } ∧ (∃ v, c.market.done.getLast? = some
        { id := s.chip.market.nextId, origin := o, k := kLaneGwResult, write := false, status := .ok, value := v })) ∧
  (∀ (s : State) (o : Origin) (i : Fin 256), reaches o (kSrcEnable i) true s.chip → directCheck o (kSrcEnable i) (.num 0) s.chip =
    .ok → s.chip.watch.srcs[i].state = .clear → odSorted s.chip.od →
    ∃ c, exec (.srcEnableWrite o i 0) s = .next { s with chip := c } ∧
      c.watch.srcs = s.chip.watch.srcs.set i { s.chip.watch.srcs[i] with times := [] } ∧ flag c (kSrcEnable i) = false ∧ writeDone
        o (kSrcEnable i) s.chip c) ∧
  (∀ (s : State) (o : Origin) (i : Fin 256) (v : Int), reaches o (kSrcForce i) true s.chip → inRange v 0 255 → admissible
    (kSrcForce i) v →
    ∃ c, exec (.srcForce o i v) s = .next { s with chip := c } ∧
      c.watch = (raiseKind .forced i 0 0 s.chip).watch ∧ writeDone o (kSrcForce i) s.chip c) ∧
  (∀ (s : State) (o : Origin), reaches o (kAlmExportCtl) true s.chip → s.chip.alm.frozen.state ≠ .ready →
    ∃ c, exec (.exportStart o 1) s = .next { s with chip := c } ∧
      c.alm.frozen.state = .ready ∧ c.alm.frozen.startMs = nowMs s.chip ∧ c.alm.frozen.records = storedInOrder c ∧ writeDone o
        (kAlmExportCtl) s.chip c) ∧
  (∀ (s : State) (o : Origin), reaches o (kAlmExportCtl) true s.chip →
    ∃ c, exec (.exportAbandon o 0) s = .next { s with chip := c } ∧
      c.alm = { s.chip.alm with frozen := {} } ∧ writeDone o (kAlmExportCtl) s.chip c) ∧
  (∀ (s : State) (o : Origin) (digest : List Byte), reaches o (kAlmExportReceipt) true s.chip → s.chip.alm.frozen.state = .ready →
    digest = (sha256 (exportBody s.chip)).toList →
    ∃ c, exec (.exportReceipt o digest) s = .next { s with chip := c } ∧
      c.alm.frozen = { s.chip.alm.frozen with state := .receipted, severe := c.alm.frozen.severe } ∧ writeDone o
        (kAlmExportReceipt) s.chip c) ∧
  (∀ (s : State) (o : Origin) (v : Int), reaches o (kTwinExercise) true s.chip → inRange v 0 255 → admissible kTwinExercise v →
    exerciseAllowed s.chip →
    ∃ c, exec (.twinExercise o v) s = .next { s with chip := c } ∧
      c.hampers.queue = s.chip.hampers.queue ++ [.exercise] ∧ writeDone o (kTwinExercise) s.chip c) ∧
  (∀ (s : State) (o : Origin), reaches o kChipResetCmd true s.chip →
    ∃ c, exec (.chipResetCmd o 0x0C5D) s = .next { s with chip := c } ∧
      c.boot.phase = .flushing ∧ c.boot.cause = .command ∧ c.fuses = s.chip.fuses ∧ c.clock.us = s.chip.clock.us) ∧
  (∀ (s : State) (o : Origin), reaches o kParamStoreCmd true s.chip → s.chip.boot.store ≠ .running → s.chip.alm.direct = false →
    ∃ c, exec (.paramStoreCmd o 0x5A17) s = .next { s with chip := c } ∧
      c.hampers = { s.chip.hampers with queue := s.chip.hampers.queue ++ [.store] } ∧ c.market.done = s.chip.market.done)

/-- A direct write that passes its checks leaves its value in force and completes OK; one to an apply-instant object waits as an
implicit hamper behind the items admitted earlier. A dispatched request is taken by a hamlet that its path to is free, or crosses an idle green to
wait at the stile of one that takes no packet. A memory error and a timeout complete
the request with their status and fence its pair. A request waiting at a reset hamlet completes HAMLET-RESET with a fence.
FenceClear clears the fence of its origin and pair, or all of the origin; FenceClearOrigin those of the named origin. Rests on
R257, R258, R260, R261, R263, R264, R265, R267, R472. -/
def Obligations.MarketCommands : Prop :=
  (∀ (s : State) (o : Origin) (k : Key) (b : List Byte) (v : Val), reaches o (k) true s.chip → k < 0x1000000 → valueCheck k b =
    (.ok, v) → applyInstant k = false → commandWrite o k v s.chip = none → directCheck o k v s.chip = .ok → odSorted s.chip.od → k
    ≠ kHamperStage → k ≠ kHamperCommand → k / 256 ≠ 0x2123 → k / 256 ≠ 0x2124 → k ≠ kParamStoreCmd → k ≠ kTwinExercise → k ≠
    kAssetTag → (∀ n : Fin 4, k ≠ kStrResistance n) →
    ∃ c, exec (.objectWrite o k b) s = .next { s with chip := c } ∧
      cfg c k = v ∧ writeDone o (k) s.chip c) ∧
  (∀ (s : State) (o : Origin) (k : Key) (b : List Byte) (v : Val), reaches o (k) true s.chip → k < 0x1000000 → valueCheck k b =
    (.ok, v) → applyInstant k = true → (s.chip.hampers.queue.all fun i => (itemOrder s.chip i).all (· ≤ s.chip.market.nextId)) →
    ∃ c, exec (.objectWrite o k b) s = .next { s with chip := c } ∧
      c.hampers = { s.chip.hampers with queue := s.chip.hampers.queue ++ [.implicit o s.chip.market.nextId k v] } ∧ c.market.done
        = s.chip.market.done) ∧
  (∀ (s : State) (o : Origin) (k : Key) (q : Req), k < 0x1000000 → live s.chip → nextOf s.chip o k = some q → pathFree
    (hamletOf s.chip k) s.chip →
    Gives (.marketDispatch o k) s [.hamlets, .green, .market] fun c =>
      c.market =
        { s.chip.market with reqs := s.chip.market.reqs.map fun x => if x.id == q.id then { x with dispatched := true, taken := true } else x }
        ∧
      c.hamlets = s.chip.hamlets) ∧
  (∀ (s : State) (o : Origin) (k : Key) (q : Req), k < 0x1000000 → live s.chip → nextOf s.chip o k = some q → hamletShut
    s.chip.hamlets[hamletOf s.chip k] = true → (∀ g : Fin 27, s.chip.hamlets[g].outbox = [] ∧ s.chip.hamlets[g].unsent = []) →
    s.chip.hamlets[hamletOf s.chip k].inbox.length < 16 →
    Gives (.marketDispatch o k) s [.hamlets, .green, .market] fun c =>
      c.market =
        { s.chip.market with reqs := s.chip.market.reqs.map fun x => if x.id == q.id then { x with dispatched := true } else x } ∧
      c.hamlets[hamletOf s.chip q.k].inbox = s.chip.hamlets[hamletOf s.chip q.k].inbox ++ [.request q.id]) ∧
  (∀ (s : State) (id : Nat) (q : Req), reqOf s.chip id = some q → q.taken = true → q.held = false → live s.chip → q.data = none →
    ∃ c, exec (.marketCompletion id true) s = .next { s with chip := c } ∧
      (q.origin, q.k) ∈ c.market.fences ∧ reqOf c id = none ∧
      { id := q.id, origin := q.origin, k := q.k, write := q.data.isSome, status := .memory } ∈ c.market.done) ∧
  (∀ (s : State) (id : Nat) (q : Req) (v : List Byte), reqOf s.chip id = some q → q.taken = true → q.held = false → live s.chip →
    q.data = none → q.k ≠ kHamperOpen → readObject s.chip q.origin q.k = (.ok, v) → v.length ≤ 32 →
    ∃ c, exec (.marketCompletion id false) s = .next { s with chip := c } ∧
      reqOf c id = none ∧ c.market.fences = s.chip.market.fences ∧
      { id := q.id, origin := q.origin, k := q.k, write := false, status := .ok, value := v } ∈ c.market.done) ∧
  (∀ (s : State) (id : Nat) (q : Req), reqOf s.chip id = some q → q.dispatched = true → 2 ≤ (hamletOf s.chip q.k).val → live
    s.chip → q.data = none →
    ∃ c, exec (.marketTimeout id) s = .next { s with chip := c } ∧
      (q.origin, q.k) ∈ c.market.fences ∧ reqOf c id = none ∧
      { id := q.id, origin := q.origin, k := q.k, write := q.data.isSome, status := .timeout } ∈ c.market.done) ∧
  (∀ (s : State) (id : Nat) (q : Req), reqOf s.chip id = some q → live s.chip → q.dispatched = true → q.taken = false → (s.chip.hamlets[hamletOf
    s.chip q.k].blkrst || s.chip.hamlets[hamletOf s.chip q.k].closed) = true →
    Gives (.hamletResetWaitTimeout id) s [.hamlets, .market, .can, .tw, .svc, .lane] fun c =>
      (q.origin, q.k) ∈ c.market.fences ∧ reqOf c id = none ∧
      { id := q.id, origin := q.origin, k := q.k, write := q.data.isSome, status := .hamletReset } ∈ c.market.done) ∧
  (∀ (s : State) (o : Origin), reaches o (kFenceClear) true s.chip →
    ∃ c, exec (.fenceClear o 0xFFFFFFFF) s = .next { s with chip := c } ∧
      c.market.fences = s.chip.market.fences.filter (fun f => f.1 != o) ∧ c.market.originFences =
        s.chip.market.originFences.filter (fun x => x != o) ∧ writeDone o (kFenceClear) s.chip c) ∧
  (∀ (s : State) (o : Origin) (v : Int), reaches o (kFenceClear) true s.chip → inRange v 0 4294967294 → admissible kFenceClear v →
    ∃ c, exec (.fenceClear o v) s = .next { s with chip := c } ∧
      c.market.fences = s.chip.market.fences.filter (fun f => f != (o, v.toNat)) ∧ c.market.originFences =
        s.chip.market.originFences ∧ writeDone o (kFenceClear) s.chip c) ∧
  (∀ (s : State) (o : Origin) (v : Int), reaches o (kFenceClearOrigin) true s.chip → inRange v 0 65535 → admissible
    kFenceClearOrigin v →
    ∃ c, exec (.fenceClearOrigin o v) s = .next { s with chip := c } ∧
      c.market.fences = s.chip.market.fences.filter (fun f => originNumber f.1 != v.toNat) ∧ c.market.originFences =
        s.chip.market.originFences.filter (fun x => originNumber x != v.toNat) ∧ writeDone o (kFenceClearOrigin) s.chip c)

/-- The hamper at the head of the queue that fails its validation ends FAILED with the detail, this node and the position, and one
with mode COMMIT that passes waits for the next apply tick. The tick applies a lone validated hamper or implicit write and
leaves its value in force, and a tick with nothing due leaves objects and hampers as they are. A timeout rolls an OPEN or JOINED
hamper back without its writes. Rests on R260, R277, R280, R282. -/
def Obligations.HamperValidationAndTicks : Prop :=
  (∀ (s : State) (n : Nat) (x : Hamper) (f : Detail × Nat), live s.chip → s.chip.hampers.queue.head? = some (.hamper n false) → hamperOf s.chip
    n = some x → validate s.chip x = some f →
    Gives .hamperValidationComplete s [.hamlets, .market, .hampers, .can, .tw, .svc, .lane] fun c =>
      c.hampers.list = s.chip.hampers.list.map (fun y => if y.handle == x.handle then
        { y with state := .failed, result := { status := .validation, detail := f.1, node := ownNode s.chip, pos := f.2 }, writes := [], req := none }
        else y) ∧
      c.hampers.queue = s.chip.hampers.queue.filter (fun q => q != .hamper x.handle true && q != .hamper x.handle false)) ∧
  (∀ (s : State) (n : Nat) (x : Hamper), live s.chip → s.chip.hampers.queue.head? = some (.hamper n false) → hamperOf s.chip n = some x →
    validate s.chip x = none → x.mode = .commit →
    Gives .hamperValidationComplete s [.hamlets, .market, .hampers, .can, .tw, .svc, .lane] fun c =>
      c.hampers =
        { s.chip.hampers with queue := s.chip.hampers.queue.map fun q => if q = .hamper x.handle false then .hamper x.handle true else q }
        ∧
      c.market = s.chip.market) ∧
  (∀ (s : State) (x : Hamper), live s.chip → s.chip.hampers.queue.head? = some (.hamper x.handle false) → hamperOf s.chip x.handle = some x →
    validate s.chip x = none → x.mode = .commitAt →
    Gives .hamperValidationComplete s [.hamlets, .market, .hampers, .can, .tw, .svc, .lane] fun c =>
      c.hampers.list = s.chip.hampers.list.map (fun y => if y.handle == x.handle then { y with state := .armed, req := none } else
        y) ∧
      c.hampers.queue = s.chip.hampers.queue.filter (fun q => q != .hamper x.handle true && q != .hamper x.handle false)) ∧
  (∀ (s : State), live s.chip → dueHampers s.chip = [] → s.chip.hampers.queue = [] → s.chip.hampers.derive = false →
    s.chip.hampers.applied = false → s.chip.bus.fracPending = false → s.chip.twin.role ≠ .alternate →
    Gives .applyTick s [.clock, .hamlets, .green, .chans, .rms, .bus, .cap, .phases, .rails, .vcs, .strs, .ests, .batt, .pps, .wms, .seq,
      .mills, .market, .hampers, .can, .tw, .svc, .lane, .watch, .alm, .twin, .boot, .nor, .od] fun c =>
      c.od = s.chip.od ∧ c.hampers = s.chip.hampers ∧ c.market = s.chip.market) ∧
  (∀ (s : State) (o : Origin) (id : Nat) (k : Key) (v : Val), live s.chip → dueHampers s.chip = [] → s.chip.hampers.queue =
    [.implicit o id k v] → directCheck o k v s.chip = .ok → waitsForCopy [(k, v)] s.chip = false → odSorted s.chip.od →
    applyInstant k → s.chip.twin.role ≠ .alternate →
    Gives .applyTick s [.clock, .hamlets, .green, .chans, .rms, .bus, .cap, .phases, .rails, .vcs, .strs, .ests, .batt, .pps, .wms, .seq,
      .mills, .market, .hampers, .can, .tw, .svc, .lane, .watch, .alm, .twin, .boot, .nor, .od] fun c =>
      cfg c k = v ∧ c.hampers.queue = [] ∧ reqOf c id = none) ∧
  (∀ (s : State) (x : Hamper) (k : Key) (v : Val), live s.chip → dueHampers s.chip = [] → s.chip.hampers.queue = [.hamper x.handle
    true] → hamperOf s.chip x.handle = some x → x.writes = [(k, v)] → waitsForCopy [(k, v)] s.chip = false → odSorted s.chip.od →
    applyInstant k → s.chip.twin.role ≠ .alternate →
    Gives .applyTick s [.clock, .hamlets, .green, .chans, .rms, .bus, .cap, .phases, .rails, .vcs, .strs, .ests, .batt, .pps, .wms, .seq,
      .mills, .market, .hampers, .can, .tw, .svc, .lane, .watch, .alm, .twin, .boot, .nor, .od] fun c =>
      cfg c k = v ∧ c.hampers.queue = [] ∧ (hamperOf c x.handle).map (·.state) = some .applied) ∧
  (∀ (s : State) (h : BitVec 8) (x : Hamper), live s.chip → hamperOf s.chip h.toNat = some x → x.state = .opened ∨ x.state =
    .joined →
    Gives (.hamperTimeout h) s [.hamlets, .market, .hampers, .can, .tw, .svc, .lane] fun c =>
      c.hampers.list = s.chip.hampers.list.map (fun y => if y.handle == x.handle then
        { y with state := .rolledBack, result := {}, writes := [], req := none } else y) ∧
      c.hampers.queue = s.chip.hampers.queue.filter (fun q => q != .hamper x.handle true && q != .hamper x.handle false)) ∧
  (∀ (s : State) (h : BitVec 8) (x : Hamper), live s.chip → hamperOf s.chip h.toNat = some x → x.state ≠ .opened → x.state ≠
    .joined →
    Gives (.hamperTimeout h) s [.hamlets, .market, .hampers, .can, .tw, .svc, .lane] fun c =>
      c.hampers = s.chip.hampers)

/-- A participant that receives PREPARE for its JOINED hamper votes YES and becomes PREPARED, or NO and FAILED; without one it
answers NOT-JOINED. The coordinator aborts on the first NO, and on the last YES sends GO and becomes ARMED; without every vote
or every ARMED it aborts naming the first node missing. GO, the arming point, COMMIT and ABORT move a participant (ABORT also one
that voted NO), and at T a decided node applies, an undecided participant discards with record 12h, and the coordinator reports PARTIAL. Rests on R286,
R287, R288, R289. -/
def Obligations.DomainHamperCommands : Prop :=
  (∀ (s : State) (f : DomainFrame), f.fits → laneMember s.chip → participantOf s.chip f = none →
    Gives (.domainPrepareReceive f) s [.hamlets, .market, .hampers, .can, .tw, .svc, .lane] fun c =>
      c.hampers = s.chip.hampers ∧
      c.lane = (laneUnicast f.coordinator 2 (hamperPayload 2 f.handle.toNat f.coordinator.val f.applyTime 0 1
        Detail.notJoined.number 255) s.chip).lane) ∧
  (∀ (s : State) (f : DomainFrame) (x : Hamper), f.fits → laneMember s.chip → participantOf s.chip f = some x → x.state = .joined
    → validate s.chip { x with t := f.applyTime } = none →
    Gives (.domainPrepareReceive f) s [.hamlets, .market, .hampers, .can, .tw, .svc, .lane] fun c =>
      c.hampers.list = s.chip.hampers.list.map (fun y => if y.handle == x.handle then
        { y with t := f.applyTime, state := .prepared } else y) ∧
      c.hampers.queue = s.chip.hampers.queue ∧ c.market = s.chip.market ∧ c.lane = (domainAnswer 2 { x with t := f.applyTime } 0 0
        0 s.chip).lane) ∧
  (∀ (s : State) (f : DomainFrame) (x : Hamper) (d : Detail × Nat), f.fits → laneMember s.chip → participantOf s.chip f = some x →
    x.state = .joined → validate s.chip { x with t := f.applyTime } = some d →
    Gives (.domainPrepareReceive f) s [.hamlets, .market, .hampers, .can, .tw, .svc, .lane] fun c =>
      c.hampers.list = s.chip.hampers.list.map (fun y => if y.handle == x.handle then
        { y with state := .failed, result := { status := .validation, detail := d.1, node := ownNode s.chip, pos := d.2 }, writes := [], req := none }
        else y) ∧
      (x.req = none → c.lane = (domainAnswer 2 { x with t := f.applyTime } 1 d.1.number d.2 s.chip).lane)) ∧
  (∀ (s : State) (node : Fin 1024) (f : DomainFrame) (x : Hamper), f.fits → laneMember s.chip → coordinatorOf s.chip f = some x →
    x.state = .validating → x.go = false → node ∈ participants s.chip x → f.no →
    Gives (.domainVoteReceive node f) s [.hamlets, .market, .hampers, .can, .tw, .svc, .lane] fun c =>
      c.hampers.list = s.chip.hampers.list.map (fun y => if y.handle == x.handle then
        { y with state := .aborted, result := { status := .aborted, detail := Detail.ofNumber f.detail.toNat, node := node.val, pos := f.position.toNat }, writes := [], req := none }
        else y) ∧
      (x.req = none → c.lane = (domainBroadcast 6 x s.chip).lane)) ∧
  (∀ (s : State) (node : Fin 1024) (f : DomainFrame) (x : Hamper), f.fits → laneMember s.chip → coordinatorOf s.chip f = some x →
    x.state = .validating → x.go = false → node ∈ participants s.chip x → f.no = false → ((participants s.chip x).all fun n =>
    decide (n ∈ x.votes ∨ n = node)) →
    Gives (.domainVoteReceive node f) s [.hamlets, .market, .hampers, .can, .tw, .svc, .lane] fun c =>
      c.hampers.list = s.chip.hampers.list.map (fun y => if y.handle == x.handle then
        { y with votes := (if node ∈ x.votes then x.votes else x.votes ++ [node]), go := true, state := .armed } else y) ∧
      c.lane = (domainBroadcast 3 x s.chip).lane) ∧
  (∀ (s : State) (node : Fin 1024) (f : DomainFrame) (x : Hamper), f.fits → laneMember s.chip → coordinatorOf s.chip f = some x →
    x.state = .validating → x.go = false → node ∈ participants s.chip x → f.no = false → ((participants s.chip x).all (fun n =>
    decide (n ∈ x.votes ∨ n = node)) = false) →
    Gives (.domainVoteReceive node f) s [.hamlets, .market, .hampers, .can, .tw, .svc, .lane] fun c =>
      c.hampers.list = s.chip.hampers.list.map (fun y => if y.handle == x.handle then
        { y with votes := (if node ∈ x.votes then x.votes else x.votes ++ [node]), go := false } else y) ∧
      c.lane = s.chip.lane) ∧
  (∀ (s : State) (h : BitVec 8) (x : Hamper), hamperOf s.chip h.toNat = some x → live s.chip → x.mode = .coordinator → x.state = .validating →
    x.go = false → x.deadline ≤ s.chip.clock.laneNs → Item.hamper x.handle false ∉ s.chip.hampers.queue →
    Gives (.domainVoteDeadline h) s [.hamlets, .market, .hampers, .can, .tw, .svc, .lane] fun c =>
      c.hampers.list = s.chip.hampers.list.map (fun y => if y.handle == x.handle then
        { y with state := .aborted, result := { status := .aborted, detail := .noVote, node := firstMissing s.chip x x.votes, pos := 255 }, writes := [], req := none }
        else y) ∧
      (x.req = none → c.lane = (domainBroadcast 6 x s.chip).lane)) ∧
  (∀ (s : State) (f : DomainFrame) (x : Hamper), f.fits → laneMember s.chip → participantOf s.chip f = some x → x.state =
    .prepared →
    Gives (.domainGoReceive f) s [.hampers] fun c =>
      c.hampers.list = s.chip.hampers.list.map (fun y => if y.handle == x.handle then { y with state := .armed } else y)) ∧
  (∀ (s : State) (h : BitVec 8) (x : Hamper), live s.chip → hamperOf s.chip h.toNat = some x → x.mode = .participant → x.state
    = .armed → x.t ≤ s.chip.clock.laneNs + 2000000 → x.armedSent = false →
    Gives (.domainArmingPoint h) s [.hamlets, .market, .hampers, .can, .tw, .svc, .lane, .alm] fun c =>
      c.hampers.list = s.chip.hampers.list.map (fun y => if y.handle == x.handle then { y with armedSent := true } else y) ∧
      c.lane = (domainAnswer 4 x 0 0 0 s.chip).lane ∧ c.alm = (log 0x11 195 0 (domainValue s.chip x) (timeEntries x.t) s.chip).alm) ∧
  (∀ (s : State) (h : BitVec 8) (x : Hamper), live s.chip → hamperOf s.chip h.toNat = some x → x.mode = .participant → x.state
    = .prepared → x.t ≤ s.chip.clock.laneNs + 2000000 →
    Gives (.domainArmingPoint h) s [.hamlets, .market, .hampers, .can, .tw, .svc, .lane, .alm] fun c =>
      c.hampers.list = s.chip.hampers.list.map (fun y => if y.handle == x.handle then
        { y with state := .aborted, result := { status := .aborted, node := ownNode s.chip, pos := 255 }, writes := [], req := none }
        else y) ∧
      c.alm = s.chip.alm) ∧
  (∀ (s : State) (node : Fin 1024) (f : DomainFrame) (x : Hamper), f.fits → laneMember s.chip → coordinatorOf s.chip f = some x →
    node ∈ participants s.chip x → node ∉ x.armedNodes →
    Gives (.domainArmedReceive node f) s [.hampers] fun c =>
      c.hampers.list = s.chip.hampers.list.map (fun y => if y.handle == x.handle then
        { y with armedNodes := y.armedNodes ++ [node] } else y)) ∧
  (∀ (s : State) (h : BitVec 8) (x : Hamper), live s.chip → hamperOf s.chip h.toNat = some x → x.mode = .coordinator → x.state
    = .armed → x.t ≤ s.chip.clock.laneNs + 1000000 → x.decision = none → (∀ n ∈ participants s.chip x, n ∈ x.armedNodes) →
    Gives (.domainDecisionPoint h) s [.hamlets, .market, .hampers, .can, .tw, .svc, .lane] fun c =>
      c.hampers.list = s.chip.hampers.list.map (fun y => if y.handle == x.handle then
        { y with decision := some true, req := none } else y) ∧
      (x.req = none → c.lane = (domainBroadcast 5 x s.chip).lane)) ∧
  (∀ (s : State) (h : BitVec 8) (x : Hamper), live s.chip → hamperOf s.chip h.toNat = some x → x.mode = .coordinator → x.state
    = .armed → x.t ≤ s.chip.clock.laneNs + 1000000 → x.decision = none → (((participants s.chip x).all fun n => x.armedNodes.contains n) = false) →
    Gives (.domainDecisionPoint h) s [.hamlets, .market, .hampers, .can, .tw, .svc, .lane] fun c =>
      c.hampers.list = s.chip.hampers.list.map (fun y => if y.handle == x.handle then
        { y with decision := some false, state := .aborted, result := { status := .aborted, detail := .noArmed, node := firstMissing s.chip x x.armedNodes, pos := 255 }, writes := [], req := none }
        else y) ∧
      (x.req = none → c.lane = (domainBroadcast 6 x s.chip).lane)) ∧
  (∀ (s : State) (h : BitVec 8) (x : Hamper) (d : Bool), live s.chip → hamperOf s.chip h.toNat = some x → x.mode =
    .coordinator → s.chip.clock.laneNs + 500000 ≤ x.t → x.decision = some d →
    Gives (.domainDecisionRepeat h) s [.lane] fun c =>
      c.lane = (domainBroadcast (if d then 5 else 6) x s.chip).lane) ∧
  (∀ (s : State) (f : DomainFrame) (x : Hamper), f.fits → laneMember s.chip → participantOf s.chip f = some x → x.state = .armed →
    Gives (.domainCommitReceive f) s [.hampers] fun c =>
      c.hampers.list = s.chip.hampers.list.map (fun y => if y.handle == x.handle then { y with decision := some true } else y)) ∧
  (∀ (s : State) (f : DomainFrame) (x : Hamper), f.fits → laneMember s.chip → participantOf s.chip f = some x →
    Gives (.domainAbortReceive f) s [.hamlets, .market, .hampers, .can, .tw, .svc, .lane] fun c =>
      c.hampers.list = s.chip.hampers.list.map (fun y => if y.handle == x.handle then
        { y with state := .aborted, result := { status := .aborted, node := f.coordinator.val, pos := 255 }, writes := [], req := none }
        else y) ∧
      c.hampers.queue = s.chip.hampers.queue.filter (fun q => q != .hamper x.handle true && q != .hamper x.handle false)) ∧
  (∀ (s : State) (f : DomainFrame) (x : Hamper), f.fits → laneMember s.chip → participantOf s.chip f = none →
    (s.chip.hampers.list.find? fun y => y.mode == .participant && y.state == .failed && y.join == some (f.coordinator, f.handle)) =
    some x →
    Gives (.domainAbortReceive f) s [.hampers] fun c =>
      c.hampers.list = s.chip.hampers.list.map (fun y => if y.handle == x.handle then { y with state := .aborted } else y)) ∧
  (∀ (s : State) (h : BitVec 8) (x : Hamper) (k : Key) (v : Val), live s.chip → hamperOf s.chip h.toNat = some x → x.mode =
    .coordinator → x.state = .armed → x.t ≤ s.chip.clock.laneNs → x.decision = some true → x.writes = [(k, v)] → waitsForCopy
    [(k, v)] s.chip = false → odSorted s.chip.od → applyInstant k →
    Gives (.domainApplyTime h) s [.clock, .hamlets, .green, .chans, .rms, .bus, .phases, .rails, .vcs, .strs, .ests, .batt, .pps, .wms,
      .seq, .mills, .market, .hampers, .can, .tw, .svc, .lane, .watch, .alm, .twin, .nor, .od] fun c =>
      cfg c k = v ∧ (hamperOf c h.toNat).map (·.state) = some .applied) ∧
  (∀ (s : State) (h : BitVec 8) (x : Hamper) (k : Key) (v : Val), live s.chip → hamperOf s.chip h.toNat = some x → x.mode =
    .participant → x.state = .armed → x.t ≤ s.chip.clock.laneNs → x.decision = some true → x.writes = [(k, v)] → waitsForCopy
    [(k, v)] s.chip = false → odSorted s.chip.od → applyInstant k →
    Gives (.domainApplyTime h) s [.clock, .hamlets, .green, .chans, .rms, .bus, .phases, .rails, .vcs, .strs, .ests, .batt, .pps, .wms,
      .seq, .mills, .market, .hampers, .can, .tw, .svc, .lane, .watch, .alm, .twin, .nor, .od] fun c =>
      cfg c k = v ∧ (hamperOf c h.toNat).map (·.state) = some .applied) ∧
  (∀ (s : State) (h : BitVec 8) (x : Hamper), live s.chip → hamperOf s.chip h.toNat = some x → x.mode = .participant → x.state
    = .armed → x.t ≤ s.chip.clock.laneNs → x.decision ≠ some true →
    Gives (.domainApplyTime h) s [.clock, .hamlets, .green, .chans, .rms, .bus, .phases, .rails, .vcs, .strs, .ests, .batt, .pps, .wms,
      .seq, .mills, .market, .hampers, .can, .tw, .svc, .lane, .watch, .alm, .twin, .nor, .od] fun c =>
      c.hampers.list = s.chip.hampers.list.map (fun y => if y.handle == x.handle then
        { y with state := .aborted, result := { status := .aborted, node := ownNode s.chip, pos := 255 }, writes := [], req := none }
        else y) ∧
      c.od = s.chip.od ∧ c.alm = (log 0x12 195 3 (domainValue s.chip x) (timeEntries x.t) s.chip).alm) ∧
  (∀ (s : State) (node : Fin 1024) (f : DomainFrame) (x : Hamper), f.fits → laneMember s.chip → f.coordinator.val = ownNode s.chip
    → hamperOf s.chip f.handle.toNat = some x → x.mode = .coordinator → x.state = .applied → node ∈ participants s.chip x → node ∉
    x.appliedNodes →
    Gives (.domainAppliedReceive node f) s [.hampers] fun c =>
      c.hampers.list = s.chip.hampers.list.map (fun y => if y.handle == x.handle then
        { y with appliedNodes := y.appliedNodes ++ [node] } else y)) ∧
  (∀ (s : State) (h : BitVec 8) (x : Hamper), live s.chip → hamperOf s.chip h.toNat = some x → x.mode = .coordinator → x.state
    = .applied → x.t + nat s.chip kDomainReportTime * 1000000 ≤ s.chip.clock.laneNs → (((participants s.chip x).filter fun n => !x.appliedNodes.contains n) ≠ []) →
    Gives (.domainReportEnd h) s [.hampers, .alm] fun c =>
      c.hampers.list = s.chip.hampers.list.map (fun y => if y.handle == x.handle then
        { y with state := .partial_, missing := (participants s.chip x).filter fun n => !x.appliedNodes.contains n } else y))

/-- On a served line, error passive and bus-off set their status bit and record one event of the line; recovery and error active
clear them. The NMT commands enter Operational (a new start of the synchronous TPDOs), Stopped (discarding the EMCY messages that wait) and Pre-operational; reset
communication and reset node take up the node-ID object, leave objects outside 1000h to 1FFFh and send the boot-up message. A
heartbeat revives its entries; a timeout sets its entry, records an event, and entry 01h loses the origin of the line.
An EMCY message that waits is sent once the inhibit time is over. Rests on
R293, R294, R295, R296. -/
def Obligations.CanLineAndNmtCommands : Prop :=
  (∀ (s : State) (l : Fin 2), lineServed s.chip l → s.chip.can.lines[l].errPassive = false → s.chip.can.lines[l].busOff = false →
    Gives (.canErrorPassive l) s [.can, .watch] fun c =>
      c.can = { s.chip.can with lines := s.chip.can.lines.set l { s.chip.can.lines[l] with errPassive := true } } ∧
      c.watch = (raise (172 + l) 1 0 s.chip).watch) ∧
  (∀ (s : State) (l : Fin 2), lineServed s.chip l = false →
    Gives (.canErrorPassive l) s [.can, .watch] fun c =>
      c = s.chip) ∧
  (∀ (s : State) (l : Fin 2), lineServed s.chip l → s.chip.can.lines[l].busOff = false →
    Gives (.canBusOff l) s [.can, .watch] fun c =>
      c.can = { s.chip.can with lines := s.chip.can.lines.set l { s.chip.can.lines[l] with busOff := true, recovering := false } }
        ∧
      c.watch = (raise (172 + l) 1 0 s.chip).watch) ∧
  (∀ (s : State) (l : Fin 2), linePresent s.chip l → s.chip.can.lines[l].busOff →
    Gives (.canBusoffRestart l) s [.can] fun c =>
      c.can = { s.chip.can with lines := s.chip.can.lines.set l { s.chip.can.lines[l] with recovering := true } }) ∧
  (∀ (s : State) (l : Fin 2), linePresent s.chip l → (s.chip.can.lines[l].busOff → s.chip.can.lines[l].recovering) →
    Gives (.errorActiveReturn l) s [.can] fun c =>
      c.can =
        { s.chip.can with lines := s.chip.can.lines.set l { s.chip.can.lines[l] with errPassive := false, busOff := false, recovering := false } }) ∧
  (∀ (s : State) (l : Fin 2), lineServed s.chip l →
    Gives (.nmtStart l) s [.can] fun c =>
      c.can = { s.chip.can with
      nmt := .operational, tpdos := if s.chip.can.nmt = .operational then s.chip.can.tpdos else
        s.chip.can.tpdos.map fun t => { t with started := false, syncs := 0 } }) ∧
  (∀ (s : State) (l : Fin 2), lineServed s.chip l →
    Gives (.nmtPreoperational l) s [.can] fun c =>
      c.can = { s.chip.can with nmt := .preOperational }) ∧
  (∀ (s : State) (l : Fin 2), lineServed s.chip l →
    Gives (.nmtStop l) s [.can] fun c =>
      c.can.nmt = .stopped ∧ c.can.tx = s.chip.can.tx ∧ ∀ m : Fin 2, c.can.lines[m] = { s.chip.can.lines[m] with emcyQ := [] }) ∧
  (∀ (s : State) (l : Fin 2), lineServed s.chip l → odSorted s.chip.od →
    Gives (.nmtResetCommunication l) s [.can, .od] fun c =>
      c.can.nmt = .preOperational ∧ c.can.nodeId = nat s.chip kCanNodeId ∧
      c.can.tx = s.chip.can.tx ++ (canLines s.chip).map (fun m => (m, .bootUp (nat s.chip kCanNodeId))) ∧
      (∀ m : Fin 2, c.can.lines[m].usdo = none ∧ c.can.lines[m].hbTimedOut[0] = false) ∧
      (∀ k, indexIn k 0x1000 0x1FFF = false → cfg c k = cfg s.chip k)) ∧
  (∀ (s : State) (l : Fin 2), lineServed s.chip l → odSorted s.chip.od →
    Gives (.nmtResetNode l) s [.can, .od] fun c =>
      c.can.nmt = .preOperational ∧ c.can.nodeId = nat s.chip kCanNodeId ∧
      c.can.tx = s.chip.can.tx ++ (canLines s.chip).map (fun m => (m, .bootUp (nat s.chip kCanNodeId))) ∧
      (∀ m : Fin 2, c.can.lines[m].usdo = none ∧ c.can.lines[m].hbTimedOut[0] = false) ∧
      (∀ k, indexIn k 0x1000 0x1FFF = false → cfg c k = cfg s.chip k)) ∧
  (∀ (s : State) (l : Fin 2) (node : BitVec 7), lineServed s.chip l →
    Gives (.heartbeatReceive l node) s [.can] fun c =>
      ∀ j : Fin 4, c.can.lines[l].hbTimedOut[j] = (s.chip.can.lines[l].hbTimedOut[j] && !((consumerEntry s.chip j).1 == node.toNat
        && (consumerEntry s.chip j).2 != 0))) ∧
  (∀ (s : State) (l : Fin 2) (e : Fin 4), linePresent s.chip l → (consumerEntry s.chip e).2 ≠ 0 → s.chip.can.lines[l].hbTimedOut[e]
    = false →
    Gives (.heartbeatConsumerTimeout l e) s [.hamlets, .market, .hampers, .can, .tw, .svc, .lane, .watch] fun c =>
      c.can.lines[l].hbTimedOut = s.chip.can.lines[l].hbTimedOut.set e true ∧ c.watch = (raise (172 + l) 2 0 s.chip).watch ∧
      (e = 0 → ∀ h ∈ c.hampers.list, h.origin = .can l → h.state ≠ .opened ∧ h.state ≠ .joined) ∧ (e ≠ 0 → c.hampers =
        s.chip.hampers)) ∧
  (∀ (s : State), linePresent s.chip 0 → nat s.chip kProducerHeartbeatTime ≠ 0 →
    Gives .heartbeatProduce s [.can] fun c =>
      c.can =
        { s.chip.can with tx := s.chip.can.tx ++ (canLines s.chip).map fun m => (m, .heartbeat s.chip.can.nodeId s.chip.can.nmt) }) ∧
  (∀ (s : State) (l : Fin 2) (e : Emcy) (rest : List Emcy), lineServed s.chip l → talking s.chip → within s.chip (nat s.chip
    kInhibitTimeEmcy * 100) s.chip.can.lines[l].emcySentAt = false → s.chip.can.lines[l].emcyQ = e :: rest →
    Gives (.emcySend l) s [.can] fun c =>
      c.can =
        { s.chip.can with lines := s.chip.can.lines.set l { s.chip.can.lines[l] with
          emcyQ := rest, emcySentAt := some s.chip.clock.us }, tx := s.chip.can.tx ++ [(l, .emcy e)] })

/-- A USDO read or expedited write that reaches its target becomes a market request of the line's origin; a segmented read
holds its session from then on; a segmented write is answered segment by segment, gathers its data and makes one request at its
last segment; a second session is aborted, and a timeout aborts with 05040000h. An
asynchronous RPDO becomes writes, a synchronous one waits for SYNC, one that the other line brought within 1 ms is
dropped, a short one counted, and an overdue one marked stale. TPDOs leave at a SYNC that counts, on a change, at their timer, and at the inhibit end with the values in force. Rests on
R292, R297, R300, R301, R302. -/
def Obligations.UsdoAndPdoCommands : Prop :=
  (∀ (s : State) (l : Fin 2) (q : UsdoRequest), q.fits → lineServed s.chip l → talking s.chip → s.chip.can.lines[l].usdo = none →
    q.write = false → reaches (.can l) q.k false s.chip →
    Gives (.usdoRequest l q) s [.hamlets, .green, .market, .hampers, .can, .tw, .svc, .lane] fun c =>
      reqOf c s.chip.market.nextId = some { ownRequest (.can l) (q.k) none s.chip with reply := .usdo l q.segmented } ∧ c.can =
        if q.segmented then { s.chip.can with lines := s.chip.can.lines.set l { s.chip.can.lines[l] with
          usdo := some { write := false, k := q.k, data := [], ready := false } } } else s.chip.can) ∧
  (∀ (s : State) (l : Fin 2) (q : UsdoRequest), q.fits → lineServed s.chip l → talking s.chip → s.chip.can.lines[l].usdo = none →
    q.write → q.segmented = false → reaches (.can l) q.k true s.chip →
    Gives (.usdoRequest l q) s [.hamlets, .green, .market, .hampers, .can, .tw, .svc, .lane] fun c =>
      reqOf c s.chip.market.nextId = some { ownRequest (.can l) (q.k) (some q.data) s.chip with reply := .usdo l q.segmented } ∧
        c.can = s.chip.can) ∧
  (∀ (s : State) (l : Fin 2) (q : UsdoRequest), q.fits → lineServed s.chip l → talking s.chip → s.chip.can.lines[l].usdo = none →
    q.write → q.segmented →
    Gives (.usdoRequest l q) s [.hamlets, .green, .market, .hampers, .can, .tw, .svc, .lane] fun c =>
      c.can =
        { s.chip.can with lines := s.chip.can.lines.set l { s.chip.can.lines[l] with usdo := some { write := true, k := q.k, data := q.data } }, tx := s.chip.can.tx ++ [(l, .usdoInit q.k 0)] }
        ∧ c.market = s.chip.market) ∧
  (∀ (s : State) (l : Fin 2) (q : UsdoRequest), q.fits → lineServed s.chip l → talking s.chip → s.chip.can.lines[l].usdo.isSome →
    Gives (.usdoRequest l q) s [.hamlets, .green, .market, .hampers, .can, .tw, .svc, .lane] fun c =>
      c.can = { s.chip.can with tx := s.chip.can.tx ++ [(l, .usdoAbort q.k 0x08000000)] } ∧ c.market = s.chip.market) ∧
  (∀ (s : State) (l : Fin 2) (x : UsdoSession) (data : List Byte), lineServed s.chip l → talking s.chip → s.chip.can.lines[l].usdo
    = some x → x.write →
    Gives (.usdoSegment l data false) s [.hamlets, .green, .market, .hampers, .can, .tw, .svc, .lane] fun c =>
      c.can =
        { s.chip.can with lines := s.chip.can.lines.set l { s.chip.can.lines[l] with usdo := some { x with data := x.data ++ data } }, tx := s.chip.can.tx ++ [(l, .usdoNext x.k)] }
        ∧ c.market = s.chip.market) ∧
  (∀ (s : State) (l : Fin 2) (x : UsdoSession) (data : List Byte), lineServed s.chip l → talking s.chip → s.chip.can.lines[l].usdo
    = some x → x.write → reaches (.can l) x.k true s.chip →
    Gives (.usdoSegment l data true) s [.hamlets, .green, .market, .hampers, .can, .tw, .svc, .lane] fun c =>
      reqOf c s.chip.market.nextId = some { ownRequest (.can l) (x.k) (some (x.data ++ data)) s.chip with reply := .usdo l true }
      ∧ c.can = { s.chip.can with lines := s.chip.can.lines.set l { s.chip.can.lines[l] with usdo := none } }) ∧
  (∀ (s : State) (l : Fin 2) (x : UsdoSession) (data : List Byte) (last : Bool), lineServed s.chip l → talking s.chip →
    s.chip.can.lines[l].usdo = some x → x.write = false → x.ready →
    Gives (.usdoSegment l data last) s [.hamlets, .green, .market, .hampers, .can, .tw, .svc, .lane] fun c =>
      c.can = { s.chip.can with
      lines := s.chip.can.lines.set l
        { s.chip.can.lines[l] with usdo := if (x.data.drop 60).isEmpty then none else some { x with data := x.data.drop 60 } },
      tx := s.chip.can.tx ++ [(l, .usdoData x.k (x.data.take 60))] } ∧ c.market = s.chip.market) ∧
  (∀ (s : State) (l : Fin 2) (x : UsdoSession), lineServed s.chip l → talking s.chip → s.chip.can.lines[l].usdo = some x → x.ready →
    Gives (.usdoSegmentTimeout l) s [.can] fun c =>
      c.can =
        { s.chip.can with lines := s.chip.can.lines.set l { s.chip.can.lines[l] with usdo := none }, tx := s.chip.can.tx ++ [(l, .usdoAbort x.k 0x05040000)] }) ∧
  (∀ (s : State) (l : Fin 2) (counter : BitVec 8) (k : Fin 16) (v : List Byte), lineServed s.chip l → s.chip.can.nmt =
    .operational → tpdoValid s.chip k → 1 ≤ nat s.chip (kTpdoType k) → nat s.chip (kTpdoType k) ≤ 0xF0 → nat s.chip (kTpdoType k)
    ≤ s.chip.can.tpdos[k].syncs + 1 → syncCounts s.chip k counter → sampleAll s.chip (tpdoMap s.chip k) = some v → (∀ j : Fin 16, j ≠ k → tpdoValid s.chip j =
    false) → (∀ j : Fin 16, s.chip.can.rpdos[j].waiting = none) →
    Gives (.syncReceive l counter) s [.hamlets, .green, .market, .hampers, .can, .tw, .svc, .lane] fun c =>
      c.can = { s.chip.can with
      tpdos := s.chip.can.tpdos.set k
        { { s.chip.can.tpdos[k] with syncs := 0, started := true } with values := some v, sentAt := some s.chip.clock.us, delayed := false },
      tx := s.chip.can.tx ++ (canLines s.chip).map fun m => (m, .tpdo k v) }) ∧
  (∀ (s : State) (l : Fin 2) (counter : BitVec 8), lineServed s.chip l → s.chip.can.nmt = .operational → (∀ j : Fin 16, tpdoValid
    s.chip j = false) →
    Gives (.syncReceive l counter) s [.hamlets, .green, .market, .hampers, .can, .tw, .svc, .lane] fun c =>
      (∀ j : Fin 16, c.can.rpdos[j] = { s.chip.can.rpdos[j] with waiting := none }) ∧ s.chip.market.nextId ≤ c.market.nextId) ∧
  (∀ (s : State) (l : Fin 2) (k : Fin 16) (b : List Byte) (q : Key) (n : Nat), b.length ≤ 64 → lineServed s.chip l →
    s.chip.can.nmt = .operational → rpdoValid s.chip k → rpdoDuplicate s.chip l k b = false → 0xF0 < nat s.chip (kRpdoType k) →
    rpdoMap s.chip k = [(q, n)] → n ≤ b.length → reaches (.can l) q true s.chip →
    Gives (.rpdoReceive l k b) s [.hamlets, .green, .market, .hampers, .can, .tw, .svc, .lane] fun c =>
      reqOf c s.chip.market.nextId = some { ownRequest (.can l) (q) (some (b.take n)) s.chip with reply := .rpdo l }
      ∧ c.can =
        { s.chip.can with rpdos := s.chip.can.rpdos.set k { s.chip.can.rpdos[k] with heard := s.chip.can.rpdos[k].heard.set l (noteFrame s.chip.clock.us b s.chip.can.rpdos[k].heard[l]) }, rpdoStale := s.chip.can.rpdoStale &&& ~~~(1#16 <<< k.val) }) ∧
  (∀ (s : State) (l : Fin 2) (k : Fin 16) (b : List Byte), b.length ≤ 64 → lineServed s.chip l → s.chip.can.nmt = .operational →
    rpdoValid s.chip k → rpdoDuplicate s.chip l k b = false → 0xF0 < nat s.chip (kRpdoType k) → b.length < ((rpdoMap s.chip k).map
    (·.2)).foldl (· + ·) 0 →
    Gives (.rpdoReceive l k b) s [.hamlets, .green, .market, .hampers, .can, .tw, .svc, .lane] fun c =>
      c.market = s.chip.market ∧ c.can = { s.chip.can with
      rpdos := s.chip.can.rpdos.set k
        { s.chip.can.rpdos[k] with heard := s.chip.can.rpdos[k].heard.set l (noteFrame s.chip.clock.us b s.chip.can.rpdos[k].heard[l]) }, rpdoStale :=
        s.chip.can.rpdoStale &&& ~~~(1#16 <<< k.val),
      rpdoRejects := satSucc 65535 s.chip.can.rpdoRejects }) ∧
  (∀ (s : State) (l : Fin 2) (k : Fin 16) (b : List Byte), b.length ≤ 64 → lineServed s.chip l → s.chip.can.nmt = .operational →
    rpdoValid s.chip k → rpdoDuplicate s.chip l k b = false → nat s.chip (kRpdoType k) ≤ 0xF0 →
    Gives (.rpdoReceive l k b) s [.hamlets, .green, .market, .hampers, .can, .tw, .svc, .lane] fun c =>
      c.market = s.chip.market ∧ c.can =
        { s.chip.can with rpdos := s.chip.can.rpdos.set k { waiting := some (l, b), heard := s.chip.can.rpdos[k].heard.set l (noteFrame s.chip.clock.us b s.chip.can.rpdos[k].heard[l]) }, rpdoStale := s.chip.can.rpdoStale &&& ~~~(1#16 <<< k.val) }) ∧
  (∀ (s : State) (l : Fin 2) (k : Fin 16) (b : List Byte), b.length ≤ 64 → lineServed s.chip l → s.chip.can.nmt = .operational →
    rpdoValid s.chip k → rpdoDuplicate s.chip l k b →
    Gives (.rpdoReceive l k b) s [.hamlets, .green, .market, .hampers, .can, .tw, .svc, .lane] fun c =>
      c.market = s.chip.market ∧ c.can =
        { s.chip.can with rpdos := s.chip.can.rpdos.set k { s.chip.can.rpdos[k] with heard := s.chip.can.rpdos[k].heard.set l (noteFrame s.chip.clock.us b s.chip.can.rpdos[k].heard[l]) } }) ∧
  (∀ (s : State) (k : Fin 16), linePresent s.chip 0 → s.chip.can.nmt = .operational → rpdoValid s.chip k → nat s.chip (kRpdoTimer
    k) ≠ 0 → rpdoOverdue s.chip k → s.chip.can.rpdoStale.getLsbD k = false →
    Gives (.rpdoTimeout k) s [.can, .watch] fun c =>
      c.can = { s.chip.can with rpdoStale := s.chip.can.rpdoStale ||| (1#16 <<< k.val) } ∧ c.watch = (raise (172 + rpdoLine s.chip
        k) 3 0 s.chip).watch) ∧
  (∀ (s : State) (k : Fin 16) (old v : List Byte), linePresent s.chip 0 → s.chip.can.nmt = .operational → eventDriven s.chip k →
    isCapPdo s.chip k = false → s.chip.can.tpdos[k].values = some old → sampleAll s.chip (tpdoMap s.chip k) = some v → old ≠ v →
    tpdoInhibited s.chip k = false → (∀ j : Fin 16, j ≠ k → eventDriven s.chip j = false) →
    Gives .tpdoEventCheck s [.can] fun c =>
      c.can = { s.chip.can with
      tpdos := s.chip.can.tpdos.set k
        { s.chip.can.tpdos[k] with values := some v, sentAt := some s.chip.clock.us, delayed := false },
      tx := s.chip.can.tx ++ (canLines s.chip).map fun m => (m, .tpdo k v) }) ∧
  (∀ (s : State), linePresent s.chip 0 → s.chip.can.nmt = .operational → (∀ j : Fin 16, eventDriven s.chip j = false) →
    Gives .tpdoEventCheck s [.can] fun c =>
      c = s.chip) ∧
  (∀ (s : State) (k : Fin 16) (v : List Byte), linePresent s.chip 0 → s.chip.can.nmt = .operational → eventDriven s.chip k → nat
    s.chip (kTpdoTimer k) ≠ 0 → sampleAll s.chip (tpdoMap s.chip k) = some v →
    Gives (.tpdoEventTimer k) s [.can] fun c =>
      c.can = { s.chip.can with
      tpdos := s.chip.can.tpdos.set k
        { s.chip.can.tpdos[k] with values := some v, sentAt := some s.chip.clock.us, delayed := false },
      tx := s.chip.can.tx ++ (canLines s.chip).map fun m => (m, .tpdo k v) }) ∧
  (∀ (s : State) (k : Fin 16) (v : List Byte), linePresent s.chip 0 → s.chip.can.nmt = .operational → tpdoValid s.chip k →
    s.chip.can.tpdos[k].delayed → tpdoInhibited s.chip k = false → sampleAll s.chip (tpdoMap s.chip k) = some v →
    Gives (.tpdoInhibitEnd k) s [.can] fun c =>
      c.can = { s.chip.can with
      tpdos := s.chip.can.tpdos.set k
        { s.chip.can.tpdos[k] with values := some v, sentAt := some s.chip.clock.us, delayed := false },
      tx := s.chip.can.tx ++ (canLines s.chip).map fun m => (m, .tpdo k v) })

/-- A whole WRITE or READ with an accepted PEC that reaches its target becomes a request of origin 3; a WRITE that repeats a kept
one gives an OK result and no request; a bad PEC is counted. RESULT answers the named or oldest result with its PEC and removes it
once collected, or answers FFh with none held. The SCL and SDA timeouts leave the port waiting for recovery with an event, and a
result discarded after 1 s is counted. Rests on R310, R311, R312, R313, R315, R317. -/
def Obligations.TwoWireCommands : Prop :=
  (∀ (s : State) (f : TwFrame), f.fits → twAnswers s.chip f.addr → twWhole f true → pecAccepted s.chip f true → twDuplicate s.chip f = false →
    reaches .twoWire f.k true s.chip →
    Gives (.twWrite f) s [.hamlets, .green, .market, .hampers, .can, .tw, .svc, .lane] fun c =>
      reqOf c s.chip.market.nextId = some { ownRequest .twoWire (f.k) (some f.data) s.chip with reply := .tw f.seq } ∧ c.tw =
        s.chip.tw) ∧
  (∀ (s : State) (f : TwFrame), f.fits → twAnswers s.chip f.addr → twWhole f true → pecAccepted s.chip f true → twDuplicate s.chip f →
    s.chip.tw.results.length < 8 →
    Gives (.twWrite f) s [.hamlets, .green, .market, .hampers, .can, .tw, .svc, .lane] fun c =>
      c.market = s.chip.market ∧ c.tw =
        { s.chip.tw with dupAt := some s.chip.clock.us, results := s.chip.tw.results ++ [{ seq := f.seq, status := 0, data := [], at_ := s.chip.clock.us }] }) ∧
  (∀ (s : State) (f : TwFrame), f.fits → twAnswers s.chip f.addr → twWhole f true → pecBad f true →
    Gives (.twWrite f) s [.hamlets, .green, .market, .hampers, .can, .tw, .svc, .lane] fun c =>
      c.market = s.chip.market ∧ c.tw =
        { s.chip.tw with pecErrors := satSucc 65535 s.chip.tw.pecErrors, pecAt := some s.chip.clock.us }) ∧
  (∀ (s : State) (f : TwFrame), f.fits → twAnswers s.chip f.addr = false ∨ twWhole f true = false →
    Gives (.twWrite f) s [.hamlets, .green, .market, .hampers, .can, .tw, .svc, .lane] fun c =>
      c = s.chip) ∧
  (∀ (s : State) (f : TwFrame), f.fits → f.data = [] → twAnswers s.chip f.addr → twWhole f false → pecAccepted s.chip f false → reaches
    .twoWire f.k false s.chip →
    Gives (.twRead f) s [.hamlets, .green, .market, .hampers, .can, .tw, .svc, .lane] fun c =>
      reqOf c s.chip.market.nextId = some { ownRequest .twoWire (f.k) none s.chip with reply := .tw f.seq } ∧ c.tw = s.chip.tw) ∧
  (∀ (s : State) (a : BitVec 7) (seq : BitVec 8) (collected : Bool) (r : TwResult), twAnswers s.chip a → seq ≠ 0 → (s.chip.tw.results.find? (fun x
    => x.seq == seq) = some r) →
    Gives (.twResult a seq collected) s [.tw] fun c =>
      c.tw =
        { s.chip.tw with answers := s.chip.tw.answers ++ [twReturned a seq r], results := if collected then dropResult seq s.chip.tw.results else s.chip.tw.results }) ∧
  (∀ (s : State) (a : BitVec 7) (collected : Bool) (r : TwResult) (rest : List TwResult), twAnswers s.chip a → s.chip.tw.results = r :: rest →
    Gives (.twResult a 0 collected) s [.tw] fun c =>
      c.tw = { s.chip.tw with answers := s.chip.tw.answers ++ [twReturned a 0 r], results := if collected then rest else s.chip.tw.results }) ∧
  (∀ (s : State) (a : BitVec 7) (seq : BitVec 8) (collected : Bool), twAnswers s.chip a → s.chip.tw.results = [] →
    Gives (.twResult a seq collected) s [.tw] fun c =>
      c.tw = { s.chip.tw with answers := s.chip.tw.answers ++ [twReturned a seq { seq := 0, status := 0xFF, data := [] }] }) ∧
  (∀ (s : State), netUp s.chip →
    Gives .twSclTimeout s [.tw, .watch] fun c =>
      c.tw = { s.chip.tw with waitIdle := true, sclAt := some s.chip.clock.us } ∧ c.watch = (raise 174 1 0 s.chip).watch) ∧
  (∀ (s : State), netUp s.chip →
    Gives .twSdaTimeout s [.tw, .watch] fun c =>
      c.tw = { s.chip.tw with waitIdle := true, sdaAt := some s.chip.clock.us } ∧ c.watch = (raise 174 1 0 s.chip).watch) ∧
  (∀ (s : State),
    Gives .twBusRecovered s [.tw] fun c =>
      c.tw = { s.chip.tw with waitIdle := false }) ∧
  (∀ (s : State) (r : TwResult) (rest : List TwResult), s.chip.tw.results = r :: rest → r.at_ + 1000000 ≤ s.chip.clock.us →
    Gives .twResultDiscard s [.tw] fun c =>
      c.tw = { s.chip.tw with results := rest, resultsLost := satSucc 65535 s.chip.tw.resultsLost })

/-- PING answers the revision and the mode; RATE answers at the old rate and changes it later, with a return to 115,200 baud where
no frame follows. READ and WRITE become requests of origin 4; in ROM recovery mode they answer MODE. DOMAIN-READ takes and holds
a copy and DOMAIN-WRITE gathers pieces into one write. Trace dumps are refused while the trace is ARMED or TRIGGERED. Bad frames
are counted, and a dropped link resets the rate with an event. Rests on R246, R318, R319, R320, R321. -/
def Obligations.ServicePortCommands : Prop :=
  (∀ (s : State) (tag : BitVec 16), svcListens s.chip →
    Gives (.svcPing tag) s [.svc] fun c =>
      c.svc = (svcAnswer 0x01 tag 0 (leBytes 4 0x0000B001 ++ [if inRecovery s.chip then 1 else 0]) (svcValid s.chip)).svc) ∧
  (∀ (s : State) (tag : BitVec 16) (r : Nat), r < 4294967296 → svcListens s.chip → r ∈ svcRates →
    Gives (.svcRate tag r) s [.svc] fun c =>
      c.svc = { (svcAnswer 0x02 tag 0 [] (svcValid s.chip)).svc with newRate := some r }) ∧
  (∀ (s : State) (tag : BitVec 16) (r : Nat), r < 4294967296 → svcListens s.chip → r ∉ svcRates →
    Gives (.svcRate tag r) s [.svc] fun c =>
      c.svc = (svcAnswer 0x02 tag Status.range.number [] (svcValid s.chip)).svc) ∧
  (∀ (s : State) (r : Nat), s.chip.svc.newRate = some r →
    Gives .svcRateChange s [.svc] fun c =>
      c.svc = { s.chip.svc with rate := r, newRate := none, proving := true }) ∧
  (∀ (s : State), live s.chip → s.chip.svc.proving →
    Gives .svcRateRevert s [.svc, .watch] fun c =>
      c.svc = { s.chip.svc with rate := 115200, proving := false } ∧ c.watch = (raise 175 2 0 s.chip).watch) ∧
  (∀ (s : State) (tag : BitVec 16) (k : Key), k < 0x1000000 → svcListens s.chip → inRecovery s.chip = false → reaches .service k
    false s.chip →
    Gives (.svcRead tag k) s [.hamlets, .green, .market, .hampers, .can, .tw, .svc, .lane] fun c =>
      reqOf c s.chip.market.nextId = some { ownRequest .service (k) none s.chip with reply := .svc 0x10 tag } ∧ c.svc = (svcValid
        s.chip).svc) ∧
  (∀ (s : State) (tag : BitVec 16) (k : Key), k < 0x1000000 → inRecovery s.chip →
    Gives (.svcRead tag k) s [.hamlets, .green, .market, .hampers, .can, .tw, .svc, .lane] fun c =>
      c.svc = (svcAnswer 0x10 tag 0x22 [] (svcValid s.chip)).svc ∧ c.market = s.chip.market) ∧
  (∀ (s : State) (tag : BitVec 16) (k : Key) (data : List Byte), k < 0x1000000 → data.length ≤ 4093 → svcListens s.chip →
    inRecovery s.chip = false → reaches .service k true s.chip →
    Gives (.svcWrite tag k data) s [.hamlets, .green, .market, .hampers, .can, .tw, .svc, .lane] fun c =>
      reqOf c s.chip.market.nextId = some { ownRequest .service (k) (some data) s.chip with reply := .svc 0x11 tag } ∧ c.svc =
        (svcValid s.chip).svc) ∧
  (∀ (s : State) (tag : BitVec 16) (k : Key) (length : Nat), k < 0x1000000 → length ≤ 4095 → svcListens s.chip → inRecovery s.chip
    = false → svcReading s.chip = false → reaches .service k false s.chip →
    Gives (.svcDomainRead tag k 0 length) s [.hamlets, .green, .market, .hampers, .can, .tw, .svc, .lane] fun c =>
      reqOf c s.chip.market.nextId = some { ownRequest .service (k) none s.chip with reply := .svcCopy tag length }) ∧
  (∀ (s : State) (tag : BitVec 16) (k : Key) (offset length : Nat) (x : Transfer), k < 0x1000000 → offset < 4294967296 → length ≤
    4095 → svcListens s.chip → inRecovery s.chip = false → 0 < offset → s.chip.svc.reader = some x → x.k = k → x.next = offset →
    Gives (.svcDomainRead tag k offset length) s [.hamlets, .green, .market, .hampers, .can, .tw, .svc, .lane] fun c =>
      c.svc = { (svcAnswer 0x12 tag 0 ((x.data.drop offset).take length) (svcValid s.chip)).svc with
      reader := some { x with next := offset + ((x.data.drop offset).take length).length } } ∧ c.market = s.chip.market) ∧
  (∀ (s : State) (tag : BitVec 16) (k : Key) (offset : Nat) (data : List Byte) (all : List Byte), k < 0x1000000 → offset <
    4294967296 → data.length ≤ 4089 → svcListens s.chip → inRecovery s.chip = false → (offset = 0 → s.chip.svc.writer = none) →
    gather s.chip.svc.writer k offset data = some all →
    Gives (.svcDomainWrite tag k offset data false) s [.hamlets, .green, .market, .hampers, .can, .tw, .svc, .lane] fun c =>
      c.svc = { (svcAnswer 0x13 tag 0 [] (svcValid s.chip)).svc with writer := some { k := k, data := all, next := all.length } }
        ∧ c.market = s.chip.market) ∧
  (∀ (s : State) (tag : BitVec 16) (k : Key) (offset : Nat) (data : List Byte) (all : List Byte), k < 0x1000000 → offset <
    4294967296 → data.length ≤ 4089 → svcListens s.chip → inRecovery s.chip = false → (offset = 0 → s.chip.svc.writer = none) →
    gather s.chip.svc.writer k offset data = some all → reaches .service k true s.chip →
    Gives (.svcDomainWrite tag k offset data true) s [.hamlets, .green, .market, .hampers, .can, .tw, .svc, .lane] fun c =>
      reqOf c s.chip.market.nextId = some { ownRequest .service (k) (some all) s.chip with reply := .svc 0x13 tag } ∧
      c.svc = { (svcValid s.chip).svc with writer := none }) ∧
  (∀ (s : State),
    Gives .svcDomainCopyRelease s [.svc] fun c =>
      c.svc = { s.chip.svc with reader := none }) ∧
  (∀ (s : State) (tag : BitVec 16) (m : Fin 16) (mask : BitVec 4), svcListens s.chip → inRecovery s.chip = false →
    s.chip.mills[m].trace.state = .armed ∨ s.chip.mills[m].trace.state = .triggered →
    Gives (.svcTraceDump tag m mask) s [.svc] fun c =>
      c.svc = (svcAnswer 0x20 tag Status.stateConflict.number [] (svcValid s.chip)).svc) ∧
  (∀ (s : State) (tag : BitVec 16) (m : Fin 16) (mask : BitVec 4), svcListens s.chip → inRecovery s.chip = false →
    s.chip.mills[m].trace.state = .idle ∨ s.chip.mills[m].trace.state = .done →
    Gives (.svcTraceDump tag m mask) s [.svc] fun c =>
      c.svc.tx = s.chip.svc.tx ++ traceFrames tag 17 (((List.finRange 4).filter fun (k : Fin 4) => mask.getLsbD k.val).flatMap fun
        (k : Fin 4) =>
      readBytes s.chip .service (kMillTraceData m k))) ∧
  (∀ (s : State) (tag : BitVec 16) (slot offset length : Nat) (d : Dump), slot < 15 → length ≤ 4095 → offset + length ≤ 69632 →
    svcListens s.chip → inRecovery s.chip = false → s.chip.nor.dumps[Fin.ofNat 15 slot] = some d →
    Gives (.svcSlotRead tag slot offset length) s [.svc, .fresh] fun c =>
      c.svc = (svcAnswer 0x21 tag 0 (((dumpBytes d).drop offset).take length) (svcValid s.chip)).svc ∧ c.fresh = s.chip.fresh) ∧
  (∀ (s : State) (tag : BitVec 16) (slot offset length : Nat), slot < 256 → offset < 4294967296 → length ≤ 4095 → svcListens
    s.chip → inRecovery s.chip = false → 15 ≤ slot ∨ 69632 < offset + length →
    Gives (.svcSlotRead tag slot offset length) s [.svc, .fresh] fun c =>
      c.svc = (svcAnswer 0x21 tag Status.range.number [] (svcValid s.chip)).svc) ∧
  (∀ (s : State), svcListens s.chip →
    Gives .svcByteGap s [.svc] fun c =>
      c.svc = { s.chip.svc with crcErrors := satSucc 65535 s.chip.svc.crcErrors }) ∧
  (∀ (s : State), svcListens s.chip →
    Gives .svcCrcError s [.svc] fun c =>
      c.svc = { s.chip.svc with crcErrors := satSucc 65535 s.chip.svc.crcErrors }) ∧
  (∀ (s : State), svcListens s.chip → s.chip.svc.up →
    Gives .svcLinkDrop s [.hamlets, .market, .hampers, .can, .tw, .svc, .update, .lane, .watch, .alm] fun c =>
      c.svc.up = false ∧ c.svc.rate = 115200 ∧ c.svc.newRate = none ∧ c.svc.reader = none ∧ c.svc.writer = none ∧
      c.svc.linkDrops = satSucc 65535 s.chip.svc.linkDrops ∧ (updating s.chip = false → c.watch = (raise 175 1 0 s.chip).watch) ∧
        (updating s.chip → c.update.state = .abandoned) ∧
      (∀ h ∈ c.hampers.list, h.origin = .service → h.state ≠ .opened ∧ h.state ≠ .joined)) ∧
  (∀ (s : State) (tag : BitVec 16) (cmd : BitVec 8), svcListens s.chip → inRecovery s.chip = false →
    Gives (.svcUnknownCommand tag cmd) s [.svc] fun c =>
      c.svc = (svcAnswer (cmd.toNat % 128) tag 0x21 [] (svcValid s.chip)).svc)

/-- UPDATE-BEGIN opens an update of a slot that does not run, erasing it, and its response follows the erase. Pieces in order are
programmed in turn; UPDATE-END closes a whole update with record 6Bh, and its restart resets the chip 100 ms later. 60 s of inactivity
abandon it.
NONCE answers a fresh nonce. TRANSITION answers AUTH, STATE-CONFLICT or OK, and only an authentic, listed one is accepted; its
erase then blows exactly its fuse, erases the parameter sets or the images and resets the chip. Rests on R438, R439, R445, R446,
R447, R448. -/
def Obligations.UpdateAndLifeCycleCommands : Prop :=
  (∀ (s : State) (tag : BitVec 16) (slot : BitVec 8) (length : Nat), svcListens s.chip → length ≤ 1576960 → slot ≤ 1 → lifeCycle
    s.chip ≠ .retired → updating s.chip = false → inRecovery s.chip ∨ slot.toNat ≠ s.chip.boot.slot.val →
    Gives (.updateBegin tag slot length) s [.svc, .update, .alm, .nor] fun c =>
      c.update = {
        state := .erasing, slot := Fin.ofNat 2 slot.toNat, tag := tag, length := length,
        lastAt := s.chip.clock.us, restartAt := s.chip.update.restartAt } ∧
      c.nor.images[Fin.ofNat 2 slot.toNat] = {} ∧ c.svc = (svcValid s.chip).svc) ∧
  (∀ (s : State), s.chip.update.state = .erasing →
    Gives .updateEraseDone s [.svc, .update] fun c =>
      c.update = { s.chip.update with state := .receiving } ∧ c.svc = (svcAnswer 0x30 s.chip.update.tag 0 [BitVec.ofNat 8
        s.chip.update.slot.val] s.chip).svc) ∧
  (∀ (s : State) (tag : BitVec 16) (offset : Nat) (data : List Byte), offset < 4294967296 → data.length ≤ 4092 → data ≠ [] →
    svcListens s.chip → lifeCycle s.chip ≠ .retired → s.chip.update.state = .receiving → offset = updateTaken s.chip → offset +
    data.length ≤ s.chip.update.length →
    Gives (.updateData tag offset data) s [.svc, .update] fun c =>
      c.update = { s.chip.update with pieces := s.chip.update.pieces ++ [(tag, data)], lastAt := s.chip.clock.us } ∧ c.svc = (svcValid s.chip).svc) ∧
  (∀ (s : State) (tag : BitVec 16) (offset : Nat) (data : List Byte), offset < 4294967296 → data.length ≤ 4092 → data ≠ [] →
    svcListens s.chip → lifeCycle s.chip ≠ .retired → s.chip.update.state ≠ .receiving ∨ offset ≠ updateTaken s.chip →
    Gives (.updateData tag offset data) s [.svc, .update] fun c =>
      c.svc = (svcAnswer 0x31 tag 0x23 [] (svcValid s.chip)).svc ∧ c.update = (updateHeard s.chip).update) ∧
  (∀ (s : State) (tag : BitVec 16) (b : List Byte) (rest : List (BitVec 16 × List Byte)), s.chip.update.pieces = (tag, b) :: rest
    →
    Gives .updateDataProgrammed s [.svc, .update, .nor] fun c =>
      c.update = { s.chip.update with pieces := rest, received := s.chip.update.received + b.length } ∧
      c.nor.images = s.chip.nor.images.set s.chip.update.slot
        { bytes := s.chip.nor.images[s.chip.update.slot].bytes ++ b }
        ∧
      c.svc = (svcAnswer 0x31 tag 0 [] (s.chip)).svc) ∧
  (∀ (s : State) (tag : BitVec 16) (restart : Bool), svcListens s.chip → lifeCycle s.chip ≠ .retired → s.chip.update.state =
    .receiving → s.chip.update.received = s.chip.update.length →
    Gives (.updateEnd tag restart) s [.svc, .update, .alm] fun c =>
      c.update = { s.chip.update with
      state := .ended, lastAt := s.chip.clock.us,
      restartAt := if restart then some (s.chip.clock.us + 100000) else s.chip.update.restartAt } ∧ c.alm = (log 0x6B 244 0 s.chip.update.slot.val
        [s.chip.update.length] s.chip).alm ∧
      c.svc = (svcAnswer 0x32 tag 0 [] (svcValid s.chip)).svc) ∧
  (∀ (s : State) (tag : BitVec 16) (restart : Bool), svcListens s.chip → lifeCycle s.chip ≠ .retired → s.chip.update.state ≠
    .receiving ∨ s.chip.update.received ≠ s.chip.update.length →
    Gives (.updateEnd tag restart) s [.svc, .update, .alm] fun c =>
      c.svc = (svcAnswer 0x32 tag 0x23 [] (svcValid s.chip)).svc ∧ c.update = (updateHeard s.chip).update) ∧
  (∀ (s : State), resettable s.chip → updating s.chip → s.chip.update.lastAt + 60000000 ≤ s.chip.clock.us →
    Gives .updateInactivity s [.update, .watch, .alm] fun c =>
      c.update = { s.chip.update with state := .abandoned, pieces := [] } ∧ c.alm = (logRaise 0x6C 244 1 s.chip.update.slot.val
        [s.chip.update.received] s.chip).alm) ∧
  (∀ (s : State) (t : Nat), s.chip.update.restartAt = some t → t ≤ s.chip.clock.us → resettable s.chip →
    ∃ c, exec .updateRestartReset s = .next { s with chip := c } ∧
      c.boot.phase = .flushing ∧ c.boot.cause = .command ∧ c.fuses = s.chip.fuses ∧ c.nor.images = s.chip.nor.images) ∧
  (∀ (s : State) (tag : BitVec 16), svcListens s.chip → inRecovery s.chip = false →
    Gives (.lifecycleNonce tag) s [.svc, .lc, .fresh] fun c =>
      c.lc = { s.chip.lc with nonce := some ((List.range 16).map (Config.nonceByte s.chip.fresh), nowMs s.chip) } ∧ c.fresh =
        s.chip.fresh + 1 ∧
      c.svc = (svcAnswer 0x40 tag 0 ((List.range 16).map (Config.nonceByte s.chip.fresh)) (svcValid s.chip)).svc) ∧
  (∀ (s : State) (tag : BitVec 16) (t : LcTransition), t.fits → svcListens s.chip → inRecovery s.chip = false → s.chip.lc.accepted
    = none →
    Gives (.lifecycleTransition tag t) s [.svc, .lc, .watch, .alm] fun c =>
      c.lc =
        { nonce := if nonceValid s.chip t then none else s.chip.lc.nonce, accepted := if authentic s.chip t then transitionTo s.chip t.target else none }
        ∧
      c.svc = (svcAnswer 0x40 tag (if !authentic s.chip t then 0x24 else if (transitionTo s.chip t.target).isNone then
        Status.stateConflict.number else 0) []
      (svcValid s.chip)).svc) ∧
  (∀ (s : State) (dest : LifeCycle), s.chip.lc.accepted = some dest → resettable s.chip →
    ∃ c, exec .lifecycleEraseComplete s = .next { s with chip := c } ∧
      c.fuses = blow s.chip dest ∧ c.boot.phase = .flushing ∧ c.boot.cause = .lifeCycle ∧
      (dest = .provisioned → ∀ k : Fin 2, c.nor.params[k] = {}) ∧ (dest = .retired → ∀ k : Fin 2, c.nor.images[k] = {})) ∧
  (∀ (s : State), s.chip.lc.accepted = none →
    ∃ c, exec .lifecycleEraseComplete s = .next { s with chip := c } ∧
      c = s.chip)

/-- A link that comes up to a port of the other letter is up and lets an enabled node join; to the same letter it stays down with
MISWIRE and one event. A link that goes down is counted with one event. One link down wraps the node. A bad frame is counted and
not delivered; a good one addressed here is delivered once; any frame not for this node alone is forwarded with HOPS one higher,
or ended if its HCHK fails. Rests on R326, R327, R328, R333, R334, R335. -/
def Obligations.LaneLinkAndFrameCommands : Prop :=
  (∀ (s : State) (p : LanePort) (farB : Bool), laneRuns s.chip → farB = (p == .b) →
    Gives (.laneLinkUp p farB) s [.clock, .hamlets, .market, .hampers, .can, .tw, .svc, .lane, .watch, .alm] fun c =>
      laneLink c p = { laneLink s.chip p with up := false, farRxOk := true, miswire := true } ∧ c.lane.state = s.chip.lane.state ∧
      c.watch = if (laneLink s.chip p).miswire then s.chip.watch else (raise (portSource p) 2 0 s.chip).watch) ∧
  (∀ (s : State) (p : LanePort) (farB : Bool), laneRuns s.chip → farB ≠ (p == .b) →
    Gives (.laneLinkUp p farB) s [.clock, .hamlets, .market, .hampers, .can, .tw, .svc, .lane, .watch, .alm] fun c =>
      laneLink c p = { laneLink s.chip p with up := true, farRxOk := true, miswire := false } ∧
      (s.chip.lane.state = .off → s.chip.lane.dupId = false → flag s.chip kLaneEnable → lifeCycle s.chip ≠ .blank → c.lane.state =
        .joining)) ∧
  (∀ (s : State) (p : LanePort), (laneLink s.chip p).up →
    Gives (.laneLinkDown p) s [.lane, .watch] fun c =>
      laneLink c p = { laneLink s.chip p with
      up := false, farRxOk := false, miswire := false, upstream := none, linkDowns := satSucc 65535 (laneLink s.chip p).linkDowns
        } ∧
      c.lane.state = s.chip.lane.state ∧ c.watch = (raise (portSource p) 1 0 s.chip).watch) ∧
  (∀ (s : State), laneRuns s.chip → s.chip.lane.linkA.up = false → s.chip.lane.linkB.up →
    Gives .laneWrap s [.lane] fun c =>
      c.lane.wrap = some .a ∧ c.lane.tx = s.chip.lane.tx ∧ (s.chip.lane.wrap = some .a → c = s.chip)) ∧
  (∀ (s : State), laneRuns s.chip → s.chip.lane.linkA.up → s.chip.lane.linkB.up = false →
    Gives .laneWrap s [.lane] fun c =>
      c.lane.wrap = some .b ∧ c.lane.tx = s.chip.lane.tx ∧ (s.chip.lane.wrap = some .b → c = s.chip)) ∧
  (∀ (s : State), laneRuns s.chip → s.chip.lane.linkA.up = s.chip.lane.linkB.up →
    Gives .laneWrap s [.lane] fun c =>
      c.lane.wrap = none ∧ c.lane.tx = s.chip.lane.tx ∧ (s.chip.lane.wrap = none → c = s.chip)) ∧
  (∀ (s : State) (p : LanePort) (f : LaneFrame), f.payload.length < 512 → laneRuns s.chip → (laneLink s.chip p).up → frameBad f →
    forwards s.chip f = false →
    Gives (.laneFrameReceive p f) s [.lane] fun c =>
      laneLink c p = { laneLink s.chip p with crcErrors := (laneLink s.chip p).crcErrors + 1 } ∧ c.lane.delivered =
        s.chip.lane.delivered ∧
      c.lane.tx = s.chip.lane.tx ∧ c.lane.nodes = s.chip.lane.nodes) ∧
  (∀ (s : State) (p : LanePort) (f : LaneFrame), f.payload.length < 512 → laneRuns s.chip → (laneLink s.chip p).up → frameBad f =
    false → addressed s.chip f → delivers s.chip f → f.seq ∉ seqsOf s.chip f →
    Gives (.laneFrameReceive p f) s [.lane] fun c =>
      c.lane.delivered = s.chip.lane.delivered ++ [f] ∧ f.seq ∈ seqsOf c f) ∧
  (∀ (s : State) (p : LanePort) (f : LaneFrame), f.payload.length < 512 → laneRuns s.chip → (laneLink s.chip p).up → f.seq ∈
    seqsOf s.chip f →
    Gives (.laneFrameReceive p f) s [.lane] fun c =>
      c.lane.delivered = s.chip.lane.delivered) ∧
  (∀ (s : State) (p : LanePort) (f : LaneFrame), f.payload.length < 512 → laneRuns s.chip → (laneLink s.chip p).up → hchkBad f =
    false → forwards s.chip f → (laneLink s.chip (otherPort p)).up → s.chip.lane.wrap = none →
    Gives (.laneFrameReceive p f) s [.lane] fun c =>
      c.lane.tx = s.chip.lane.tx ++ [.frame (otherPort p)
        { f with hops := f.hops + 1, hchk := hchkOf { f with hops := f.hops + 1 } }]) ∧
  (∀ (s : State) (p : LanePort) (f : LaneFrame), f.payload.length < 512 → laneRuns s.chip → (laneLink s.chip p).up → hchkBad f →
    forwards s.chip f → (laneLink s.chip (otherPort p)).up → s.chip.lane.wrap = none →
    Gives (.laneFrameReceive p f) s [.lane] fun c =>
      c.lane.tx = s.chip.lane.tx ++ [.broken (otherPort p) f] ∧ c.lane.delivered = s.chip.lane.delivered)

/-- ROLL is broadcast and received; a conflict lost makes the node DUPLICATE with one event, one won starts its 30 ms anew. 30 ms
without conflict make a JOINING node a MEMBER. An overdue node is no longer heard, its origin's hampers are rolled back and one
event is recorded. The upstream's TSYNC moves Lane time by its offset, counts towards lock, and another epoch is taken over.
DREQ is answered with DRSP, which gives the link its delay; holdover empties the lock count, and its expiry ends TVALID with an
event. Rests on R339, R340, R341, R344, R345, R346. -/
def Obligations.LaneMembershipAndTimeCommands : Prop :=
  (∀ (s : State), laneActive s.chip → s.chip.lane.wrap = none → s.chip.lane.linkA.up →
    Gives .rollSend s [.lane] fun c =>
      ∃ f, c.lane.tx = s.chip.lane.tx ++ [.frame .a f] ∧ f.dest = 0x7FF ∧ f.cls = 0 ∧ f.src = BitVec.ofNat 11
        s.chip.lane.nodeIdNow ∧
      f.seq = s.chip.lane.seqs[0] ∧ f.hops = 0 ∧ f.turns = 0 ∧ f.dir = false ∧ f.crc = crcOf f ∧ f.hchk = hchkOf f ∧
      f.payload = trimZeros (padTo 32 (timeHead 4 s.chip.lane.hops s.chip ++ leBytes 8 (ownSerial s.chip) ++ leBytes 4 (memberAge
        s.chip)))) ∧
  (∀ (s : State) (f : RollFrame), f.serial < 18446744073709551616 → f.age < 4294967296 → laneActive s.chip → f.node.val ≠
    s.chip.lane.nodeIdNow →
    Gives (.rollReceive f) s [.clock, .hamlets, .market, .hampers, .can, .tw, .svc, .lane, .watch, .alm] fun c =>
      (nodeOf c f.node).roll = some (f, s.chip.clock.us) ∧ (nodeOf c f.node).heard ∧ (nodeOf c f.node).heardAt = s.chip.clock.us ∧
        c.lane.state = s.chip.lane.state) ∧
  (∀ (s : State) (f : RollFrame), f.serial < 18446744073709551616 → f.age < 4294967296 → laneActive s.chip → f.node.val =
    s.chip.lane.nodeIdNow → f.serial ≠ ownSerial s.chip → losesTo s.chip f →
    Gives (.rollReceive f) s [.clock, .hamlets, .market, .hampers, .can, .tw, .svc, .lane, .watch, .alm] fun c =>
      c.lane.state = .duplicate ∧ c.lane.dupId = true ∧ c.lane.nodes = [] ∧ { src := 183, code := 1, value := 0 } ∈
        c.watch.arrived ∧
      (∀ h ∈ c.hampers.list, laneOrigin h.origin → h.state ≠ .opened ∧ h.state ≠ .joined)) ∧
  (∀ (s : State) (f : RollFrame), f.serial < 18446744073709551616 → f.age < 4294967296 → laneActive s.chip → f.node.val =
    s.chip.lane.nodeIdNow → losesTo s.chip f = false →
    Gives (.rollReceive f) s [.lane] fun c =>
      c.lane = { s.chip.lane with
      joinedAt := if f.serial = ownSerial s.chip then s.chip.lane.joinedAt else some s.chip.clock.us }) ∧
  (∀ (s : State), laneActive s.chip → s.chip.lane.state = .joining → within s.chip 30000 s.chip.lane.joinedAt = false →
    Gives .laneJoinComplete s [.clock, .hamlets, .market, .hampers, .can, .tw, .svc, .lane, .watch, .alm] fun c =>
      c.lane.state = .member ∧ c.lane.memberSince = some s.chip.clock.us) ∧
  (∀ (s : State) (n : Fin 1024), laneRuns s.chip → live s.chip → (s.chip.lane.nodes.any fun x => x.node == n && overdue s.chip x) →
    Gives (.laneNodeLost n) s [.clock, .hamlets, .market, .hampers, .can, .tw, .svc, .lane, .watch, .alm] fun c =>
      (nodeOf c n).heard = false ∧ (nodeOf c n).roll = none ∧ { src := 183, code := 2, value := 0 } ∈ c.watch.arrived ∧
      (∀ h ∈ c.hampers.list, h.origin = .lane n → h.state ≠ .opened ∧ h.state ≠ .joined)) ∧
  (∀ (s : State) (p : LanePort), laneRuns s.chip → (laneLink s.chip p).up →
    Gives (.tsyncSend p) s [.lane] fun c =>
      c.lane = (laneSend (p == .a) (p == .b) 0x7FE 0 (padTo 32 (timeHead 1 (sentHops s.chip p) s.chip ++ leBytes 8
        s.chip.clock.laneNs)) s.chip).lane) ∧
  (∀ (s : State) (p : LanePort) (f : TsyncFrame), f.departure < 18446744073709551616 → f.arrival < 18446744073709551616 → laneRuns
    s.chip → (laneLink s.chip p).up → (upstreamPort (setLink p (fun l =>
    { l with upstream := some f, upstreamAt := s.chip.clock.us }) s.chip) = some p) → f.epoch = s.chip.lane.epoch → -10000 ≤
    tsyncOffset p f s.chip → tsyncOffset p f s.chip ≤ 10000 →
    Gives (.tsyncReceive p f) s [.clock, .hamlets, .market, .hampers, .can, .tw, .svc, .lane, .watch, .alm] fun c =>
      (c.clock.laneNs : Int) = (s.chip.clock.laneNs + tsyncOffset p f s.chip) % 18446744073709551616 ∧ c.lane.hops = f.hops.toNat
        + 1 ∧
      c.lane.holdover = false ∧ c.lane.epoch = s.chip.lane.epoch ∧
      c.lane.lockCount = (if -50 ≤ tsyncOffset p f s.chip ∧ tsyncOffset p f s.chip ≤ 50 then s.chip.lane.lockCount + 1 else 0) ∧
      c.lane.tvalid = (s.chip.lane.tvalid || (decide (8 ≤ c.lane.lockCount) && !s.chip.clock.refLost))) ∧
  (∀ (s : State) (p : LanePort) (f : TsyncFrame), f.departure < 18446744073709551616 → f.arrival < 18446744073709551616 → laneRuns
    s.chip → (laneLink s.chip p).up → (upstreamPort (setLink p (fun l =>
    { l with upstream := some f, upstreamAt := s.chip.clock.us }) s.chip) = some p) → f.epoch ≠ s.chip.lane.epoch →
    s.chip.watch.safe = false →
    Gives (.tsyncReceive p f) s [.clock, .hamlets, .market, .hampers, .can, .tw, .svc, .lane, .watch, .alm] fun c =>
      c.lane.epoch = f.epoch ∧ c.lane.tvalid = false ∧ c.lane.epochAt = some s.chip.clock.us ∧
        { src := 183, code := 5, value := 0 } ∈ c.watch.arrived ∧
      (∀ h ∈ c.hampers.list, h.state ≠ .armed)) ∧
  (∀ (s : State) (p : LanePort) (f : TsyncFrame), f.departure < 18446744073709551616 → f.arrival < 18446744073709551616 → laneRuns
    s.chip → (laneLink s.chip p).up → (upstreamPort (setLink p (fun l =>
    { l with upstream := some f, upstreamAt := s.chip.clock.us }) s.chip) ≠ some p) →
    Gives (.tsyncReceive p f) s [.clock, .hamlets, .market, .hampers, .can, .tw, .svc, .lane, .watch, .alm] fun c =>
      laneLink c p = { laneLink s.chip p with upstream := some f, upstreamAt := s.chip.clock.us } ∧ c.clock = s.chip.clock ∧
        c.lane.epoch = s.chip.lane.epoch) ∧
  (∀ (s : State) (p : LanePort), laneRuns s.chip → (laneLink s.chip p).up →
    Gives (.dreqSend p) s [.lane] fun c =>
      (laneLink c p).t1 = some s.chip.clock.laneNs ∧ c.lane.tx = (laneSend (p == .a) (p == .b) 0x7FE 0 (padTo 32 (padTo 8 [2] ++
        leBytes 8 s.chip.clock.laneNs)) s.chip).lane.tx) ∧
  (∀ (s : State) (p : LanePort) (t : Nat), t < 18446744073709551616 → laneRuns s.chip → (laneLink s.chip p).up →
    Gives (.dreqReceive p t) s [.lane] fun c =>
      c.lane = (laneSend (p == .a) (p == .b) 0x7FE 0 (padTo 32 (padTo 8 [3] ++ leBytes 8 t ++ leBytes 8 s.chip.clock.laneNs))
        s.chip).lane) ∧
  (∀ (s : State) (p : LanePort) (t1 t2 t3 t4 : Nat), t2 < 18446744073709551616 → t3 < 18446744073709551616 → t4 <
    18446744073709551616 → laneRuns s.chip → (laneLink s.chip p).up → (laneLink s.chip p).t1 = some t1 →
    Gives (.drspReceive p t2 t3 t4) s [.lane] fun c =>
      laneLink c p = { laneLink s.chip p with t1 := none, delay := (((t4 : Int) - t1 - ((t3 : Int) - t2)) / 2).toNat }) ∧
  (∀ (s : State), laneActive s.chip → isMaster s.chip = false → upstreamGone s.chip → s.chip.lane.holdover = false →
    Gives .holdoverEntry s [.lane] fun c =>
      c.lane = { s.chip.lane with holdover := true, holdoverAt := some s.chip.clock.us, lockCount := 0 }) ∧
  (∀ (s : State), laneRuns s.chip → s.chip.lane.holdover → within s.chip (nat s.chip kLaneHoldover * 1000) s.chip.lane.holdoverAt = false →
    s.chip.lane.tvalid →
    Gives .holdoverExpiry s [.lane, .watch] fun c =>
      c.lane = { s.chip.lane with tvalid := false, lockCount := 0 } ∧ c.watch = (raise 183 4 0 s.chip).watch)

/-- An OD request of a node becomes a market request of its origin; a domain read holds a copy whose pieces follow in order, and a
domain write gathers pieces into one request. An ALM fetch within its ranges joins the fetches, up to five. A response to a
waiting gateway request is held for collection, after 10 s it is discarded and counted, and a timeout ends an overdue request with
a response of status TIMEOUT. Rests on R347, R348, R349. -/
def Obligations.LaneRemoteAccessCommands : Prop :=
  (∀ (s : State) (src : Fin 1024) (q : OdRequest), q.fits → laneMember s.chip → q.op = .read → reaches (.lane src) q.k false
    s.chip →
    Gives (.odRequestReceive src q) s [.hamlets, .green, .market, .hampers, .can, .tw, .svc, .lane] fun c =>
      reqOf c s.chip.market.nextId = some { ownRequest (.lane src) (q.k) none s.chip with reply := .od src .read q.tag }) ∧
  (∀ (s : State) (src : Fin 1024) (q : OdRequest), q.fits → laneMember s.chip → q.op = .write → reaches (.lane src) q.k true
    s.chip →
    Gives (.odRequestReceive src q) s [.hamlets, .green, .market, .hampers, .can, .tw, .svc, .lane] fun c =>
      reqOf c s.chip.market.nextId = some { ownRequest (.lane src) (q.k) (some q.data) s.chip with reply := .od src .write q.tag }) ∧
  (∀ (s : State) (src : Fin 1024) (q : OdRequest), q.fits → laneMember s.chip → q.op = .domainRead → q.length ≤ 240 → q.offset = 0
    → odReading s.chip src = false → reaches (.lane src) q.k false s.chip →
    Gives (.odRequestReceive src q) s [.hamlets, .green, .market, .hampers, .can, .tw, .svc, .lane] fun c =>
      reqOf c s.chip.market.nextId = some { ownRequest (.lane src) (q.k) none s.chip with reply := .odCopy src q.tag q.length }) ∧
  (∀ (s : State) (src : Fin 1024) (q : OdRequest) (r : OdTransfer), q.fits → laneMember s.chip → q.op = .domainRead → q.length ≤
    240 → 0 < q.offset → (s.chip.lane.readers.find? (fun x => x.node == src && decide (s.chip.clock.us < x.at_ + 1000000)) = some
    r) → r.t.k = q.k → r.t.next = q.offset →
    Gives (.odRequestReceive src q) s [.hamlets, .green, .market, .hampers, .can, .tw, .svc, .lane] fun c =>
      c.lane.tx = (odAnswer src .domainRead q.tag q.k 0 q.offset ((r.t.data.drop q.offset).take q.length) s.chip).lane.tx ∧
        c.market = s.chip.market ∧
      (c.lane.readers.find? fun x => x.node == src).map (·.t.next) = some (q.offset + ((r.t.data.drop q.offset).take
        q.length).length)) ∧
  (∀ (s : State) (src : Fin 1024) (q : OdRequest) (all : List Byte), q.fits → laneMember s.chip → q.op = .domainWrite → q.last =
    false → (q.offset = 0 → (s.chip.lane.writers.find? fun x => x.node == src) = none) → (gather ((s.chip.lane.writers.find? fun x
    => x.node == src).map (·.t)) q.k q.offset q.data = some all) →
    Gives (.odRequestReceive src q) s [.hamlets, .green, .market, .hampers, .can, .tw, .svc, .lane] fun c =>
      c.lane.writers = { node := src, t := { k := q.k, data := all, next := all.length }, at_ := s.chip.clock.us } ::
        s.chip.lane.writers.filter (·.node != src) ∧
      c.lane.tx = (odAnswer src .domainWrite q.tag q.k 0 q.offset [] s.chip).lane.tx ∧ c.market = s.chip.market) ∧
  (∀ (s : State) (src : Fin 1024) (q : OdRequest) (all : List Byte), q.fits → laneMember s.chip → q.op = .domainWrite → q.last →
    (q.offset = 0 → (s.chip.lane.writers.find? fun x => x.node == src) = none) → (gather ((s.chip.lane.writers.find? fun x =>
    x.node == src).map (·.t)) q.k q.offset q.data = some all) → reaches (.lane src) q.k true s.chip →
    Gives (.odRequestReceive src q) s [.hamlets, .green, .market, .hampers, .can, .tw, .svc, .lane] fun c =>
      reqOf c s.chip.market.nextId = some
        { ownRequest (.lane src) (q.k) (some all) s.chip with reply := .od src .domainWrite q.tag } ∧
      c.lane.writers = s.chip.lane.writers.filter (·.node != src)) ∧
  (∀ (s : State) (src : Fin 1024) (q : AlmFetch), q.fits → laneMember s.chip → reeveRuns s.chip → lifeCycle s.chip ≠ .blank →
    lifeCycle s.chip ≠ .retired → q.minSeverity ≤ 3 → 1 ≤ q.count → q.count ≤ 64 → s.chip.lane.fetches.length ≤ 4 →
    ((s.chip.lane.fetches.drop 1).any (fun x => x.node == src) = false) →
    Gives (.almFetchReceive src q) s [.lane] fun c =>
      c.lane.fetches = s.chip.lane.fetches ++
        [{ node := src, tag := q.tag, minSeverity := q.minSeverity, first := q.first, left := q.count }] ∧
      c.lane.tx = s.chip.lane.tx) ∧
  (∀ (s : State) (src : Fin 1024) (q : AlmFetch), q.fits → laneMember s.chip → reeveRuns s.chip → lifeCycle s.chip ≠ .blank →
    lifeCycle s.chip ≠ .retired → q.minSeverity ≤ 3 → 1 ≤ q.count → q.count ≤ 64 → 5 ≤ s.chip.lane.fetches.length →
    Gives (.almFetchReceive src q) s [.lane] fun c =>
      c.lane.fetches = s.chip.lane.fetches ∧ c.lane.tx = (almAnswer src q.tag .busy true [] (hear src s.chip)).lane.tx) ∧
  (∀ (s : State) (src : Fin 1024) (alm last : Bool) (payload : List Byte) (q : GwReq), payload.length ≤ 256 → laneMember s.chip →
    (s.chip.gw.waiting.find? (fun x => x.node == src && x.alm == alm && x.tag == BitVec.ofNat 16 (leNat ((payload.drop 2).take
    2))) = some q) →
    Gives (.gwResponseReceive src alm last payload) s [.lane, .gw] fun c =>
      c.gw = { s.chip.gw with
      results := s.chip.gw.results ++ [{
        data := leBytes 2 (q.node.val + if q.alm then 32768 else 0) ++ payload, at_ := s.chip.clock.us }], waiting := if alm && !last then gwAgain s.chip.clock.us q s.chip.gw.waiting else s.chip.gw.waiting.erase q }) ∧
  (∀ (s : State) (src : Fin 1024) (alm last : Bool) (payload : List Byte), payload.length ≤ 256 → laneMember s.chip →
    (s.chip.gw.waiting.find? (fun x => x.node == src && x.alm == alm && x.tag == BitVec.ofNat 16 (leNat ((payload.drop 2).take
    2))) = none) →
    Gives (.gwResponseReceive src alm last payload) s [.lane, .gw] fun c =>
      c.gw = s.chip.gw) ∧
  (∀ (s : State) (r : GwResult) (rest : List GwResult), live s.chip → s.chip.gw.results = r :: rest → r.at_ + 10000000 ≤
    s.chip.clock.us →
    Gives .gwResponseExpiry s [.gw] fun c =>
      c.gw = { s.chip.gw with results := rest, lost := satSucc 65535 s.chip.gw.lost }) ∧
  (∀ (s : State) (tag : BitVec 16) (node : Fin 1024) (q : GwReq), live s.chip → (s.chip.gw.waiting.find? (gwOverdue s.chip node
    tag) = some q) →
    Gives (.gwTimeout tag node) s [.gw] fun c =>
      c.gw.waiting = s.chip.gw.waiting.erase q ∧ c.gw.lost = s.chip.gw.lost ∧ ∃ b, c.gw.results = s.chip.gw.results ++
        [{ data := leBytes 2 (q.node.val + if q.alm then 32768 else 0) ++ b, at_ := s.chip.clock.us }] ∧
      b[if q.alm then 4 else 7]? = some (BitVec.ofNat 8 Status.timeout.number))

/-- An event of a disabled source changes nothing. One of an enabled source moves it by Table 11.2, is counted and kept as the
last, and its set sends an interrupt, records it, resets the owner or resets the chip. A quiet period takes a source to QUIET or
CLEAR, counted. Memory, lock and supply events are counted and raised, VAUX below 4.40 V makes records direct until it is back at 4.444 V (log
110), and a supply out of its window is raised once; a self-check failure enters the safe state. Rests on
R354, R355, R356, R357, R361, R363, R364, R365, R367, R368. -/
def Obligations.WatchCommands : Prop :=
  (∀ (s : State) (e : Event), watchRuns s.chip → s.chip.watch.arrived = [e] → flag s.chip (kSrcEnable e.src) = false →
    ∃ c, exec .watchEvaluation s = .next { s with chip := c } ∧
      c = { s.chip with watch := { s.chip.watch with arrived := [] } }) ∧
  (∀ (s : State) (e : Event), watchRuns s.chip → s.chip.watch.arrived = [e] → flag s.chip (kSrcEnable e.src) → hasBit (setOf
    s.chip e.src ((s.chip.watch.srcs[e.src].state.after (reachesN s.chip e.src)) == .severe)) 3 = false →
    ∃ c, exec .watchEvaluation s = .next { s with chip := c } ∧
      c.watch.srcs[e.src].state = s.chip.watch.srcs[e.src].state.after (reachesN s.chip e.src) ∧ c.watch.srcs[e.src].events =
        s.chip.watch.srcs[e.src].events + 1 ∧
      c.watch.srcs[e.src].lastCode = e.code ∧ c.watch.srcs[e.src].lastValue = e.value ∧ c.watch.lastSource = e.src ∧
      (hasBit (setOf s.chip e.src ((s.chip.watch.srcs[e.src].state.after (reachesN s.chip e.src)) == .severe)) 0 → hasBit (setOf
        s.chip e.src ((s.chip.watch.srcs[e.src].state.after (reachesN s.chip e.src)) == .severe)) 2 = false →
        (∀ g : Fin 27, s.chip.hamlets[g].outbox = [] ∧ s.chip.hamlets[g].unsent = []) →
        s.chip.hamlets[(2 : Fin 27)].inbox.length < 16 → .signal (.interrupt e.src) ∈ c.hamlets[(2 : Fin 27)].inbox)) ∧
  (∀ (s : State) (e : Event), watchRuns s.chip → s.chip.watch.arrived = [e] → flag s.chip (kSrcEnable e.src) → hasBit (setOf
    s.chip e.src ((s.chip.watch.srcs[e.src].state.after (reachesN s.chip e.src)) == .severe)) 5 → hasBit (setOf s.chip e.src
    ((s.chip.watch.srcs[e.src].state.after (reachesN s.chip e.src)) == .severe)) 3 = false → hasBit (setOf s.chip e.src
    ((s.chip.watch.srcs[e.src].state.after (reachesN s.chip e.src)) == .severe)) 2 = false → foldsInto s.chip e (Fin.ofNat 4
    ((setOf s.chip e.src ((s.chip.watch.srcs[e.src].state.after (reachesN s.chip e.src)) == .severe)) / 64)) = none →
    s.chip.alm.buffer.length ≤ 40 →
    ∃ c, exec .watchEvaluation s = .next { s with chip := c } ∧
      ∃ r ∈ c.alm.buffer, r.kind = .event e.kind ∧ r.source = e.src ∧ r.code = e.code ∧ r.value = e.value ∧ r.severity = Fin.ofNat
        4 ((setOf s.chip e.src ((s.chip.watch.srcs[e.src].state.after (reachesN s.chip e.src)) == .severe)) / 64)) ∧
  (∀ (s : State) (e : Event) (h : Fin 27), watchRuns s.chip → s.chip.watch.arrived = [e] → flag s.chip (kSrcEnable e.src) → hasBit
    (setOf s.chip e.src ((s.chip.watch.srcs[e.src].state.after (reachesN s.chip e.src)) == .severe)) 2 → hasBit (setOf s.chip
    e.src ((s.chip.watch.srcs[e.src].state.after (reachesN s.chip e.src)) == .severe)) 3 = false → ownerOf s.chip e = some h →
    resettableHamlet h →
    ∃ c, exec .watchEvaluation s = .next { s with chip := c } ∧
      c.hamlets[h].blkrst = true ∧ c.fuses = s.chip.fuses) ∧
  (∀ (s : State) (e : Event), watchRuns s.chip → s.chip.watch.arrived = [e] → flag s.chip (kSrcEnable e.src) → hasBit (setOf
    s.chip e.src ((s.chip.watch.srcs[e.src].state.after (reachesN s.chip e.src)) == .severe)) 3 → s.chip.watch.srcs[e.src].state ≠
    s.chip.watch.srcs[e.src].state.after (reachesN s.chip e.src) →
    ∃ c, exec .watchEvaluation s = .next { s with chip := c } ∧
      c.boot.phase = .flushing ∧ c.boot.cause = .watch ∧ c.fuses = s.chip.fuses) ∧
  (∀ (s : State) (i : Fin 256), watchRuns s.chip → s.chip.watch.srcs[i].state = .active ∨ s.chip.watch.srcs[i].state = .severe →
    quietFor s.chip i (nat s.chip (kSrcQuiet i)) → (s.chip.watch.srcs[i].times.any (fun t => decide (nowMs s.chip ≤ t + nat s.chip (kSrcWindow i)))) →
    Gives (.sourceQuiet i) s [.can, .watch] fun c =>
      c.watch =
        { s.chip.watch with srcs := s.chip.watch.srcs.set i { s.chip.watch.srcs[i] with state := .quiet, recoveries := satSucc 65535 s.chip.watch.srcs[i].recoveries } }
        ∧ c.can = s.chip.can) ∧
  (∀ (s : State) (i : Fin 256), watchRuns s.chip → s.chip.watch.srcs[i].state = .active ∨ s.chip.watch.srcs[i].state = .severe →
    quietFor s.chip i (nat s.chip (kSrcQuiet i)) → (s.chip.watch.srcs[i].times.any (fun t => decide (nowMs s.chip ≤ t + nat s.chip (kSrcWindow i))) = false) →
    Gives (.sourceQuiet i) s [.can, .watch] fun c =>
      c.watch.srcs[i] = { s.chip.watch.srcs[i] with state := .clear, recoveries := satSucc 65535 s.chip.watch.srcs[i].recoveries }
        ∧
      ∀ j : Fin 256, j ≠ i → c.watch.srcs[j] = s.chip.watch.srcs[j]) ∧
  (∀ (s : State) (i : Fin 256), watchRuns s.chip → s.chip.watch.srcs[i].state = .quiet → quietFor s.chip i (nat s.chip (kSrcWindow i) +
    1) →
    Gives (.sourceClearFromQuiet i) s [.can, .watch] fun c =>
      c.watch.srcs[i] = { s.chip.watch.srcs[i] with state := .clear } ∧
      ∀ j : Fin 256, j ≠ i → c.watch.srcs[j] = s.chip.watch.srcs[j]) ∧
  (∀ (s : State) (mem : MemoryId), watchRuns s.chip →
    Gives (.memoryCorrected mem) s [.watch] fun c =>
      (mem = .nor → c.watch.memCorrected = s.chip.watch.memCorrected.set 4 (s.chip.watch.memCorrected[4] + 1) ∧ c.watch.arrived =
        s.chip.watch.arrived) ∧
      (mem = .almanacBuffer → c.watch.memCorrected = s.chip.watch.memCorrected.set 3 (s.chip.watch.memCorrected[3] + 1) ∧
        { src := 225, code := 1, value := 0 } ∈ c.watch.arrived) ∧ (mem = .reeveSram → c.watch.memCorrected =
        s.chip.watch.memCorrected.set 0 (s.chip.watch.memCorrected[0] + 1) ∧ { src := 220, code := 1, value := 0 } ∈
        c.watch.arrived) ∧
      (mem = .hamlet 0 → c.watch = { s.chip.watch with corrected := s.chip.watch.corrected + 1 }) ∧
      (mem = .hamlet 7 → c.watch.memCorrected = s.chip.watch.memCorrected.set 1 (s.chip.watch.memCorrected[1] + 1) ∧
        { src := 222, code := 1, value := 7 } ∈ c.watch.arrived) ∧
      (∀ m : Fin 16, mem = .mill m → c.watch.memCorrected = s.chip.watch.memCorrected.set 2 (s.chip.watch.memCorrected[2] + 1) ∧
        { src := 224, code := 1, value := 11 + m.val } ∈ c.watch.arrived)) ∧
  (∀ (s : State) (mem : MemoryId), watchRuns s.chip →
    Gives (.memoryUncorrectable mem) s [.hamlets, .rms, .bus, .phases, .seq, .mills, .market, .can, .tw, .svc, .lane, .watch,
      .reeve, .alm, .twin] fun c =>
      (mem = .nor → { src := 226, code := 1, value := 0 } ∈ c.watch.arrived) ∧ (mem = .almanacBuffer →
        { src := 225, code := 2, value := 0 } ∈ c.watch.arrived) ∧ (mem = .reeveSram → { src := 219, code := 1, value := 0 } ∈
        c.watch.arrived) ∧
      (mem = .hamlet 0 → c.watch.safe = true) ∧ (mem = .hamlet 7 → { src := 221, code := 1, value := 7 } ∈ c.watch.arrived) ∧
      (∀ m : Fin 16, mem = .mill m → { src := 223, code := 1, value := 11 + m.val } ∈ c.watch.arrived ∧
      { src := Fin.ofNat 256 (156 + m.val), code := 1, value := 223, kind := .echo } ∈ c.watch.arrived)) ∧
  (∀ (s : State) (h : Fin 27), watchRuns s.chip → resettableHamlet h → recordReady s.chip → mayHoldLock h s.chip → s.chip.green.memLock ≠
    some h →
    Gives (.memLockRevoke h) s [.hamlets, .green, .phases, .rails, .vcs, .batt, .mills, .market, .hampers, .can, .tw, .svc, .update,
      .lane, .watch, .alm, .twin, .nor] fun c =>
      c.hamlets[h].blkrst = true ∧ c.hamlets[h].run = false ∧ c.watch.revocations = satSucc 65535 s.chip.watch.revocations ∧
      { src := 228, code := 1, value := h.val } ∈ c.watch.arrived) ∧
  (∀ (s : State) (h : Fin 27), watchRuns s.chip → resettableHamlet h → mayHoldLock h s.chip →
    Gives (.greenLockRevoke h) s [.hamlets, .green, .phases, .rails, .vcs, .batt, .mills, .market, .hampers, .can, .tw, .svc, .update,
      .lane, .watch, .alm, .twin, .nor] fun c =>
      c.hamlets[h].blkrst = true ∧ c.hamlets[h].run = false ∧ c.watch.revocations = satSucc 65535 s.chip.watch.revocations ∧
      { src := 229, code := 1, value := h.val } ∈ c.watch.arrived) ∧
  (∀ (s : State) (h : Fin 27), watchRuns s.chip → resettableHamlet h = false → recordReady s.chip → mayHoldLock h s.chip →
    s.chip.green.memLock ≠ some h →
    Gives (.memLockRevoke h) s [.hamlets, .green, .phases, .rails, .vcs, .batt, .mills, .market, .hampers, .can, .tw, .svc, .update,
      .lane, .watch, .alm, .twin, .nor] fun c =>
      c = { s.chip with green := { s.chip.green with memLock := some h }, watch := (raise 228 1 h.val s.chip).watch }) ∧
  (∀ (s : State) (h : Fin 27), watchRuns s.chip → resettableHamlet h = false →
    Gives (.greenLockRevoke h) s [.hamlets, .green, .phases, .rails, .vcs, .batt, .mills, .market, .hampers, .can, .tw, .svc, .update,
      .lane, .watch, .alm, .twin, .nor] fun c =>
      c = s.chip) ∧
  (∀ (s : State) (b : Bool), watchRuns s.chip →
    Gives (.watchSelfCheckFail b) s [.hamlets, .rms, .bus, .phases, .seq, .mills, .market, .can, .tw, .svc, .lane, .watch, .reeve,
      .alm, .twin] fun c =>
      c.watch.safe = true ∧ c.reeve.halted = true ∧ (∀ k : Fin 32, c.phases[k].drven = false) ∧ (∀ m : Fin 16, c.mills[m].state ≠
        .ready) ∧
      c.twin.ownOut = false ∧ (∀ g : Fin 8, c.seq.pgOut[g] = false)) ∧
  (∀ (s : State) (v : Int), inRange v (-2147483648) 2147483647 → watchRuns s.chip → settingsTaken s.chip → s.chip.alm.direct =
    false → vauxBelow (22 / 5) v →
    Gives (.supplyWarning v) s [.chans, .watch, .alm] fun c =>
      c.alm = { s.chip.alm with direct := true, held := false } ∧ (chanOf c 122).word = satWord v ∧ c.watch = (raise 245 1 v s.chip).watch) ∧
  (∀ (s : State), vauxBelow (1111 / 250) (chanInt s.chip 122) = false →
    Gives .supplyWarningClear s [.alm] fun c =>
      c.alm = { s.chip.alm with direct := false }) ∧
  (∀ (s : State) (i : Fin 256) (v : Int), inRange v (-2147483648) 2147483647 → watchRuns s.chip → i ∉ s.chip.watch.supplyOut →
    supplyBad i 0 v →
    Gives (.supplyOutOfWindow i v) s [.chans, .watch] fun c =>
      c.watch = { (raise 246 1 v s.chip).watch with supplyOut := i :: s.chip.watch.supplyOut } ∧ (chanOf c i).word = satWord v)

/-- A read of the 12 sensors keeps each raw count, breaks an unmasked sensor whose read breaks it, and judges the hottest: two
reads at the shutdown level are counted. Shutdown writes the CRITICAL record 40h; when it is written the safe state follows, and
after 100 cool reads a chip reset with its own cause. The orderly stop starts with an off request, and ends with the record once
the sequencer is OFF. Rests on R372, R373, R375, R376, R377. -/
def Obligations.ThermalCommands : Prop :=
  (∀ (s : State) (rs : List DieReading), rs.length = 12 → resettable s.chip →
    Gives (.dieSensorRead rs) s [.chans, .mills, .watch, .therm] fun c =>
      (∀ k : Fin 12, c.therm.dies[k].raw = rs[k.val]?.map (·.raw) ∧
      c.therm.dies[k].broken = (s.chip.therm.dies[k].broken || (!masked s.chip k && rs[k.val]?.any fun r =>
      breaks s.chip.therm.dies[k] r (if s.chip.therm.dies[k].raw = some r.raw then s.chip.therm.dies[k].same + 1 else 1)))) ∧
      ((hottestDie c).isSome → c.therm.hottest = ((hottestDie c).map (dieTemp c)).getD 0 ∧
      c.therm.overCount = if num s.chip kThermShutdownLevel ≤ c.therm.hottest then s.chip.therm.overCount + 1 else 0)) ∧
  (∀ (s : State), watchRuns s.chip → 2 ≤ s.chip.therm.overCount → s.chip.therm.recording = false → watchRuns (watchEvaluation
    (raise (144 + s.chip.therm.hottestAt) 3 s.chip.therm.hottest s.chip)) →
    ∃ c, exec .thermalShutdown s = .next { s with chip := c } ∧
      c.therm.recording = true ∧ c.therm.stopping = false ∧
      c.alm = (log 0x40 (144 + s.chip.therm.hottestAt) 3 s.chip.therm.hottest [] (watchEvaluation (raise (144 +
        s.chip.therm.hottestAt) 3 s.chip.therm.hottest s.chip))).alm) ∧
  (∀ (s : State), s.chip.therm.recording →
    Gives .thermalRecordDone s [.hamlets, .rms, .bus, .phases, .seq, .mills, .market, .can, .tw, .svc, .lane, .watch, .reeve,
      .therm, .alm, .twin] fun c =>
      c.therm.recording = false ∧ c.therm.shutdown = true ∧ c.therm.coolCount = 0 ∧ c.watch.safe = true) ∧
  (∀ (s : State), s.chip.therm.shutdown → 100 ≤ s.chip.therm.coolCount → resettable s.chip →
    ∃ c, exec .thermalRestart s = .next { s with chip := c } ∧
      c.boot.phase = .flushing ∧ c.boot.cause = .thermalRestart ∧ c.fuses = s.chip.fuses) ∧
  (∀ (s : State), watchRuns s.chip → s.chip.therm.window = some true → s.chip.therm.stopping = false → s.chip.therm.recording =
    false →
    Gives .orderlyStopStart s [.chans, .rms, .bus, .phases, .rails, .vcs, .strs, .pps, .wms, .seq, .watch, .therm] fun c =>
      c.therm = { s.chip.therm with stopping := true } ∧ (drives s.chip → c.seq = (seqOff s.chip).seq ∧ c.rails = (seqOff
        s.chip).rails) ∧ (drives s.chip = false → c.seq = s.chip.seq)) ∧
  (∀ (s : State), watchRuns s.chip → s.chip.therm.stopping → s.chip.therm.recording = false → s.chip.seq.state = .off ∨
    s.chip.seq.state = .offHold →
    Gives .orderlyStopSeqOff s [.therm, .alm] fun c =>
      c.therm = { s.chip.therm with recording := true } ∧ c.alm = (log 0x40 (144 + s.chip.therm.hottestAt) 3 s.chip.therm.hottest
        [] s.chip).alm) ∧
  (∀ (s : State), s.chip.seq.state ≠ .off → s.chip.seq.state ≠ .offHold →
    Gives .orderlyStopSeqOff s [.therm, .alm] fun c =>
      c = s.chip)

/-- The oldest record that is not held is written to a ready slot; with none, none to reclaim and no erase possible in DEPLOYED, a
record below CRITICAL is lost, counted, and LOSS is marked. A finished erase leaves a successor ready. A failed program closes
the open sector with one event, and a failed erase leaves its sector out. The held record is released and a checkpoint is
recorded when their times are over, and the end of the flush 5 ms after the reset keeps both regions, empties the buffer and goes
to step 3. Rests on R384, R388, R391, R392, R394, R395. -/
def Obligations.AlmanacCommands : Prop :=
  (∀ (s : State) (r : Record) (rest : List Record), s.chip.alm.buffer = r :: rest → r.seq.isSome → s.chip.nor.size ≠ 0 →
    s.chip.alm.held = false ∨ rest ≠ [] → shutdownRecord r = false → writable s.chip.alm.main →
    Gives .recordWriteDone s [.green, .alm] fun c =>
      c.green = { s.chip.green with memLock := none } ∧ c.alm.buffer = rest ∧ r ∈ stored c ∧ c.alm.lost = s.chip.alm.lost ∧ c.alm.reserve.openings = s.chip.alm.reserve.openings) ∧
  (∀ (s : State) (r : Record) (rest : List Record), s.chip.alm.buffer = r :: rest → r.seq.isSome → s.chip.nor.size ≠ 0 →
    s.chip.alm.held = false ∨ rest ≠ [] → shutdownRecord r = false → writable s.chip.alm.main = false → (eraseNext (mainPlaces
    s.chip) (victim s.chip r.severity) s.chip.alm.main).erasing = none → plainRing s.chip = false → r.severity ≠ 3 →
    Gives .recordWriteDone s [.green, .alm] fun c =>
      c.alm.lost = s.chip.alm.lost + 1 ∧ c.alm.main = s.chip.alm.main ∧ (rest = [] → c.alm.buffer = [] ∧ c.alm.lossFlag = true) ∧
      (rest ≠ [] → (c.alm.buffer.head?.any fun q => q.loss) = true)) ∧
  (∀ (s : State), s.chip.alm.held → s.chip.alm.buffer.length ≤ 1 →
    Gives .recordWriteDone s [.green, .alm] fun c =>
      c = s.chip) ∧
  (∀ (s : State) (p : Nat), s.chip.alm.main.erasing = some p →
    Gives .sectorEraseDone s [.alm] fun c =>
      p ∈ c.alm.main.ready ∧ c.alm.buffer = s.chip.alm.buffer) ∧
  (∀ (s : State) (p : Nat), s.chip.alm.main.erasing = none → s.chip.alm.reserve.erasing = some p →
    Gives .sectorEraseDone s [.alm] fun c =>
      p ∈ c.alm.reserve.ready ∧ c.alm.buffer = s.chip.alm.buffer) ∧
  (∀ (s : State) (p : Nat), clocked s.chip → recordReady s.chip = false → s.chip.alm.main.erasing = some p →
    Gives .flashProgramFail s [.watch, .alm] fun c =>
      c.alm.main.ready = s.chip.alm.main.ready ∧ c.watch = (raise 227 2 0 s.chip).watch ∧ c.alm.buffer = s.chip.alm.buffer) ∧
  (∀ (s : State), clocked s.chip → recordReady s.chip → goesToReserve s.chip = false →
    Gives .flashProgramFail s [.watch, .alm] fun c =>
      openSlots c.alm.main = 0 ∧ c.watch = (raise 227 1 0 s.chip).watch ∧ c.alm.buffer = s.chip.alm.buffer) ∧
  (∀ (s : State), heldLongEnough s.chip →
    Gives .heldRecordFlush s [.alm] fun c =>
      c.alm = { s.chip.alm with held := false }) ∧
  (∀ (s : State), live s.chip → s.chip.alm.checkpointAt + nat s.chip kAlmCheckpoint * 60000 ≤ nowMs s.chip →
    s.chip.alm.buffer.length ≤ 58 →
    Gives .almanacCheckpoint s [.alm] fun c =>
      c.alm.checkpointAt = nowMs s.chip ∧ ∃ r ∈ c.alm.buffer, r.kind = .checkpoint ∧ r.timeMs = nowMs s.chip ∧ r.severity = 0) ∧
  (∀ (s : State), s.chip.boot.phase = .flushing → s.chip.clock.resetAt + 5000 ≤ s.chip.clock.us →
    Gives .resetFlushEnd s [.alm, .boot, .nor] fun c =>
      c.boot = { s.chip.boot with phase := .step 2 } ∧ c.alm.main = s.chip.alm.main ∧ c.alm.reserve = s.chip.alm.reserve ∧
        c.alm.buffer = [] ∧
      c.nor.images = s.chip.nor.images ∧ c.nor.params = s.chip.nor.params) ∧
  (∀ (s : State), s.chip.boot.phase ≠ .flushing ∨ s.chip.clock.us < s.chip.clock.resetAt + 5000 →
    Gives .resetFlushEnd s [.alm, .boot, .nor] fun c =>
      c = s.chip)

/-- A STATE frame brings the link up and is kept as the partner's, with one event for a partner of the same role; a lost link
loses origin 5, makes a standby's mirror stale and records an event. STATE carries the next heartbeat while the Reeve runs. The
owner sends TRACK, MIRROR and the full mirror under the next sequence number; the standby keeps TRACK, queues each MIRROR, and
asks for RESYNC at a gap with one event. Rests on R401, R403, R413, R415, R417, R419. -/
def Obligations.TwinLinkCommands : Prop :=
  (∀ (s : State) (f : TwinFrame), f.fits → twinUp s.chip →
    Gives (.twinStateReceive f) s [.watch, .twin] fun c =>
      c.twin = { s.chip.twin with
      link := true, partner := some f, partnerSeq := f.almSequence,
      beatAt := if s.chip.twin.partner.map (·.heartbeat) = some f.heartbeat then s.chip.twin.beatAt else s.chip.clock.us } ∧
      c.watch = (if f.role = s.chip.twin.role.number ∧ (s.chip.twin.link = false ∨ (s.chip.twin.partner.map (·.role)) ≠ some
        f.role) then (raise 182 9 f.role s.chip).watch else s.chip.watch)) ∧
  (∀ (s : State), twinUp s.chip → s.chip.twin.link →
    Gives .twinLinkLost s [.hamlets, .market, .hampers, .can, .tw, .svc, .lane, .watch, .twin] fun c =>
      c.twin =
        { s.chip.twin with link := false, returnSince := none, ret := false, stale := s.chip.twin.stale || s.chip.twin.state == .standby }
        ∧
      c.watch = (raise 182 1 0 s.chip).watch ∧ (∀ h ∈ c.hampers.list, h.origin = .twin → h.state ≠ .opened ∧ h.state ≠ .joined)) ∧
  (∀ (s : State), twinUp s.chip → s.chip.twin.state ≠ .starting →
    Gives .twinStateSend s [.hamlets, .chans, .rms, .bus, .phases, .rails, .vcs, .strs, .batt, .pps, .wms, .seq, .market, .can,
      .tw, .svc, .lane, .watch, .twin, .nor, .fresh] fun c =>
      c.twin.state = s.chip.twin.state ∧ c.twin.heartbeat = s.chip.twin.heartbeat + (if reeveRuns s.chip then 1 else 0) ∧ ∃ h r t,
      c.twin.tx = s.chip.twin.tx ++ [.state s.chip.twin.role.number s.chip.twin.state.number h r t c.twin.heartbeat.toNat
        s.chip.clock.laneNs (s.chip.alm.next.getD 0)]) ∧
  (∀ (s : State), twinUp s.chip → s.chip.twin.state = .starting → live s.chip → s.chip.twin.ownIn →
    Gives .twinStateSend s [.hamlets, .chans, .rms, .bus, .phases, .rails, .vcs, .strs, .batt, .pps, .wms, .seq, .market, .can,
      .tw, .svc, .lane, .watch, .twin, .nor, .fresh] fun c =>
      c.twin.state = .standby ∧ c.twin.ownOut = false ∧ .resync ∈ c.twin.tx) ∧
  (∀ (s : State), twinUp s.chip → s.chip.twin.state = .starting → live s.chip → s.chip.twin.ownIn = false → s.chip.twin.role =
    .preferred → healthy s.chip →
    Gives .twinStateSend s [.hamlets, .chans, .rms, .bus, .phases, .rails, .vcs, .strs, .batt, .pps, .wms, .seq, .market, .can,
      .tw, .svc, .lane, .watch, .twin, .nor, .fresh] fun c =>
      c.twin.state = .owner ∧ c.twin.ownOut = true) ∧
  (∀ (s : State), twinUp s.chip → s.chip.twin.state = .owner →
    Gives .trackSend s [.twin] fun c =>
      c.twin = { s.chip.twin with
      tx := s.chip.twin.tx ++ [.track ((List.finRange 16).map (meanDuty s.chip)) ((List.finRange 8).map fun n =>
        s.chip.rms[n].trim) ((List.finRange 4).map fun n => s.chip.strs[n].cmd)] }) ∧
  (∀ (s : State) (f : TrackFrame), twinUp s.chip → s.chip.twin.state = .standby →
    Gives (.trackReceive f) s [.twin] fun c =>
      c.twin = { s.chip.twin with track := some f, mirrorAt := some s.chip.clock.us }) ∧
  (∀ (s : State), twinUp s.chip → s.chip.twin.state = .owner →
    Gives .mirrorSend s [.twin, .fresh] fun c =>
      c.twin = { s.chip.twin with
      mirrorSeqOut := s.chip.twin.mirrorSeqOut + 1, changed := [],
      tx := s.chip.twin.tx ++ [.mirror (s.chip.twin.mirrorSeqOut + 1) false ((s.chip.twin.changed).map (mirrorObject s.chip) ++
        mirrorStates s.chip)] }) ∧
  (∀ (s : State), twinUp s.chip → s.chip.twin.state = .owner →
    Gives .resyncReceive s [.twin, .fresh] fun c =>
      c.twin = { s.chip.twin with
      mirrorSeqOut := s.chip.twin.mirrorSeqOut + 1, changed := [],
      tx := s.chip.twin.tx ++ [.mirror (s.chip.twin.mirrorSeqOut + 1) true ((mirroredKeys).map (mirrorObject s.chip) ++
        mirrorStates s.chip)] }) ∧
  (∀ (s : State) (seq : BitVec 32) (full : Bool) (items : List MirrorItem), twinUp s.chip → s.chip.twin.state = .standby →
    (s.chip.twin.mirrorSeqIn.all fun x => seq == x + 1) →
    Gives (.mirrorReceive seq full items) s [.hampers, .twin] fun c =>
      c.hampers = { s.chip.hampers with queue := s.chip.hampers.queue ++ [.mirror seq full items] } ∧ c.twin =
        { s.chip.twin with mirrorSeqIn := some seq }) ∧
  (∀ (s : State) (seq : BitVec 32) (full : Bool) (items : List MirrorItem) (x : BitVec 32), twinUp s.chip → s.chip.twin.state =
    .standby → s.chip.twin.mirrorSeqIn = some x → seq ≠ x + 1 →
    Gives (.mirrorReceive seq full items) s [.hampers, .watch, .twin] fun c =>
      c.watch = (raise 182 6 seq.toNat s.chip).watch ∧
      c.hampers = { s.chip.hampers with queue := s.chip.hampers.queue ++ [.mirror seq full items] } ∧ c.twin =
        { s.chip.twin with mirrorSeqIn := some seq, tx := s.chip.twin.tx ++ [.resync] })

/-- An owner that sees OWN_IN rise yields with cause 9 and answers every request, but a PREFERRED one keeps the shelf on a
simultaneous rise. After a release, 2 µs of the rise make the unit a standby and 200 µs without it an owner again. A HEALTHY standby
claims when OWN_IN falls or the holder is stale, an ALTERNATE 250 ms after its start: its latches clear and every host origin is fenced;
one not HEALTHY withholds with an event. Rests on R405, R408, R409, R410, R411, R412, R414, R423. -/
def Obligations.TwinOwnershipCommands : Prop :=
  (∀ (s : State) (b : Bool), s.chip.twin.state = .owner → b = false ∨ s.chip.twin.role ≠ .preferred →
    Gives (.ownInRise b) s [.hamlets, .chans, .rms, .bus, .phases, .rails, .vcs, .strs, .batt, .pps, .wms, .seq, .market, .can,
      .tw, .svc, .lane, .watch, .twin, .nor, .fresh] fun c =>
      c.twin.state = .standby ∧ c.twin.ownOut = false ∧ c.twin.ready = false ∧ .resync ∈ c.twin.tx ∧ c.twin.ownIn = true ∧
        c.twin.lastCause = 9 ∧ c.twin.yieldAt = some s.chip.clock.us ∧ c.market.reqs = []) ∧
  (∀ (s : State), s.chip.twin.state = .owner → s.chip.twin.role = .preferred →
    Gives (.ownInRise true) s [.hamlets, .chans, .rms, .bus, .phases, .rails, .vcs, .strs, .batt, .pps, .wms, .seq, .market, .can,
      .tw, .svc, .lane, .watch, .twin, .nor, .fresh] fun c =>
      c = { s.chip with twin := { s.chip.twin with ownIn := true, ownInAt := some s.chip.clock.us } }) ∧
  (∀ (s : State) (b : Bool), s.chip.twin.state = .single ∨ s.chip.twin.state = .releasing ∨ s.chip.twin.state = .standby →
    Gives (.ownInRise b) s [.hamlets, .chans, .rms, .bus, .phases, .rails, .vcs, .strs, .batt, .pps, .wms, .seq, .market, .can,
      .tw, .svc, .lane, .watch, .twin, .nor, .fresh] fun c =>
      c = { s.chip with twin := { s.chip.twin with ownIn := true, ownInAt := some s.chip.clock.us } }) ∧
  (∀ (s : State), s.chip.twin.ownIn → within s.chip 2 s.chip.twin.ownInAt = false → s.chip.twin.state = .releasing → live s.chip →
    Gives .releaseHoldEnd s [.rms, .phases, .pps, .twin] fun c =>
      c.twin.state = .standby ∧ c.twin.ownOut = false ∧ c.twin.ready = false ∧ .resync ∈ c.twin.tx ∧ c.twin.holding = false ∧
        c.phases = s.chip.phases) ∧
  (∀ (s : State), s.chip.twin.ownIn = false →
    Gives .releaseHoldEnd s [.rms, .phases, .pps, .twin] fun c =>
      c = s.chip) ∧
  (∀ (s : State), s.chip.twin.ownIn = false → within s.chip 200 s.chip.twin.releasedAt = false → s.chip.twin.state = .releasing → live s.chip →
    Gives .releaseTimeout s [.rms, .phases, .pps, .watch, .twin] fun c =>
      c.twin = { s.chip.twin with state := .owner, ownOut := true, holding := false } ∧ c.watch = (raise 182 5 0 s.chip).watch) ∧
  (∀ (s : State), s.chip.twin.ownIn = false → within s.chip 200 s.chip.twin.releasedAt = false → s.chip.twin.state = .starting → s.chip.twin.holding →
    Gives .releaseTimeout s [.rms, .phases, .pps, .watch, .twin] fun c =>
      c.twin = { s.chip.twin with holding := false } ∧ (∀ p : Fin 32, c.phases[p] = {}) ∧ (∀ n : Fin 8, c.rms[n].trim = 0x8000)) ∧
  (∀ (s : State) (g : Nat), g < 4294967296 → s.chip.twin.state = .standby → live s.chip → healthy s.chip →
    Gives (.ownInFall g) s [.hamlets, .chans, .rms, .bus, .phases, .rails, .vcs, .strs, .batt, .pps, .wms, .seq, .market, .can,
      .tw, .svc, .lane, .watch, .twin, .nor, .fresh] fun c =>
      c.twin.state = .owner ∧ c.twin.ownOut = true ∧ c.twin.takeovers = satSucc 65535 s.chip.twin.takeovers ∧
      (∀ p : Fin 32, c.phases[p].kill = false) ∧ (∀ o ∈ allOrigins, hostOrigin o → o ∈ c.market.originFences) ∧
      (s.chip.seq.entry = none → ∀ r : Fin 16, c.rails[r].state = s.chip.rails[r].state) ∧ c.twin.ownIn = false ∧ c.twin.lastGap =
        g) ∧
  (∀ (s : State) (g : Nat), g < 4294967296 → s.chip.twin.state = .standby → live s.chip → healthy s.chip = false →
    Gives (.ownInFall g) s [.hamlets, .chans, .rms, .bus, .phases, .rails, .vcs, .strs, .batt, .pps, .wms, .seq, .market, .can,
      .tw, .svc, .lane, .watch, .twin, .nor, .fresh] fun c =>
      c = { s.chip with twin := { s.chip.twin with ownIn := false }, watch := (raise 182 8 0 s.chip).watch }) ∧
  (∀ (s : State) (g : Nat), g < 4294967296 → s.chip.twin.state ≠ .standby →
    Gives (.ownInFall g) s [.hamlets, .chans, .rms, .bus, .phases, .rails, .vcs, .strs, .batt, .pps, .wms, .seq, .market, .can,
      .tw, .svc, .lane, .watch, .twin, .nor, .fresh] fun c =>
      c = { s.chip with twin := { s.chip.twin with ownIn := false } }) ∧
  (∀ (s : State), s.chip.twin.state = .standby → live s.chip → s.chip.twin.link → s.chip.twin.ownIn → healthy s.chip →
    s.chip.twin.beatAt + nat s.chip kTwinHbTimeout * 1000 ≤ s.chip.clock.us →
    Gives .staleHolderClaim s [.hamlets, .chans, .rms, .bus, .phases, .rails, .vcs, .strs, .batt, .pps, .wms, .seq, .market, .can,
      .tw, .svc, .lane, .watch, .twin, .nor, .fresh] fun c =>
      c.twin.state = .owner ∧ c.twin.ownOut = true ∧ c.twin.takeovers = satSucc 65535 s.chip.twin.takeovers ∧
      (∀ p : Fin 32, c.phases[p].kill = false) ∧ (∀ o ∈ allOrigins, hostOrigin o → o ∈ c.market.originFences) ∧
      (s.chip.seq.entry = none → ∀ r : Fin 16, c.rails[r].state = s.chip.rails[r].state) ∧ (raise 182 2 0 s.chip).watch.arrived
        <+: c.watch.arrived) ∧
  (∀ (s : State), s.chip.twin.state = .starting → s.chip.twin.role = .alternate → live s.chip → s.chip.twin.ownIn = false →
    healthy s.chip → s.chip.boot.completedAt + 250000 ≤ s.chip.clock.us →
    Gives .alternateStartClaim s [.hamlets, .chans, .rms, .bus, .phases, .rails, .vcs, .strs, .batt, .pps, .wms, .seq, .market,
      .can, .tw, .svc, .lane, .watch, .twin, .nor, .fresh] fun c =>
      c.twin.state = .owner ∧ c.twin.ownOut = true ∧ c.twin.takeovers = satSucc 65535 s.chip.twin.takeovers ∧
      (∀ p : Fin 32, c.phases[p].kill = false) ∧ (∀ o ∈ allOrigins, hostOrigin o → o ∈ c.market.originFences) ∧
      (s.chip.seq.entry = none → ∀ r : Fin 16, c.rails[r].state = s.chip.rails[r].state)) ∧
  (∀ (s : State) (f : TwinFrame), s.chip.twin.state = .standby → s.chip.twin.role = .preferred → live s.chip → flag s.chip
    kTwinAutoReturn → s.chip.twin.link → healthy s.chip → s.chip.twin.ready → s.chip.twin.partner = some f → f.role ≠
    s.chip.twin.role.number → holdoffOver s.chip →
    Gives .returnHoldoffEnd s [.twin] fun c =>
      c.twin = { s.chip.twin with ret := true }) ∧
  (∀ (s : State), s.chip.twin.state ≠ .standby →
    Gives .returnHoldoffEnd s [.twin] fun c =>
      c = s.chip)

/-- Power-on reset keeps the fuses (but for one that an accepted transition was blowing, log 92), the images, the parameter sets and the written records, and loses the counters, the numbers
and the levels of BSn_SW and RMn_EN. Its release reads the straps. RST# starts a chip reset with cause EXTERNAL, which keeps the
power-cycle counter, fuses and those levels, opens with the flush, and makes every phase pin low unless the ownership hold runs
or the test port has the pins. The wipe ends at step 4, where the boot waits while RST#
is low; the rise of RST# lets it go on. Rests on R308, R401, R426, R427, R428, R429, R430, R431. -/
def Obligations.ResetCommands : Prop :=
  (∀ (s : State),
    ∃ c, exec .powerOnReset s = .next { s with chip := c } ∧
      c.boot = { rstLow := s.chip.boot.rstLow } ∧ (c.fuses = s.chip.fuses ∨ ∃ dest, s.chip.lc.accepted = some dest ∧ c.fuses =
        blow s.chip dest) ∧ c.nor.images = s.chip.nor.images ∧ c.nor.params =
        s.chip.nor.params ∧
      c.alm.main = s.chip.alm.main ∧ c.alm.reserve = s.chip.alm.reserve ∧ c.alm.buffer = [] ∧ c.od = [] ∧ c.clock = {} ∧
      (∀ n : Fin 8, c.rms[n].en = false) ∧ (∀ n : Fin 4, c.strs[n].sw = false)) ∧
  (∀ (s : State) (x : Straps), s.chip.boot.phase = .porAsserted →
    Gives (.powerOnRelease x) s [.tw, .twin, .boot] fun c =>
      c.boot = { s.chip.boot with phase := .step 0 } ∧ c.twin.role = strapRole x.twinSel ∧
      c.tw.strapCode = strapNumber x.addrSel0 + 3 * strapNumber x.addrSel1 + 9 * strapNumber x.addrSel2 ∧ c.twin.ownOut =
        s.chip.twin.ownOut) ∧
  (∀ (s : State), resettable s.chip →
    ∃ c, exec .rstAssert s = .next { s with chip := c } ∧
      c.boot.phase = .flushing ∧ c.boot.rstLow = true ∧ c.fuses = s.chip.fuses ∧ c.clock.powerCycles = s.chip.clock.powerCycles ∧
        c.clock.us = s.chip.clock.us ∧
      c.nor.images = s.chip.nor.images ∧ c.nor.params = s.chip.nor.params ∧ c.od = [] ∧ c.boot.cause = .external ∧
      (∀ n : Fin 8, c.rms[n].en = s.chip.rms[n].en) ∧ (∀ n : Fin 4, c.strs[n].sw = s.chip.strs[n].sw) ∧
      (testInstruction s.chip = .bypass → c.twin.holding = false → ∀ p : Fin 32,
        pinLevel c (.pwmh p) = .low ∧ pinLevel c (.pwml p) = .low ∧ pinLevel c (.drven p) = .low)) ∧
  (∀ (s : State), s.chip.boot.phase = .rstHeld →
    Gives .rstRelease s [.boot] fun c =>
      c.boot = { s.chip.boot with rstLow := false, phase := .step 3 }) ∧
  (∀ (s : State), s.chip.boot.phase ≠ .rstHeld →
    Gives .rstRelease s [.boot] fun c =>
      c.boot = { s.chip.boot with rstLow := false }) ∧
  (∀ (s : State), s.chip.boot.phase = .step 2 →
    Gives .bootWipeComplete s [.alm, .boot, .nor] fun c =>
      c.boot = { s.chip.boot with phase := if s.chip.boot.rstLow then .rstHeld else .step 3 } ∧ c.alm.main = s.chip.alm.main ∧
        c.alm.reserve = s.chip.alm.reserve) ∧
  (∀ (s : State), s.chip.boot.phase = .flushing → s.chip.alm.buffer = [] →
    Gives .bootWipeComplete s [.alm, .boot, .nor] fun c =>
      c.boot = { s.chip.boot with phase := if s.chip.boot.rstLow then .rstHeld else .step 3 } ∧ c.alm.main = s.chip.alm.main ∧
        c.alm.reserve = s.chip.alm.reserve)

/-- WATCH and ALMANAC start with the regulators, every clock at reference lock, and the NOR is discovered with its size or ROM
recovery entered. The image slot of the higher generation is checked first and the other if it fails; the Reeve starts and
numbers records; the set chosen is named in force with its generation, or the objects stay; millwork loading leads to step 11;
and boot ends with Ulvia running, the trims of the fitted ports driven and CAN Pre-operational. Rests on R430, R432, R434, R436, R437, R441. -/
def Obligations.BootCommands : Prop :=
  (∀ (s : State), atStep s.chip 0 →
    Gives .bootRegulatorsReady s [.hamlets, .boot] fun c =>
      c.boot = { s.chip.boot with phase := .step 2 } ∧ c.hamlets[(0 : Fin 27)].run = true ∧ c.hamlets[(1 : Fin 27)].run = true) ∧
  (∀ (s : State), atStep s.chip 0 = false →
    Gives .bootRegulatorsReady s [.hamlets, .boot] fun c =>
      c = s.chip) ∧
  (∀ (s : State), atStep s.chip 3 →
    Gives .bootReferenceLocked s [.clock, .hamlets, .boot] fun c =>
      c.boot = { s.chip.boot with phase := .step 4 } ∧ (∀ h : Fin 27, c.hamlets[h].run = true) ∧ c.clock =
        { s.chip.clock with almFallback := false, refLost := false }) ∧
  (∀ (s : State) (p : NorPart) (recov : Bool), p.fits → atStep s.chip 4 → 16 ≤ p.sizeMiB → lifeCycle s.chip ≠ .retired → recov =
    false → (directoryInUse s.chip.nor).isSome →
    Gives (.bootNorDiscovered (some p) recov) s [.clock, .watch, .alm, .boot, .nor] fun c =>
      c.boot = { s.chip.boot with phase := .step 5 } ∧ c.nor =
        { s.chip.nor with size := p.sizeMiB, ioMode := p.ioMode, clock := p.clock }) ∧
  (∀ (s : State) (p : NorPart) (recov : Bool), p.fits → atStep s.chip 4 → 16 ≤ p.sizeMiB → lifeCycle s.chip = .retired ∧
    s.chip.nor.eraseDue = false ∨ lifeCycle s.chip ≠ .retired ∧ (recov = true ∨ directoryInUse s.chip.nor = none) →
    Gives (.bootNorDiscovered (some p) recov) s [.clock, .watch, .alm, .boot, .nor] fun c =>
      c.boot = { s.chip.boot with phase := .recovery } ∧ c.nor =
        { s.chip.nor with size := p.sizeMiB, ioMode := p.ioMode, clock := p.clock } ∧ c.reeve = s.chip.reeve) ∧
  (∀ (s : State) (p : NorPart) (recov : Bool), p.fits → atStep s.chip 4 → 16 ≤ p.sizeMiB → lifeCycle s.chip = .retired →
    s.chip.nor.eraseDue →
    Gives (.bootNorDiscovered (some p) recov) s [.clock, .watch, .alm, .boot, .nor] fun c =>
      c.boot = { s.chip.boot with phase := .recovery } ∧ c.nor = { size := p.sizeMiB, ioMode := p.ioMode, clock := p.clock }) ∧
  (∀ (s : State) (recov : Bool), atStep s.chip 4 → s.chip.watch.safe = false →
    Gives (.bootNorDiscovered none recov) s [.clock, .watch, .alm, .boot, .nor] fun c =>
      c.boot = { s.chip.boot with phase := .recovery } ∧ { src := 227, code := 3, value := 0 } ∈ c.watch.arrived) ∧
  (∀ (s : State) (b : Bool) (k : Fin 2), k = (if b then 1 else 0) → atStep s.chip 5 ∧ k = firstSlot s.chip ∨ atStep s.chip 6 ∧ k ≠
    firstSlot s.chip → s.chip.nor.images[k].check s.chip.fuses.keyHash = .valid →
    Gives (.bootImageChecked b) s [.clock, .watch, .alm, .boot] fun c =>
      c.boot = { s.chip.boot with
      phase := .step 7, slot := k, status := s.chip.boot.status.set k .valid,
      gens := s.chip.boot.gens.set k s.chip.nor.images[k].generation }) ∧
  (∀ (s : State) (b : Bool) (k : Fin 2) (st : ImageStatus), k = (if b then 1 else 0) → st = s.chip.nor.images[k].check
    s.chip.fuses.keyHash → st ≠ .valid → atStep s.chip 5 → k = firstSlot s.chip →
    Gives (.bootImageChecked b) s [.clock, .watch, .alm, .boot] fun c =>
      c.boot = { s.chip.boot with phase := .step 6, status := s.chip.boot.status.set k st, firstFailed := some (k, st) }) ∧
  (∀ (s : State) (b : Bool) (k : Fin 2), k = (if b then 1 else 0) → s.chip.nor.images[k].check s.chip.fuses.keyHash ≠ .valid →
    atStep s.chip 6 → k ≠ firstSlot s.chip →
    Gives (.bootImageChecked b) s [.clock, .watch, .alm, .boot] fun c =>
      c.boot.phase = .recovery ∧ c.reeve = s.chip.reeve) ∧
  (∀ (s : State), atStep s.chip 7 →
    Gives .bootReeveStart s [.clock, .watch, .reeve, .alm, .boot] fun c =>
      c.boot = { s.chip.boot with phase := .step 8 } ∧ c.reeve = { s.chip.reeve with halted := false } ∧ c.alm.next.isSome) ∧
  (∀ (s : State) (l : List Bool) (k : Fin 2), l.length = 4 → atStep s.chip 8 → setToLoad s.chip = some k →
    Gives (.bootParameterLoad l) s [.bus, .strs, .ests, .batt, .lane, .watch, .alm, .boot, .nor, .od, .fresh] fun c =>
      c.boot.phase = .step 9 ∧ c.boot.setInForce = some k ∧ c.boot.generation = s.chip.nor.params[k].generation ∧
      s.chip.nor.params[k].committed = true ∧ c.lane.nodeIdNow = nat c
        kLaneNodeId ∧
      c.bus.tapsJudged = true ∧ (∀ n : Fin 4, c.strs[n].closed = l.getD n.val false)) ∧
  (∀ (s : State) (l : List Bool), l.length = 4 → atStep s.chip 8 → setToLoad s.chip = none →
    Gives (.bootParameterLoad l) s [.bus, .strs, .ests, .batt, .lane, .watch, .alm, .boot, .nor, .od, .fresh] fun c =>
      c.boot = { s.chip.boot with phase := .step 9 } ∧ c.od = s.chip.od ∧ c.lane.nodeIdNow = nat s.chip kLaneNodeId ∧
        c.bus.tapsJudged = true ∧
      (∀ n : Fin 4, c.strs[n].closed = l.getD n.val false)) ∧
  (∀ (s : State), atStep s.chip 9 →
    Gives .bootMillworkLoaded s [.rms, .bus, .well, .phases, .rails, .strs, .batt, .mills, .boot] fun c =>
      c.boot = { s.chip.boot with phase := .step 10 } ∧
      ∀ m : Fin 16, c.mills[m].state = if nat s.chip (kMillSource m) = 0 then .idle else .ready) ∧
  (∀ (s : State), atStep s.chip 10 → s.chip.seq.entry = none →
    Gives .bootComplete s [.clock, .hamlets, .green, .chans, .rms, .bus, .phases, .rails, .vcs, .strs, .ests, .batt, .pps, .wms, .seq,
      .mills, .market, .hampers, .can, .tw, .svc, .lane, .watch, .reeve, .alm, .twin, .boot, .nor, .od, .fresh] fun c =>
      c.boot = { s.chip.boot with
        phase := .running, bootTime := s.chip.boot.timer, completedAt := s.chip.clock.us } ∧ c.reeve = { s.chip.reeve with watchdog := false } ∧
        c.can.nmt = .preOperational ∧
      c.batt.wdRunning = true ∧ c.batt.wdStart = nowMs s.chip ∧ (∀ n : Fin 8, c.rms[n].trimDriven = flag s.chip (kRmFitted n)) ∧
      (s.chip.twin.state = .starting → s.chip.twin.ownIn → s.chip.watch.safe = false → c.twin.state = .standby))

/-- While a store runs, its completion writes the marker of the set, makes ParamStoreState DONE and logs 64h with the
generation; a supply failure leaves the set as it is, makes the state FAILED and records one event. With no store running
neither does anything. Rests on R442, R443. -/
def Obligations.ParamStoreCommands : Prop :=
  (∀ (s : State) (r : ParamRegion), live s.chip → s.chip.boot.store = .running → r = s.chip.nor.params[storeSlot s.chip] →
    Gives .paramStoreDone s [.alm, .boot, .nor] fun c =>
      c.boot = { s.chip.boot with store := .done } ∧ c.nor = { s.chip.nor with
      params := s.chip.nor.params.set (storeSlot s.chip) { r with marker := paramMarker r.header r.body } } ∧
      c.alm = (log 0x64 242 0 (r.generation : Int) [] s.chip).alm) ∧
  (∀ (s : State), live s.chip → s.chip.boot.store = .running → supplyLow s.chip →
    Gives .paramStoreFail s [.watch, .boot] fun c =>
      c.boot = { s.chip.boot with store := .failed } ∧ c.watch = (raise 242 1 0 s.chip).watch) ∧
  (∀ (s : State), s.chip.boot.store ≠ .running →
    Gives .paramStoreDone s [] fun c => c = s.chip) ∧
  (∀ (s : State), s.chip.boot.store ≠ .running ∨ supplyLow s.chip = false →
    Gives .paramStoreFail s [] fun c => c = s.chip)

/-- A step with a command at the front of the queue is that command's effect, on the chip and the queue's rest. -/
def Obligations.StepRunsFrontCommand : Prop :=
  ∀ (i : Instr) (rest : List Instr) (c : Chip),
    step { chip := c, pending := i :: rest } = exec i { chip := c, pending := rest }

/-- Every command of the table answers a next state with the rest of the queue as it was: none stops and none is refused. One whose
operands no port can carry leaves the chip as it is. None reaches the test port: under HIGHZ every digital pin stays undriven
whatever is commanded. That a command no port can carry changes nothing is the model's choice (log entry 148). Rests on R455. -/
def Obligations.EveryCommandCompletes : Prop :=
  ∀ (i : Instr) (s : State), ∃ c, exec i s = .next { s with chip := c } ∧ (i.wellFormed = false → c = s.chip) ∧
    c.test = s.chip.test ∧ (testInstruction s.chip = .highz → ∀ p : Pin, pinLevel c p = .undriven)

/-- At reset power-on reset is asserted, no command waits, every object has its default, no output is driven, OWN_OUT is low, the
Reeve is halted, and the market, the hampers and the Almanac's buffer are empty. That the fuses of the model stand at DEPLOYED
is the model's choice (log entry 6). Rests on R426, R428, R429. -/
def Obligations.StateAtReset : Prop :=
  State.reset.pending = [] ∧
  (let c := State.reset.chip
   c.boot.phase = .porAsserted ∧ c.boot.cause = .powerOn ∧ c.od = [] ∧ c.reeve.halted = true ∧ lifeCycle c = .deployed ∧
   (∀ p : Fin 32, c.phases[p].drven = false ∧ c.phases[p].duty = 0) ∧ (∀ r : Fin 16, c.rails[r].state = .off) ∧
   (∀ n : Fin 8, c.pps[n].state = .off ∧ c.rms[n].en = false ∧ c.rms[n].trimDriven = false) ∧
   (∀ n : Fin 4, c.strs[n].sw = false) ∧ c.twin.ownOut = false ∧ c.seq.pgOut = Vector.replicate 8 false ∧
   c.market.reqs = [] ∧ c.hampers.list = [] ∧ c.alm.buffer = [] ∧ c.can.nmt = .initialising ∧ c.lane.state = .off ∧
   c.watch.safe = false ∧ ∀ i : Fin 256, c.watch.srcs[i].state = .clear)

/-- In a list of objects with rising keys, putting a value of an object in force makes that object read as the value, and leaves
every other object's value as it was. Rests on R251, R253. -/
def Obligations.SettingReadsBack : Prop :=
  ∀ (c : Chip) (k : Key) (v : Val), odSorted c.od →
    cfg (put k v c) k = v ∧ (∀ q, q ≠ k → cfg (put k v c) q = cfg c q)

/-- From every state whose list of objects has rising keys, a step that answers a next state leaves the keys rising, so that equal
settings are equal lists. Rests on R251, R253. -/
def Obligations.ObjectsStayInOrder : Prop :=
  ∀ (s t : State), odSorted s.chip.od → step s = .next t → odSorted t.chip.od

/-- A step leaves every fuse as it is unless a transition was accepted and it runs its completion, or the power-on reset that cuts
the transition off, where a free value says whether the fuse was blown (log 92). In every step P, D and X stay set, the service
fuses blown grow by one at most, and the serial, the grade and the key hash stay. Rests on R445, R448. -/
def Obligations.FusesOnlyGrow : Prop :=
  ∀ (s t : State), step s = .next t →
    (s.chip.lc.accepted = none ∨ (∀ rest, s.pending ≠ .lifecycleEraseComplete :: rest ∧ s.pending ≠ .powerOnReset :: rest) →
      t.chip.fuses = s.chip.fuses) ∧
    (s.chip.fuses.p → t.chip.fuses.p) ∧ (s.chip.fuses.d → t.chip.fuses.d) ∧ (s.chip.fuses.x → t.chip.fuses.x) ∧
    s.chip.fuses.service ≤ t.chip.fuses.service ∧ t.chip.fuses.service ≤ s.chip.fuses.service + 1 ∧
    t.chip.fuses.serial = s.chip.fuses.serial ∧ t.chip.fuses.grade = s.chip.fuses.grade ∧
    t.chip.fuses.keyHash = s.chip.fuses.keyHash

/-- From every state in which nothing is blown before P, no service fuse before D and no more than the 64 there are, and an
accepted transition is one of Table 14.11, a step that answers a next state leads to such a state. Rests on R445, R446, R448. -/
def Obligations.LifeCycleInvariantKept : Prop :=
  ∀ (s t : State), lifeCycleInv s.chip → step s = .next t → lifeCycleInv t.chip

/-- At reset the life-cycle fuses are a history that Table 14.11 can make, and the list of objects in force has rising keys. The
fuses at reset are the model's choice (log entry 6). Rests on R445. -/
def Obligations.InvariantsAtReset : Prop :=
  lifeCycleInv State.reset.chip ∧ odSorted State.reset.chip.od

/-- Where the Watch runs, a green lock that a resettable hamlet has held for GreenLockLimit is revoked: the hamlet is in block
reset, and exactly one more event of source 229 waits at the Watch. R365. -/
def Obligations.GreenLockRevoked : Prop :=
  ∀ (s : State) (h : Fin 27), watchRuns s.chip → resettableHamlet h → mayHoldLock h s.chip →
    Gives (.greenLockRevoke h) s
      [.hamlets, .green, .phases, .rails, .vcs, .batt, .mills, .market, .hampers, .can, .tw, .svc, .update, .lane, .watch, .alm,
       .twin, .nor] fun c =>
      c.hamlets[h].blkrst = true ∧ c.green.greenLock = none ∧ eventsOf 229 c = eventsOf 229 s.chip + 1

/-- A write that passes its checks and stays within both limits is staged: at the place of an earlier write to its object, which
it replaces without a new place, or else at the end. A write beyond either limit is refused with HAMPER-FULL, stages nothing,
and spoils a hamper not yet spoiled. R272. -/
def Obligations.StagedWritesAreLimited : Prop :=
  ∀ (c : Chip) (o : Origin) (k : Key) (b : List Byte) (v : Val) (h : Hamper),
    stagingHamper c o = some h → hamperOf c h.handle = some h → writeCheck c o k true = .ok → valueCheck k b = (.ok, v) →
    (let r := stageWrite o k b c
     let w := stageIn h.writes k v
     let bytes := ((c.hampers.list.map fun x => domainBytes (if x.handle = h.handle then w else x.writes)).foldl (· + ·) 0)
     (w.map (·.1) = if k ∈ h.writes.map (·.1) then h.writes.map (·.1) else h.writes.map (·.1) ++ [k]) ∧
     (k, v) ∈ w ∧ (∀ e ∈ h.writes, e.1 ≠ k → e ∈ w) ∧
     (w.length ≤ 256 → bytes ≤ 131072 →
      r.1 = .ok ∧ hamperOf r.2 h.handle = some { h with writes := w }) ∧
     (256 < w.length ∨ 131072 < bytes →
      r.1 = .hamperFull ∧ ∃ p, hamperOf r.2 h.handle = some { h with spoiled := some (h.spoiled.getD (.hamperFull, p)) }))

/-- On a running node with the link up, a frame whose HCHK or CRC-32 fails, that has a reserved field set, or that is longer than
its class allows is not delivered, teaches the node nothing of its sender, and adds one to LaneCrcErrors of the receiving port;
any other frame adds nothing. R333. -/
def Obligations.LaneReceiverDiscards : Prop :=
  ∀ (s : State) (p : LanePort) (f : LaneFrame), f.payload.length < 512 → laneRuns s.chip → (laneLink s.chip p).up →
    Gives (.laneFrameReceive p f) s [.lane] fun c =>
      if f.hchk ≠ hchkOf f ∨ f.crc ≠ crcOf f ∨ f.reservedSet ∨ classLimit f.cls.toNat < f.payload.length then
        c.lane.delivered = s.chip.lane.delivered ∧ c.lane.nodes = s.chip.lane.nodes ∧
        (laneLink c p).crcErrors = (laneLink s.chip p).crcErrors + 1
      else (laneLink c p).crcErrors = (laneLink s.chip p).crcErrors

/-- Where no transition was accepted and a TRANSITION leaves RETIRED accepted, the export was RECEIPTED and no record of WARN or
above had been accepted since it started: an export starts with that mark clear, and while an export exists every record of WARN
or above that finds a place sets it, whatever the record. R447. -/
def Obligations.RetirementNeedsReceipt : Prop :=
  (∀ (s t : State) (tag : BitVec 16) (x : LcTransition), s.chip.lc.accepted = none →
    exec (.lifecycleTransition tag x) s = .next t → t.chip.lc.accepted = some .retired →
    s.chip.alm.frozen.state = .receipted ∧ s.chip.alm.frozen.severe = false) ∧
  (∀ c : Chip, (exportFreeze c).alm.frozen.state = .ready ∧ (exportFreeze c).alm.frozen.severe = false) ∧
  (∀ (c : Chip) (r : Record), c.alm.frozen.state ≠ .none → (accept r c).alm.buffer ≠ c.alm.buffer →
    (accept r c).alm.frozen.state = c.alm.frozen.state ∧
    (accept r c).alm.frozen.severe = (c.alm.frozen.severe || decide (1 ≤ r.severity.val)))

/-- The run limit of a running READY mill stops it with RUNLIMIT set. A slot of a READY mill that stays pending for 10 ms sets
HBLOST, and exactly one more event of source 156 + m waits at the Watch. HBLOST is clear after END of a custom run and after
every stock run. R228. -/
def Obligations.MillLimits : Prop :=
  (∀ (s : State) (m : Fin 16), live s.chip → s.chip.mills[m].state = .ready → s.chip.mills[m].running.isSome →
    Gives (.runLimit m) s [.hamlets, .phases, .rails, .vcs, .mills, .market, .can, .tw, .svc, .lane, .watch, .twin] fun c =>
      c.mills[m].state = .stopped ∧ c.mills[m].stat.runLimit = true) ∧
  (∀ (s : State) (m : Fin 16) (k : Fin 4), live s.chip → s.chip.mills[m].state = .ready → s.chip.mills[m].slots[k] →
    Gives (.millHeartbeatLost m k) s [.hamlets, .mills, .market, .can, .tw, .svc, .lane, .watch, .twin] fun c =>
      c.mills[m].stat.hbLost = true ∧ eventsOf (Fin.ofNat 256 (156 + m)) c = eventsOf (Fin.ofNat 256 (156 + m)) s.chip + 1) ∧
  (∀ (s : State) (m : Fin 16), millAt s.chip m (fmtR 0x01 0 0 0 0 0 0) → s.chip.mills[m].reads = [] →
    Gives (.end_ m) s [.mills, .fresh] fun c => c.mills[m].running = none ∧ c.mills[m].stat.hbLost = false) ∧
  ∀ (c : Chip) (u : Unit4) (law : Chip → Chip),
    (stockRun u law c).mills[u.mill].running = none ∧ (stockRun u law c).mills[u.mill].stat.hbLost = false

/-- A write of 32 bytes to AlmExportReceipt that reaches its target while an export is READY completes with OK, makes the export
RECEIPTED and accepts record 50h where the bytes are the stream's SHA-256 digest, and completes with CONSISTENCY, the export as
it was, where they are not. R399. -/
def Obligations.ExportReceiptTaken : Prop :=
  ∀ (s : State) (o : Origin) (b : List Byte), b.length = 32 → reaches o kAlmExportReceipt true s.chip →
    s.chip.alm.frozen.state = .ready →
    ∃ c, exec (.exportReceipt o b) s = .next { s with chip := c } ∧
      if b = (sha256 (exportBody s.chip)).toList then
        writeDone o kAlmExportReceipt s.chip c ∧ c.alm.frozen.state = .receipted ∧
        (s.chip.alm.buffer.length ≤ 58 → ∃ r ∈ c.alm.buffer, r.kind = .log ∧ r.code = 0x50)
      else
        c.market.done.getLast? = some
          { id := s.chip.market.nextId, origin := o, k := kAlmExportReceipt, write := true, status := .consistency } ∧
        c.alm = s.chip.alm
end

