-- ==== Sys2Proof/Laws/Frames.lean ====
section
/-! SUPPORT. What each operation leaves alone: one lemma for each, over all the parts of the chip that it never
    changes. -/

namespace Sys2Proof.Machine

/-- A change made for each member of a list leaves what each change leaves. -/
@[simp] theorem each_part {α : Type} (p : Part) (l : List α) (f : α → Chip → Chip) (c : Chip)
    (h : ∀ a c, part p (f a c) = part p c) : part p (each l f c) = part p c := by
  unfold each
  induction l generalizing c with
  | nil => rfl
  | cons a l ih => simp [ih, h]

/-- A change made if a condition holds leaves what the change leaves. -/
@[simp] theorem when_part (p : Part) (b : Bool) (f : Chip → Chip) (c : Chip)
    (h : ∀ c, part p (f c) = part p c) : part p (when b f c) = part p c := by
  unfold when; split <;> simp [h]

/-- Both branches of a choice leave a part. -/
theorem part_ite {q : Part} {p : Prop} [Decidable p] {a b : Chip} {f : q.Value} (ha : part q a = f) (hb : part q b =
    f) :
    part q (if p then a else b) = f := by
  split <;> assumption

/-- What both branches have, the choice has. -/
theorem ite_mem {P : Status × Chip → Prop} {p : Prop} [Decidable p] {a b : Option (Status × Chip)}
    (ha : ∀ r, a = some r → P r) (hb : ∀ r, b = some r → P r) (r : Status × Chip)
    (h : (if p then a else b) = some r) : P r := by
  by_cases hp : p
  · rw [if_pos hp] at h; exact ha r h
  · rw [if_neg hp] at h; exact hb r h

@[simp] theorem put_part (pt : Part) (h0 : pt ≠ .od) (k : Key) (v : Val) (c : Chip) :
    part pt (put k v c) = part pt c := by
  unfold put
  repeat' split
  all_goals (cases pt <;> first | rfl | contradiction)

@[simp] theorem setChan_part (pt : Part) (h0 : pt ≠ .chans) (i : Fin 256) (f : Chan → Chan) (c : Chip) :
    part pt (setChan i f c) = part pt c := by
  unfold setChan
  cases pt <;> first | rfl | contradiction

@[simp] theorem setHamlet_part (pt : Part) (h0 : pt ≠ .hamlets) (i : Fin 27) (f : Hamlet → Hamlet) (c : Chip) :
    part pt (setHamlet i f c) = part pt c := by
  unfold setHamlet
  cases pt <;> first | rfl | contradiction

@[simp] theorem setGreen_part (pt : Part) (h0 : pt ≠ .green) (f : Green → Green) (c : Chip) :
    part pt (setGreen f c) = part pt c := by
  unfold setGreen
  cases pt <;> first | rfl | contradiction

@[simp] theorem setRm_part (pt : Part) (h0 : pt ≠ .rms) (i : Fin 8) (f : Rm → Rm) (c : Chip) :
    part pt (setRm i f c) = part pt c := by
  unfold setRm
  cases pt <;> first | rfl | contradiction

@[simp] theorem setPhase_part (pt : Part) (h0 : pt ≠ .phases) (i : Fin 32) (f : Phase → Phase) (c : Chip) :
    part pt (setPhase i f c) = part pt c := by
  unfold setPhase
  cases pt <;> first | rfl | contradiction

@[simp] theorem setRail_part (pt : Part) (h0 : pt ≠ .rails) (i : Fin 16) (f : Rail → Rail) (c : Chip) :
    part pt (setRail i f c) = part pt c := by
  unfold setRail
  cases pt <;> first | rfl | contradiction

@[simp] theorem setVc_part (pt : Part) (h0 : pt ≠ .vcs) (i : Fin 4) (f : Vc → Vc) (c : Chip) :
    part pt (setVc i f c) = part pt c := by
  unfold setVc
  cases pt <;> first | rfl | contradiction

@[simp] theorem setStr_part (pt : Part) (h0 : pt ≠ .strs) (i : Fin 4) (f : Str → Str) (c : Chip) :
    part pt (setStr i f c) = part pt c := by
  unfold setStr
  cases pt <;> first | rfl | contradiction

@[simp] theorem setEst_part (pt : Part) (h0 : pt ≠ .ests) (i : Fin 4) (f : Est → Est) (c : Chip) :
    part pt (setEst i f c) = part pt c := by
  unfold setEst
  cases pt <;> first | rfl | contradiction

@[simp] theorem setPp_part (pt : Part) (h0 : pt ≠ .pps) (i : Fin 8) (f : Pp → Pp) (c : Chip) :
    part pt (setPp i f c) = part pt c := by
  unfold setPp
  cases pt <;> first | rfl | contradiction

@[simp] theorem setWm_part (pt : Part) (h0 : pt ≠ .wms) (i : Fin 64) (f : Wm → Wm) (c : Chip) :
    part pt (setWm i f c) = part pt c := by
  unfold setWm
  cases pt <;> first | rfl | contradiction

@[simp] theorem setMill_part (pt : Part) (h0 : pt ≠ .mills) (i : Fin 16) (f : Mill → Mill) (c : Chip) :
    part pt (setMill i f c) = part pt c := by
  unfold setMill
  cases pt <;> first | rfl | contradiction

@[simp] theorem setSrc_part (pt : Part) (h0 : pt ≠ .watch) (i : Fin 256) (f : Src → Src) (c : Chip) :
    part pt (setSrc i f c) = part pt c := by
  unfold setSrc
  cases pt <;> first | rfl | contradiction

@[simp] theorem setLine_part (pt : Part) (h0 : pt ≠ .can) (i : Fin 2) (f : CanLine → CanLine) (c : Chip) :
    part pt (setLine i f c) = part pt c := by
  unfold setLine
  cases pt <;> first | rfl | contradiction

@[simp] theorem setBus_part (pt : Part) (h0 : pt ≠ .bus) (f : Bus → Bus) (c : Chip) :
    part pt (setBus f c) = part pt c := by
  unfold setBus
  cases pt <;> first | rfl | contradiction

@[simp] theorem setWell_part (pt : Part) (h0 : pt ≠ .well) (f : Well → Well) (c : Chip) :
    part pt (setWell f c) = part pt c := by
  unfold setWell
  cases pt <;> first | rfl | contradiction

@[simp] theorem setCap_part (pt : Part) (h0 : pt ≠ .cap) (f : Cap → Cap) (c : Chip) :
    part pt (setCap f c) = part pt c := by
  unfold setCap
  cases pt <;> first | rfl | contradiction

@[simp] theorem setBatt_part (pt : Part) (h0 : pt ≠ .batt) (f : Batt → Batt) (c : Chip) :
    part pt (setBatt f c) = part pt c := by
  unfold setBatt
  cases pt <;> first | rfl | contradiction

@[simp] theorem setSeq_part (pt : Part) (h0 : pt ≠ .seq) (f : Seq → Seq) (c : Chip) :
    part pt (setSeq f c) = part pt c := by
  unfold setSeq
  cases pt <;> first | rfl | contradiction

@[simp] theorem setMarket_part (pt : Part) (h0 : pt ≠ .market) (f : Market → Market) (c : Chip) :
    part pt (setMarket f c) = part pt c := by
  unfold setMarket
  cases pt <;> first | rfl | contradiction

@[simp] theorem setHampers_part (pt : Part) (h0 : pt ≠ .hampers) (f : Hampers → Hampers) (c : Chip) :
    part pt (setHampers f c) = part pt c := by
  unfold setHampers
  cases pt <;> first | rfl | contradiction

@[simp] theorem setCan_part (pt : Part) (h0 : pt ≠ .can) (f : Can → Can) (c : Chip) :
    part pt (setCan f c) = part pt c := by
  unfold setCan
  cases pt <;> first | rfl | contradiction

@[simp] theorem setTw_part (pt : Part) (h0 : pt ≠ .tw) (f : TwoWire → TwoWire) (c : Chip) :
    part pt (setTw f c) = part pt c := by
  unfold setTw
  cases pt <;> first | rfl | contradiction

@[simp] theorem setSvc_part (pt : Part) (h0 : pt ≠ .svc) (f : Svc → Svc) (c : Chip) :
    part pt (setSvc f c) = part pt c := by
  unfold setSvc
  cases pt <;> first | rfl | contradiction

@[simp] theorem setUpdate_part (pt : Part) (h0 : pt ≠ .update) (f : Update → Update) (c : Chip) :
    part pt (setUpdate f c) = part pt c := by
  unfold setUpdate
  cases pt <;> first | rfl | contradiction

@[simp] theorem setLc_part (pt : Part) (h0 : pt ≠ .lc) (f : LcCommand → LcCommand) (c : Chip) :
    part pt (setLc f c) = part pt c := by
  unfold setLc
  cases pt <;> first | rfl | contradiction

@[simp] theorem setLane_part (pt : Part) (h0 : pt ≠ .lane) (f : Lane → Lane) (c : Chip) :
    part pt (setLane f c) = part pt c := by
  unfold setLane
  cases pt <;> first | rfl | contradiction

@[simp] theorem setGw_part (pt : Part) (h0 : pt ≠ .gw) (f : Gateway → Gateway) (c : Chip) :
    part pt (setGw f c) = part pt c := by
  unfold setGw
  cases pt <;> first | rfl | contradiction

@[simp] theorem setWatch_part (pt : Part) (h0 : pt ≠ .watch) (f : Watch → Watch) (c : Chip) :
    part pt (setWatch f c) = part pt c := by
  unfold setWatch
  cases pt <;> first | rfl | contradiction

@[simp] theorem setReeve_part (pt : Part) (h0 : pt ≠ .reeve) (f : Reeve → Reeve) (c : Chip) :
    part pt (setReeve f c) = part pt c := by
  unfold setReeve
  cases pt <;> first | rfl | contradiction

@[simp] theorem setTherm_part (pt : Part) (h0 : pt ≠ .therm) (f : Therm → Therm) (c : Chip) :
    part pt (setTherm f c) = part pt c := by
  unfold setTherm
  cases pt <;> first | rfl | contradiction

@[simp] theorem setAlm_part (pt : Part) (h0 : pt ≠ .alm) (f : Alm → Alm) (c : Chip) :
    part pt (setAlm f c) = part pt c := by
  unfold setAlm
  cases pt <;> first | rfl | contradiction

@[simp] theorem setTwin_part (pt : Part) (h0 : pt ≠ .twin) (f : Twin → Twin) (c : Chip) :
    part pt (setTwin f c) = part pt c := by
  unfold setTwin
  cases pt <;> first | rfl | contradiction

@[simp] theorem setBoot_part (pt : Part) (h0 : pt ≠ .boot) (f : Boot → Boot) (c : Chip) :
    part pt (setBoot f c) = part pt c := by
  unfold setBoot
  cases pt <;> first | rfl | contradiction

@[simp] theorem setNor_part (pt : Part) (h0 : pt ≠ .nor) (f : Nor → Nor) (c : Chip) :
    part pt (setNor f c) = part pt c := by
  unfold setNor
  cases pt <;> first | rfl | contradiction

@[simp] theorem takeFree_part (pt : Part) (h0 : pt ≠ .fresh) (c : Chip) :
    part pt (takeFree c) = part pt c := by
  unfold takeFree
  cases pt <;> first | rfl | contradiction

@[simp] theorem tickClock_part (pt : Part) (h0 : pt ≠ .clock) (h1 : pt ≠ .hamlets) (h2 : pt ≠ .lane) (c : Chip) :
    part pt (tickClock c) = part pt c := by
  unfold tickClock
  repeat' split
  all_goals (cases pt <;> first | rfl | contradiction)

@[simp] theorem tickBoot_part (pt : Part) (h0 : pt ≠ .boot) (c : Chip) :
    part pt (tickBoot c) = part pt c := by
  unfold tickBoot
  try dsimp only
  repeat' split
  all_goals first
    | rfl
    | (simp [*]; done)
    | (cases pt <;> first | rfl | contradiction)

@[simp] theorem raise_part (pt : Part) (h0 : pt ≠ .watch) (src code : Nat) (value : Int) (c : Chip) :
    part pt (raise src code value c) = part pt c := by
  unfold raise
  repeat' split
  all_goals (cases pt <;> first | rfl | contradiction)

@[simp] theorem raiseKind_part (pt : Part) (h0 : pt ≠ .watch) (kind : EventKind) (src code : Nat) (value : Int) (c :
    Chip) :
    part pt (raiseKind kind src code value c) = part pt c := by
  unfold raiseKind
  repeat' split
  all_goals (cases pt <;> first | rfl | contradiction)

@[simp] theorem enterAt_part (pt : Part) (h0 : pt ≠ .alm) (places : Nat) (r : Record) (c : Chip) :
    part pt (enterAt places r c) = part pt c := by
  unfold enterAt
  dsimp only
  repeat' split
  all_goals (cases pt <;> first | rfl | contradiction)

@[simp] theorem enter_part (pt : Part) (h0 : pt ≠ .alm) (r : Record) (c : Chip) :
    part pt (enter r c) = part pt c := by
  unfold enter
  repeat' split
  all_goals simp [*]

@[simp] theorem accept_part (pt : Part) (h0 : pt ≠ .alm) (r : Record) (c : Chip) :
    part pt (accept r c) = part pt c := by
  unfold accept
  simp [*]

@[simp] theorem log_part (pt : Part) (h0 : pt ≠ .alm) (code src : Nat) (severity : Fin 4) (value : Int) (entries :
    List Nat) (c : Chip) :
    part pt (log code src severity value entries c) = part pt c := by
  unfold log
  simp [*]

@[simp] theorem logRaise_part (pt : Part) (h0 : pt ≠ .watch) (h1 : pt ≠ .alm) (code src : Nat) (severity : Fin 4)
    (value : Int) (entries : List Nat) (c : Chip) :
    part pt (logRaise code src severity value entries c) = part pt c := by
  unfold logRaise
  simp [*]

@[simp] theorem requestWake_part (pt : Part) (h0 : pt ≠ .hamlets) (h : Fin 27) (c : Chip) :
    part pt (requestWake h c) = part pt c := by
  unfold requestWake
  simp [*]

@[simp] theorem takeRequests_part (pt : Part) (h0 : pt ≠ .market) (ids : List Nat) (c : Chip) :
    part pt (takeRequests ids c) = part pt c := by
  unfold takeRequests
  repeat' split
  all_goals simp [*]

@[simp] theorem arrive_part (pt : Part) (h0 : pt ≠ .hamlets) (h1 : pt ≠ .market) (d : Fin 27) (p : Packet) (c : Chip)
    :
    part pt (arrive d p c) = part pt c := by
  unfold arrive
  repeat' split
  all_goals simp [*]

@[simp] theorem greenMove_part (pt : Part) (h0 : pt ≠ .hamlets) (h1 : pt ≠ .green) (h2 : pt ≠ .market) (h : Fin 27) (c
    : Chip) :
    part pt (greenMove h c) = part pt c := by
  unfold greenMove
  dsimp only
  repeat' split
  all_goals simp [*]

@[simp] theorem greenServe_part (pt : Part) (h0 : pt ≠ .hamlets) (h1 : pt ≠ .green) (h2 : pt ≠ .market) (n : Nat) (c : Chip) :
    part pt (greenServe n c) = part pt c := by
  induction n generalizing c with
  | zero => rfl
  | succ n ih =>
    unfold greenServe
    split
    · rw [ih]; exact greenMove_part _ h0 h1 h2 _ _
    · rfl

@[simp] theorem sendPacket_part (pt : Part) (h0 : pt ≠ .hamlets) (h1 : pt ≠ .green) (h2 : pt ≠ .market) (src dst : Fin
    27) (p : Packet) (c : Chip) :
    part pt (sendPacket src dst p c) = part pt c := by
  unfold sendPacket
  dsimp only
  repeat' split
  all_goals simp [*]

@[simp] theorem sendSignal_part (pt : Part) (h0 : pt ≠ .hamlets) (h1 : pt ≠ .green) (h2 : pt ≠ .market) (src dst : Fin
    27) (g : Signal) (c : Chip) :
    part pt (sendSignal src dst g c) = part pt c := by
  unfold sendSignal
  simp [*]

@[simp] theorem deliverPackets_part (pt : Part) (h0 : pt ≠ .hamlets) (h1 : pt ≠ .green) (h2 : pt ≠ .market) (h : Fin
    27) (c : Chip) :
    part pt (deliverPackets h c) = part pt c := by
  unfold deliverPackets
  simp [*]

@[simp] theorem startClock_part (pt : Part) (h0 : pt ≠ .hamlets) (h1 : pt ≠ .green) (h2 : pt ≠ .market) (h : Fin 27)
    (c : Chip) :
    part pt (startClock h c) = part pt c := by
  unfold startClock
  dsimp only
  repeat' split
  all_goals simp [*]

@[simp] theorem openHamlet_part (pt : Part) (h0 : pt ≠ .hamlets) (h1 : pt ≠ .green) (h2 : pt ≠ .market) (h : Fin 27)
    (c : Chip) :
    part pt (openHamlet h c) = part pt c := by
  unfold openHamlet
  simp [*]

@[simp] theorem releaseLocks_part (pt : Part) (h0 : pt ≠ .green) (h : Fin 27) (c : Chip) :
    part pt (releaseLocks h c) = part pt c := by
  unfold releaseLocks
  repeat' split
  all_goals simp [*]

@[simp] theorem publish_part (pt : Part) (h0 : pt ≠ .chans) (ch : Nat) (w : Word) (c : Chip) :
    part pt (publish ch w c) = part pt c := by
  unfold publish
  simp [*]

@[simp] theorem refreshRail_part (pt : Part) (h0 : pt ≠ .chans) (r : Fin 16) (c : Chip) :
    part pt (refreshRail r c) = part pt c := by
  unfold refreshRail
  simp [*]

@[simp] theorem fireSlot_part (pt : Part) (h0 : pt ≠ .mills) (h1 : pt ≠ .watch) (u : Unit4) (c : Chip) :
    part pt (fireSlot u c) = part pt c := by
  unfold fireSlot
  dsimp only
  repeat' split
  all_goals simp [*]

@[simp] theorem fire_part (pt : Part) (h0 : pt ≠ .mills) (h1 : pt ≠ .watch) (kind : Nat) (p : Nat → Bool) (c : Chip) :
    part pt (fire kind p c) = part pt c := by
  unfold fire
  repeat' split
  all_goals simp [*]

@[simp] theorem newValues_part (pt : Part) (h0 : pt ≠ .mills) (h1 : pt ≠ .watch) (chs : List Nat) (c : Chip) :
    part pt (newValues chs c) = part pt c := by
  unfold newValues
  dsimp only
  repeat' split
  all_goals simp [*]

@[simp] theorem takeWarnings_part (pt : Part) (h0 : pt ≠ .wms) (x : Sample) (c : Chip) :
    part pt (takeWarnings x c) = part pt c := by
  unfold takeWarnings
  repeat' split
  all_goals simp [*]

@[simp] theorem supplyBack_part (pt : Part) (h0 : pt ≠ .watch) (ch : Fin 256) (c : Chip) :
    part pt (supplyBack ch c) = part pt c := by
  unfold supplyBack
  repeat' split
  all_goals simp [*]

@[simp] theorem takeSample_part (pt : Part) (h0 : pt ≠ .chans) (h1 : pt ≠ .wms) (h2 : pt ≠ .watch) (x : Sample) (c :
    Chip) :
    part pt (takeSample x c) = part pt c := by
  unfold takeSample
  dsimp only
  repeat' split
  all_goals simp [*]

@[simp] theorem takeTap_part (pt : Part) (h0 : pt ≠ .bus) (x : Sample) (c : Chip) :
    part pt (takeTap x c) = part pt c := by
  unfold takeTap
  dsimp only
  repeat' split
  all_goals simp [*]

@[simp] theorem refreshTap_part (pt : Part) (h0 : pt ≠ .chans) (c : Chip) :
    part pt (refreshTap c) = part pt c := by
  unfold refreshTap
  repeat' split
  all_goals simp [*]

@[simp] theorem takeSamples_part (pt : Part) (h0 : pt ≠ .chans) (h1 : pt ≠ .bus) (h2 : pt ≠ .wms) (h3 : pt ≠ .mills)
    (h4 : pt ≠ .watch) (l : List Sample) (c : Chip) :
    part pt (takeSamples l c) = part pt c := by
  unfold takeSamples
  dsimp only
  repeat' split
  all_goals simp [*]

@[simp] theorem refreshBus_part (pt : Part) (h0 : pt ≠ .chans) (h1 : pt ≠ .bus) (c : Chip) :
    part pt (refreshBus c) = part pt c := by
  unfold refreshBus
  dsimp only
  repeat' split
  all_goals simp [*]

@[simp] theorem publishLimit_part (pt : Part) (h0 : pt ≠ .chans) (r : Fin 16) (c : Chip) :
    part pt (publishLimit r c) = part pt c := by
  unfold publishLimit
  repeat' split
  all_goals simp [*]

@[simp] theorem publishCommand_part (pt : Part) (h0 : pt ≠ .chans) (r : Fin 16) (c : Chip) :
    part pt (publishCommand r c) = part pt c := by
  unfold publishCommand
  repeat' split
  all_goals simp [*]

@[simp] theorem noteSat_part (pt : Part) (h0 : pt ≠ .mills) (u : Unit4) (b : Bool) (c : Chip) :
    part pt (noteSat u b c) = part pt c := by
  unfold noteSat
  repeat' split
  all_goals simp [*]

@[simp] theorem vcLevel_part (pt : Part) (h0 : pt ≠ .vcs) (n : Fin 4) (c : Chip) :
    part pt (vcLevel n c) = part pt c := by
  unfold vcLevel
  dsimp only
  repeat' split
  all_goals simp [*]

@[simp] theorem startCharge_part (pt : Part) (h0 : pt ≠ .strs) (s : Fin 4) (c : Chip) :
    part pt (startCharge s c) = part pt c := by
  unfold startCharge
  simp [*]

@[simp] theorem laneLeave_part (pt : Part) (h0 : pt ≠ .lane) (p : LanePort) (f : LaneFrame) (c : Chip) :
    part pt (laneLeave p f c) = part pt c := by
  unfold laneLeave
  dsimp only
  repeat' split
  all_goals simp [*]

@[simp] theorem laneCopy_part (pt : Part) (h0 : pt ≠ .lane) (p : LanePort) (dest cls : Nat) (n : BitVec 16) (payload :
    List Byte) (c : Chip) :
    part pt (laneCopy p dest cls n payload c) = part pt c := by
  unfold laneCopy
  repeat' split
  all_goals simp [*]

@[simp] theorem laneSend_part (pt : Part) (h0 : pt ≠ .lane) (byA byB : Bool) (dest cls : Nat) (payload : List Byte) (c
    : Chip) :
    part pt (laneSend byA byB dest cls payload c) = part pt c := by
  unfold laneSend
  repeat' split
  all_goals simp [*]

@[simp] theorem prepare_part (pt : Part) (h0 : pt ≠ .alm) (c : Chip) :
    part pt (prepare c) = part pt c := by
  unfold prepare
  repeat' split
  all_goals (cases pt <;> first | rfl | contradiction)

@[simp] theorem sectorEraseDone_part (pt : Part) (h0 : pt ≠ .alm) (c : Chip) :
    part pt (sectorEraseDone c) = part pt c := by
  unfold sectorEraseDone
  dsimp only
  repeat' split
  all_goals (simp [*]; cases pt <;> first | rfl | contradiction)

@[simp] theorem writeRecord_part (pt : Part) (h0 : pt ≠ .alm) (c : Chip) :
    part pt (writeRecord c) = part pt c := by
  unfold writeRecord
  dsimp only
  repeat' split
  all_goals first
    | (simp [*]; done)
    | (simp [*]; cases pt <;> first | rfl | contradiction)

@[simp] theorem recordWriteDone_part (pt : Part) (h0 : pt ≠ .green) (h1 : pt ≠ .alm) (c : Chip) :
    part pt (recordWriteDone c) = part pt c := by
  unfold recordWriteDone
  repeat' split
  all_goals simp [*]

@[simp] theorem flushAll_part (pt : Part) (h0 : pt ≠ .alm) (n : Nat) (c : Chip) :
    part pt (flushAll n c) = part pt c := by
  induction n generalizing c with
  | zero => rfl
  | succ n ih =>
    unfold flushAll
    split
    · rfl
    · rw [ih]
      simp [*]
      cases pt <;> first | rfl | contradiction

@[simp] theorem flush_part (pt : Part) (h0 : pt ≠ .alm) (c : Chip) :
    part pt (flush c) = part pt c := by
  unfold flush
  simp [*]

@[simp] theorem flashProgramFail_part (pt : Part) (h0 : pt ≠ .watch) (h1 : pt ≠ .alm) (c : Chip) :
    part pt (flashProgramFail c) = part pt c := by
  unfold flashProgramFail
  try dsimp only
  repeat' (first | split | simp only [])
  all_goals first
    | (simp [*]; done)
    | (simp [*]; cases pt <;> first | rfl | contradiction)

@[simp] theorem heldRecordFlush_part (pt : Part) (h0 : pt ≠ .alm) (c : Chip) :
    part pt (heldRecordFlush c) = part pt c := by
  unfold heldRecordFlush
  repeat' split
  all_goals simp [*]

@[simp] theorem almanacCheckpoint_part (pt : Part) (h0 : pt ≠ .alm) (c : Chip) :
    part pt (almanacCheckpoint c) = part pt c := by
  unfold almanacCheckpoint
  repeat' split
  all_goals simp [*]

@[simp] theorem bootScan_part (pt : Part) (h0 : pt ≠ .clock) (h1 : pt ≠ .alm) (powerOn : Bool) (c : Chip) :
    part pt (bootScan powerOn c) = part pt c := by
  unfold bootScan
  dsimp only
  repeat' split
  all_goals first
    | (simp [*]; done)
    | (simp [*]; cases pt <;> first | rfl | contradiction)

@[simp] theorem exportFreeze_part (pt : Part) (h0 : pt ≠ .alm) (c : Chip) :
    part pt (exportFreeze c) = part pt c := by
  unfold exportFreeze
  simp [*]

@[simp] theorem laneUnicast_part (pt : Part) (h0 : pt ≠ .lane) (dest : Fin 1024) (cls : Nat) (payload : List Byte) (c
    : Chip) :
    part pt (laneUnicast dest cls payload c) = part pt c := by
  unfold laneUnicast
  dsimp only
  repeat' split
  all_goals simp [*]

@[simp] theorem odAnswer_part (pt : Part) (h0 : pt ≠ .lane) (node : Fin 1024) (op : OdOp) (tag : BitVec 16) (k : Key)
    (status offset : Nat) (data : List Byte) (c : Chip) :
    part pt (odAnswer node op tag k status offset data c) = part pt c := by
  unfold odAnswer
  simp [*]

@[simp] theorem svcAnswer_part (pt : Part) (h0 : pt ≠ .svc) (cmd : Nat) (tag : BitVec 16) (status : Nat) (data : List
    Byte) (c : Chip) :
    part pt (svcAnswer cmd tag status data c) = part pt c := by
  unfold svcAnswer
  simp [*]

@[simp] theorem canSend_part (pt : Part) (h0 : pt ≠ .can) (line : Fin 2) (m : CanTx) (c : Chip) :
    part pt (canSend line m c) = part pt c := by
  unfold canSend
  simp [*]

@[simp] theorem usdoSend_part (pt : Part) (h0 : pt ≠ .can) (line : Fin 2) (m : CanTx) (c : Chip) :
    part pt (usdoSend line m c) = part pt c := by
  unfold usdoSend
  repeat' split
  all_goals simp [*]

@[simp] theorem twHold_part (pt : Part) (h0 : pt ≠ .tw) (r : TwResult) (c : Chip) :
    part pt (twHold r c) = part pt c := by
  unfold twHold
  simp [*]

@[simp] theorem reply_part (pt : Part) (h0 : pt ≠ .can) (h1 : pt ≠ .tw) (h2 : pt ≠ .svc) (h3 : pt ≠ .lane) (q : Req)
    (st : Status) (v : List Byte) (c : Chip) :
    part pt (reply q st v c) = part pt c := by
  unfold reply
  dsimp only
  repeat' split
  all_goals simp [*]

@[simp] theorem finish_part (pt : Part) (h0 : pt ≠ .hamlets) (h1 : pt ≠ .market) (h2 : pt ≠ .can) (h3 : pt ≠ .tw) (h4
    : pt ≠ .svc) (h5 : pt ≠ .lane) (q : Req) (st : Status) (v : List Byte) (c : Chip) :
    part pt (finish q st v c) = part pt c := by
  unfold finish
  simp [*]

@[simp] theorem fenceQueued_part (pt : Part) (h0 : pt ≠ .hamlets) (h1 : pt ≠ .market) (h2 : pt ≠ .can) (h3 : pt ≠ .tw)
    (h4 : pt ≠ .svc) (h5 : pt ≠ .lane) (o : Origin) (k : Key) (c : Chip) :
    part pt (fenceQueued o k c) = part pt c := by
  unfold fenceQueued
  simp [*]

@[simp] theorem placeFence_part (pt : Part) (h0 : pt ≠ .market) (o : Origin) (k : Key) (c : Chip) :
    part pt (placeFence o k c) = part pt c := by
  unfold placeFence
  repeat' split
  all_goals simp [*]

@[simp] theorem complete_part (pt : Part) (h0 : pt ≠ .hamlets) (h1 : pt ≠ .market) (h2 : pt ≠ .can) (h3 : pt ≠ .tw)
    (h4 : pt ≠ .svc) (h5 : pt ≠ .lane) (q : Req) (st : Status) (v : List Byte) (c : Chip) :
    part pt (complete q st v c) = part pt c := by
  unfold complete
  repeat' split
  all_goals simp [*]

@[simp] theorem completeAll_part (pt : Part) (h0 : pt ≠ .hamlets) (h1 : pt ≠ .market) (h2 : pt ≠ .can) (h3 : pt ≠ .tw)
    (h4 : pt ≠ .svc) (h5 : pt ≠ .lane) (l : List Req) (st : Status) (c : Chip) :
    part pt (completeAll l st c) = part pt c := by
  unfold completeAll
  repeat' split
  all_goals simp [*]

@[simp] theorem completeId_part (pt : Part) (h0 : pt ≠ .hamlets) (h1 : pt ≠ .market) (h2 : pt ≠ .can) (h3 : pt ≠ .tw)
    (h4 : pt ≠ .svc) (h5 : pt ≠ .lane) (id : Nat) (st : Status) (v : List Byte) (c : Chip) :
    part pt (completeId id st v c) = part pt c := by
  unfold completeId
  repeat' split
  all_goals simp [*]

@[simp] theorem originFence_part (pt : Part) (h0 : pt ≠ .hamlets) (h1 : pt ≠ .market) (h2 : pt ≠ .can) (h3 : pt ≠ .tw)
    (h4 : pt ≠ .svc) (h5 : pt ≠ .lane) (o : Origin) (c : Chip) :
    part pt (originFence o c) = part pt c := by
  unfold originFence
  simp [*]

@[simp] theorem clearFence_part (pt : Part) (h0 : pt ≠ .market) (o : Origin) (v : Nat) (c : Chip) :
    part pt (clearFence o v c) = part pt c := by
  unfold clearFence
  repeat' split
  all_goals simp [*]

@[simp] theorem clearFencesOf_part (pt : Part) (h0 : pt ≠ .market) (n : Nat) (c : Chip) :
    part pt (clearFencesOf n c) = part pt c := by
  unfold clearFencesOf
  simp [*]

@[simp] theorem writeDuty_part (pt : Part) (h0 : pt ≠ .phases) (p : Fin 32) (w : Word) (c : Chip) :
    part pt (writeDuty p w c) = part pt c := by
  unfold writeDuty
  repeat' split
  all_goals simp [*]

@[simp] theorem phaseLow_part (pt : Part) (h0 : pt ≠ .phases) (p : Fin 32) (c : Chip) :
    part pt (phaseLow p c) = part pt c := by
  unfold phaseLow
  simp [*]

@[simp] theorem railLow_part (pt : Part) (h0 : pt ≠ .phases) (r : Fin 16) (c : Chip) :
    part pt (railLow r c) = part pt c := by
  unfold railLow
  simp [*]

@[simp] theorem interleave_part (pt : Part) (h0 : pt ≠ .phases) (r : Fin 16) (c : Chip) :
    part pt (interleave r c) = part pt c := by
  unfold interleave
  simp [*]

@[simp] theorem vcComplete_part (pt : Part) (h0 : pt ≠ .vcs) (n : Fin 4) (tag : BitVec 6) (code : Nat) (c : Chip) :
    part pt (vcComplete n tag code c) = part pt c := by
  unfold vcComplete
  simp [*]

@[simp] theorem vcAbort_part (pt : Part) (h0 : pt ≠ .vcs) (h1 : pt ≠ .watch) (r : Fin 16) (c : Chip) :
    part pt (vcAbort r c) = part pt c := by
  unfold vcAbort
  repeat' split
  all_goals simp [*]

@[simp] theorem railGo_part (pt : Part) (h0 : pt ≠ .rails) (h1 : pt ≠ .vcs) (h2 : pt ≠ .watch) (r : Fin 16) (st :
    RailState) (c : Chip) :
    part pt (railGo r st c) = part pt c := by
  unfold railGo
  simp [*]

@[simp] theorem clearKills_part (pt : Part) (h0 : pt ≠ .phases) (h1 : pt ≠ .rails) (r : Fin 16) (c : Chip) :
    part pt (clearKills r c) = part pt c := by
  unfold clearKills
  simp [*]

@[simp] theorem railToOff_part (pt : Part) (h0 : pt ≠ .chans) (h1 : pt ≠ .phases) (h2 : pt ≠ .rails) (h3 : pt ≠ .vcs)
    (h4 : pt ≠ .seq) (h5 : pt ≠ .watch) (r : Fin 16) (c : Chip) :
    part pt (railToOff r c) = part pt c := by
  unfold railToOff
  simp [*]

@[simp] theorem leaveOff_part (pt : Part) (h0 : pt ≠ .wms) (r : Fin 16) (c : Chip) :
    part pt (leaveOff r c) = part pt c := by
  unfold leaveOff
  simp [*]

@[simp] theorem railFault_part (pt : Part) (h0 : pt ≠ .phases) (h1 : pt ≠ .rails) (h2 : pt ≠ .vcs) (h3 : pt ≠ .watch)
    (r : Fin 16) (c : Chip) :
    part pt (railFault r c) = part pt c := by
  unfold railFault
  simp [*]

@[simp] theorem enterOnDelay_part (pt : Part) (h0 : pt ≠ .phases) (h1 : pt ≠ .rails) (h2 : pt ≠ .vcs) (h3 : pt ≠
    .watch) (r : Fin 16) (c : Chip) :
    part pt (enterOnDelay r c) = part pt c := by
  unfold enterOnDelay
  dsimp only
  repeat' split
  all_goals simp [*]

@[simp] theorem railStart_part (pt : Part) (h0 : pt ≠ .phases) (h1 : pt ≠ .rails) (h2 : pt ≠ .vcs) (h3 : pt ≠ .wms)
    (h4 : pt ≠ .watch) (r : Fin 16) (c : Chip) :
    part pt (railStart r c) = part pt c := by
  unfold railStart
  repeat' split
  all_goals simp [*]

@[simp] theorem rampDown_part (pt : Part) (h0 : pt ≠ .rails) (h1 : pt ≠ .vcs) (h2 : pt ≠ .watch) (r : Fin 16) (c :
    Chip) :
    part pt (rampDown r c) = part pt c := by
  unfold rampDown
  repeat' split
  all_goals simp [*]

@[simp] theorem railStop_part (pt : Part) (h0 : pt ≠ .chans) (h1 : pt ≠ .phases) (h2 : pt ≠ .rails) (h3 : pt ≠ .vcs)
    (h4 : pt ≠ .seq) (h5 : pt ≠ .watch) (r : Fin 16) (c : Chip) :
    part pt (railStop r c) = part pt c := by
  unfold railStop
  repeat' split
  all_goals simp [*]

@[simp] theorem feedbackLost_part (pt : Part) (h0 : pt ≠ .phases) (h1 : pt ≠ .rails) (h2 : pt ≠ .vcs) (h3 : pt ≠
    .watch) (r : Fin 16) (c : Chip) :
    part pt (feedbackLost r c) = part pt c := by
  unfold feedbackLost
  repeat' split
  all_goals simp [*]

@[simp] theorem railChannelFails_part (pt : Part) (h0 : pt ≠ .phases) (h1 : pt ≠ .rails) (h2 : pt ≠ .vcs) (h3 : pt ≠
    .watch) (r : Fin 16) (c : Chip) :
    part pt (railChannelFails r c) = part pt c := by
  unfold railChannelFails
  repeat' split
  all_goals simp [*]

@[simp] theorem killRail_part (pt : Part) (h0 : pt ≠ .phases) (h1 : pt ≠ .rails) (h2 : pt ≠ .vcs) (h3 : pt ≠ .watch)
    (r : Fin 16) (c : Chip) :
    part pt (killRail r c) = part pt c := by
  unfold killRail
  dsimp only
  repeat' split
  all_goals simp [*]

@[simp] theorem phaseKill_part (pt : Part) (h0 : pt ≠ .phases) (h1 : pt ≠ .rails) (h2 : pt ≠ .vcs) (h3 : pt ≠ .watch)
    (p : Fin 32) (current : Int) (c : Chip) :
    part pt (phaseKill p current c) = part pt c := by
  unfold phaseKill
  repeat' split
  all_goals simp [*]

@[simp] theorem peakLimit_part (pt : Part) (h0 : pt ≠ .phases) (p : Fin 32) (current : Int) (c : Chip) :
    part pt (peakLimit p current c) = part pt c := by
  unfold peakLimit
  dsimp only
  repeat' split
  all_goals simp [*]

@[simp] theorem firstPhaseStart_part (pt : Part) (h0 : pt ≠ .phases) (h1 : pt ≠ .rails) (r : Fin 16) (c : Chip) :
    part pt (firstPhaseStart r c) = part pt c := by
  unfold firstPhaseStart
  dsimp only
  repeat' split
  all_goals simp [*]

@[simp] theorem periodTriggers_part (pt : Part) (h0 : pt ≠ .mills) (h1 : pt ≠ .watch) (p : Fin 32) (r : Fin 16) (c :
    Chip) :
    part pt (periodTriggers p r c) = part pt c := by
  unfold periodTriggers
  dsimp only
  repeat' split
  all_goals simp [*]

@[simp] theorem periodStart_part (pt : Part) (h0 : pt ≠ .phases) (h1 : pt ≠ .rails) (h2 : pt ≠ .mills) (h3 : pt ≠
    .watch) (p : Fin 32) (c : Chip) :
    part pt (periodStart p c) = part pt c := by
  unfold periodStart
  dsimp only
  repeat' split
  all_goals simp [*]

@[simp] theorem onDelayElapsed_part (pt : Part) (h0 : pt ≠ .chans) (h1 : pt ≠ .phases) (h2 : pt ≠ .rails) (h3 : pt ≠
    .vcs) (h4 : pt ≠ .watch) (r : Fin 16) (c : Chip) :
    part pt (onDelayElapsed r c) = part pt c := by
  unfold onDelayElapsed
  dsimp only
  repeat' split
  all_goals simp [*]

@[simp] theorem rampComplete_part (pt : Part) (h0 : pt ≠ .rails) (h1 : pt ≠ .vcs) (h2 : pt ≠ .watch) (r : Fin 16) (c :
    Chip) :
    part pt (rampComplete r c) = part pt c := by
  unfold rampComplete
  repeat' split
  all_goals simp [*]

@[simp] theorem offDelayElapsed_part (pt : Part) (h0 : pt ≠ .rails) (h1 : pt ≠ .vcs) (h2 : pt ≠ .watch) (r : Fin 16)
    (c : Chip) :
    part pt (offDelayElapsed r c) = part pt c := by
  unfold offDelayElapsed
  repeat' split
  all_goals simp [*]

@[simp] theorem rampDownComplete_part (pt : Part) (h0 : pt ≠ .chans) (h1 : pt ≠ .phases) (h2 : pt ≠ .rails) (h3 : pt ≠
    .vcs) (h4 : pt ≠ .wms) (h5 : pt ≠ .seq) (h6 : pt ≠ .watch) (r : Fin 16) (c : Chip) :
    part pt (rampDownComplete r c) = part pt c := by
  unfold rampDownComplete
  repeat' split
  all_goals simp [*]

@[simp] theorem fbHoldElapsed_part (pt : Part) (h0 : pt ≠ .phases) (h1 : pt ≠ .rails) (h2 : pt ≠ .vcs) (h3 : pt ≠
    .watch) (r : Fin 16) (c : Chip) :
    part pt (fbHoldElapsed r c) = part pt c := by
  unfold fbHoldElapsed
  repeat' split
  all_goals simp [*]

@[simp] theorem dutyRampComplete_part (pt : Part) (h0 : pt ≠ .phases) (h1 : pt ≠ .rails) (h2 : pt ≠ .vcs) (h3 : pt ≠
    .watch) (r : Fin 16) (c : Chip) :
    part pt (dutyRampComplete r c) = part pt c := by
  unfold dutyRampComplete
  repeat' split
  all_goals simp [*]

@[simp] theorem railAutoRestart_part (pt : Part) (h0 : pt ≠ .phases) (h1 : pt ≠ .rails) (h2 : pt ≠ .vcs) (h3 : pt ≠
    .watch) (r : Fin 16) (c : Chip) :
    part pt (railAutoRestart r c) = part pt c := by
  unfold railAutoRestart
  repeat' split
  all_goals simp [*]

@[simp] theorem moveAtRamp_part (pt : Part) (h0 : pt ≠ .rails) (r : Fin 16) (c : Chip) :
    part pt (moveAtRamp r c) = part pt c := by
  unfold moveAtRamp
  repeat' split
  all_goals simp [*]

@[simp] theorem railTargetActs_part (pt : Part) (h0 : pt ≠ .chans) (h1 : pt ≠ .rails) (r : Fin 16) (c : Chip) :
    part pt (railTargetActs r c) = part pt c := by
  unfold railTargetActs
  dsimp only
  repeat' split
  all_goals simp [*]

@[simp] theorem retime_part (pt : Part) (h0 : pt ≠ .rails) (r : Fin 16) (c : Chip) :
    part pt (retime r c) = part pt c := by
  unfold retime
  repeat' split
  all_goals simp [*]

@[simp] theorem railFswActs_part (pt : Part) (h0 : pt ≠ .rails) (r : Fin 16) (c : Chip) :
    part pt (railFswActs r c) = part pt c := by
  unfold railFswActs
  repeat' split
  all_goals simp [*]

@[simp] theorem syncModeActs_part (pt : Part) (h0 : pt ≠ .rails) (r : Fin 16) (c : Chip) :
    part pt (syncModeActs r c) = part pt c := by
  unfold syncModeActs
  repeat' split
  all_goals simp [*]

@[simp] theorem syncLockStart_part (pt : Part) (h0 : pt ≠ .rails) (r : Fin 16) (frequency : Nat) (c : Chip) :
    part pt (syncLockStart r frequency c) = part pt c := by
  unfold syncLockStart
  dsimp only
  repeat' split
  all_goals simp [*]

@[simp] theorem syncLockAchieved_part (pt : Part) (h0 : pt ≠ .rails) (r : Fin 16) (c : Chip) :
    part pt (syncLockAchieved r c) = part pt c := by
  unfold syncLockAchieved
  repeat' split
  all_goals simp [*]

@[simp] theorem syncinLost_part (pt : Part) (h0 : pt ≠ .rails) (h1 : pt ≠ .watch) (r : Fin 16) (c : Chip) :
    part pt (syncinLost r c) = part pt c := by
  unfold syncinLost
  repeat' split
  all_goals simp [*]

@[simp] theorem railloopLaw_part (pt : Part) (h0 : pt ≠ .phases) (h1 : pt ≠ .rails) (h2 : pt ≠ .mills) (u : Unit4) (r
    : Fin 16) (c : Chip) :
    part pt (railloopLaw u r c) = part pt c := by
  unfold railloopLaw
  simp [*]

@[simp] theorem diodeEmulation_part (pt : Part) (h0 : pt ≠ .phases) (r : Fin 16) (samples : List Sample) (c : Chip) :
    part pt (diodeEmulation r samples c) = part pt c := by
  unfold diodeEmulation
  dsimp only
  repeat' split
  all_goals simp [*]

@[simp] theorem railloopUnit_part (pt : Part) (h0 : pt ≠ .phases) (h1 : pt ≠ .rails) (h2 : pt ≠ .mills) (r : Fin 16)
    (u : Unit4) (c : Chip) :
    part pt (railloopUnit r u c) = part pt c := by
  unfold railloopUnit
  repeat' split
  all_goals simp [*]

@[simp] theorem balanceLaw_part (pt : Part) (h0 : pt ≠ .phases) (h1 : pt ≠ .rails) (h2 : pt ≠ .mills) (h3 : pt ≠
    .watch) (u : Unit4) (r : Fin 16) (c : Chip) :
    part pt (balanceLaw u r c) = part pt c := by
  unfold balanceLaw
  simp [*]

@[simp] theorem balanceUnit_part (pt : Part) (h0 : pt ≠ .phases) (h1 : pt ≠ .rails) (h2 : pt ≠ .mills) (h3 : pt ≠
    .watch) (r : Fin 16) (u : Unit4) (c : Chip) :
    part pt (balanceUnit r u c) = part pt c := by
  unfold balanceUnit
  repeat' split
  all_goals simp [*]

@[simp] theorem phaseFails_part (pt : Part) (h0 : pt ≠ .phases) (p : Fin 32) (cause : DropCause) (c : Chip) :
    part pt (phaseFails p cause c) = part pt c := by
  unfold phaseFails
  repeat' split
  all_goals simp [*]

@[simp] theorem phaseCheck_part (pt : Part) (h0 : pt ≠ .phases) (holds : Chip → Fin 16 → Fin 32 → Bool) (p : Fin 32)
    (cause : DropCause) (c : Chip) :
    part pt (phaseCheck holds p cause c) = part pt c := by
  unfold phaseCheck
  repeat' split
  all_goals simp [*]

@[simp] theorem phaseFailOpen_part (pt : Part) (h0 : pt ≠ .phases) (p : Fin 32) (c : Chip) :
    part pt (phaseFailOpen p c) = part pt c := by
  unfold phaseFailOpen
  simp [*]

@[simp] theorem phaseSenseDisagree_part (pt : Part) (h0 : pt ≠ .phases) (p : Fin 32) (c : Chip) :
    part pt (phaseSenseDisagree p c) = part pt c := by
  unfold phaseSenseDisagree
  simp [*]

@[simp] theorem phaseDrop_part (pt : Part) (h0 : pt ≠ .chans) (h1 : pt ≠ .phases) (h2 : pt ≠ .rails) (h3 : pt ≠ .vcs)
    (h4 : pt ≠ .watch) (p : Fin 32) (c : Chip) :
    part pt (phaseDrop p c) = part pt c := by
  unfold phaseDrop
  dsimp only
  repeat' split
  all_goals simp [*]

@[simp] theorem railCapLevel_part (pt : Part) (h0 : pt ≠ .chans) (h1 : pt ≠ .rails) (h2 : pt ≠ .vcs) (r : Fin 16)
    (level : Nat) (c : Chip) :
    part pt (railCapLevel r level c) = part pt c := by
  unfold railCapLevel
  dsimp only
  repeat' split
  all_goals simp [*]

@[simp] theorem capreqSet_part (pt : Part) (h0 : pt ≠ .rails) (h1 : pt ≠ .watch) (r : Fin 16) (c : Chip) :
    part pt (capreqSet r c) = part pt c := by
  unfold capreqSet
  repeat' split
  all_goals simp [*]

@[simp] theorem railCapFall_part (pt : Part) (h0 : pt ≠ .chans) (h1 : pt ≠ .rails) (h2 : pt ≠ .vcs) (r : Fin 16) (c :
    Chip) :
    part pt (railCapFall r c) = part pt c := by
  unfold railCapFall
  dsimp only
  repeat' split
  all_goals simp [*]

@[simp] theorem railCapRise_part (pt : Part) (h0 : pt ≠ .chans) (h1 : pt ≠ .rails) (h2 : pt ≠ .vcs) (r : Fin 16) (c :
    Chip) :
    part pt (railCapRise r c) = part pt c := by
  unfold railCapRise
  dsimp only
  repeat' split
  all_goals simp [*]

@[simp] theorem millStep_part (pt : Part) (h0 : pt ≠ .mills) (m : Fin 16) (w : BitVec 48) (touched : List (Fin 128))
    (f : Mill → Mill) (c : Chip) :
    part pt (millStep m w touched f c) = part pt c := by
  unfold millStep
  repeat' split
  all_goals simp [*]

@[simp] theorem traceNote_part (pt : Part) (h0 : pt ≠ .mills) (m : Fin 16) (kind pc : Nat) (w : Word) (c : Chip) :
    part pt (traceNote m kind pc w c) = part pt c := by
  unfold traceNote
  simp [*]

@[simp] theorem traceCapture_part (pt : Part) (h0 : pt ≠ .mills) (h1 : pt ≠ .fresh) (m : Fin 16) (c : Chip) :
    part pt (traceCapture m c) = part pt c := by
  unfold traceCapture
  simp [*]

@[simp] theorem traceEnd_part (pt : Part) (h0 : pt ≠ .mills) (h1 : pt ≠ .fresh) (m : Fin 16) (slot : Fin 4) (c : Chip)
    :
    part pt (traceEnd m slot c) = part pt c := by
  unfold traceEnd
  dsimp only
  repeat' split
  all_goals simp [*]

@[simp] theorem traceCtl_part (pt : Part) (h0 : pt ≠ .mills) (m : Fin 16) (v : Int) (c : Chip) :
    part pt (traceCtl m v c) = part pt c := by
  unfold traceCtl
  repeat' split
  all_goals simp [*]

@[simp] theorem insNop_part (pt : Part) (h0 : pt ≠ .mills) (m : Fin 16) (c : Chip) :
    part pt (insNop m c) = part pt c := by
  unfold insNop
  simp [*]

@[simp] theorem endRun_part (pt : Part) (h0 : pt ≠ .mills) (h1 : pt ≠ .fresh) (m : Fin 16) (c : Chip) :
    part pt (endRun m c) = part pt c := by
  unfold endRun
  repeat' split
  all_goals simp [*]

@[simp] theorem insEnd_part (pt : Part) (h0 : pt ≠ .mills) (h1 : pt ≠ .fresh) (m : Fin 16) (c : Chip) :
    part pt (insEnd m c) = part pt c := by
  unfold insEnd
  repeat' split
  all_goals simp [*]

@[simp] theorem insBr_part (pt : Part) (h0 : pt ≠ .mills) (m : Fin 16) (cond : BitVec 3) (addr : BitVec 11) (c : Chip)
    :
    part pt (insBr m cond addr c) = part pt c := by
  unfold insBr
  repeat' split
  all_goals simp [*]

@[simp] theorem insLdi_part (pt : Part) (h0 : pt ≠ .mills) (m : Fin 16) (d : Fin 128) (imm : Word) (c : Chip) :
    part pt (insLdi m d imm c) = part pt c := by
  unfold insLdi
  simp [*]

@[simp] theorem insMov_part (pt : Part) (h0 : pt ≠ .mills) (m : Fin 16) (d a : Fin 128) (c : Chip) :
    part pt (insMov m d a c) = part pt c := by
  unfold insMov
  simp [*]

@[simp] theorem insClra_part (pt : Part) (h0 : pt ≠ .mills) (m : Fin 16) (c : Chip) :
    part pt (insClra m c) = part pt c := by
  unfold insClra
  simp [*]

@[simp] theorem insLda_part (pt : Part) (h0 : pt ≠ .mills) (m : Fin 16) (a : Fin 128) (f : BitVec 6) (c : Chip) :
    part pt (insLda m a f c) = part pt c := by
  unfold insLda
  simp [*]

@[simp] theorem insSta_part (pt : Part) (h0 : pt ≠ .mills) (m : Fin 16) (d : Fin 128) (round : Bool) (c : Chip) :
    part pt (insSta m d round c) = part pt c := by
  unfold insSta
  repeat' split
  all_goals simp [*]

@[simp] theorem productStep_part (pt : Part) (h0 : pt ≠ .mills) (op : Nat) (m : Fin 16) (s : Fin 256) (a : Fin 128) (f
    : BitVec 6) (g : Int → Int → Int) (c : Chip) :
    part pt (productStep op m s a f g c) = part pt c := by
  unfold productStep
  dsimp only
  repeat' split
  all_goals simp [*]

@[simp] theorem insMac_part (pt : Part) (h0 : pt ≠ .mills) (m : Fin 16) (s : Fin 256) (a : Fin 128) (f : BitVec 6) (c
    : Chip) :
    part pt (insMac m s a f c) = part pt c := by
  unfold insMac
  simp [*]

@[simp] theorem insMsu_part (pt : Part) (h0 : pt ≠ .mills) (m : Fin 16) (s : Fin 256) (a : Fin 128) (f : BitVec 6) (c
    : Chip) :
    part pt (insMsu m s a f c) = part pt c := by
  unfold insMsu
  simp [*]

@[simp] theorem insMpy_part (pt : Part) (h0 : pt ≠ .mills) (m : Fin 16) (s : Fin 256) (a : Fin 128) (f : BitVec 6) (c
    : Chip) :
    part pt (insMpy m s a f c) = part pt c := by
  unfold insMpy
  simp [*]

@[simp] theorem insAdd_part (pt : Part) (h0 : pt ≠ .mills) (m : Fin 16) (d a b : Fin 128) (c : Chip) :
    part pt (insAdd m d a b c) = part pt c := by
  unfold insAdd
  simp [*]

@[simp] theorem insSub_part (pt : Part) (h0 : pt ≠ .mills) (m : Fin 16) (d a b : Fin 128) (c : Chip) :
    part pt (insSub m d a b c) = part pt c := by
  unfold insSub
  simp [*]

@[simp] theorem insMin_part (pt : Part) (h0 : pt ≠ .mills) (m : Fin 16) (d a b : Fin 128) (c : Chip) :
    part pt (insMin m d a b c) = part pt c := by
  unfold insMin
  simp [*]

@[simp] theorem insMax_part (pt : Part) (h0 : pt ≠ .mills) (m : Fin 16) (d a b : Fin 128) (c : Chip) :
    part pt (insMax m d a b c) = part pt c := by
  unfold insMax
  simp [*]

@[simp] theorem insClamp_part (pt : Part) (h0 : pt ≠ .mills) (m : Fin 16) (d a b : Fin 128) (c : Chip) :
    part pt (insClamp m d a b c) = part pt c := by
  unfold insClamp
  simp [*]

@[simp] theorem insAbs_part (pt : Part) (h0 : pt ≠ .mills) (m : Fin 16) (d a : Fin 128) (c : Chip) :
    part pt (insAbs m d a c) = part pt c := by
  unfold insAbs
  simp [*]

@[simp] theorem insNeg_part (pt : Part) (h0 : pt ≠ .mills) (m : Fin 16) (d a : Fin 128) (c : Chip) :
    part pt (insNeg m d a c) = part pt c := by
  unfold insNeg
  simp [*]

@[simp] theorem insAsh_part (pt : Part) (h0 : pt ≠ .mills) (m : Fin 16) (d a : Fin 128) (f : BitVec 6) (c : Chip) :
    part pt (insAsh m d a f c) = part pt c := by
  unfold insAsh
  simp [*]

@[simp] theorem insMuls_part (pt : Part) (h0 : pt ≠ .mills) (m : Fin 16) (d a b : Fin 128) (k : BitVec 6) (c : Chip) :
    part pt (insMuls m d a b k c) = part pt c := by
  unfold insMuls
  simp [*]

@[simp] theorem insDiv_part (pt : Part) (h0 : pt ≠ .mills) (m : Fin 16) (d a b : Fin 128) (k : BitVec 6) (c : Chip) :
    part pt (insDiv m d a b k c) = part pt c := by
  unfold insDiv
  simp [*]

@[simp] theorem insCmp_part (pt : Part) (h0 : pt ≠ .mills) (m : Fin 16) (a b : Fin 128) (c : Chip) :
    part pt (insCmp m a b c) = part pt c := by
  unfold insCmp
  simp [*]

@[simp] theorem insAnd_part (pt : Part) (h0 : pt ≠ .mills) (m : Fin 16) (d a b : Fin 128) (c : Chip) :
    part pt (insAnd m d a b c) = part pt c := by
  unfold insAnd
  simp [*]

@[simp] theorem insOr_part (pt : Part) (h0 : pt ≠ .mills) (m : Fin 16) (d a b : Fin 128) (c : Chip) :
    part pt (insOr m d a b c) = part pt c := by
  unfold insOr
  simp [*]

@[simp] theorem insXor_part (pt : Part) (h0 : pt ≠ .mills) (m : Fin 16) (d a b : Fin 128) (c : Chip) :
    part pt (insXor m d a b c) = part pt c := by
  unfold insXor
  simp [*]

@[simp] theorem insRd_part (pt : Part) (h0 : pt ≠ .mills) (m : Fin 16) (d : Fin 128) (ch : Fin 256) (status : Bool) (c
    : Chip) :
    part pt (insRd m d ch status c) = part pt c := by
  unfold insRd
  repeat' split
  all_goals simp [*]

@[simp] theorem rdLand_part (pt : Part) (h0 : pt ≠ .mills) (h1 : pt ≠ .fresh) (m : Fin 16) (d : Fin 128) (c : Chip) :
    part pt (rdLand m d c) = part pt c := by
  unfold rdLand
  repeat' split
  all_goals simp [*]

@[simp] theorem insWr_part (pt : Part) (h0 : pt ≠ .mills) (h1 : pt ≠ .watch) (m : Fin 16) (cls : BitVec 8) (index :
    BitVec 11) (a : Fin 128) (c : Chip) :
    part pt (insWr m cls index a c) = part pt c := by
  unfold insWr
  dsimp only
  repeat' split
  all_goals simp [*]

@[simp] theorem deliver_part (pt : Part) (h0 : pt ≠ .chans) (h1 : pt ≠ .rms) (h2 : pt ≠ .phases) (h3 : pt ≠ .rails)
    (h4 : pt ≠ .vcs) (h5 : pt ≠ .mills) (h6 : pt ≠ .watch) (m : Fin 16) (q : MillOutput) (c : Chip) :
    part pt (deliver m q c) = part pt c := by
  unfold deliver
  dsimp only
  repeat' split
  all_goals simp [*]

@[simp] theorem millOutputDelivery_part (pt : Part) (h0 : pt ≠ .chans) (h1 : pt ≠ .rms) (h2 : pt ≠ .phases) (h3 : pt ≠
    .rails) (h4 : pt ≠ .vcs) (h5 : pt ≠ .mills) (h6 : pt ≠ .watch) (m : Fin 16) (c : Chip) :
    part pt (millOutputDelivery m c) = part pt c := by
  unfold millOutputDelivery
  repeat' split
  all_goals simp [*]

@[simp] theorem millTrigger_part (pt : Part) (h0 : pt ≠ .mills) (h1 : pt ≠ .watch) (m : Fin 16) (k : Fin 4) (c : Chip)
    :
    part pt (millTrigger m k c) = part pt c := by
  unfold millTrigger
  repeat' split
  all_goals simp [*]

@[simp] theorem millRunStart_part (pt : Part) (h0 : pt ≠ .mills) (m : Fin 16) (c : Chip) :
    part pt (millRunStart m c) = part pt c := by
  unfold millRunStart
  dsimp only
  repeat' split
  all_goals simp [*]

@[simp] theorem stockRun_part (pt : Part) (h0 : pt ≠ .mills) (h1 : pt ≠ .fresh) (u : Unit4) (law : Chip → Chip) (c : Chip)
    (h : ∀ c, part pt (law c) = part pt c) :
    part pt (stockRun u law c) = part pt c := by
  unfold stockRun
  simp [*]

@[simp] theorem bankCopyDone_part (pt : Part) (h0 : pt ≠ .mills) (m : Fin 16) (c : Chip) :
    part pt (bankCopyDone m c) = part pt c := by
  unfold bankCopyDone
  repeat' split
  all_goals simp [*]

@[simp] theorem stageCoef_part (pt : Part) (h0 : pt ≠ .mills) (m : Fin 16) (s : Fin 256) (k : Coef) (c : Chip) :
    part pt (stageCoef m s k c) = part pt c := by
  unfold stageCoef
  simp [*]

@[simp] theorem bankSwitch_part (pt : Part) (h0 : pt ≠ .mills) (m : Fin 16) (c : Chip) :
    part pt (bankSwitch m c) = part pt c := by
  unfold bankSwitch
  dsimp only
  repeat' split
  all_goals simp [*]

@[simp] theorem derive_part (pt : Part) (h0 : pt ≠ .bus) (h1 : pt ≠ .mills) (h2 : pt ≠ .hampers) (c : Chip) :
    part pt (derive c) = part pt c := by
  unfold derive
  dsimp only
  rw [setBus_part _ (by assumption) , setHampers_part _ (by assumption) ]
  refine each_part _ _ _ _ fun m c => ?_
  exact each_part _ _ _ _ fun e c => by simp [*]

@[simp] theorem clearUnit_part (pt : Part) (h0 : pt ≠ .rms) (h1 : pt ≠ .bus) (h2 : pt ≠ .well) (h3 : pt ≠ .phases) (h4
    : pt ≠ .rails) (h5 : pt ≠ .strs) (h6 : pt ≠ .batt) (c₀ : Chip) (u : Unit4) (c : Chip) :
    part pt (clearUnit c₀ u c) = part pt c := by
  unfold clearUnit
  dsimp only
  repeat' split
  all_goals simp [*]

@[simp] theorem loadMill_part (pt : Part) (h0 : pt ≠ .rms) (h1 : pt ≠ .bus) (h2 : pt ≠ .well) (h3 : pt ≠ .phases) (h4
    : pt ≠ .rails) (h5 : pt ≠ .strs) (h6 : pt ≠ .batt) (h7 : pt ≠ .mills) (m : Fin 16) (c : Chip) :
    part pt (loadMill m c) = part pt c := by
  unfold loadMill
  simp [*]

@[simp] theorem millLoad_part (pt : Part) (h0 : pt ≠ .hamlets) (h1 : pt ≠ .green) (h2 : pt ≠ .rms) (h3 : pt ≠ .bus)
    (h4 : pt ≠ .well) (h5 : pt ≠ .phases) (h6 : pt ≠ .rails) (h7 : pt ≠ .strs) (h8 : pt ≠ .batt) (h9 : pt ≠ .mills)
    (h10 : pt ≠ .market) (m : Fin 16) (c : Chip) :
    part pt (millLoad m c) = part pt c := by
  unfold millLoad
  dsimp only
  repeat' split
  all_goals simp [*]

@[simp] theorem uvMoves_part (pt : Part) (h0 : pt ≠ .wms) (m : Fin 64) (c : Chip) :
    part pt (uvMoves m c) = part pt c := by
  unfold uvMoves
  repeat' split
  all_goals simp [*]

@[simp] theorem ovMoves_part (pt : Part) (h0 : pt ≠ .wms) (m : Fin 64) (c : Chip) :
    part pt (ovMoves m c) = part pt c := by
  unfold ovMoves
  repeat' split
  all_goals simp [*]

@[simp] theorem railKillLine_part (pt : Part) (h0 : pt ≠ .phases) (h1 : pt ≠ .rails) (h2 : pt ≠ .vcs) (h3 : pt ≠
    .watch) (r : Fin 16) (c : Chip) :
    part pt (railKillLine r c) = part pt c := by
  unfold railKillLine
  simp [*]

@[simp] theorem wmFaultOnset_part (pt : Part) (h0 : pt ≠ .phases) (h1 : pt ≠ .rails) (h2 : pt ≠ .vcs) (h3 : pt ≠ .wms)
    (h4 : pt ≠ .watch) (m : Fin 64) (ov : Bool) (c : Chip) :
    part pt (wmFaultOnset m ov c) = part pt c := by
  unfold wmFaultOnset
  dsimp only
  repeat' split
  all_goals simp [*]

@[simp] theorem wmFaultClear_part (pt : Part) (h0 : pt ≠ .wms) (m : Fin 64) (ov : Bool) (c : Chip) :
    part pt (wmFaultClear m ov c) = part pt c := by
  unfold wmFaultClear
  repeat' split
  all_goals simp [*]

@[simp] theorem wmWarningOnset_part (pt : Part) (h0 : pt ≠ .wms) (h1 : pt ≠ .watch) (m : Fin 64) (ov : Bool) (c :
    Chip) :
    part pt (wmWarningOnset m ov c) = part pt c := by
  unfold wmWarningOnset
  dsimp only
  repeat' split
  all_goals simp [*]

@[simp] theorem wmWarningClear_part (pt : Part) (h0 : pt ≠ .wms) (m : Fin 64) (ov : Bool) (c : Chip) :
    part pt (wmWarningClear m ov c) = part pt c := by
  unfold wmWarningClear
  dsimp only
  repeat' split
  all_goals simp [*]

@[simp] theorem wmDacReadback_part (pt : Part) (h0 : pt ≠ .wms) (h1 : pt ≠ .watch) (m : Fin 64) (ov : Bool) (reading :
    BitVec 12) (c : Chip) :
    part pt (wmDacReadback m ov reading c) = part pt c := by
  unfold wmDacReadback
  dsimp only
  repeat' split
  all_goals simp [*]

@[simp] theorem wmDisable_part (pt : Part) (h0 : pt ≠ .wms) (m : Fin 64) (c : Chip) :
    part pt (wmDisable m c) = part pt c := by
  unfold wmDisable
  simp [*]

@[simp] theorem wmConfigured_part (pt : Part) (h0 : pt ≠ .wms) (m : Fin 64) (c : Chip) :
    part pt (wmConfigured m c) = part pt c := by
  unfold wmConfigured
  dsimp only
  repeat' split
  all_goals simp [*]

@[simp] theorem marginApplied_part (pt : Part) (h0 : pt ≠ .rails) (h1 : pt ≠ .wms) (h2 : pt ≠ .watch) (r : Fin 16) (c
    : Chip) :
    part pt (marginApplied r c) = part pt c := by
  unfold marginApplied
  dsimp only
  repeat' split
  all_goals simp [*]

@[simp] theorem marginNarrowMove_part (pt : Part) (h0 : pt ≠ .wms) (m : Fin 64) (c : Chip) :
    part pt (marginNarrowMove m c) = part pt c := by
  unfold marginNarrowMove
  repeat' split
  all_goals simp [*]

@[simp] theorem slotWrite_part (pt : Part) (h0 : pt ≠ .batt) (h1 : pt ≠ .nor) (h2 : pt ≠ .fresh) (c : Chip) :
    part pt (slotWrite c) = part pt c := by
  unfold slotWrite
  repeat' split
  all_goals simp [*]

@[simp] theorem estimatorSlotWriteDone_part (pt : Part) (h0 : pt ≠ .batt) (h1 : pt ≠ .nor) (h2 : pt ≠ .fresh) (c :
    Chip) :
    part pt (estimatorSlotWriteDone c) = part pt c := by
  unfold estimatorSlotWriteDone
  repeat' split
  all_goals simp [*]

@[simp] theorem estimatorSaveInterval_part (pt : Part) (h0 : pt ≠ .batt) (h1 : pt ≠ .nor) (h2 : pt ≠ .fresh) (c :
    Chip) :
    part pt (estimatorSaveInterval c) = part pt c := by
  unfold estimatorSaveInterval
  simp [*]

@[simp] theorem resetEstimate_part (pt : Part) (h0 : pt ≠ .strs) (h1 : pt ≠ .ests) (h2 : pt ≠ .watch) (h3 : pt ≠
    .fresh) (s : Fin 4) (c : Chip) :
    part pt (resetEstimate s c) = part pt c := by
  unfold resetEstimate
  simp [*]

@[simp] theorem reinsertionCheck_part (pt : Part) (h0 : pt ≠ .strs) (h1 : pt ≠ .ests) (h2 : pt ≠ .watch) (h3 : pt ≠
    .fresh) (s : Fin 4) (c : Chip) :
    part pt (reinsertionCheck s c) = part pt c := by
  unfold reinsertionCheck
  dsimp only
  repeat' split
  all_goals simp [*]

@[simp] theorem strGo_part (pt : Part) (h0 : pt ≠ .strs) (s : Fin 4) (st : StrState) (c : Chip) :
    part pt (strGo s st c) = part pt c := by
  unfold strGo
  repeat' split
  all_goals simp [*]

@[simp] theorem openSwitch_part (pt : Part) (h0 : pt ≠ .strs) (s : Fin 4) (c : Chip) :
    part pt (openSwitch s c) = part pt c := by
  unfold openSwitch
  repeat' split
  all_goals simp [*]

@[simp] theorem toQualifying_part (pt : Part) (h0 : pt ≠ .strs) (s : Fin 4) (c : Chip) :
    part pt (toQualifying s c) = part pt c := by
  unfold toQualifying
  simp [*]

@[simp] theorem toInService_part (pt : Part) (h0 : pt ≠ .strs) (h1 : pt ≠ .ests) (h2 : pt ≠ .watch) (h3 : pt ≠ .fresh)
    (s : Fin 4) (c : Chip) :
    part pt (toInService s c) = part pt c := by
  unfold toInService
  simp [*]

@[simp] theorem strFault_part (pt : Part) (h0 : pt ≠ .strs) (h1 : pt ≠ .watch) (s : Fin 4) (c : Chip) :
    part pt (strFault s c) = part pt c := by
  unfold strFault
  simp [*]

@[simp] theorem stringPresenceAbsent_part (pt : Part) (h0 : pt ≠ .strs) (h1 : pt ≠ .batt) (h2 : pt ≠ .nor) (h3 : pt ≠
    .fresh) (n : Fin 4) (c : Chip) :
    part pt (stringPresenceAbsent n c) = part pt c := by
  unfold stringPresenceAbsent
  repeat' split
  all_goals simp [*]

@[simp] theorem strClose_part (pt : Part) (h0 : pt ≠ .strs) (n : Fin 4) (c : Chip) :
    part pt (strClose n c) = part pt c := by
  unfold strClose
  dsimp only
  repeat' split
  all_goals simp [*]

@[simp] theorem stringQualified_part (pt : Part) (h0 : pt ≠ .strs) (n : Fin 4) (c : Chip) :
    part pt (stringQualified n c) = part pt c := by
  unfold stringQualified
  repeat' split
  all_goals simp [*]

@[simp] theorem strRelease_part (pt : Part) (h0 : pt ≠ .strs) (n : Fin 4) (c : Chip) :
    part pt (strRelease n c) = part pt c := by
  unfold strRelease
  repeat' split
  all_goals simp [*]

@[simp] theorem shipPatternComplete_part (pt : Part) (h0 : pt ≠ .strs) (h1 : pt ≠ .batt) (h2 : pt ≠ .nor) (h3 : pt ≠
    .fresh) (n : Fin 4) (c : Chip) :
    part pt (shipPatternComplete n c) = part pt c := by
  unfold shipPatternComplete
  dsimp only
  repeat' split
  all_goals simp [*]

@[simp] theorem switchFeedbackClosed_part (pt : Part) (h0 : pt ≠ .strs) (h1 : pt ≠ .ests) (h2 : pt ≠ .watch) (h3 : pt
    ≠ .fresh) (n : Fin 4) (c : Chip) :
    part pt (switchFeedbackClosed n c) = part pt c := by
  unfold switchFeedbackClosed
  dsimp only
  repeat' split
  all_goals simp [*]

@[simp] theorem switchFeedbackTimeout_part (pt : Part) (h0 : pt ≠ .strs) (h1 : pt ≠ .watch) (n : Fin 4) (c : Chip) :
    part pt (switchFeedbackTimeout n c) = part pt c := by
  unfold switchFeedbackTimeout
  repeat' split
  all_goals simp [*]

@[simp] theorem fallowAbortMarks_part (pt : Part) (h0 : pt ≠ .strs) (h1 : pt ≠ .batt) (h2 : pt ≠ .watch) (h3 : pt ≠
    .alm) (s : Fin 4) (c : Chip) :
    part pt (fallowAbortMarks s c) = part pt c := by
  unfold fallowAbortMarks
  simp [*]

@[simp] theorem fallowAbort_part (pt : Part) (h0 : pt ≠ .strs) (h1 : pt ≠ .batt) (h2 : pt ≠ .watch) (h3 : pt ≠ .alm)
    (c : Chip) :
    part pt (fallowAbort c) = part pt c := by
  unfold fallowAbort
  repeat' split
  all_goals simp [*]

@[simp] theorem fallowLost_part (pt : Part) (h0 : pt ≠ .strs) (h1 : pt ≠ .batt) (h2 : pt ≠ .watch) (h3 : pt ≠ .alm) (s
    : Fin 4) (c : Chip) :
    part pt (fallowLost s c) = part pt c := by
  unfold fallowLost
  simp [*]

@[simp] theorem fallowCheck_part (pt : Part) (h0 : pt ≠ .strs) (h1 : pt ≠ .batt) (c : Chip) :
    part pt (fallowCheck c) = part pt c := by
  unfold fallowCheck
  dsimp only
  repeat' split
  all_goals simp [*]

@[simp] theorem fallowConditionFail_part (pt : Part) (h0 : pt ≠ .strs) (h1 : pt ≠ .batt) (h2 : pt ≠ .watch) (h3 : pt ≠
    .alm) (c : Chip) :
    part pt (fallowConditionFail c) = part pt c := by
  unfold fallowConditionFail
  repeat' split
  all_goals simp [*]

@[simp] theorem fallowNoRest_part (pt : Part) (h0 : pt ≠ .strs) (h1 : pt ≠ .batt) (h2 : pt ≠ .watch) (h3 : pt ≠ .alm)
    (c : Chip) :
    part pt (fallowNoRest c) = part pt c := by
  unfold fallowNoRest
  repeat' split
  all_goals simp [*]

@[simp] theorem stringRemoval_part (pt : Part) (h0 : pt ≠ .strs) (h1 : pt ≠ .batt) (h2 : pt ≠ .watch) (h3 : pt ≠ .alm)
    (h4 : pt ≠ .nor) (h5 : pt ≠ .fresh) (n : Fin 4) (cause : RemovalCause) (c : Chip) :
    part pt (stringRemoval n cause c) = part pt c := by
  unfold stringRemoval
  repeat' split
  all_goals simp [*]

@[simp] theorem stringReinsertion_part (pt : Part) (h0 : pt ≠ .strs) (h1 : pt ≠ .ests) (h2 : pt ≠ .watch) (h3 : pt ≠
    .fresh) (n : Fin 4) (closed : Bool) (c : Chip) :
    part pt (stringReinsertion n closed c) = part pt c := by
  unfold stringReinsertion
  dsimp only
  repeat' split
  all_goals simp [*]

@[simp] theorem requalify_part (pt : Part) (h0 : pt ≠ .strs) (n : Fin 4) (c : Chip) :
    part pt (requalify n c) = part pt c := by
  unfold requalify
  repeat' split
  all_goals simp [*]

@[simp] theorem strRailApplied_part (pt : Part) (h0 : pt ≠ .strs) (h1 : pt ≠ .batt) (h2 : pt ≠ .watch) (h3 : pt ≠
    .alm) (n : Fin 4) (c : Chip) :
    part pt (strRailApplied n c) = part pt c := by
  unfold strRailApplied
  repeat' split
  all_goals simp [*]

@[simp] theorem ntcFail_part (pt : Part) (h0 : pt ≠ .chans) (h1 : pt ≠ .strs) (h2 : pt ≠ .watch) (n : Fin 4) (c :
    Chip) :
    part pt (ntcFail n c) = part pt c := by
  unfold ntcFail
  dsimp only
  repeat' split
  all_goals simp [*]

@[simp] theorem shipCancel_part (pt : Part) (h0 : pt ≠ .strs) (h1 : pt ≠ .batt) (c : Chip) :
    part pt (shipCancel c) = part pt c := by
  unfold shipCancel
  simp [*]

@[simp] theorem shipOpening_part (pt : Part) (h0 : pt ≠ .strs) (h1 : pt ≠ .batt) (h2 : pt ≠ .watch) (h3 : pt ≠ .alm)
    (h4 : pt ≠ .nor) (h5 : pt ≠ .fresh) (c : Chip) :
    part pt (shipOpening c) = part pt c := by
  unfold shipOpening
  repeat' split
  all_goals simp [*]

@[simp] theorem shipSourceGood_part (pt : Part) (h0 : pt ≠ .strs) (h1 : pt ≠ .batt) (c : Chip) :
    part pt (shipSourceGood c) = part pt c := by
  unfold shipSourceGood
  repeat' split
  all_goals simp [*]

@[simp] theorem longPress_part (pt : Part) (h0 : pt ≠ .strs) (h1 : pt ≠ .batt) (h2 : pt ≠ .watch) (h3 : pt ≠ .alm) (h4
    : pt ≠ .nor) (h5 : pt ≠ .fresh) (c : Chip) :
    part pt (longPress c) = part pt c := by
  unfold longPress
  repeat' split
  all_goals simp [*]

@[simp] theorem longPressOpenEnd_part (pt : Part) (h0 : pt ≠ .strs) (h1 : pt ≠ .batt) (c : Chip) :
    part pt (longPressOpenEnd c) = part pt c := by
  unfold longPressOpenEnd
  repeat' split
  all_goals simp [*]

@[simp] theorem battBeat_part (pt : Part) (h0 : pt ≠ .batt) (c : Chip) :
    part pt (battBeat c) = part pt c := by
  unfold battBeat
  simp [*]

@[simp] theorem battWatchdogExpiry_part (pt : Part) (h0 : pt ≠ .strs) (h1 : pt ≠ .batt) (h2 : pt ≠ .watch) (h3 : pt ≠
    .alm) (c : Chip) :
    part pt (battWatchdogExpiry c) = part pt c := by
  unfold battWatchdogExpiry
  repeat' split
  all_goals simp [*]

@[simp] theorem chargeObjectWritten_part (pt : Part) (h0 : pt ≠ .strs) (s : Fin 4) (c : Chip) :
    part pt (chargeObjectWritten s c) = part pt c := by
  unfold chargeObjectWritten
  repeat' split
  all_goals simp [*]

@[simp] theorem resistanceStep_part (pt : Part) (h0 : pt ≠ .ests) (s : Fin 4) (c : Chip) :
    part pt (resistanceStep s c) = part pt c := by
  unfold resistanceStep
  dsimp only
  repeat' split
  all_goals simp [*]

@[simp] theorem estimatorSample_part (pt : Part) (h0 : pt ≠ .chans) (h1 : pt ≠ .bus) (h2 : pt ≠ .strs) (h3 : pt ≠
    .ests) (h4 : pt ≠ .wms) (h5 : pt ≠ .mills) (h6 : pt ≠ .watch) (n : Fin 4) (samples : List Sample) (c : Chip) :
    part pt (estimatorSample n samples c) = part pt c := by
  unfold estimatorSample
  dsimp only
  repeat' split
  all_goals simp [*]

@[simp] theorem refreshEst_part (pt : Part) (h0 : pt ≠ .ests) (h1 : pt ≠ .fresh) (s : Fin 4) (c : Chip) :
    part pt (refreshEst s c) = part pt c := by
  unfold refreshEst
  simp [*]

@[simp] theorem estimatorRefresh_part (pt : Part) (h0 : pt ≠ .ests) (h1 : pt ≠ .fresh) (c : Chip) :
    part pt (estimatorRefresh c) = part pt c := by
  unfold estimatorRefresh
  exact when_part _ _ _ _ fun c => by simp [*]

@[simp] theorem learnCapacity_part (pt : Part) (h0 : pt ≠ .strs) (h1 : pt ≠ .ests) (h2 : pt ≠ .watch) (s : Fin 4) (soc
    : Nat) (c : Chip) :
    part pt (learnCapacity s soc c) = part pt c := by
  unfold learnCapacity
  dsimp only
  repeat' split
  all_goals simp [*]

@[simp] theorem takeAnchor_part (pt : Part) (h0 : pt ≠ .strs) (h1 : pt ≠ .ests) (h2 : pt ≠ .watch) (h3 : pt ≠ .fresh)
    (s : Fin 4) (c : Chip) :
    part pt (takeAnchor s c) = part pt c := by
  unfold takeAnchor
  simp [*]

@[simp] theorem restPoint_part (pt : Part) (h0 : pt ≠ .strs) (h1 : pt ≠ .ests) (h2 : pt ≠ .batt) (h3 : pt ≠ .watch)
    (h4 : pt ≠ .nor) (h5 : pt ≠ .fresh) (n : Fin 4) (c : Chip) :
    part pt (restPoint n c) = part pt c := by
  unfold restPoint
  dsimp only
  repeat' split
  all_goals simp [*]

@[simp] theorem chargeCcToAbsorb_part (pt : Part) (h0 : pt ≠ .strs) (n : Fin 4) (c : Chip) :
    part pt (chargeCcToAbsorb n c) = part pt c := by
  unfold chargeCcToAbsorb
  repeat' split
  all_goals simp [*]

@[simp] theorem absorbEnd_part (pt : Part) (h0 : pt ≠ .strs) (n : Fin 4) (c : Chip) :
    part pt (absorbEnd n c) = part pt c := by
  unfold absorbEnd
  repeat' split
  all_goals simp [*]

@[simp] theorem rebulk_part (pt : Part) (h0 : pt ≠ .strs) (n : Fin 4) (c : Chip) :
    part pt (rebulk n c) = part pt c := by
  unfold rebulk
  repeat' split
  all_goals simp [*]

@[simp] theorem stringOvervoltage_part (pt : Part) (h0 : pt ≠ .strs) (h1 : pt ≠ .watch) (n : Fin 4) (c : Chip) :
    part pt (stringOvervoltage n c) = part pt c := by
  unfold stringOvervoltage
  dsimp only
  repeat' split
  all_goals simp [*]

@[simp] theorem rmLeave_part (pt : Part) (h0 : pt ≠ .rms) (h1 : pt ≠ .bus) (n : Fin 8) (c : Chip) :
    part pt (rmLeave n c) = part pt c := by
  unfold rmLeave
  repeat' split
  all_goals simp [*]

@[simp] theorem rmRefresh_part (pt : Part) (h0 : pt ≠ .rms) (h1 : pt ≠ .bus) (h2 : pt ≠ .watch) (n : Fin 8) (c : Chip)
    :
    part pt (rmRefresh n c) = part pt c := by
  unfold rmRefresh
  simp [*]

@[simp] theorem trimsNeutral_part (pt : Part) (h0 : pt ≠ .rms) (h1 : pt ≠ .bus) (c : Chip) :
    part pt (trimsNeutral c) = part pt c := by
  unfold trimsNeutral
  simp [*]

@[simp] theorem shareOverrange_part (pt : Part) (h0 : pt ≠ .rms) (h1 : pt ≠ .bus) (h2 : pt ≠ .watch) (n : Fin 8) (c :
    Chip) :
    part pt (shareOverrange n c) = part pt c := by
  unfold shareOverrange
  dsimp only
  repeat' split
  all_goals simp [*]

@[simp] theorem shareStale_part (pt : Part) (h0 : pt ≠ .rms) (h1 : pt ≠ .bus) (h2 : pt ≠ .watch) (n : Fin 8) (failed :
    Bool) (c : Chip) :
    part pt (shareStale n failed c) = part pt c := by
  unfold shareStale
  simp [*]

@[simp] theorem rmAlarmDeglitched_part (pt : Part) (h0 : pt ≠ .rms) (h1 : pt ≠ .bus) (h2 : pt ≠ .watch) (n : Fin 8)
    (level : Bool) (c : Chip) :
    part pt (rmAlarmDeglitched n level c) = part pt c := by
  unfold rmAlarmDeglitched
  simp [*]

@[simp] theorem tapValidityChange_part (pt : Part) (h0 : pt ≠ .chans) (h1 : pt ≠ .bus) (h2 : pt ≠ .watch) (k : Fin 4)
    (inTolerance : Bool) (c : Chip) :
    part pt (tapValidityChange k inTolerance c) = part pt c := by
  unfold tapValidityChange
  repeat' split
  all_goals simp [*]

@[simp] theorem noValidTapRepeat_part (pt : Part) (h0 : pt ≠ .watch) (c : Chip) :
    part pt (noValidTapRepeat c) = part pt c := by
  unfold noValidTapRepeat
  simp [*]

@[simp] theorem busOutOfRange_part (pt : Part) (h0 : pt ≠ .watch) (c : Chip) :
    part pt (busOutOfRange c) = part pt c := by
  unfold busOutOfRange
  simp [*]

@[simp] theorem trimHome_part (pt : Part) (h0 : pt ≠ .rms) (n : Fin 8) (c : Chip) :
    part pt (trimHome n c) = part pt c := by
  unfold trimHome
  simp [*]

@[simp] theorem rmJoin_part (pt : Part) (h0 : pt ≠ .rms) (h1 : pt ≠ .bus) (n : Fin 8) (c : Chip) :
    part pt (rmJoin n c) = part pt c := by
  unfold rmJoin
  repeat' split
  all_goals simp [*]

@[simp] theorem busshareLaw_part (pt : Part) (h0 : pt ≠ .rms) (h1 : pt ≠ .bus) (u : Unit4) (c : Chip) :
    part pt (busshareLaw u c) = part pt c := by
  unfold busshareLaw
  simp [*]

@[simp] theorem busshareUnit_part (pt : Part) (h0 : pt ≠ .rms) (h1 : pt ≠ .bus) (u : Unit4) (c : Chip) :
    part pt (busshareUnit u c) = part pt c := by
  unfold busshareUnit
  dsimp only
  repeat' split
  all_goals simp [*]

@[simp] theorem trimStaleNeutral_part (pt : Part) (h0 : pt ≠ .rms) (h1 : pt ≠ .bus) (c : Chip) :
    part pt (trimStaleNeutral c) = part pt c := by
  unfold trimStaleNeutral
  simp [*]

@[simp] theorem shareFrameSend_part (pt : Part) (h0 : pt ≠ .lane) (c : Chip) :
    part pt (shareFrameSend c) = part pt c := by
  unfold shareFrameSend
  repeat' split
  all_goals simp [*]

@[simp] theorem plantTrimUpdate_part (pt : Part) (h0 : pt ≠ .bus) (h1 : pt ≠ .fresh) (c : Chip) :
    part pt (plantTrimUpdate c) = part pt c := by
  unfold plantTrimUpdate
  dsimp only
  repeat' split
  all_goals simp [*]

@[simp] theorem shareFrameReceive_part (pt : Part) (h0 : pt ≠ .bus) (node : Fin 1024) (p : SharePayload) (c : Chip) :
    part pt (shareFrameReceive node p c) = part pt c := by
  unfold shareFrameReceive
  repeat' split
  all_goals simp [*]

@[simp] theorem shareGroupSilent_part (pt : Part) (h0 : pt ≠ .bus) (h1 : pt ≠ .watch) (c : Chip) :
    part pt (shareGroupSilent c) = part pt c := by
  unfold shareGroupSilent
  repeat' split
  all_goals simp [*]

@[simp] theorem publishWell_part (pt : Part) (h0 : pt ≠ .well) (busPart : Rat) (c : Chip) :
    part pt (publishWell busPart c) = part pt c := by
  unfold publishWell
  simp [*]

@[simp] theorem wellrateUnit_part (pt : Part) (h0 : pt ≠ .chans) (h1 : pt ≠ .well) (h2 : pt ≠ .mills) (u : Unit4) (c :
    Chip) :
    part pt (wellrateUnit u c) = part pt c := by
  unfold wellrateUnit
  dsimp only
  repeat' split
  all_goals simp [*]

@[simp] theorem wellStringReplace_part (pt : Part) (h0 : pt ≠ .well) (c : Chip) :
    part pt (wellStringReplace c) = part pt c := by
  unfold wellStringReplace
  repeat' split
  all_goals simp [*]

@[simp] theorem wellStale_part (pt : Part) (h0 : pt ≠ .well) (h1 : pt ≠ .watch) (c : Chip) :
    part pt (wellStale c) = part pt c := by
  unfold wellStale
  repeat' split
  all_goals simp [*]

@[simp] theorem wellReeveUpdate_part (pt : Part) (h0 : pt ≠ .well) (c : Chip) :
    part pt (wellReeveUpdate c) = part pt c := by
  unfold wellReeveUpdate
  simp [*]

@[simp] theorem identify_part (pt : Part) (h0 : pt ≠ .well) (h1 : pt ≠ .hampers) (h2 : pt ≠ .watch) (c : Chip) :
    part pt (identify c) = part pt c := by
  unfold identify
  dsimp only
  repeat' split
  all_goals simp [*]

@[simp] theorem handoverComplete_part (pt : Part) (h0 : pt ≠ .bus) (h1 : pt ≠ .well) (h2 : pt ≠ .hampers) (h3 : pt ≠
    .watch) (timedOut : Bool) (c : Chip) :
    part pt (handoverComplete timedOut c) = part pt c := by
  unfold handoverComplete
  dsimp only
  repeat' split
  all_goals simp [*]

@[simp] theorem sourceBecomesGood_part (pt : Part) (h0 : pt ≠ .bus) (c : Chip) :
    part pt (sourceBecomesGood c) = part pt c := by
  unfold sourceBecomesGood
  repeat' split
  all_goals simp [*]

@[simp] theorem sourceStopsGood_part (pt : Part) (h0 : pt ≠ .bus) (c : Chip) :
    part pt (sourceStopsGood c) = part pt c := by
  unfold sourceStopsGood
  repeat' split
  all_goals simp [*]

@[simp] theorem sourceQualified_part (pt : Part) (h0 : pt ≠ .bus) (h1 : pt ≠ .strs) (c : Chip) :
    part pt (sourceQualified c) = part pt c := by
  unfold sourceQualified
  repeat' split
  all_goals simp [*]

@[simp] theorem handbackRampEnd_part (pt : Part) (h0 : pt ≠ .bus) (h1 : pt ≠ .batt) (c : Chip) :
    part pt (handbackRampEnd c) = part pt c := by
  unfold handbackRampEnd
  repeat' split
  all_goals simp [*]

@[simp] theorem ppOff_part (pt : Part) (h0 : pt ≠ .pps) (n : Fin 8) (c : Chip) :
    part pt (ppOff n c) = part pt c := by
  unfold ppOff
  simp [*]

@[simp] theorem ppWait_part (pt : Part) (h0 : pt ≠ .pps) (n : Fin 8) (c : Chip) :
    part pt (ppWait n c) = part pt c := by
  unfold ppWait
  simp [*]

@[simp] theorem ppStart_part (pt : Part) (h0 : pt ≠ .pps) (n : Fin 8) (c : Chip) :
    part pt (ppStart n c) = part pt c := by
  unfold ppStart
  repeat' split
  all_goals simp [*]

@[simp] theorem ppStop_part (pt : Part) (h0 : pt ≠ .pps) (n : Fin 8) (c : Chip) :
    part pt (ppStop n c) = part pt c := by
  unfold ppStop
  repeat' split
  all_goals simp [*]

@[simp] theorem ppRamp_part (pt : Part) (h0 : pt ≠ .pps) (n : Fin 8) (c : Chip) :
    part pt (ppRamp n c) = part pt c := by
  unfold ppRamp
  simp [*]

@[simp] theorem ppOn_part (pt : Part) (h0 : pt ≠ .pps) (n : Fin 8) (c : Chip) :
    part pt (ppOn n c) = part pt c := by
  unfold ppOn
  simp [*]

@[simp] theorem ppTrip_part (pt : Part) (h0 : pt ≠ .pps) (h1 : pt ≠ .watch) (n : Fin 8) (killed : Bool) (c : Chip) :
    part pt (ppTrip n killed c) = part pt c := by
  unfold ppTrip
  simp [*]

@[simp] theorem ppKill_part (pt : Part) (h0 : pt ≠ .pps) (h1 : pt ≠ .watch) (n : Fin 8) (pair : Int) (c : Chip) :
    part pt (ppKill n pair c) = part pt c := by
  unfold ppKill
  dsimp only
  repeat' split
  all_goals simp [*]

@[simp] theorem oringReverseTurnoff_part (pt : Part) (h0 : pt ≠ .pps) (h1 : pt ≠ .watch) (n : Fin 8) (pair : Int) (c :
    Chip) :
    part pt (oringReverseTurnoff n pair c) = part pt c := by
  unfold oringReverseTurnoff
  dsimp only
  repeat' split
  all_goals simp [*]

@[simp] theorem ppWindows_part (pt : Part) (h0 : pt ≠ .pps) (n : Fin 8) (c : Chip) :
    part pt (ppWindows n c) = part pt c := by
  unfold ppWindows
  simp [*]

@[simp] theorem ppTimer_part (pt : Part) (h0 : pt ≠ .pps) (n : Fin 8) (c : Chip) :
    part pt (ppTimer n c) = part pt c := by
  unfold ppTimer
  repeat' split
  all_goals simp [*]

@[simp] theorem ppWindowLost_part (pt : Part) (h0 : pt ≠ .pps) (h1 : pt ≠ .watch) (n : Fin 8) (c : Chip) :
    part pt (ppWindowLost n c) = part pt c := by
  unfold ppWindowLost
  simp [*]

@[simp] theorem ppSenseLost_part (pt : Part) (h0 : pt ≠ .pps) (n : Fin 8) (c : Chip) :
    part pt (ppSenseLost n c) = part pt c := by
  unfold ppSenseLost
  simp [*]

@[simp] theorem ppTransitions_part (pt : Part) (h0 : pt ≠ .pps) (h1 : pt ≠ .watch) (n : Fin 8) (c : Chip) :
    part pt (ppTransitions n c) = part pt c := by
  unfold ppTransitions
  dsimp only
  repeat' split
  all_goals simp [*]

@[simp] theorem ppAssert_part (pt : Part) (h0 : pt ≠ .pps) (n : Fin 8) (c : Chip) :
    part pt (ppAssert n c) = part pt c := by
  unfold ppAssert
  simp [*]

@[simp] theorem ppWithdraw_part (pt : Part) (h0 : pt ≠ .pps) (n : Fin 8) (c : Chip) :
    part pt (ppWithdraw n c) = part pt c := by
  unfold ppWithdraw
  simp [*]

@[simp] theorem ppPg_part (pt : Part) (h0 : pt ≠ .pps) (n : Fin 8) (c : Chip) :
    part pt (ppPg n c) = part pt c := by
  unfold ppPg
  dsimp only
  repeat' split
  all_goals simp [*]

@[simp] theorem ppPower_part (pt : Part) (h0 : pt ≠ .pps) (n : Fin 8) (c : Chip) :
    part pt (ppPower n c) = part pt c := by
  unfold ppPower
  repeat' split
  all_goals simp [*]

@[simp] theorem ppTick_part (pt : Part) (h0 : pt ≠ .pps) (h1 : pt ≠ .watch) (n : Fin 8) (c : Chip) :
    part pt (ppTick n c) = part pt c := by
  unfold ppTick
  simp [*]

@[simp] theorem ppGateLoop_part (pt : Part) (h0 : pt ≠ .pps) (n : Fin 8) (voltageTerm currentTerm : BitVec 12) (c :
    Chip) :
    part pt (ppGateLoop n voltageTerm currentTerm c) = part pt c := by
  unfold ppGateLoop
  repeat' split
  all_goals simp [*]

@[simp] theorem ppInsertElapsed_part (pt : Part) (h0 : pt ≠ .pps) (n : Fin 8) (c : Chip) :
    part pt (ppInsertElapsed n c) = part pt c := by
  unfold ppInsertElapsed
  repeat' split
  all_goals simp [*]

@[simp] theorem ppRampComplete_part (pt : Part) (h0 : pt ≠ .pps) (n : Fin 8) (c : Chip) :
    part pt (ppRampComplete n c) = part pt c := by
  unfold ppRampComplete
  repeat' split
  all_goals simp [*]

@[simp] theorem ppFaultTimerExpiry_part (pt : Part) (h0 : pt ≠ .pps) (h1 : pt ≠ .watch) (n : Fin 8) (c : Chip) :
    part pt (ppFaultTimerExpiry n c) = part pt c := by
  unfold ppFaultTimerExpiry
  repeat' split
  all_goals simp [*]

@[simp] theorem ppFaultTimerClear_part (pt : Part) (h0 : pt ≠ .pps) (n : Fin 8) (c : Chip) :
    part pt (ppFaultTimerClear n c) = part pt c := by
  unfold ppFaultTimerClear
  repeat' split
  all_goals simp [*]

@[simp] theorem ppRampTimeout_part (pt : Part) (h0 : pt ≠ .pps) (h1 : pt ≠ .watch) (n : Fin 8) (c : Chip) :
    part pt (ppRampTimeout n c) = part pt c := by
  unfold ppRampTimeout
  repeat' split
  all_goals simp [*]

@[simp] theorem ppRetryOffElapsed_part (pt : Part) (h0 : pt ≠ .pps) (n : Fin 8) (c : Chip) :
    part pt (ppRetryOffElapsed n c) = part pt c := by
  unfold ppRetryOffElapsed
  repeat' split
  all_goals simp [*]

@[simp] theorem ppRetriesReload_part (pt : Part) (h0 : pt ≠ .pps) (n : Fin 8) (c : Chip) :
    part pt (ppRetriesReload n c) = part pt c := by
  unfold ppRetriesReload
  repeat' split
  all_goals simp [*]

@[simp] theorem oringReverseRecover_part (pt : Part) (h0 : pt ≠ .pps) (n : Fin 8) (c : Chip) :
    part pt (oringReverseRecover n c) = part pt c := by
  unfold oringReverseRecover
  repeat' split
  all_goals simp [*]

@[simp] theorem ppPgQualified_part (pt : Part) (h0 : pt ≠ .pps) (n : Fin 8) (c : Chip) :
    part pt (ppPgQualified n c) = part pt c := by
  unfold ppPgQualified
  repeat' split
  all_goals simp [*]

@[simp] theorem ppPgLostTimeout_part (pt : Part) (h0 : pt ≠ .pps) (n : Fin 8) (c : Chip) :
    part pt (ppPgLostTimeout n c) = part pt c := by
  unfold ppPgLostTimeout
  repeat' split
  all_goals simp [*]

@[simp] theorem ppShed_part (pt : Part) (h0 : pt ≠ .pps) (n : Fin 8) (c : Chip) :
    part pt (ppShed n c) = part pt c := by
  unfold ppShed
  simp [*]

@[simp] theorem ppRestore_part (pt : Part) (h0 : pt ≠ .pps) (n : Fin 8) (c : Chip) :
    part pt (ppRestore n c) = part pt c := by
  unfold ppRestore
  repeat' split
  all_goals simp [*]

@[simp] theorem ppChannelFails_part (pt : Part) (h0 : pt ≠ .pps) (h1 : pt ≠ .watch) (n : Fin 8) (ch : Nat) (c : Chip)
    :
    part pt (ppChannelFails n ch c) = part pt c := by
  unfold ppChannelFails
  dsimp only
  repeat' split
  all_goals simp [*]

@[simp] theorem rawGoodTransition_part (pt : Part) (h0 : pt ≠ .seq) (h1 : pt ≠ .watch) (r : Fin 16) (c : Chip) :
    part pt (rawGoodTransition r c) = part pt c := by
  unfold rawGoodTransition
  dsimp only
  repeat' split
  all_goals simp [*]

@[simp] theorem railGoodQualified_part (pt : Part) (h0 : pt ≠ .seq) (r : Fin 16) (c : Chip) :
    part pt (railGoodQualified r c) = part pt c := by
  unfold railGoodQualified
  repeat' split
  all_goals simp [*]

@[simp] theorem pgOutputs_part (pt : Part) (h0 : pt ≠ .seq) (c : Chip) :
    part pt (pgOutputs c) = part pt c := by
  unfold pgOutputs
  simp [*]

@[simp] theorem startAll_part (pt : Part) (h0 : pt ≠ .phases) (h1 : pt ≠ .rails) (h2 : pt ≠ .vcs) (h3 : pt ≠ .pps) (h4
    : pt ≠ .wms) (h5 : pt ≠ .watch) (c : Chip) :
    part pt (startAll c) = part pt c := by
  unfold startAll
  simp [*]

@[simp] theorem seqMark_part (pt : Part) (h0 : pt ≠ .chans) (h1 : pt ≠ .rms) (h2 : pt ≠ .bus) (h3 : pt ≠ .phases) (h4
    : pt ≠ .rails) (h5 : pt ≠ .vcs) (h6 : pt ≠ .strs) (h7 : pt ≠ .pps) (h8 : pt ≠ .wms) (h9 : pt ≠ .seq) (h10 : pt ≠
    .watch) (ttype tnum : Nat) (on : Bool) (c : Chip) :
    part pt (seqMark ttype tnum on c) = part pt c := by
  unfold seqMark
  dsimp only
  repeat' split
  all_goals simp [*]

@[simp] theorem seqTake_part (pt : Part) (h0 : pt ≠ .chans) (h1 : pt ≠ .rms) (h2 : pt ≠ .bus) (h3 : pt ≠ .phases) (h4
    : pt ≠ .rails) (h5 : pt ≠ .vcs) (h6 : pt ≠ .strs) (h7 : pt ≠ .pps) (h8 : pt ≠ .wms) (h9 : pt ≠ .seq) (h10 : pt ≠
    .watch) (ttype tnum : Nat) (on : Bool) (c : Chip) :
    part pt (seqTake ttype tnum on c) = part pt c := by
  unfold seqTake
  dsimp only
  repeat' split
  all_goals simp [*]

@[simp] theorem entryStart_part (pt : Part) (h0 : pt ≠ .seq) (j : Nat) (c : Chip) :
    part pt (entryStart j c) = part pt c := by
  unfold entryStart
  dsimp only
  repeat' split
  all_goals simp [*]

@[simp] theorem entryTick_part (pt : Part) (h0 : pt ≠ .seq) (c : Chip) :
    part pt (entryTick c) = part pt c := by
  unfold entryTick
  repeat' split
  all_goals simp [*]

@[simp] theorem seqUpDone_part (pt : Part) (h0 : pt ≠ .chans) (h1 : pt ≠ .rms) (h2 : pt ≠ .bus) (h3 : pt ≠ .phases)
    (h4 : pt ≠ .rails) (h5 : pt ≠ .vcs) (h6 : pt ≠ .strs) (h7 : pt ≠ .pps) (h8 : pt ≠ .wms) (h9 : pt ≠ .seq) (h10 : pt
    ≠ .watch) (c : Chip) :
    part pt (seqUpDone c) = part pt c := by
  unfold seqUpDone
  simp [*]

@[simp] theorem seqDownDone_part (pt : Part) (h0 : pt ≠ .seq) (c : Chip) :
    part pt (seqDownDone c) = part pt c := by
  unfold seqDownDone
  simp [*]

@[simp] theorem seqEnter_part (pt : Part) (h0 : pt ≠ .chans) (h1 : pt ≠ .rms) (h2 : pt ≠ .bus) (h3 : pt ≠ .phases) (h4
    : pt ≠ .rails) (h5 : pt ≠ .vcs) (h6 : pt ≠ .strs) (h7 : pt ≠ .pps) (h8 : pt ≠ .wms) (h9 : pt ≠ .seq) (h10 : pt ≠
    .watch) (j : Nat) (c : Chip) :
    part pt (seqEnter j c) = part pt c := by
  unfold seqEnter
  repeat' split
  all_goals simp [*]

@[simp] theorem seqStartUp_part (pt : Part) (h0 : pt ≠ .chans) (h1 : pt ≠ .rms) (h2 : pt ≠ .bus) (h3 : pt ≠ .phases)
    (h4 : pt ≠ .rails) (h5 : pt ≠ .vcs) (h6 : pt ≠ .strs) (h7 : pt ≠ .pps) (h8 : pt ≠ .wms) (h9 : pt ≠ .seq) (h10 : pt
    ≠ .watch) (c : Chip) :
    part pt (seqStartUp c) = part pt c := by
  unfold seqStartUp
  simp [*]

@[simp] theorem seqStartDown_part (pt : Part) (h0 : pt ≠ .chans) (h1 : pt ≠ .rms) (h2 : pt ≠ .bus) (h3 : pt ≠ .phases)
    (h4 : pt ≠ .rails) (h5 : pt ≠ .vcs) (h6 : pt ≠ .strs) (h7 : pt ≠ .pps) (h8 : pt ≠ .wms) (h9 : pt ≠ .seq) (h10 : pt
    ≠ .watch) (c : Chip) :
    part pt (seqStartDown c) = part pt c := by
  unfold seqStartDown
  simp [*]

@[simp] theorem seqOn_part (pt : Part) (h0 : pt ≠ .chans) (h1 : pt ≠ .rms) (h2 : pt ≠ .bus) (h3 : pt ≠ .phases) (h4 :
    pt ≠ .rails) (h5 : pt ≠ .vcs) (h6 : pt ≠ .strs) (h7 : pt ≠ .pps) (h8 : pt ≠ .wms) (h9 : pt ≠ .seq) (h10 : pt ≠
    .watch) (c : Chip) :
    part pt (seqOn c) = part pt c := by
  unfold seqOn
  repeat' split
  all_goals simp [*]

@[simp] theorem seqOff_part (pt : Part) (h0 : pt ≠ .chans) (h1 : pt ≠ .rms) (h2 : pt ≠ .bus) (h3 : pt ≠ .phases) (h4 :
    pt ≠ .rails) (h5 : pt ≠ .vcs) (h6 : pt ≠ .strs) (h7 : pt ≠ .pps) (h8 : pt ≠ .wms) (h9 : pt ≠ .seq) (h10 : pt ≠
    .watch) (c : Chip) :
    part pt (seqOff c) = part pt c := by
  unfold seqOff
  repeat' split
  all_goals simp [*]

@[simp] theorem seqMinOffElapsed_part (pt : Part) (h0 : pt ≠ .chans) (h1 : pt ≠ .rms) (h2 : pt ≠ .bus) (h3 : pt ≠
    .phases) (h4 : pt ≠ .rails) (h5 : pt ≠ .vcs) (h6 : pt ≠ .strs) (h7 : pt ≠ .pps) (h8 : pt ≠ .wms) (h9 : pt ≠ .seq)
    (h10 : pt ≠ .watch) (c : Chip) :
    part pt (seqMinOffElapsed c) = part pt c := by
  unfold seqMinOffElapsed
  repeat' split
  all_goals simp [*]

@[simp] theorem seqAct_part (pt : Part) (h0 : pt ≠ .chans) (h1 : pt ≠ .rms) (h2 : pt ≠ .bus) (h3 : pt ≠ .phases) (h4 :
    pt ≠ .rails) (h5 : pt ≠ .vcs) (h6 : pt ≠ .strs) (h7 : pt ≠ .pps) (h8 : pt ≠ .wms) (h9 : pt ≠ .seq) (h10 : pt ≠
    .watch) (j : Nat) (c : Chip) :
    part pt (seqAct j c) = part pt c := by
  unfold seqAct
  simp [*]

@[simp] theorem seqEntryDelayEnd_part (pt : Part) (h0 : pt ≠ .chans) (h1 : pt ≠ .rms) (h2 : pt ≠ .bus) (h3 : pt ≠
    .phases) (h4 : pt ≠ .rails) (h5 : pt ≠ .vcs) (h6 : pt ≠ .strs) (h7 : pt ≠ .pps) (h8 : pt ≠ .wms) (h9 : pt ≠ .seq)
    (h10 : pt ≠ .watch) (c : Chip) :
    part pt (seqEntryDelayEnd c) = part pt c := by
  unfold seqEntryDelayEnd
  repeat' split
  all_goals simp [*]

@[simp] theorem seqUpTimeout_part (pt : Part) (h0 : pt ≠ .chans) (h1 : pt ≠ .rms) (h2 : pt ≠ .bus) (h3 : pt ≠ .phases)
    (h4 : pt ≠ .rails) (h5 : pt ≠ .vcs) (h6 : pt ≠ .strs) (h7 : pt ≠ .pps) (h8 : pt ≠ .wms) (h9 : pt ≠ .seq) (h10 : pt
    ≠ .watch) (c : Chip) :
    part pt (seqUpTimeout c) = part pt c := by
  unfold seqUpTimeout
  dsimp only
  repeat' split
  all_goals simp [*]

@[simp] theorem seqDownTimeout_part (pt : Part) (h0 : pt ≠ .chans) (h1 : pt ≠ .rms) (h2 : pt ≠ .bus) (h3 : pt ≠
    .phases) (h4 : pt ≠ .rails) (h5 : pt ≠ .vcs) (h6 : pt ≠ .strs) (h7 : pt ≠ .pps) (h8 : pt ≠ .wms) (h9 : pt ≠ .seq)
    (h10 : pt ≠ .watch) (c : Chip) :
    part pt (seqDownTimeout c) = part pt c := by
  unfold seqDownTimeout
  repeat' split
  all_goals simp [*]

@[simp] theorem seqChatterAction_part (pt : Part) (h0 : pt ≠ .chans) (h1 : pt ≠ .rms) (h2 : pt ≠ .bus) (h3 : pt ≠
    .phases) (h4 : pt ≠ .rails) (h5 : pt ≠ .vcs) (h6 : pt ≠ .strs) (h7 : pt ≠ .pps) (h8 : pt ≠ .wms) (h9 : pt ≠ .seq)
    (h10 : pt ≠ .watch) (c : Chip) :
    part pt (seqChatterAction c) = part pt c := by
  unfold seqChatterAction
  dsimp only
  repeat' split
  all_goals simp [*]

@[simp] theorem seqTick_part (pt : Part) (h0 : pt ≠ .chans) (h1 : pt ≠ .bus) (h2 : pt ≠ .phases) (h3 : pt ≠ .rails)
    (h4 : pt ≠ .vcs) (h5 : pt ≠ .strs) (h6 : pt ≠ .pps) (h7 : pt ≠ .wms) (h8 : pt ≠ .seq) (h9 : pt ≠ .mills) (h10 : pt
    ≠ .watch) (samples : List Sample) (c : Chip) :
    part pt (seqTick samples c) = part pt c := by
  unfold seqTick
  dsimp only
  repeat' split
  all_goals simp [*]

@[simp] theorem canSendAll_part (pt : Part) (h0 : pt ≠ .can) (m : CanTx) (c : Chip) :
    part pt (canSendAll m c) = part pt c := by
  unfold canSendAll
  simp [*]

@[simp] theorem sendTpdo_part (pt : Part) (h0 : pt ≠ .can) (k : Fin 16) (c : Chip) :
    part pt (sendTpdo k c) = part pt c := by
  unfold sendTpdo
  repeat' split
  all_goals simp [*]

@[simp] theorem commandTpdo_part (pt : Part) (h0 : pt ≠ .can) (k : Fin 16) (c : Chip) :
    part pt (commandTpdo k c) = part pt c := by
  unfold commandTpdo
  repeat' split
  all_goals simp [*]

@[simp] theorem capPdo_part (pt : Part) (h0 : pt ≠ .can) (c : Chip) :
    part pt (capPdo c) = part pt c := by
  unfold capPdo
  dsimp only
  repeat' split
  all_goals simp [*]

@[simp] theorem emcyPush_part (pt : Part) (h0 : pt ≠ .can) (e : Emcy) (l : Fin 2) (c : Chip) :
    part pt (emcyPush e l c) = part pt c := by
  unfold emcyPush
  repeat' split
  all_goals simp [*]

@[simp] theorem emcy_part (pt : Part) (h0 : pt ≠ .can) (i : Fin 256) (dest : SrcState) (register record : Nat) (c :
    Chip) :
    part pt (emcy i dest register record c) = part pt c := by
  unfold emcy
  refine when_part _ _ _ _ fun c => ?_
  exact each_part _ _ _ _ fun l c => by simp [*]

@[simp] theorem sourceCleared_part (pt : Part) (h0 : pt ≠ .can) (h1 : pt ≠ .watch) (i : Fin 256) (c : Chip) :
    part pt (sourceCleared i c) = part pt c := by
  unfold sourceCleared
  simp [*]

@[simp] theorem clearSource_part (pt : Part) (h0 : pt ≠ .can) (h1 : pt ≠ .watch) (i : Fin 256) (c : Chip) :
    part pt (clearSource i c) = part pt c := by
  unfold clearSource
  simp [*]

@[simp] theorem classify_part (pt : Part) (h0 : pt ≠ .watch) (e : Event) (c : Chip) :
    part pt ((classify e c).1) = part pt c := by
  unfold classify
  dsimp only
  repeat' split
  all_goals simp [*]

@[simp] theorem classifyAll_part (pt : Part) (h0 : pt ≠ .watch) (l : List Event) (c : Chip) :
    part pt ((classifyAll l c).1) = part pt c := by
  induction l generalizing c with
  | nil => rfl
  | cons e l ih => simp [classifyAll, *]

@[simp] theorem wake_part (pt : Part) (h0 : pt ≠ .hamlets) (h1 : pt ≠ .green) (h2 : pt ≠ .market) (h : Fin 27) (c :
    Chip) :
    part pt (wake h c) = part pt c := by
  unfold wake
  repeat' split
  all_goals simp [*]

@[simp] theorem snapshot_part (pt : Part) (h0 : pt ≠ .hamlets) (h1 : pt ≠ .green) (h2 : pt ≠ .market) (h3 : pt ≠
    .fresh) (c : Chip) (l : List Key) :
    part pt ((snapshot c l).1) = part pt c := by
  induction l generalizing c with
  | nil => rfl
  | cons k l ih => simp [snapshot, *]

@[simp] theorem recordEvent_part (pt : Part) (h0 : pt ≠ .hamlets) (h1 : pt ≠ .green) (h2 : pt ≠ .market) (h3 : pt ≠
    .alm) (h4 : pt ≠ .fresh) (e : Event) (sev : Fin 4) (c : Chip) :
    part pt ((recordEvent e sev c).1) = part pt c := by
  unfold recordEvent
  split <;> simp [*]

@[simp] theorem passRecord_part (pt : Part) (h0 : pt ≠ .hamlets) (h1 : pt ≠ .green) (h2 : pt ≠ .market) (h3 : pt ≠
    .can) (h4 : pt ≠ .alm) (h5 : pt ≠ .fresh) (t : Taken) (c : Chip) :
    part pt (passRecord t c) = part pt c := by
  unfold passRecord
  dsimp only
  repeat' split
  all_goals simp [*]

@[simp] theorem passRecords_part (pt : Part) (h0 : pt ≠ .hamlets) (h1 : pt ≠ .green) (h2 : pt ≠ .market) (h3 : pt ≠
    .can) (h4 : pt ≠ .watch) (h5 : pt ≠ .alm) (h6 : pt ≠ .fresh) (c : Chip) :
    part pt (passRecords c) = part pt c := by
  unfold passRecords
  dsimp only
  repeat' split
  all_goals simp [*]

@[simp] theorem wipe_part_fuses (hold : Bool) (boot : Boot) (c : Chip) :
    part .fuses (wipe hold boot c) = part .fuses c := by
  unfold wipe
  repeat' split
  all_goals first | (simp; done) | rfl

@[simp] theorem abandonUpdate_part (pt : Part) (h0 : pt ≠ .update) (h1 : pt ≠ .watch) (h2 : pt ≠ .alm) (c : Chip) :
    part pt (abandonUpdate c) = part pt c := by
  unfold abandonUpdate
  repeat' split
  all_goals simp [*]

@[simp] theorem closeRecord_part (pt : Part) (h0 : pt ≠ .alm) (c : Chip) :
    part pt (closeRecord c) = part pt c := by
  unfold closeRecord
  repeat' split
  all_goals (simp [*]; cases pt <;> first | rfl | contradiction)

@[simp] theorem chipReset_part_fuses (cause : ResetCause) (hold : Bool) (c : Chip) :
    part .fuses (chipReset cause hold c) = part .fuses c := by
  unfold chipReset
  repeat' split
  all_goals simp

@[simp] theorem endFlush_part (pt : Part) (h0 : pt ≠ .alm) (h1 : pt ≠ .boot) (h2 : pt ≠ .nor) (c : Chip) :
    part pt (endFlush c) = part pt c := by
  unfold endFlush
  cases pt <;> first | rfl | contradiction

@[simp] theorem endRestartHold_part (pt : Part) (h0 : pt ≠ .rms) (h1 : pt ≠ .phases) (h2 : pt ≠ .pps) (h3 : pt ≠
    .twin) (c : Chip) :
    part pt (endRestartHold c) = part pt c := by
  unfold endRestartHold
  cases pt <;> first | rfl | contradiction

@[simp] theorem resetFlushEnd_part (pt : Part) (h0 : pt ≠ .alm) (h1 : pt ≠ .boot) (h2 : pt ≠ .nor) (c : Chip) :
    part pt (resetFlushEnd c) = part pt c := by
  unfold resetFlushEnd
  repeat' split
  all_goals simp [*]

@[simp] theorem bootWipeComplete_part (pt : Part) (h0 : pt ≠ .alm) (h1 : pt ≠ .boot) (h2 : pt ≠ .nor) (c : Chip) :
    part pt (bootWipeComplete c) = part pt c := by
  unfold bootWipeComplete
  repeat' split
  all_goals (cases pt <;> first | rfl | contradiction)

@[simp] theorem setHamper_part (pt : Part) (h0 : pt ≠ .hampers) (handle : Nat) (f : Hamper → Hamper) (c : Chip) :
    part pt (setHamper handle f c) = part pt c := by
  unfold setHamper
  simp [*]

@[simp] theorem enqueue_part (pt : Part) (h0 : pt ≠ .hampers) (i : Item) (c : Chip) :
    part pt (enqueue i c) = part pt c := by
  unfold enqueue
  simp [*]

@[simp] theorem unqueue_part (pt : Part) (h0 : pt ≠ .hampers) (handle : Nat) (c : Chip) :
    part pt (unqueue handle c) = part pt c := by
  unfold unqueue
  simp [*]

@[simp] theorem completeHeld_part (pt : Part) (h0 : pt ≠ .hamlets) (h1 : pt ≠ .market) (h2 : pt ≠ .can) (h3 : pt ≠
    .tw) (h4 : pt ≠ .svc) (h5 : pt ≠ .lane) (h : Hamper) (st : Status) (c : Chip) :
    part pt (completeHeld h st c) = part pt c := by
  unfold completeHeld
  repeat' split
  all_goals simp [*]

@[simp] theorem endHamper_part (pt : Part) (h0 : pt ≠ .hamlets) (h1 : pt ≠ .market) (h2 : pt ≠ .hampers) (h3 : pt ≠
    .can) (h4 : pt ≠ .tw) (h5 : pt ≠ .svc) (h6 : pt ≠ .lane) (h : Hamper) (dest : HamperState) (r : Result) (st :
    Status) (c : Chip) :
    part pt (endHamper h dest r st c) = part pt c := by
  unfold endHamper
  simp [*]

@[simp] theorem rollBack_part (pt : Part) (h0 : pt ≠ .hamlets) (h1 : pt ≠ .market) (h2 : pt ≠ .hampers) (h3 : pt ≠
    .can) (h4 : pt ≠ .tw) (h5 : pt ≠ .svc) (h6 : pt ≠ .lane) (h : Hamper) (c : Chip) :
    part pt (rollBack h c) = part pt c := by
  unfold rollBack
  simp [*]

@[simp] theorem originsLost_part (pt : Part) (h0 : pt ≠ .hamlets) (h1 : pt ≠ .market) (h2 : pt ≠ .hampers) (h3 : pt ≠
    .can) (h4 : pt ≠ .tw) (h5 : pt ≠ .svc) (h6 : pt ≠ .lane) (p : Origin → Bool) (c : Chip) :
    part pt (originsLost p c) = part pt c := by
  unfold originsLost
  simp [*]

@[simp] theorem originLost_part (pt : Part) (h0 : pt ≠ .hamlets) (h1 : pt ≠ .market) (h2 : pt ≠ .hampers) (h3 : pt ≠
    .can) (h4 : pt ≠ .tw) (h5 : pt ≠ .svc) (h6 : pt ≠ .lane) (o : Origin) (c : Chip) :
    part pt (originLost o c) = part pt c := by
  unfold originLost
  simp [*]

@[simp] theorem loadEntry_part (pt : Part) (h0 : pt ≠ .od) (k : Key) (b : List Byte) (c : Chip) :
    part pt (loadEntry k b c) = part pt c := by
  unfold loadEntry
  repeat' split
  all_goals simp [*]

@[simp] theorem reloadComm_part (pt : Part) (h0 : pt ≠ .od) (c : Chip) :
    part pt (reloadComm c) = part pt c := by
  unfold reloadComm
  simp [*]
  cases pt <;> first | rfl | contradiction

@[simp] theorem startComm_part (pt : Part) (h0 : pt ≠ .can) (h1 : pt ≠ .od) (c : Chip) :
    part pt (startComm c) = part pt c := by
  unfold startComm
  simp [*]

@[simp] theorem dropLink_part (pt : Part) (h0 : pt ≠ .hamlets) (h1 : pt ≠ .market) (h2 : pt ≠ .hampers) (h3 : pt ≠
    .can) (h4 : pt ≠ .tw) (h5 : pt ≠ .svc) (h6 : pt ≠ .update) (h7 : pt ≠ .lane) (h8 : pt ≠ .watch) (h9 : pt ≠ .alm)
    (counted : Bool) (c : Chip) :
    part pt (dropLink counted c) = part pt c := by
  unfold dropLink
  repeat' split
  all_goals simp [*]

@[simp] theorem wipeNet_part (pt : Part) (h0 : pt ≠ .hamlets) (h1 : pt ≠ .market) (h2 : pt ≠ .hampers) (h3 : pt ≠
    .can) (h4 : pt ≠ .tw) (h5 : pt ≠ .svc) (h6 : pt ≠ .update) (h7 : pt ≠ .lane) (h8 : pt ≠ .watch) (h9 : pt ≠ .alm)
    (c : Chip) :
    part pt (wipeNet c) = part pt c := by
  unfold wipeNet
  have h (c : Chip) (x : Svc) (y : Can) (z : TwoWire) :
      part pt { c with svc := x, can := y, tw := z } = part pt c := by
    cases pt <;> first | rfl | contradiction
  rw [h, setMarket_part _ (by assumption) ]
  exact when_part _ _ _ _ fun c => by simp [*]

@[simp] theorem clearTvalid_part (pt : Part) (h0 : pt ≠ .lane) (h1 : pt ≠ .watch) (c : Chip) :
    part pt (clearTvalid c) = part pt c := by
  unfold clearTvalid
  simp [*]

@[simp] theorem discardArmed_part (pt : Part) (h0 : pt ≠ .hamlets) (h1 : pt ≠ .market) (h2 : pt ≠ .hampers) (h3 : pt ≠
    .can) (h4 : pt ≠ .tw) (h5 : pt ≠ .svc) (h6 : pt ≠ .lane) (h7 : pt ≠ .alm) (h : Hamper) (c : Chip) :
    part pt (discardArmed h c) = part pt c := by
  unfold discardArmed
  simp [*]

@[simp] theorem epochChange_part (pt : Part) (h0 : pt ≠ .hamlets) (h1 : pt ≠ .market) (h2 : pt ≠ .hampers) (h3 : pt ≠
    .can) (h4 : pt ≠ .tw) (h5 : pt ≠ .svc) (h6 : pt ≠ .lane) (h7 : pt ≠ .watch) (h8 : pt ≠ .alm) (e : BitVec 8) (c :
    Chip) :
    part pt (epochChange e c) = part pt c := by
  unfold epochChange
  simp [*]

@[simp] theorem stepLaneTime_part (pt : Part) (h0 : pt ≠ .clock) (t : Nat) (c : Chip) :
    part pt (stepLaneTime t c) = part pt c := by
  unfold stepLaneTime
  cases pt <;> first | rfl | contradiction

@[simp] theorem becomeMaster_part (pt : Part) (h0 : pt ≠ .clock) (h1 : pt ≠ .hamlets) (h2 : pt ≠ .market) (h3 : pt ≠
    .hampers) (h4 : pt ≠ .can) (h5 : pt ≠ .tw) (h6 : pt ≠ .svc) (h7 : pt ≠ .lane) (h8 : pt ≠ .watch) (h9 : pt ≠ .alm)
    (c : Chip) :
    part pt (becomeMaster c) = part pt c := by
  unfold becomeMaster
  dsimp only
  repeat' split
  all_goals simp [*]

@[simp] theorem chooseMaster_part (pt : Part) (h0 : pt ≠ .clock) (h1 : pt ≠ .hamlets) (h2 : pt ≠ .market) (h3 : pt ≠
    .hampers) (h4 : pt ≠ .can) (h5 : pt ≠ .tw) (h6 : pt ≠ .svc) (h7 : pt ≠ .lane) (h8 : pt ≠ .watch) (h9 : pt ≠ .alm)
    (c : Chip) :
    part pt (chooseMaster c) = part pt c := by
  unfold chooseMaster
  dsimp only
  repeat' split
  all_goals simp [*]

@[simp] theorem laneTimeWrite_part (pt : Part) (h0 : pt ≠ .clock) (h1 : pt ≠ .hamlets) (h2 : pt ≠ .market) (h3 : pt ≠
    .hampers) (h4 : pt ≠ .can) (h5 : pt ≠ .tw) (h6 : pt ≠ .svc) (h7 : pt ≠ .lane) (h8 : pt ≠ .watch) (h9 : pt ≠ .alm)
    (v : List Byte) (c : Chip) :
    part pt ((laneTimeWrite v c).2) = part pt c := by
  unfold laneTimeWrite
  try dsimp only
  repeat' split
  all_goals simp [*]

@[simp] theorem laneOriginsLost_part (pt : Part) (h0 : pt ≠ .hamlets) (h1 : pt ≠ .market) (h2 : pt ≠ .hampers) (h3 :
    pt ≠ .can) (h4 : pt ≠ .tw) (h5 : pt ≠ .svc) (h6 : pt ≠ .lane) (c : Chip) :
    part pt (laneOriginsLost c) = part pt c := by
  unfold laneOriginsLost
  simp [*]

@[simp] theorem laneJoin_part (pt : Part) (h0 : pt ≠ .clock) (h1 : pt ≠ .hamlets) (h2 : pt ≠ .market) (h3 : pt ≠
    .hampers) (h4 : pt ≠ .can) (h5 : pt ≠ .tw) (h6 : pt ≠ .svc) (h7 : pt ≠ .lane) (h8 : pt ≠ .watch) (h9 : pt ≠ .alm)
    (c : Chip) :
    part pt (laneJoin c) = part pt c := by
  unfold laneJoin
  repeat' split
  all_goals simp [*]

@[simp] theorem laneOff_part (pt : Part) (h0 : pt ≠ .clock) (h1 : pt ≠ .hamlets) (h2 : pt ≠ .market) (h3 : pt ≠
    .hampers) (h4 : pt ≠ .can) (h5 : pt ≠ .tw) (h6 : pt ≠ .svc) (h7 : pt ≠ .lane) (h8 : pt ≠ .watch) (h9 : pt ≠ .alm)
    (c : Chip) :
    part pt (laneOff c) = part pt c := by
  unfold laneOff
  simp [*]

@[simp] theorem laneEnabled_part (pt : Part) (h0 : pt ≠ .clock) (h1 : pt ≠ .hamlets) (h2 : pt ≠ .market) (h3 : pt ≠
    .hampers) (h4 : pt ≠ .can) (h5 : pt ≠ .tw) (h6 : pt ≠ .svc) (h7 : pt ≠ .lane) (h8 : pt ≠ .watch) (h9 : pt ≠ .alm)
    (c : Chip) :
    part pt (laneEnabled c) = part pt c := by
  unfold laneEnabled
  repeat' split
  all_goals simp [*]

@[simp] theorem gwRequest_part (pt : Part) (h0 : pt ≠ .lane) (h1 : pt ≠ .gw) (v : List Byte) (c : Chip) :
    part pt ((gwRequest v c).2) = part pt c := by
  unfold gwRequest
  try dsimp only
  repeat' split
  all_goals simp [*]

@[simp] theorem gwCollect_part (pt : Part) (h0 : pt ≠ .gw) (c : Chip) :
    part pt (gwCollect c) = part pt c := by
  unfold gwCollect
  simp [*]

@[simp] theorem storeValue_part (pt : Part) (h0 : pt ≠ .ests) (h1 : pt ≠ .nor) (h2 : pt ≠ .od) (k : Key) (v : Val) (c
    : Chip) :
    part pt (storeValue k v c) = part pt c := by
  unfold storeValue
  repeat' split
  all_goals simp [*]

@[simp] theorem storeAll_part (pt : Part) (h0 : pt ≠ .ests) (h1 : pt ≠ .nor) (h2 : pt ≠ .od) (l : List (Key × Val)) (c
    : Chip) :
    part pt (storeAll l c) = part pt c := by
  unfold storeAll
  simp [*]

@[simp] theorem loadChemistries_part (pt : Part) (h0 : pt ≠ .ests) (h1 : pt ≠ .nor) (h2 : pt ≠ .od) (ks : List Key) (c
    : Chip) :
    part pt (loadChemistries ks c) = part pt c := by
  unfold loadChemistries
  simp [*]

@[simp] theorem parkHamlet_part (pt : Part) (h0 : pt ≠ .hamlets) (h1 : pt ≠ .green) (h2 : pt ≠ .market) (h : Fin 27)
    (c : Chip) :
    part pt (parkHamlet h c) = part pt c := by
  unfold parkHamlet
  dsimp only
  repeat' split
  all_goals simp [*]

@[simp] theorem discardEmcy_part (pt : Part) (h0 : pt ≠ .can) (c : Chip) :
    part pt (discardEmcy c) = part pt c := by
  unfold discardEmcy
  simp [*]

@[simp] theorem clearHbLost_part (pt : Part) (h0 : pt ≠ .can) (c : Chip) :
    part pt (clearHbLost c) = part pt c := by
  unfold clearHbLost
  simp [*]

@[simp] theorem railEffect_part (pt : Part) (h0 : pt ≠ .chans) (h1 : pt ≠ .phases) (h2 : pt ≠ .rails) (h3 : pt ≠ .vcs)
    (h4 : pt ≠ .wms) (h5 : pt ≠ .seq) (h6 : pt ≠ .watch) (r : Fin 16) (i j : Nat) (c : Chip) :
    part pt (railEffect r i j c) = part pt c := by
  unfold railEffect
  repeat' split
  all_goals simp [*]

@[simp] theorem effect_part (pt : Part) (h0 : pt ≠ .clock) (h1 : pt ≠ .hamlets) (h2 : pt ≠ .green) (h3 : pt ≠ .chans)
    (h4 : pt ≠ .rms) (h5 : pt ≠ .bus) (h6 : pt ≠ .phases) (h7 : pt ≠ .rails) (h8 : pt ≠ .vcs) (h9 : pt ≠ .strs) (h10 :
    pt ≠ .batt) (h11 : pt ≠ .pps) (h12 : pt ≠ .wms) (h13 : pt ≠ .seq) (h14 : pt ≠ .mills) (h15 : pt ≠ .market) (h16 :
    pt ≠ .hampers) (h17 : pt ≠ .can) (h18 : pt ≠ .tw) (h19 : pt ≠ .svc) (h20 : pt ≠ .lane) (h21 : pt ≠ .watch) (h22 :
    pt ≠ .alm) (k : Key) (c : Chip) :
    part pt (effect k c) = part pt c := by
  unfold effect
  dsimp only
  repeat' with_reducible refine part_ite ?_ ?_
  all_goals try generalize Fin.ofNat 64 (k / 256 - 0x2A00) = m
  all_goals try generalize Fin.ofNat 256 (k / 256 - 0x2700) = m
  all_goals first
    | rfl
    | (simp [*]; done)
    | (split <;> simp [*])

@[simp] theorem beginLoad_part (pt : Part) (h0 : pt ≠ .phases) (h1 : pt ≠ .rails) (h2 : pt ≠ .vcs) (h3 : pt ≠ .mills)
    (h4 : pt ≠ .watch) (m : Fin 16) (c : Chip) :
    part pt (beginLoad m c) = part pt c := by
  unfold beginLoad
  simp [*]

@[simp] theorem noteChanged_part (pt : Part) (h0 : pt ≠ .twin) (ks : List Key) (c : Chip) :
    part pt (noteChanged ks c) = part pt c := by
  unfold noteChanged
  repeat' split
  all_goals simp [*]

@[simp] theorem applyWrites_part (pt : Part) (h0 : pt ≠ .clock) (h1 : pt ≠ .hamlets) (h2 : pt ≠ .green) (h3 : pt ≠
    .chans) (h4 : pt ≠ .rms) (h5 : pt ≠ .bus) (h6 : pt ≠ .phases) (h7 : pt ≠ .rails) (h8 : pt ≠ .vcs) (h9 : pt ≠
    .strs) (h10 : pt ≠ .ests) (h11 : pt ≠ .batt) (h12 : pt ≠ .pps) (h13 : pt ≠ .wms) (h14 : pt ≠ .seq) (h15 : pt ≠
    .mills) (h16 : pt ≠ .market) (h17 : pt ≠ .hampers) (h18 : pt ≠ .can) (h19 : pt ≠ .tw) (h20 : pt ≠ .svc) (h21 : pt
    ≠ .lane) (h22 : pt ≠ .watch) (h23 : pt ≠ .alm) (h24 : pt ≠ .twin) (h25 : pt ≠ .nor) (h26 : pt ≠ .od) (l : List
    (Key × Val)) (c : Chip) :
    part pt (applyWrites l c) = part pt c := by
  unfold applyWrites
  dsimp only
  repeat' split
  all_goals simp [*]

@[simp] theorem exportCtl_part (pt : Part) (h0 : pt ≠ .alm) (v : Int) (c : Chip) :
    part pt ((exportCtl v c).2) = part pt c := by
  unfold exportCtl
  try dsimp only
  repeat' split
  all_goals simp [*]

@[simp] theorem exportReceive_part (pt : Part) (h0 : pt ≠ .alm) (digest : List Byte) (c : Chip) :
    part pt ((exportReceive digest c).2) = part pt c := by
  unfold exportReceive
  try dsimp only
  repeat' split
  all_goals simp [*]

@[simp] theorem fallowChoose_part (pt : Part) (h0 : pt ≠ .batt) (v : Int) (c : Chip) :
    part pt ((fallowChoose v c).2) = part pt c := by
  unfold fallowChoose
  try dsimp only
  repeat' split
  all_goals simp [*]

@[simp] theorem shipArm_part (pt : Part) (h0 : pt ≠ .strs) (h1 : pt ≠ .batt) (o : Origin) (v : Int) (c : Chip) :
    part pt ((shipArm o v c).2) = part pt c := by
  unfold shipArm
  try dsimp only
  repeat' split
  all_goals simp [*]

@[simp] theorem shipConfirm_part (pt : Part) (h0 : pt ≠ .batt) (o : Origin) (c : Chip) :
    part pt ((shipConfirm o c).2) = part pt c := by
  unfold shipConfirm
  try dsimp only
  repeat' split
  all_goals simp [*]

@[simp] theorem seqRequest_part (pt : Part) (h0 : pt ≠ .chans) (h1 : pt ≠ .rms) (h2 : pt ≠ .bus) (h3 : pt ≠ .phases)
    (h4 : pt ≠ .rails) (h5 : pt ≠ .vcs) (h6 : pt ≠ .strs) (h7 : pt ≠ .pps) (h8 : pt ≠ .wms) (h9 : pt ≠ .seq) (h10 : pt
    ≠ .watch) (v : Int) (c : Chip) :
    part pt (seqRequest v c) = part pt c := by
  unfold seqRequest
  repeat' split
  all_goals simp [*]

theorem commandWrite_part (pt : Part) (h0 : pt ≠ .clock) (h1 : pt ≠ .hamlets) (h2 : pt ≠ .chans) (h3 : pt ≠ .rms) (h4
    : pt ≠ .bus) (h5 : pt ≠ .phases) (h6 : pt ≠ .rails) (h7 : pt ≠ .vcs) (h8 : pt ≠ .strs) (h9 : pt ≠ .batt) (h10 : pt
    ≠ .pps) (h11 : pt ≠ .wms) (h12 : pt ≠ .seq) (h13 : pt ≠ .mills) (h14 : pt ≠ .market) (h15 : pt ≠ .hampers) (h16 :
    pt ≠ .can) (h17 : pt ≠ .tw) (h18 : pt ≠ .svc) (h19 : pt ≠ .lane) (h20 : pt ≠ .gw) (h21 : pt ≠ .watch) (h22 : pt ≠
    .alm) (o : Origin) (k : Key) (v : Val) (c : Chip) :
    ∀ r, commandWrite o k v c = some r → part pt r.2 = part pt c := by
  unfold commandWrite
  dsimp only
  repeat' with_reducible refine ite_mem (P := fun r => part pt r.2 = part pt c) ?_ ?_
  all_goals
    intro r h
    first
      | (cases h; simp [*])
      | (repeat' split at h) <;> first | (cases h; simp [*]) | cases h

@[simp] theorem directWrite_part (pt : Part) (h0 : pt ≠ .clock) (h1 : pt ≠ .hamlets) (h2 : pt ≠ .green) (h3 : pt ≠
    .chans) (h4 : pt ≠ .rms) (h5 : pt ≠ .bus) (h6 : pt ≠ .phases) (h7 : pt ≠ .rails) (h8 : pt ≠ .vcs) (h9 : pt ≠
    .strs) (h10 : pt ≠ .ests) (h11 : pt ≠ .batt) (h12 : pt ≠ .pps) (h13 : pt ≠ .wms) (h14 : pt ≠ .seq) (h15 : pt ≠
    .mills) (h16 : pt ≠ .market) (h17 : pt ≠ .hampers) (h18 : pt ≠ .can) (h19 : pt ≠ .tw) (h20 : pt ≠ .svc) (h21 : pt
    ≠ .lane) (h22 : pt ≠ .watch) (h23 : pt ≠ .alm) (h24 : pt ≠ .twin) (h25 : pt ≠ .nor) (h26 : pt ≠ .od) (o : Origin)
    (k : Key) (v : Val) (c : Chip) :
    part pt ((directWrite o k v c).2) = part pt c := by
  unfold directWrite
  try dsimp only
  repeat' split
  all_goals simp [*]

@[simp] theorem switchoverAll_part (pt : Part) (h0 : pt ≠ .hamlets) (h1 : pt ≠ .market) (h2 : pt ≠ .can) (h3 : pt ≠
    .tw) (h4 : pt ≠ .svc) (h5 : pt ≠ .lane) (c : Chip) :
    part pt (switchoverAll c) = part pt c := by
  unfold switchoverAll
  simp [*]

@[simp] theorem releaseShelf_part (pt : Part) (h0 : pt ≠ .hamlets) (h1 : pt ≠ .market) (h2 : pt ≠ .can) (h3 : pt ≠
    .tw) (h4 : pt ≠ .svc) (h5 : pt ≠ .lane) (h6 : pt ≠ .watch) (h7 : pt ≠ .twin) (cause : Nat) (c : Chip) :
    part pt (releaseShelf cause c) = part pt c := by
  unfold releaseShelf
  simp [*]

@[simp] theorem giveUp_part (pt : Part) (h0 : pt ≠ .hamlets) (h1 : pt ≠ .market) (h2 : pt ≠ .can) (h3 : pt ≠ .tw) (h4
    : pt ≠ .svc) (h5 : pt ≠ .lane) (h6 : pt ≠ .watch) (h7 : pt ≠ .twin) (cause : Nat) (c : Chip) :
    part pt (giveUp cause c) = part pt c := by
  unfold giveUp
  repeat' split
  all_goals simp [*]

@[simp] theorem giveUpNow_part (pt : Part) (h0 : pt ≠ .hamlets) (h1 : pt ≠ .market) (h2 : pt ≠ .can) (h3 : pt ≠ .tw)
    (h4 : pt ≠ .svc) (h5 : pt ≠ .lane) (h6 : pt ≠ .watch) (h7 : pt ≠ .twin) (cause : Nat) (c : Chip) :
    part pt (giveUpNow cause c) = part pt c := by
  unfold giveUpNow
  repeat' split
  all_goals simp [*]

@[simp] theorem toStandby_part (pt : Part) (h0 : pt ≠ .twin) (c : Chip) :
    part pt (toStandby c) = part pt c := by
  unfold toStandby
  simp [*]

@[simp] theorem clearLatches_part (pt : Part) (h0 : pt ≠ .phases) (h1 : pt ≠ .rails) (h2 : pt ≠ .pps) (c : Chip) :
    part pt (clearLatches c) = part pt c := by
  unfold clearLatches
  cases pt <;> first | rfl | contradiction

@[simp] theorem fenceHosts_part (pt : Part) (h0 : pt ≠ .hamlets) (h1 : pt ≠ .market) (h2 : pt ≠ .can) (h3 : pt ≠ .tw)
    (h4 : pt ≠ .svc) (h5 : pt ≠ .lane) (c : Chip) :
    part pt (fenceHosts c) = part pt c := by
  unfold fenceHosts
  simp [*]

@[simp] theorem claim_part (pt : Part) (h0 : pt ≠ .hamlets) (h1 : pt ≠ .chans) (h2 : pt ≠ .rms) (h3 : pt ≠ .bus) (h4 :
    pt ≠ .phases) (h5 : pt ≠ .rails) (h6 : pt ≠ .vcs) (h7 : pt ≠ .strs) (h8 : pt ≠ .batt) (h9 : pt ≠ .pps) (h10 : pt ≠
    .wms) (h11 : pt ≠ .seq) (h12 : pt ≠ .market) (h13 : pt ≠ .can) (h14 : pt ≠ .tw) (h15 : pt ≠ .svc) (h16 : pt ≠
    .lane) (h17 : pt ≠ .watch) (h18 : pt ≠ .twin) (h19 : pt ≠ .nor) (h20 : pt ≠ .fresh) (c : Chip) :
    part pt (claim c) = part pt c := by
  unfold claim
  dsimp only
  repeat' split
  all_goals simp [*]

@[simp] theorem claimHealthy_part (pt : Part) (h0 : pt ≠ .hamlets) (h1 : pt ≠ .chans) (h2 : pt ≠ .rms) (h3 : pt ≠
    .bus) (h4 : pt ≠ .phases) (h5 : pt ≠ .rails) (h6 : pt ≠ .vcs) (h7 : pt ≠ .strs) (h8 : pt ≠ .batt) (h9 : pt ≠ .pps)
    (h10 : pt ≠ .wms) (h11 : pt ≠ .seq) (h12 : pt ≠ .market) (h13 : pt ≠ .can) (h14 : pt ≠ .tw) (h15 : pt ≠ .svc) (h16
    : pt ≠ .lane) (h17 : pt ≠ .watch) (h18 : pt ≠ .twin) (h19 : pt ≠ .nor) (h20 : pt ≠ .fresh) (c : Chip) :
    part pt (claimHealthy c) = part pt c := by
  unfold claimHealthy
  repeat' split
  all_goals simp [*]

@[simp] theorem railsLoseMill_part (pt : Part) (h0 : pt ≠ .phases) (h1 : pt ≠ .rails) (h2 : pt ≠ .vcs) (h3 : pt ≠
    .watch) (m : Fin 16) (c : Chip) :
    part pt (railsLoseMill m c) = part pt c := by
  unfold railsLoseMill
  exact when_part _ _ _ _ fun c => by simp [*]

@[simp] theorem millGivesUp_part (pt : Part) (h0 : pt ≠ .hamlets) (h1 : pt ≠ .market) (h2 : pt ≠ .can) (h3 : pt ≠ .tw)
    (h4 : pt ≠ .svc) (h5 : pt ≠ .lane) (h6 : pt ≠ .watch) (h7 : pt ≠ .twin) (m : Fin 16) (c : Chip) :
    part pt (millGivesUp m c) = part pt c := by
  unfold millGivesUp
  repeat' split
  all_goals simp [*]

@[simp] theorem millFails_part (pt : Part) (h0 : pt ≠ .hamlets) (h1 : pt ≠ .phases) (h2 : pt ≠ .rails) (h3 : pt ≠
    .vcs) (h4 : pt ≠ .market) (h5 : pt ≠ .can) (h6 : pt ≠ .tw) (h7 : pt ≠ .svc) (h8 : pt ≠ .lane) (h9 : pt ≠ .watch)
    (h10 : pt ≠ .twin) (m : Fin 16) (c : Chip) :
    part pt (millFails m c) = part pt c := by
  unfold millFails
  simp [*]

@[simp] theorem millStops_part (pt : Part) (h0 : pt ≠ .hamlets) (h1 : pt ≠ .phases) (h2 : pt ≠ .rails) (h3 : pt ≠
    .vcs) (h4 : pt ≠ .mills) (h5 : pt ≠ .market) (h6 : pt ≠ .can) (h7 : pt ≠ .tw) (h8 : pt ≠ .svc) (h9 : pt ≠ .lane)
    (h10 : pt ≠ .watch) (h11 : pt ≠ .twin) (m : Fin 16) (f : Mill → Mill) (c : Chip) :
    part pt (millStops m f c) = part pt c := by
  unfold millStops
  simp [*]

@[simp] theorem illegalInstruction_part (pt : Part) (h0 : pt ≠ .hamlets) (h1 : pt ≠ .phases) (h2 : pt ≠ .rails) (h3 :
    pt ≠ .vcs) (h4 : pt ≠ .mills) (h5 : pt ≠ .market) (h6 : pt ≠ .can) (h7 : pt ≠ .tw) (h8 : pt ≠ .svc) (h9 : pt ≠
    .lane) (h10 : pt ≠ .watch) (h11 : pt ≠ .twin) (m : Fin 16) (c : Chip) :
    part pt (illegalInstruction m c) = part pt c := by
  unfold illegalInstruction
  dsimp only
  repeat' split
  all_goals simp [*]

@[simp] theorem divOrStop_part (pt : Part) (h0 : pt ≠ .hamlets) (h1 : pt ≠ .phases) (h2 : pt ≠ .rails) (h3 : pt ≠
    .vcs) (h4 : pt ≠ .mills) (h5 : pt ≠ .market) (h6 : pt ≠ .can) (h7 : pt ≠ .tw) (h8 : pt ≠ .svc) (h9 : pt ≠ .lane)
    (h10 : pt ≠ .watch) (h11 : pt ≠ .twin) (m : Fin 16) (d a b : Fin 128) (k : BitVec 6) (c : Chip) :
    part pt (divOrStop m d a b k c) = part pt c := by
  unfold divOrStop
  repeat' split
  all_goals simp [*]

@[simp] theorem runLimit_part (pt : Part) (h0 : pt ≠ .hamlets) (h1 : pt ≠ .phases) (h2 : pt ≠ .rails) (h3 : pt ≠ .vcs)
    (h4 : pt ≠ .mills) (h5 : pt ≠ .market) (h6 : pt ≠ .can) (h7 : pt ≠ .tw) (h8 : pt ≠ .svc) (h9 : pt ≠ .lane) (h10 :
    pt ≠ .watch) (h11 : pt ≠ .twin) (m : Fin 16) (c : Chip) :
    part pt (runLimit m c) = part pt c := by
  unfold runLimit
  dsimp only
  repeat' split
  all_goals simp [*]

@[simp] theorem millHeartbeatLost_part (pt : Part) (h0 : pt ≠ .hamlets) (h1 : pt ≠ .mills) (h2 : pt ≠ .market) (h3 :
    pt ≠ .can) (h4 : pt ≠ .tw) (h5 : pt ≠ .svc) (h6 : pt ≠ .lane) (h7 : pt ≠ .watch) (h8 : pt ≠ .twin) (m : Fin 16) (k
    : Fin 4) (c : Chip) :
    part pt (millHeartbeatLost m k c) = part pt c := by
  unfold millHeartbeatLost
  dsimp only
  repeat' split
  all_goals simp [*]

@[simp] theorem traceDumpStored_part (pt : Part) (h0 : pt ≠ .mills) (h1 : pt ≠ .alm) (h2 : pt ≠ .nor) (m : Fin 16) (c
    : Chip) :
    part pt (traceDumpStored m c) = part pt c := by
  unfold traceDumpStored
  dsimp only
  repeat' split
  all_goals simp [*]

@[simp] theorem openHamper_part (pt : Part) (h0 : pt ≠ .hampers) (o : Origin) (c : Chip) :
    part pt ((openHamper o c).2.2) = part pt c := by
  unfold openHamper
  try dsimp only
  repeat' split
  all_goals simp [*]

@[simp] theorem writeStage_part (pt : Part) (h0 : pt ≠ .hampers) (o : Origin) (v : Nat) (c : Chip) :
    part pt ((writeStage o v c).2) = part pt c := by
  unfold writeStage
  try dsimp only
  repeat' split
  all_goals simp [*]

@[simp] theorem writeHamperData_part (pt : Part) (h0 : pt ≠ .hampers) (o : Origin) (k : Key) (b : List Byte) (c :
    Chip) :
    part pt ((writeHamperData o k b c).2) = part pt c := by
  unfold writeHamperData
  try dsimp only
  repeat' split
  all_goals simp [*]

@[simp] theorem spoil_part (pt : Part) (h0 : pt ≠ .hampers) (h : Hamper) (k : Key) (st : Status) (c : Chip) :
    part pt (spoil h k st c) = part pt c := by
  unfold spoil
  repeat' split
  all_goals simp [*]

@[simp] theorem spoilAdmission_part (pt : Part) (h0 : pt ≠ .hampers) (o : Origin) (k : Key) (st : Status) (c : Chip) :
    part pt (spoilAdmission o k st c) = part pt c := by
  unfold spoilAdmission
  repeat' split
  all_goals simp [*]

@[simp] theorem stageWrite_part (pt : Part) (h0 : pt ≠ .market) (h1 : pt ≠ .hampers) (h2 : pt ≠ .can) (h3 : pt ≠ .tw)
    (h4 : pt ≠ .svc) (h5 : pt ≠ .lane) (o : Origin) (k : Key) (b : List Byte) (c : Chip) :
    part pt ((stageWrite o k b c).2) = part pt c := by
  unfold stageWrite
  try dsimp only
  repeat' split
  all_goals simp [*]

@[simp] theorem domainBroadcast_part (pt : Part) (h0 : pt ≠ .lane) (type : Nat) (h : Hamper) (c : Chip) :
    part pt (domainBroadcast type h c) = part pt c := by
  unfold domainBroadcast
  simp [*]

@[simp] theorem domainAnswer_part (pt : Part) (h0 : pt ≠ .lane) (type : Nat) (h : Hamper) (vote detail pos : Nat) (c :
    Chip) :
    part pt (domainAnswer type h vote detail pos c) = part pt c := by
  unfold domainAnswer
  repeat' split
  all_goals simp [*]

@[simp] theorem abortDomain_part (pt : Part) (h0 : pt ≠ .hamlets) (h1 : pt ≠ .market) (h2 : pt ≠ .hampers) (h3 : pt ≠
    .can) (h4 : pt ≠ .tw) (h5 : pt ≠ .svc) (h6 : pt ≠ .lane) (h : Hamper) (node : Nat) (d : Detail) (pos : Nat) (c :
    Chip) :
    part pt (abortDomain h node d pos c) = part pt c := by
  unfold abortDomain
  simp [*]

@[simp] theorem staging_part (pt : Part) (h0 : pt ≠ .ests) (h1 : pt ≠ .nor) (h2 : pt ≠ .od) (c : Chip) (h : Hamper) :
    part pt (staging c h) = part pt c := by
  unfold staging
  simp [*]

@[simp] theorem failHamper_part (pt : Part) (h0 : pt ≠ .hamlets) (h1 : pt ≠ .market) (h2 : pt ≠ .hampers) (h3 : pt ≠
    .can) (h4 : pt ≠ .tw) (h5 : pt ≠ .svc) (h6 : pt ≠ .lane) (h : Hamper) (f : Detail × Nat) (c : Chip) :
    part pt (failHamper h f c) = part pt c := by
  unfold failHamper
  simp [*]

@[simp] theorem passHamper_part (pt : Part) (h0 : pt ≠ .hamlets) (h1 : pt ≠ .market) (h2 : pt ≠ .hampers) (h3 : pt ≠
    .can) (h4 : pt ≠ .tw) (h5 : pt ≠ .svc) (h6 : pt ≠ .lane) (h : Hamper) (c : Chip) :
    part pt (passHamper h c) = part pt c := by
  unfold passHamper
  repeat' split
  all_goals simp [*]

@[simp] theorem hamperValidationComplete_part (pt : Part) (h0 : pt ≠ .hamlets) (h1 : pt ≠ .market) (h2 : pt ≠
    .hampers) (h3 : pt ≠ .can) (h4 : pt ≠ .tw) (h5 : pt ≠ .svc) (h6 : pt ≠ .lane) (c : Chip) :
    part pt (hamperValidationComplete c) = part pt c := by
  unfold hamperValidationComplete
  repeat' split
  all_goals simp [*]

@[simp] theorem startCommit_part (pt : Part) (h0 : pt ≠ .hampers) (h : Hamper) (mode : CommitMode) (id : Nat) (c :
    Chip) :
    part pt ((startCommit h mode id c).2.2) = part pt c := by
  unfold startCommit
  try dsimp only
  repeat' split
  all_goals simp [*]

@[simp] theorem rollbackCommand_part (pt : Part) (h0 : pt ≠ .hamlets) (h1 : pt ≠ .market) (h2 : pt ≠ .hampers) (h3 :
    pt ≠ .can) (h4 : pt ≠ .tw) (h5 : pt ≠ .svc) (h6 : pt ≠ .lane) (h : Hamper) (c : Chip) :
    part pt ((rollbackCommand h c).2) = part pt c := by
  unfold rollbackCommand
  try dsimp only
  repeat' split
  all_goals simp [*]

@[simp] theorem joinCommand_part (pt : Part) (h0 : pt ≠ .hampers) (h : Hamper) (node : Fin 1024) (chandle : BitVec 8)
    (c : Chip) :
    part pt ((joinCommand h node chandle c).2) = part pt c := by
  unfold joinCommand
  try dsimp only
  repeat' split
  all_goals simp [*]

@[simp] theorem hamperCommand_part (pt : Part) (h0 : pt ≠ .hamlets) (h1 : pt ≠ .market) (h2 : pt ≠ .hampers) (h3 : pt
    ≠ .can) (h4 : pt ≠ .tw) (h5 : pt ≠ .svc) (h6 : pt ≠ .lane) (o : Origin) (id v : Nat) (c : Chip) :
    part pt ((hamperCommand o id v c).2.2) = part pt c := by
  unfold hamperCommand
  try dsimp only
  repeat' split
  all_goals simp [*]

@[simp] theorem hamperTimeout_part (pt : Part) (h0 : pt ≠ .hamlets) (h1 : pt ≠ .market) (h2 : pt ≠ .hampers) (h3 : pt
    ≠ .can) (h4 : pt ≠ .tw) (h5 : pt ≠ .svc) (h6 : pt ≠ .lane) (handle : BitVec 8) (c : Chip) :
    part pt (hamperTimeout handle c) = part pt c := by
  unfold hamperTimeout
  repeat' split
  all_goals simp [*]

@[simp] theorem applyHamper_part (pt : Part) (h0 : pt ≠ .clock) (h1 : pt ≠ .hamlets) (h2 : pt ≠ .green) (h3 : pt ≠
    .chans) (h4 : pt ≠ .rms) (h5 : pt ≠ .bus) (h6 : pt ≠ .phases) (h7 : pt ≠ .rails) (h8 : pt ≠ .vcs) (h9 : pt ≠
    .strs) (h10 : pt ≠ .ests) (h11 : pt ≠ .batt) (h12 : pt ≠ .pps) (h13 : pt ≠ .wms) (h14 : pt ≠ .seq) (h15 : pt ≠
    .mills) (h16 : pt ≠ .market) (h17 : pt ≠ .hampers) (h18 : pt ≠ .can) (h19 : pt ≠ .tw) (h20 : pt ≠ .svc) (h21 : pt
    ≠ .lane) (h22 : pt ≠ .watch) (h23 : pt ≠ .alm) (h24 : pt ≠ .twin) (h25 : pt ≠ .nor) (h26 : pt ≠ .od) (h : Hamper)
    (c : Chip) :
    part pt (applyHamper h c) = part pt c := by
  unfold applyHamper
  simp [*]

@[simp] theorem switchAll_part (pt : Part) (h0 : pt ≠ .mills) (c : Chip) :
    part pt (switchAll c) = part pt c := by
  unfold switchAll
  simp [*]

@[simp] theorem settle_part (pt : Part) (h0 : pt ≠ .bus) (h1 : pt ≠ .mills) (h2 : pt ≠ .hampers) (h3 : pt ≠ .watch) (c
    : Chip) :
    part pt (settle c) = part pt c := by
  unfold settle
  dsimp only
  repeat' split
  all_goals simp [*]

@[simp] theorem domainPrepareReceive_part (pt : Part) (h0 : pt ≠ .hamlets) (h1 : pt ≠ .market) (h2 : pt ≠ .hampers)
    (h3 : pt ≠ .can) (h4 : pt ≠ .tw) (h5 : pt ≠ .svc) (h6 : pt ≠ .lane) (f : DomainFrame) (c : Chip) :
    part pt (domainPrepareReceive f c) = part pt c := by
  unfold domainPrepareReceive
  dsimp only
  repeat' split
  all_goals simp [*]

@[simp] theorem domainVoteReceive_part (pt : Part) (h0 : pt ≠ .hamlets) (h1 : pt ≠ .market) (h2 : pt ≠ .hampers) (h3 :
    pt ≠ .can) (h4 : pt ≠ .tw) (h5 : pt ≠ .svc) (h6 : pt ≠ .lane) (node : Fin 1024) (f : DomainFrame) (c : Chip) :
    part pt (domainVoteReceive node f c) = part pt c := by
  unfold domainVoteReceive
  repeat' split
  all_goals simp [*]

@[simp] theorem domainVoteDeadline_part (pt : Part) (h0 : pt ≠ .hamlets) (h1 : pt ≠ .market) (h2 : pt ≠ .hampers) (h3
    : pt ≠ .can) (h4 : pt ≠ .tw) (h5 : pt ≠ .svc) (h6 : pt ≠ .lane) (handle : BitVec 8) (c : Chip) :
    part pt (domainVoteDeadline handle c) = part pt c := by
  unfold domainVoteDeadline
  repeat' split
  all_goals simp [*]

@[simp] theorem domainGoReceive_part (pt : Part) (h0 : pt ≠ .hampers) (f : DomainFrame) (c : Chip) :
    part pt (domainGoReceive f c) = part pt c := by
  unfold domainGoReceive
  repeat' split
  all_goals simp [*]

@[simp] theorem domainArmingPoint_part (pt : Part) (h0 : pt ≠ .hamlets) (h1 : pt ≠ .market) (h2 : pt ≠ .hampers) (h3 :
    pt ≠ .can) (h4 : pt ≠ .tw) (h5 : pt ≠ .svc) (h6 : pt ≠ .lane) (h7 : pt ≠ .alm) (handle : BitVec 8) (c : Chip) :
    part pt (domainArmingPoint handle c) = part pt c := by
  unfold domainArmingPoint
  repeat' split
  all_goals simp [*]

@[simp] theorem domainArmedReceive_part (pt : Part) (h0 : pt ≠ .hampers) (node : Fin 1024) (f : DomainFrame) (c :
    Chip) :
    part pt (domainArmedReceive node f c) = part pt c := by
  unfold domainArmedReceive
  repeat' split
  all_goals simp [*]

@[simp] theorem domainDecisionPoint_part (pt : Part) (h0 : pt ≠ .hamlets) (h1 : pt ≠ .market) (h2 : pt ≠ .hampers) (h3
    : pt ≠ .can) (h4 : pt ≠ .tw) (h5 : pt ≠ .svc) (h6 : pt ≠ .lane) (handle : BitVec 8) (c : Chip) :
    part pt (domainDecisionPoint handle c) = part pt c := by
  unfold domainDecisionPoint
  repeat' split
  all_goals simp [*]

@[simp] theorem domainDecisionRepeat_part (pt : Part) (h0 : pt ≠ .lane) (handle : BitVec 8) (c : Chip) :
    part pt (domainDecisionRepeat handle c) = part pt c := by
  unfold domainDecisionRepeat
  repeat' split
  all_goals simp [*]

@[simp] theorem domainCommitReceive_part (pt : Part) (h0 : pt ≠ .hampers) (f : DomainFrame) (c : Chip) :
    part pt (domainCommitReceive f c) = part pt c := by
  unfold domainCommitReceive
  repeat' split
  all_goals simp [*]

@[simp] theorem domainAbortReceive_part (pt : Part) (h0 : pt ≠ .hamlets) (h1 : pt ≠ .market) (h2 : pt ≠ .hampers) (h3
    : pt ≠ .can) (h4 : pt ≠ .tw) (h5 : pt ≠ .svc) (h6 : pt ≠ .lane) (f : DomainFrame) (c : Chip) :
    part pt (domainAbortReceive f c) = part pt c := by
  unfold domainAbortReceive
  repeat' split
  all_goals simp [*]

@[simp] theorem applyDomain_part (pt : Part) (h0 : pt ≠ .clock) (h1 : pt ≠ .hamlets) (h2 : pt ≠ .green) (h3 : pt ≠
    .chans) (h4 : pt ≠ .rms) (h5 : pt ≠ .bus) (h6 : pt ≠ .phases) (h7 : pt ≠ .rails) (h8 : pt ≠ .vcs) (h9 : pt ≠
    .strs) (h10 : pt ≠ .ests) (h11 : pt ≠ .batt) (h12 : pt ≠ .pps) (h13 : pt ≠ .wms) (h14 : pt ≠ .seq) (h15 : pt ≠
    .mills) (h16 : pt ≠ .market) (h17 : pt ≠ .hampers) (h18 : pt ≠ .can) (h19 : pt ≠ .tw) (h20 : pt ≠ .svc) (h21 : pt
    ≠ .lane) (h22 : pt ≠ .watch) (h23 : pt ≠ .alm) (h24 : pt ≠ .twin) (h25 : pt ≠ .nor) (h26 : pt ≠ .od) (h : Hamper)
    (c : Chip) :
    part pt (applyDomain h c) = part pt c := by
  unfold applyDomain
  dsimp only
  repeat' split
  all_goals simp [*]

@[simp] theorem domainApplyTime_part (pt : Part) (h0 : pt ≠ .clock) (h1 : pt ≠ .hamlets) (h2 : pt ≠ .green) (h3 : pt ≠
    .chans) (h4 : pt ≠ .rms) (h5 : pt ≠ .bus) (h6 : pt ≠ .phases) (h7 : pt ≠ .rails) (h8 : pt ≠ .vcs) (h9 : pt ≠
    .strs) (h10 : pt ≠ .ests) (h11 : pt ≠ .batt) (h12 : pt ≠ .pps) (h13 : pt ≠ .wms) (h14 : pt ≠ .seq) (h15 : pt ≠
    .mills) (h16 : pt ≠ .market) (h17 : pt ≠ .hampers) (h18 : pt ≠ .can) (h19 : pt ≠ .tw) (h20 : pt ≠ .svc) (h21 : pt
    ≠ .lane) (h22 : pt ≠ .watch) (h23 : pt ≠ .alm) (h24 : pt ≠ .twin) (h25 : pt ≠ .nor) (h26 : pt ≠ .od) (handle :
    BitVec 8) (c : Chip) :
    part pt (domainApplyTime handle c) = part pt c := by
  unfold domainApplyTime
  repeat' split
  all_goals simp [*]

@[simp] theorem domainAppliedReceive_part (pt : Part) (h0 : pt ≠ .hampers) (node : Fin 1024) (f : DomainFrame) (c :
    Chip) :
    part pt (domainAppliedReceive node f c) = part pt c := by
  unfold domainAppliedReceive
  repeat' split
  all_goals simp [*]

@[simp] theorem domainReportEnd_part (pt : Part) (h0 : pt ≠ .hampers) (h1 : pt ≠ .alm) (handle : BitVec 8) (c : Chip)
    :
    part pt (domainReportEnd handle c) = part pt c := by
  unfold domainReportEnd
  split
  · dsimp only
    refine part_ite ?_ rfl
    rw [log_part _ (by assumption) , setHamper_part _ (by assumption) ]
  · rfl

@[simp] theorem carryRead_part (pt : Part) (h0 : pt ≠ .hampers) (h1 : pt ≠ .gw) (h2 : pt ≠ .fresh) (q : Req) (c :
    Chip) :
    part pt ((carryRead q c).chip) = part pt c := by
  unfold carryRead
  repeat' split
  all_goals
    have h := openHamper_part pt (by assumption) q.origin c
    simp_all

@[simp] theorem carryWrite_part (pt : Part) (h0 : pt ≠ .clock) (h1 : pt ≠ .hamlets) (h2 : pt ≠ .green) (h3 : pt ≠
    .chans) (h4 : pt ≠ .rms) (h5 : pt ≠ .bus) (h6 : pt ≠ .phases) (h7 : pt ≠ .rails) (h8 : pt ≠ .vcs) (h9 : pt ≠
    .strs) (h10 : pt ≠ .ests) (h11 : pt ≠ .batt) (h12 : pt ≠ .pps) (h13 : pt ≠ .wms) (h14 : pt ≠ .seq) (h15 : pt ≠
    .mills) (h16 : pt ≠ .market) (h17 : pt ≠ .hampers) (h18 : pt ≠ .can) (h19 : pt ≠ .tw) (h20 : pt ≠ .svc) (h21 : pt
    ≠ .lane) (h22 : pt ≠ .gw) (h23 : pt ≠ .watch) (h24 : pt ≠ .alm) (h25 : pt ≠ .twin) (h26 : pt ≠ .nor) (h27 : pt ≠
    .od) (q : Req) (b : List Byte) (c : Chip) :
    part pt ((carryWrite q b c).chip) = part pt c := by
  unfold carryWrite
  dsimp only
  repeat' split
  all_goals first
    | (simp [*]; done)
    | exact commandWrite_part _ (by assumption) (by assumption) (by assumption) (by assumption) (by assumption) (by assumption) (by assumption) (by assumption) (by assumption) (by assumption) (by assumption) (by assumption) (by assumption) (by assumption) (by assumption) (by assumption) (by assumption) (by assumption) (by assumption) (by assumption) (by assumption) (by assumption) (by assumption) _ _ _ _ _ (by assumption)

@[simp] theorem carryOut_part (pt : Part) (h0 : pt ≠ .clock) (h1 : pt ≠ .hamlets) (h2 : pt ≠ .green) (h3 : pt ≠
    .chans) (h4 : pt ≠ .rms) (h5 : pt ≠ .bus) (h6 : pt ≠ .phases) (h7 : pt ≠ .rails) (h8 : pt ≠ .vcs) (h9 : pt ≠
    .strs) (h10 : pt ≠ .ests) (h11 : pt ≠ .batt) (h12 : pt ≠ .pps) (h13 : pt ≠ .wms) (h14 : pt ≠ .seq) (h15 : pt ≠
    .mills) (h16 : pt ≠ .market) (h17 : pt ≠ .hampers) (h18 : pt ≠ .can) (h19 : pt ≠ .tw) (h20 : pt ≠ .svc) (h21 : pt
    ≠ .lane) (h22 : pt ≠ .gw) (h23 : pt ≠ .watch) (h24 : pt ≠ .alm) (h25 : pt ≠ .twin) (h26 : pt ≠ .nor) (h27 : pt ≠
    .od) (h28 : pt ≠ .fresh) (q : Req) (c : Chip) :
    part pt ((carryOut q c).chip) = part pt c := by
  unfold carryOut; split <;> simp [*]

@[simp] theorem setReq_part (pt : Part) (h0 : pt ≠ .market) (id : Nat) (f : Req → Req) (c : Chip) :
    part pt (setReq id f c) = part pt c := by
  unfold setReq
  simp [*]

@[simp] theorem serve_part_fuses (q : Req) (c : Chip) :
    part .fuses (serve q c) = part .fuses c := by
  unfold serve
  dsimp only
  repeat' split
  all_goals simp

@[simp] theorem dispatch_part (pt : Part) (h0 : pt ≠ .hamlets) (h1 : pt ≠ .green) (h2 : pt ≠ .market) (q : Req) (c :
    Chip) :
    part pt (dispatch q c) = part pt c := by
  unfold dispatch
  dsimp only
  repeat' split
  all_goals simp [*]

@[simp] theorem marketDispatch_part (pt : Part) (h0 : pt ≠ .hamlets) (h1 : pt ≠ .green) (h2 : pt ≠ .market) (o :
    Origin) (k : Key) (c : Chip) :
    part pt (marketDispatch o k c) = part pt c := by
  unfold marketDispatch
  repeat' split
  all_goals simp [*]

@[simp] theorem refuse_part (pt : Part) (h0 : pt ≠ .market) (h1 : pt ≠ .hampers) (h2 : pt ≠ .can) (h3 : pt ≠ .tw) (h4
    : pt ≠ .svc) (h5 : pt ≠ .lane) (q : Req) (st : Status) (c : Chip) :
    part pt (refuse q st c) = part pt c := by
  unfold refuse
  repeat' split
  all_goals simp [*]

@[simp] theorem takeSlot_part (pt : Part) (h0 : pt ≠ .hamlets) (h1 : pt ≠ .green) (h2 : pt ≠ .market) (q : Req) (c :
    Chip) :
    part pt (takeSlot q c) = part pt c := by
  unfold takeSlot
  simp [*]

@[simp] theorem takeSlotStaged_part (pt : Part) (h0 : pt ≠ .hamlets) (h1 : pt ≠ .market) (h2 : pt ≠ .hampers) (h3 : pt
    ≠ .can) (h4 : pt ≠ .tw) (h5 : pt ≠ .svc) (h6 : pt ≠ .lane) (q : Req) (b : List Byte) (c : Chip) :
    part pt (takeSlotStaged q b c) = part pt c := by
  unfold takeSlotStaged
  dsimp only
  all_goals simp [*]

@[simp] theorem admitReq_part (pt : Part) (h0 : pt ≠ .hamlets) (h1 : pt ≠ .green) (h2 : pt ≠ .market) (h3 : pt ≠
    .hampers) (h4 : pt ≠ .can) (h5 : pt ≠ .tw) (h6 : pt ≠ .svc) (h7 : pt ≠ .lane) (q : Req) (c : Chip) :
    part pt (admitReq q c) = part pt c := by
  unfold admitReq
  dsimp only
  repeat' split
  all_goals simp [*]

@[simp] theorem submit_part (pt : Part) (h0 : pt ≠ .hamlets) (h1 : pt ≠ .green) (h2 : pt ≠ .market) (h3 : pt ≠
    .hampers) (h4 : pt ≠ .can) (h5 : pt ≠ .tw) (h6 : pt ≠ .svc) (h7 : pt ≠ .lane) (o : Origin) (k : Key) (data :
    Option (List Byte)) (r : Reply) (c : Chip) :
    part pt (submit o k data r c) = part pt c := by
  unfold submit
  dsimp only
  repeat' split
  all_goals simp [*]

@[simp] theorem marketReady_part (pt : Part) (h0 : pt ≠ .hamlets) (h1 : pt ≠ .green) (h2 : pt ≠ .market) (h3 : pt ≠
    .hampers) (h4 : pt ≠ .can) (h5 : pt ≠ .tw) (h6 : pt ≠ .svc) (h7 : pt ≠ .lane) (c : Chip) :
    part pt (marketReady c) = part pt c := by
  unfold marketReady
  simp [*]

@[simp] theorem writeBytes_part_fuses (o : Origin) (k : Key) (b : List Byte) (c : Chip) :
    part .fuses (writeBytes o k b c) = part .fuses c := by
  unfold writeBytes
  dsimp only
  repeat' split
  all_goals simp

@[simp] theorem writeNum_part_fuses (o : Origin) (k : Key) (v : Int) (c : Chip) :
    part .fuses (writeNum o k v c) = part .fuses c := by
  unfold writeNum
  repeat' split
  all_goals simp

@[simp] theorem readNow_part_fuses (o : Origin) (k : Key) (c : Chip) :
    part .fuses (readNow o k c) = part .fuses c := by
  unfold readNow
  dsimp only
  repeat' split
  all_goals simp

@[simp] theorem objectWrite_part_fuses (o : Origin) (k : Key) (v : List Byte) (c : Chip) :
    part .fuses (objectWrite o k v c) = part .fuses c := by
  unfold objectWrite
  simp

@[simp] theorem perhaps_part_fuses (q : Req) (c : Chip) :
    part .fuses (perhaps q c) = part .fuses c := by
  unfold perhaps
  dsimp only
  repeat' split
  all_goals simp

@[simp] theorem marketCompletion_part_fuses (id : Nat) (memoryError : Bool) (c : Chip) :
    part .fuses (marketCompletion id memoryError c) = part .fuses c := by
  unfold marketCompletion
  repeat' split
  all_goals simp

@[simp] theorem marketTimeout_part_fuses (id : Nat) (c : Chip) :
    part .fuses (marketTimeout id c) = part .fuses c := by
  unfold marketTimeout
  repeat' split
  all_goals simp

@[simp] theorem hamletResetWaitTimeout_part (pt : Part) (h0 : pt ≠ .hamlets) (h1 : pt ≠ .market) (h2 : pt ≠ .can) (h3
    : pt ≠ .tw) (h4 : pt ≠ .svc) (h5 : pt ≠ .lane) (id : Nat) (c : Chip) :
    part pt (hamletResetWaitTimeout id c) = part pt c := by
  unfold hamletResetWaitTimeout
  dsimp only
  repeat' split
  all_goals simp [*]

@[simp] theorem railEnableWrite_part_fuses (o : Origin) (r : Fin 16) (v : Int) (c : Chip) :
    part .fuses (railEnableWrite o r v c) = part .fuses c := by
  unfold railEnableWrite
  simp

@[simp] theorem railTargetWrite_part_fuses (o : Origin) (r : Fin 16) (v : Int) (c : Chip) :
    part .fuses (railTargetWrite o r v c) = part .fuses c := by
  unfold railTargetWrite
  simp

@[simp] theorem strRequalify_part_fuses (o : Origin) (n : Fin 4) (v : Int) (c : Chip) :
    part .fuses (strRequalify o n v c) = part .fuses c := by
  unfold strRequalify
  simp

@[simp] theorem battHeartbeat_part_fuses (o : Origin) (v : Int) (c : Chip) :
    part .fuses (battHeartbeat o v c) = part .fuses c := by
  unfold battHeartbeat
  simp

@[simp] theorem fallowRequest_part_fuses (o : Origin) (v : Int) (c : Chip) :
    part .fuses (fallowRequest o v c) = part .fuses c := by
  unfold fallowRequest
  simp

@[simp] theorem shipModeArm_part_fuses (o : Origin) (v : Int) (c : Chip) :
    part .fuses (shipModeArm o v c) = part .fuses c := by
  unfold shipModeArm
  simp

@[simp] theorem shipModeConfirm_part_fuses (o : Origin) (v : Int) (c : Chip) :
    part .fuses (shipModeConfirm o v c) = part .fuses c := by
  unfold shipModeConfirm
  simp

@[simp] theorem ppEnableWrite_part_fuses (o : Origin) (n : Fin 8) (v : Int) (c : Chip) :
    part .fuses (ppEnableWrite o n v c) = part .fuses c := by
  unfold ppEnableWrite
  simp

@[simp] theorem seqCommand_part_fuses (o : Origin) (v : Int) (c : Chip) :
    part .fuses (seqCommand o v c) = part .fuses c := by
  unfold seqCommand
  simp

@[simp] theorem traceArm_part_fuses (o : Origin) (m : Fin 16) (c : Chip) :
    part .fuses (traceArm o m c) = part .fuses c := by
  unfold traceArm
  simp

@[simp] theorem traceForce_part_fuses (o : Origin) (m : Fin 16) (c : Chip) :
    part .fuses (traceForce o m c) = part .fuses c := by
  unfold traceForce
  simp

@[simp] theorem traceIdle_part_fuses (o : Origin) (m : Fin 16) (c : Chip) :
    part .fuses (traceIdle o m c) = part .fuses c := by
  unfold traceIdle
  simp

@[simp] theorem fenceClear_part_fuses (o : Origin) (v : Int) (c : Chip) :
    part .fuses (fenceClear o v c) = part .fuses c := by
  unfold fenceClear
  simp

@[simp] theorem fenceClearOrigin_part_fuses (o : Origin) (v : Int) (c : Chip) :
    part .fuses (fenceClearOrigin o v c) = part .fuses c := by
  unfold fenceClearOrigin
  simp

@[simp] theorem hamperOpen_part_fuses (o : Origin) (c : Chip) :
    part .fuses (hamperOpen o c) = part .fuses c := by
  unfold hamperOpen
  simp

@[simp] theorem hamperStage_part_fuses (o : Origin) (v : Int) (c : Chip) :
    part .fuses (hamperStage o v c) = part .fuses c := by
  unfold hamperStage
  simp

@[simp] theorem hamperWrite_part_fuses (o : Origin) (cmd node chandle : Nat) (h : BitVec 8) (c : Chip) :
    part .fuses (hamperWrite o cmd node chandle h c) = part .fuses c := by
  unfold hamperWrite
  simp

@[simp] theorem hamperCommit_part_fuses (o : Origin) (h : BitVec 8) (c : Chip) :
    part .fuses (hamperCommit o h c) = part .fuses c := by
  unfold hamperCommit
  simp

@[simp] theorem hamperCommitAt_part_fuses (o : Origin) (h : BitVec 8) (c : Chip) :
    part .fuses (hamperCommitAt o h c) = part .fuses c := by
  unfold hamperCommitAt
  simp

@[simp] theorem hamperCommitDomain_part_fuses (o : Origin) (h : BitVec 8) (c : Chip) :
    part .fuses (hamperCommitDomain o h c) = part .fuses c := by
  unfold hamperCommitDomain
  simp

@[simp] theorem hamperRollback_part_fuses (o : Origin) (h : BitVec 8) (c : Chip) :
    part .fuses (hamperRollback o h c) = part .fuses c := by
  unfold hamperRollback
  simp

@[simp] theorem hamperJoin_part_fuses (o : Origin) (h : BitVec 8) (node : Fin 1024) (chandle : BitVec 8) (c : Chip) :
    part .fuses (hamperJoin o h node chandle c) = part .fuses c := by
  unfold hamperJoin
  simp

@[simp] theorem laneEnableWrite_part_fuses (o : Origin) (v : Int) (c : Chip) :
    part .fuses (laneEnableWrite o v c) = part .fuses c := by
  unfold laneEnableWrite
  simp

@[simp] theorem laneTimeSet_part_fuses (o : Origin) (v : List Byte) (c : Chip) :
    part .fuses (laneTimeSet o v c) = part .fuses c := by
  unfold laneTimeSet
  simp

@[simp] theorem laneGwRequest_part_fuses (o : Origin) (v : List Byte) (c : Chip) :
    part .fuses (laneGwRequest o v c) = part .fuses c := by
  unfold laneGwRequest
  simp

@[simp] theorem laneGwResult_part_fuses (o : Origin) (c : Chip) :
    part .fuses (laneGwResult o c) = part .fuses c := by
  unfold laneGwResult
  simp

@[simp] theorem srcEnableWrite_part_fuses (o : Origin) (i : Fin 256) (v : Int) (c : Chip) :
    part .fuses (srcEnableWrite o i v c) = part .fuses c := by
  unfold srcEnableWrite
  simp

@[simp] theorem srcForce_part_fuses (o : Origin) (i : Fin 256) (v : Int) (c : Chip) :
    part .fuses (srcForce o i v c) = part .fuses c := by
  unfold srcForce
  simp

@[simp] theorem exportStart_part_fuses (o : Origin) (v : Int) (c : Chip) :
    part .fuses (exportStart o v c) = part .fuses c := by
  unfold exportStart
  simp

@[simp] theorem exportAbandon_part_fuses (o : Origin) (v : Int) (c : Chip) :
    part .fuses (exportAbandon o v c) = part .fuses c := by
  unfold exportAbandon
  simp

@[simp] theorem exportReceipt_part_fuses (o : Origin) (digest : List Byte) (c : Chip) :
    part .fuses (exportReceipt o digest c) = part .fuses c := by
  unfold exportReceipt
  simp

@[simp] theorem twinExercise_part_fuses (o : Origin) (v : Int) (c : Chip) :
    part .fuses (twinExercise o v c) = part .fuses c := by
  unfold twinExercise
  simp

@[simp] theorem chipResetCmd_part_fuses (o : Origin) (v : Int) (c : Chip) :
    part .fuses (chipResetCmd o v c) = part .fuses c := by
  unfold chipResetCmd
  simp

@[simp] theorem paramStoreCmd_part_fuses (o : Origin) (v : Int) (c : Chip) :
    part .fuses (paramStoreCmd o v c) = part .fuses c := by
  unfold paramStoreCmd
  simp

@[simp] theorem twinLinkDown_part (pt : Part) (h0 : pt ≠ .hamlets) (h1 : pt ≠ .market) (h2 : pt ≠ .hampers) (h3 : pt ≠
    .can) (h4 : pt ≠ .tw) (h5 : pt ≠ .svc) (h6 : pt ≠ .lane) (h7 : pt ≠ .watch) (h8 : pt ≠ .twin) (c : Chip) :
    part pt (twinLinkDown c) = part pt c := by
  unfold twinLinkDown
  repeat' split
  all_goals simp [*]

@[simp] theorem wipeLane_part (pt : Part) (h0 : pt ≠ .hamlets) (h1 : pt ≠ .market) (h2 : pt ≠ .hampers) (h3 : pt ≠
    .can) (h4 : pt ≠ .tw) (h5 : pt ≠ .svc) (h6 : pt ≠ .lane) (h7 : pt ≠ .watch) (c : Chip) :
    part pt (wipeLane c) = part pt c := by
  unfold wipeLane
  have h (c : Chip) (x : Lane) : part pt { c with lane := x } = part pt c := by
    cases pt <;> first | rfl | contradiction
  rw [h]
  simp [*]

@[simp] theorem wipeMill_part (pt : Part) (h0 : pt ≠ .mills) (m : Fin 16) (c : Chip) :
    part pt (wipeMill m c) = part pt c := by
  unfold wipeMill
  simp [*]

@[simp] theorem wipeTwin_part (pt : Part) (h0 : pt ≠ .hamlets) (h1 : pt ≠ .market) (h2 : pt ≠ .hampers) (h3 : pt ≠
    .can) (h4 : pt ≠ .tw) (h5 : pt ≠ .svc) (h6 : pt ≠ .lane) (h7 : pt ≠ .watch) (h8 : pt ≠ .twin) (c : Chip) :
    part pt (wipeTwin c) = part pt c := by
  unfold wipeTwin
  repeat' split
  all_goals simp [*]

@[simp] theorem wipeMem_part (pt : Part) (h0 : pt ≠ .batt) (h1 : pt ≠ .nor) (c : Chip) :
    part pt (wipeMem c) = part pt c := by
  unfold wipeMem
  repeat' split
  all_goals simp [*]

@[simp] theorem wipeMarket_part (pt : Part) (h0 : pt ≠ .market) (c : Chip) :
    part pt (wipeMarket c) = part pt c := by
  unfold wipeMarket
  repeat' split
  all_goals simp [*]

@[simp] theorem wipeHamlet_part (pt : Part) (h0 : pt ≠ .hamlets) (h1 : pt ≠ .phases) (h2 : pt ≠ .rails) (h3 : pt ≠
    .vcs) (h4 : pt ≠ .batt) (h5 : pt ≠ .mills) (h6 : pt ≠ .market) (h7 : pt ≠ .hampers) (h8 : pt ≠ .can) (h9 : pt ≠
    .tw) (h10 : pt ≠ .svc) (h11 : pt ≠ .update) (h12 : pt ≠ .lane) (h13 : pt ≠ .watch) (h14 : pt ≠ .alm) (h15 : pt ≠
    .twin) (h16 : pt ≠ .nor) (h : Fin 27) (c : Chip) :
    part pt (wipeHamlet h c) = part pt c := by
  unfold wipeHamlet
  repeat' split
  all_goals simp [*]

@[simp] theorem resetGivesUp_part (pt : Part) (h0 : pt ≠ .hamlets) (h1 : pt ≠ .market) (h2 : pt ≠ .can) (h3 : pt ≠
    .tw) (h4 : pt ≠ .svc) (h5 : pt ≠ .lane) (h6 : pt ≠ .watch) (h7 : pt ≠ .twin) (h : Fin 27) (c : Chip) :
    part pt (resetGivesUp h c) = part pt c := by
  unfold resetGivesUp
  repeat' split
  all_goals simp [*]

@[simp] theorem blockReset_part (pt : Part) (h0 : pt ≠ .hamlets) (h1 : pt ≠ .green) (h2 : pt ≠ .phases) (h3 : pt ≠
    .rails) (h4 : pt ≠ .vcs) (h5 : pt ≠ .batt) (h6 : pt ≠ .mills) (h7 : pt ≠ .market) (h8 : pt ≠ .hampers) (h9 : pt ≠
    .can) (h10 : pt ≠ .tw) (h11 : pt ≠ .svc) (h12 : pt ≠ .update) (h13 : pt ≠ .lane) (h14 : pt ≠ .watch) (h15 : pt ≠
    .alm) (h16 : pt ≠ .twin) (h17 : pt ≠ .nor) (h : Fin 27) (c : Chip) :
    part pt (blockReset h c) = part pt c := by
  unfold blockReset
  repeat' split
  all_goals simp [*]

@[simp] theorem marketLeavesReset_part (pt : Part) (h0 : pt ≠ .hamlets) (h1 : pt ≠ .market) (h2 : pt ≠ .can) (h3 : pt
    ≠ .tw) (h4 : pt ≠ .svc) (h5 : pt ≠ .lane) (c : Chip) :
    part pt (marketLeavesReset c) = part pt c := by
  unfold marketLeavesReset
  simp [*]

@[simp] theorem blockResetComplete_part (pt : Part) (h0 : pt ≠ .hamlets) (h1 : pt ≠ .market) (h2 : pt ≠ .can) (h3 : pt
    ≠ .tw) (h4 : pt ≠ .svc) (h5 : pt ≠ .lane) (h : Fin 27) (c : Chip) :
    part pt (blockResetComplete h c) = part pt c := by
  unfold blockResetComplete
  repeat' split
  all_goals simp [*]

@[simp] theorem hamletMarkReady_part (pt : Part) (h0 : pt ≠ .clock) (h1 : pt ≠ .hamlets) (h2 : pt ≠ .green) (h3 : pt ≠
    .rms) (h4 : pt ≠ .bus) (h5 : pt ≠ .well) (h6 : pt ≠ .phases) (h7 : pt ≠ .rails) (h8 : pt ≠ .strs) (h9 : pt ≠
    .batt) (h10 : pt ≠ .mills) (h11 : pt ≠ .market) (h12 : pt ≠ .hampers) (h13 : pt ≠ .can) (h14 : pt ≠ .tw) (h15 : pt
    ≠ .svc) (h16 : pt ≠ .lane) (h17 : pt ≠ .watch) (h18 : pt ≠ .alm) (h19 : pt ≠ .od) (h : Fin 27) (c : Chip) :
    part pt (hamletMarkReady h c) = part pt c := by
  unfold hamletMarkReady
  repeat' split
  all_goals simp [*]

@[simp] theorem safeHold_part (pt : Part) (h0 : pt ≠ .rms) (h1 : pt ≠ .bus) (h2 : pt ≠ .phases) (h3 : pt ≠ .seq) (h4 :
    pt ≠ .mills) (h5 : pt ≠ .watch) (h6 : pt ≠ .reeve) (h7 : pt ≠ .twin) (c : Chip) :
    part pt (safeHold c) = part pt c := by
  unfold safeHold
  dsimp only
  rw [← trimsNeutral_part pt (by assumption) (by assumption) c]
  generalize trimsNeutral c = d
  cases pt <;> first | rfl | contradiction

@[simp] theorem enterSafe_part (pt : Part) (h0 : pt ≠ .hamlets) (h1 : pt ≠ .rms) (h2 : pt ≠ .bus) (h3 : pt ≠ .phases)
    (h4 : pt ≠ .seq) (h5 : pt ≠ .mills) (h6 : pt ≠ .market) (h7 : pt ≠ .can) (h8 : pt ≠ .tw) (h9 : pt ≠ .svc) (h10 :
    pt ≠ .lane) (h11 : pt ≠ .watch) (h12 : pt ≠ .reeve) (h13 : pt ≠ .alm) (h14 : pt ≠ .twin) (c : Chip) :
    part pt (enterSafe c) = part pt c := by
  unfold enterSafe
  repeat' split
  all_goals simp [*]

@[simp] theorem watchGiveUps_part (pt : Part) (h0 : pt ≠ .hamlets) (h1 : pt ≠ .market) (h2 : pt ≠ .can) (h3 : pt ≠
    .tw) (h4 : pt ≠ .svc) (h5 : pt ≠ .lane) (h6 : pt ≠ .watch) (h7 : pt ≠ .twin) (t : Taken) (c : Chip) :
    part pt (watchGiveUps t c) = part pt c := by
  unfold watchGiveUps
  dsimp only
  repeat' split
  all_goals simp [*]

@[simp] theorem passSignals_part (pt : Part) (h0 : pt ≠ .hamlets) (h1 : pt ≠ .green) (h2 : pt ≠ .market) (t : Taken)
    (c : Chip) :
    part pt (passSignals t c) = part pt c := by
  unfold passSignals
  simp [*]

@[simp] theorem passChatter_part (pt : Part) (h0 : pt ≠ .chans) (h1 : pt ≠ .rms) (h2 : pt ≠ .bus) (h3 : pt ≠ .phases)
    (h4 : pt ≠ .rails) (h5 : pt ≠ .vcs) (h6 : pt ≠ .strs) (h7 : pt ≠ .pps) (h8 : pt ≠ .wms) (h9 : pt ≠ .seq) (h10 : pt
    ≠ .watch) (t : Taken) (c : Chip) :
    part pt (passChatter t c) = part pt c := by
  unfold passChatter
  repeat' split
  all_goals simp [*]

@[simp] theorem passBlockReset_part (pt : Part) (h0 : pt ≠ .hamlets) (h1 : pt ≠ .green) (h2 : pt ≠ .phases) (h3 : pt ≠
    .rails) (h4 : pt ≠ .vcs) (h5 : pt ≠ .batt) (h6 : pt ≠ .mills) (h7 : pt ≠ .market) (h8 : pt ≠ .hampers) (h9 : pt ≠
    .can) (h10 : pt ≠ .tw) (h11 : pt ≠ .svc) (h12 : pt ≠ .update) (h13 : pt ≠ .lane) (h14 : pt ≠ .watch) (h15 : pt ≠
    .alm) (h16 : pt ≠ .twin) (h17 : pt ≠ .nor) (t : Taken) (c : Chip) :
    part pt (passBlockReset t c) = part pt c := by
  unfold passBlockReset
  repeat' split
  all_goals simp [*]

@[simp] theorem traceEvents_part (pt : Part) (h0 : pt ≠ .mills) (l : List Taken) (c : Chip) :
    part pt (traceEvents l c) = part pt c := by
  unfold traceEvents
  refine each_part _ _ _ _ fun m c => ?_
  dsimp only
  split <;> simp [*]

@[simp] theorem watchEvaluation_part_fuses (c : Chip) :
    part .fuses (watchEvaluation c) = part .fuses c := by
  unfold watchEvaluation
  dsimp only
  repeat' split
  all_goals simp

@[simp] theorem sourceQuiet_part (pt : Part) (h0 : pt ≠ .can) (h1 : pt ≠ .watch) (i : Fin 256) (c : Chip) :
    part pt (sourceQuiet i c) = part pt c := by
  unfold sourceQuiet
  dsimp only
  repeat' split
  all_goals simp [*]

@[simp] theorem sourceClearFromQuiet_part (pt : Part) (h0 : pt ≠ .can) (h1 : pt ≠ .watch) (i : Fin 256) (c : Chip) :
    part pt (sourceClearFromQuiet i c) = part pt c := by
  unfold sourceClearFromQuiet
  simp [*]

@[simp] theorem countCorrected_part (pt : Part) (h0 : pt ≠ .watch) (n : Fin 5) (c : Chip) :
    part pt (countCorrected n c) = part pt c := by
  unfold countCorrected
  simp [*]

@[simp] theorem memoryCorrected_part (pt : Part) (h0 : pt ≠ .watch) (mem : MemoryId) (c : Chip) :
    part pt (memoryCorrected mem c) = part pt c := by
  unfold memoryCorrected
  repeat' split
  all_goals simp [*]

@[simp] theorem watchSelfCheckFail_part (pt : Part) (h0 : pt ≠ .hamlets) (h1 : pt ≠ .rms) (h2 : pt ≠ .bus) (h3 : pt ≠
    .phases) (h4 : pt ≠ .seq) (h5 : pt ≠ .mills) (h6 : pt ≠ .market) (h7 : pt ≠ .can) (h8 : pt ≠ .tw) (h9 : pt ≠ .svc)
    (h10 : pt ≠ .lane) (h11 : pt ≠ .watch) (h12 : pt ≠ .reeve) (h13 : pt ≠ .alm) (h14 : pt ≠ .twin) (mismatch : Bool)
    (c : Chip) :
    part pt (watchSelfCheckFail mismatch c) = part pt c := by
  unfold watchSelfCheckFail
  repeat' split
  all_goals simp [*]

@[simp] theorem memoryUncorrectable_part (pt : Part) (h0 : pt ≠ .hamlets) (h1 : pt ≠ .rms) (h2 : pt ≠ .bus) (h3 : pt ≠
    .phases) (h4 : pt ≠ .seq) (h5 : pt ≠ .mills) (h6 : pt ≠ .market) (h7 : pt ≠ .can) (h8 : pt ≠ .tw) (h9 : pt ≠ .svc)
    (h10 : pt ≠ .lane) (h11 : pt ≠ .watch) (h12 : pt ≠ .reeve) (h13 : pt ≠ .alm) (h14 : pt ≠ .twin) (mem : MemoryId)
    (c : Chip) :
    part pt (memoryUncorrectable mem c) = part pt c := by
  unfold memoryUncorrectable
  repeat' split
  all_goals simp [*]

@[simp] theorem revoke_part (pt : Part) (h0 : pt ≠ .hamlets) (h1 : pt ≠ .green) (h2 : pt ≠ .phases) (h3 : pt ≠ .rails)
    (h4 : pt ≠ .vcs) (h5 : pt ≠ .batt) (h6 : pt ≠ .mills) (h7 : pt ≠ .market) (h8 : pt ≠ .hampers) (h9 : pt ≠ .can)
    (h10 : pt ≠ .tw) (h11 : pt ≠ .svc) (h12 : pt ≠ .update) (h13 : pt ≠ .lane) (h14 : pt ≠ .watch) (h15 : pt ≠ .alm)
    (h16 : pt ≠ .twin) (h17 : pt ≠ .nor) (src : Nat) (h : Fin 27) (c : Chip) :
    part pt (revoke src h c) = part pt c := by
  unfold revoke
  simp [*]

@[simp] theorem memLockRevoke_part (pt : Part) (h0 : pt ≠ .hamlets) (h1 : pt ≠ .green) (h2 : pt ≠ .phases) (h3 : pt ≠
    .rails) (h4 : pt ≠ .vcs) (h5 : pt ≠ .batt) (h6 : pt ≠ .mills) (h7 : pt ≠ .market) (h8 : pt ≠ .hampers) (h9 : pt ≠
    .can) (h10 : pt ≠ .tw) (h11 : pt ≠ .svc) (h12 : pt ≠ .update) (h13 : pt ≠ .lane) (h14 : pt ≠ .watch) (h15 : pt ≠
    .alm) (h16 : pt ≠ .twin) (h17 : pt ≠ .nor) (h : Fin 27) (c : Chip) :
    part pt (memLockRevoke h c) = part pt c := by
  unfold memLockRevoke
  repeat' split
  all_goals simp [*]

@[simp] theorem greenLockRevoke_part (pt : Part) (h0 : pt ≠ .hamlets) (h1 : pt ≠ .green) (h2 : pt ≠ .phases) (h3 : pt
    ≠ .rails) (h4 : pt ≠ .vcs) (h5 : pt ≠ .batt) (h6 : pt ≠ .mills) (h7 : pt ≠ .market) (h8 : pt ≠ .hampers) (h9 : pt
    ≠ .can) (h10 : pt ≠ .tw) (h11 : pt ≠ .svc) (h12 : pt ≠ .update) (h13 : pt ≠ .lane) (h14 : pt ≠ .watch) (h15 : pt ≠
    .alm) (h16 : pt ≠ .twin) (h17 : pt ≠ .nor) (h : Fin 27) (c : Chip) :
    part pt (greenLockRevoke h c) = part pt c := by
  unfold greenLockRevoke
  simp [*]

@[simp] theorem supplyWarning_part (pt : Part) (h0 : pt ≠ .chans) (h1 : pt ≠ .watch) (h2 : pt ≠ .alm) (reading : Int)
    (c : Chip) :
    part pt (supplyWarning reading c) = part pt c := by
  unfold supplyWarning
  repeat' split
  all_goals simp [*]

@[simp] theorem supplyWarningClear_part (pt : Part) (h0 : pt ≠ .alm) (c : Chip) :
    part pt (supplyWarningClear c) = part pt c := by
  unfold supplyWarningClear
  simp [*]

@[simp] theorem supplyOutOfWindow_part (pt : Part) (h0 : pt ≠ .chans) (h1 : pt ≠ .watch) (ch : Fin 256) (reading :
    Int) (c : Chip) :
    part pt (supplyOutOfWindow ch reading c) = part pt c := by
  unfold supplyOutOfWindow
  repeat' split
  all_goals simp [*]

@[simp] theorem sendMirror_part (pt : Part) (h0 : pt ≠ .twin) (h1 : pt ≠ .fresh) (full : Bool) (ks : List Key) (c :
    Chip) :
    part pt (sendMirror full ks c) = part pt c := by
  unfold sendMirror
  simp [*]

@[simp] theorem loadBlock_part (pt : Part) (h0 : pt ≠ .strs) (h1 : pt ≠ .ests) (s : Fin 4) (b : EstBlock) (c : Chip) :
    part pt (loadBlock s b c) = part pt c := by
  unfold loadBlock
  simp [*]

@[simp] theorem shadowPhases_part (pt : Part) (h0 : pt ≠ .phases) (r : Fin 16) (s : RailState) (c : Chip) :
    part pt (shadowPhases r s c) = part pt c := by
  unfold shadowPhases
  repeat' split
  all_goals simp [*]

@[simp] theorem loadRail_part (pt : Part) (h0 : pt ≠ .phases) (h1 : pt ≠ .rails) (r : Fin 16) (v : Nat) (c : Chip) :
    part pt (loadRail r v c) = part pt c := by
  unfold loadRail
  repeat' split
  all_goals simp [*]

@[simp] theorem loadPp_part (pt : Part) (h0 : pt ≠ .pps) (n : Fin 8) (s : PpState) (c : Chip) :
    part pt (loadPp n s c) = part pt c := by
  unfold loadPp
  repeat' split
  all_goals simp [*]

@[simp] theorem loadPhase_part (pt : Part) (h0 : pt ≠ .phases) (p : Fin 32) (v : Nat) (c : Chip) :
    part pt (loadPhase p v c) = part pt c := by
  unfold loadPhase
  simp [*]

@[simp] theorem loadStrStatus_part (pt : Part) (h0 : pt ≠ .strs) (s : Fin 4) (v : Nat) (c : Chip) :
    part pt (loadStrStatus s v c) = part pt c := by
  unfold loadStrStatus
  simp [*]

@[simp] theorem loadState_part (pt : Part) (h0 : pt ≠ .rms) (h1 : pt ≠ .bus) (h2 : pt ≠ .cap) (h3 : pt ≠ .phases) (h4
    : pt ≠ .rails) (h5 : pt ≠ .strs) (h6 : pt ≠ .batt) (h7 : pt ≠ .pps) (h8 : pt ≠ .seq) (k : Key) (v : Int) (c :
    Chip) :
    part pt (loadState k v c) = part pt c := by
  unfold loadState
  dsimp only
  repeat' with_reducible refine part_ite ?_ ?_
  all_goals simp [*]

@[simp] theorem loadItem_part (pt : Part) (h0 : pt ≠ .rms) (h1 : pt ≠ .bus) (h2 : pt ≠ .cap) (h3 : pt ≠ .phases) (h4 :
    pt ≠ .rails) (h5 : pt ≠ .strs) (h6 : pt ≠ .ests) (h7 : pt ≠ .batt) (h8 : pt ≠ .pps) (h9 : pt ≠ .seq) (i :
    MirrorItem) (c : Chip) :
    part pt (loadItem i c) = part pt c := by
  unfold loadItem
  repeat' split
  all_goals simp [*]

@[simp] theorem sendResync_part (pt : Part) (h0 : pt ≠ .twin) (c : Chip) :
    part pt (sendResync c) = part pt c := by
  unfold sendResync
  simp [*]

@[simp] theorem applyMirror_part (pt : Part) (h0 : pt ≠ .clock) (h1 : pt ≠ .hamlets) (h2 : pt ≠ .green) (h3 : pt ≠
    .chans) (h4 : pt ≠ .rms) (h5 : pt ≠ .bus) (h6 : pt ≠ .cap) (h7 : pt ≠ .phases) (h8 : pt ≠ .rails) (h9 : pt ≠ .vcs)
    (h10 : pt ≠ .strs) (h11 : pt ≠ .ests) (h12 : pt ≠ .batt) (h13 : pt ≠ .pps) (h14 : pt ≠ .wms) (h15 : pt ≠ .seq)
    (h16 : pt ≠ .mills) (h17 : pt ≠ .market) (h18 : pt ≠ .hampers) (h19 : pt ≠ .can) (h20 : pt ≠ .tw) (h21 : pt ≠
    .svc) (h22 : pt ≠ .lane) (h23 : pt ≠ .watch) (h24 : pt ≠ .alm) (h25 : pt ≠ .twin) (h26 : pt ≠ .nor) (h27 : pt ≠
    .od) (seq : BitVec 32) (full : Bool) (items : List MirrorItem) (c : Chip) :
    part pt (applyMirror seq full items c) = part pt c := by
  unfold applyMirror
  dsimp only
  repeat' split
  all_goals simp [*]

@[simp] theorem judgeReturn_part (pt : Part) (h0 : pt ≠ .twin) (c : Chip) :
    part pt (judgeReturn c) = part pt c := by
  unfold judgeReturn
  simp [*]

@[simp] theorem leaveStarting_part (pt : Part) (h0 : pt ≠ .hamlets) (h1 : pt ≠ .chans) (h2 : pt ≠ .rms) (h3 : pt ≠
    .bus) (h4 : pt ≠ .phases) (h5 : pt ≠ .rails) (h6 : pt ≠ .vcs) (h7 : pt ≠ .strs) (h8 : pt ≠ .batt) (h9 : pt ≠ .pps)
    (h10 : pt ≠ .wms) (h11 : pt ≠ .seq) (h12 : pt ≠ .market) (h13 : pt ≠ .can) (h14 : pt ≠ .tw) (h15 : pt ≠ .svc) (h16
    : pt ≠ .lane) (h17 : pt ≠ .watch) (h18 : pt ≠ .twin) (h19 : pt ≠ .nor) (h20 : pt ≠ .fresh) (c : Chip) :
    part pt (leaveStarting c) = part pt c := by
  unfold leaveStarting
  repeat' split
  all_goals simp [*]

@[simp] theorem twinStateSend_part (pt : Part) (h0 : pt ≠ .hamlets) (h1 : pt ≠ .chans) (h2 : pt ≠ .rms) (h3 : pt ≠
    .bus) (h4 : pt ≠ .phases) (h5 : pt ≠ .rails) (h6 : pt ≠ .vcs) (h7 : pt ≠ .strs) (h8 : pt ≠ .batt) (h9 : pt ≠ .pps)
    (h10 : pt ≠ .wms) (h11 : pt ≠ .seq) (h12 : pt ≠ .market) (h13 : pt ≠ .can) (h14 : pt ≠ .tw) (h15 : pt ≠ .svc) (h16
    : pt ≠ .lane) (h17 : pt ≠ .watch) (h18 : pt ≠ .twin) (h19 : pt ≠ .nor) (h20 : pt ≠ .fresh) (c : Chip) :
    part pt (twinStateSend c) = part pt c := by
  unfold twinStateSend
  repeat' split
  all_goals simp [*]

@[simp] theorem twinStateReceive_part (pt : Part) (h0 : pt ≠ .watch) (h1 : pt ≠ .twin) (f : TwinFrame) (c : Chip) :
    part pt (twinStateReceive f c) = part pt c := by
  unfold twinStateReceive
  repeat' split
  all_goals simp [*]

@[simp] theorem twinLinkLost_part (pt : Part) (h0 : pt ≠ .hamlets) (h1 : pt ≠ .market) (h2 : pt ≠ .hampers) (h3 : pt ≠
    .can) (h4 : pt ≠ .tw) (h5 : pt ≠ .svc) (h6 : pt ≠ .lane) (h7 : pt ≠ .watch) (h8 : pt ≠ .twin) (c : Chip) :
    part pt (twinLinkLost c) = part pt c := by
  unfold twinLinkLost
  repeat' split
  all_goals simp [*]

@[simp] theorem trackSend_part (pt : Part) (h0 : pt ≠ .twin) (c : Chip) :
    part pt (trackSend c) = part pt c := by
  unfold trackSend
  repeat' split
  all_goals simp [*]

@[simp] theorem trackReceive_part (pt : Part) (h0 : pt ≠ .twin) (f : TrackFrame) (c : Chip) :
    part pt (trackReceive f c) = part pt c := by
  unfold trackReceive
  repeat' split
  all_goals simp [*]

@[simp] theorem mirrorSend_part (pt : Part) (h0 : pt ≠ .twin) (h1 : pt ≠ .fresh) (c : Chip) :
    part pt (mirrorSend c) = part pt c := by
  unfold mirrorSend
  repeat' split
  all_goals simp [*]

@[simp] theorem resyncReceive_part (pt : Part) (h0 : pt ≠ .twin) (h1 : pt ≠ .fresh) (c : Chip) :
    part pt (resyncReceive c) = part pt c := by
  unfold resyncReceive
  repeat' split
  all_goals simp [*]

@[simp] theorem mirrorReceive_part (pt : Part) (h0 : pt ≠ .hampers) (h1 : pt ≠ .watch) (h2 : pt ≠ .twin) (seq : BitVec
    32) (full : Bool) (items : List MirrorItem) (c : Chip) :
    part pt (mirrorReceive seq full items c) = part pt c := by
  unfold mirrorReceive
  repeat' split
  all_goals simp [*]

@[simp] theorem yieldShelf_part (pt : Part) (h0 : pt ≠ .hamlets) (h1 : pt ≠ .market) (h2 : pt ≠ .can) (h3 : pt ≠ .tw)
    (h4 : pt ≠ .svc) (h5 : pt ≠ .lane) (h6 : pt ≠ .twin) (c : Chip) :
    part pt (yieldShelf c) = part pt c := by
  unfold yieldShelf
  simp [*]

@[simp] theorem ownInRise_part (pt : Part) (h0 : pt ≠ .hamlets) (h1 : pt ≠ .chans) (h2 : pt ≠ .rms) (h3 : pt ≠ .bus)
    (h4 : pt ≠ .phases) (h5 : pt ≠ .rails) (h6 : pt ≠ .vcs) (h7 : pt ≠ .strs) (h8 : pt ≠ .batt) (h9 : pt ≠ .pps) (h10
    : pt ≠ .wms) (h11 : pt ≠ .seq) (h12 : pt ≠ .market) (h13 : pt ≠ .can) (h14 : pt ≠ .tw) (h15 : pt ≠ .svc) (h16 : pt
    ≠ .lane) (h17 : pt ≠ .watch) (h18 : pt ≠ .twin) (h19 : pt ≠ .nor) (h20 : pt ≠ .fresh) (simultaneous : Bool) (c :
    Chip) :
    part pt (ownInRise simultaneous c) = part pt c := by
  unfold ownInRise
  dsimp only
  repeat' split
  all_goals simp [*]

@[simp] theorem releaseHoldEnd_part (pt : Part) (h0 : pt ≠ .rms) (h1 : pt ≠ .phases) (h2 : pt ≠ .pps) (h3 : pt ≠
    .twin) (c : Chip) :
    part pt (releaseHoldEnd c) = part pt c := by
  unfold releaseHoldEnd
  repeat' split
  all_goals simp [*]

@[simp] theorem releaseTimeout_part (pt : Part) (h0 : pt ≠ .rms) (h1 : pt ≠ .phases) (h2 : pt ≠ .pps) (h3 : pt ≠
    .watch) (h4 : pt ≠ .twin) (c : Chip) :
    part pt (releaseTimeout c) = part pt c := by
  unfold releaseTimeout
  repeat' split
  all_goals simp [*]

@[simp] theorem ownInFall_part (pt : Part) (h0 : pt ≠ .hamlets) (h1 : pt ≠ .chans) (h2 : pt ≠ .rms) (h3 : pt ≠ .bus)
    (h4 : pt ≠ .phases) (h5 : pt ≠ .rails) (h6 : pt ≠ .vcs) (h7 : pt ≠ .strs) (h8 : pt ≠ .batt) (h9 : pt ≠ .pps) (h10
    : pt ≠ .wms) (h11 : pt ≠ .seq) (h12 : pt ≠ .market) (h13 : pt ≠ .can) (h14 : pt ≠ .tw) (h15 : pt ≠ .svc) (h16 : pt
    ≠ .lane) (h17 : pt ≠ .watch) (h18 : pt ≠ .twin) (h19 : pt ≠ .nor) (h20 : pt ≠ .fresh) (gap : Nat) (c : Chip) :
    part pt (ownInFall gap c) = part pt c := by
  unfold ownInFall
  dsimp only
  repeat' split
  all_goals simp [*]

@[simp] theorem staleHolderClaim_part (pt : Part) (h0 : pt ≠ .hamlets) (h1 : pt ≠ .chans) (h2 : pt ≠ .rms) (h3 : pt ≠
    .bus) (h4 : pt ≠ .phases) (h5 : pt ≠ .rails) (h6 : pt ≠ .vcs) (h7 : pt ≠ .strs) (h8 : pt ≠ .batt) (h9 : pt ≠ .pps)
    (h10 : pt ≠ .wms) (h11 : pt ≠ .seq) (h12 : pt ≠ .market) (h13 : pt ≠ .can) (h14 : pt ≠ .tw) (h15 : pt ≠ .svc) (h16
    : pt ≠ .lane) (h17 : pt ≠ .watch) (h18 : pt ≠ .twin) (h19 : pt ≠ .nor) (h20 : pt ≠ .fresh) (c : Chip) :
    part pt (staleHolderClaim c) = part pt c := by
  unfold staleHolderClaim
  repeat' split
  all_goals simp [*]

@[simp] theorem alternateStartClaim_part (pt : Part) (h0 : pt ≠ .hamlets) (h1 : pt ≠ .chans) (h2 : pt ≠ .rms) (h3 : pt
    ≠ .bus) (h4 : pt ≠ .phases) (h5 : pt ≠ .rails) (h6 : pt ≠ .vcs) (h7 : pt ≠ .strs) (h8 : pt ≠ .batt) (h9 : pt ≠
    .pps) (h10 : pt ≠ .wms) (h11 : pt ≠ .seq) (h12 : pt ≠ .market) (h13 : pt ≠ .can) (h14 : pt ≠ .tw) (h15 : pt ≠
    .svc) (h16 : pt ≠ .lane) (h17 : pt ≠ .watch) (h18 : pt ≠ .twin) (h19 : pt ≠ .nor) (h20 : pt ≠ .fresh) (c : Chip) :
    part pt (alternateStartClaim c) = part pt c := by
  unfold alternateStartClaim
  repeat' split
  all_goals simp [*]

@[simp] theorem returnHoldoffEnd_part (pt : Part) (h0 : pt ≠ .twin) (c : Chip) :
    part pt (returnHoldoffEnd c) = part pt c := by
  unfold returnHoldoffEnd
  dsimp only
  repeat' split
  all_goals simp [*]

@[simp] theorem storeFails_part (pt : Part) (h0 : pt ≠ .watch) (h1 : pt ≠ .boot) (c : Chip) :
    part pt (storeFails c) = part pt c := by
  unfold storeFails
  simp [*]

@[simp] theorem startStore_part (pt : Part) (h0 : pt ≠ .watch) (h1 : pt ≠ .boot) (h2 : pt ≠ .nor) (c : Chip) :
    part pt (startStore c) = part pt c := by
  unfold startStore
  dsimp only
  repeat' split
  all_goals simp [*]

@[simp] theorem paramStoreDone_part (pt : Part) (h0 : pt ≠ .alm) (h1 : pt ≠ .boot) (h2 : pt ≠ .nor) (c : Chip) :
    part pt (paramStoreDone c) = part pt c := by
  unfold paramStoreDone
  repeat' split
  all_goals simp [*]

@[simp] theorem paramStoreFail_part (pt : Part) (h0 : pt ≠ .watch) (h1 : pt ≠ .boot) (c : Chip) :
    part pt (paramStoreFail c) = part pt c := by
  unfold paramStoreFail
  repeat' split
  all_goals simp [*]

@[simp] theorem popItem_part (pt : Part) (h0 : pt ≠ .hampers) (c : Chip) :
    part pt (popItem c) = part pt c := by
  unfold popItem
  simp [*]

@[simp] theorem completeStore_part (pt : Part) (h0 : pt ≠ .hamlets) (h1 : pt ≠ .market) (h2 : pt ≠ .can) (h3 : pt ≠
    .tw) (h4 : pt ≠ .svc) (h5 : pt ≠ .lane) (st : Status) (c : Chip) :
    part pt (completeStore st c) = part pt c := by
  unfold completeStore
  repeat' split
  all_goals simp [*]

@[simp] theorem storeItem_part (pt : Part) (h0 : pt ≠ .hamlets) (h1 : pt ≠ .market) (h2 : pt ≠ .can) (h3 : pt ≠ .tw)
    (h4 : pt ≠ .svc) (h5 : pt ≠ .lane) (h6 : pt ≠ .watch) (h7 : pt ≠ .boot) (h8 : pt ≠ .nor) (c : Chip) :
    part pt (storeItem c) = part pt c := by
  unfold storeItem
  repeat' split
  all_goals simp [*]

theorem applyItem_part (pt : Part) (h0 : pt ≠ .clock) (h1 : pt ≠ .hamlets) (h2 : pt ≠ .green) (h3 : pt ≠ .chans) (h4 :
    pt ≠ .rms) (h5 : pt ≠ .bus) (h6 : pt ≠ .cap) (h7 : pt ≠ .phases) (h8 : pt ≠ .rails) (h9 : pt ≠ .vcs) (h10 : pt ≠
    .strs) (h11 : pt ≠ .ests) (h12 : pt ≠ .batt) (h13 : pt ≠ .pps) (h14 : pt ≠ .wms) (h15 : pt ≠ .seq) (h16 : pt ≠
    .mills) (h17 : pt ≠ .market) (h18 : pt ≠ .hampers) (h19 : pt ≠ .can) (h20 : pt ≠ .tw) (h21 : pt ≠ .svc) (h22 : pt
    ≠ .lane) (h23 : pt ≠ .watch) (h24 : pt ≠ .alm) (h25 : pt ≠ .twin) (h26 : pt ≠ .boot) (h27 : pt ≠ .nor) (h28 : pt ≠
    .od) (c d : Chip) (h : applyItem c = some d) :
    part pt d = part pt c := by
  unfold applyItem at h
  repeat' split at h
  all_goals first
    | (cases h; simp [*])
    | cases h

@[simp] theorem applyItems_part (pt : Part) (h0 : pt ≠ .clock) (h1 : pt ≠ .hamlets) (h2 : pt ≠ .green) (h3 : pt ≠
    .chans) (h4 : pt ≠ .rms) (h5 : pt ≠ .bus) (h6 : pt ≠ .cap) (h7 : pt ≠ .phases) (h8 : pt ≠ .rails) (h9 : pt ≠ .vcs)
    (h10 : pt ≠ .strs) (h11 : pt ≠ .ests) (h12 : pt ≠ .batt) (h13 : pt ≠ .pps) (h14 : pt ≠ .wms) (h15 : pt ≠ .seq)
    (h16 : pt ≠ .mills) (h17 : pt ≠ .market) (h18 : pt ≠ .hampers) (h19 : pt ≠ .can) (h20 : pt ≠ .tw) (h21 : pt ≠
    .svc) (h22 : pt ≠ .lane) (h23 : pt ≠ .watch) (h24 : pt ≠ .alm) (h25 : pt ≠ .twin) (h26 : pt ≠ .boot) (h27 : pt ≠
    .nor) (h28 : pt ≠ .od) (n : Nat) (c : Chip) :
    part pt (applyItems n c) = part pt c := by
  induction n generalizing c with
  | zero => rfl
  | succ n ih =>
    unfold applyItems
    split
    · rw [ih]; exact applyItem_part _ (by assumption) (by assumption) (by assumption) (by assumption) (by assumption) (by assumption) (by assumption) (by assumption) (by assumption) (by assumption) (by assumption) (by assumption) (by assumption) (by assumption) (by assumption) (by assumption) (by assumption) (by assumption) (by assumption) (by assumption) (by assumption) (by assumption) (by assumption) (by assumption) (by assumption) (by assumption) (by assumption) (by assumption) (by assumption) _ _ (by assumption)
    · rfl

@[simp] theorem giveBack_part (pt : Part) (h0 : pt ≠ .hamlets) (h1 : pt ≠ .market) (h2 : pt ≠ .can) (h3 : pt ≠ .tw)
    (h4 : pt ≠ .svc) (h5 : pt ≠ .lane) (h6 : pt ≠ .watch) (h7 : pt ≠ .twin) (c : Chip) :
    part pt (giveBack c) = part pt c := by
  unfold giveBack
  repeat' split
  all_goals simp [*]

@[simp] theorem applyTick_part (pt : Part) (h0 : pt ≠ .clock) (h1 : pt ≠ .hamlets) (h2 : pt ≠ .green) (h3 : pt ≠
    .chans) (h4 : pt ≠ .rms) (h5 : pt ≠ .bus) (h6 : pt ≠ .cap) (h7 : pt ≠ .phases) (h8 : pt ≠ .rails) (h9 : pt ≠ .vcs)
    (h10 : pt ≠ .strs) (h11 : pt ≠ .ests) (h12 : pt ≠ .batt) (h13 : pt ≠ .pps) (h14 : pt ≠ .wms) (h15 : pt ≠ .seq)
    (h16 : pt ≠ .mills) (h17 : pt ≠ .market) (h18 : pt ≠ .hampers) (h19 : pt ≠ .can) (h20 : pt ≠ .tw) (h21 : pt ≠
    .svc) (h22 : pt ≠ .lane) (h23 : pt ≠ .watch) (h24 : pt ≠ .alm) (h25 : pt ≠ .twin) (h26 : pt ≠ .boot) (h27 : pt ≠
    .nor) (h28 : pt ≠ .od) (c : Chip) :
    part pt (applyTick c) = part pt c := by
  unfold applyTick
  dsimp only
  repeat' split
  all_goals simp [*]

@[simp] theorem svcValid_part (pt : Part) (h0 : pt ≠ .svc) (c : Chip) :
    part pt (svcValid c) = part pt c := by
  unfold svcValid
  simp [*]

@[simp] theorem svcAlways_part (pt : Part) (h0 : pt ≠ .svc) (f : Chip → Chip) (c : Chip) (h : ∀ c, part pt (f c) =
    part pt c) :
    part pt (svcAlways f c) = part pt c := by
  unfold svcAlways; split <;> simp [*]

@[simp] theorem svcNormal_part (pt : Part) (h0 : pt ≠ .svc) (cmd : Nat) (tag : BitVec 16) (f : Chip → Chip) (c : Chip)
    (h : ∀ c, part pt (f c) = part pt c) :
    part pt (svcNormal cmd tag f c) = part pt c := by
  unfold svcNormal
  refine svcAlways_part _ (by assumption) _ _ (fun c => ?_)
  split <;> simp [*]

@[simp] theorem svcPing_part (pt : Part) (h0 : pt ≠ .svc) (tag : BitVec 16) (c : Chip) :
    part pt (svcPing tag c) = part pt c := by
  unfold svcPing
  simp [*]

@[simp] theorem svcRate_part (pt : Part) (h0 : pt ≠ .svc) (tag : BitVec 16) (rate : Nat) (c : Chip) :
    part pt (svcRate tag rate c) = part pt c := by
  unfold svcRate
  repeat' split
  all_goals simp [*]

@[simp] theorem svcRateChange_part (pt : Part) (h0 : pt ≠ .svc) (c : Chip) :
    part pt (svcRateChange c) = part pt c := by
  unfold svcRateChange
  repeat' split
  all_goals simp [*]

@[simp] theorem svcRateRevert_part (pt : Part) (h0 : pt ≠ .svc) (h1 : pt ≠ .watch) (c : Chip) :
    part pt (svcRateRevert c) = part pt c := by
  unfold svcRateRevert
  simp [*]

@[simp] theorem svcRead_part (pt : Part) (h0 : pt ≠ .hamlets) (h1 : pt ≠ .green) (h2 : pt ≠ .market) (h3 : pt ≠
    .hampers) (h4 : pt ≠ .can) (h5 : pt ≠ .tw) (h6 : pt ≠ .svc) (h7 : pt ≠ .lane) (tag : BitVec 16) (k : Key) (c :
    Chip) :
    part pt (svcRead tag k c) = part pt c := by
  unfold svcRead
  simp [*]

@[simp] theorem svcWrite_part (pt : Part) (h0 : pt ≠ .hamlets) (h1 : pt ≠ .green) (h2 : pt ≠ .market) (h3 : pt ≠
    .hampers) (h4 : pt ≠ .can) (h5 : pt ≠ .tw) (h6 : pt ≠ .svc) (h7 : pt ≠ .lane) (tag : BitVec 16) (k : Key) (data :
    List Byte) (c : Chip) :
    part pt (svcWrite tag k data c) = part pt c := by
  unfold svcWrite
  simp [*]

@[simp] theorem svcDomainRead_part (pt : Part) (h0 : pt ≠ .hamlets) (h1 : pt ≠ .green) (h2 : pt ≠ .market) (h3 : pt ≠
    .hampers) (h4 : pt ≠ .can) (h5 : pt ≠ .tw) (h6 : pt ≠ .svc) (h7 : pt ≠ .lane) (tag : BitVec 16) (k : Key) (offset
    length : Nat) (c : Chip) :
    part pt (svcDomainRead tag k offset length c) = part pt c := by
  unfold svcDomainRead
  refine svcNormal_part _ (by assumption) _ _ _ _ (fun c => ?_)
  try dsimp only
  repeat' split
  all_goals simp [*]

@[simp] theorem svcDomainWrite_part (pt : Part) (h0 : pt ≠ .hamlets) (h1 : pt ≠ .green) (h2 : pt ≠ .market) (h3 : pt ≠
    .hampers) (h4 : pt ≠ .can) (h5 : pt ≠ .tw) (h6 : pt ≠ .svc) (h7 : pt ≠ .lane) (tag : BitVec 16) (k : Key) (offset
    : Nat) (data : List Byte) (last : Bool) (c : Chip) :
    part pt (svcDomainWrite tag k offset data last c) = part pt c := by
  unfold svcDomainWrite
  refine svcNormal_part _ (by assumption) _ _ _ _ (fun c => ?_)
  try dsimp only
  repeat' split
  all_goals simp [*]

@[simp] theorem svcDomainCopyRelease_part (pt : Part) (h0 : pt ≠ .svc) (c : Chip) :
    part pt (svcDomainCopyRelease c) = part pt c := by
  unfold svcDomainCopyRelease
  simp [*]

@[simp] theorem svcTraceDump_part (pt : Part) (h0 : pt ≠ .svc) (tag : BitVec 16) (m : Fin 16) (mask : BitVec 4) (c :
    Chip) :
    part pt (svcTraceDump tag m mask c) = part pt c := by
  unfold svcTraceDump
  refine svcNormal_part _ (by assumption) _ _ _ _ (fun c => ?_)
  try dsimp only
  repeat' split
  all_goals simp [*]

@[simp] theorem svcSlotRead_part (pt : Part) (h0 : pt ≠ .svc) (h1 : pt ≠ .fresh) (tag : BitVec 16) (slot offset length
    : Nat) (c : Chip) :
    part pt (svcSlotRead tag slot offset length c) = part pt c := by
  unfold svcSlotRead
  refine svcNormal_part _ (by assumption) _ _ _ _ (fun c => ?_)
  try dsimp only
  repeat' split
  all_goals first
    | (simp [*]; done)
    | (simp [*]; cases pt <;> first | rfl | contradiction)

@[simp] theorem svcDiscard_part (pt : Part) (h0 : pt ≠ .svc) (c : Chip) :
    part pt (svcDiscard c) = part pt c := by
  unfold svcDiscard
  simp [*]

@[simp] theorem svcByteGap_part (pt : Part) (h0 : pt ≠ .svc) (c : Chip) :
    part pt (svcByteGap c) = part pt c := by
  unfold svcByteGap
  simp [*]

@[simp] theorem svcCrcError_part (pt : Part) (h0 : pt ≠ .svc) (c : Chip) :
    part pt (svcCrcError c) = part pt c := by
  unfold svcCrcError
  simp [*]

@[simp] theorem svcLinkDrop_part (pt : Part) (h0 : pt ≠ .hamlets) (h1 : pt ≠ .market) (h2 : pt ≠ .hampers) (h3 : pt ≠
    .can) (h4 : pt ≠ .tw) (h5 : pt ≠ .svc) (h6 : pt ≠ .update) (h7 : pt ≠ .lane) (h8 : pt ≠ .watch) (h9 : pt ≠ .alm)
    (c : Chip) :
    part pt (svcLinkDrop c) = part pt c := by
  unfold svcLinkDrop
  repeat' split
  all_goals simp [*]

@[simp] theorem svcUnknownCommand_part (pt : Part) (h0 : pt ≠ .svc) (tag : BitVec 16) (cmd : BitVec 8) (c : Chip) :
    part pt (svcUnknownCommand tag cmd c) = part pt c := by
  unfold svcUnknownCommand
  simp [*]

@[simp] theorem updateHeard_part (pt : Part) (h0 : pt ≠ .update) (c : Chip) :
    part pt (updateHeard c) = part pt c := by
  unfold updateHeard
  repeat' split
  all_goals simp [*]

@[simp] theorem writeDirectory_part (pt : Part) (h0 : pt ≠ .nor) (c : Chip) :
    part pt (writeDirectory c) = part pt c := by
  unfold writeDirectory
  repeat' split
  all_goals simp [*]

@[simp] theorem updateBegin_part (pt : Part) (h0 : pt ≠ .svc) (h1 : pt ≠ .update) (h2 : pt ≠ .alm) (h3 : pt ≠ .nor)
    (tag : BitVec 16) (slot : BitVec 8) (length : Nat) (c : Chip) :
    part pt (updateBegin tag slot length c) = part pt c := by
  unfold updateBegin
  refine svcAlways_part _ (by assumption) _ _ (fun c => ?_)
  dsimp only
  have h (c : Chip) (x : Update) : part pt { c with update := x } = part pt c := by
    cases pt <;> first | rfl | contradiction
  repeat' split
  all_goals simp [*]

@[simp] theorem updateEraseDone_part (pt : Part) (h0 : pt ≠ .svc) (h1 : pt ≠ .update) (c : Chip) :
    part pt (updateEraseDone c) = part pt c := by
  unfold updateEraseDone
  repeat' split
  all_goals simp [*]

@[simp] theorem updateData_part (pt : Part) (h0 : pt ≠ .svc) (h1 : pt ≠ .update) (tag : BitVec 16) (offset : Nat)
    (data : List Byte) (c : Chip) :
    part pt (updateData tag offset data c) = part pt c := by
  unfold updateData
  refine svcAlways_part _ (by assumption) _ _ (fun c => ?_)
  try dsimp only
  repeat' split
  all_goals simp [*]

@[simp] theorem updateDataProgrammed_part (pt : Part) (h0 : pt ≠ .svc) (h1 : pt ≠ .update) (h2 : pt ≠ .nor) (c : Chip)
    :
    part pt (updateDataProgrammed c) = part pt c := by
  unfold updateDataProgrammed
  repeat' split
  all_goals simp [*]

@[simp] theorem updateEnd_part (pt : Part) (h0 : pt ≠ .svc) (h1 : pt ≠ .update) (h2 : pt ≠ .alm) (tag : BitVec 16)
    (restart : Bool) (c : Chip) :
    part pt (updateEnd tag restart c) = part pt c := by
  unfold updateEnd
  refine svcAlways_part _ (by assumption) _ _ (fun c => ?_)
  try dsimp only
  repeat' split
  all_goals simp [*]

@[simp] theorem updateInactivity_part (pt : Part) (h0 : pt ≠ .update) (h1 : pt ≠ .watch) (h2 : pt ≠ .alm) (c : Chip) :
    part pt (updateInactivity c) = part pt c := by
  unfold updateInactivity
  repeat' split
  all_goals simp [*]

@[simp] theorem updateRestartReset_part_fuses (c : Chip) :
    part .fuses (updateRestartReset c) = part .fuses c := by
  unfold updateRestartReset
  repeat' split
  all_goals simp

@[simp] theorem lifecycleNonce_part (pt : Part) (h0 : pt ≠ .svc) (h1 : pt ≠ .lc) (h2 : pt ≠ .fresh) (tag : BitVec 16)
    (c : Chip) :
    part pt (lifecycleNonce tag c) = part pt c := by
  unfold lifecycleNonce
  simp [*]

@[simp] theorem refuseTransition_part (pt : Part) (h0 : pt ≠ .svc) (h1 : pt ≠ .watch) (h2 : pt ≠ .alm) (tag : BitVec
    16) (status reason : Nat) (c : Chip) :
    part pt (refuseTransition tag status reason c) = part pt c := by
  unfold refuseTransition
  simp [*]

@[simp] theorem lifecycleTransition_part (pt : Part) (h0 : pt ≠ .svc) (h1 : pt ≠ .lc) (h2 : pt ≠ .watch) (h3 : pt ≠
    .alm) (tag : BitVec 16) (t : LcTransition) (c : Chip) :
    part pt (lifecycleTransition tag t c) = part pt c := by
  unfold lifecycleTransition
  refine svcNormal_part _ (by assumption) _ _ _ _ (fun c => ?_)
  try dsimp only
  repeat' split
  all_goals simp [*]

@[simp] theorem eraseFor_part (pt : Part) (h0 : pt ≠ .alm) (h1 : pt ≠ .nor) (dest : LifeCycle) (c : Chip) :
    part pt (eraseFor dest c) = part pt c := by
  unfold eraseFor
  repeat' split
  all_goals simp [*]

@[simp] theorem setLink_part (pt : Part) (h0 : pt ≠ .lane) (p : LanePort) (f : LaneLink → LaneLink) (c : Chip) :
    part pt (setLink p f c) = part pt c := by
  unfold setLink
  repeat' split
  all_goals simp [*]

@[simp] theorem laneLinkUp_part (pt : Part) (h0 : pt ≠ .clock) (h1 : pt ≠ .hamlets) (h2 : pt ≠ .market) (h3 : pt ≠
    .hampers) (h4 : pt ≠ .can) (h5 : pt ≠ .tw) (h6 : pt ≠ .svc) (h7 : pt ≠ .lane) (h8 : pt ≠ .watch) (h9 : pt ≠ .alm)
    (p : LanePort) (farPortB : Bool) (c : Chip) :
    part pt (laneLinkUp p farPortB c) = part pt c := by
  unfold laneLinkUp
  dsimp only
  repeat' split
  all_goals simp [*]

@[simp] theorem laneLinkDown_part (pt : Part) (h0 : pt ≠ .lane) (h1 : pt ≠ .watch) (p : LanePort) (c : Chip) :
    part pt (laneLinkDown p c) = part pt c := by
  unfold laneLinkDown
  simp [*]

@[simp] theorem laneWrap_part (pt : Part) (h0 : pt ≠ .lane) (c : Chip) :
    part pt (laneWrap c) = part pt c := by
  unfold laneWrap
  dsimp only
  repeat' split
  all_goals simp [*]

@[simp] theorem setNode_part (pt : Part) (h0 : pt ≠ .lane) (n : Fin 1024) (f : LaneNode → LaneNode) (c : Chip) :
    part pt (setNode n f c) = part pt c := by
  unfold setNode
  simp [*]

@[simp] theorem hear_part (pt : Part) (h0 : pt ≠ .lane) (n : Fin 1024) (c : Chip) :
    part pt (hear n c) = part pt c := by
  unfold hear
  repeat' split
  all_goals simp [*]

@[simp] theorem learnHops_part (pt : Part) (h0 : pt ≠ .lane) (n : Fin 1024) (p : LanePort) (hops : Nat) (turns :
    BitVec 2) (c : Chip) :
    part pt (learnHops n p hops turns c) = part pt c := by
  unfold learnHops
  repeat' split
  all_goals simp [*]

@[simp] theorem learnRing_part (pt : Part) (h0 : pt ≠ .lane) (hops : Nat) (turns : BitVec 2) (c : Chip) :
    part pt (learnRing hops turns c) = part pt c := by
  unfold learnRing
  dsimp only
  repeat' split
  all_goals simp [*]

@[simp] theorem forwardFrame_part (pt : Part) (h0 : pt ≠ .lane) (p : LanePort) (f : LaneFrame) (c : Chip) :
    part pt (forwardFrame p f c) = part pt c := by
  unfold forwardFrame
  dsimp only
  repeat' split
  all_goals simp [*]

@[simp] theorem deliverFrame_part (pt : Part) (h0 : pt ≠ .lane) (f : LaneFrame) (c : Chip) :
    part pt (deliverFrame f c) = part pt c := by
  unfold deliverFrame
  repeat' split
  all_goals simp [*]

@[simp] theorem learnFrame_part (pt : Part) (h0 : pt ≠ .lane) (p : LanePort) (f : LaneFrame) (c : Chip) :
    part pt (learnFrame p f c) = part pt c := by
  unfold learnFrame
  repeat' split
  all_goals simp [*]

@[simp] theorem laneFrameReceive_part (pt : Part) (h0 : pt ≠ .lane) (p : LanePort) (f : LaneFrame) (c : Chip) :
    part pt (laneFrameReceive p f c) = part pt c := by
  unfold laneFrameReceive
  repeat' split
  all_goals simp [*]

@[simp] theorem rollSend_part (pt : Part) (h0 : pt ≠ .lane) (c : Chip) :
    part pt (rollSend c) = part pt c := by
  unfold rollSend
  repeat' split
  all_goals simp [*]

@[simp] theorem loseConflict_part (pt : Part) (h0 : pt ≠ .clock) (h1 : pt ≠ .hamlets) (h2 : pt ≠ .market) (h3 : pt ≠
    .hampers) (h4 : pt ≠ .can) (h5 : pt ≠ .tw) (h6 : pt ≠ .svc) (h7 : pt ≠ .lane) (h8 : pt ≠ .watch) (h9 : pt ≠ .alm)
    (c : Chip) :
    part pt (loseConflict c) = part pt c := by
  unfold loseConflict
  simp [*]

@[simp] theorem winConflict_part (pt : Part) (h0 : pt ≠ .lane) (c : Chip) :
    part pt (winConflict c) = part pt c := by
  unfold winConflict
  repeat' split
  all_goals simp [*]

@[simp] theorem rollReceive_part (pt : Part) (h0 : pt ≠ .clock) (h1 : pt ≠ .hamlets) (h2 : pt ≠ .market) (h3 : pt ≠
    .hampers) (h4 : pt ≠ .can) (h5 : pt ≠ .tw) (h6 : pt ≠ .svc) (h7 : pt ≠ .lane) (h8 : pt ≠ .watch) (h9 : pt ≠ .alm)
    (f : RollFrame) (c : Chip) :
    part pt (rollReceive f c) = part pt c := by
  unfold rollReceive
  repeat' split
  all_goals simp [*]

@[simp] theorem laneJoinComplete_part (pt : Part) (h0 : pt ≠ .clock) (h1 : pt ≠ .hamlets) (h2 : pt ≠ .market) (h3 : pt
    ≠ .hampers) (h4 : pt ≠ .can) (h5 : pt ≠ .tw) (h6 : pt ≠ .svc) (h7 : pt ≠ .lane) (h8 : pt ≠ .watch) (h9 : pt ≠
    .alm) (c : Chip) :
    part pt (laneJoinComplete c) = part pt c := by
  unfold laneJoinComplete
  repeat' split
  all_goals simp [*]

@[simp] theorem laneNodeLost_part (pt : Part) (h0 : pt ≠ .clock) (h1 : pt ≠ .hamlets) (h2 : pt ≠ .market) (h3 : pt ≠
    .hampers) (h4 : pt ≠ .can) (h5 : pt ≠ .tw) (h6 : pt ≠ .svc) (h7 : pt ≠ .lane) (h8 : pt ≠ .watch) (h9 : pt ≠ .alm)
    (n : Fin 1024) (c : Chip) :
    part pt (laneNodeLost n c) = part pt c := by
  unfold laneNodeLost
  repeat' split
  all_goals simp [*]

@[simp] theorem tsyncSend_part (pt : Part) (h0 : pt ≠ .lane) (p : LanePort) (c : Chip) :
    part pt (tsyncSend p c) = part pt c := by
  unfold tsyncSend
  repeat' split
  all_goals simp [*]

@[simp] theorem moveLaneTime_part (pt : Part) (h0 : pt ≠ .clock) (d : Int) (c : Chip) :
    part pt (moveLaneTime d c) = part pt c := by
  unfold moveLaneTime
  simp [*]

@[simp] theorem lockTime_part (pt : Part) (h0 : pt ≠ .lane) (d : Int) (c : Chip) :
    part pt (lockTime d c) = part pt c := by
  unfold lockTime
  repeat' split
  all_goals simp [*]

@[simp] theorem discipline_part (pt : Part) (h0 : pt ≠ .clock) (h1 : pt ≠ .hamlets) (h2 : pt ≠ .market) (h3 : pt ≠
    .hampers) (h4 : pt ≠ .can) (h5 : pt ≠ .tw) (h6 : pt ≠ .svc) (h7 : pt ≠ .lane) (h8 : pt ≠ .watch) (h9 : pt ≠ .alm)
    (p : LanePort) (f : TsyncFrame) (c : Chip) :
    part pt (discipline p f c) = part pt c := by
  unfold discipline
  dsimp only
  repeat' split
  all_goals simp [*]

@[simp] theorem tsyncReceive_part (pt : Part) (h0 : pt ≠ .clock) (h1 : pt ≠ .hamlets) (h2 : pt ≠ .market) (h3 : pt ≠
    .hampers) (h4 : pt ≠ .can) (h5 : pt ≠ .tw) (h6 : pt ≠ .svc) (h7 : pt ≠ .lane) (h8 : pt ≠ .watch) (h9 : pt ≠ .alm)
    (p : LanePort) (f : TsyncFrame) (c : Chip) :
    part pt (tsyncReceive p f c) = part pt c := by
  unfold tsyncReceive
  repeat' split
  all_goals simp [*]

@[simp] theorem dreqSend_part (pt : Part) (h0 : pt ≠ .lane) (p : LanePort) (c : Chip) :
    part pt (dreqSend p c) = part pt c := by
  unfold dreqSend
  repeat' split
  all_goals simp [*]

@[simp] theorem dreqReceive_part (pt : Part) (h0 : pt ≠ .lane) (p : LanePort) (arrival : Nat) (c : Chip) :
    part pt (dreqReceive p arrival c) = part pt c := by
  unfold dreqReceive
  repeat' split
  all_goals simp [*]

@[simp] theorem drspReceive_part (pt : Part) (h0 : pt ≠ .lane) (p : LanePort) (t2 t3 t4 : Nat) (c : Chip) :
    part pt (drspReceive p t2 t3 t4 c) = part pt c := by
  unfold drspReceive
  repeat' split
  all_goals simp [*]

@[simp] theorem holdoverEntry_part (pt : Part) (h0 : pt ≠ .lane) (c : Chip) :
    part pt (holdoverEntry c) = part pt c := by
  unfold holdoverEntry
  repeat' split
  all_goals simp [*]

@[simp] theorem holdoverExpiry_part (pt : Part) (h0 : pt ≠ .lane) (h1 : pt ≠ .watch) (c : Chip) :
    part pt (holdoverExpiry c) = part pt c := by
  unfold holdoverExpiry
  simp [*]

@[simp] theorem odDomainRead_part (pt : Part) (h0 : pt ≠ .hamlets) (h1 : pt ≠ .green) (h2 : pt ≠ .market) (h3 : pt ≠
    .hampers) (h4 : pt ≠ .can) (h5 : pt ≠ .tw) (h6 : pt ≠ .svc) (h7 : pt ≠ .lane) (src : Fin 1024) (q : OdRequest) (c
    : Chip) :
    part pt (odDomainRead src q c) = part pt c := by
  unfold odDomainRead
  repeat' split
  all_goals simp [*]

@[simp] theorem odDomainWrite_part (pt : Part) (h0 : pt ≠ .hamlets) (h1 : pt ≠ .green) (h2 : pt ≠ .market) (h3 : pt ≠
    .hampers) (h4 : pt ≠ .can) (h5 : pt ≠ .tw) (h6 : pt ≠ .svc) (h7 : pt ≠ .lane) (src : Fin 1024) (q : OdRequest) (c
    : Chip) :
    part pt (odDomainWrite src q c) = part pt c := by
  unfold odDomainWrite
  dsimp only
  repeat' split
  all_goals simp [*]

@[simp] theorem odRequestReceive_part (pt : Part) (h0 : pt ≠ .hamlets) (h1 : pt ≠ .green) (h2 : pt ≠ .market) (h3 : pt
    ≠ .hampers) (h4 : pt ≠ .can) (h5 : pt ≠ .tw) (h6 : pt ≠ .svc) (h7 : pt ≠ .lane) (src : Fin 1024) (q : OdRequest)
    (c : Chip) :
    part pt (odRequestReceive src q c) = part pt c := by
  unfold odRequestReceive
  repeat' split
  all_goals simp [*]

@[simp] theorem almAnswer_part (pt : Part) (h0 : pt ≠ .lane) (n : Fin 1024) (tag : BitVec 16) (st : Status) (last :
    Bool) (record : List Byte) (c : Chip) :
    part pt (almAnswer n tag st last record c) = part pt c := by
  unfold almAnswer
  simp [*]

@[simp] theorem almServe_part (pt : Part) (h0 : pt ≠ .lane) (c : Chip) :
    part pt (almServe c) = part pt c := by
  unfold almServe
  dsimp only
  repeat' split
  all_goals simp [*]

@[simp] theorem almFetchReceive_part (pt : Part) (h0 : pt ≠ .market) (h1 : pt ≠ .hampers) (h2 : pt ≠ .can) (h3 : pt ≠
    .tw) (h4 : pt ≠ .svc) (h5 : pt ≠ .lane) (src : Fin 1024) (q : AlmFetch) (c : Chip) :
    part pt (almFetchReceive src q c) = part pt c := by
  unfold almFetchReceive
  dsimp only
  repeat' split
  all_goals simp [*]

@[simp] theorem gwHold_part (pt : Part) (h0 : pt ≠ .gw) (q : GwReq) (ends : Bool) (payload : List Byte) (c : Chip) :
    part pt (gwHold q ends payload c) = part pt c := by
  unfold gwHold
  repeat' split
  all_goals simp [*]

@[simp] theorem gwResponseReceive_part (pt : Part) (h0 : pt ≠ .lane) (h1 : pt ≠ .gw) (src : Fin 1024) (alm : Bool)
    (last : Bool) (payload : List Byte) (c : Chip) :
    part pt (gwResponseReceive src alm last payload c) = part pt c := by
  unfold gwResponseReceive
  dsimp only
  repeat' split
  all_goals simp [*]

@[simp] theorem gwResponseExpiry_part (pt : Part) (h0 : pt ≠ .gw) (c : Chip) :
    part pt (gwResponseExpiry c) = part pt c := by
  unfold gwResponseExpiry
  repeat' split
  all_goals simp [*]

@[simp] theorem gwTimeout_part (pt : Part) (h0 : pt ≠ .gw) (tag : BitVec 16) (node : Fin 1024) (c : Chip) :
    part pt (gwTimeout tag node c) = part pt c := by
  unfold gwTimeout
  repeat' split
  all_goals simp [*]

@[simp] theorem toStep_part (pt : Part) (h0 : pt ≠ .boot) (n : Fin 12) (c : Chip) :
    part pt (toStep n c) = part pt c := by
  unfold toStep
  simp [*]

@[simp] theorem powerOnRelease_part (pt : Part) (h0 : pt ≠ .tw) (h1 : pt ≠ .twin) (h2 : pt ≠ .boot) (straps : Straps)
    (c : Chip) :
    part pt (powerOnRelease straps c) = part pt c := by
  unfold powerOnRelease
  repeat' split
  all_goals simp [*]

@[simp] theorem rstAssert_part_fuses (c : Chip) :
    part .fuses (rstAssert c) = part .fuses c := by
  unfold rstAssert
  simp

@[simp] theorem rstRelease_part (pt : Part) (h0 : pt ≠ .boot) (c : Chip) :
    part pt (rstRelease c) = part pt c := by
  unfold rstRelease
  simp [*]

@[simp] theorem bootRegulatorsReady_part (pt : Part) (h0 : pt ≠ .hamlets) (h1 : pt ≠ .boot) (c : Chip) :
    part pt (bootRegulatorsReady c) = part pt c := by
  unfold bootRegulatorsReady
  repeat' split
  all_goals simp [*]

@[simp] theorem bootReferenceLocked_part (pt : Part) (h0 : pt ≠ .clock) (h1 : pt ≠ .hamlets) (h2 : pt ≠ .boot) (c :
    Chip) :
    part pt (bootReferenceLocked c) = part pt c := by
  unfold bootReferenceLocked
  repeat' split
  all_goals (cases pt <;> first | rfl | contradiction)

@[simp] theorem enterRecovery_part (pt : Part) (h0 : pt ≠ .clock) (h1 : pt ≠ .watch) (h2 : pt ≠ .alm) (h3 : pt ≠
    .boot) (why : Nat) (c : Chip) :
    part pt (enterRecovery why c) = part pt c := by
  unfold enterRecovery
  repeat' split
  all_goals simp [*]

@[simp] theorem bootNorDiscovered_part (pt : Part) (h0 : pt ≠ .clock) (h1 : pt ≠ .watch) (h2 : pt ≠ .alm) (h3 : pt ≠
    .boot) (h4 : pt ≠ .nor) (found : Option NorPart) (recov : Bool) (c : Chip) :
    part pt (bootNorDiscovered found recov c) = part pt c := by
  unfold bootNorDiscovered
  dsimp only
  repeat' split
  all_goals simp [*]

@[simp] theorem bootImageChecked_part (pt : Part) (h0 : pt ≠ .clock) (h1 : pt ≠ .watch) (h2 : pt ≠ .alm) (h3 : pt ≠
    .boot) (slotB : Bool) (c : Chip) :
    part pt (bootImageChecked slotB c) = part pt c := by
  unfold bootImageChecked
  dsimp only
  repeat' split
  all_goals simp [*]

@[simp] theorem logArmed_part (pt : Part) (h0 : pt ≠ .alm) (c : Chip) :
    part pt (logArmed c) = part pt c := by
  unfold logArmed
  simp [*]

@[simp] theorem bootReeveStart_part (pt : Part) (h0 : pt ≠ .clock) (h1 : pt ≠ .watch) (h2 : pt ≠ .reeve) (h3 : pt ≠
    .alm) (h4 : pt ≠ .boot) (c : Chip) :
    part pt (bootReeveStart c) = part pt c := by
  unfold bootReeveStart
  dsimp only
  repeat' split
  all_goals simp [*]

@[simp] theorem logDefaults_part (pt : Part) (h0 : pt ≠ .watch) (h1 : pt ≠ .alm) (c : Chip) :
    part pt (logDefaults c) = part pt c := by
  unfold logDefaults
  simp [*]

@[simp] theorem loadSet_part (pt : Part) (h0 : pt ≠ .ests) (h1 : pt ≠ .watch) (h2 : pt ≠ .alm) (h3 : pt ≠ .boot) (h4 :
    pt ≠ .nor) (h5 : pt ≠ .od) (s : Fin 2) (p : ParamRegion) (c : Chip) :
    part pt (loadSet s p c) = part pt c := by
  unfold loadSet
  dsimp only
  repeat' split
  all_goals simp [*]

@[simp] theorem loadParameters_part (pt : Part) (h0 : pt ≠ .ests) (h1 : pt ≠ .watch) (h2 : pt ≠ .alm) (h3 : pt ≠
    .boot) (h4 : pt ≠ .nor) (h5 : pt ≠ .od) (c : Chip) :
    part pt (loadParameters c) = part pt c := by
  unfold loadParameters
  dsimp only
  repeat' split
  all_goals simp [*]

@[simp] theorem estOld_part (pt : Part) (h0 : pt ≠ .strs) (h1 : pt ≠ .watch) (h2 : pt ≠ .alm) (h3 : pt ≠ .fresh) (s :
    Fin 4) (c : Chip) :
    part pt (estOld s c) = part pt c := by
  unfold estOld
  simp [*]

@[simp] theorem bootEstimator_part (pt : Part) (h0 : pt ≠ .strs) (h1 : pt ≠ .ests) (h2 : pt ≠ .watch) (h3 : pt ≠ .alm)
    (h4 : pt ≠ .fresh) (s : Fin 4) (c : Chip) :
    part pt (bootEstimator s c) = part pt c := by
  unfold bootEstimator
  repeat' split
  all_goals simp [*]

@[simp] theorem bootParameterLoad_part (pt : Part) (h0 : pt ≠ .bus) (h1 : pt ≠ .strs) (h2 : pt ≠ .ests) (h3 : pt ≠
    .batt) (h4 : pt ≠ .lane) (h5 : pt ≠ .watch) (h6 : pt ≠ .alm) (h7 : pt ≠ .boot) (h8 : pt ≠ .nor) (h9 : pt ≠ .od)
    (h10 : pt ≠ .fresh) (closed : List Bool) (c : Chip) :
    part pt (bootParameterLoad closed c) = part pt c := by
  unfold bootParameterLoad
  repeat' split
  all_goals simp [*]

@[simp] theorem bootMillworkLoaded_part (pt : Part) (h0 : pt ≠ .rms) (h1 : pt ≠ .bus) (h2 : pt ≠ .well) (h3 : pt ≠
    .phases) (h4 : pt ≠ .rails) (h5 : pt ≠ .strs) (h6 : pt ≠ .batt) (h7 : pt ≠ .mills) (h8 : pt ≠ .boot) (c : Chip) :
    part pt (bootMillworkLoaded c) = part pt c := by
  unfold bootMillworkLoaded
  repeat' split
  all_goals simp [*]

@[simp] theorem bootString_part (pt : Part) (h0 : pt ≠ .strs) (h1 : pt ≠ .ests) (h2 : pt ≠ .watch) (h3 : pt ≠ .fresh)
    (s : Fin 4) (c : Chip) :
    part pt (bootString s c) = part pt c := by
  unfold bootString
  dsimp only
  repeat' split
  all_goals simp [*]

@[simp] theorem bootRm_part (pt : Part) (h0 : pt ≠ .rms) (h1 : pt ≠ .bus) (h2 : pt ≠ .watch) (n : Fin 8) (c : Chip) :
    part pt (bootRm n c) = part pt c := by
  unfold bootRm
  simp [*]

@[simp] theorem mendDirectory_part (pt : Part) (h0 : pt ≠ .watch) (h1 : pt ≠ .alm) (h2 : pt ≠ .nor) (i : Fin 2) (c :
    Chip) :
    part pt (mendDirectory i c) = part pt c := by
  unfold mendDirectory
  dsimp only
  repeat' split
  all_goals simp [*]

@[simp] theorem initialise_part (pt : Part) (h0 : pt ≠ .hamlets) (h1 : pt ≠ .green) (h2 : pt ≠ .chans) (h3 : pt ≠
    .rms) (h4 : pt ≠ .bus) (h5 : pt ≠ .strs) (h6 : pt ≠ .ests) (h7 : pt ≠ .batt) (h8 : pt ≠ .mills) (h9 : pt ≠
    .market) (h10 : pt ≠ .hampers) (h11 : pt ≠ .watch) (h12 : pt ≠ .alm) (h13 : pt ≠ .nor) (h14 : pt ≠ .fresh) (c :
    Chip) :
    part pt (initialise c) = part pt c := by
  unfold initialise
  simp [*]

@[simp] theorem startTogether_part (pt : Part) (h0 : pt ≠ .clock) (h1 : pt ≠ .hamlets) (h2 : pt ≠ .chans) (h3 : pt ≠
    .rms) (h4 : pt ≠ .bus) (h5 : pt ≠ .phases) (h6 : pt ≠ .rails) (h7 : pt ≠ .vcs) (h8 : pt ≠ .strs) (h9 : pt ≠ .batt)
    (h10 : pt ≠ .pps) (h11 : pt ≠ .wms) (h12 : pt ≠ .seq) (h13 : pt ≠ .market) (h14 : pt ≠ .hampers) (h15 : pt ≠ .can)
    (h16 : pt ≠ .tw) (h17 : pt ≠ .svc) (h18 : pt ≠ .lane) (h19 : pt ≠ .watch) (h20 : pt ≠ .alm) (h21 : pt ≠ .twin)
    (h22 : pt ≠ .nor) (h23 : pt ≠ .od) (h24 : pt ≠ .fresh) (c : Chip) :
    part pt (startTogether c) = part pt c := by
  unfold startTogether
  simp [*]

@[simp] theorem bootComplete_part (pt : Part) (h0 : pt ≠ .clock) (h1 : pt ≠ .hamlets) (h2 : pt ≠ .green) (h3 : pt ≠
    .chans) (h4 : pt ≠ .rms) (h5 : pt ≠ .bus) (h6 : pt ≠ .phases) (h7 : pt ≠ .rails) (h8 : pt ≠ .vcs) (h9 : pt ≠
    .strs) (h10 : pt ≠ .ests) (h11 : pt ≠ .batt) (h12 : pt ≠ .pps) (h13 : pt ≠ .wms) (h14 : pt ≠ .seq) (h15 : pt ≠
    .mills) (h16 : pt ≠ .market) (h17 : pt ≠ .hampers) (h18 : pt ≠ .can) (h19 : pt ≠ .tw) (h20 : pt ≠ .svc) (h21 : pt
    ≠ .lane) (h22 : pt ≠ .watch) (h23 : pt ≠ .reeve) (h24 : pt ≠ .alm) (h25 : pt ≠ .twin) (h26 : pt ≠ .boot) (h27 : pt
    ≠ .nor) (h28 : pt ≠ .od) (h29 : pt ≠ .fresh) (c : Chip) :
    part pt (bootComplete c) = part pt c := by
  unfold bootComplete
  repeat' split
  all_goals simp [*]

@[simp] theorem canErrorPassive_part (pt : Part) (h0 : pt ≠ .can) (h1 : pt ≠ .watch) (l : Fin 2) (c : Chip) :
    part pt (canErrorPassive l c) = part pt c := by
  unfold canErrorPassive
  repeat' split
  all_goals simp [*]

@[simp] theorem canBusOff_part (pt : Part) (h0 : pt ≠ .can) (h1 : pt ≠ .watch) (l : Fin 2) (c : Chip) :
    part pt (canBusOff l c) = part pt c := by
  unfold canBusOff
  repeat' split
  all_goals simp [*]

@[simp] theorem canBusoffRestart_part (pt : Part) (h0 : pt ≠ .can) (l : Fin 2) (c : Chip) :
    part pt (canBusoffRestart l c) = part pt c := by
  unfold canBusoffRestart
  simp [*]

@[simp] theorem errorActiveReturn_part (pt : Part) (h0 : pt ≠ .can) (l : Fin 2) (c : Chip) :
    part pt (errorActiveReturn l c) = part pt c := by
  unfold errorActiveReturn
  dsimp only
  repeat' split
  all_goals simp [*]

@[simp] theorem nmtEnter_part (pt : Part) (h0 : pt ≠ .can) (s : NmtState) (l : Fin 2) (c : Chip) :
    part pt (nmtEnter s l c) = part pt c := by
  unfold nmtEnter
  simp [*]

@[simp] theorem nmtStart_part (pt : Part) (h0 : pt ≠ .can) (l : Fin 2) (c : Chip) :
    part pt (nmtStart l c) = part pt c := by
  unfold nmtStart
  simp [*]

@[simp] theorem nmtStop_part (pt : Part) (h0 : pt ≠ .can) (l : Fin 2) (c : Chip) :
    part pt (nmtStop l c) = part pt c := by
  unfold nmtStop
  simp [*]

@[simp] theorem nmtPreoperational_part (pt : Part) (h0 : pt ≠ .can) (l : Fin 2) (c : Chip) :
    part pt (nmtPreoperational l c) = part pt c := by
  unfold nmtPreoperational
  simp [*]

@[simp] theorem nmtResetCommunication_part (pt : Part) (h0 : pt ≠ .can) (h1 : pt ≠ .od) (l : Fin 2) (c : Chip) :
    part pt (nmtResetCommunication l c) = part pt c := by
  unfold nmtResetCommunication
  simp [*]

@[simp] theorem nmtResetNode_part (pt : Part) (h0 : pt ≠ .can) (h1 : pt ≠ .od) (l : Fin 2) (c : Chip) :
    part pt (nmtResetNode l c) = part pt c := by
  unfold nmtResetNode
  simp [*]

@[simp] theorem heartbeatReceive_part (pt : Part) (h0 : pt ≠ .can) (l : Fin 2) (node : BitVec 7) (c : Chip) :
    part pt (heartbeatReceive l node c) = part pt c := by
  unfold heartbeatReceive
  repeat' split
  all_goals simp [*]

@[simp] theorem heartbeatConsumerTimeout_part (pt : Part) (h0 : pt ≠ .hamlets) (h1 : pt ≠ .market) (h2 : pt ≠
    .hampers) (h3 : pt ≠ .can) (h4 : pt ≠ .tw) (h5 : pt ≠ .svc) (h6 : pt ≠ .lane) (h7 : pt ≠ .watch) (l : Fin 2)
    (entry : Fin 4) (c : Chip) :
    part pt (heartbeatConsumerTimeout l entry c) = part pt c := by
  unfold heartbeatConsumerTimeout
  repeat' split
  all_goals simp [*]

@[simp] theorem heartbeatProduce_part (pt : Part) (h0 : pt ≠ .can) (c : Chip) :
    part pt (heartbeatProduce c) = part pt c := by
  unfold heartbeatProduce
  simp [*]

@[simp] theorem usdoRequest_part (pt : Part) (h0 : pt ≠ .hamlets) (h1 : pt ≠ .green) (h2 : pt ≠ .market) (h3 : pt ≠
    .hampers) (h4 : pt ≠ .can) (h5 : pt ≠ .tw) (h6 : pt ≠ .svc) (h7 : pt ≠ .lane) (l : Fin 2) (q : UsdoRequest) (c :
    Chip) :
    part pt (usdoRequest l q c) = part pt c := by
  unfold usdoRequest
  repeat' split
  all_goals simp [*]

@[simp] theorem usdoSegment_part (pt : Part) (h0 : pt ≠ .hamlets) (h1 : pt ≠ .green) (h2 : pt ≠ .market) (h3 : pt ≠
    .hampers) (h4 : pt ≠ .can) (h5 : pt ≠ .tw) (h6 : pt ≠ .svc) (h7 : pt ≠ .lane) (l : Fin 2) (data : List Byte) (last
    : Bool) (c : Chip) :
    part pt (usdoSegment l data last c) = part pt c := by
  unfold usdoSegment
  repeat' split
  all_goals simp [*]

@[simp] theorem usdoSegmentTimeout_part (pt : Part) (h0 : pt ≠ .can) (l : Fin 2) (c : Chip) :
    part pt (usdoSegmentTimeout l c) = part pt c := by
  unfold usdoSegmentTimeout
  repeat' split
  all_goals simp [*]

@[simp] theorem rpdoWrites_part (pt : Part) (h0 : pt ≠ .hamlets) (h1 : pt ≠ .green) (h2 : pt ≠ .market) (h3 : pt ≠
    .hampers) (h4 : pt ≠ .can) (h5 : pt ≠ .tw) (h6 : pt ≠ .svc) (h7 : pt ≠ .lane) (l : Fin 2) (m : List (Key × Nat))
    (b : List Byte) (c : Chip) :
    part pt (rpdoWrites l m b c) = part pt c := by
  induction m generalizing b c with
  | nil => rfl
  | cons e m ih => obtain ⟨k, n⟩ := e; simp [rpdoWrites, *]

@[simp] theorem rpdoApply_part (pt : Part) (h0 : pt ≠ .hamlets) (h1 : pt ≠ .green) (h2 : pt ≠ .market) (h3 : pt ≠
    .hampers) (h4 : pt ≠ .can) (h5 : pt ≠ .tw) (h6 : pt ≠ .svc) (h7 : pt ≠ .lane) (l : Fin 2) (k : Fin 16) (b : List
    Byte) (c : Chip) :
    part pt (rpdoApply l k b c) = part pt c := by
  unfold rpdoApply
  dsimp only
  repeat' split
  all_goals simp [*]

@[simp] theorem setRpdo_part (pt : Part) (h0 : pt ≠ .can) (k : Fin 16) (f : Rpdo → Rpdo) (c : Chip) :
    part pt (setRpdo k f c) = part pt c := by
  unfold setRpdo
  simp [*]

@[simp] theorem rpdoReceive_part (pt : Part) (h0 : pt ≠ .hamlets) (h1 : pt ≠ .green) (h2 : pt ≠ .market) (h3 : pt ≠
    .hampers) (h4 : pt ≠ .can) (h5 : pt ≠ .tw) (h6 : pt ≠ .svc) (h7 : pt ≠ .lane) (l : Fin 2) (k : Fin 16) (b : List
    Byte) (c : Chip) :
    part pt (rpdoReceive l k b c) = part pt c := by
  unfold rpdoReceive
  dsimp only
  repeat' split
  all_goals simp [*]

@[simp] theorem rpdoTimeout_part (pt : Part) (h0 : pt ≠ .can) (h1 : pt ≠ .watch) (k : Fin 16) (c : Chip) :
    part pt (rpdoTimeout k c) = part pt c := by
  unfold rpdoTimeout
  repeat' split
  all_goals simp [*]

@[simp] theorem setTpdo_part (pt : Part) (h0 : pt ≠ .can) (k : Fin 16) (f : Tpdo → Tpdo) (c : Chip) :
    part pt (setTpdo k f c) = part pt c := by
  unfold setTpdo
  simp [*]

@[simp] theorem syncTpdo_part (pt : Part) (h0 : pt ≠ .can) (counter : BitVec 8) (k : Fin 16) (c : Chip) :
    part pt (syncTpdo counter k c) = part pt c := by
  unfold syncTpdo
  dsimp only
  repeat' split
  all_goals simp [*]

@[simp] theorem syncRpdo_part (pt : Part) (h0 : pt ≠ .hamlets) (h1 : pt ≠ .green) (h2 : pt ≠ .market) (h3 : pt ≠
    .hampers) (h4 : pt ≠ .can) (h5 : pt ≠ .tw) (h6 : pt ≠ .svc) (h7 : pt ≠ .lane) (k : Fin 16) (c : Chip) :
    part pt (syncRpdo k c) = part pt c := by
  unfold syncRpdo
  repeat' split
  all_goals simp [*]

@[simp] theorem syncReceive_part (pt : Part) (h0 : pt ≠ .hamlets) (h1 : pt ≠ .green) (h2 : pt ≠ .market) (h3 : pt ≠
    .hampers) (h4 : pt ≠ .can) (h5 : pt ≠ .tw) (h6 : pt ≠ .svc) (h7 : pt ≠ .lane) (l : Fin 2) (counter : BitVec 8) (c
    : Chip) :
    part pt (syncReceive l counter c) = part pt c := by
  unfold syncReceive
  repeat' split
  all_goals simp [*]

@[simp] theorem checkTpdo_part (pt : Part) (h0 : pt ≠ .can) (k : Fin 16) (c : Chip) :
    part pt (checkTpdo k c) = part pt c := by
  unfold checkTpdo
  repeat' split
  all_goals simp [*]

@[simp] theorem tpdoEventCheck_part (pt : Part) (h0 : pt ≠ .can) (c : Chip) :
    part pt (tpdoEventCheck c) = part pt c := by
  unfold tpdoEventCheck
  repeat' split
  all_goals simp [*]

@[simp] theorem tpdoEventTimer_part (pt : Part) (h0 : pt ≠ .can) (k : Fin 16) (c : Chip) :
    part pt (tpdoEventTimer k c) = part pt c := by
  unfold tpdoEventTimer
  simp [*]

@[simp] theorem tpdoInhibitEnd_part (pt : Part) (h0 : pt ≠ .can) (k : Fin 16) (c : Chip) :
    part pt (tpdoInhibitEnd k c) = part pt c := by
  unfold tpdoInhibitEnd
  repeat' split
  all_goals simp [*]

@[simp] theorem emcySend_part (pt : Part) (h0 : pt ≠ .can) (l : Fin 2) (c : Chip) :
    part pt (emcySend l c) = part pt c := by
  unfold emcySend
  repeat' split
  all_goals simp [*]

@[simp] theorem chargeString_part (pt : Part) (h0 : pt ≠ .chans) (h1 : pt ≠ .strs) (u : Unit4) (ub : Rat) (s : Fin 4)
    (c : Chip) :
    part pt (chargeString u ub s c) = part pt c := by
  unfold chargeString
  dsimp only
  repeat' split
  all_goals simp [*]

@[simp] theorem chargeTrack_part (pt : Part) (h0 : pt ≠ .chans) (h1 : pt ≠ .strs) (u : Unit4) (t : TrackFrame) (s :
    Fin 4) (c : Chip) :
    part pt (chargeTrack u t s c) = part pt c := by
  unfold chargeTrack
  dsimp only
  repeat' split
  all_goals simp [*]

@[simp] theorem chargeUnit_part (pt : Part) (h0 : pt ≠ .chans) (h1 : pt ≠ .strs) (h2 : pt ≠ .batt) (h3 : pt ≠ .fresh)
    (u : Unit4) (c : Chip) :
    part pt (chargeUnit u c) = part pt c := by
  unfold chargeUnit
  dsimp only
  repeat' split
  all_goals simp [*]

@[simp] theorem restage_part (pt : Part) (h0 : pt ≠ .cap) (c : Chip) :
    part pt (restage c) = part pt c := by
  unfold restage
  simp [*]

@[simp] theorem setVcLevel_part (pt : Part) (h0 : pt ≠ .cap) (h1 : pt ≠ .vcs) (l : Nat) (c : Chip) :
    part pt (setVcLevel l c) = part pt c := by
  unfold setVcLevel
  simp [*]

@[simp] theorem setDoorLevel_part (pt : Part) (h0 : pt ≠ .cap) (h1 : pt ≠ .can) (l : Nat) (c : Chip) :
    part pt (setDoorLevel l c) = part pt c := by
  unfold setDoorLevel
  repeat' split
  all_goals simp [*]

@[simp] theorem capShed_part (pt : Part) (h0 : pt ≠ .cap) (h1 : pt ≠ .pps) (n : Fin 8) (c : Chip) :
    part pt (capShed n c) = part pt c := by
  unfold capShed
  simp [*]

@[simp] theorem engage_part (pt : Part) (h0 : pt ≠ .cap) (h1 : pt ≠ .vcs) (h2 : pt ≠ .pps) (h3 : pt ≠ .can) (p : Plan)
    (c : Chip) :
    part pt (engage p c) = part pt c := by
  unfold engage
  simp [*]

@[simp] theorem releaseAll_part (pt : Part) (h0 : pt ≠ .cap) (h1 : pt ≠ .vcs) (h2 : pt ≠ .pps) (h3 : pt ≠ .can) (c :
    Chip) :
    part pt (releaseAll c) = part pt c := by
  unfold releaseAll
  simp [*]

@[simp] theorem refreshCap_part (pt : Part) (h0 : pt ≠ .cap) (c : Chip) :
    part pt (refreshCap c) = part pt c := by
  unfold refreshCap
  simp [*]

@[simp] theorem actOnExcess_part (pt : Part) (h0 : pt ≠ .cap) (h1 : pt ≠ .vcs) (h2 : pt ≠ .pps) (h3 : pt ≠ .can) (c :
    Chip) :
    part pt (actOnExcess c) = part pt c := by
  unfold actOnExcess
  dsimp only
  repeat' split
  all_goals simp [*]

@[simp] theorem capEvaluation_part (pt : Part) (h0 : pt ≠ .cap) (h1 : pt ≠ .vcs) (h2 : pt ≠ .pps) (h3 : pt ≠ .can) (c
    : Chip) :
    part pt (capEvaluation c) = part pt c := by
  unfold capEvaluation
  repeat' split
  all_goals simp [*]

@[simp] theorem shedReevaluate_part (pt : Part) (h0 : pt ≠ .cap) (h1 : pt ≠ .vcs) (h2 : pt ≠ .pps) (h3 : pt ≠ .can) (c
    : Chip) :
    part pt (shedReevaluate c) = part pt c := by
  unfold shedReevaluate
  repeat' split
  all_goals simp [*]

@[simp] theorem capRestore_part (pt : Part) (h0 : pt ≠ .cap) (h1 : pt ≠ .pps) (c : Chip) :
    part pt (capRestore c) = part pt c := by
  unfold capRestore
  dsimp only
  repeat' split
  all_goals simp [*]

@[simp] theorem capLevelRise_part (pt : Part) (h0 : pt ≠ .cap) (h1 : pt ≠ .vcs) (h2 : pt ≠ .can) (c : Chip) :
    part pt (capLevelRise c) = part pt c := by
  unfold capLevelRise
  repeat' split
  all_goals simp [*]

@[simp] theorem capPdoRepeat_part (pt : Part) (h0 : pt ≠ .can) (c : Chip) :
    part pt (capPdoRepeat c) = part pt c := by
  unfold capPdoRepeat
  repeat' split
  all_goals simp [*]

@[simp] theorem capStageEventRepeat_part (pt : Part) (h0 : pt ≠ .watch) (c : Chip) :
    part pt (capStageEventRepeat c) = part pt c := by
  unfold capStageEventRepeat
  repeat' split
  all_goals simp [*]

@[simp] theorem preload_part (pt : Part) (h0 : pt ≠ .batt) (h1 : pt ≠ .fresh) (c : Chip) :
    part pt (preload c) = part pt c := by
  unfold preload
  repeat' split
  all_goals simp [*]

@[simp] theorem handoverTrigger_part (pt : Part) (h0 : pt ≠ .chans) (h1 : pt ≠ .rms) (h2 : pt ≠ .bus) (h3 : pt ≠
    .well) (h4 : pt ≠ .cap) (h5 : pt ≠ .vcs) (h6 : pt ≠ .strs) (h7 : pt ≠ .batt) (h8 : pt ≠ .pps) (h9 : pt ≠ .wms)
    (h10 : pt ≠ .mills) (h11 : pt ≠ .hampers) (h12 : pt ≠ .can) (h13 : pt ≠ .watch) (h14 : pt ≠ .alm) (h15 : pt ≠
    .fresh) (fallTime : Nat) (samples : List Sample) (c : Chip) :
    part pt (handoverTrigger fallTime samples c) = part pt c := by
  unfold handoverTrigger
  dsimp only
  repeat' split
  all_goals simp [*]

@[simp] theorem referenceLost_part (pt : Part) (h0 : pt ≠ .clock) (h1 : pt ≠ .hamlets) (h2 : pt ≠ .market) (h3 : pt ≠
    .hampers) (h4 : pt ≠ .can) (h5 : pt ≠ .tw) (h6 : pt ≠ .svc) (h7 : pt ≠ .lane) (h8 : pt ≠ .watch) (h9 : pt ≠ .alm)
    (c : Chip) :
    part pt (referenceLost c) = part pt c := by
  unfold referenceLost
  repeat' split
  all_goals first
    | (simp [*]; done)
    | (simp [*]; cases pt <;> first | rfl | contradiction)

@[simp] theorem referenceReturn_part (pt : Part) (h0 : pt ≠ .clock) (h1 : pt ≠ .hamlets) (h2 : pt ≠ .market) (h3 : pt
    ≠ .hampers) (h4 : pt ≠ .can) (h5 : pt ≠ .tw) (h6 : pt ≠ .svc) (h7 : pt ≠ .lane) (h8 : pt ≠ .watch) (h9 : pt ≠
    .alm) (c : Chip) :
    part pt (referenceReturn c) = part pt c := by
  unfold referenceReturn
  repeat' split
  all_goals first
    | (simp [*]; done)
    | (simp [*]; cases pt <;> first | rfl | contradiction)

@[simp] theorem takeSignal_part (pt : Part) (h0 : pt ≠ .chans) (h1 : pt ≠ .rms) (h2 : pt ≠ .bus) (h3 : pt ≠ .phases)
    (h4 : pt ≠ .rails) (h5 : pt ≠ .vcs) (h6 : pt ≠ .strs) (h7 : pt ≠ .pps) (h8 : pt ≠ .wms) (h9 : pt ≠ .seq) (h10 : pt
    ≠ .watch) (h11 : pt ≠ .reeve) (h : Fin 27) (g : Signal) (c : Chip) :
    part pt (takeSignal h g c) = part pt c := by
  unfold takeSignal
  repeat' split
  all_goals simp [*]

@[simp] theorem controlSignalDelivery_part (pt : Part) (h0 : pt ≠ .hamlets) (h1 : pt ≠ .green) (h2 : pt ≠ .chans) (h3
    : pt ≠ .rms) (h4 : pt ≠ .bus) (h5 : pt ≠ .phases) (h6 : pt ≠ .rails) (h7 : pt ≠ .vcs) (h8 : pt ≠ .strs) (h9 : pt ≠
    .pps) (h10 : pt ≠ .wms) (h11 : pt ≠ .seq) (h12 : pt ≠ .market) (h13 : pt ≠ .watch) (h14 : pt ≠ .reeve) (h : Fin
    27) (c : Chip) :
    part pt (controlSignalDelivery h c) = part pt c := by
  unfold controlSignalDelivery
  repeat' split
  all_goals simp [*]

@[simp] theorem wakeOnAccess_part (pt : Part) (h0 : pt ≠ .hamlets) (h1 : pt ≠ .green) (h2 : pt ≠ .market) (h : Fin 27)
    (c : Chip) :
    part pt (wakeOnAccess h c) = part pt c := by
  unfold wakeOnAccess
  repeat' split
  all_goals simp [*]

@[simp] theorem wakeTimeout_part (pt : Part) (h0 : pt ≠ .hamlets) (h1 : pt ≠ .market) (h2 : pt ≠ .can) (h3 : pt ≠ .tw)
    (h4 : pt ≠ .svc) (h5 : pt ≠ .lane) (h6 : pt ≠ .watch) (h : Fin 27) (c : Chip) :
    part pt (wakeTimeout h c) = part pt c := by
  unfold wakeTimeout
  repeat' split
  all_goals simp [*]

@[simp] theorem parkedHamletIdleStop_part (pt : Part) (h0 : pt ≠ .hamlets) (h : Fin 27) (c : Chip) :
    part pt (parkedHamletIdleStop h c) = part pt c := by
  unfold parkedHamletIdleStop
  simp [*]

@[simp] theorem reeveWatchdogExpiry_part_fuses (c : Chip) :
    part .fuses (reeveWatchdogExpiry c) = part .fuses c := by
  unfold reeveWatchdogExpiry
  repeat' split
  all_goals simp

@[simp] theorem channelFails_part (pt : Part) (h0 : pt ≠ .chans) (h1 : pt ≠ .rms) (h2 : pt ≠ .bus) (h3 : pt ≠ .phases)
    (h4 : pt ≠ .rails) (h5 : pt ≠ .vcs) (h6 : pt ≠ .pps) (h7 : pt ≠ .watch) (ch : Nat) (cause : DropCause) (c : Chip)
    :
    part pt (channelFails ch cause c) = part pt c := by
  unfold channelFails
  repeat' split
  all_goals simp [*]

@[simp] theorem pilotCheckFail_part (pt : Part) (h0 : pt ≠ .chans) (h1 : pt ≠ .rms) (h2 : pt ≠ .bus) (h3 : pt ≠
    .phases) (h4 : pt ≠ .rails) (h5 : pt ≠ .vcs) (h6 : pt ≠ .pps) (h7 : pt ≠ .watch) (ch : Fin 256) (c : Chip) :
    part pt (pilotCheckFail ch c) = part pt c := by
  unfold pilotCheckFail
  repeat' split
  all_goals simp [*]

@[simp] theorem pilotCheckPass_part (pt : Part) (h0 : pt ≠ .chans) (h1 : pt ≠ .rms) (h2 : pt ≠ .bus) (h3 : pt ≠
    .watch) (ch : Fin 256) (c : Chip) :
    part pt (pilotCheckPass ch c) = part pt c := by
  unfold pilotCheckPass
  repeat' split
  all_goals simp [*]

@[simp] theorem rangeCheckFail_part (pt : Part) (h0 : pt ≠ .chans) (h1 : pt ≠ .rms) (h2 : pt ≠ .bus) (h3 : pt ≠
    .phases) (h4 : pt ≠ .rails) (h5 : pt ≠ .vcs) (h6 : pt ≠ .pps) (h7 : pt ≠ .watch) (ch : Fin 256) (c : Chip) :
    part pt (rangeCheckFail ch c) = part pt c := by
  unfold rangeCheckFail
  repeat' split
  all_goals simp [*]

@[simp] theorem rippleCheckFail_part (pt : Part) (h0 : pt ≠ .chans) (h1 : pt ≠ .phases) (h2 : pt ≠ .rails) (h3 : pt ≠
    .vcs) (h4 : pt ≠ .watch) (ch : Fin 256) (c : Chip) :
    part pt (rippleCheckFail ch c) = part pt c := by
  unfold rippleCheckFail
  repeat' split
  all_goals simp [*]

@[simp] theorem stockUnit_part (pt : Part) (h0 : pt ≠ .mills) (h1 : pt ≠ .fresh) (code i : Nat) (law : Unit4 → Chip →
    Chip) (c : Chip) (h : ∀ u c, part pt (law u c) = part pt c) :
    part pt (stockUnit code i law c) = part pt c := by
  unfold stockUnit
  repeat' split
  all_goals simp [*]

@[simp] theorem busshareTrack_part (pt : Part) (h0 : pt ≠ .rms) (u : Unit4) (t : TrackFrame) (c : Chip) :
    part pt (busshareTrack u t c) = part pt c := by
  unfold busshareTrack
  dsimp only
  all_goals simp [*]

@[simp] theorem railloopTrack_part (pt : Part) (h0 : pt ≠ .phases) (h1 : pt ≠ .rails) (u : Unit4) (r : Fin 16) (t :
    TrackFrame) (c : Chip) :
    part pt (railloopTrack u r t c) = part pt c := by
  unfold railloopTrack
  dsimp only
  repeat' split
  all_goals simp [*]

@[simp] theorem balanceTrack_part (pt : Part) (h0 : pt ≠ .phases) (h1 : pt ≠ .rails) (u : Unit4) (r : Fin 16) (t :
    TrackFrame) (c : Chip) :
    part pt (balanceTrack u r t c) = part pt c := by
  unfold balanceTrack
  dsimp only
  all_goals simp [*]

@[simp] theorem busshareRow_part (pt : Part) (h0 : pt ≠ .chans) (h1 : pt ≠ .rms) (h2 : pt ≠ .bus) (h3 : pt ≠ .wms) (h4
    : pt ≠ .mills) (h5 : pt ≠ .watch) (h6 : pt ≠ .fresh) (samples : List Sample) (c : Chip) :
    part pt (busshareRow samples c) = part pt c := by
  unfold busshareRow
  try dsimp only
  rw [stockUnit_part _ (by assumption) (by assumption)]
  · simp [*]
  · intro u c
    repeat' split
    all_goals simp [*]

@[simp] theorem wellrateRow_part (pt : Part) (h0 : pt ≠ .chans) (h1 : pt ≠ .bus) (h2 : pt ≠ .well) (h3 : pt ≠ .wms)
    (h4 : pt ≠ .mills) (h5 : pt ≠ .watch) (h6 : pt ≠ .fresh) (samples : List Sample) (c : Chip) :
    part pt (wellrateRow samples c) = part pt c := by
  unfold wellrateRow
  simp [*]

@[simp] theorem chargeRow_part (pt : Part) (h0 : pt ≠ .chans) (h1 : pt ≠ .bus) (h2 : pt ≠ .strs) (h3 : pt ≠ .batt) (h4
    : pt ≠ .wms) (h5 : pt ≠ .mills) (h6 : pt ≠ .watch) (h7 : pt ≠ .fresh) (samples : List Sample) (c : Chip) :
    part pt (chargeRow samples c) = part pt c := by
  unfold chargeRow
  simp [*]

@[simp] theorem railloopRow_part (pt : Part) (h0 : pt ≠ .chans) (h1 : pt ≠ .bus) (h2 : pt ≠ .phases) (h3 : pt ≠
    .rails) (h4 : pt ≠ .wms) (h5 : pt ≠ .mills) (h6 : pt ≠ .watch) (h7 : pt ≠ .fresh) (r : Fin 16) (samples : List
    Sample) (c : Chip) :
    part pt (railloopRow r samples c) = part pt c := by
  unfold railloopRow
  try dsimp only
  rw [stockUnit_part _ (by assumption) (by assumption)]
  · simp [*]
  · intro u c
    repeat' split
    all_goals simp [*]

@[simp] theorem balanceRow_part (pt : Part) (h0 : pt ≠ .chans) (h1 : pt ≠ .bus) (h2 : pt ≠ .phases) (h3 : pt ≠ .rails)
    (h4 : pt ≠ .wms) (h5 : pt ≠ .mills) (h6 : pt ≠ .watch) (h7 : pt ≠ .fresh) (r : Fin 16) (samples : List Sample) (c
    : Chip) :
    part pt (balanceRow r samples c) = part pt c := by
  unfold balanceRow
  try dsimp only
  rw [stockUnit_part _ (by assumption) (by assumption)]
  · simp [*]
  · intro u c
    repeat' split
    all_goals simp [*]

@[simp] theorem readDie_part (pt : Part) (h0 : pt ≠ .chans) (h1 : pt ≠ .mills) (h2 : pt ≠ .watch) (h3 : pt ≠ .therm)
    (k : Fin 12) (r : DieReading) (c : Chip) :
    part pt (readDie k r c) = part pt c := by
  unfold readDie
  simp [*]

@[simp] theorem judgeTherm_part (pt : Part) (h0 : pt ≠ .therm) (c : Chip) :
    part pt (judgeTherm c) = part pt c := by
  unfold judgeTherm
  repeat' split
  all_goals simp [*]

@[simp] theorem dieSensorRead_part (pt : Part) (h0 : pt ≠ .chans) (h1 : pt ≠ .mills) (h2 : pt ≠ .watch) (h3 : pt ≠
    .therm) (readings : List DieReading) (c : Chip) :
    part pt (dieSensorRead readings c) = part pt c := by
  unfold dieSensorRead
  repeat' split
  all_goals simp [*]

@[simp] theorem shutdownLog_part (pt : Part) (h0 : pt ≠ .therm) (h1 : pt ≠ .alm) (c : Chip) :
    part pt (shutdownLog c) = part pt c := by
  unfold shutdownLog
  simp [*]

@[simp] theorem thermalShutdown_part_fuses (c : Chip) :
    part .fuses (thermalShutdown c) = part .fuses c := by
  unfold thermalShutdown
  dsimp only
  repeat' split
  all_goals simp

@[simp] theorem thermalRecordDone_part (pt : Part) (h0 : pt ≠ .hamlets) (h1 : pt ≠ .rms) (h2 : pt ≠ .bus) (h3 : pt ≠
    .phases) (h4 : pt ≠ .seq) (h5 : pt ≠ .mills) (h6 : pt ≠ .market) (h7 : pt ≠ .can) (h8 : pt ≠ .tw) (h9 : pt ≠ .svc)
    (h10 : pt ≠ .lane) (h11 : pt ≠ .watch) (h12 : pt ≠ .reeve) (h13 : pt ≠ .therm) (h14 : pt ≠ .alm) (h15 : pt ≠
    .twin) (c : Chip) :
    part pt (thermalRecordDone c) = part pt c := by
  unfold thermalRecordDone
  repeat' split
  all_goals simp [*]

@[simp] theorem thermalRestart_part_fuses (c : Chip) :
    part .fuses (thermalRestart c) = part .fuses c := by
  unfold thermalRestart
  repeat' split
  all_goals simp

@[simp] theorem orderlyStopStart_part (pt : Part) (h0 : pt ≠ .chans) (h1 : pt ≠ .rms) (h2 : pt ≠ .bus) (h3 : pt ≠
    .phases) (h4 : pt ≠ .rails) (h5 : pt ≠ .vcs) (h6 : pt ≠ .strs) (h7 : pt ≠ .pps) (h8 : pt ≠ .wms) (h9 : pt ≠ .seq)
    (h10 : pt ≠ .watch) (h11 : pt ≠ .therm) (c : Chip) :
    part pt (orderlyStopStart c) = part pt c := by
  unfold orderlyStopStart
  repeat' split
  all_goals simp [*]

@[simp] theorem orderlyStopSeqOff_part (pt : Part) (h0 : pt ≠ .therm) (h1 : pt ≠ .alm) (c : Chip) :
    part pt (orderlyStopSeqOff c) = part pt c := by
  unfold orderlyStopSeqOff
  repeat' split
  all_goals simp [*]

@[simp] theorem pecFails_part (pt : Part) (h0 : pt ≠ .tw) (f : TwFrame) (write : Bool) (c : Chip) :
    part pt (pecFails f write c) = part pt c := by
  unfold pecFails
  simp [*]

@[simp] theorem twWrite_part (pt : Part) (h0 : pt ≠ .hamlets) (h1 : pt ≠ .green) (h2 : pt ≠ .market) (h3 : pt ≠
    .hampers) (h4 : pt ≠ .can) (h5 : pt ≠ .tw) (h6 : pt ≠ .svc) (h7 : pt ≠ .lane) (f : TwFrame) (c : Chip) :
    part pt (twWrite f c) = part pt c := by
  unfold twWrite
  repeat' split
  all_goals simp [*]

@[simp] theorem twRead_part (pt : Part) (h0 : pt ≠ .hamlets) (h1 : pt ≠ .green) (h2 : pt ≠ .market) (h3 : pt ≠
    .hampers) (h4 : pt ≠ .can) (h5 : pt ≠ .tw) (h6 : pt ≠ .svc) (h7 : pt ≠ .lane) (f : TwFrame) (c : Chip) :
    part pt (twRead f c) = part pt c := by
  unfold twRead
  repeat' split
  all_goals simp [*]

@[simp] theorem twResult_part (pt : Part) (h0 : pt ≠ .tw) (a : BitVec 7) (seq : BitVec 8) (collected : Bool) (c :
    Chip) :
    part pt (twResult a seq collected c) = part pt c := by
  unfold twResult
  dsimp only
  repeat' split
  all_goals simp [*]

@[simp] theorem twSclTimeout_part (pt : Part) (h0 : pt ≠ .tw) (h1 : pt ≠ .watch) (c : Chip) :
    part pt (twSclTimeout c) = part pt c := by
  unfold twSclTimeout
  simp [*]

@[simp] theorem twSdaTimeout_part (pt : Part) (h0 : pt ≠ .tw) (h1 : pt ≠ .watch) (c : Chip) :
    part pt (twSdaTimeout c) = part pt c := by
  unfold twSdaTimeout
  simp [*]

@[simp] theorem twBusRecovered_part (pt : Part) (h0 : pt ≠ .tw) (c : Chip) :
    part pt (twBusRecovered c) = part pt c := by
  unfold twBusRecovered
  simp [*]

@[simp] theorem twResultDiscard_part (pt : Part) (h0 : pt ≠ .tw) (c : Chip) :
    part pt (twResultDiscard c) = part pt c := by
  unfold twResultDiscard
  simp [*]

@[simp] theorem vcAnswer_part (pt : Part) (h0 : pt ≠ .vcs) (n : Fin 4) (type : Nat) (tag : BitVec 6) (code : Nat)
    (data : Option (BitVec 16)) (c : Chip) :
    part pt (vcAnswer n type tag code data c) = part pt c := by
  unfold vcAnswer
  simp [*]

@[simp] theorem vcNack_part (pt : Part) (h0 : pt ≠ .vcs) (n : Fin 4) (tag : BitVec 6) (code : Nat) (c : Chip) :
    part pt (vcNack n tag code c) = part pt c := by
  unfold vcNack
  simp [*]

@[simp] theorem vcError_part (pt : Part) (h0 : pt ≠ .rails) (h1 : pt ≠ .watch) (n : Fin 4) (r : Fin 16) (code : Nat)
    (c : Chip) :
    part pt (vcError n r code c) = part pt c := by
  unfold vcError
  simp [*]

@[simp] theorem vcSetv_part (pt : Part) (h0 : pt ≠ .chans) (h1 : pt ≠ .rails) (h2 : pt ≠ .vcs) (n : Fin 4) (tag :
    BitVec 6) (arg : BitVec 16) (c : Chip) :
    part pt (vcSetv n tag arg c) = part pt c := by
  unfold vcSetv
  dsimp only
  repeat' split
  all_goals simp [*]

@[simp] theorem vcSlew_part (pt : Part) (h0 : pt ≠ .rails) (h1 : pt ≠ .vcs) (n : Fin 4) (tag : BitVec 6) (arg : BitVec
    16) (c : Chip) :
    part pt (vcSlew n tag arg c) = part pt c := by
  unfold vcSlew
  repeat' split
  all_goals simp [*]

@[simp] theorem vcCap_part (pt : Part) (h0 : pt ≠ .vcs) (n : Fin 4) (tag : BitVec 6) (c : Chip) :
    part pt (vcCap n tag c) = part pt c := by
  unfold vcCap
  repeat' split
  all_goals simp [*]

@[simp] theorem vcQuery_part (pt : Part) (h0 : pt ≠ .vcs) (n : Fin 4) (tag sel : BitVec 6) (c : Chip) :
    part pt (vcQuery n tag sel c) = part pt c := by
  unfold vcQuery
  repeat' split
  all_goals simp [*]

@[simp] theorem vcFrameNack_part (pt : Part) (h0 : pt ≠ .chans) (h1 : pt ≠ .rails) (h2 : pt ≠ .vcs) (h3 : pt ≠ .watch)
    (n : Fin 4) (frame : BitVec 40) (c : Chip) :
    part pt (vcFrameNack n frame c) = part pt c := by
  unfold vcFrameNack
  dsimp only
  repeat' split
  all_goals simp [*]

@[simp] theorem vcFrameGap_part (pt : Part) (h0 : pt ≠ .rails) (h1 : pt ≠ .watch) (n : Fin 4) (c : Chip) :
    part pt (vcFrameGap n c) = part pt c := by
  unfold vcFrameGap
  repeat' split
  all_goals simp [*]

@[simp] theorem vcResponseRead_part (pt : Part) (h0 : pt ≠ .vcs) (n : Fin 4) (c : Chip) :
    part pt (vcResponseRead n c) = part pt c := by
  unfold vcResponseRead
  repeat' split
  all_goals simp [*]

@[simp] theorem vcResponseTimeout_part (pt : Part) (h0 : pt ≠ .rails) (h1 : pt ≠ .vcs) (h2 : pt ≠ .watch) (n : Fin 4)
    (c : Chip) :
    part pt (vcResponseTimeout n c) = part pt c := by
  unfold vcResponseTimeout
  repeat' split
  all_goals simp [*]

@[simp] theorem vcSetvDone_part (pt : Part) (h0 : pt ≠ .vcs) (n : Fin 4) (c : Chip) :
    part pt (vcSetvDone n c) = part pt c := by
  unfold vcSetvDone
  repeat' split
  all_goals simp [*]

@[simp] theorem vcSetvTimeout_part (pt : Part) (h0 : pt ≠ .vcs) (h1 : pt ≠ .watch) (n : Fin 4) (c : Chip) :
    part pt (vcSetvTimeout n c) = part pt c := by
  unfold vcSetvTimeout
  repeat' split
  all_goals simp [*]

@[simp] theorem vcCapUncollected_part (pt : Part) (h0 : pt ≠ .watch) (n : Fin 4) (c : Chip) :
    part pt (vcCapUncollected n c) = part pt c := by
  unfold vcCapUncollected
  repeat' split
  all_goals simp [*]

end Sys2Proof.Machine
end

