-- ==== Sys2Proof/Laws/Accepted.lean ====
section
/-! SUPPORT. What each operation leaves of the accepted life-cycle transition: it stays, or a reset drops it. -/

namespace Sys2Proof.Machine

/-- The transition accepted is the one that was, or none. -/
def Kept (a : Option LifeCycle) (x : LcCommand) : Prop := x.accepted = a ∨ x.accepted = none

/-- A change made for each member of a list keeps what each change keeps. -/
theorem each_accepted (a : Option LifeCycle) {α : Type} (l : List α) (f : α → Chip → Chip) (c : Chip)
    (h : ∀ x c, Kept a (part .lc c) → Kept a (part .lc (f x c))) (kept : Kept a (part .lc c)) :
    Kept a (part .lc (each l f c)) := by
  unfold each
  induction l generalizing c with
  | nil => exact kept
  | cons x l ih => exact ih _ (h _ _ kept)

/-- A change made if a condition holds keeps what the change keeps. -/
theorem when_accepted (a : Option LifeCycle) (b : Bool) (f : Chip → Chip) (c : Chip)
    (h : ∀ c, Kept a (part .lc c) → Kept a (part .lc (f c))) (kept : Kept a (part .lc c)) :
    Kept a (part .lc (when b f c)) := by
  unfold when; split
  · exact h _ kept
  · exact kept


theorem wipe_accepted (a : Option LifeCycle) (hold : Bool) (boot : Boot) (c : Chip) : Kept a (part .lc (wipe hold boot c)) :=
  .inr rfl

theorem chipReset_accepted (a : Option LifeCycle) (cause : ResetCause) (hold : Bool) (c : Chip) (kept : Kept a (part .lc c)) :
    Kept a (part .lc (chipReset cause hold c)) := by
  unfold chipReset
  repeat' split
  all_goals simp +contextual (maxDischargeDepth := 20) [wipe_accepted, kept]

theorem powerOnReset_accepted (a : Option LifeCycle) (c : Chip) : Kept a (part .lc (powerOnReset c)) := .inr rfl

theorem serve_accepted (a : Option LifeCycle) (q : Req) (c : Chip) (kept : Kept a (part .lc c)) :
    Kept a (part .lc (serve q c)) := by
  unfold serve
  dsimp only
  repeat' split
  all_goals simp +contextual (maxDischargeDepth := 20) [when_accepted, chipReset_accepted, kept]

theorem writeBytes_accepted (a : Option LifeCycle) (o : Origin) (k : Key) (b : List Byte) (c : Chip)
    (kept : Kept a (part .lc c)) :
    Kept a (part .lc (writeBytes o k b c)) := by
  unfold writeBytes
  dsimp only
  repeat' split
  all_goals simp +contextual (maxDischargeDepth := 20) [serve_accepted, kept]

theorem writeNum_accepted (a : Option LifeCycle) (o : Origin) (k : Key) (v : Int) (c : Chip) (kept : Kept a (part .lc c)) :
    Kept a (part .lc (writeNum o k v c)) := by
  unfold writeNum
  repeat' split
  all_goals simp +contextual (maxDischargeDepth := 20) [writeBytes_accepted, kept]

theorem readNow_accepted (a : Option LifeCycle) (o : Origin) (k : Key) (c : Chip) (kept : Kept a (part .lc c)) :
    Kept a (part .lc (readNow o k c)) := by
  unfold readNow
  dsimp only
  repeat' split
  all_goals simp +contextual (maxDischargeDepth := 20) [serve_accepted, kept]

theorem objectWrite_accepted (a : Option LifeCycle) (o : Origin) (k : Key) (v : List Byte) (c : Chip)
    (kept : Kept a (part .lc c)) :
    Kept a (part .lc (objectWrite o k v c)) := by
  unfold objectWrite
  simp +contextual (maxDischargeDepth := 20) [writeBytes_accepted, kept]

theorem perhaps_accepted (a : Option LifeCycle) (q : Req) (c : Chip) (kept : Kept a (part .lc c)) :
    Kept a (part .lc (perhaps q c)) := by
  unfold perhaps
  dsimp only
  repeat' split
  all_goals simp +contextual (maxDischargeDepth := 20) [when_accepted, chipReset_accepted, kept]

theorem marketCompletion_accepted (a : Option LifeCycle) (id : Nat) (memoryError : Bool) (c : Chip) (kept : Kept a (part .lc c)) :
    Kept a (part .lc (marketCompletion id memoryError c)) := by
  unfold marketCompletion
  repeat' split
  all_goals simp +contextual (maxDischargeDepth := 20) [perhaps_accepted, serve_accepted, kept]

theorem marketTimeout_accepted (a : Option LifeCycle) (id : Nat) (c : Chip) (kept : Kept a (part .lc c)) :
    Kept a (part .lc (marketTimeout id c)) := by
  unfold marketTimeout
  repeat' split
  all_goals simp +contextual (maxDischargeDepth := 20) [perhaps_accepted, kept]

theorem railEnableWrite_accepted (a : Option LifeCycle) (o : Origin) (r : Fin 16) (v : Int) (c : Chip)
    (kept : Kept a (part .lc c)) :
    Kept a (part .lc (railEnableWrite o r v c)) := by
  unfold railEnableWrite
  simp +contextual (maxDischargeDepth := 20) [writeNum_accepted, kept]

theorem railTargetWrite_accepted (a : Option LifeCycle) (o : Origin) (r : Fin 16) (v : Int) (c : Chip)
    (kept : Kept a (part .lc c)) :
    Kept a (part .lc (railTargetWrite o r v c)) := by
  unfold railTargetWrite
  simp +contextual (maxDischargeDepth := 20) [writeNum_accepted, kept]

theorem strRequalify_accepted (a : Option LifeCycle) (o : Origin) (n : Fin 4) (v : Int) (c : Chip) (kept : Kept a (part .lc c)) :
    Kept a (part .lc (strRequalify o n v c)) := by
  unfold strRequalify
  simp +contextual (maxDischargeDepth := 20) [writeNum_accepted, kept]

theorem battHeartbeat_accepted (a : Option LifeCycle) (o : Origin) (v : Int) (c : Chip) (kept : Kept a (part .lc c)) :
    Kept a (part .lc (battHeartbeat o v c)) := by
  unfold battHeartbeat
  simp +contextual (maxDischargeDepth := 20) [writeNum_accepted, kept]

theorem fallowRequest_accepted (a : Option LifeCycle) (o : Origin) (v : Int) (c : Chip) (kept : Kept a (part .lc c)) :
    Kept a (part .lc (fallowRequest o v c)) := by
  unfold fallowRequest
  simp +contextual (maxDischargeDepth := 20) [writeNum_accepted, kept]

theorem shipModeArm_accepted (a : Option LifeCycle) (o : Origin) (v : Int) (c : Chip) (kept : Kept a (part .lc c)) :
    Kept a (part .lc (shipModeArm o v c)) := by
  unfold shipModeArm
  simp +contextual (maxDischargeDepth := 20) [writeNum_accepted, kept]

theorem shipModeConfirm_accepted (a : Option LifeCycle) (o : Origin) (v : Int) (c : Chip) (kept : Kept a (part .lc c)) :
    Kept a (part .lc (shipModeConfirm o v c)) := by
  unfold shipModeConfirm
  simp +contextual (maxDischargeDepth := 20) [writeNum_accepted, kept]

theorem ppEnableWrite_accepted (a : Option LifeCycle) (o : Origin) (n : Fin 8) (v : Int) (c : Chip) (kept : Kept a (part .lc c)) :
    Kept a (part .lc (ppEnableWrite o n v c)) := by
  unfold ppEnableWrite
  simp +contextual (maxDischargeDepth := 20) [writeNum_accepted, kept]

theorem seqCommand_accepted (a : Option LifeCycle) (o : Origin) (v : Int) (c : Chip) (kept : Kept a (part .lc c)) :
    Kept a (part .lc (seqCommand o v c)) := by
  unfold seqCommand
  simp +contextual (maxDischargeDepth := 20) [writeNum_accepted, kept]

theorem traceArm_accepted (a : Option LifeCycle) (o : Origin) (m : Fin 16) (c : Chip) (kept : Kept a (part .lc c)) :
    Kept a (part .lc (traceArm o m c)) := by
  unfold traceArm
  simp +contextual (maxDischargeDepth := 20) [writeNum_accepted, kept]

theorem traceForce_accepted (a : Option LifeCycle) (o : Origin) (m : Fin 16) (c : Chip) (kept : Kept a (part .lc c)) :
    Kept a (part .lc (traceForce o m c)) := by
  unfold traceForce
  simp +contextual (maxDischargeDepth := 20) [writeNum_accepted, kept]

theorem traceIdle_accepted (a : Option LifeCycle) (o : Origin) (m : Fin 16) (c : Chip) (kept : Kept a (part .lc c)) :
    Kept a (part .lc (traceIdle o m c)) := by
  unfold traceIdle
  simp +contextual (maxDischargeDepth := 20) [writeNum_accepted, kept]

theorem fenceClear_accepted (a : Option LifeCycle) (o : Origin) (v : Int) (c : Chip) (kept : Kept a (part .lc c)) :
    Kept a (part .lc (fenceClear o v c)) := by
  unfold fenceClear
  simp +contextual (maxDischargeDepth := 20) [writeNum_accepted, kept]

theorem fenceClearOrigin_accepted (a : Option LifeCycle) (o : Origin) (v : Int) (c : Chip) (kept : Kept a (part .lc c)) :
    Kept a (part .lc (fenceClearOrigin o v c)) := by
  unfold fenceClearOrigin
  simp +contextual (maxDischargeDepth := 20) [writeNum_accepted, kept]

theorem hamperOpen_accepted (a : Option LifeCycle) (o : Origin) (c : Chip) (kept : Kept a (part .lc c)) :
    Kept a (part .lc (hamperOpen o c)) := by
  unfold hamperOpen
  simp +contextual (maxDischargeDepth := 20) [readNow_accepted, kept]

theorem hamperStage_accepted (a : Option LifeCycle) (o : Origin) (v : Int) (c : Chip) (kept : Kept a (part .lc c)) :
    Kept a (part .lc (hamperStage o v c)) := by
  unfold hamperStage
  simp +contextual (maxDischargeDepth := 20) [writeNum_accepted, kept]

theorem hamperWrite_accepted (a : Option LifeCycle) (o : Origin) (cmd node chandle : Nat) (h : BitVec 8) (c : Chip)
    (kept : Kept a (part .lc c)) :
    Kept a (part .lc (hamperWrite o cmd node chandle h c)) := by
  unfold hamperWrite
  simp +contextual (maxDischargeDepth := 20) [writeNum_accepted, kept]

theorem hamperCommit_accepted (a : Option LifeCycle) (o : Origin) (h : BitVec 8) (c : Chip) (kept : Kept a (part .lc c)) :
    Kept a (part .lc (hamperCommit o h c)) := by
  unfold hamperCommit
  simp +contextual (maxDischargeDepth := 20) [hamperWrite_accepted, kept]

theorem hamperCommitAt_accepted (a : Option LifeCycle) (o : Origin) (h : BitVec 8) (c : Chip) (kept : Kept a (part .lc c)) :
    Kept a (part .lc (hamperCommitAt o h c)) := by
  unfold hamperCommitAt
  simp +contextual (maxDischargeDepth := 20) [hamperWrite_accepted, kept]

theorem hamperCommitDomain_accepted (a : Option LifeCycle) (o : Origin) (h : BitVec 8) (c : Chip) (kept : Kept a (part .lc c)) :
    Kept a (part .lc (hamperCommitDomain o h c)) := by
  unfold hamperCommitDomain
  simp +contextual (maxDischargeDepth := 20) [hamperWrite_accepted, kept]

theorem hamperRollback_accepted (a : Option LifeCycle) (o : Origin) (h : BitVec 8) (c : Chip) (kept : Kept a (part .lc c)) :
    Kept a (part .lc (hamperRollback o h c)) := by
  unfold hamperRollback
  simp +contextual (maxDischargeDepth := 20) [hamperWrite_accepted, kept]

theorem hamperJoin_accepted (a : Option LifeCycle) (o : Origin) (h : BitVec 8) (node : Fin 1024) (chandle : BitVec 8) (c : Chip)
    (kept : Kept a (part .lc c)) :
    Kept a (part .lc (hamperJoin o h node chandle c)) := by
  unfold hamperJoin
  simp +contextual (maxDischargeDepth := 20) [hamperWrite_accepted, kept]

theorem laneEnableWrite_accepted (a : Option LifeCycle) (o : Origin) (v : Int) (c : Chip) (kept : Kept a (part .lc c)) :
    Kept a (part .lc (laneEnableWrite o v c)) := by
  unfold laneEnableWrite
  simp +contextual (maxDischargeDepth := 20) [writeNum_accepted, kept]

theorem laneTimeSet_accepted (a : Option LifeCycle) (o : Origin) (v : List Byte) (c : Chip) (kept : Kept a (part .lc c)) :
    Kept a (part .lc (laneTimeSet o v c)) := by
  unfold laneTimeSet
  simp +contextual (maxDischargeDepth := 20) [writeBytes_accepted, kept]

theorem laneGwRequest_accepted (a : Option LifeCycle) (o : Origin) (v : List Byte) (c : Chip) (kept : Kept a (part .lc c)) :
    Kept a (part .lc (laneGwRequest o v c)) := by
  unfold laneGwRequest
  simp +contextual (maxDischargeDepth := 20) [writeBytes_accepted, kept]

theorem laneGwResult_accepted (a : Option LifeCycle) (o : Origin) (c : Chip) (kept : Kept a (part .lc c)) :
    Kept a (part .lc (laneGwResult o c)) := by
  unfold laneGwResult
  simp +contextual (maxDischargeDepth := 20) [readNow_accepted, kept]

theorem srcEnableWrite_accepted (a : Option LifeCycle) (o : Origin) (i : Fin 256) (v : Int) (c : Chip)
    (kept : Kept a (part .lc c)) :
    Kept a (part .lc (srcEnableWrite o i v c)) := by
  unfold srcEnableWrite
  simp +contextual (maxDischargeDepth := 20) [writeNum_accepted, kept]

theorem srcForce_accepted (a : Option LifeCycle) (o : Origin) (i : Fin 256) (v : Int) (c : Chip) (kept : Kept a (part .lc c)) :
    Kept a (part .lc (srcForce o i v c)) := by
  unfold srcForce
  simp +contextual (maxDischargeDepth := 20) [writeNum_accepted, kept]

theorem exportStart_accepted (a : Option LifeCycle) (o : Origin) (v : Int) (c : Chip) (kept : Kept a (part .lc c)) :
    Kept a (part .lc (exportStart o v c)) := by
  unfold exportStart
  simp +contextual (maxDischargeDepth := 20) [writeNum_accepted, kept]

theorem exportAbandon_accepted (a : Option LifeCycle) (o : Origin) (v : Int) (c : Chip) (kept : Kept a (part .lc c)) :
    Kept a (part .lc (exportAbandon o v c)) := by
  unfold exportAbandon
  simp +contextual (maxDischargeDepth := 20) [writeNum_accepted, kept]

theorem exportReceipt_accepted (a : Option LifeCycle) (o : Origin) (digest : List Byte) (c : Chip) (kept : Kept a (part .lc c)) :
    Kept a (part .lc (exportReceipt o digest c)) := by
  unfold exportReceipt
  simp +contextual (maxDischargeDepth := 20) [writeBytes_accepted, kept]

theorem twinExercise_accepted (a : Option LifeCycle) (o : Origin) (v : Int) (c : Chip) (kept : Kept a (part .lc c)) :
    Kept a (part .lc (twinExercise o v c)) := by
  unfold twinExercise
  simp +contextual (maxDischargeDepth := 20) [writeNum_accepted, kept]

theorem chipResetCmd_accepted (a : Option LifeCycle) (o : Origin) (v : Int) (c : Chip) (kept : Kept a (part .lc c)) :
    Kept a (part .lc (chipResetCmd o v c)) := by
  unfold chipResetCmd
  simp +contextual (maxDischargeDepth := 20) [writeNum_accepted, kept]

theorem paramStoreCmd_accepted (a : Option LifeCycle) (o : Origin) (v : Int) (c : Chip) (kept : Kept a (part .lc c)) :
    Kept a (part .lc (paramStoreCmd o v c)) := by
  unfold paramStoreCmd
  simp +contextual (maxDischargeDepth := 20) [writeNum_accepted, kept]

theorem watchEvaluation_accepted (a : Option LifeCycle) (c : Chip) (kept : Kept a (part .lc c)) :
    Kept a (part .lc (watchEvaluation c)) := by
  unfold watchEvaluation
  dsimp only
  repeat' split
  all_goals simp +contextual (maxDischargeDepth := 20) [when_accepted, chipReset_accepted, kept]

theorem thermalShutdown_accepted (a : Option LifeCycle) (c : Chip) (kept : Kept a (part .lc c)) :
    Kept a (part .lc (thermalShutdown c)) := by
  unfold thermalShutdown
  dsimp only
  repeat' split
  all_goals simp +contextual (maxDischargeDepth := 20) [watchEvaluation_accepted, kept]

theorem thermalRestart_accepted (a : Option LifeCycle) (c : Chip) (kept : Kept a (part .lc c)) :
    Kept a (part .lc (thermalRestart c)) := by
  unfold thermalRestart
  repeat' split
  all_goals simp +contextual (maxDischargeDepth := 20) [chipReset_accepted, kept]

theorem reeveWatchdogExpiry_accepted (a : Option LifeCycle) (c : Chip) (kept : Kept a (part .lc c)) :
    Kept a (part .lc (reeveWatchdogExpiry c)) := by
  unfold reeveWatchdogExpiry
  repeat' split
  all_goals simp +contextual (maxDischargeDepth := 20) [chipReset_accepted, kept]

theorem updateRestartReset_accepted (a : Option LifeCycle) (c : Chip) (kept : Kept a (part .lc c)) :
    Kept a (part .lc (updateRestartReset c)) := by
  unfold updateRestartReset
  repeat' split
  all_goals simp +contextual (maxDischargeDepth := 20) [chipReset_accepted, kept]

theorem lifecycleNonce_accepted (a : Option LifeCycle) (tag : BitVec 16) (c : Chip) (kept : Kept a (part .lc c)) :
    Kept a (part .lc (lifecycleNonce tag c)) := by
  unfold lifecycleNonce svcNormal svcAlways
  dsimp only
  repeat' split
  all_goals exact kept

theorem rstAssert_accepted (a : Option LifeCycle) (c : Chip) (kept : Kept a (part .lc c)) :
    Kept a (part .lc (rstAssert c)) := by
  unfold rstAssert
  simp +contextual (maxDischargeDepth := 20) [chipReset_accepted, kept]

end Sys2Proof.Machine
end

