-- ==== Sys2Proof/Laws/State.lean ====
section
/-! SUPPORT. The parts of the chip after each update: the part that is set, and every other part as it was. -/

namespace Sys2Proof.Machine

variable (c : Chip)

/-! ### setChan -/

section
variable (i j : Fin 256) (f : Chan → Chan)
@[simp] theorem setChan_self : (setChan i f c).chans[i] = f c.chans[i] := by simp [setChan]
@[simp] theorem setChan_self_val : (setChan i f c).chans[i.val] = f c.chans[i.val] := by simp [setChan]
theorem setChan_chans : (setChan i f c).chans[j] = if i = j then f c.chans[i] else c.chans[j] := by
  by_cases h : i = j
  · subst h; simp [setChan]
  · have h' : i.val ≠ j.val := fun e => h (Fin.ext e)
    simp [setChan, Vector.getElem_set_ne, h, h']
@[simp] theorem setChan_clock : (setChan i f c).clock = c.clock := rfl
@[simp] theorem setChan_hamlets : (setChan i f c).hamlets = c.hamlets := rfl
@[simp] theorem setChan_green : (setChan i f c).green = c.green := rfl
@[simp] theorem setChan_rms : (setChan i f c).rms = c.rms := rfl
@[simp] theorem setChan_bus : (setChan i f c).bus = c.bus := rfl
@[simp] theorem setChan_well : (setChan i f c).well = c.well := rfl
@[simp] theorem setChan_cap : (setChan i f c).cap = c.cap := rfl
@[simp] theorem setChan_phases : (setChan i f c).phases = c.phases := rfl
@[simp] theorem setChan_rails : (setChan i f c).rails = c.rails := rfl
@[simp] theorem setChan_vcs : (setChan i f c).vcs = c.vcs := rfl
@[simp] theorem setChan_strs : (setChan i f c).strs = c.strs := rfl
@[simp] theorem setChan_ests : (setChan i f c).ests = c.ests := rfl
@[simp] theorem setChan_batt : (setChan i f c).batt = c.batt := rfl
@[simp] theorem setChan_pps : (setChan i f c).pps = c.pps := rfl
@[simp] theorem setChan_wms : (setChan i f c).wms = c.wms := rfl
@[simp] theorem setChan_seq : (setChan i f c).seq = c.seq := rfl
@[simp] theorem setChan_mills : (setChan i f c).mills = c.mills := rfl
@[simp] theorem setChan_market : (setChan i f c).market = c.market := rfl
@[simp] theorem setChan_hampers : (setChan i f c).hampers = c.hampers := rfl
@[simp] theorem setChan_can : (setChan i f c).can = c.can := rfl
@[simp] theorem setChan_tw : (setChan i f c).tw = c.tw := rfl
@[simp] theorem setChan_svc : (setChan i f c).svc = c.svc := rfl
@[simp] theorem setChan_update : (setChan i f c).update = c.update := rfl
@[simp] theorem setChan_lc : (setChan i f c).lc = c.lc := rfl
@[simp] theorem setChan_lane : (setChan i f c).lane = c.lane := rfl
@[simp] theorem setChan_gw : (setChan i f c).gw = c.gw := rfl
@[simp] theorem setChan_watch : (setChan i f c).watch = c.watch := rfl
@[simp] theorem setChan_reeve : (setChan i f c).reeve = c.reeve := rfl
@[simp] theorem setChan_therm : (setChan i f c).therm = c.therm := rfl
@[simp] theorem setChan_alm : (setChan i f c).alm = c.alm := rfl
@[simp] theorem setChan_twin : (setChan i f c).twin = c.twin := rfl
@[simp] theorem setChan_boot : (setChan i f c).boot = c.boot := rfl
@[simp] theorem setChan_fuses : (setChan i f c).fuses = c.fuses := rfl
@[simp] theorem setChan_nor : (setChan i f c).nor = c.nor := rfl
@[simp] theorem setChan_test : (setChan i f c).test = c.test := rfl
@[simp] theorem setChan_od : (setChan i f c).od = c.od := rfl
@[simp] theorem setChan_fresh : (setChan i f c).fresh = c.fresh := rfl
end

/-! ### setHamlet -/

section
variable (i j : Fin 27) (f : Hamlet → Hamlet)
@[simp] theorem setHamlet_self : (setHamlet i f c).hamlets[i] = f c.hamlets[i] := by simp [setHamlet]
@[simp] theorem setHamlet_self_val : (setHamlet i f c).hamlets[i.val] = f c.hamlets[i.val] := by simp [setHamlet]
theorem setHamlet_hamlets : (setHamlet i f c).hamlets[j] = if i = j then f c.hamlets[i] else c.hamlets[j] := by
  by_cases h : i = j
  · subst h; simp [setHamlet]
  · have h' : i.val ≠ j.val := fun e => h (Fin.ext e)
    simp [setHamlet, Vector.getElem_set_ne, h, h']
@[simp] theorem setHamlet_clock : (setHamlet i f c).clock = c.clock := rfl
@[simp] theorem setHamlet_green : (setHamlet i f c).green = c.green := rfl
@[simp] theorem setHamlet_chans : (setHamlet i f c).chans = c.chans := rfl
@[simp] theorem setHamlet_rms : (setHamlet i f c).rms = c.rms := rfl
@[simp] theorem setHamlet_bus : (setHamlet i f c).bus = c.bus := rfl
@[simp] theorem setHamlet_well : (setHamlet i f c).well = c.well := rfl
@[simp] theorem setHamlet_cap : (setHamlet i f c).cap = c.cap := rfl
@[simp] theorem setHamlet_phases : (setHamlet i f c).phases = c.phases := rfl
@[simp] theorem setHamlet_rails : (setHamlet i f c).rails = c.rails := rfl
@[simp] theorem setHamlet_vcs : (setHamlet i f c).vcs = c.vcs := rfl
@[simp] theorem setHamlet_strs : (setHamlet i f c).strs = c.strs := rfl
@[simp] theorem setHamlet_ests : (setHamlet i f c).ests = c.ests := rfl
@[simp] theorem setHamlet_batt : (setHamlet i f c).batt = c.batt := rfl
@[simp] theorem setHamlet_pps : (setHamlet i f c).pps = c.pps := rfl
@[simp] theorem setHamlet_wms : (setHamlet i f c).wms = c.wms := rfl
@[simp] theorem setHamlet_seq : (setHamlet i f c).seq = c.seq := rfl
@[simp] theorem setHamlet_mills : (setHamlet i f c).mills = c.mills := rfl
@[simp] theorem setHamlet_market : (setHamlet i f c).market = c.market := rfl
@[simp] theorem setHamlet_hampers : (setHamlet i f c).hampers = c.hampers := rfl
@[simp] theorem setHamlet_can : (setHamlet i f c).can = c.can := rfl
@[simp] theorem setHamlet_tw : (setHamlet i f c).tw = c.tw := rfl
@[simp] theorem setHamlet_svc : (setHamlet i f c).svc = c.svc := rfl
@[simp] theorem setHamlet_update : (setHamlet i f c).update = c.update := rfl
@[simp] theorem setHamlet_lc : (setHamlet i f c).lc = c.lc := rfl
@[simp] theorem setHamlet_lane : (setHamlet i f c).lane = c.lane := rfl
@[simp] theorem setHamlet_gw : (setHamlet i f c).gw = c.gw := rfl
@[simp] theorem setHamlet_watch : (setHamlet i f c).watch = c.watch := rfl
@[simp] theorem setHamlet_reeve : (setHamlet i f c).reeve = c.reeve := rfl
@[simp] theorem setHamlet_therm : (setHamlet i f c).therm = c.therm := rfl
@[simp] theorem setHamlet_alm : (setHamlet i f c).alm = c.alm := rfl
@[simp] theorem setHamlet_twin : (setHamlet i f c).twin = c.twin := rfl
@[simp] theorem setHamlet_boot : (setHamlet i f c).boot = c.boot := rfl
@[simp] theorem setHamlet_fuses : (setHamlet i f c).fuses = c.fuses := rfl
@[simp] theorem setHamlet_nor : (setHamlet i f c).nor = c.nor := rfl
@[simp] theorem setHamlet_test : (setHamlet i f c).test = c.test := rfl
@[simp] theorem setHamlet_od : (setHamlet i f c).od = c.od := rfl
@[simp] theorem setHamlet_fresh : (setHamlet i f c).fresh = c.fresh := rfl
end

/-! ### setRm -/

section
variable (i j : Fin 8) (f : Rm → Rm)
@[simp] theorem setRm_self : (setRm i f c).rms[i] = f c.rms[i] := by simp [setRm]
@[simp] theorem setRm_self_val : (setRm i f c).rms[i.val] = f c.rms[i.val] := by simp [setRm]
theorem setRm_rms : (setRm i f c).rms[j] = if i = j then f c.rms[i] else c.rms[j] := by
  by_cases h : i = j
  · subst h; simp [setRm]
  · have h' : i.val ≠ j.val := fun e => h (Fin.ext e)
    simp [setRm, Vector.getElem_set_ne, h, h']
@[simp] theorem setRm_clock : (setRm i f c).clock = c.clock := rfl
@[simp] theorem setRm_hamlets : (setRm i f c).hamlets = c.hamlets := rfl
@[simp] theorem setRm_green : (setRm i f c).green = c.green := rfl
@[simp] theorem setRm_chans : (setRm i f c).chans = c.chans := rfl
@[simp] theorem setRm_bus : (setRm i f c).bus = c.bus := rfl
@[simp] theorem setRm_well : (setRm i f c).well = c.well := rfl
@[simp] theorem setRm_cap : (setRm i f c).cap = c.cap := rfl
@[simp] theorem setRm_phases : (setRm i f c).phases = c.phases := rfl
@[simp] theorem setRm_rails : (setRm i f c).rails = c.rails := rfl
@[simp] theorem setRm_vcs : (setRm i f c).vcs = c.vcs := rfl
@[simp] theorem setRm_strs : (setRm i f c).strs = c.strs := rfl
@[simp] theorem setRm_ests : (setRm i f c).ests = c.ests := rfl
@[simp] theorem setRm_batt : (setRm i f c).batt = c.batt := rfl
@[simp] theorem setRm_pps : (setRm i f c).pps = c.pps := rfl
@[simp] theorem setRm_wms : (setRm i f c).wms = c.wms := rfl
@[simp] theorem setRm_seq : (setRm i f c).seq = c.seq := rfl
@[simp] theorem setRm_mills : (setRm i f c).mills = c.mills := rfl
@[simp] theorem setRm_market : (setRm i f c).market = c.market := rfl
@[simp] theorem setRm_hampers : (setRm i f c).hampers = c.hampers := rfl
@[simp] theorem setRm_can : (setRm i f c).can = c.can := rfl
@[simp] theorem setRm_tw : (setRm i f c).tw = c.tw := rfl
@[simp] theorem setRm_svc : (setRm i f c).svc = c.svc := rfl
@[simp] theorem setRm_update : (setRm i f c).update = c.update := rfl
@[simp] theorem setRm_lc : (setRm i f c).lc = c.lc := rfl
@[simp] theorem setRm_lane : (setRm i f c).lane = c.lane := rfl
@[simp] theorem setRm_gw : (setRm i f c).gw = c.gw := rfl
@[simp] theorem setRm_watch : (setRm i f c).watch = c.watch := rfl
@[simp] theorem setRm_reeve : (setRm i f c).reeve = c.reeve := rfl
@[simp] theorem setRm_therm : (setRm i f c).therm = c.therm := rfl
@[simp] theorem setRm_alm : (setRm i f c).alm = c.alm := rfl
@[simp] theorem setRm_twin : (setRm i f c).twin = c.twin := rfl
@[simp] theorem setRm_boot : (setRm i f c).boot = c.boot := rfl
@[simp] theorem setRm_fuses : (setRm i f c).fuses = c.fuses := rfl
@[simp] theorem setRm_nor : (setRm i f c).nor = c.nor := rfl
@[simp] theorem setRm_test : (setRm i f c).test = c.test := rfl
@[simp] theorem setRm_od : (setRm i f c).od = c.od := rfl
@[simp] theorem setRm_fresh : (setRm i f c).fresh = c.fresh := rfl
end

/-! ### setPhase -/

section
variable (i j : Fin 32) (f : Phase → Phase)
@[simp] theorem setPhase_self : (setPhase i f c).phases[i] = f c.phases[i] := by simp [setPhase]
@[simp] theorem setPhase_self_val : (setPhase i f c).phases[i.val] = f c.phases[i.val] := by simp [setPhase]
theorem setPhase_phases : (setPhase i f c).phases[j] = if i = j then f c.phases[i] else c.phases[j] := by
  by_cases h : i = j
  · subst h; simp [setPhase]
  · have h' : i.val ≠ j.val := fun e => h (Fin.ext e)
    simp [setPhase, Vector.getElem_set_ne, h, h']
@[simp] theorem setPhase_clock : (setPhase i f c).clock = c.clock := rfl
@[simp] theorem setPhase_hamlets : (setPhase i f c).hamlets = c.hamlets := rfl
@[simp] theorem setPhase_green : (setPhase i f c).green = c.green := rfl
@[simp] theorem setPhase_chans : (setPhase i f c).chans = c.chans := rfl
@[simp] theorem setPhase_rms : (setPhase i f c).rms = c.rms := rfl
@[simp] theorem setPhase_bus : (setPhase i f c).bus = c.bus := rfl
@[simp] theorem setPhase_well : (setPhase i f c).well = c.well := rfl
@[simp] theorem setPhase_cap : (setPhase i f c).cap = c.cap := rfl
@[simp] theorem setPhase_rails : (setPhase i f c).rails = c.rails := rfl
@[simp] theorem setPhase_vcs : (setPhase i f c).vcs = c.vcs := rfl
@[simp] theorem setPhase_strs : (setPhase i f c).strs = c.strs := rfl
@[simp] theorem setPhase_ests : (setPhase i f c).ests = c.ests := rfl
@[simp] theorem setPhase_batt : (setPhase i f c).batt = c.batt := rfl
@[simp] theorem setPhase_pps : (setPhase i f c).pps = c.pps := rfl
@[simp] theorem setPhase_wms : (setPhase i f c).wms = c.wms := rfl
@[simp] theorem setPhase_seq : (setPhase i f c).seq = c.seq := rfl
@[simp] theorem setPhase_mills : (setPhase i f c).mills = c.mills := rfl
@[simp] theorem setPhase_market : (setPhase i f c).market = c.market := rfl
@[simp] theorem setPhase_hampers : (setPhase i f c).hampers = c.hampers := rfl
@[simp] theorem setPhase_can : (setPhase i f c).can = c.can := rfl
@[simp] theorem setPhase_tw : (setPhase i f c).tw = c.tw := rfl
@[simp] theorem setPhase_svc : (setPhase i f c).svc = c.svc := rfl
@[simp] theorem setPhase_update : (setPhase i f c).update = c.update := rfl
@[simp] theorem setPhase_lc : (setPhase i f c).lc = c.lc := rfl
@[simp] theorem setPhase_lane : (setPhase i f c).lane = c.lane := rfl
@[simp] theorem setPhase_gw : (setPhase i f c).gw = c.gw := rfl
@[simp] theorem setPhase_watch : (setPhase i f c).watch = c.watch := rfl
@[simp] theorem setPhase_reeve : (setPhase i f c).reeve = c.reeve := rfl
@[simp] theorem setPhase_therm : (setPhase i f c).therm = c.therm := rfl
@[simp] theorem setPhase_alm : (setPhase i f c).alm = c.alm := rfl
@[simp] theorem setPhase_twin : (setPhase i f c).twin = c.twin := rfl
@[simp] theorem setPhase_boot : (setPhase i f c).boot = c.boot := rfl
@[simp] theorem setPhase_fuses : (setPhase i f c).fuses = c.fuses := rfl
@[simp] theorem setPhase_nor : (setPhase i f c).nor = c.nor := rfl
@[simp] theorem setPhase_test : (setPhase i f c).test = c.test := rfl
@[simp] theorem setPhase_od : (setPhase i f c).od = c.od := rfl
@[simp] theorem setPhase_fresh : (setPhase i f c).fresh = c.fresh := rfl
end

/-! ### setRail -/

section
variable (i j : Fin 16) (f : Rail → Rail)
@[simp] theorem setRail_self : (setRail i f c).rails[i] = f c.rails[i] := by simp [setRail]
@[simp] theorem setRail_self_val : (setRail i f c).rails[i.val] = f c.rails[i.val] := by simp [setRail]
theorem setRail_rails : (setRail i f c).rails[j] = if i = j then f c.rails[i] else c.rails[j] := by
  by_cases h : i = j
  · subst h; simp [setRail]
  · have h' : i.val ≠ j.val := fun e => h (Fin.ext e)
    simp [setRail, Vector.getElem_set_ne, h, h']
@[simp] theorem setRail_clock : (setRail i f c).clock = c.clock := rfl
@[simp] theorem setRail_hamlets : (setRail i f c).hamlets = c.hamlets := rfl
@[simp] theorem setRail_green : (setRail i f c).green = c.green := rfl
@[simp] theorem setRail_chans : (setRail i f c).chans = c.chans := rfl
@[simp] theorem setRail_rms : (setRail i f c).rms = c.rms := rfl
@[simp] theorem setRail_bus : (setRail i f c).bus = c.bus := rfl
@[simp] theorem setRail_well : (setRail i f c).well = c.well := rfl
@[simp] theorem setRail_cap : (setRail i f c).cap = c.cap := rfl
@[simp] theorem setRail_phases : (setRail i f c).phases = c.phases := rfl
@[simp] theorem setRail_vcs : (setRail i f c).vcs = c.vcs := rfl
@[simp] theorem setRail_strs : (setRail i f c).strs = c.strs := rfl
@[simp] theorem setRail_ests : (setRail i f c).ests = c.ests := rfl
@[simp] theorem setRail_batt : (setRail i f c).batt = c.batt := rfl
@[simp] theorem setRail_pps : (setRail i f c).pps = c.pps := rfl
@[simp] theorem setRail_wms : (setRail i f c).wms = c.wms := rfl
@[simp] theorem setRail_seq : (setRail i f c).seq = c.seq := rfl
@[simp] theorem setRail_mills : (setRail i f c).mills = c.mills := rfl
@[simp] theorem setRail_market : (setRail i f c).market = c.market := rfl
@[simp] theorem setRail_hampers : (setRail i f c).hampers = c.hampers := rfl
@[simp] theorem setRail_can : (setRail i f c).can = c.can := rfl
@[simp] theorem setRail_tw : (setRail i f c).tw = c.tw := rfl
@[simp] theorem setRail_svc : (setRail i f c).svc = c.svc := rfl
@[simp] theorem setRail_update : (setRail i f c).update = c.update := rfl
@[simp] theorem setRail_lc : (setRail i f c).lc = c.lc := rfl
@[simp] theorem setRail_lane : (setRail i f c).lane = c.lane := rfl
@[simp] theorem setRail_gw : (setRail i f c).gw = c.gw := rfl
@[simp] theorem setRail_watch : (setRail i f c).watch = c.watch := rfl
@[simp] theorem setRail_reeve : (setRail i f c).reeve = c.reeve := rfl
@[simp] theorem setRail_therm : (setRail i f c).therm = c.therm := rfl
@[simp] theorem setRail_alm : (setRail i f c).alm = c.alm := rfl
@[simp] theorem setRail_twin : (setRail i f c).twin = c.twin := rfl
@[simp] theorem setRail_boot : (setRail i f c).boot = c.boot := rfl
@[simp] theorem setRail_fuses : (setRail i f c).fuses = c.fuses := rfl
@[simp] theorem setRail_nor : (setRail i f c).nor = c.nor := rfl
@[simp] theorem setRail_test : (setRail i f c).test = c.test := rfl
@[simp] theorem setRail_od : (setRail i f c).od = c.od := rfl
@[simp] theorem setRail_fresh : (setRail i f c).fresh = c.fresh := rfl
end

/-! ### setVc -/

section
variable (i j : Fin 4) (f : Vc → Vc)
@[simp] theorem setVc_self : (setVc i f c).vcs[i] = f c.vcs[i] := by simp [setVc]
@[simp] theorem setVc_self_val : (setVc i f c).vcs[i.val] = f c.vcs[i.val] := by simp [setVc]
theorem setVc_vcs : (setVc i f c).vcs[j] = if i = j then f c.vcs[i] else c.vcs[j] := by
  by_cases h : i = j
  · subst h; simp [setVc]
  · have h' : i.val ≠ j.val := fun e => h (Fin.ext e)
    simp [setVc, Vector.getElem_set_ne, h, h']
@[simp] theorem setVc_clock : (setVc i f c).clock = c.clock := rfl
@[simp] theorem setVc_hamlets : (setVc i f c).hamlets = c.hamlets := rfl
@[simp] theorem setVc_green : (setVc i f c).green = c.green := rfl
@[simp] theorem setVc_chans : (setVc i f c).chans = c.chans := rfl
@[simp] theorem setVc_rms : (setVc i f c).rms = c.rms := rfl
@[simp] theorem setVc_bus : (setVc i f c).bus = c.bus := rfl
@[simp] theorem setVc_well : (setVc i f c).well = c.well := rfl
@[simp] theorem setVc_cap : (setVc i f c).cap = c.cap := rfl
@[simp] theorem setVc_phases : (setVc i f c).phases = c.phases := rfl
@[simp] theorem setVc_rails : (setVc i f c).rails = c.rails := rfl
@[simp] theorem setVc_strs : (setVc i f c).strs = c.strs := rfl
@[simp] theorem setVc_ests : (setVc i f c).ests = c.ests := rfl
@[simp] theorem setVc_batt : (setVc i f c).batt = c.batt := rfl
@[simp] theorem setVc_pps : (setVc i f c).pps = c.pps := rfl
@[simp] theorem setVc_wms : (setVc i f c).wms = c.wms := rfl
@[simp] theorem setVc_seq : (setVc i f c).seq = c.seq := rfl
@[simp] theorem setVc_mills : (setVc i f c).mills = c.mills := rfl
@[simp] theorem setVc_market : (setVc i f c).market = c.market := rfl
@[simp] theorem setVc_hampers : (setVc i f c).hampers = c.hampers := rfl
@[simp] theorem setVc_can : (setVc i f c).can = c.can := rfl
@[simp] theorem setVc_tw : (setVc i f c).tw = c.tw := rfl
@[simp] theorem setVc_svc : (setVc i f c).svc = c.svc := rfl
@[simp] theorem setVc_update : (setVc i f c).update = c.update := rfl
@[simp] theorem setVc_lc : (setVc i f c).lc = c.lc := rfl
@[simp] theorem setVc_lane : (setVc i f c).lane = c.lane := rfl
@[simp] theorem setVc_gw : (setVc i f c).gw = c.gw := rfl
@[simp] theorem setVc_watch : (setVc i f c).watch = c.watch := rfl
@[simp] theorem setVc_reeve : (setVc i f c).reeve = c.reeve := rfl
@[simp] theorem setVc_therm : (setVc i f c).therm = c.therm := rfl
@[simp] theorem setVc_alm : (setVc i f c).alm = c.alm := rfl
@[simp] theorem setVc_twin : (setVc i f c).twin = c.twin := rfl
@[simp] theorem setVc_boot : (setVc i f c).boot = c.boot := rfl
@[simp] theorem setVc_fuses : (setVc i f c).fuses = c.fuses := rfl
@[simp] theorem setVc_nor : (setVc i f c).nor = c.nor := rfl
@[simp] theorem setVc_test : (setVc i f c).test = c.test := rfl
@[simp] theorem setVc_od : (setVc i f c).od = c.od := rfl
@[simp] theorem setVc_fresh : (setVc i f c).fresh = c.fresh := rfl
end

/-! ### setStr -/

section
variable (i j : Fin 4) (f : Str → Str)
@[simp] theorem setStr_self : (setStr i f c).strs[i] = f c.strs[i] := by simp [setStr]
@[simp] theorem setStr_self_val : (setStr i f c).strs[i.val] = f c.strs[i.val] := by simp [setStr]
theorem setStr_strs : (setStr i f c).strs[j] = if i = j then f c.strs[i] else c.strs[j] := by
  by_cases h : i = j
  · subst h; simp [setStr]
  · have h' : i.val ≠ j.val := fun e => h (Fin.ext e)
    simp [setStr, Vector.getElem_set_ne, h, h']
@[simp] theorem setStr_clock : (setStr i f c).clock = c.clock := rfl
@[simp] theorem setStr_hamlets : (setStr i f c).hamlets = c.hamlets := rfl
@[simp] theorem setStr_green : (setStr i f c).green = c.green := rfl
@[simp] theorem setStr_chans : (setStr i f c).chans = c.chans := rfl
@[simp] theorem setStr_rms : (setStr i f c).rms = c.rms := rfl
@[simp] theorem setStr_bus : (setStr i f c).bus = c.bus := rfl
@[simp] theorem setStr_well : (setStr i f c).well = c.well := rfl
@[simp] theorem setStr_cap : (setStr i f c).cap = c.cap := rfl
@[simp] theorem setStr_phases : (setStr i f c).phases = c.phases := rfl
@[simp] theorem setStr_rails : (setStr i f c).rails = c.rails := rfl
@[simp] theorem setStr_vcs : (setStr i f c).vcs = c.vcs := rfl
@[simp] theorem setStr_ests : (setStr i f c).ests = c.ests := rfl
@[simp] theorem setStr_batt : (setStr i f c).batt = c.batt := rfl
@[simp] theorem setStr_pps : (setStr i f c).pps = c.pps := rfl
@[simp] theorem setStr_wms : (setStr i f c).wms = c.wms := rfl
@[simp] theorem setStr_seq : (setStr i f c).seq = c.seq := rfl
@[simp] theorem setStr_mills : (setStr i f c).mills = c.mills := rfl
@[simp] theorem setStr_market : (setStr i f c).market = c.market := rfl
@[simp] theorem setStr_hampers : (setStr i f c).hampers = c.hampers := rfl
@[simp] theorem setStr_can : (setStr i f c).can = c.can := rfl
@[simp] theorem setStr_tw : (setStr i f c).tw = c.tw := rfl
@[simp] theorem setStr_svc : (setStr i f c).svc = c.svc := rfl
@[simp] theorem setStr_update : (setStr i f c).update = c.update := rfl
@[simp] theorem setStr_lc : (setStr i f c).lc = c.lc := rfl
@[simp] theorem setStr_lane : (setStr i f c).lane = c.lane := rfl
@[simp] theorem setStr_gw : (setStr i f c).gw = c.gw := rfl
@[simp] theorem setStr_watch : (setStr i f c).watch = c.watch := rfl
@[simp] theorem setStr_reeve : (setStr i f c).reeve = c.reeve := rfl
@[simp] theorem setStr_therm : (setStr i f c).therm = c.therm := rfl
@[simp] theorem setStr_alm : (setStr i f c).alm = c.alm := rfl
@[simp] theorem setStr_twin : (setStr i f c).twin = c.twin := rfl
@[simp] theorem setStr_boot : (setStr i f c).boot = c.boot := rfl
@[simp] theorem setStr_fuses : (setStr i f c).fuses = c.fuses := rfl
@[simp] theorem setStr_nor : (setStr i f c).nor = c.nor := rfl
@[simp] theorem setStr_test : (setStr i f c).test = c.test := rfl
@[simp] theorem setStr_od : (setStr i f c).od = c.od := rfl
@[simp] theorem setStr_fresh : (setStr i f c).fresh = c.fresh := rfl
end

/-! ### setEst -/

section
variable (i j : Fin 4) (f : Est → Est)
@[simp] theorem setEst_self : (setEst i f c).ests[i] = f c.ests[i] := by simp [setEst]
@[simp] theorem setEst_self_val : (setEst i f c).ests[i.val] = f c.ests[i.val] := by simp [setEst]
theorem setEst_ests : (setEst i f c).ests[j] = if i = j then f c.ests[i] else c.ests[j] := by
  by_cases h : i = j
  · subst h; simp [setEst]
  · have h' : i.val ≠ j.val := fun e => h (Fin.ext e)
    simp [setEst, Vector.getElem_set_ne, h, h']
@[simp] theorem setEst_clock : (setEst i f c).clock = c.clock := rfl
@[simp] theorem setEst_hamlets : (setEst i f c).hamlets = c.hamlets := rfl
@[simp] theorem setEst_green : (setEst i f c).green = c.green := rfl
@[simp] theorem setEst_chans : (setEst i f c).chans = c.chans := rfl
@[simp] theorem setEst_rms : (setEst i f c).rms = c.rms := rfl
@[simp] theorem setEst_bus : (setEst i f c).bus = c.bus := rfl
@[simp] theorem setEst_well : (setEst i f c).well = c.well := rfl
@[simp] theorem setEst_cap : (setEst i f c).cap = c.cap := rfl
@[simp] theorem setEst_phases : (setEst i f c).phases = c.phases := rfl
@[simp] theorem setEst_rails : (setEst i f c).rails = c.rails := rfl
@[simp] theorem setEst_vcs : (setEst i f c).vcs = c.vcs := rfl
@[simp] theorem setEst_strs : (setEst i f c).strs = c.strs := rfl
@[simp] theorem setEst_batt : (setEst i f c).batt = c.batt := rfl
@[simp] theorem setEst_pps : (setEst i f c).pps = c.pps := rfl
@[simp] theorem setEst_wms : (setEst i f c).wms = c.wms := rfl
@[simp] theorem setEst_seq : (setEst i f c).seq = c.seq := rfl
@[simp] theorem setEst_mills : (setEst i f c).mills = c.mills := rfl
@[simp] theorem setEst_market : (setEst i f c).market = c.market := rfl
@[simp] theorem setEst_hampers : (setEst i f c).hampers = c.hampers := rfl
@[simp] theorem setEst_can : (setEst i f c).can = c.can := rfl
@[simp] theorem setEst_tw : (setEst i f c).tw = c.tw := rfl
@[simp] theorem setEst_svc : (setEst i f c).svc = c.svc := rfl
@[simp] theorem setEst_update : (setEst i f c).update = c.update := rfl
@[simp] theorem setEst_lc : (setEst i f c).lc = c.lc := rfl
@[simp] theorem setEst_lane : (setEst i f c).lane = c.lane := rfl
@[simp] theorem setEst_gw : (setEst i f c).gw = c.gw := rfl
@[simp] theorem setEst_watch : (setEst i f c).watch = c.watch := rfl
@[simp] theorem setEst_reeve : (setEst i f c).reeve = c.reeve := rfl
@[simp] theorem setEst_therm : (setEst i f c).therm = c.therm := rfl
@[simp] theorem setEst_alm : (setEst i f c).alm = c.alm := rfl
@[simp] theorem setEst_twin : (setEst i f c).twin = c.twin := rfl
@[simp] theorem setEst_boot : (setEst i f c).boot = c.boot := rfl
@[simp] theorem setEst_fuses : (setEst i f c).fuses = c.fuses := rfl
@[simp] theorem setEst_nor : (setEst i f c).nor = c.nor := rfl
@[simp] theorem setEst_test : (setEst i f c).test = c.test := rfl
@[simp] theorem setEst_od : (setEst i f c).od = c.od := rfl
@[simp] theorem setEst_fresh : (setEst i f c).fresh = c.fresh := rfl
end

/-! ### setPp -/

section
variable (i j : Fin 8) (f : Pp → Pp)
@[simp] theorem setPp_self : (setPp i f c).pps[i] = f c.pps[i] := by simp [setPp]
@[simp] theorem setPp_self_val : (setPp i f c).pps[i.val] = f c.pps[i.val] := by simp [setPp]
theorem setPp_pps : (setPp i f c).pps[j] = if i = j then f c.pps[i] else c.pps[j] := by
  by_cases h : i = j
  · subst h; simp [setPp]
  · have h' : i.val ≠ j.val := fun e => h (Fin.ext e)
    simp [setPp, Vector.getElem_set_ne, h, h']
@[simp] theorem setPp_clock : (setPp i f c).clock = c.clock := rfl
@[simp] theorem setPp_hamlets : (setPp i f c).hamlets = c.hamlets := rfl
@[simp] theorem setPp_green : (setPp i f c).green = c.green := rfl
@[simp] theorem setPp_chans : (setPp i f c).chans = c.chans := rfl
@[simp] theorem setPp_rms : (setPp i f c).rms = c.rms := rfl
@[simp] theorem setPp_bus : (setPp i f c).bus = c.bus := rfl
@[simp] theorem setPp_well : (setPp i f c).well = c.well := rfl
@[simp] theorem setPp_cap : (setPp i f c).cap = c.cap := rfl
@[simp] theorem setPp_phases : (setPp i f c).phases = c.phases := rfl
@[simp] theorem setPp_rails : (setPp i f c).rails = c.rails := rfl
@[simp] theorem setPp_vcs : (setPp i f c).vcs = c.vcs := rfl
@[simp] theorem setPp_strs : (setPp i f c).strs = c.strs := rfl
@[simp] theorem setPp_ests : (setPp i f c).ests = c.ests := rfl
@[simp] theorem setPp_batt : (setPp i f c).batt = c.batt := rfl
@[simp] theorem setPp_wms : (setPp i f c).wms = c.wms := rfl
@[simp] theorem setPp_seq : (setPp i f c).seq = c.seq := rfl
@[simp] theorem setPp_mills : (setPp i f c).mills = c.mills := rfl
@[simp] theorem setPp_market : (setPp i f c).market = c.market := rfl
@[simp] theorem setPp_hampers : (setPp i f c).hampers = c.hampers := rfl
@[simp] theorem setPp_can : (setPp i f c).can = c.can := rfl
@[simp] theorem setPp_tw : (setPp i f c).tw = c.tw := rfl
@[simp] theorem setPp_svc : (setPp i f c).svc = c.svc := rfl
@[simp] theorem setPp_update : (setPp i f c).update = c.update := rfl
@[simp] theorem setPp_lc : (setPp i f c).lc = c.lc := rfl
@[simp] theorem setPp_lane : (setPp i f c).lane = c.lane := rfl
@[simp] theorem setPp_gw : (setPp i f c).gw = c.gw := rfl
@[simp] theorem setPp_watch : (setPp i f c).watch = c.watch := rfl
@[simp] theorem setPp_reeve : (setPp i f c).reeve = c.reeve := rfl
@[simp] theorem setPp_therm : (setPp i f c).therm = c.therm := rfl
@[simp] theorem setPp_alm : (setPp i f c).alm = c.alm := rfl
@[simp] theorem setPp_twin : (setPp i f c).twin = c.twin := rfl
@[simp] theorem setPp_boot : (setPp i f c).boot = c.boot := rfl
@[simp] theorem setPp_fuses : (setPp i f c).fuses = c.fuses := rfl
@[simp] theorem setPp_nor : (setPp i f c).nor = c.nor := rfl
@[simp] theorem setPp_test : (setPp i f c).test = c.test := rfl
@[simp] theorem setPp_od : (setPp i f c).od = c.od := rfl
@[simp] theorem setPp_fresh : (setPp i f c).fresh = c.fresh := rfl
end

/-! ### setWm -/

section
variable (i j : Fin 64) (f : Wm → Wm)
@[simp] theorem setWm_self : (setWm i f c).wms[i] = f c.wms[i] := by simp [setWm]
@[simp] theorem setWm_self_val : (setWm i f c).wms[i.val] = f c.wms[i.val] := by simp [setWm]
theorem setWm_wms : (setWm i f c).wms[j] = if i = j then f c.wms[i] else c.wms[j] := by
  by_cases h : i = j
  · subst h; simp [setWm]
  · have h' : i.val ≠ j.val := fun e => h (Fin.ext e)
    simp [setWm, Vector.getElem_set_ne, h, h']
@[simp] theorem setWm_clock : (setWm i f c).clock = c.clock := rfl
@[simp] theorem setWm_hamlets : (setWm i f c).hamlets = c.hamlets := rfl
@[simp] theorem setWm_green : (setWm i f c).green = c.green := rfl
@[simp] theorem setWm_chans : (setWm i f c).chans = c.chans := rfl
@[simp] theorem setWm_rms : (setWm i f c).rms = c.rms := rfl
@[simp] theorem setWm_bus : (setWm i f c).bus = c.bus := rfl
@[simp] theorem setWm_well : (setWm i f c).well = c.well := rfl
@[simp] theorem setWm_cap : (setWm i f c).cap = c.cap := rfl
@[simp] theorem setWm_phases : (setWm i f c).phases = c.phases := rfl
@[simp] theorem setWm_rails : (setWm i f c).rails = c.rails := rfl
@[simp] theorem setWm_vcs : (setWm i f c).vcs = c.vcs := rfl
@[simp] theorem setWm_strs : (setWm i f c).strs = c.strs := rfl
@[simp] theorem setWm_ests : (setWm i f c).ests = c.ests := rfl
@[simp] theorem setWm_batt : (setWm i f c).batt = c.batt := rfl
@[simp] theorem setWm_pps : (setWm i f c).pps = c.pps := rfl
@[simp] theorem setWm_seq : (setWm i f c).seq = c.seq := rfl
@[simp] theorem setWm_mills : (setWm i f c).mills = c.mills := rfl
@[simp] theorem setWm_market : (setWm i f c).market = c.market := rfl
@[simp] theorem setWm_hampers : (setWm i f c).hampers = c.hampers := rfl
@[simp] theorem setWm_can : (setWm i f c).can = c.can := rfl
@[simp] theorem setWm_tw : (setWm i f c).tw = c.tw := rfl
@[simp] theorem setWm_svc : (setWm i f c).svc = c.svc := rfl
@[simp] theorem setWm_update : (setWm i f c).update = c.update := rfl
@[simp] theorem setWm_lc : (setWm i f c).lc = c.lc := rfl
@[simp] theorem setWm_lane : (setWm i f c).lane = c.lane := rfl
@[simp] theorem setWm_gw : (setWm i f c).gw = c.gw := rfl
@[simp] theorem setWm_watch : (setWm i f c).watch = c.watch := rfl
@[simp] theorem setWm_reeve : (setWm i f c).reeve = c.reeve := rfl
@[simp] theorem setWm_therm : (setWm i f c).therm = c.therm := rfl
@[simp] theorem setWm_alm : (setWm i f c).alm = c.alm := rfl
@[simp] theorem setWm_twin : (setWm i f c).twin = c.twin := rfl
@[simp] theorem setWm_boot : (setWm i f c).boot = c.boot := rfl
@[simp] theorem setWm_fuses : (setWm i f c).fuses = c.fuses := rfl
@[simp] theorem setWm_nor : (setWm i f c).nor = c.nor := rfl
@[simp] theorem setWm_test : (setWm i f c).test = c.test := rfl
@[simp] theorem setWm_od : (setWm i f c).od = c.od := rfl
@[simp] theorem setWm_fresh : (setWm i f c).fresh = c.fresh := rfl
end

/-! ### setMill -/

section
variable (i j : Fin 16) (f : Mill → Mill)
@[simp] theorem setMill_self : (setMill i f c).mills[i] = f c.mills[i] := by simp [setMill]
@[simp] theorem setMill_self_val : (setMill i f c).mills[i.val] = f c.mills[i.val] := by simp [setMill]
theorem setMill_mills : (setMill i f c).mills[j] = if i = j then f c.mills[i] else c.mills[j] := by
  by_cases h : i = j
  · subst h; simp [setMill]
  · have h' : i.val ≠ j.val := fun e => h (Fin.ext e)
    simp [setMill, Vector.getElem_set_ne, h, h']
@[simp] theorem setMill_clock : (setMill i f c).clock = c.clock := rfl
@[simp] theorem setMill_hamlets : (setMill i f c).hamlets = c.hamlets := rfl
@[simp] theorem setMill_green : (setMill i f c).green = c.green := rfl
@[simp] theorem setMill_chans : (setMill i f c).chans = c.chans := rfl
@[simp] theorem setMill_rms : (setMill i f c).rms = c.rms := rfl
@[simp] theorem setMill_bus : (setMill i f c).bus = c.bus := rfl
@[simp] theorem setMill_well : (setMill i f c).well = c.well := rfl
@[simp] theorem setMill_cap : (setMill i f c).cap = c.cap := rfl
@[simp] theorem setMill_phases : (setMill i f c).phases = c.phases := rfl
@[simp] theorem setMill_rails : (setMill i f c).rails = c.rails := rfl
@[simp] theorem setMill_vcs : (setMill i f c).vcs = c.vcs := rfl
@[simp] theorem setMill_strs : (setMill i f c).strs = c.strs := rfl
@[simp] theorem setMill_ests : (setMill i f c).ests = c.ests := rfl
@[simp] theorem setMill_batt : (setMill i f c).batt = c.batt := rfl
@[simp] theorem setMill_pps : (setMill i f c).pps = c.pps := rfl
@[simp] theorem setMill_wms : (setMill i f c).wms = c.wms := rfl
@[simp] theorem setMill_seq : (setMill i f c).seq = c.seq := rfl
@[simp] theorem setMill_market : (setMill i f c).market = c.market := rfl
@[simp] theorem setMill_hampers : (setMill i f c).hampers = c.hampers := rfl
@[simp] theorem setMill_can : (setMill i f c).can = c.can := rfl
@[simp] theorem setMill_tw : (setMill i f c).tw = c.tw := rfl
@[simp] theorem setMill_svc : (setMill i f c).svc = c.svc := rfl
@[simp] theorem setMill_update : (setMill i f c).update = c.update := rfl
@[simp] theorem setMill_lc : (setMill i f c).lc = c.lc := rfl
@[simp] theorem setMill_lane : (setMill i f c).lane = c.lane := rfl
@[simp] theorem setMill_gw : (setMill i f c).gw = c.gw := rfl
@[simp] theorem setMill_watch : (setMill i f c).watch = c.watch := rfl
@[simp] theorem setMill_reeve : (setMill i f c).reeve = c.reeve := rfl
@[simp] theorem setMill_therm : (setMill i f c).therm = c.therm := rfl
@[simp] theorem setMill_alm : (setMill i f c).alm = c.alm := rfl
@[simp] theorem setMill_twin : (setMill i f c).twin = c.twin := rfl
@[simp] theorem setMill_boot : (setMill i f c).boot = c.boot := rfl
@[simp] theorem setMill_fuses : (setMill i f c).fuses = c.fuses := rfl
@[simp] theorem setMill_nor : (setMill i f c).nor = c.nor := rfl
@[simp] theorem setMill_test : (setMill i f c).test = c.test := rfl
@[simp] theorem setMill_od : (setMill i f c).od = c.od := rfl
@[simp] theorem setMill_fresh : (setMill i f c).fresh = c.fresh := rfl
end

/-! ### setGreen -/

section
variable (f : Green → Green)
@[simp] theorem setGreen_clock : (setGreen f c).clock = c.clock := rfl
@[simp] theorem setGreen_hamlets : (setGreen f c).hamlets = c.hamlets := rfl
@[simp] theorem setGreen_green : (setGreen f c).green = f c.green := rfl
@[simp] theorem setGreen_chans : (setGreen f c).chans = c.chans := rfl
@[simp] theorem setGreen_rms : (setGreen f c).rms = c.rms := rfl
@[simp] theorem setGreen_bus : (setGreen f c).bus = c.bus := rfl
@[simp] theorem setGreen_well : (setGreen f c).well = c.well := rfl
@[simp] theorem setGreen_cap : (setGreen f c).cap = c.cap := rfl
@[simp] theorem setGreen_phases : (setGreen f c).phases = c.phases := rfl
@[simp] theorem setGreen_rails : (setGreen f c).rails = c.rails := rfl
@[simp] theorem setGreen_vcs : (setGreen f c).vcs = c.vcs := rfl
@[simp] theorem setGreen_strs : (setGreen f c).strs = c.strs := rfl
@[simp] theorem setGreen_ests : (setGreen f c).ests = c.ests := rfl
@[simp] theorem setGreen_batt : (setGreen f c).batt = c.batt := rfl
@[simp] theorem setGreen_pps : (setGreen f c).pps = c.pps := rfl
@[simp] theorem setGreen_wms : (setGreen f c).wms = c.wms := rfl
@[simp] theorem setGreen_seq : (setGreen f c).seq = c.seq := rfl
@[simp] theorem setGreen_mills : (setGreen f c).mills = c.mills := rfl
@[simp] theorem setGreen_market : (setGreen f c).market = c.market := rfl
@[simp] theorem setGreen_hampers : (setGreen f c).hampers = c.hampers := rfl
@[simp] theorem setGreen_can : (setGreen f c).can = c.can := rfl
@[simp] theorem setGreen_tw : (setGreen f c).tw = c.tw := rfl
@[simp] theorem setGreen_svc : (setGreen f c).svc = c.svc := rfl
@[simp] theorem setGreen_update : (setGreen f c).update = c.update := rfl
@[simp] theorem setGreen_lc : (setGreen f c).lc = c.lc := rfl
@[simp] theorem setGreen_lane : (setGreen f c).lane = c.lane := rfl
@[simp] theorem setGreen_gw : (setGreen f c).gw = c.gw := rfl
@[simp] theorem setGreen_watch : (setGreen f c).watch = c.watch := rfl
@[simp] theorem setGreen_reeve : (setGreen f c).reeve = c.reeve := rfl
@[simp] theorem setGreen_therm : (setGreen f c).therm = c.therm := rfl
@[simp] theorem setGreen_alm : (setGreen f c).alm = c.alm := rfl
@[simp] theorem setGreen_twin : (setGreen f c).twin = c.twin := rfl
@[simp] theorem setGreen_boot : (setGreen f c).boot = c.boot := rfl
@[simp] theorem setGreen_fuses : (setGreen f c).fuses = c.fuses := rfl
@[simp] theorem setGreen_nor : (setGreen f c).nor = c.nor := rfl
@[simp] theorem setGreen_test : (setGreen f c).test = c.test := rfl
@[simp] theorem setGreen_od : (setGreen f c).od = c.od := rfl
@[simp] theorem setGreen_fresh : (setGreen f c).fresh = c.fresh := rfl
end

/-! ### setBus -/

section
variable (f : Bus → Bus)
@[simp] theorem setBus_clock : (setBus f c).clock = c.clock := rfl
@[simp] theorem setBus_hamlets : (setBus f c).hamlets = c.hamlets := rfl
@[simp] theorem setBus_green : (setBus f c).green = c.green := rfl
@[simp] theorem setBus_chans : (setBus f c).chans = c.chans := rfl
@[simp] theorem setBus_rms : (setBus f c).rms = c.rms := rfl
@[simp] theorem setBus_bus : (setBus f c).bus = f c.bus := rfl
@[simp] theorem setBus_well : (setBus f c).well = c.well := rfl
@[simp] theorem setBus_cap : (setBus f c).cap = c.cap := rfl
@[simp] theorem setBus_phases : (setBus f c).phases = c.phases := rfl
@[simp] theorem setBus_rails : (setBus f c).rails = c.rails := rfl
@[simp] theorem setBus_vcs : (setBus f c).vcs = c.vcs := rfl
@[simp] theorem setBus_strs : (setBus f c).strs = c.strs := rfl
@[simp] theorem setBus_ests : (setBus f c).ests = c.ests := rfl
@[simp] theorem setBus_batt : (setBus f c).batt = c.batt := rfl
@[simp] theorem setBus_pps : (setBus f c).pps = c.pps := rfl
@[simp] theorem setBus_wms : (setBus f c).wms = c.wms := rfl
@[simp] theorem setBus_seq : (setBus f c).seq = c.seq := rfl
@[simp] theorem setBus_mills : (setBus f c).mills = c.mills := rfl
@[simp] theorem setBus_market : (setBus f c).market = c.market := rfl
@[simp] theorem setBus_hampers : (setBus f c).hampers = c.hampers := rfl
@[simp] theorem setBus_can : (setBus f c).can = c.can := rfl
@[simp] theorem setBus_tw : (setBus f c).tw = c.tw := rfl
@[simp] theorem setBus_svc : (setBus f c).svc = c.svc := rfl
@[simp] theorem setBus_update : (setBus f c).update = c.update := rfl
@[simp] theorem setBus_lc : (setBus f c).lc = c.lc := rfl
@[simp] theorem setBus_lane : (setBus f c).lane = c.lane := rfl
@[simp] theorem setBus_gw : (setBus f c).gw = c.gw := rfl
@[simp] theorem setBus_watch : (setBus f c).watch = c.watch := rfl
@[simp] theorem setBus_reeve : (setBus f c).reeve = c.reeve := rfl
@[simp] theorem setBus_therm : (setBus f c).therm = c.therm := rfl
@[simp] theorem setBus_alm : (setBus f c).alm = c.alm := rfl
@[simp] theorem setBus_twin : (setBus f c).twin = c.twin := rfl
@[simp] theorem setBus_boot : (setBus f c).boot = c.boot := rfl
@[simp] theorem setBus_fuses : (setBus f c).fuses = c.fuses := rfl
@[simp] theorem setBus_nor : (setBus f c).nor = c.nor := rfl
@[simp] theorem setBus_test : (setBus f c).test = c.test := rfl
@[simp] theorem setBus_od : (setBus f c).od = c.od := rfl
@[simp] theorem setBus_fresh : (setBus f c).fresh = c.fresh := rfl
end

/-! ### setWell -/

section
variable (f : Well → Well)
@[simp] theorem setWell_clock : (setWell f c).clock = c.clock := rfl
@[simp] theorem setWell_hamlets : (setWell f c).hamlets = c.hamlets := rfl
@[simp] theorem setWell_green : (setWell f c).green = c.green := rfl
@[simp] theorem setWell_chans : (setWell f c).chans = c.chans := rfl
@[simp] theorem setWell_rms : (setWell f c).rms = c.rms := rfl
@[simp] theorem setWell_bus : (setWell f c).bus = c.bus := rfl
@[simp] theorem setWell_well : (setWell f c).well = f c.well := rfl
@[simp] theorem setWell_cap : (setWell f c).cap = c.cap := rfl
@[simp] theorem setWell_phases : (setWell f c).phases = c.phases := rfl
@[simp] theorem setWell_rails : (setWell f c).rails = c.rails := rfl
@[simp] theorem setWell_vcs : (setWell f c).vcs = c.vcs := rfl
@[simp] theorem setWell_strs : (setWell f c).strs = c.strs := rfl
@[simp] theorem setWell_ests : (setWell f c).ests = c.ests := rfl
@[simp] theorem setWell_batt : (setWell f c).batt = c.batt := rfl
@[simp] theorem setWell_pps : (setWell f c).pps = c.pps := rfl
@[simp] theorem setWell_wms : (setWell f c).wms = c.wms := rfl
@[simp] theorem setWell_seq : (setWell f c).seq = c.seq := rfl
@[simp] theorem setWell_mills : (setWell f c).mills = c.mills := rfl
@[simp] theorem setWell_market : (setWell f c).market = c.market := rfl
@[simp] theorem setWell_hampers : (setWell f c).hampers = c.hampers := rfl
@[simp] theorem setWell_can : (setWell f c).can = c.can := rfl
@[simp] theorem setWell_tw : (setWell f c).tw = c.tw := rfl
@[simp] theorem setWell_svc : (setWell f c).svc = c.svc := rfl
@[simp] theorem setWell_update : (setWell f c).update = c.update := rfl
@[simp] theorem setWell_lc : (setWell f c).lc = c.lc := rfl
@[simp] theorem setWell_lane : (setWell f c).lane = c.lane := rfl
@[simp] theorem setWell_gw : (setWell f c).gw = c.gw := rfl
@[simp] theorem setWell_watch : (setWell f c).watch = c.watch := rfl
@[simp] theorem setWell_reeve : (setWell f c).reeve = c.reeve := rfl
@[simp] theorem setWell_therm : (setWell f c).therm = c.therm := rfl
@[simp] theorem setWell_alm : (setWell f c).alm = c.alm := rfl
@[simp] theorem setWell_twin : (setWell f c).twin = c.twin := rfl
@[simp] theorem setWell_boot : (setWell f c).boot = c.boot := rfl
@[simp] theorem setWell_fuses : (setWell f c).fuses = c.fuses := rfl
@[simp] theorem setWell_nor : (setWell f c).nor = c.nor := rfl
@[simp] theorem setWell_test : (setWell f c).test = c.test := rfl
@[simp] theorem setWell_od : (setWell f c).od = c.od := rfl
@[simp] theorem setWell_fresh : (setWell f c).fresh = c.fresh := rfl
end

/-! ### setCap -/

section
variable (f : Cap → Cap)
@[simp] theorem setCap_clock : (setCap f c).clock = c.clock := rfl
@[simp] theorem setCap_hamlets : (setCap f c).hamlets = c.hamlets := rfl
@[simp] theorem setCap_green : (setCap f c).green = c.green := rfl
@[simp] theorem setCap_chans : (setCap f c).chans = c.chans := rfl
@[simp] theorem setCap_rms : (setCap f c).rms = c.rms := rfl
@[simp] theorem setCap_bus : (setCap f c).bus = c.bus := rfl
@[simp] theorem setCap_well : (setCap f c).well = c.well := rfl
@[simp] theorem setCap_cap : (setCap f c).cap = f c.cap := rfl
@[simp] theorem setCap_phases : (setCap f c).phases = c.phases := rfl
@[simp] theorem setCap_rails : (setCap f c).rails = c.rails := rfl
@[simp] theorem setCap_vcs : (setCap f c).vcs = c.vcs := rfl
@[simp] theorem setCap_strs : (setCap f c).strs = c.strs := rfl
@[simp] theorem setCap_ests : (setCap f c).ests = c.ests := rfl
@[simp] theorem setCap_batt : (setCap f c).batt = c.batt := rfl
@[simp] theorem setCap_pps : (setCap f c).pps = c.pps := rfl
@[simp] theorem setCap_wms : (setCap f c).wms = c.wms := rfl
@[simp] theorem setCap_seq : (setCap f c).seq = c.seq := rfl
@[simp] theorem setCap_mills : (setCap f c).mills = c.mills := rfl
@[simp] theorem setCap_market : (setCap f c).market = c.market := rfl
@[simp] theorem setCap_hampers : (setCap f c).hampers = c.hampers := rfl
@[simp] theorem setCap_can : (setCap f c).can = c.can := rfl
@[simp] theorem setCap_tw : (setCap f c).tw = c.tw := rfl
@[simp] theorem setCap_svc : (setCap f c).svc = c.svc := rfl
@[simp] theorem setCap_update : (setCap f c).update = c.update := rfl
@[simp] theorem setCap_lc : (setCap f c).lc = c.lc := rfl
@[simp] theorem setCap_lane : (setCap f c).lane = c.lane := rfl
@[simp] theorem setCap_gw : (setCap f c).gw = c.gw := rfl
@[simp] theorem setCap_watch : (setCap f c).watch = c.watch := rfl
@[simp] theorem setCap_reeve : (setCap f c).reeve = c.reeve := rfl
@[simp] theorem setCap_therm : (setCap f c).therm = c.therm := rfl
@[simp] theorem setCap_alm : (setCap f c).alm = c.alm := rfl
@[simp] theorem setCap_twin : (setCap f c).twin = c.twin := rfl
@[simp] theorem setCap_boot : (setCap f c).boot = c.boot := rfl
@[simp] theorem setCap_fuses : (setCap f c).fuses = c.fuses := rfl
@[simp] theorem setCap_nor : (setCap f c).nor = c.nor := rfl
@[simp] theorem setCap_test : (setCap f c).test = c.test := rfl
@[simp] theorem setCap_od : (setCap f c).od = c.od := rfl
@[simp] theorem setCap_fresh : (setCap f c).fresh = c.fresh := rfl
end

/-! ### setBatt -/

section
variable (f : Batt → Batt)
@[simp] theorem setBatt_clock : (setBatt f c).clock = c.clock := rfl
@[simp] theorem setBatt_hamlets : (setBatt f c).hamlets = c.hamlets := rfl
@[simp] theorem setBatt_green : (setBatt f c).green = c.green := rfl
@[simp] theorem setBatt_chans : (setBatt f c).chans = c.chans := rfl
@[simp] theorem setBatt_rms : (setBatt f c).rms = c.rms := rfl
@[simp] theorem setBatt_bus : (setBatt f c).bus = c.bus := rfl
@[simp] theorem setBatt_well : (setBatt f c).well = c.well := rfl
@[simp] theorem setBatt_cap : (setBatt f c).cap = c.cap := rfl
@[simp] theorem setBatt_phases : (setBatt f c).phases = c.phases := rfl
@[simp] theorem setBatt_rails : (setBatt f c).rails = c.rails := rfl
@[simp] theorem setBatt_vcs : (setBatt f c).vcs = c.vcs := rfl
@[simp] theorem setBatt_strs : (setBatt f c).strs = c.strs := rfl
@[simp] theorem setBatt_ests : (setBatt f c).ests = c.ests := rfl
@[simp] theorem setBatt_batt : (setBatt f c).batt = f c.batt := rfl
@[simp] theorem setBatt_pps : (setBatt f c).pps = c.pps := rfl
@[simp] theorem setBatt_wms : (setBatt f c).wms = c.wms := rfl
@[simp] theorem setBatt_seq : (setBatt f c).seq = c.seq := rfl
@[simp] theorem setBatt_mills : (setBatt f c).mills = c.mills := rfl
@[simp] theorem setBatt_market : (setBatt f c).market = c.market := rfl
@[simp] theorem setBatt_hampers : (setBatt f c).hampers = c.hampers := rfl
@[simp] theorem setBatt_can : (setBatt f c).can = c.can := rfl
@[simp] theorem setBatt_tw : (setBatt f c).tw = c.tw := rfl
@[simp] theorem setBatt_svc : (setBatt f c).svc = c.svc := rfl
@[simp] theorem setBatt_update : (setBatt f c).update = c.update := rfl
@[simp] theorem setBatt_lc : (setBatt f c).lc = c.lc := rfl
@[simp] theorem setBatt_lane : (setBatt f c).lane = c.lane := rfl
@[simp] theorem setBatt_gw : (setBatt f c).gw = c.gw := rfl
@[simp] theorem setBatt_watch : (setBatt f c).watch = c.watch := rfl
@[simp] theorem setBatt_reeve : (setBatt f c).reeve = c.reeve := rfl
@[simp] theorem setBatt_therm : (setBatt f c).therm = c.therm := rfl
@[simp] theorem setBatt_alm : (setBatt f c).alm = c.alm := rfl
@[simp] theorem setBatt_twin : (setBatt f c).twin = c.twin := rfl
@[simp] theorem setBatt_boot : (setBatt f c).boot = c.boot := rfl
@[simp] theorem setBatt_fuses : (setBatt f c).fuses = c.fuses := rfl
@[simp] theorem setBatt_nor : (setBatt f c).nor = c.nor := rfl
@[simp] theorem setBatt_test : (setBatt f c).test = c.test := rfl
@[simp] theorem setBatt_od : (setBatt f c).od = c.od := rfl
@[simp] theorem setBatt_fresh : (setBatt f c).fresh = c.fresh := rfl
end

/-! ### setSeq -/

section
variable (f : Seq → Seq)
@[simp] theorem setSeq_clock : (setSeq f c).clock = c.clock := rfl
@[simp] theorem setSeq_hamlets : (setSeq f c).hamlets = c.hamlets := rfl
@[simp] theorem setSeq_green : (setSeq f c).green = c.green := rfl
@[simp] theorem setSeq_chans : (setSeq f c).chans = c.chans := rfl
@[simp] theorem setSeq_rms : (setSeq f c).rms = c.rms := rfl
@[simp] theorem setSeq_bus : (setSeq f c).bus = c.bus := rfl
@[simp] theorem setSeq_well : (setSeq f c).well = c.well := rfl
@[simp] theorem setSeq_cap : (setSeq f c).cap = c.cap := rfl
@[simp] theorem setSeq_phases : (setSeq f c).phases = c.phases := rfl
@[simp] theorem setSeq_rails : (setSeq f c).rails = c.rails := rfl
@[simp] theorem setSeq_vcs : (setSeq f c).vcs = c.vcs := rfl
@[simp] theorem setSeq_strs : (setSeq f c).strs = c.strs := rfl
@[simp] theorem setSeq_ests : (setSeq f c).ests = c.ests := rfl
@[simp] theorem setSeq_batt : (setSeq f c).batt = c.batt := rfl
@[simp] theorem setSeq_pps : (setSeq f c).pps = c.pps := rfl
@[simp] theorem setSeq_wms : (setSeq f c).wms = c.wms := rfl
@[simp] theorem setSeq_seq : (setSeq f c).seq = f c.seq := rfl
@[simp] theorem setSeq_mills : (setSeq f c).mills = c.mills := rfl
@[simp] theorem setSeq_market : (setSeq f c).market = c.market := rfl
@[simp] theorem setSeq_hampers : (setSeq f c).hampers = c.hampers := rfl
@[simp] theorem setSeq_can : (setSeq f c).can = c.can := rfl
@[simp] theorem setSeq_tw : (setSeq f c).tw = c.tw := rfl
@[simp] theorem setSeq_svc : (setSeq f c).svc = c.svc := rfl
@[simp] theorem setSeq_update : (setSeq f c).update = c.update := rfl
@[simp] theorem setSeq_lc : (setSeq f c).lc = c.lc := rfl
@[simp] theorem setSeq_lane : (setSeq f c).lane = c.lane := rfl
@[simp] theorem setSeq_gw : (setSeq f c).gw = c.gw := rfl
@[simp] theorem setSeq_watch : (setSeq f c).watch = c.watch := rfl
@[simp] theorem setSeq_reeve : (setSeq f c).reeve = c.reeve := rfl
@[simp] theorem setSeq_therm : (setSeq f c).therm = c.therm := rfl
@[simp] theorem setSeq_alm : (setSeq f c).alm = c.alm := rfl
@[simp] theorem setSeq_twin : (setSeq f c).twin = c.twin := rfl
@[simp] theorem setSeq_boot : (setSeq f c).boot = c.boot := rfl
@[simp] theorem setSeq_fuses : (setSeq f c).fuses = c.fuses := rfl
@[simp] theorem setSeq_nor : (setSeq f c).nor = c.nor := rfl
@[simp] theorem setSeq_test : (setSeq f c).test = c.test := rfl
@[simp] theorem setSeq_od : (setSeq f c).od = c.od := rfl
@[simp] theorem setSeq_fresh : (setSeq f c).fresh = c.fresh := rfl
end

/-! ### setMarket -/

section
variable (f : Market → Market)
@[simp] theorem setMarket_clock : (setMarket f c).clock = c.clock := rfl
@[simp] theorem setMarket_hamlets : (setMarket f c).hamlets = c.hamlets := rfl
@[simp] theorem setMarket_green : (setMarket f c).green = c.green := rfl
@[simp] theorem setMarket_chans : (setMarket f c).chans = c.chans := rfl
@[simp] theorem setMarket_rms : (setMarket f c).rms = c.rms := rfl
@[simp] theorem setMarket_bus : (setMarket f c).bus = c.bus := rfl
@[simp] theorem setMarket_well : (setMarket f c).well = c.well := rfl
@[simp] theorem setMarket_cap : (setMarket f c).cap = c.cap := rfl
@[simp] theorem setMarket_phases : (setMarket f c).phases = c.phases := rfl
@[simp] theorem setMarket_rails : (setMarket f c).rails = c.rails := rfl
@[simp] theorem setMarket_vcs : (setMarket f c).vcs = c.vcs := rfl
@[simp] theorem setMarket_strs : (setMarket f c).strs = c.strs := rfl
@[simp] theorem setMarket_ests : (setMarket f c).ests = c.ests := rfl
@[simp] theorem setMarket_batt : (setMarket f c).batt = c.batt := rfl
@[simp] theorem setMarket_pps : (setMarket f c).pps = c.pps := rfl
@[simp] theorem setMarket_wms : (setMarket f c).wms = c.wms := rfl
@[simp] theorem setMarket_seq : (setMarket f c).seq = c.seq := rfl
@[simp] theorem setMarket_mills : (setMarket f c).mills = c.mills := rfl
@[simp] theorem setMarket_market : (setMarket f c).market = f c.market := rfl
@[simp] theorem setMarket_hampers : (setMarket f c).hampers = c.hampers := rfl
@[simp] theorem setMarket_can : (setMarket f c).can = c.can := rfl
@[simp] theorem setMarket_tw : (setMarket f c).tw = c.tw := rfl
@[simp] theorem setMarket_svc : (setMarket f c).svc = c.svc := rfl
@[simp] theorem setMarket_update : (setMarket f c).update = c.update := rfl
@[simp] theorem setMarket_lc : (setMarket f c).lc = c.lc := rfl
@[simp] theorem setMarket_lane : (setMarket f c).lane = c.lane := rfl
@[simp] theorem setMarket_gw : (setMarket f c).gw = c.gw := rfl
@[simp] theorem setMarket_watch : (setMarket f c).watch = c.watch := rfl
@[simp] theorem setMarket_reeve : (setMarket f c).reeve = c.reeve := rfl
@[simp] theorem setMarket_therm : (setMarket f c).therm = c.therm := rfl
@[simp] theorem setMarket_alm : (setMarket f c).alm = c.alm := rfl
@[simp] theorem setMarket_twin : (setMarket f c).twin = c.twin := rfl
@[simp] theorem setMarket_boot : (setMarket f c).boot = c.boot := rfl
@[simp] theorem setMarket_fuses : (setMarket f c).fuses = c.fuses := rfl
@[simp] theorem setMarket_nor : (setMarket f c).nor = c.nor := rfl
@[simp] theorem setMarket_test : (setMarket f c).test = c.test := rfl
@[simp] theorem setMarket_od : (setMarket f c).od = c.od := rfl
@[simp] theorem setMarket_fresh : (setMarket f c).fresh = c.fresh := rfl
end

/-! ### setHampers -/

section
variable (f : Hampers → Hampers)
@[simp] theorem setHampers_clock : (setHampers f c).clock = c.clock := rfl
@[simp] theorem setHampers_hamlets : (setHampers f c).hamlets = c.hamlets := rfl
@[simp] theorem setHampers_green : (setHampers f c).green = c.green := rfl
@[simp] theorem setHampers_chans : (setHampers f c).chans = c.chans := rfl
@[simp] theorem setHampers_rms : (setHampers f c).rms = c.rms := rfl
@[simp] theorem setHampers_bus : (setHampers f c).bus = c.bus := rfl
@[simp] theorem setHampers_well : (setHampers f c).well = c.well := rfl
@[simp] theorem setHampers_cap : (setHampers f c).cap = c.cap := rfl
@[simp] theorem setHampers_phases : (setHampers f c).phases = c.phases := rfl
@[simp] theorem setHampers_rails : (setHampers f c).rails = c.rails := rfl
@[simp] theorem setHampers_vcs : (setHampers f c).vcs = c.vcs := rfl
@[simp] theorem setHampers_strs : (setHampers f c).strs = c.strs := rfl
@[simp] theorem setHampers_ests : (setHampers f c).ests = c.ests := rfl
@[simp] theorem setHampers_batt : (setHampers f c).batt = c.batt := rfl
@[simp] theorem setHampers_pps : (setHampers f c).pps = c.pps := rfl
@[simp] theorem setHampers_wms : (setHampers f c).wms = c.wms := rfl
@[simp] theorem setHampers_seq : (setHampers f c).seq = c.seq := rfl
@[simp] theorem setHampers_mills : (setHampers f c).mills = c.mills := rfl
@[simp] theorem setHampers_market : (setHampers f c).market = c.market := rfl
@[simp] theorem setHampers_hampers : (setHampers f c).hampers = f c.hampers := rfl
@[simp] theorem setHampers_can : (setHampers f c).can = c.can := rfl
@[simp] theorem setHampers_tw : (setHampers f c).tw = c.tw := rfl
@[simp] theorem setHampers_svc : (setHampers f c).svc = c.svc := rfl
@[simp] theorem setHampers_update : (setHampers f c).update = c.update := rfl
@[simp] theorem setHampers_lc : (setHampers f c).lc = c.lc := rfl
@[simp] theorem setHampers_lane : (setHampers f c).lane = c.lane := rfl
@[simp] theorem setHampers_gw : (setHampers f c).gw = c.gw := rfl
@[simp] theorem setHampers_watch : (setHampers f c).watch = c.watch := rfl
@[simp] theorem setHampers_reeve : (setHampers f c).reeve = c.reeve := rfl
@[simp] theorem setHampers_therm : (setHampers f c).therm = c.therm := rfl
@[simp] theorem setHampers_alm : (setHampers f c).alm = c.alm := rfl
@[simp] theorem setHampers_twin : (setHampers f c).twin = c.twin := rfl
@[simp] theorem setHampers_boot : (setHampers f c).boot = c.boot := rfl
@[simp] theorem setHampers_fuses : (setHampers f c).fuses = c.fuses := rfl
@[simp] theorem setHampers_nor : (setHampers f c).nor = c.nor := rfl
@[simp] theorem setHampers_test : (setHampers f c).test = c.test := rfl
@[simp] theorem setHampers_od : (setHampers f c).od = c.od := rfl
@[simp] theorem setHampers_fresh : (setHampers f c).fresh = c.fresh := rfl
end

/-! ### setCan -/

section
variable (f : Can → Can)
@[simp] theorem setCan_clock : (setCan f c).clock = c.clock := rfl
@[simp] theorem setCan_hamlets : (setCan f c).hamlets = c.hamlets := rfl
@[simp] theorem setCan_green : (setCan f c).green = c.green := rfl
@[simp] theorem setCan_chans : (setCan f c).chans = c.chans := rfl
@[simp] theorem setCan_rms : (setCan f c).rms = c.rms := rfl
@[simp] theorem setCan_bus : (setCan f c).bus = c.bus := rfl
@[simp] theorem setCan_well : (setCan f c).well = c.well := rfl
@[simp] theorem setCan_cap : (setCan f c).cap = c.cap := rfl
@[simp] theorem setCan_phases : (setCan f c).phases = c.phases := rfl
@[simp] theorem setCan_rails : (setCan f c).rails = c.rails := rfl
@[simp] theorem setCan_vcs : (setCan f c).vcs = c.vcs := rfl
@[simp] theorem setCan_strs : (setCan f c).strs = c.strs := rfl
@[simp] theorem setCan_ests : (setCan f c).ests = c.ests := rfl
@[simp] theorem setCan_batt : (setCan f c).batt = c.batt := rfl
@[simp] theorem setCan_pps : (setCan f c).pps = c.pps := rfl
@[simp] theorem setCan_wms : (setCan f c).wms = c.wms := rfl
@[simp] theorem setCan_seq : (setCan f c).seq = c.seq := rfl
@[simp] theorem setCan_mills : (setCan f c).mills = c.mills := rfl
@[simp] theorem setCan_market : (setCan f c).market = c.market := rfl
@[simp] theorem setCan_hampers : (setCan f c).hampers = c.hampers := rfl
@[simp] theorem setCan_can : (setCan f c).can = f c.can := rfl
@[simp] theorem setCan_tw : (setCan f c).tw = c.tw := rfl
@[simp] theorem setCan_svc : (setCan f c).svc = c.svc := rfl
@[simp] theorem setCan_update : (setCan f c).update = c.update := rfl
@[simp] theorem setCan_lc : (setCan f c).lc = c.lc := rfl
@[simp] theorem setCan_lane : (setCan f c).lane = c.lane := rfl
@[simp] theorem setCan_gw : (setCan f c).gw = c.gw := rfl
@[simp] theorem setCan_watch : (setCan f c).watch = c.watch := rfl
@[simp] theorem setCan_reeve : (setCan f c).reeve = c.reeve := rfl
@[simp] theorem setCan_therm : (setCan f c).therm = c.therm := rfl
@[simp] theorem setCan_alm : (setCan f c).alm = c.alm := rfl
@[simp] theorem setCan_twin : (setCan f c).twin = c.twin := rfl
@[simp] theorem setCan_boot : (setCan f c).boot = c.boot := rfl
@[simp] theorem setCan_fuses : (setCan f c).fuses = c.fuses := rfl
@[simp] theorem setCan_nor : (setCan f c).nor = c.nor := rfl
@[simp] theorem setCan_test : (setCan f c).test = c.test := rfl
@[simp] theorem setCan_od : (setCan f c).od = c.od := rfl
@[simp] theorem setCan_fresh : (setCan f c).fresh = c.fresh := rfl
end

/-! ### setTw -/

section
variable (f : TwoWire → TwoWire)
@[simp] theorem setTw_clock : (setTw f c).clock = c.clock := rfl
@[simp] theorem setTw_hamlets : (setTw f c).hamlets = c.hamlets := rfl
@[simp] theorem setTw_green : (setTw f c).green = c.green := rfl
@[simp] theorem setTw_chans : (setTw f c).chans = c.chans := rfl
@[simp] theorem setTw_rms : (setTw f c).rms = c.rms := rfl
@[simp] theorem setTw_bus : (setTw f c).bus = c.bus := rfl
@[simp] theorem setTw_well : (setTw f c).well = c.well := rfl
@[simp] theorem setTw_cap : (setTw f c).cap = c.cap := rfl
@[simp] theorem setTw_phases : (setTw f c).phases = c.phases := rfl
@[simp] theorem setTw_rails : (setTw f c).rails = c.rails := rfl
@[simp] theorem setTw_vcs : (setTw f c).vcs = c.vcs := rfl
@[simp] theorem setTw_strs : (setTw f c).strs = c.strs := rfl
@[simp] theorem setTw_ests : (setTw f c).ests = c.ests := rfl
@[simp] theorem setTw_batt : (setTw f c).batt = c.batt := rfl
@[simp] theorem setTw_pps : (setTw f c).pps = c.pps := rfl
@[simp] theorem setTw_wms : (setTw f c).wms = c.wms := rfl
@[simp] theorem setTw_seq : (setTw f c).seq = c.seq := rfl
@[simp] theorem setTw_mills : (setTw f c).mills = c.mills := rfl
@[simp] theorem setTw_market : (setTw f c).market = c.market := rfl
@[simp] theorem setTw_hampers : (setTw f c).hampers = c.hampers := rfl
@[simp] theorem setTw_can : (setTw f c).can = c.can := rfl
@[simp] theorem setTw_tw : (setTw f c).tw = f c.tw := rfl
@[simp] theorem setTw_svc : (setTw f c).svc = c.svc := rfl
@[simp] theorem setTw_update : (setTw f c).update = c.update := rfl
@[simp] theorem setTw_lc : (setTw f c).lc = c.lc := rfl
@[simp] theorem setTw_lane : (setTw f c).lane = c.lane := rfl
@[simp] theorem setTw_gw : (setTw f c).gw = c.gw := rfl
@[simp] theorem setTw_watch : (setTw f c).watch = c.watch := rfl
@[simp] theorem setTw_reeve : (setTw f c).reeve = c.reeve := rfl
@[simp] theorem setTw_therm : (setTw f c).therm = c.therm := rfl
@[simp] theorem setTw_alm : (setTw f c).alm = c.alm := rfl
@[simp] theorem setTw_twin : (setTw f c).twin = c.twin := rfl
@[simp] theorem setTw_boot : (setTw f c).boot = c.boot := rfl
@[simp] theorem setTw_fuses : (setTw f c).fuses = c.fuses := rfl
@[simp] theorem setTw_nor : (setTw f c).nor = c.nor := rfl
@[simp] theorem setTw_test : (setTw f c).test = c.test := rfl
@[simp] theorem setTw_od : (setTw f c).od = c.od := rfl
@[simp] theorem setTw_fresh : (setTw f c).fresh = c.fresh := rfl
end

/-! ### setSvc -/

section
variable (f : Svc → Svc)
@[simp] theorem setSvc_clock : (setSvc f c).clock = c.clock := rfl
@[simp] theorem setSvc_hamlets : (setSvc f c).hamlets = c.hamlets := rfl
@[simp] theorem setSvc_green : (setSvc f c).green = c.green := rfl
@[simp] theorem setSvc_chans : (setSvc f c).chans = c.chans := rfl
@[simp] theorem setSvc_rms : (setSvc f c).rms = c.rms := rfl
@[simp] theorem setSvc_bus : (setSvc f c).bus = c.bus := rfl
@[simp] theorem setSvc_well : (setSvc f c).well = c.well := rfl
@[simp] theorem setSvc_cap : (setSvc f c).cap = c.cap := rfl
@[simp] theorem setSvc_phases : (setSvc f c).phases = c.phases := rfl
@[simp] theorem setSvc_rails : (setSvc f c).rails = c.rails := rfl
@[simp] theorem setSvc_vcs : (setSvc f c).vcs = c.vcs := rfl
@[simp] theorem setSvc_strs : (setSvc f c).strs = c.strs := rfl
@[simp] theorem setSvc_ests : (setSvc f c).ests = c.ests := rfl
@[simp] theorem setSvc_batt : (setSvc f c).batt = c.batt := rfl
@[simp] theorem setSvc_pps : (setSvc f c).pps = c.pps := rfl
@[simp] theorem setSvc_wms : (setSvc f c).wms = c.wms := rfl
@[simp] theorem setSvc_seq : (setSvc f c).seq = c.seq := rfl
@[simp] theorem setSvc_mills : (setSvc f c).mills = c.mills := rfl
@[simp] theorem setSvc_market : (setSvc f c).market = c.market := rfl
@[simp] theorem setSvc_hampers : (setSvc f c).hampers = c.hampers := rfl
@[simp] theorem setSvc_can : (setSvc f c).can = c.can := rfl
@[simp] theorem setSvc_tw : (setSvc f c).tw = c.tw := rfl
@[simp] theorem setSvc_svc : (setSvc f c).svc = f c.svc := rfl
@[simp] theorem setSvc_update : (setSvc f c).update = c.update := rfl
@[simp] theorem setSvc_lc : (setSvc f c).lc = c.lc := rfl
@[simp] theorem setSvc_lane : (setSvc f c).lane = c.lane := rfl
@[simp] theorem setSvc_gw : (setSvc f c).gw = c.gw := rfl
@[simp] theorem setSvc_watch : (setSvc f c).watch = c.watch := rfl
@[simp] theorem setSvc_reeve : (setSvc f c).reeve = c.reeve := rfl
@[simp] theorem setSvc_therm : (setSvc f c).therm = c.therm := rfl
@[simp] theorem setSvc_alm : (setSvc f c).alm = c.alm := rfl
@[simp] theorem setSvc_twin : (setSvc f c).twin = c.twin := rfl
@[simp] theorem setSvc_boot : (setSvc f c).boot = c.boot := rfl
@[simp] theorem setSvc_fuses : (setSvc f c).fuses = c.fuses := rfl
@[simp] theorem setSvc_nor : (setSvc f c).nor = c.nor := rfl
@[simp] theorem setSvc_test : (setSvc f c).test = c.test := rfl
@[simp] theorem setSvc_od : (setSvc f c).od = c.od := rfl
@[simp] theorem setSvc_fresh : (setSvc f c).fresh = c.fresh := rfl
end

/-! ### setUpdate -/

section
variable (f : Update → Update)
@[simp] theorem setUpdate_clock : (setUpdate f c).clock = c.clock := rfl
@[simp] theorem setUpdate_hamlets : (setUpdate f c).hamlets = c.hamlets := rfl
@[simp] theorem setUpdate_green : (setUpdate f c).green = c.green := rfl
@[simp] theorem setUpdate_chans : (setUpdate f c).chans = c.chans := rfl
@[simp] theorem setUpdate_rms : (setUpdate f c).rms = c.rms := rfl
@[simp] theorem setUpdate_bus : (setUpdate f c).bus = c.bus := rfl
@[simp] theorem setUpdate_well : (setUpdate f c).well = c.well := rfl
@[simp] theorem setUpdate_cap : (setUpdate f c).cap = c.cap := rfl
@[simp] theorem setUpdate_phases : (setUpdate f c).phases = c.phases := rfl
@[simp] theorem setUpdate_rails : (setUpdate f c).rails = c.rails := rfl
@[simp] theorem setUpdate_vcs : (setUpdate f c).vcs = c.vcs := rfl
@[simp] theorem setUpdate_strs : (setUpdate f c).strs = c.strs := rfl
@[simp] theorem setUpdate_ests : (setUpdate f c).ests = c.ests := rfl
@[simp] theorem setUpdate_batt : (setUpdate f c).batt = c.batt := rfl
@[simp] theorem setUpdate_pps : (setUpdate f c).pps = c.pps := rfl
@[simp] theorem setUpdate_wms : (setUpdate f c).wms = c.wms := rfl
@[simp] theorem setUpdate_seq : (setUpdate f c).seq = c.seq := rfl
@[simp] theorem setUpdate_mills : (setUpdate f c).mills = c.mills := rfl
@[simp] theorem setUpdate_market : (setUpdate f c).market = c.market := rfl
@[simp] theorem setUpdate_hampers : (setUpdate f c).hampers = c.hampers := rfl
@[simp] theorem setUpdate_can : (setUpdate f c).can = c.can := rfl
@[simp] theorem setUpdate_tw : (setUpdate f c).tw = c.tw := rfl
@[simp] theorem setUpdate_svc : (setUpdate f c).svc = c.svc := rfl
@[simp] theorem setUpdate_update : (setUpdate f c).update = f c.update := rfl
@[simp] theorem setUpdate_lc : (setUpdate f c).lc = c.lc := rfl
@[simp] theorem setUpdate_lane : (setUpdate f c).lane = c.lane := rfl
@[simp] theorem setUpdate_gw : (setUpdate f c).gw = c.gw := rfl
@[simp] theorem setUpdate_watch : (setUpdate f c).watch = c.watch := rfl
@[simp] theorem setUpdate_reeve : (setUpdate f c).reeve = c.reeve := rfl
@[simp] theorem setUpdate_therm : (setUpdate f c).therm = c.therm := rfl
@[simp] theorem setUpdate_alm : (setUpdate f c).alm = c.alm := rfl
@[simp] theorem setUpdate_twin : (setUpdate f c).twin = c.twin := rfl
@[simp] theorem setUpdate_boot : (setUpdate f c).boot = c.boot := rfl
@[simp] theorem setUpdate_fuses : (setUpdate f c).fuses = c.fuses := rfl
@[simp] theorem setUpdate_nor : (setUpdate f c).nor = c.nor := rfl
@[simp] theorem setUpdate_test : (setUpdate f c).test = c.test := rfl
@[simp] theorem setUpdate_od : (setUpdate f c).od = c.od := rfl
@[simp] theorem setUpdate_fresh : (setUpdate f c).fresh = c.fresh := rfl
end

/-! ### setLc -/

section
variable (f : LcCommand → LcCommand)
@[simp] theorem setLc_clock : (setLc f c).clock = c.clock := rfl
@[simp] theorem setLc_hamlets : (setLc f c).hamlets = c.hamlets := rfl
@[simp] theorem setLc_green : (setLc f c).green = c.green := rfl
@[simp] theorem setLc_chans : (setLc f c).chans = c.chans := rfl
@[simp] theorem setLc_rms : (setLc f c).rms = c.rms := rfl
@[simp] theorem setLc_bus : (setLc f c).bus = c.bus := rfl
@[simp] theorem setLc_well : (setLc f c).well = c.well := rfl
@[simp] theorem setLc_cap : (setLc f c).cap = c.cap := rfl
@[simp] theorem setLc_phases : (setLc f c).phases = c.phases := rfl
@[simp] theorem setLc_rails : (setLc f c).rails = c.rails := rfl
@[simp] theorem setLc_vcs : (setLc f c).vcs = c.vcs := rfl
@[simp] theorem setLc_strs : (setLc f c).strs = c.strs := rfl
@[simp] theorem setLc_ests : (setLc f c).ests = c.ests := rfl
@[simp] theorem setLc_batt : (setLc f c).batt = c.batt := rfl
@[simp] theorem setLc_pps : (setLc f c).pps = c.pps := rfl
@[simp] theorem setLc_wms : (setLc f c).wms = c.wms := rfl
@[simp] theorem setLc_seq : (setLc f c).seq = c.seq := rfl
@[simp] theorem setLc_mills : (setLc f c).mills = c.mills := rfl
@[simp] theorem setLc_market : (setLc f c).market = c.market := rfl
@[simp] theorem setLc_hampers : (setLc f c).hampers = c.hampers := rfl
@[simp] theorem setLc_can : (setLc f c).can = c.can := rfl
@[simp] theorem setLc_tw : (setLc f c).tw = c.tw := rfl
@[simp] theorem setLc_svc : (setLc f c).svc = c.svc := rfl
@[simp] theorem setLc_update : (setLc f c).update = c.update := rfl
@[simp] theorem setLc_lc : (setLc f c).lc = f c.lc := rfl
@[simp] theorem setLc_lane : (setLc f c).lane = c.lane := rfl
@[simp] theorem setLc_gw : (setLc f c).gw = c.gw := rfl
@[simp] theorem setLc_watch : (setLc f c).watch = c.watch := rfl
@[simp] theorem setLc_reeve : (setLc f c).reeve = c.reeve := rfl
@[simp] theorem setLc_therm : (setLc f c).therm = c.therm := rfl
@[simp] theorem setLc_alm : (setLc f c).alm = c.alm := rfl
@[simp] theorem setLc_twin : (setLc f c).twin = c.twin := rfl
@[simp] theorem setLc_boot : (setLc f c).boot = c.boot := rfl
@[simp] theorem setLc_fuses : (setLc f c).fuses = c.fuses := rfl
@[simp] theorem setLc_nor : (setLc f c).nor = c.nor := rfl
@[simp] theorem setLc_test : (setLc f c).test = c.test := rfl
@[simp] theorem setLc_od : (setLc f c).od = c.od := rfl
@[simp] theorem setLc_fresh : (setLc f c).fresh = c.fresh := rfl
end

/-! ### setLane -/

section
variable (f : Lane → Lane)
@[simp] theorem setLane_clock : (setLane f c).clock = c.clock := rfl
@[simp] theorem setLane_hamlets : (setLane f c).hamlets = c.hamlets := rfl
@[simp] theorem setLane_green : (setLane f c).green = c.green := rfl
@[simp] theorem setLane_chans : (setLane f c).chans = c.chans := rfl
@[simp] theorem setLane_rms : (setLane f c).rms = c.rms := rfl
@[simp] theorem setLane_bus : (setLane f c).bus = c.bus := rfl
@[simp] theorem setLane_well : (setLane f c).well = c.well := rfl
@[simp] theorem setLane_cap : (setLane f c).cap = c.cap := rfl
@[simp] theorem setLane_phases : (setLane f c).phases = c.phases := rfl
@[simp] theorem setLane_rails : (setLane f c).rails = c.rails := rfl
@[simp] theorem setLane_vcs : (setLane f c).vcs = c.vcs := rfl
@[simp] theorem setLane_strs : (setLane f c).strs = c.strs := rfl
@[simp] theorem setLane_ests : (setLane f c).ests = c.ests := rfl
@[simp] theorem setLane_batt : (setLane f c).batt = c.batt := rfl
@[simp] theorem setLane_pps : (setLane f c).pps = c.pps := rfl
@[simp] theorem setLane_wms : (setLane f c).wms = c.wms := rfl
@[simp] theorem setLane_seq : (setLane f c).seq = c.seq := rfl
@[simp] theorem setLane_mills : (setLane f c).mills = c.mills := rfl
@[simp] theorem setLane_market : (setLane f c).market = c.market := rfl
@[simp] theorem setLane_hampers : (setLane f c).hampers = c.hampers := rfl
@[simp] theorem setLane_can : (setLane f c).can = c.can := rfl
@[simp] theorem setLane_tw : (setLane f c).tw = c.tw := rfl
@[simp] theorem setLane_svc : (setLane f c).svc = c.svc := rfl
@[simp] theorem setLane_update : (setLane f c).update = c.update := rfl
@[simp] theorem setLane_lc : (setLane f c).lc = c.lc := rfl
@[simp] theorem setLane_lane : (setLane f c).lane = f c.lane := rfl
@[simp] theorem setLane_gw : (setLane f c).gw = c.gw := rfl
@[simp] theorem setLane_watch : (setLane f c).watch = c.watch := rfl
@[simp] theorem setLane_reeve : (setLane f c).reeve = c.reeve := rfl
@[simp] theorem setLane_therm : (setLane f c).therm = c.therm := rfl
@[simp] theorem setLane_alm : (setLane f c).alm = c.alm := rfl
@[simp] theorem setLane_twin : (setLane f c).twin = c.twin := rfl
@[simp] theorem setLane_boot : (setLane f c).boot = c.boot := rfl
@[simp] theorem setLane_fuses : (setLane f c).fuses = c.fuses := rfl
@[simp] theorem setLane_nor : (setLane f c).nor = c.nor := rfl
@[simp] theorem setLane_test : (setLane f c).test = c.test := rfl
@[simp] theorem setLane_od : (setLane f c).od = c.od := rfl
@[simp] theorem setLane_fresh : (setLane f c).fresh = c.fresh := rfl
end

/-! ### setGw -/

section
variable (f : Gateway → Gateway)
@[simp] theorem setGw_clock : (setGw f c).clock = c.clock := rfl
@[simp] theorem setGw_hamlets : (setGw f c).hamlets = c.hamlets := rfl
@[simp] theorem setGw_green : (setGw f c).green = c.green := rfl
@[simp] theorem setGw_chans : (setGw f c).chans = c.chans := rfl
@[simp] theorem setGw_rms : (setGw f c).rms = c.rms := rfl
@[simp] theorem setGw_bus : (setGw f c).bus = c.bus := rfl
@[simp] theorem setGw_well : (setGw f c).well = c.well := rfl
@[simp] theorem setGw_cap : (setGw f c).cap = c.cap := rfl
@[simp] theorem setGw_phases : (setGw f c).phases = c.phases := rfl
@[simp] theorem setGw_rails : (setGw f c).rails = c.rails := rfl
@[simp] theorem setGw_vcs : (setGw f c).vcs = c.vcs := rfl
@[simp] theorem setGw_strs : (setGw f c).strs = c.strs := rfl
@[simp] theorem setGw_ests : (setGw f c).ests = c.ests := rfl
@[simp] theorem setGw_batt : (setGw f c).batt = c.batt := rfl
@[simp] theorem setGw_pps : (setGw f c).pps = c.pps := rfl
@[simp] theorem setGw_wms : (setGw f c).wms = c.wms := rfl
@[simp] theorem setGw_seq : (setGw f c).seq = c.seq := rfl
@[simp] theorem setGw_mills : (setGw f c).mills = c.mills := rfl
@[simp] theorem setGw_market : (setGw f c).market = c.market := rfl
@[simp] theorem setGw_hampers : (setGw f c).hampers = c.hampers := rfl
@[simp] theorem setGw_can : (setGw f c).can = c.can := rfl
@[simp] theorem setGw_tw : (setGw f c).tw = c.tw := rfl
@[simp] theorem setGw_svc : (setGw f c).svc = c.svc := rfl
@[simp] theorem setGw_update : (setGw f c).update = c.update := rfl
@[simp] theorem setGw_lc : (setGw f c).lc = c.lc := rfl
@[simp] theorem setGw_lane : (setGw f c).lane = c.lane := rfl
@[simp] theorem setGw_gw : (setGw f c).gw = f c.gw := rfl
@[simp] theorem setGw_watch : (setGw f c).watch = c.watch := rfl
@[simp] theorem setGw_reeve : (setGw f c).reeve = c.reeve := rfl
@[simp] theorem setGw_therm : (setGw f c).therm = c.therm := rfl
@[simp] theorem setGw_alm : (setGw f c).alm = c.alm := rfl
@[simp] theorem setGw_twin : (setGw f c).twin = c.twin := rfl
@[simp] theorem setGw_boot : (setGw f c).boot = c.boot := rfl
@[simp] theorem setGw_fuses : (setGw f c).fuses = c.fuses := rfl
@[simp] theorem setGw_nor : (setGw f c).nor = c.nor := rfl
@[simp] theorem setGw_test : (setGw f c).test = c.test := rfl
@[simp] theorem setGw_od : (setGw f c).od = c.od := rfl
@[simp] theorem setGw_fresh : (setGw f c).fresh = c.fresh := rfl
end

/-! ### setWatch -/

section
variable (f : Watch → Watch)
@[simp] theorem setWatch_clock : (setWatch f c).clock = c.clock := rfl
@[simp] theorem setWatch_hamlets : (setWatch f c).hamlets = c.hamlets := rfl
@[simp] theorem setWatch_green : (setWatch f c).green = c.green := rfl
@[simp] theorem setWatch_chans : (setWatch f c).chans = c.chans := rfl
@[simp] theorem setWatch_rms : (setWatch f c).rms = c.rms := rfl
@[simp] theorem setWatch_bus : (setWatch f c).bus = c.bus := rfl
@[simp] theorem setWatch_well : (setWatch f c).well = c.well := rfl
@[simp] theorem setWatch_cap : (setWatch f c).cap = c.cap := rfl
@[simp] theorem setWatch_phases : (setWatch f c).phases = c.phases := rfl
@[simp] theorem setWatch_rails : (setWatch f c).rails = c.rails := rfl
@[simp] theorem setWatch_vcs : (setWatch f c).vcs = c.vcs := rfl
@[simp] theorem setWatch_strs : (setWatch f c).strs = c.strs := rfl
@[simp] theorem setWatch_ests : (setWatch f c).ests = c.ests := rfl
@[simp] theorem setWatch_batt : (setWatch f c).batt = c.batt := rfl
@[simp] theorem setWatch_pps : (setWatch f c).pps = c.pps := rfl
@[simp] theorem setWatch_wms : (setWatch f c).wms = c.wms := rfl
@[simp] theorem setWatch_seq : (setWatch f c).seq = c.seq := rfl
@[simp] theorem setWatch_mills : (setWatch f c).mills = c.mills := rfl
@[simp] theorem setWatch_market : (setWatch f c).market = c.market := rfl
@[simp] theorem setWatch_hampers : (setWatch f c).hampers = c.hampers := rfl
@[simp] theorem setWatch_can : (setWatch f c).can = c.can := rfl
@[simp] theorem setWatch_tw : (setWatch f c).tw = c.tw := rfl
@[simp] theorem setWatch_svc : (setWatch f c).svc = c.svc := rfl
@[simp] theorem setWatch_update : (setWatch f c).update = c.update := rfl
@[simp] theorem setWatch_lc : (setWatch f c).lc = c.lc := rfl
@[simp] theorem setWatch_lane : (setWatch f c).lane = c.lane := rfl
@[simp] theorem setWatch_gw : (setWatch f c).gw = c.gw := rfl
@[simp] theorem setWatch_watch : (setWatch f c).watch = f c.watch := rfl
@[simp] theorem setWatch_reeve : (setWatch f c).reeve = c.reeve := rfl
@[simp] theorem setWatch_therm : (setWatch f c).therm = c.therm := rfl
@[simp] theorem setWatch_alm : (setWatch f c).alm = c.alm := rfl
@[simp] theorem setWatch_twin : (setWatch f c).twin = c.twin := rfl
@[simp] theorem setWatch_boot : (setWatch f c).boot = c.boot := rfl
@[simp] theorem setWatch_fuses : (setWatch f c).fuses = c.fuses := rfl
@[simp] theorem setWatch_nor : (setWatch f c).nor = c.nor := rfl
@[simp] theorem setWatch_test : (setWatch f c).test = c.test := rfl
@[simp] theorem setWatch_od : (setWatch f c).od = c.od := rfl
@[simp] theorem setWatch_fresh : (setWatch f c).fresh = c.fresh := rfl
end

/-! ### setReeve -/

section
variable (f : Reeve → Reeve)
@[simp] theorem setReeve_clock : (setReeve f c).clock = c.clock := rfl
@[simp] theorem setReeve_hamlets : (setReeve f c).hamlets = c.hamlets := rfl
@[simp] theorem setReeve_green : (setReeve f c).green = c.green := rfl
@[simp] theorem setReeve_chans : (setReeve f c).chans = c.chans := rfl
@[simp] theorem setReeve_rms : (setReeve f c).rms = c.rms := rfl
@[simp] theorem setReeve_bus : (setReeve f c).bus = c.bus := rfl
@[simp] theorem setReeve_well : (setReeve f c).well = c.well := rfl
@[simp] theorem setReeve_cap : (setReeve f c).cap = c.cap := rfl
@[simp] theorem setReeve_phases : (setReeve f c).phases = c.phases := rfl
@[simp] theorem setReeve_rails : (setReeve f c).rails = c.rails := rfl
@[simp] theorem setReeve_vcs : (setReeve f c).vcs = c.vcs := rfl
@[simp] theorem setReeve_strs : (setReeve f c).strs = c.strs := rfl
@[simp] theorem setReeve_ests : (setReeve f c).ests = c.ests := rfl
@[simp] theorem setReeve_batt : (setReeve f c).batt = c.batt := rfl
@[simp] theorem setReeve_pps : (setReeve f c).pps = c.pps := rfl
@[simp] theorem setReeve_wms : (setReeve f c).wms = c.wms := rfl
@[simp] theorem setReeve_seq : (setReeve f c).seq = c.seq := rfl
@[simp] theorem setReeve_mills : (setReeve f c).mills = c.mills := rfl
@[simp] theorem setReeve_market : (setReeve f c).market = c.market := rfl
@[simp] theorem setReeve_hampers : (setReeve f c).hampers = c.hampers := rfl
@[simp] theorem setReeve_can : (setReeve f c).can = c.can := rfl
@[simp] theorem setReeve_tw : (setReeve f c).tw = c.tw := rfl
@[simp] theorem setReeve_svc : (setReeve f c).svc = c.svc := rfl
@[simp] theorem setReeve_update : (setReeve f c).update = c.update := rfl
@[simp] theorem setReeve_lc : (setReeve f c).lc = c.lc := rfl
@[simp] theorem setReeve_lane : (setReeve f c).lane = c.lane := rfl
@[simp] theorem setReeve_gw : (setReeve f c).gw = c.gw := rfl
@[simp] theorem setReeve_watch : (setReeve f c).watch = c.watch := rfl
@[simp] theorem setReeve_reeve : (setReeve f c).reeve = f c.reeve := rfl
@[simp] theorem setReeve_therm : (setReeve f c).therm = c.therm := rfl
@[simp] theorem setReeve_alm : (setReeve f c).alm = c.alm := rfl
@[simp] theorem setReeve_twin : (setReeve f c).twin = c.twin := rfl
@[simp] theorem setReeve_boot : (setReeve f c).boot = c.boot := rfl
@[simp] theorem setReeve_fuses : (setReeve f c).fuses = c.fuses := rfl
@[simp] theorem setReeve_nor : (setReeve f c).nor = c.nor := rfl
@[simp] theorem setReeve_test : (setReeve f c).test = c.test := rfl
@[simp] theorem setReeve_od : (setReeve f c).od = c.od := rfl
@[simp] theorem setReeve_fresh : (setReeve f c).fresh = c.fresh := rfl
end

/-! ### setTherm -/

section
variable (f : Therm → Therm)
@[simp] theorem setTherm_clock : (setTherm f c).clock = c.clock := rfl
@[simp] theorem setTherm_hamlets : (setTherm f c).hamlets = c.hamlets := rfl
@[simp] theorem setTherm_green : (setTherm f c).green = c.green := rfl
@[simp] theorem setTherm_chans : (setTherm f c).chans = c.chans := rfl
@[simp] theorem setTherm_rms : (setTherm f c).rms = c.rms := rfl
@[simp] theorem setTherm_bus : (setTherm f c).bus = c.bus := rfl
@[simp] theorem setTherm_well : (setTherm f c).well = c.well := rfl
@[simp] theorem setTherm_cap : (setTherm f c).cap = c.cap := rfl
@[simp] theorem setTherm_phases : (setTherm f c).phases = c.phases := rfl
@[simp] theorem setTherm_rails : (setTherm f c).rails = c.rails := rfl
@[simp] theorem setTherm_vcs : (setTherm f c).vcs = c.vcs := rfl
@[simp] theorem setTherm_strs : (setTherm f c).strs = c.strs := rfl
@[simp] theorem setTherm_ests : (setTherm f c).ests = c.ests := rfl
@[simp] theorem setTherm_batt : (setTherm f c).batt = c.batt := rfl
@[simp] theorem setTherm_pps : (setTherm f c).pps = c.pps := rfl
@[simp] theorem setTherm_wms : (setTherm f c).wms = c.wms := rfl
@[simp] theorem setTherm_seq : (setTherm f c).seq = c.seq := rfl
@[simp] theorem setTherm_mills : (setTherm f c).mills = c.mills := rfl
@[simp] theorem setTherm_market : (setTherm f c).market = c.market := rfl
@[simp] theorem setTherm_hampers : (setTherm f c).hampers = c.hampers := rfl
@[simp] theorem setTherm_can : (setTherm f c).can = c.can := rfl
@[simp] theorem setTherm_tw : (setTherm f c).tw = c.tw := rfl
@[simp] theorem setTherm_svc : (setTherm f c).svc = c.svc := rfl
@[simp] theorem setTherm_update : (setTherm f c).update = c.update := rfl
@[simp] theorem setTherm_lc : (setTherm f c).lc = c.lc := rfl
@[simp] theorem setTherm_lane : (setTherm f c).lane = c.lane := rfl
@[simp] theorem setTherm_gw : (setTherm f c).gw = c.gw := rfl
@[simp] theorem setTherm_watch : (setTherm f c).watch = c.watch := rfl
@[simp] theorem setTherm_reeve : (setTherm f c).reeve = c.reeve := rfl
@[simp] theorem setTherm_therm : (setTherm f c).therm = f c.therm := rfl
@[simp] theorem setTherm_alm : (setTherm f c).alm = c.alm := rfl
@[simp] theorem setTherm_twin : (setTherm f c).twin = c.twin := rfl
@[simp] theorem setTherm_boot : (setTherm f c).boot = c.boot := rfl
@[simp] theorem setTherm_fuses : (setTherm f c).fuses = c.fuses := rfl
@[simp] theorem setTherm_nor : (setTherm f c).nor = c.nor := rfl
@[simp] theorem setTherm_test : (setTherm f c).test = c.test := rfl
@[simp] theorem setTherm_od : (setTherm f c).od = c.od := rfl
@[simp] theorem setTherm_fresh : (setTherm f c).fresh = c.fresh := rfl
end

/-! ### setAlm -/

section
variable (f : Alm → Alm)
@[simp] theorem setAlm_clock : (setAlm f c).clock = c.clock := rfl
@[simp] theorem setAlm_hamlets : (setAlm f c).hamlets = c.hamlets := rfl
@[simp] theorem setAlm_green : (setAlm f c).green = c.green := rfl
@[simp] theorem setAlm_chans : (setAlm f c).chans = c.chans := rfl
@[simp] theorem setAlm_rms : (setAlm f c).rms = c.rms := rfl
@[simp] theorem setAlm_bus : (setAlm f c).bus = c.bus := rfl
@[simp] theorem setAlm_well : (setAlm f c).well = c.well := rfl
@[simp] theorem setAlm_cap : (setAlm f c).cap = c.cap := rfl
@[simp] theorem setAlm_phases : (setAlm f c).phases = c.phases := rfl
@[simp] theorem setAlm_rails : (setAlm f c).rails = c.rails := rfl
@[simp] theorem setAlm_vcs : (setAlm f c).vcs = c.vcs := rfl
@[simp] theorem setAlm_strs : (setAlm f c).strs = c.strs := rfl
@[simp] theorem setAlm_ests : (setAlm f c).ests = c.ests := rfl
@[simp] theorem setAlm_batt : (setAlm f c).batt = c.batt := rfl
@[simp] theorem setAlm_pps : (setAlm f c).pps = c.pps := rfl
@[simp] theorem setAlm_wms : (setAlm f c).wms = c.wms := rfl
@[simp] theorem setAlm_seq : (setAlm f c).seq = c.seq := rfl
@[simp] theorem setAlm_mills : (setAlm f c).mills = c.mills := rfl
@[simp] theorem setAlm_market : (setAlm f c).market = c.market := rfl
@[simp] theorem setAlm_hampers : (setAlm f c).hampers = c.hampers := rfl
@[simp] theorem setAlm_can : (setAlm f c).can = c.can := rfl
@[simp] theorem setAlm_tw : (setAlm f c).tw = c.tw := rfl
@[simp] theorem setAlm_svc : (setAlm f c).svc = c.svc := rfl
@[simp] theorem setAlm_update : (setAlm f c).update = c.update := rfl
@[simp] theorem setAlm_lc : (setAlm f c).lc = c.lc := rfl
@[simp] theorem setAlm_lane : (setAlm f c).lane = c.lane := rfl
@[simp] theorem setAlm_gw : (setAlm f c).gw = c.gw := rfl
@[simp] theorem setAlm_watch : (setAlm f c).watch = c.watch := rfl
@[simp] theorem setAlm_reeve : (setAlm f c).reeve = c.reeve := rfl
@[simp] theorem setAlm_therm : (setAlm f c).therm = c.therm := rfl
@[simp] theorem setAlm_alm : (setAlm f c).alm = f c.alm := rfl
@[simp] theorem setAlm_twin : (setAlm f c).twin = c.twin := rfl
@[simp] theorem setAlm_boot : (setAlm f c).boot = c.boot := rfl
@[simp] theorem setAlm_fuses : (setAlm f c).fuses = c.fuses := rfl
@[simp] theorem setAlm_nor : (setAlm f c).nor = c.nor := rfl
@[simp] theorem setAlm_test : (setAlm f c).test = c.test := rfl
@[simp] theorem setAlm_od : (setAlm f c).od = c.od := rfl
@[simp] theorem setAlm_fresh : (setAlm f c).fresh = c.fresh := rfl
end

/-! ### setTwin -/

section
variable (f : Twin → Twin)
@[simp] theorem setTwin_clock : (setTwin f c).clock = c.clock := rfl
@[simp] theorem setTwin_hamlets : (setTwin f c).hamlets = c.hamlets := rfl
@[simp] theorem setTwin_green : (setTwin f c).green = c.green := rfl
@[simp] theorem setTwin_chans : (setTwin f c).chans = c.chans := rfl
@[simp] theorem setTwin_rms : (setTwin f c).rms = c.rms := rfl
@[simp] theorem setTwin_bus : (setTwin f c).bus = c.bus := rfl
@[simp] theorem setTwin_well : (setTwin f c).well = c.well := rfl
@[simp] theorem setTwin_cap : (setTwin f c).cap = c.cap := rfl
@[simp] theorem setTwin_phases : (setTwin f c).phases = c.phases := rfl
@[simp] theorem setTwin_rails : (setTwin f c).rails = c.rails := rfl
@[simp] theorem setTwin_vcs : (setTwin f c).vcs = c.vcs := rfl
@[simp] theorem setTwin_strs : (setTwin f c).strs = c.strs := rfl
@[simp] theorem setTwin_ests : (setTwin f c).ests = c.ests := rfl
@[simp] theorem setTwin_batt : (setTwin f c).batt = c.batt := rfl
@[simp] theorem setTwin_pps : (setTwin f c).pps = c.pps := rfl
@[simp] theorem setTwin_wms : (setTwin f c).wms = c.wms := rfl
@[simp] theorem setTwin_seq : (setTwin f c).seq = c.seq := rfl
@[simp] theorem setTwin_mills : (setTwin f c).mills = c.mills := rfl
@[simp] theorem setTwin_market : (setTwin f c).market = c.market := rfl
@[simp] theorem setTwin_hampers : (setTwin f c).hampers = c.hampers := rfl
@[simp] theorem setTwin_can : (setTwin f c).can = c.can := rfl
@[simp] theorem setTwin_tw : (setTwin f c).tw = c.tw := rfl
@[simp] theorem setTwin_svc : (setTwin f c).svc = c.svc := rfl
@[simp] theorem setTwin_update : (setTwin f c).update = c.update := rfl
@[simp] theorem setTwin_lc : (setTwin f c).lc = c.lc := rfl
@[simp] theorem setTwin_lane : (setTwin f c).lane = c.lane := rfl
@[simp] theorem setTwin_gw : (setTwin f c).gw = c.gw := rfl
@[simp] theorem setTwin_watch : (setTwin f c).watch = c.watch := rfl
@[simp] theorem setTwin_reeve : (setTwin f c).reeve = c.reeve := rfl
@[simp] theorem setTwin_therm : (setTwin f c).therm = c.therm := rfl
@[simp] theorem setTwin_alm : (setTwin f c).alm = c.alm := rfl
@[simp] theorem setTwin_twin : (setTwin f c).twin = f c.twin := rfl
@[simp] theorem setTwin_boot : (setTwin f c).boot = c.boot := rfl
@[simp] theorem setTwin_fuses : (setTwin f c).fuses = c.fuses := rfl
@[simp] theorem setTwin_nor : (setTwin f c).nor = c.nor := rfl
@[simp] theorem setTwin_test : (setTwin f c).test = c.test := rfl
@[simp] theorem setTwin_od : (setTwin f c).od = c.od := rfl
@[simp] theorem setTwin_fresh : (setTwin f c).fresh = c.fresh := rfl
end

/-! ### setBoot -/

section
variable (f : Boot → Boot)
@[simp] theorem setBoot_clock : (setBoot f c).clock = c.clock := rfl
@[simp] theorem setBoot_hamlets : (setBoot f c).hamlets = c.hamlets := rfl
@[simp] theorem setBoot_green : (setBoot f c).green = c.green := rfl
@[simp] theorem setBoot_chans : (setBoot f c).chans = c.chans := rfl
@[simp] theorem setBoot_rms : (setBoot f c).rms = c.rms := rfl
@[simp] theorem setBoot_bus : (setBoot f c).bus = c.bus := rfl
@[simp] theorem setBoot_well : (setBoot f c).well = c.well := rfl
@[simp] theorem setBoot_cap : (setBoot f c).cap = c.cap := rfl
@[simp] theorem setBoot_phases : (setBoot f c).phases = c.phases := rfl
@[simp] theorem setBoot_rails : (setBoot f c).rails = c.rails := rfl
@[simp] theorem setBoot_vcs : (setBoot f c).vcs = c.vcs := rfl
@[simp] theorem setBoot_strs : (setBoot f c).strs = c.strs := rfl
@[simp] theorem setBoot_ests : (setBoot f c).ests = c.ests := rfl
@[simp] theorem setBoot_batt : (setBoot f c).batt = c.batt := rfl
@[simp] theorem setBoot_pps : (setBoot f c).pps = c.pps := rfl
@[simp] theorem setBoot_wms : (setBoot f c).wms = c.wms := rfl
@[simp] theorem setBoot_seq : (setBoot f c).seq = c.seq := rfl
@[simp] theorem setBoot_mills : (setBoot f c).mills = c.mills := rfl
@[simp] theorem setBoot_market : (setBoot f c).market = c.market := rfl
@[simp] theorem setBoot_hampers : (setBoot f c).hampers = c.hampers := rfl
@[simp] theorem setBoot_can : (setBoot f c).can = c.can := rfl
@[simp] theorem setBoot_tw : (setBoot f c).tw = c.tw := rfl
@[simp] theorem setBoot_svc : (setBoot f c).svc = c.svc := rfl
@[simp] theorem setBoot_update : (setBoot f c).update = c.update := rfl
@[simp] theorem setBoot_lc : (setBoot f c).lc = c.lc := rfl
@[simp] theorem setBoot_lane : (setBoot f c).lane = c.lane := rfl
@[simp] theorem setBoot_gw : (setBoot f c).gw = c.gw := rfl
@[simp] theorem setBoot_watch : (setBoot f c).watch = c.watch := rfl
@[simp] theorem setBoot_reeve : (setBoot f c).reeve = c.reeve := rfl
@[simp] theorem setBoot_therm : (setBoot f c).therm = c.therm := rfl
@[simp] theorem setBoot_alm : (setBoot f c).alm = c.alm := rfl
@[simp] theorem setBoot_twin : (setBoot f c).twin = c.twin := rfl
@[simp] theorem setBoot_boot : (setBoot f c).boot = f c.boot := rfl
@[simp] theorem setBoot_fuses : (setBoot f c).fuses = c.fuses := rfl
@[simp] theorem setBoot_nor : (setBoot f c).nor = c.nor := rfl
@[simp] theorem setBoot_test : (setBoot f c).test = c.test := rfl
@[simp] theorem setBoot_od : (setBoot f c).od = c.od := rfl
@[simp] theorem setBoot_fresh : (setBoot f c).fresh = c.fresh := rfl
end

/-! ### setNor -/

section
variable (f : Nor → Nor)
@[simp] theorem setNor_clock : (setNor f c).clock = c.clock := rfl
@[simp] theorem setNor_hamlets : (setNor f c).hamlets = c.hamlets := rfl
@[simp] theorem setNor_green : (setNor f c).green = c.green := rfl
@[simp] theorem setNor_chans : (setNor f c).chans = c.chans := rfl
@[simp] theorem setNor_rms : (setNor f c).rms = c.rms := rfl
@[simp] theorem setNor_bus : (setNor f c).bus = c.bus := rfl
@[simp] theorem setNor_well : (setNor f c).well = c.well := rfl
@[simp] theorem setNor_cap : (setNor f c).cap = c.cap := rfl
@[simp] theorem setNor_phases : (setNor f c).phases = c.phases := rfl
@[simp] theorem setNor_rails : (setNor f c).rails = c.rails := rfl
@[simp] theorem setNor_vcs : (setNor f c).vcs = c.vcs := rfl
@[simp] theorem setNor_strs : (setNor f c).strs = c.strs := rfl
@[simp] theorem setNor_ests : (setNor f c).ests = c.ests := rfl
@[simp] theorem setNor_batt : (setNor f c).batt = c.batt := rfl
@[simp] theorem setNor_pps : (setNor f c).pps = c.pps := rfl
@[simp] theorem setNor_wms : (setNor f c).wms = c.wms := rfl
@[simp] theorem setNor_seq : (setNor f c).seq = c.seq := rfl
@[simp] theorem setNor_mills : (setNor f c).mills = c.mills := rfl
@[simp] theorem setNor_market : (setNor f c).market = c.market := rfl
@[simp] theorem setNor_hampers : (setNor f c).hampers = c.hampers := rfl
@[simp] theorem setNor_can : (setNor f c).can = c.can := rfl
@[simp] theorem setNor_tw : (setNor f c).tw = c.tw := rfl
@[simp] theorem setNor_svc : (setNor f c).svc = c.svc := rfl
@[simp] theorem setNor_update : (setNor f c).update = c.update := rfl
@[simp] theorem setNor_lc : (setNor f c).lc = c.lc := rfl
@[simp] theorem setNor_lane : (setNor f c).lane = c.lane := rfl
@[simp] theorem setNor_gw : (setNor f c).gw = c.gw := rfl
@[simp] theorem setNor_watch : (setNor f c).watch = c.watch := rfl
@[simp] theorem setNor_reeve : (setNor f c).reeve = c.reeve := rfl
@[simp] theorem setNor_therm : (setNor f c).therm = c.therm := rfl
@[simp] theorem setNor_alm : (setNor f c).alm = c.alm := rfl
@[simp] theorem setNor_twin : (setNor f c).twin = c.twin := rfl
@[simp] theorem setNor_boot : (setNor f c).boot = c.boot := rfl
@[simp] theorem setNor_fuses : (setNor f c).fuses = c.fuses := rfl
@[simp] theorem setNor_nor : (setNor f c).nor = f c.nor := rfl
@[simp] theorem setNor_test : (setNor f c).test = c.test := rfl
@[simp] theorem setNor_od : (setNor f c).od = c.od := rfl
@[simp] theorem setNor_fresh : (setNor f c).fresh = c.fresh := rfl
end

/-! ### setSrc -/

section
variable (i : Fin 256) (f : Src → Src)
@[simp] theorem setSrc_clock : (setSrc i f c).clock = c.clock := rfl
@[simp] theorem setSrc_hamlets : (setSrc i f c).hamlets = c.hamlets := rfl
@[simp] theorem setSrc_green : (setSrc i f c).green = c.green := rfl
@[simp] theorem setSrc_chans : (setSrc i f c).chans = c.chans := rfl
@[simp] theorem setSrc_rms : (setSrc i f c).rms = c.rms := rfl
@[simp] theorem setSrc_bus : (setSrc i f c).bus = c.bus := rfl
@[simp] theorem setSrc_well : (setSrc i f c).well = c.well := rfl
@[simp] theorem setSrc_cap : (setSrc i f c).cap = c.cap := rfl
@[simp] theorem setSrc_phases : (setSrc i f c).phases = c.phases := rfl
@[simp] theorem setSrc_rails : (setSrc i f c).rails = c.rails := rfl
@[simp] theorem setSrc_vcs : (setSrc i f c).vcs = c.vcs := rfl
@[simp] theorem setSrc_strs : (setSrc i f c).strs = c.strs := rfl
@[simp] theorem setSrc_ests : (setSrc i f c).ests = c.ests := rfl
@[simp] theorem setSrc_batt : (setSrc i f c).batt = c.batt := rfl
@[simp] theorem setSrc_pps : (setSrc i f c).pps = c.pps := rfl
@[simp] theorem setSrc_wms : (setSrc i f c).wms = c.wms := rfl
@[simp] theorem setSrc_seq : (setSrc i f c).seq = c.seq := rfl
@[simp] theorem setSrc_mills : (setSrc i f c).mills = c.mills := rfl
@[simp] theorem setSrc_market : (setSrc i f c).market = c.market := rfl
@[simp] theorem setSrc_hampers : (setSrc i f c).hampers = c.hampers := rfl
@[simp] theorem setSrc_can : (setSrc i f c).can = c.can := rfl
@[simp] theorem setSrc_tw : (setSrc i f c).tw = c.tw := rfl
@[simp] theorem setSrc_svc : (setSrc i f c).svc = c.svc := rfl
@[simp] theorem setSrc_update : (setSrc i f c).update = c.update := rfl
@[simp] theorem setSrc_lc : (setSrc i f c).lc = c.lc := rfl
@[simp] theorem setSrc_lane : (setSrc i f c).lane = c.lane := rfl
@[simp] theorem setSrc_gw : (setSrc i f c).gw = c.gw := rfl
@[simp] theorem setSrc_reeve : (setSrc i f c).reeve = c.reeve := rfl
@[simp] theorem setSrc_therm : (setSrc i f c).therm = c.therm := rfl
@[simp] theorem setSrc_alm : (setSrc i f c).alm = c.alm := rfl
@[simp] theorem setSrc_twin : (setSrc i f c).twin = c.twin := rfl
@[simp] theorem setSrc_boot : (setSrc i f c).boot = c.boot := rfl
@[simp] theorem setSrc_fuses : (setSrc i f c).fuses = c.fuses := rfl
@[simp] theorem setSrc_nor : (setSrc i f c).nor = c.nor := rfl
@[simp] theorem setSrc_test : (setSrc i f c).test = c.test := rfl
@[simp] theorem setSrc_od : (setSrc i f c).od = c.od := rfl
@[simp] theorem setSrc_fresh : (setSrc i f c).fresh = c.fresh := rfl
end

/-! ### setLine -/

section
variable (i : Fin 2) (f : CanLine → CanLine)
@[simp] theorem setLine_clock : (setLine i f c).clock = c.clock := rfl
@[simp] theorem setLine_hamlets : (setLine i f c).hamlets = c.hamlets := rfl
@[simp] theorem setLine_green : (setLine i f c).green = c.green := rfl
@[simp] theorem setLine_chans : (setLine i f c).chans = c.chans := rfl
@[simp] theorem setLine_rms : (setLine i f c).rms = c.rms := rfl
@[simp] theorem setLine_bus : (setLine i f c).bus = c.bus := rfl
@[simp] theorem setLine_well : (setLine i f c).well = c.well := rfl
@[simp] theorem setLine_cap : (setLine i f c).cap = c.cap := rfl
@[simp] theorem setLine_phases : (setLine i f c).phases = c.phases := rfl
@[simp] theorem setLine_rails : (setLine i f c).rails = c.rails := rfl
@[simp] theorem setLine_vcs : (setLine i f c).vcs = c.vcs := rfl
@[simp] theorem setLine_strs : (setLine i f c).strs = c.strs := rfl
@[simp] theorem setLine_ests : (setLine i f c).ests = c.ests := rfl
@[simp] theorem setLine_batt : (setLine i f c).batt = c.batt := rfl
@[simp] theorem setLine_pps : (setLine i f c).pps = c.pps := rfl
@[simp] theorem setLine_wms : (setLine i f c).wms = c.wms := rfl
@[simp] theorem setLine_seq : (setLine i f c).seq = c.seq := rfl
@[simp] theorem setLine_mills : (setLine i f c).mills = c.mills := rfl
@[simp] theorem setLine_market : (setLine i f c).market = c.market := rfl
@[simp] theorem setLine_hampers : (setLine i f c).hampers = c.hampers := rfl
@[simp] theorem setLine_tw : (setLine i f c).tw = c.tw := rfl
@[simp] theorem setLine_svc : (setLine i f c).svc = c.svc := rfl
@[simp] theorem setLine_update : (setLine i f c).update = c.update := rfl
@[simp] theorem setLine_lc : (setLine i f c).lc = c.lc := rfl
@[simp] theorem setLine_lane : (setLine i f c).lane = c.lane := rfl
@[simp] theorem setLine_gw : (setLine i f c).gw = c.gw := rfl
@[simp] theorem setLine_watch : (setLine i f c).watch = c.watch := rfl
@[simp] theorem setLine_reeve : (setLine i f c).reeve = c.reeve := rfl
@[simp] theorem setLine_therm : (setLine i f c).therm = c.therm := rfl
@[simp] theorem setLine_alm : (setLine i f c).alm = c.alm := rfl
@[simp] theorem setLine_twin : (setLine i f c).twin = c.twin := rfl
@[simp] theorem setLine_boot : (setLine i f c).boot = c.boot := rfl
@[simp] theorem setLine_fuses : (setLine i f c).fuses = c.fuses := rfl
@[simp] theorem setLine_nor : (setLine i f c).nor = c.nor := rfl
@[simp] theorem setLine_test : (setLine i f c).test = c.test := rfl
@[simp] theorem setLine_od : (setLine i f c).od = c.od := rfl
@[simp] theorem setLine_fresh : (setLine i f c).fresh = c.fresh := rfl
end

end Sys2Proof.Machine
end

