-- ==== Sys2Proof/Laws/Ops.lean ====
section
/-! SUPPORT. What the shared operations leave of the chip, field by field. -/

namespace Sys2Proof.Machine

variable (c : Chip)

/-! ### raise -/

section
variable (src code : Nat) (value : Int)
@[simp] theorem raise_clock : (raise src code value c).clock = c.clock := raise_part .clock (by decide) src code value c
@[simp] theorem raise_hamlets : (raise src code value c).hamlets = c.hamlets := raise_part .hamlets (by decide) src code value c
@[simp] theorem raise_green : (raise src code value c).green = c.green := raise_part .green (by decide) src code value c
@[simp] theorem raise_chans : (raise src code value c).chans = c.chans := raise_part .chans (by decide) src code value c
@[simp] theorem raise_rms : (raise src code value c).rms = c.rms := raise_part .rms (by decide) src code value c
@[simp] theorem raise_bus : (raise src code value c).bus = c.bus := raise_part .bus (by decide) src code value c
@[simp] theorem raise_well : (raise src code value c).well = c.well := raise_part .well (by decide) src code value c
@[simp] theorem raise_cap : (raise src code value c).cap = c.cap := raise_part .cap (by decide) src code value c
@[simp] theorem raise_phases : (raise src code value c).phases = c.phases := raise_part .phases (by decide) src code value c
@[simp] theorem raise_rails : (raise src code value c).rails = c.rails := raise_part .rails (by decide) src code value c
@[simp] theorem raise_vcs : (raise src code value c).vcs = c.vcs := raise_part .vcs (by decide) src code value c
@[simp] theorem raise_strs : (raise src code value c).strs = c.strs := raise_part .strs (by decide) src code value c
@[simp] theorem raise_ests : (raise src code value c).ests = c.ests := raise_part .ests (by decide) src code value c
@[simp] theorem raise_batt : (raise src code value c).batt = c.batt := raise_part .batt (by decide) src code value c
@[simp] theorem raise_pps : (raise src code value c).pps = c.pps := raise_part .pps (by decide) src code value c
@[simp] theorem raise_wms : (raise src code value c).wms = c.wms := raise_part .wms (by decide) src code value c
@[simp] theorem raise_seq : (raise src code value c).seq = c.seq := raise_part .seq (by decide) src code value c
@[simp] theorem raise_mills : (raise src code value c).mills = c.mills := raise_part .mills (by decide) src code value c
@[simp] theorem raise_market : (raise src code value c).market = c.market := raise_part .market (by decide) src code value c
@[simp] theorem raise_hampers : (raise src code value c).hampers = c.hampers := raise_part .hampers (by decide) src code value c
@[simp] theorem raise_can : (raise src code value c).can = c.can := raise_part .can (by decide) src code value c
@[simp] theorem raise_tw : (raise src code value c).tw = c.tw := raise_part .tw (by decide) src code value c
@[simp] theorem raise_svc : (raise src code value c).svc = c.svc := raise_part .svc (by decide) src code value c
@[simp] theorem raise_update : (raise src code value c).update = c.update := raise_part .update (by decide) src code value c
@[simp] theorem raise_lc : (raise src code value c).lc = c.lc := raise_part .lc (by decide) src code value c
@[simp] theorem raise_lane : (raise src code value c).lane = c.lane := raise_part .lane (by decide) src code value c
@[simp] theorem raise_gw : (raise src code value c).gw = c.gw := raise_part .gw (by decide) src code value c
@[simp] theorem raise_reeve : (raise src code value c).reeve = c.reeve := raise_part .reeve (by decide) src code value c
@[simp] theorem raise_therm : (raise src code value c).therm = c.therm := raise_part .therm (by decide) src code value c
@[simp] theorem raise_alm : (raise src code value c).alm = c.alm := raise_part .alm (by decide) src code value c
@[simp] theorem raise_twin : (raise src code value c).twin = c.twin := raise_part .twin (by decide) src code value c
@[simp] theorem raise_boot : (raise src code value c).boot = c.boot := raise_part .boot (by decide) src code value c
@[simp] theorem raise_fuses : (raise src code value c).fuses = c.fuses := raise_part .fuses (by decide) src code value c
@[simp] theorem raise_nor : (raise src code value c).nor = c.nor := raise_part .nor (by decide) src code value c
@[simp] theorem raise_test : (raise src code value c).test = c.test := raise_part .test (by decide) src code value c
@[simp] theorem raise_od : (raise src code value c).od = c.od := raise_part .od (by decide) src code value c
@[simp] theorem raise_fresh : (raise src code value c).fresh = c.fresh := raise_part .fresh (by decide) src code value c
end

/-! ### raiseKind -/

section
variable (kind : EventKind) (src code : Nat) (value : Int)
@[simp] theorem raiseKind_clock : (raiseKind kind src code value c).clock = c.clock := raiseKind_part .clock (by decide) kind src code value c
@[simp] theorem raiseKind_hamlets : (raiseKind kind src code value c).hamlets = c.hamlets := raiseKind_part .hamlets (by decide) kind src code value c
@[simp] theorem raiseKind_green : (raiseKind kind src code value c).green = c.green := raiseKind_part .green (by decide) kind src code value c
@[simp] theorem raiseKind_chans : (raiseKind kind src code value c).chans = c.chans := raiseKind_part .chans (by decide) kind src code value c
@[simp] theorem raiseKind_rms : (raiseKind kind src code value c).rms = c.rms := raiseKind_part .rms (by decide) kind src code value c
@[simp] theorem raiseKind_bus : (raiseKind kind src code value c).bus = c.bus := raiseKind_part .bus (by decide) kind src code value c
@[simp] theorem raiseKind_well : (raiseKind kind src code value c).well = c.well := raiseKind_part .well (by decide) kind src code value c
@[simp] theorem raiseKind_cap : (raiseKind kind src code value c).cap = c.cap := raiseKind_part .cap (by decide) kind src code value c
@[simp] theorem raiseKind_phases : (raiseKind kind src code value c).phases = c.phases := raiseKind_part .phases (by decide) kind src code value c
@[simp] theorem raiseKind_rails : (raiseKind kind src code value c).rails = c.rails := raiseKind_part .rails (by decide) kind src code value c
@[simp] theorem raiseKind_vcs : (raiseKind kind src code value c).vcs = c.vcs := raiseKind_part .vcs (by decide) kind src code value c
@[simp] theorem raiseKind_strs : (raiseKind kind src code value c).strs = c.strs := raiseKind_part .strs (by decide) kind src code value c
@[simp] theorem raiseKind_ests : (raiseKind kind src code value c).ests = c.ests := raiseKind_part .ests (by decide) kind src code value c
@[simp] theorem raiseKind_batt : (raiseKind kind src code value c).batt = c.batt := raiseKind_part .batt (by decide) kind src code value c
@[simp] theorem raiseKind_pps : (raiseKind kind src code value c).pps = c.pps := raiseKind_part .pps (by decide) kind src code value c
@[simp] theorem raiseKind_wms : (raiseKind kind src code value c).wms = c.wms := raiseKind_part .wms (by decide) kind src code value c
@[simp] theorem raiseKind_seq : (raiseKind kind src code value c).seq = c.seq := raiseKind_part .seq (by decide) kind src code value c
@[simp] theorem raiseKind_mills : (raiseKind kind src code value c).mills = c.mills := raiseKind_part .mills (by decide) kind src code value c
@[simp] theorem raiseKind_market : (raiseKind kind src code value c).market = c.market := raiseKind_part .market (by decide) kind src code value c
@[simp] theorem raiseKind_hampers : (raiseKind kind src code value c).hampers = c.hampers := raiseKind_part .hampers (by decide) kind src code value c
@[simp] theorem raiseKind_can : (raiseKind kind src code value c).can = c.can := raiseKind_part .can (by decide) kind src code value c
@[simp] theorem raiseKind_tw : (raiseKind kind src code value c).tw = c.tw := raiseKind_part .tw (by decide) kind src code value c
@[simp] theorem raiseKind_svc : (raiseKind kind src code value c).svc = c.svc := raiseKind_part .svc (by decide) kind src code value c
@[simp] theorem raiseKind_update : (raiseKind kind src code value c).update = c.update := raiseKind_part .update (by decide) kind src code value c
@[simp] theorem raiseKind_lc : (raiseKind kind src code value c).lc = c.lc := raiseKind_part .lc (by decide) kind src code value c
@[simp] theorem raiseKind_lane : (raiseKind kind src code value c).lane = c.lane := raiseKind_part .lane (by decide) kind src code value c
@[simp] theorem raiseKind_gw : (raiseKind kind src code value c).gw = c.gw := raiseKind_part .gw (by decide) kind src code value c
@[simp] theorem raiseKind_reeve : (raiseKind kind src code value c).reeve = c.reeve := raiseKind_part .reeve (by decide) kind src code value c
@[simp] theorem raiseKind_therm : (raiseKind kind src code value c).therm = c.therm := raiseKind_part .therm (by decide) kind src code value c
@[simp] theorem raiseKind_alm : (raiseKind kind src code value c).alm = c.alm := raiseKind_part .alm (by decide) kind src code value c
@[simp] theorem raiseKind_twin : (raiseKind kind src code value c).twin = c.twin := raiseKind_part .twin (by decide) kind src code value c
@[simp] theorem raiseKind_boot : (raiseKind kind src code value c).boot = c.boot := raiseKind_part .boot (by decide) kind src code value c
@[simp] theorem raiseKind_fuses : (raiseKind kind src code value c).fuses = c.fuses := raiseKind_part .fuses (by decide) kind src code value c
@[simp] theorem raiseKind_nor : (raiseKind kind src code value c).nor = c.nor := raiseKind_part .nor (by decide) kind src code value c
@[simp] theorem raiseKind_test : (raiseKind kind src code value c).test = c.test := raiseKind_part .test (by decide) kind src code value c
@[simp] theorem raiseKind_od : (raiseKind kind src code value c).od = c.od := raiseKind_part .od (by decide) kind src code value c
@[simp] theorem raiseKind_fresh : (raiseKind kind src code value c).fresh = c.fresh := raiseKind_part .fresh (by decide) kind src code value c
end

/-! ### log -/

section
variable (code src : Nat) (severity : Fin 4) (value : Int) (entries : List Nat)
@[simp] theorem log_clock : (log code src severity value entries c).clock = c.clock := log_part .clock (by decide) code src severity value entries c
@[simp] theorem log_hamlets : (log code src severity value entries c).hamlets = c.hamlets := log_part .hamlets (by decide) code src severity value entries c
@[simp] theorem log_green : (log code src severity value entries c).green = c.green := log_part .green (by decide) code src severity value entries c
@[simp] theorem log_chans : (log code src severity value entries c).chans = c.chans := log_part .chans (by decide) code src severity value entries c
@[simp] theorem log_rms : (log code src severity value entries c).rms = c.rms := log_part .rms (by decide) code src severity value entries c
@[simp] theorem log_bus : (log code src severity value entries c).bus = c.bus := log_part .bus (by decide) code src severity value entries c
@[simp] theorem log_well : (log code src severity value entries c).well = c.well := log_part .well (by decide) code src severity value entries c
@[simp] theorem log_cap : (log code src severity value entries c).cap = c.cap := log_part .cap (by decide) code src severity value entries c
@[simp] theorem log_phases : (log code src severity value entries c).phases = c.phases := log_part .phases (by decide) code src severity value entries c
@[simp] theorem log_rails : (log code src severity value entries c).rails = c.rails := log_part .rails (by decide) code src severity value entries c
@[simp] theorem log_vcs : (log code src severity value entries c).vcs = c.vcs := log_part .vcs (by decide) code src severity value entries c
@[simp] theorem log_strs : (log code src severity value entries c).strs = c.strs := log_part .strs (by decide) code src severity value entries c
@[simp] theorem log_ests : (log code src severity value entries c).ests = c.ests := log_part .ests (by decide) code src severity value entries c
@[simp] theorem log_batt : (log code src severity value entries c).batt = c.batt := log_part .batt (by decide) code src severity value entries c
@[simp] theorem log_pps : (log code src severity value entries c).pps = c.pps := log_part .pps (by decide) code src severity value entries c
@[simp] theorem log_wms : (log code src severity value entries c).wms = c.wms := log_part .wms (by decide) code src severity value entries c
@[simp] theorem log_seq : (log code src severity value entries c).seq = c.seq := log_part .seq (by decide) code src severity value entries c
@[simp] theorem log_mills : (log code src severity value entries c).mills = c.mills := log_part .mills (by decide) code src severity value entries c
@[simp] theorem log_market : (log code src severity value entries c).market = c.market := log_part .market (by decide) code src severity value entries c
@[simp] theorem log_hampers : (log code src severity value entries c).hampers = c.hampers := log_part .hampers (by decide) code src severity value entries c
@[simp] theorem log_can : (log code src severity value entries c).can = c.can := log_part .can (by decide) code src severity value entries c
@[simp] theorem log_tw : (log code src severity value entries c).tw = c.tw := log_part .tw (by decide) code src severity value entries c
@[simp] theorem log_svc : (log code src severity value entries c).svc = c.svc := log_part .svc (by decide) code src severity value entries c
@[simp] theorem log_update : (log code src severity value entries c).update = c.update := log_part .update (by decide) code src severity value entries c
@[simp] theorem log_lc : (log code src severity value entries c).lc = c.lc := log_part .lc (by decide) code src severity value entries c
@[simp] theorem log_lane : (log code src severity value entries c).lane = c.lane := log_part .lane (by decide) code src severity value entries c
@[simp] theorem log_gw : (log code src severity value entries c).gw = c.gw := log_part .gw (by decide) code src severity value entries c
@[simp] theorem log_watch : (log code src severity value entries c).watch = c.watch := log_part .watch (by decide) code src severity value entries c
@[simp] theorem log_reeve : (log code src severity value entries c).reeve = c.reeve := log_part .reeve (by decide) code src severity value entries c
@[simp] theorem log_therm : (log code src severity value entries c).therm = c.therm := log_part .therm (by decide) code src severity value entries c
@[simp] theorem log_twin : (log code src severity value entries c).twin = c.twin := log_part .twin (by decide) code src severity value entries c
@[simp] theorem log_boot : (log code src severity value entries c).boot = c.boot := log_part .boot (by decide) code src severity value entries c
@[simp] theorem log_fuses : (log code src severity value entries c).fuses = c.fuses := log_part .fuses (by decide) code src severity value entries c
@[simp] theorem log_nor : (log code src severity value entries c).nor = c.nor := log_part .nor (by decide) code src severity value entries c
@[simp] theorem log_test : (log code src severity value entries c).test = c.test := log_part .test (by decide) code src severity value entries c
@[simp] theorem log_od : (log code src severity value entries c).od = c.od := log_part .od (by decide) code src severity value entries c
@[simp] theorem log_fresh : (log code src severity value entries c).fresh = c.fresh := log_part .fresh (by decide) code src severity value entries c
end

/-! ### logRaise -/

section
variable (code src : Nat) (severity : Fin 4) (value : Int) (entries : List Nat)
@[simp] theorem logRaise_clock : (logRaise code src severity value entries c).clock = c.clock := logRaise_part .clock (by decide) (by decide) code src severity value entries c
@[simp] theorem logRaise_hamlets : (logRaise code src severity value entries c).hamlets = c.hamlets := logRaise_part .hamlets (by decide) (by decide) code src severity value entries c
@[simp] theorem logRaise_green : (logRaise code src severity value entries c).green = c.green := logRaise_part .green (by decide) (by decide) code src severity value entries c
@[simp] theorem logRaise_chans : (logRaise code src severity value entries c).chans = c.chans := logRaise_part .chans (by decide) (by decide) code src severity value entries c
@[simp] theorem logRaise_rms : (logRaise code src severity value entries c).rms = c.rms := logRaise_part .rms (by decide) (by decide) code src severity value entries c
@[simp] theorem logRaise_bus : (logRaise code src severity value entries c).bus = c.bus := logRaise_part .bus (by decide) (by decide) code src severity value entries c
@[simp] theorem logRaise_well : (logRaise code src severity value entries c).well = c.well := logRaise_part .well (by decide) (by decide) code src severity value entries c
@[simp] theorem logRaise_cap : (logRaise code src severity value entries c).cap = c.cap := logRaise_part .cap (by decide) (by decide) code src severity value entries c
@[simp] theorem logRaise_phases : (logRaise code src severity value entries c).phases = c.phases := logRaise_part .phases (by decide) (by decide) code src severity value entries c
@[simp] theorem logRaise_rails : (logRaise code src severity value entries c).rails = c.rails := logRaise_part .rails (by decide) (by decide) code src severity value entries c
@[simp] theorem logRaise_vcs : (logRaise code src severity value entries c).vcs = c.vcs := logRaise_part .vcs (by decide) (by decide) code src severity value entries c
@[simp] theorem logRaise_strs : (logRaise code src severity value entries c).strs = c.strs := logRaise_part .strs (by decide) (by decide) code src severity value entries c
@[simp] theorem logRaise_ests : (logRaise code src severity value entries c).ests = c.ests := logRaise_part .ests (by decide) (by decide) code src severity value entries c
@[simp] theorem logRaise_batt : (logRaise code src severity value entries c).batt = c.batt := logRaise_part .batt (by decide) (by decide) code src severity value entries c
@[simp] theorem logRaise_pps : (logRaise code src severity value entries c).pps = c.pps := logRaise_part .pps (by decide) (by decide) code src severity value entries c
@[simp] theorem logRaise_wms : (logRaise code src severity value entries c).wms = c.wms := logRaise_part .wms (by decide) (by decide) code src severity value entries c
@[simp] theorem logRaise_seq : (logRaise code src severity value entries c).seq = c.seq := logRaise_part .seq (by decide) (by decide) code src severity value entries c
@[simp] theorem logRaise_mills : (logRaise code src severity value entries c).mills = c.mills := logRaise_part .mills (by decide) (by decide) code src severity value entries c
@[simp] theorem logRaise_market : (logRaise code src severity value entries c).market = c.market := logRaise_part .market (by decide) (by decide) code src severity value entries c
@[simp] theorem logRaise_hampers : (logRaise code src severity value entries c).hampers = c.hampers := logRaise_part .hampers (by decide) (by decide) code src severity value entries c
@[simp] theorem logRaise_can : (logRaise code src severity value entries c).can = c.can := logRaise_part .can (by decide) (by decide) code src severity value entries c
@[simp] theorem logRaise_tw : (logRaise code src severity value entries c).tw = c.tw := logRaise_part .tw (by decide) (by decide) code src severity value entries c
@[simp] theorem logRaise_svc : (logRaise code src severity value entries c).svc = c.svc := logRaise_part .svc (by decide) (by decide) code src severity value entries c
@[simp] theorem logRaise_update : (logRaise code src severity value entries c).update = c.update := logRaise_part .update (by decide) (by decide) code src severity value entries c
@[simp] theorem logRaise_lc : (logRaise code src severity value entries c).lc = c.lc := logRaise_part .lc (by decide) (by decide) code src severity value entries c
@[simp] theorem logRaise_lane : (logRaise code src severity value entries c).lane = c.lane := logRaise_part .lane (by decide) (by decide) code src severity value entries c
@[simp] theorem logRaise_gw : (logRaise code src severity value entries c).gw = c.gw := logRaise_part .gw (by decide) (by decide) code src severity value entries c
@[simp] theorem logRaise_reeve : (logRaise code src severity value entries c).reeve = c.reeve := logRaise_part .reeve (by decide) (by decide) code src severity value entries c
@[simp] theorem logRaise_therm : (logRaise code src severity value entries c).therm = c.therm := logRaise_part .therm (by decide) (by decide) code src severity value entries c
@[simp] theorem logRaise_twin : (logRaise code src severity value entries c).twin = c.twin := logRaise_part .twin (by decide) (by decide) code src severity value entries c
@[simp] theorem logRaise_boot : (logRaise code src severity value entries c).boot = c.boot := logRaise_part .boot (by decide) (by decide) code src severity value entries c
@[simp] theorem logRaise_fuses : (logRaise code src severity value entries c).fuses = c.fuses := logRaise_part .fuses (by decide) (by decide) code src severity value entries c
@[simp] theorem logRaise_nor : (logRaise code src severity value entries c).nor = c.nor := logRaise_part .nor (by decide) (by decide) code src severity value entries c
@[simp] theorem logRaise_test : (logRaise code src severity value entries c).test = c.test := logRaise_part .test (by decide) (by decide) code src severity value entries c
@[simp] theorem logRaise_od : (logRaise code src severity value entries c).od = c.od := logRaise_part .od (by decide) (by decide) code src severity value entries c
@[simp] theorem logRaise_fresh : (logRaise code src severity value entries c).fresh = c.fresh := logRaise_part .fresh (by decide) (by decide) code src severity value entries c
end

/-! ### accept -/

section
variable (r : Record)
@[simp] theorem accept_clock : (accept r c).clock = c.clock := accept_part .clock (by decide) r c
@[simp] theorem accept_hamlets : (accept r c).hamlets = c.hamlets := accept_part .hamlets (by decide) r c
@[simp] theorem accept_green : (accept r c).green = c.green := accept_part .green (by decide) r c
@[simp] theorem accept_chans : (accept r c).chans = c.chans := accept_part .chans (by decide) r c
@[simp] theorem accept_rms : (accept r c).rms = c.rms := accept_part .rms (by decide) r c
@[simp] theorem accept_bus : (accept r c).bus = c.bus := accept_part .bus (by decide) r c
@[simp] theorem accept_well : (accept r c).well = c.well := accept_part .well (by decide) r c
@[simp] theorem accept_cap : (accept r c).cap = c.cap := accept_part .cap (by decide) r c
@[simp] theorem accept_phases : (accept r c).phases = c.phases := accept_part .phases (by decide) r c
@[simp] theorem accept_rails : (accept r c).rails = c.rails := accept_part .rails (by decide) r c
@[simp] theorem accept_vcs : (accept r c).vcs = c.vcs := accept_part .vcs (by decide) r c
@[simp] theorem accept_strs : (accept r c).strs = c.strs := accept_part .strs (by decide) r c
@[simp] theorem accept_ests : (accept r c).ests = c.ests := accept_part .ests (by decide) r c
@[simp] theorem accept_batt : (accept r c).batt = c.batt := accept_part .batt (by decide) r c
@[simp] theorem accept_pps : (accept r c).pps = c.pps := accept_part .pps (by decide) r c
@[simp] theorem accept_wms : (accept r c).wms = c.wms := accept_part .wms (by decide) r c
@[simp] theorem accept_seq : (accept r c).seq = c.seq := accept_part .seq (by decide) r c
@[simp] theorem accept_mills : (accept r c).mills = c.mills := accept_part .mills (by decide) r c
@[simp] theorem accept_market : (accept r c).market = c.market := accept_part .market (by decide) r c
@[simp] theorem accept_hampers : (accept r c).hampers = c.hampers := accept_part .hampers (by decide) r c
@[simp] theorem accept_can : (accept r c).can = c.can := accept_part .can (by decide) r c
@[simp] theorem accept_tw : (accept r c).tw = c.tw := accept_part .tw (by decide) r c
@[simp] theorem accept_svc : (accept r c).svc = c.svc := accept_part .svc (by decide) r c
@[simp] theorem accept_update : (accept r c).update = c.update := accept_part .update (by decide) r c
@[simp] theorem accept_lc : (accept r c).lc = c.lc := accept_part .lc (by decide) r c
@[simp] theorem accept_lane : (accept r c).lane = c.lane := accept_part .lane (by decide) r c
@[simp] theorem accept_gw : (accept r c).gw = c.gw := accept_part .gw (by decide) r c
@[simp] theorem accept_watch : (accept r c).watch = c.watch := accept_part .watch (by decide) r c
@[simp] theorem accept_reeve : (accept r c).reeve = c.reeve := accept_part .reeve (by decide) r c
@[simp] theorem accept_therm : (accept r c).therm = c.therm := accept_part .therm (by decide) r c
@[simp] theorem accept_twin : (accept r c).twin = c.twin := accept_part .twin (by decide) r c
@[simp] theorem accept_boot : (accept r c).boot = c.boot := accept_part .boot (by decide) r c
@[simp] theorem accept_fuses : (accept r c).fuses = c.fuses := accept_part .fuses (by decide) r c
@[simp] theorem accept_nor : (accept r c).nor = c.nor := accept_part .nor (by decide) r c
@[simp] theorem accept_test : (accept r c).test = c.test := accept_part .test (by decide) r c
@[simp] theorem accept_od : (accept r c).od = c.od := accept_part .od (by decide) r c
@[simp] theorem accept_fresh : (accept r c).fresh = c.fresh := accept_part .fresh (by decide) r c
end

/-! ### put -/

section
variable (k : Key) (v : Val)
@[simp] theorem put_clock : (put k v c).clock = c.clock := put_part .clock (by decide) k v c
@[simp] theorem put_hamlets : (put k v c).hamlets = c.hamlets := put_part .hamlets (by decide) k v c
@[simp] theorem put_green : (put k v c).green = c.green := put_part .green (by decide) k v c
@[simp] theorem put_chans : (put k v c).chans = c.chans := put_part .chans (by decide) k v c
@[simp] theorem put_rms : (put k v c).rms = c.rms := put_part .rms (by decide) k v c
@[simp] theorem put_bus : (put k v c).bus = c.bus := put_part .bus (by decide) k v c
@[simp] theorem put_well : (put k v c).well = c.well := put_part .well (by decide) k v c
@[simp] theorem put_cap : (put k v c).cap = c.cap := put_part .cap (by decide) k v c
@[simp] theorem put_phases : (put k v c).phases = c.phases := put_part .phases (by decide) k v c
@[simp] theorem put_rails : (put k v c).rails = c.rails := put_part .rails (by decide) k v c
@[simp] theorem put_vcs : (put k v c).vcs = c.vcs := put_part .vcs (by decide) k v c
@[simp] theorem put_strs : (put k v c).strs = c.strs := put_part .strs (by decide) k v c
@[simp] theorem put_ests : (put k v c).ests = c.ests := put_part .ests (by decide) k v c
@[simp] theorem put_batt : (put k v c).batt = c.batt := put_part .batt (by decide) k v c
@[simp] theorem put_pps : (put k v c).pps = c.pps := put_part .pps (by decide) k v c
@[simp] theorem put_wms : (put k v c).wms = c.wms := put_part .wms (by decide) k v c
@[simp] theorem put_seq : (put k v c).seq = c.seq := put_part .seq (by decide) k v c
@[simp] theorem put_mills : (put k v c).mills = c.mills := put_part .mills (by decide) k v c
@[simp] theorem put_market : (put k v c).market = c.market := put_part .market (by decide) k v c
@[simp] theorem put_hampers : (put k v c).hampers = c.hampers := put_part .hampers (by decide) k v c
@[simp] theorem put_can : (put k v c).can = c.can := put_part .can (by decide) k v c
@[simp] theorem put_tw : (put k v c).tw = c.tw := put_part .tw (by decide) k v c
@[simp] theorem put_svc : (put k v c).svc = c.svc := put_part .svc (by decide) k v c
@[simp] theorem put_update : (put k v c).update = c.update := put_part .update (by decide) k v c
@[simp] theorem put_lc : (put k v c).lc = c.lc := put_part .lc (by decide) k v c
@[simp] theorem put_lane : (put k v c).lane = c.lane := put_part .lane (by decide) k v c
@[simp] theorem put_gw : (put k v c).gw = c.gw := put_part .gw (by decide) k v c
@[simp] theorem put_watch : (put k v c).watch = c.watch := put_part .watch (by decide) k v c
@[simp] theorem put_reeve : (put k v c).reeve = c.reeve := put_part .reeve (by decide) k v c
@[simp] theorem put_therm : (put k v c).therm = c.therm := put_part .therm (by decide) k v c
@[simp] theorem put_alm : (put k v c).alm = c.alm := put_part .alm (by decide) k v c
@[simp] theorem put_twin : (put k v c).twin = c.twin := put_part .twin (by decide) k v c
@[simp] theorem put_boot : (put k v c).boot = c.boot := put_part .boot (by decide) k v c
@[simp] theorem put_fuses : (put k v c).fuses = c.fuses := put_part .fuses (by decide) k v c
@[simp] theorem put_nor : (put k v c).nor = c.nor := put_part .nor (by decide) k v c
@[simp] theorem put_test : (put k v c).test = c.test := put_part .test (by decide) k v c
@[simp] theorem put_fresh : (put k v c).fresh = c.fresh := put_part .fresh (by decide) k v c
end

/-! ### publish -/

section
variable (ch : Nat) (w : Word)
@[simp] theorem publish_clock : (publish ch w c).clock = c.clock := publish_part .clock (by decide) ch w c
@[simp] theorem publish_hamlets : (publish ch w c).hamlets = c.hamlets := publish_part .hamlets (by decide) ch w c
@[simp] theorem publish_green : (publish ch w c).green = c.green := publish_part .green (by decide) ch w c
@[simp] theorem publish_rms : (publish ch w c).rms = c.rms := publish_part .rms (by decide) ch w c
@[simp] theorem publish_bus : (publish ch w c).bus = c.bus := publish_part .bus (by decide) ch w c
@[simp] theorem publish_well : (publish ch w c).well = c.well := publish_part .well (by decide) ch w c
@[simp] theorem publish_cap : (publish ch w c).cap = c.cap := publish_part .cap (by decide) ch w c
@[simp] theorem publish_phases : (publish ch w c).phases = c.phases := publish_part .phases (by decide) ch w c
@[simp] theorem publish_rails : (publish ch w c).rails = c.rails := publish_part .rails (by decide) ch w c
@[simp] theorem publish_vcs : (publish ch w c).vcs = c.vcs := publish_part .vcs (by decide) ch w c
@[simp] theorem publish_strs : (publish ch w c).strs = c.strs := publish_part .strs (by decide) ch w c
@[simp] theorem publish_ests : (publish ch w c).ests = c.ests := publish_part .ests (by decide) ch w c
@[simp] theorem publish_batt : (publish ch w c).batt = c.batt := publish_part .batt (by decide) ch w c
@[simp] theorem publish_pps : (publish ch w c).pps = c.pps := publish_part .pps (by decide) ch w c
@[simp] theorem publish_wms : (publish ch w c).wms = c.wms := publish_part .wms (by decide) ch w c
@[simp] theorem publish_seq : (publish ch w c).seq = c.seq := publish_part .seq (by decide) ch w c
@[simp] theorem publish_mills : (publish ch w c).mills = c.mills := publish_part .mills (by decide) ch w c
@[simp] theorem publish_market : (publish ch w c).market = c.market := publish_part .market (by decide) ch w c
@[simp] theorem publish_hampers : (publish ch w c).hampers = c.hampers := publish_part .hampers (by decide) ch w c
@[simp] theorem publish_can : (publish ch w c).can = c.can := publish_part .can (by decide) ch w c
@[simp] theorem publish_tw : (publish ch w c).tw = c.tw := publish_part .tw (by decide) ch w c
@[simp] theorem publish_svc : (publish ch w c).svc = c.svc := publish_part .svc (by decide) ch w c
@[simp] theorem publish_update : (publish ch w c).update = c.update := publish_part .update (by decide) ch w c
@[simp] theorem publish_lc : (publish ch w c).lc = c.lc := publish_part .lc (by decide) ch w c
@[simp] theorem publish_lane : (publish ch w c).lane = c.lane := publish_part .lane (by decide) ch w c
@[simp] theorem publish_gw : (publish ch w c).gw = c.gw := publish_part .gw (by decide) ch w c
@[simp] theorem publish_watch : (publish ch w c).watch = c.watch := publish_part .watch (by decide) ch w c
@[simp] theorem publish_reeve : (publish ch w c).reeve = c.reeve := publish_part .reeve (by decide) ch w c
@[simp] theorem publish_therm : (publish ch w c).therm = c.therm := publish_part .therm (by decide) ch w c
@[simp] theorem publish_alm : (publish ch w c).alm = c.alm := publish_part .alm (by decide) ch w c
@[simp] theorem publish_twin : (publish ch w c).twin = c.twin := publish_part .twin (by decide) ch w c
@[simp] theorem publish_boot : (publish ch w c).boot = c.boot := publish_part .boot (by decide) ch w c
@[simp] theorem publish_fuses : (publish ch w c).fuses = c.fuses := publish_part .fuses (by decide) ch w c
@[simp] theorem publish_nor : (publish ch w c).nor = c.nor := publish_part .nor (by decide) ch w c
@[simp] theorem publish_test : (publish ch w c).test = c.test := publish_part .test (by decide) ch w c
@[simp] theorem publish_od : (publish ch w c).od = c.od := publish_part .od (by decide) ch w c
@[simp] theorem publish_fresh : (publish ch w c).fresh = c.fresh := publish_part .fresh (by decide) ch w c
end

/-! ### complete -/

section
variable (q : Req) (st : Status) (v : List Byte)
@[simp] theorem complete_clock : (complete q st v c).clock = c.clock := complete_part .clock (by decide) (by decide) (by decide) (by decide) (by decide) (by decide) q st v c
@[simp] theorem complete_green : (complete q st v c).green = c.green := complete_part .green (by decide) (by decide) (by decide) (by decide) (by decide) (by decide) q st v c
@[simp] theorem complete_chans : (complete q st v c).chans = c.chans := complete_part .chans (by decide) (by decide) (by decide) (by decide) (by decide) (by decide) q st v c
@[simp] theorem complete_rms : (complete q st v c).rms = c.rms := complete_part .rms (by decide) (by decide) (by decide) (by decide) (by decide) (by decide) q st v c
@[simp] theorem complete_bus : (complete q st v c).bus = c.bus := complete_part .bus (by decide) (by decide) (by decide) (by decide) (by decide) (by decide) q st v c
@[simp] theorem complete_well : (complete q st v c).well = c.well := complete_part .well (by decide) (by decide) (by decide) (by decide) (by decide) (by decide) q st v c
@[simp] theorem complete_cap : (complete q st v c).cap = c.cap := complete_part .cap (by decide) (by decide) (by decide) (by decide) (by decide) (by decide) q st v c
@[simp] theorem complete_phases : (complete q st v c).phases = c.phases := complete_part .phases (by decide) (by decide) (by decide) (by decide) (by decide) (by decide) q st v c
@[simp] theorem complete_rails : (complete q st v c).rails = c.rails := complete_part .rails (by decide) (by decide) (by decide) (by decide) (by decide) (by decide) q st v c
@[simp] theorem complete_vcs : (complete q st v c).vcs = c.vcs := complete_part .vcs (by decide) (by decide) (by decide) (by decide) (by decide) (by decide) q st v c
@[simp] theorem complete_strs : (complete q st v c).strs = c.strs := complete_part .strs (by decide) (by decide) (by decide) (by decide) (by decide) (by decide) q st v c
@[simp] theorem complete_ests : (complete q st v c).ests = c.ests := complete_part .ests (by decide) (by decide) (by decide) (by decide) (by decide) (by decide) q st v c
@[simp] theorem complete_batt : (complete q st v c).batt = c.batt := complete_part .batt (by decide) (by decide) (by decide) (by decide) (by decide) (by decide) q st v c
@[simp] theorem complete_pps : (complete q st v c).pps = c.pps := complete_part .pps (by decide) (by decide) (by decide) (by decide) (by decide) (by decide) q st v c
@[simp] theorem complete_wms : (complete q st v c).wms = c.wms := complete_part .wms (by decide) (by decide) (by decide) (by decide) (by decide) (by decide) q st v c
@[simp] theorem complete_seq : (complete q st v c).seq = c.seq := complete_part .seq (by decide) (by decide) (by decide) (by decide) (by decide) (by decide) q st v c
@[simp] theorem complete_mills : (complete q st v c).mills = c.mills := complete_part .mills (by decide) (by decide) (by decide) (by decide) (by decide) (by decide) q st v c
@[simp] theorem complete_hampers : (complete q st v c).hampers = c.hampers := complete_part .hampers (by decide) (by decide) (by decide) (by decide) (by decide) (by decide) q st v c
@[simp] theorem complete_update : (complete q st v c).update = c.update := complete_part .update (by decide) (by decide) (by decide) (by decide) (by decide) (by decide) q st v c
@[simp] theorem complete_lc : (complete q st v c).lc = c.lc := complete_part .lc (by decide) (by decide) (by decide) (by decide) (by decide) (by decide) q st v c
@[simp] theorem complete_gw : (complete q st v c).gw = c.gw := complete_part .gw (by decide) (by decide) (by decide) (by decide) (by decide) (by decide) q st v c
@[simp] theorem complete_watch : (complete q st v c).watch = c.watch := complete_part .watch (by decide) (by decide) (by decide) (by decide) (by decide) (by decide) q st v c
@[simp] theorem complete_reeve : (complete q st v c).reeve = c.reeve := complete_part .reeve (by decide) (by decide) (by decide) (by decide) (by decide) (by decide) q st v c
@[simp] theorem complete_therm : (complete q st v c).therm = c.therm := complete_part .therm (by decide) (by decide) (by decide) (by decide) (by decide) (by decide) q st v c
@[simp] theorem complete_alm : (complete q st v c).alm = c.alm := complete_part .alm (by decide) (by decide) (by decide) (by decide) (by decide) (by decide) q st v c
@[simp] theorem complete_twin : (complete q st v c).twin = c.twin := complete_part .twin (by decide) (by decide) (by decide) (by decide) (by decide) (by decide) q st v c
@[simp] theorem complete_boot : (complete q st v c).boot = c.boot := complete_part .boot (by decide) (by decide) (by decide) (by decide) (by decide) (by decide) q st v c
@[simp] theorem complete_fuses : (complete q st v c).fuses = c.fuses := complete_part .fuses (by decide) (by decide) (by decide) (by decide) (by decide) (by decide) q st v c
@[simp] theorem complete_nor : (complete q st v c).nor = c.nor := complete_part .nor (by decide) (by decide) (by decide) (by decide) (by decide) (by decide) q st v c
@[simp] theorem complete_test : (complete q st v c).test = c.test := complete_part .test (by decide) (by decide) (by decide) (by decide) (by decide) (by decide) q st v c
@[simp] theorem complete_od : (complete q st v c).od = c.od := complete_part .od (by decide) (by decide) (by decide) (by decide) (by decide) (by decide) q st v c
@[simp] theorem complete_fresh : (complete q st v c).fresh = c.fresh := complete_part .fresh (by decide) (by decide) (by decide) (by decide) (by decide) (by decide) q st v c
end

/-! ### finish -/

section
variable (q : Req) (st : Status) (v : List Byte)
@[simp] theorem finish_clock : (finish q st v c).clock = c.clock := finish_part .clock (by decide) (by decide) (by decide) (by decide) (by decide) (by decide) q st v c
@[simp] theorem finish_green : (finish q st v c).green = c.green := finish_part .green (by decide) (by decide) (by decide) (by decide) (by decide) (by decide) q st v c
@[simp] theorem finish_chans : (finish q st v c).chans = c.chans := finish_part .chans (by decide) (by decide) (by decide) (by decide) (by decide) (by decide) q st v c
@[simp] theorem finish_rms : (finish q st v c).rms = c.rms := finish_part .rms (by decide) (by decide) (by decide) (by decide) (by decide) (by decide) q st v c
@[simp] theorem finish_bus : (finish q st v c).bus = c.bus := finish_part .bus (by decide) (by decide) (by decide) (by decide) (by decide) (by decide) q st v c
@[simp] theorem finish_well : (finish q st v c).well = c.well := finish_part .well (by decide) (by decide) (by decide) (by decide) (by decide) (by decide) q st v c
@[simp] theorem finish_cap : (finish q st v c).cap = c.cap := finish_part .cap (by decide) (by decide) (by decide) (by decide) (by decide) (by decide) q st v c
@[simp] theorem finish_phases : (finish q st v c).phases = c.phases := finish_part .phases (by decide) (by decide) (by decide) (by decide) (by decide) (by decide) q st v c
@[simp] theorem finish_rails : (finish q st v c).rails = c.rails := finish_part .rails (by decide) (by decide) (by decide) (by decide) (by decide) (by decide) q st v c
@[simp] theorem finish_vcs : (finish q st v c).vcs = c.vcs := finish_part .vcs (by decide) (by decide) (by decide) (by decide) (by decide) (by decide) q st v c
@[simp] theorem finish_strs : (finish q st v c).strs = c.strs := finish_part .strs (by decide) (by decide) (by decide) (by decide) (by decide) (by decide) q st v c
@[simp] theorem finish_ests : (finish q st v c).ests = c.ests := finish_part .ests (by decide) (by decide) (by decide) (by decide) (by decide) (by decide) q st v c
@[simp] theorem finish_batt : (finish q st v c).batt = c.batt := finish_part .batt (by decide) (by decide) (by decide) (by decide) (by decide) (by decide) q st v c
@[simp] theorem finish_pps : (finish q st v c).pps = c.pps := finish_part .pps (by decide) (by decide) (by decide) (by decide) (by decide) (by decide) q st v c
@[simp] theorem finish_wms : (finish q st v c).wms = c.wms := finish_part .wms (by decide) (by decide) (by decide) (by decide) (by decide) (by decide) q st v c
@[simp] theorem finish_seq : (finish q st v c).seq = c.seq := finish_part .seq (by decide) (by decide) (by decide) (by decide) (by decide) (by decide) q st v c
@[simp] theorem finish_mills : (finish q st v c).mills = c.mills := finish_part .mills (by decide) (by decide) (by decide) (by decide) (by decide) (by decide) q st v c
@[simp] theorem finish_hampers : (finish q st v c).hampers = c.hampers := finish_part .hampers (by decide) (by decide) (by decide) (by decide) (by decide) (by decide) q st v c
@[simp] theorem finish_update : (finish q st v c).update = c.update := finish_part .update (by decide) (by decide) (by decide) (by decide) (by decide) (by decide) q st v c
@[simp] theorem finish_lc : (finish q st v c).lc = c.lc := finish_part .lc (by decide) (by decide) (by decide) (by decide) (by decide) (by decide) q st v c
@[simp] theorem finish_gw : (finish q st v c).gw = c.gw := finish_part .gw (by decide) (by decide) (by decide) (by decide) (by decide) (by decide) q st v c
@[simp] theorem finish_watch : (finish q st v c).watch = c.watch := finish_part .watch (by decide) (by decide) (by decide) (by decide) (by decide) (by decide) q st v c
@[simp] theorem finish_reeve : (finish q st v c).reeve = c.reeve := finish_part .reeve (by decide) (by decide) (by decide) (by decide) (by decide) (by decide) q st v c
@[simp] theorem finish_therm : (finish q st v c).therm = c.therm := finish_part .therm (by decide) (by decide) (by decide) (by decide) (by decide) (by decide) q st v c
@[simp] theorem finish_alm : (finish q st v c).alm = c.alm := finish_part .alm (by decide) (by decide) (by decide) (by decide) (by decide) (by decide) q st v c
@[simp] theorem finish_twin : (finish q st v c).twin = c.twin := finish_part .twin (by decide) (by decide) (by decide) (by decide) (by decide) (by decide) q st v c
@[simp] theorem finish_boot : (finish q st v c).boot = c.boot := finish_part .boot (by decide) (by decide) (by decide) (by decide) (by decide) (by decide) q st v c
@[simp] theorem finish_fuses : (finish q st v c).fuses = c.fuses := finish_part .fuses (by decide) (by decide) (by decide) (by decide) (by decide) (by decide) q st v c
@[simp] theorem finish_nor : (finish q st v c).nor = c.nor := finish_part .nor (by decide) (by decide) (by decide) (by decide) (by decide) (by decide) q st v c
@[simp] theorem finish_test : (finish q st v c).test = c.test := finish_part .test (by decide) (by decide) (by decide) (by decide) (by decide) (by decide) q st v c
@[simp] theorem finish_od : (finish q st v c).od = c.od := finish_part .od (by decide) (by decide) (by decide) (by decide) (by decide) (by decide) q st v c
@[simp] theorem finish_fresh : (finish q st v c).fresh = c.fresh := finish_part .fresh (by decide) (by decide) (by decide) (by decide) (by decide) (by decide) q st v c
end

/-! ### reply -/

section
variable (q : Req) (st : Status) (v : List Byte)
@[simp] theorem reply_clock : (reply q st v c).clock = c.clock := reply_part .clock (by decide) (by decide) (by decide) (by decide) q st v c
@[simp] theorem reply_hamlets : (reply q st v c).hamlets = c.hamlets := reply_part .hamlets (by decide) (by decide) (by decide) (by decide) q st v c
@[simp] theorem reply_green : (reply q st v c).green = c.green := reply_part .green (by decide) (by decide) (by decide) (by decide) q st v c
@[simp] theorem reply_chans : (reply q st v c).chans = c.chans := reply_part .chans (by decide) (by decide) (by decide) (by decide) q st v c
@[simp] theorem reply_rms : (reply q st v c).rms = c.rms := reply_part .rms (by decide) (by decide) (by decide) (by decide) q st v c
@[simp] theorem reply_bus : (reply q st v c).bus = c.bus := reply_part .bus (by decide) (by decide) (by decide) (by decide) q st v c
@[simp] theorem reply_well : (reply q st v c).well = c.well := reply_part .well (by decide) (by decide) (by decide) (by decide) q st v c
@[simp] theorem reply_cap : (reply q st v c).cap = c.cap := reply_part .cap (by decide) (by decide) (by decide) (by decide) q st v c
@[simp] theorem reply_phases : (reply q st v c).phases = c.phases := reply_part .phases (by decide) (by decide) (by decide) (by decide) q st v c
@[simp] theorem reply_rails : (reply q st v c).rails = c.rails := reply_part .rails (by decide) (by decide) (by decide) (by decide) q st v c
@[simp] theorem reply_vcs : (reply q st v c).vcs = c.vcs := reply_part .vcs (by decide) (by decide) (by decide) (by decide) q st v c
@[simp] theorem reply_strs : (reply q st v c).strs = c.strs := reply_part .strs (by decide) (by decide) (by decide) (by decide) q st v c
@[simp] theorem reply_ests : (reply q st v c).ests = c.ests := reply_part .ests (by decide) (by decide) (by decide) (by decide) q st v c
@[simp] theorem reply_batt : (reply q st v c).batt = c.batt := reply_part .batt (by decide) (by decide) (by decide) (by decide) q st v c
@[simp] theorem reply_pps : (reply q st v c).pps = c.pps := reply_part .pps (by decide) (by decide) (by decide) (by decide) q st v c
@[simp] theorem reply_wms : (reply q st v c).wms = c.wms := reply_part .wms (by decide) (by decide) (by decide) (by decide) q st v c
@[simp] theorem reply_seq : (reply q st v c).seq = c.seq := reply_part .seq (by decide) (by decide) (by decide) (by decide) q st v c
@[simp] theorem reply_mills : (reply q st v c).mills = c.mills := reply_part .mills (by decide) (by decide) (by decide) (by decide) q st v c
@[simp] theorem reply_market : (reply q st v c).market = c.market := reply_part .market (by decide) (by decide) (by decide) (by decide) q st v c
@[simp] theorem reply_hampers : (reply q st v c).hampers = c.hampers := reply_part .hampers (by decide) (by decide) (by decide) (by decide) q st v c
@[simp] theorem reply_update : (reply q st v c).update = c.update := reply_part .update (by decide) (by decide) (by decide) (by decide) q st v c
@[simp] theorem reply_lc : (reply q st v c).lc = c.lc := reply_part .lc (by decide) (by decide) (by decide) (by decide) q st v c
@[simp] theorem reply_gw : (reply q st v c).gw = c.gw := reply_part .gw (by decide) (by decide) (by decide) (by decide) q st v c
@[simp] theorem reply_watch : (reply q st v c).watch = c.watch := reply_part .watch (by decide) (by decide) (by decide) (by decide) q st v c
@[simp] theorem reply_reeve : (reply q st v c).reeve = c.reeve := reply_part .reeve (by decide) (by decide) (by decide) (by decide) q st v c
@[simp] theorem reply_therm : (reply q st v c).therm = c.therm := reply_part .therm (by decide) (by decide) (by decide) (by decide) q st v c
@[simp] theorem reply_alm : (reply q st v c).alm = c.alm := reply_part .alm (by decide) (by decide) (by decide) (by decide) q st v c
@[simp] theorem reply_twin : (reply q st v c).twin = c.twin := reply_part .twin (by decide) (by decide) (by decide) (by decide) q st v c
@[simp] theorem reply_boot : (reply q st v c).boot = c.boot := reply_part .boot (by decide) (by decide) (by decide) (by decide) q st v c
@[simp] theorem reply_fuses : (reply q st v c).fuses = c.fuses := reply_part .fuses (by decide) (by decide) (by decide) (by decide) q st v c
@[simp] theorem reply_nor : (reply q st v c).nor = c.nor := reply_part .nor (by decide) (by decide) (by decide) (by decide) q st v c
@[simp] theorem reply_test : (reply q st v c).test = c.test := reply_part .test (by decide) (by decide) (by decide) (by decide) q st v c
@[simp] theorem reply_od : (reply q st v c).od = c.od := reply_part .od (by decide) (by decide) (by decide) (by decide) q st v c
@[simp] theorem reply_fresh : (reply q st v c).fresh = c.fresh := reply_part .fresh (by decide) (by decide) (by decide) (by decide) q st v c
end

/-! ### canSend -/

section
variable (l : Fin 2) (m : CanTx)
@[simp] theorem canSend_clock : (canSend l m c).clock = c.clock := canSend_part .clock (by decide) l m c
@[simp] theorem canSend_hamlets : (canSend l m c).hamlets = c.hamlets := canSend_part .hamlets (by decide) l m c
@[simp] theorem canSend_green : (canSend l m c).green = c.green := canSend_part .green (by decide) l m c
@[simp] theorem canSend_chans : (canSend l m c).chans = c.chans := canSend_part .chans (by decide) l m c
@[simp] theorem canSend_rms : (canSend l m c).rms = c.rms := canSend_part .rms (by decide) l m c
@[simp] theorem canSend_bus : (canSend l m c).bus = c.bus := canSend_part .bus (by decide) l m c
@[simp] theorem canSend_well : (canSend l m c).well = c.well := canSend_part .well (by decide) l m c
@[simp] theorem canSend_cap : (canSend l m c).cap = c.cap := canSend_part .cap (by decide) l m c
@[simp] theorem canSend_phases : (canSend l m c).phases = c.phases := canSend_part .phases (by decide) l m c
@[simp] theorem canSend_rails : (canSend l m c).rails = c.rails := canSend_part .rails (by decide) l m c
@[simp] theorem canSend_vcs : (canSend l m c).vcs = c.vcs := canSend_part .vcs (by decide) l m c
@[simp] theorem canSend_strs : (canSend l m c).strs = c.strs := canSend_part .strs (by decide) l m c
@[simp] theorem canSend_ests : (canSend l m c).ests = c.ests := canSend_part .ests (by decide) l m c
@[simp] theorem canSend_batt : (canSend l m c).batt = c.batt := canSend_part .batt (by decide) l m c
@[simp] theorem canSend_pps : (canSend l m c).pps = c.pps := canSend_part .pps (by decide) l m c
@[simp] theorem canSend_wms : (canSend l m c).wms = c.wms := canSend_part .wms (by decide) l m c
@[simp] theorem canSend_seq : (canSend l m c).seq = c.seq := canSend_part .seq (by decide) l m c
@[simp] theorem canSend_mills : (canSend l m c).mills = c.mills := canSend_part .mills (by decide) l m c
@[simp] theorem canSend_market : (canSend l m c).market = c.market := canSend_part .market (by decide) l m c
@[simp] theorem canSend_hampers : (canSend l m c).hampers = c.hampers := canSend_part .hampers (by decide) l m c
@[simp] theorem canSend_tw : (canSend l m c).tw = c.tw := canSend_part .tw (by decide) l m c
@[simp] theorem canSend_svc : (canSend l m c).svc = c.svc := canSend_part .svc (by decide) l m c
@[simp] theorem canSend_update : (canSend l m c).update = c.update := canSend_part .update (by decide) l m c
@[simp] theorem canSend_lc : (canSend l m c).lc = c.lc := canSend_part .lc (by decide) l m c
@[simp] theorem canSend_lane : (canSend l m c).lane = c.lane := canSend_part .lane (by decide) l m c
@[simp] theorem canSend_gw : (canSend l m c).gw = c.gw := canSend_part .gw (by decide) l m c
@[simp] theorem canSend_watch : (canSend l m c).watch = c.watch := canSend_part .watch (by decide) l m c
@[simp] theorem canSend_reeve : (canSend l m c).reeve = c.reeve := canSend_part .reeve (by decide) l m c
@[simp] theorem canSend_therm : (canSend l m c).therm = c.therm := canSend_part .therm (by decide) l m c
@[simp] theorem canSend_alm : (canSend l m c).alm = c.alm := canSend_part .alm (by decide) l m c
@[simp] theorem canSend_twin : (canSend l m c).twin = c.twin := canSend_part .twin (by decide) l m c
@[simp] theorem canSend_boot : (canSend l m c).boot = c.boot := canSend_part .boot (by decide) l m c
@[simp] theorem canSend_fuses : (canSend l m c).fuses = c.fuses := canSend_part .fuses (by decide) l m c
@[simp] theorem canSend_nor : (canSend l m c).nor = c.nor := canSend_part .nor (by decide) l m c
@[simp] theorem canSend_test : (canSend l m c).test = c.test := canSend_part .test (by decide) l m c
@[simp] theorem canSend_od : (canSend l m c).od = c.od := canSend_part .od (by decide) l m c
@[simp] theorem canSend_fresh : (canSend l m c).fresh = c.fresh := canSend_part .fresh (by decide) l m c
end

/-! ### canSendAll -/

section
variable (m : CanTx)
@[simp] theorem canSendAll_clock : (canSendAll m c).clock = c.clock := canSendAll_part .clock (by decide) m c
@[simp] theorem canSendAll_hamlets : (canSendAll m c).hamlets = c.hamlets := canSendAll_part .hamlets (by decide) m c
@[simp] theorem canSendAll_green : (canSendAll m c).green = c.green := canSendAll_part .green (by decide) m c
@[simp] theorem canSendAll_chans : (canSendAll m c).chans = c.chans := canSendAll_part .chans (by decide) m c
@[simp] theorem canSendAll_rms : (canSendAll m c).rms = c.rms := canSendAll_part .rms (by decide) m c
@[simp] theorem canSendAll_bus : (canSendAll m c).bus = c.bus := canSendAll_part .bus (by decide) m c
@[simp] theorem canSendAll_well : (canSendAll m c).well = c.well := canSendAll_part .well (by decide) m c
@[simp] theorem canSendAll_cap : (canSendAll m c).cap = c.cap := canSendAll_part .cap (by decide) m c
@[simp] theorem canSendAll_phases : (canSendAll m c).phases = c.phases := canSendAll_part .phases (by decide) m c
@[simp] theorem canSendAll_rails : (canSendAll m c).rails = c.rails := canSendAll_part .rails (by decide) m c
@[simp] theorem canSendAll_vcs : (canSendAll m c).vcs = c.vcs := canSendAll_part .vcs (by decide) m c
@[simp] theorem canSendAll_strs : (canSendAll m c).strs = c.strs := canSendAll_part .strs (by decide) m c
@[simp] theorem canSendAll_ests : (canSendAll m c).ests = c.ests := canSendAll_part .ests (by decide) m c
@[simp] theorem canSendAll_batt : (canSendAll m c).batt = c.batt := canSendAll_part .batt (by decide) m c
@[simp] theorem canSendAll_pps : (canSendAll m c).pps = c.pps := canSendAll_part .pps (by decide) m c
@[simp] theorem canSendAll_wms : (canSendAll m c).wms = c.wms := canSendAll_part .wms (by decide) m c
@[simp] theorem canSendAll_seq : (canSendAll m c).seq = c.seq := canSendAll_part .seq (by decide) m c
@[simp] theorem canSendAll_mills : (canSendAll m c).mills = c.mills := canSendAll_part .mills (by decide) m c
@[simp] theorem canSendAll_market : (canSendAll m c).market = c.market := canSendAll_part .market (by decide) m c
@[simp] theorem canSendAll_hampers : (canSendAll m c).hampers = c.hampers := canSendAll_part .hampers (by decide) m c
@[simp] theorem canSendAll_tw : (canSendAll m c).tw = c.tw := canSendAll_part .tw (by decide) m c
@[simp] theorem canSendAll_svc : (canSendAll m c).svc = c.svc := canSendAll_part .svc (by decide) m c
@[simp] theorem canSendAll_update : (canSendAll m c).update = c.update := canSendAll_part .update (by decide) m c
@[simp] theorem canSendAll_lc : (canSendAll m c).lc = c.lc := canSendAll_part .lc (by decide) m c
@[simp] theorem canSendAll_lane : (canSendAll m c).lane = c.lane := canSendAll_part .lane (by decide) m c
@[simp] theorem canSendAll_gw : (canSendAll m c).gw = c.gw := canSendAll_part .gw (by decide) m c
@[simp] theorem canSendAll_watch : (canSendAll m c).watch = c.watch := canSendAll_part .watch (by decide) m c
@[simp] theorem canSendAll_reeve : (canSendAll m c).reeve = c.reeve := canSendAll_part .reeve (by decide) m c
@[simp] theorem canSendAll_therm : (canSendAll m c).therm = c.therm := canSendAll_part .therm (by decide) m c
@[simp] theorem canSendAll_alm : (canSendAll m c).alm = c.alm := canSendAll_part .alm (by decide) m c
@[simp] theorem canSendAll_twin : (canSendAll m c).twin = c.twin := canSendAll_part .twin (by decide) m c
@[simp] theorem canSendAll_boot : (canSendAll m c).boot = c.boot := canSendAll_part .boot (by decide) m c
@[simp] theorem canSendAll_fuses : (canSendAll m c).fuses = c.fuses := canSendAll_part .fuses (by decide) m c
@[simp] theorem canSendAll_nor : (canSendAll m c).nor = c.nor := canSendAll_part .nor (by decide) m c
@[simp] theorem canSendAll_test : (canSendAll m c).test = c.test := canSendAll_part .test (by decide) m c
@[simp] theorem canSendAll_od : (canSendAll m c).od = c.od := canSendAll_part .od (by decide) m c
@[simp] theorem canSendAll_fresh : (canSendAll m c).fresh = c.fresh := canSendAll_part .fresh (by decide) m c
end

/-! ### svcAnswer -/

section
variable (cmd : Nat) (tag : BitVec 16) (status : Nat) (data : List Byte)
@[simp] theorem svcAnswer_clock : (svcAnswer cmd tag status data c).clock = c.clock := svcAnswer_part .clock (by decide) cmd tag status data c
@[simp] theorem svcAnswer_hamlets : (svcAnswer cmd tag status data c).hamlets = c.hamlets := svcAnswer_part .hamlets (by decide) cmd tag status data c
@[simp] theorem svcAnswer_green : (svcAnswer cmd tag status data c).green = c.green := svcAnswer_part .green (by decide) cmd tag status data c
@[simp] theorem svcAnswer_chans : (svcAnswer cmd tag status data c).chans = c.chans := svcAnswer_part .chans (by decide) cmd tag status data c
@[simp] theorem svcAnswer_rms : (svcAnswer cmd tag status data c).rms = c.rms := svcAnswer_part .rms (by decide) cmd tag status data c
@[simp] theorem svcAnswer_bus : (svcAnswer cmd tag status data c).bus = c.bus := svcAnswer_part .bus (by decide) cmd tag status data c
@[simp] theorem svcAnswer_well : (svcAnswer cmd tag status data c).well = c.well := svcAnswer_part .well (by decide) cmd tag status data c
@[simp] theorem svcAnswer_cap : (svcAnswer cmd tag status data c).cap = c.cap := svcAnswer_part .cap (by decide) cmd tag status data c
@[simp] theorem svcAnswer_phases : (svcAnswer cmd tag status data c).phases = c.phases := svcAnswer_part .phases (by decide) cmd tag status data c
@[simp] theorem svcAnswer_rails : (svcAnswer cmd tag status data c).rails = c.rails := svcAnswer_part .rails (by decide) cmd tag status data c
@[simp] theorem svcAnswer_vcs : (svcAnswer cmd tag status data c).vcs = c.vcs := svcAnswer_part .vcs (by decide) cmd tag status data c
@[simp] theorem svcAnswer_strs : (svcAnswer cmd tag status data c).strs = c.strs := svcAnswer_part .strs (by decide) cmd tag status data c
@[simp] theorem svcAnswer_ests : (svcAnswer cmd tag status data c).ests = c.ests := svcAnswer_part .ests (by decide) cmd tag status data c
@[simp] theorem svcAnswer_batt : (svcAnswer cmd tag status data c).batt = c.batt := svcAnswer_part .batt (by decide) cmd tag status data c
@[simp] theorem svcAnswer_pps : (svcAnswer cmd tag status data c).pps = c.pps := svcAnswer_part .pps (by decide) cmd tag status data c
@[simp] theorem svcAnswer_wms : (svcAnswer cmd tag status data c).wms = c.wms := svcAnswer_part .wms (by decide) cmd tag status data c
@[simp] theorem svcAnswer_seq : (svcAnswer cmd tag status data c).seq = c.seq := svcAnswer_part .seq (by decide) cmd tag status data c
@[simp] theorem svcAnswer_mills : (svcAnswer cmd tag status data c).mills = c.mills := svcAnswer_part .mills (by decide) cmd tag status data c
@[simp] theorem svcAnswer_market : (svcAnswer cmd tag status data c).market = c.market := svcAnswer_part .market (by decide) cmd tag status data c
@[simp] theorem svcAnswer_hampers : (svcAnswer cmd tag status data c).hampers = c.hampers := svcAnswer_part .hampers (by decide) cmd tag status data c
@[simp] theorem svcAnswer_can : (svcAnswer cmd tag status data c).can = c.can := svcAnswer_part .can (by decide) cmd tag status data c
@[simp] theorem svcAnswer_tw : (svcAnswer cmd tag status data c).tw = c.tw := svcAnswer_part .tw (by decide) cmd tag status data c
@[simp] theorem svcAnswer_update : (svcAnswer cmd tag status data c).update = c.update := svcAnswer_part .update (by decide) cmd tag status data c
@[simp] theorem svcAnswer_lc : (svcAnswer cmd tag status data c).lc = c.lc := svcAnswer_part .lc (by decide) cmd tag status data c
@[simp] theorem svcAnswer_lane : (svcAnswer cmd tag status data c).lane = c.lane := svcAnswer_part .lane (by decide) cmd tag status data c
@[simp] theorem svcAnswer_gw : (svcAnswer cmd tag status data c).gw = c.gw := svcAnswer_part .gw (by decide) cmd tag status data c
@[simp] theorem svcAnswer_watch : (svcAnswer cmd tag status data c).watch = c.watch := svcAnswer_part .watch (by decide) cmd tag status data c
@[simp] theorem svcAnswer_reeve : (svcAnswer cmd tag status data c).reeve = c.reeve := svcAnswer_part .reeve (by decide) cmd tag status data c
@[simp] theorem svcAnswer_therm : (svcAnswer cmd tag status data c).therm = c.therm := svcAnswer_part .therm (by decide) cmd tag status data c
@[simp] theorem svcAnswer_alm : (svcAnswer cmd tag status data c).alm = c.alm := svcAnswer_part .alm (by decide) cmd tag status data c
@[simp] theorem svcAnswer_twin : (svcAnswer cmd tag status data c).twin = c.twin := svcAnswer_part .twin (by decide) cmd tag status data c
@[simp] theorem svcAnswer_boot : (svcAnswer cmd tag status data c).boot = c.boot := svcAnswer_part .boot (by decide) cmd tag status data c
@[simp] theorem svcAnswer_fuses : (svcAnswer cmd tag status data c).fuses = c.fuses := svcAnswer_part .fuses (by decide) cmd tag status data c
@[simp] theorem svcAnswer_nor : (svcAnswer cmd tag status data c).nor = c.nor := svcAnswer_part .nor (by decide) cmd tag status data c
@[simp] theorem svcAnswer_test : (svcAnswer cmd tag status data c).test = c.test := svcAnswer_part .test (by decide) cmd tag status data c
@[simp] theorem svcAnswer_od : (svcAnswer cmd tag status data c).od = c.od := svcAnswer_part .od (by decide) cmd tag status data c
@[simp] theorem svcAnswer_fresh : (svcAnswer cmd tag status data c).fresh = c.fresh := svcAnswer_part .fresh (by decide) cmd tag status data c
end

/-! ### laneSend -/

section
variable (a b : Bool) (dest cls : Nat) (payload : List Byte)
@[simp] theorem laneSend_clock : (laneSend a b dest cls payload c).clock = c.clock := laneSend_part .clock (by decide) a b dest cls payload c
@[simp] theorem laneSend_hamlets : (laneSend a b dest cls payload c).hamlets = c.hamlets := laneSend_part .hamlets (by decide) a b dest cls payload c
@[simp] theorem laneSend_green : (laneSend a b dest cls payload c).green = c.green := laneSend_part .green (by decide) a b dest cls payload c
@[simp] theorem laneSend_chans : (laneSend a b dest cls payload c).chans = c.chans := laneSend_part .chans (by decide) a b dest cls payload c
@[simp] theorem laneSend_rms : (laneSend a b dest cls payload c).rms = c.rms := laneSend_part .rms (by decide) a b dest cls payload c
@[simp] theorem laneSend_bus : (laneSend a b dest cls payload c).bus = c.bus := laneSend_part .bus (by decide) a b dest cls payload c
@[simp] theorem laneSend_well : (laneSend a b dest cls payload c).well = c.well := laneSend_part .well (by decide) a b dest cls payload c
@[simp] theorem laneSend_cap : (laneSend a b dest cls payload c).cap = c.cap := laneSend_part .cap (by decide) a b dest cls payload c
@[simp] theorem laneSend_phases : (laneSend a b dest cls payload c).phases = c.phases := laneSend_part .phases (by decide) a b dest cls payload c
@[simp] theorem laneSend_rails : (laneSend a b dest cls payload c).rails = c.rails := laneSend_part .rails (by decide) a b dest cls payload c
@[simp] theorem laneSend_vcs : (laneSend a b dest cls payload c).vcs = c.vcs := laneSend_part .vcs (by decide) a b dest cls payload c
@[simp] theorem laneSend_strs : (laneSend a b dest cls payload c).strs = c.strs := laneSend_part .strs (by decide) a b dest cls payload c
@[simp] theorem laneSend_ests : (laneSend a b dest cls payload c).ests = c.ests := laneSend_part .ests (by decide) a b dest cls payload c
@[simp] theorem laneSend_batt : (laneSend a b dest cls payload c).batt = c.batt := laneSend_part .batt (by decide) a b dest cls payload c
@[simp] theorem laneSend_pps : (laneSend a b dest cls payload c).pps = c.pps := laneSend_part .pps (by decide) a b dest cls payload c
@[simp] theorem laneSend_wms : (laneSend a b dest cls payload c).wms = c.wms := laneSend_part .wms (by decide) a b dest cls payload c
@[simp] theorem laneSend_seq : (laneSend a b dest cls payload c).seq = c.seq := laneSend_part .seq (by decide) a b dest cls payload c
@[simp] theorem laneSend_mills : (laneSend a b dest cls payload c).mills = c.mills := laneSend_part .mills (by decide) a b dest cls payload c
@[simp] theorem laneSend_market : (laneSend a b dest cls payload c).market = c.market := laneSend_part .market (by decide) a b dest cls payload c
@[simp] theorem laneSend_hampers : (laneSend a b dest cls payload c).hampers = c.hampers := laneSend_part .hampers (by decide) a b dest cls payload c
@[simp] theorem laneSend_can : (laneSend a b dest cls payload c).can = c.can := laneSend_part .can (by decide) a b dest cls payload c
@[simp] theorem laneSend_tw : (laneSend a b dest cls payload c).tw = c.tw := laneSend_part .tw (by decide) a b dest cls payload c
@[simp] theorem laneSend_svc : (laneSend a b dest cls payload c).svc = c.svc := laneSend_part .svc (by decide) a b dest cls payload c
@[simp] theorem laneSend_update : (laneSend a b dest cls payload c).update = c.update := laneSend_part .update (by decide) a b dest cls payload c
@[simp] theorem laneSend_lc : (laneSend a b dest cls payload c).lc = c.lc := laneSend_part .lc (by decide) a b dest cls payload c
@[simp] theorem laneSend_gw : (laneSend a b dest cls payload c).gw = c.gw := laneSend_part .gw (by decide) a b dest cls payload c
@[simp] theorem laneSend_watch : (laneSend a b dest cls payload c).watch = c.watch := laneSend_part .watch (by decide) a b dest cls payload c
@[simp] theorem laneSend_reeve : (laneSend a b dest cls payload c).reeve = c.reeve := laneSend_part .reeve (by decide) a b dest cls payload c
@[simp] theorem laneSend_therm : (laneSend a b dest cls payload c).therm = c.therm := laneSend_part .therm (by decide) a b dest cls payload c
@[simp] theorem laneSend_alm : (laneSend a b dest cls payload c).alm = c.alm := laneSend_part .alm (by decide) a b dest cls payload c
@[simp] theorem laneSend_twin : (laneSend a b dest cls payload c).twin = c.twin := laneSend_part .twin (by decide) a b dest cls payload c
@[simp] theorem laneSend_boot : (laneSend a b dest cls payload c).boot = c.boot := laneSend_part .boot (by decide) a b dest cls payload c
@[simp] theorem laneSend_fuses : (laneSend a b dest cls payload c).fuses = c.fuses := laneSend_part .fuses (by decide) a b dest cls payload c
@[simp] theorem laneSend_nor : (laneSend a b dest cls payload c).nor = c.nor := laneSend_part .nor (by decide) a b dest cls payload c
@[simp] theorem laneSend_test : (laneSend a b dest cls payload c).test = c.test := laneSend_part .test (by decide) a b dest cls payload c
@[simp] theorem laneSend_od : (laneSend a b dest cls payload c).od = c.od := laneSend_part .od (by decide) a b dest cls payload c
@[simp] theorem laneSend_fresh : (laneSend a b dest cls payload c).fresh = c.fresh := laneSend_part .fresh (by decide) a b dest cls payload c
end

end Sys2Proof.Machine
end

