-- ==== Sys2Proof/Laws/Market.lean ====
section
/-! SUPPORT. What a completion does (R259, R265): to the market, and to the stiles of the hamlets. -/

namespace Sys2Proof.Machine

/-- The bits of a hamlet: all it holds but for its queues. -/
def Hamlet.bits (x : Hamlet) : Hamlet := { x with inbox := [], outbox := [], unsent := [] }

/-- Changes that leave each hamlet's bits leave the bits of every hamlet. -/
theorem eachHamlet_bits {α : Type} (l : List α) (k : α → Fin 27) (f : α → Hamlet → Hamlet)
    (kept : ∀ a x, (f a x).bits = x.bits) (h : Fin 27) (c : Chip) :
    ((each l (fun a => setHamlet (k a) (f a)) c).hamlets[h]).bits = (c.hamlets[h]).bits := by
  unfold each
  induction l generalizing c with
  | nil => rfl
  | cons a l ih =>
    simp only [List.foldl_cons]
    rw [ih]
    unfold setHamlet
    by_cases hk : k a = h
    · subst hk; simp [kept]
    · have : (k a).val ≠ h.val := fun e => hk (Fin.ext e)
      simp [Vector.getElem_set_ne, this]

/-- A completion in the market: the request is gone, and the completion recorded (R259). -/
theorem finish_market (q : Req) (st : Status) (v : List Byte) (c : Chip) :
    (finish q st v c).market = { c.market with
      reqs := c.market.reqs.filter fun x => x.id != q.id
      done := c.market.done ++
        [{ id := q.id, origin := q.origin, k := q.k, write := q.data.isSome, status := st, value := v }] } := by
  have kept {α : Type} (l : List α) (k : α → Fin 27) (f : α → Hamlet → Hamlet) (c : Chip) :
      (each l (fun a => setHamlet (k a) (f a)) c).market = c.market :=
    each_part .market l _ c fun a c => setHamlet_part .market (by decide) (k a) (f a) c
  unfold finish
  rw [reply_market, kept]
  rfl

/-- A completion leaves the bits of every hamlet. -/
theorem finish_bits (q : Req) (st : Status) (v : List Byte) (h : Fin 27) (c : Chip) :
    ((finish q st v c).hamlets[h]).bits = (c.hamlets[h]).bits := by
  unfold finish
  rw [reply_hamlets]
  refine (eachHamlet_bits (List.finRange 27) (fun k => k) (fun _ x => { x with
    inbox := x.inbox.filter fun p => p != .request q.id
    outbox := x.outbox.filter fun p => p.2 != .request q.id
    unsent := x.unsent.filter fun p => p.2 != .request q.id }) (fun _ _ => rfl) h _).trans rfl

/-- Completions of a list of requests leave the bits of every hamlet. -/
theorem eachFinish_bits (l : List Req) (st : Status) (h : Fin 27) (c : Chip) :
    ((each l (fun q => finish q st []) c).hamlets[h]).bits = (c.hamlets[h]).bits := by
  unfold each
  induction l generalizing c with
  | nil => rfl
  | cons q l ih => simp only [List.foldl_cons]; rw [ih, finish_bits]

/-- A fence placed leaves the hamlets. -/
theorem placeFence_hamlets (o : Origin) (k : Key) (c : Chip) : (placeFence o k c).hamlets = c.hamlets := rfl

/-- A fence placed leaves the requests. -/
theorem placeFence_reqs (o : Origin) (k : Key) (c : Chip) : (placeFence o k c).market.reqs = c.market.reqs := rfl

/-- A completion, with its fence, leaves the bits of every hamlet. -/
theorem complete_bits (q : Req) (st : Status) (v : List Byte) (h : Fin 27) (c : Chip) :
    ((complete q st v c).hamlets[h]).bits = (c.hamlets[h]).bits := by
  unfold complete fenceQueued
  dsimp only
  split
  · rw [eachFinish_bits, placeFence_hamlets]
    exact finish_bits q st v h c
  · exact finish_bits q st v h c

/-- A completion whose status sets no fence, in the market. -/
theorem complete_market (q : Req) (st : Status) (v : List Byte) (c : Chip) (h : st.fences = false) :
    (complete q st v c).market = { c.market with
      reqs := c.market.reqs.filter fun x => x.id != q.id
      done := c.market.done ++
        [{ id := q.id, origin := q.origin, k := q.k, write := q.data.isSome, status := st, value := v }] } := by
  unfold complete
  simp only [h, Bool.false_eq_true, if_false]
  exact finish_market q st v c

/-- Fences placed leave the hamlets and the requests. -/
theorem eachFence_kept (l : List Req) (c : Chip) :
    (each l (fun q => placeFence q.origin q.k) c).hamlets = c.hamlets ∧
      (each l (fun q => placeFence q.origin q.k) c).market.reqs = c.market.reqs := by
  unfold each
  induction l generalizing c with
  | nil => exact ⟨rfl, rfl⟩
  | cons q l ih => exact ih _

/-- Completions of a list of requests, with their fences, leave the bits of every hamlet. -/
theorem completeAll_bits (l : List Req) (st : Status) (h : Fin 27) (c : Chip) :
    ((completeAll l st c).hamlets[h]).bits = (c.hamlets[h]).bits := by
  unfold completeAll
  rw [(eachFence_kept _ _).1, eachFinish_bits]

/-- A completed request is gone: after a completion with a status that fences, at most fewer are left. -/
theorem finish_subset (q : Req) (st : Status) (v : List Byte) (c : Chip) :
    ∀ x ∈ (finish q st v c).market.reqs, x ∈ c.market.reqs ∧ x.id ≠ q.id := by
  intro x hx
  rw [finish_market] at hx
  simpa using hx

/-- Completions leave some of the requests. -/
theorem eachFinish_subset (l : List Req) (st : Status) (c : Chip) :
    ∀ x ∈ (each l (fun q => finish q st []) c).market.reqs, x ∈ c.market.reqs := by
  unfold each
  induction l generalizing c with
  | nil => exact fun _ h => h
  | cons q l ih => exact fun x hx => (finish_subset q st [] c x (ih _ x hx)).1

/-- A completed request is gone, and no request is new. -/
theorem complete_subset (q : Req) (st : Status) (v : List Byte) (c : Chip) :
    ∀ x ∈ (complete q st v c).market.reqs, x ∈ c.market.reqs ∧ x.id ≠ q.id := by
  unfold complete fenceQueued
  dsimp only
  split
  · intro x hx
    have h := eachFinish_subset _ _ _ x hx
    exact finish_subset q st v c x h
  · exact finish_subset q st v c

/-- Requests completed one after another are gone, and none is new. -/
theorem eachFinish_gone (l : List Req) (st : Status) (c : Chip) :
    ∀ x ∈ (each l (fun q => finish q st []) c).market.reqs, x ∈ c.market.reqs ∧ ∀ q ∈ l, x.id ≠ q.id := by
  unfold each
  induction l generalizing c with
  | nil => exact fun x h => ⟨h, by simp⟩
  | cons q l ih =>
    intro x hx
    obtain ⟨h1, h2⟩ := ih _ x hx
    obtain ⟨h3, h4⟩ := finish_subset q st [] c x h1
    exact ⟨h3, by simpa using ⟨h4, h2⟩⟩

/-- Where every request completes, none is left. -/
theorem completeAll_empty (st : Status) (c : Chip) : (completeAll c.market.reqs st c).market.reqs = [] := by
  unfold completeAll
  rw [(eachFence_kept _ _).2]
  refine List.eq_nil_iff_forall_not_mem.2 fun x hx => ?_
  obtain ⟨h1, h2⟩ := eachFinish_gone _ _ _ x hx
  exact h2 x h1 rfl

end Sys2Proof.Machine
end

