-- ==== Sys2Proof/Laws/Sorted.lean ====
section
/-! SUPPORT. Every operation keeps the list of objects in force in order of its keys. -/

namespace Sys2Proof.Machine

/-- The list is sorted where every earlier key is below every later one. -/
theorem odSorted_iff {l : List (Nat × Val)} : odSorted l = true ↔ l.Pairwise fun a b => a.1 < b.1 := by
  induction l with
  | nil => simp [odSorted]
  | cons a l ih =>
    cases l with
    | nil => simp [odSorted]
    | cons b l =>
      obtain ⟨k, v⟩ := a
      obtain ⟨k', v'⟩ := b
      simp only [odSorted, Bool.and_eq_true, decide_eq_true_eq, List.pairwise_cons] at ih ⊢
      rw [ih]
      refine ⟨fun h => ⟨fun e m => ?_, h.2⟩, fun h => ⟨h.1 (k', v') (by simp), h.2⟩⟩
      rcases List.mem_cons.1 m with rfl | m
      · exact h.1
      · exact Nat.lt_trans h.1 (h.2.1 e m)

/-- A list without an entry is a sublist. -/
theorem odErase_sublist (l : List (Nat × Val)) (q : Key) : (odErase l q).Sublist l := by
  induction l with
  | nil => exact .slnil
  | cons a l ih =>
    unfold odErase
    split
    · exact List.sublist_cons_self _ _
    · exact ih.cons_cons _

/-- Erasing an entry keeps the order. -/
theorem odErase_sorted (l : List (Nat × Val)) (h : odSorted l = true) (q : Key) : odSorted (odErase l q) = true :=
  odSorted_iff.2 ((odSorted_iff.1 h).sublist (odErase_sublist l q))

/-- An entry of the list with a value put in is the new one or an old one. -/
theorem odInsert_mem (l : List (Nat × Val)) (q : Key) (v : Val) (e : Nat × Val) (m : e ∈ odInsert l q v) :
    e = (q, v) ∨ e ∈ l := by
  induction l with
  | nil => simpa [odInsert] using m
  | cons a l ih =>
    unfold odInsert at m
    split at m
    · simpa using m
    · split at m
      · rcases List.mem_cons.1 m with h | h <;> simp [h]
      · rcases List.mem_cons.1 m with h | h
        · simp [h]
        · rcases ih h with h | h <;> simp [h]

/-- Putting an entry in keeps the order. -/
theorem odInsert_sorted (l : List (Nat × Val)) (h : odSorted l = true) (q : Key) (v : Val) :
    odSorted (odInsert l q v) = true := by
  rw [odSorted_iff] at h ⊢
  induction l with
  | nil => simp [odInsert]
  | cons a l ih =>
    obtain ⟨k, w⟩ := a
    have hk := List.pairwise_cons.1 h
    unfold odInsert
    split
    · refine List.pairwise_cons.2 ⟨fun e m => ?_, h⟩
      rcases List.mem_cons.1 m with rfl | m
      · assumption
      · exact Nat.lt_trans (by assumption) (hk.1 e m)
    · split
      · subst_vars; exact List.pairwise_cons.2 ⟨hk.1, hk.2⟩
      · refine List.pairwise_cons.2 ⟨fun e m => ?_, ih hk.2⟩
        rcases odInsert_mem l q v e m with rfl | m
        · show k < q
          unfold Key at *
          omega
        · exact hk.1 e m

/-- A change made for each member of a list keeps what each change keeps. -/
theorem each_sorted {α : Type} (l : List α) (f : α → Chip → Chip) (c : Chip)
    (h : ∀ x c, odSorted (part .od c) = true → odSorted (part .od (f x c)) = true)
    (kept : odSorted (part .od c) = true) : odSorted (part .od (each l f c)) = true := by
  unfold each
  induction l generalizing c with
  | nil => exact kept
  | cons x l ih => exact ih _ (h _ _ kept)

/-- A change made if a condition holds keeps what the change keeps. -/
theorem when_sorted (b : Bool) (f : Chip → Chip) (c : Chip)
    (h : ∀ c, odSorted (part .od c) = true → odSorted (part .od (f c)) = true)
    (kept : odSorted (part .od c) = true) : odSorted (part .od (when b f c)) = true := by
  unfold when; split
  · exact h _ kept
  · exact kept


theorem put_sorted (k : Key) (v : Val) (c : Chip) (kept : odSorted (part .od c) = true) :
    odSorted (part .od (put k v c)) = true := by
  show odSorted (if v = defaultOf c k then odErase c.od k else odInsert c.od k v) = true
  split
  · exact odErase_sorted _ kept _
  · exact odInsert_sorted _ kept _ _

theorem wipe_sorted (hold : Bool) (boot : Boot) (c : Chip) : odSorted (part .od (wipe hold boot c)) = true := rfl

theorem chipReset_sorted (cause : ResetCause) (hold : Bool) (c : Chip) (kept : odSorted (part .od c) = true) :
    odSorted (part .od (chipReset cause hold c)) = true := by
  unfold chipReset
  repeat' split
  all_goals simp +contextual (maxDischargeDepth := 20) [wipe_sorted, kept]

theorem powerOnReset_sorted (c : Chip) : odSorted (part .od (powerOnReset c)) = true := rfl

theorem storeValue_sorted (k : Key) (v : Val) (c : Chip) (kept : odSorted (part .od c) = true) :
    odSorted (part .od (storeValue k v c)) = true := by
  unfold storeValue
  repeat' split
  all_goals simp +contextual (maxDischargeDepth := 20) [put_sorted, kept]

theorem storeAll_sorted (l : List (Key × Val)) (c : Chip) (kept : odSorted (part .od c) = true) :
    odSorted (part .od (storeAll l c)) = true := by
  unfold storeAll
  simp +contextual (maxDischargeDepth := 20) [each_sorted, storeValue_sorted, kept]

theorem loadChemistries_sorted (ks : List Key) (c : Chip) (kept : odSorted (part .od c) = true) :
    odSorted (part .od (loadChemistries ks c)) = true := by
  unfold loadChemistries
  simp +contextual (maxDischargeDepth := 20) [each_sorted, storeAll_sorted, kept]

theorem applyWrites_sorted (l : List (Key × Val)) (c : Chip) (kept : odSorted (part .od c) = true) :
    odSorted (part .od (applyWrites l c)) = true := by
  unfold applyWrites
  simp +contextual (maxDischargeDepth := 20) [loadChemistries_sorted, storeAll_sorted, kept]

theorem staging_sorted (c : Chip) (h : Hamper) (kept : odSorted (part .od c) = true) :
    odSorted (part .od (staging c h)) = true := by
  unfold staging
  simp +contextual (maxDischargeDepth := 20) [loadChemistries_sorted, storeAll_sorted, kept]

theorem applyHamper_sorted (h : Hamper) (c : Chip) (kept : odSorted (part .od c) = true) :
    odSorted (part .od (applyHamper h c)) = true := by
  unfold applyHamper
  simp +contextual (maxDischargeDepth := 20) [applyWrites_sorted, kept]

theorem applyDomain_sorted (h : Hamper) (c : Chip) (kept : odSorted (part .od c) = true) :
    odSorted (part .od (applyDomain h c)) = true := by
  unfold applyDomain
  dsimp only
  repeat' split
  all_goals simp +contextual (maxDischargeDepth := 20) [applyHamper_sorted, kept]

theorem domainApplyTime_sorted (handle : BitVec 8) (c : Chip) (kept : odSorted (part .od c) = true) :
    odSorted (part .od (domainApplyTime handle c)) = true := by
  unfold domainApplyTime
  repeat' split
  all_goals simp +contextual (maxDischargeDepth := 20) [applyDomain_sorted, kept]

theorem directWrite_sorted (o : Origin) (k : Key) (v : Val) (c : Chip) (kept : odSorted (part .od c) = true) :
    odSorted (part .od ((directWrite o k v c).2)) = true := by
  unfold directWrite
  try dsimp only
  repeat' split
  all_goals simp +contextual (maxDischargeDepth := 20) [applyWrites_sorted, kept]

theorem carryWrite_sorted (q : Req) (b : List Byte) (c : Chip) (kept : odSorted (part .od c) = true) :
    odSorted (part .od ((carryWrite q b c).chip)) = true := by
  unfold carryWrite
  dsimp only
  repeat' split
  all_goals first
    | (rw [commandWrite_part .od (by simp) (by simp) (by simp) (by simp) (by simp) (by simp) (by simp) (by simp)
        (by simp) (by simp) (by simp) (by simp) (by simp) (by simp) (by simp) (by simp) (by simp) (by simp) (by simp)
        (by simp) (by simp) (by simp) (by simp) _ _ _ _ _ (by assumption)]
       exact kept)
    | simp [directWrite_sorted, kept]

theorem carryOut_sorted (q : Req) (c : Chip) (kept : odSorted (part .od c) = true) :
    odSorted (part .od ((carryOut q c).chip)) = true := by
  unfold carryOut
  split <;> simp [carryWrite_sorted, kept]

theorem serve_sorted (q : Req) (c : Chip) (kept : odSorted (part .od c) = true) :
    odSorted (part .od (serve q c)) = true := by
  unfold serve
  dsimp only
  repeat' split
  all_goals simp +contextual (maxDischargeDepth := 20) [carryOut_sorted, when_sorted, chipReset_sorted, kept]

theorem writeBytes_sorted (o : Origin) (k : Key) (b : List Byte) (c : Chip) (kept : odSorted (part .od c) = true) :
    odSorted (part .od (writeBytes o k b c)) = true := by
  unfold writeBytes
  dsimp only
  repeat' split
  all_goals simp +contextual (maxDischargeDepth := 20) [serve_sorted, kept]

theorem writeNum_sorted (o : Origin) (k : Key) (v : Int) (c : Chip) (kept : odSorted (part .od c) = true) :
    odSorted (part .od (writeNum o k v c)) = true := by
  unfold writeNum
  repeat' split
  all_goals simp +contextual (maxDischargeDepth := 20) [writeBytes_sorted, kept]

theorem readNow_sorted (o : Origin) (k : Key) (c : Chip) (kept : odSorted (part .od c) = true) :
    odSorted (part .od (readNow o k c)) = true := by
  unfold readNow
  dsimp only
  repeat' split
  all_goals simp +contextual (maxDischargeDepth := 20) [serve_sorted, kept]

theorem objectWrite_sorted (o : Origin) (k : Key) (v : List Byte) (c : Chip) (kept : odSorted (part .od c) = true) :
    odSorted (part .od (objectWrite o k v c)) = true := by
  unfold objectWrite
  simp +contextual (maxDischargeDepth := 20) [writeBytes_sorted, kept]

theorem perhaps_sorted (q : Req) (c : Chip) (kept : odSorted (part .od c) = true) :
    odSorted (part .od (perhaps q c)) = true := by
  unfold perhaps
  dsimp only
  repeat' split
  all_goals simp +contextual (maxDischargeDepth := 20) [carryOut_sorted, when_sorted, chipReset_sorted, kept]

theorem marketCompletion_sorted (id : Nat) (memoryError : Bool) (c : Chip) (kept : odSorted (part .od c) = true) :
    odSorted (part .od (marketCompletion id memoryError c)) = true := by
  unfold marketCompletion
  repeat' split
  all_goals simp +contextual (maxDischargeDepth := 20) [perhaps_sorted, serve_sorted, kept]

theorem marketTimeout_sorted (id : Nat) (c : Chip) (kept : odSorted (part .od c) = true) :
    odSorted (part .od (marketTimeout id c)) = true := by
  unfold marketTimeout
  repeat' split
  all_goals simp +contextual (maxDischargeDepth := 20) [perhaps_sorted, kept]

theorem railEnableWrite_sorted (o : Origin) (r : Fin 16) (v : Int) (c : Chip) (kept : odSorted (part .od c) = true) :
    odSorted (part .od (railEnableWrite o r v c)) = true := by
  unfold railEnableWrite
  simp +contextual (maxDischargeDepth := 20) [writeNum_sorted, kept]

theorem railTargetWrite_sorted (o : Origin) (r : Fin 16) (v : Int) (c : Chip) (kept : odSorted (part .od c) = true) :
    odSorted (part .od (railTargetWrite o r v c)) = true := by
  unfold railTargetWrite
  simp +contextual (maxDischargeDepth := 20) [writeNum_sorted, kept]

theorem strRequalify_sorted (o : Origin) (n : Fin 4) (v : Int) (c : Chip) (kept : odSorted (part .od c) = true) :
    odSorted (part .od (strRequalify o n v c)) = true := by
  unfold strRequalify
  simp +contextual (maxDischargeDepth := 20) [writeNum_sorted, kept]

theorem battHeartbeat_sorted (o : Origin) (v : Int) (c : Chip) (kept : odSorted (part .od c) = true) :
    odSorted (part .od (battHeartbeat o v c)) = true := by
  unfold battHeartbeat
  simp +contextual (maxDischargeDepth := 20) [writeNum_sorted, kept]

theorem fallowRequest_sorted (o : Origin) (v : Int) (c : Chip) (kept : odSorted (part .od c) = true) :
    odSorted (part .od (fallowRequest o v c)) = true := by
  unfold fallowRequest
  simp +contextual (maxDischargeDepth := 20) [writeNum_sorted, kept]

theorem shipModeArm_sorted (o : Origin) (v : Int) (c : Chip) (kept : odSorted (part .od c) = true) :
    odSorted (part .od (shipModeArm o v c)) = true := by
  unfold shipModeArm
  simp +contextual (maxDischargeDepth := 20) [writeNum_sorted, kept]

theorem shipModeConfirm_sorted (o : Origin) (v : Int) (c : Chip) (kept : odSorted (part .od c) = true) :
    odSorted (part .od (shipModeConfirm o v c)) = true := by
  unfold shipModeConfirm
  simp +contextual (maxDischargeDepth := 20) [writeNum_sorted, kept]

theorem ppEnableWrite_sorted (o : Origin) (n : Fin 8) (v : Int) (c : Chip) (kept : odSorted (part .od c) = true) :
    odSorted (part .od (ppEnableWrite o n v c)) = true := by
  unfold ppEnableWrite
  simp +contextual (maxDischargeDepth := 20) [writeNum_sorted, kept]

theorem seqCommand_sorted (o : Origin) (v : Int) (c : Chip) (kept : odSorted (part .od c) = true) :
    odSorted (part .od (seqCommand o v c)) = true := by
  unfold seqCommand
  simp +contextual (maxDischargeDepth := 20) [writeNum_sorted, kept]

theorem traceArm_sorted (o : Origin) (m : Fin 16) (c : Chip) (kept : odSorted (part .od c) = true) :
    odSorted (part .od (traceArm o m c)) = true := by
  unfold traceArm
  simp +contextual (maxDischargeDepth := 20) [writeNum_sorted, kept]

theorem traceForce_sorted (o : Origin) (m : Fin 16) (c : Chip) (kept : odSorted (part .od c) = true) :
    odSorted (part .od (traceForce o m c)) = true := by
  unfold traceForce
  simp +contextual (maxDischargeDepth := 20) [writeNum_sorted, kept]

theorem traceIdle_sorted (o : Origin) (m : Fin 16) (c : Chip) (kept : odSorted (part .od c) = true) :
    odSorted (part .od (traceIdle o m c)) = true := by
  unfold traceIdle
  simp +contextual (maxDischargeDepth := 20) [writeNum_sorted, kept]

theorem fenceClear_sorted (o : Origin) (v : Int) (c : Chip) (kept : odSorted (part .od c) = true) :
    odSorted (part .od (fenceClear o v c)) = true := by
  unfold fenceClear
  simp +contextual (maxDischargeDepth := 20) [writeNum_sorted, kept]

theorem fenceClearOrigin_sorted (o : Origin) (v : Int) (c : Chip) (kept : odSorted (part .od c) = true) :
    odSorted (part .od (fenceClearOrigin o v c)) = true := by
  unfold fenceClearOrigin
  simp +contextual (maxDischargeDepth := 20) [writeNum_sorted, kept]

theorem hamperOpen_sorted (o : Origin) (c : Chip) (kept : odSorted (part .od c) = true) :
    odSorted (part .od (hamperOpen o c)) = true := by
  unfold hamperOpen
  simp +contextual (maxDischargeDepth := 20) [readNow_sorted, kept]

theorem hamperStage_sorted (o : Origin) (v : Int) (c : Chip) (kept : odSorted (part .od c) = true) :
    odSorted (part .od (hamperStage o v c)) = true := by
  unfold hamperStage
  simp +contextual (maxDischargeDepth := 20) [writeNum_sorted, kept]

theorem hamperWrite_sorted (o : Origin) (cmd node chandle : Nat) (h : BitVec 8) (c : Chip) (kept : odSorted (part .od c) = true) :
    odSorted (part .od (hamperWrite o cmd node chandle h c)) = true := by
  unfold hamperWrite
  simp +contextual (maxDischargeDepth := 20) [writeNum_sorted, kept]

theorem hamperCommit_sorted (o : Origin) (h : BitVec 8) (c : Chip) (kept : odSorted (part .od c) = true) :
    odSorted (part .od (hamperCommit o h c)) = true := by
  unfold hamperCommit
  simp +contextual (maxDischargeDepth := 20) [hamperWrite_sorted, kept]

theorem hamperCommitAt_sorted (o : Origin) (h : BitVec 8) (c : Chip) (kept : odSorted (part .od c) = true) :
    odSorted (part .od (hamperCommitAt o h c)) = true := by
  unfold hamperCommitAt
  simp +contextual (maxDischargeDepth := 20) [hamperWrite_sorted, kept]

theorem hamperCommitDomain_sorted (o : Origin) (h : BitVec 8) (c : Chip) (kept : odSorted (part .od c) = true) :
    odSorted (part .od (hamperCommitDomain o h c)) = true := by
  unfold hamperCommitDomain
  simp +contextual (maxDischargeDepth := 20) [hamperWrite_sorted, kept]

theorem hamperRollback_sorted (o : Origin) (h : BitVec 8) (c : Chip) (kept : odSorted (part .od c) = true) :
    odSorted (part .od (hamperRollback o h c)) = true := by
  unfold hamperRollback
  simp +contextual (maxDischargeDepth := 20) [hamperWrite_sorted, kept]

theorem hamperJoin_sorted (o : Origin) (h : BitVec 8) (node : Fin 1024) (chandle : BitVec 8) (c : Chip)
    (kept : odSorted (part .od c) = true) :
    odSorted (part .od (hamperJoin o h node chandle c)) = true := by
  unfold hamperJoin
  simp +contextual (maxDischargeDepth := 20) [hamperWrite_sorted, kept]

theorem laneEnableWrite_sorted (o : Origin) (v : Int) (c : Chip) (kept : odSorted (part .od c) = true) :
    odSorted (part .od (laneEnableWrite o v c)) = true := by
  unfold laneEnableWrite
  simp +contextual (maxDischargeDepth := 20) [writeNum_sorted, kept]

theorem laneTimeSet_sorted (o : Origin) (v : List Byte) (c : Chip) (kept : odSorted (part .od c) = true) :
    odSorted (part .od (laneTimeSet o v c)) = true := by
  unfold laneTimeSet
  simp +contextual (maxDischargeDepth := 20) [writeBytes_sorted, kept]

theorem laneGwRequest_sorted (o : Origin) (v : List Byte) (c : Chip) (kept : odSorted (part .od c) = true) :
    odSorted (part .od (laneGwRequest o v c)) = true := by
  unfold laneGwRequest
  simp +contextual (maxDischargeDepth := 20) [writeBytes_sorted, kept]

theorem laneGwResult_sorted (o : Origin) (c : Chip) (kept : odSorted (part .od c) = true) :
    odSorted (part .od (laneGwResult o c)) = true := by
  unfold laneGwResult
  simp +contextual (maxDischargeDepth := 20) [readNow_sorted, kept]

theorem srcEnableWrite_sorted (o : Origin) (i : Fin 256) (v : Int) (c : Chip) (kept : odSorted (part .od c) = true) :
    odSorted (part .od (srcEnableWrite o i v c)) = true := by
  unfold srcEnableWrite
  simp +contextual (maxDischargeDepth := 20) [writeNum_sorted, kept]

theorem srcForce_sorted (o : Origin) (i : Fin 256) (v : Int) (c : Chip) (kept : odSorted (part .od c) = true) :
    odSorted (part .od (srcForce o i v c)) = true := by
  unfold srcForce
  simp +contextual (maxDischargeDepth := 20) [writeNum_sorted, kept]

theorem exportStart_sorted (o : Origin) (v : Int) (c : Chip) (kept : odSorted (part .od c) = true) :
    odSorted (part .od (exportStart o v c)) = true := by
  unfold exportStart
  simp +contextual (maxDischargeDepth := 20) [writeNum_sorted, kept]

theorem exportAbandon_sorted (o : Origin) (v : Int) (c : Chip) (kept : odSorted (part .od c) = true) :
    odSorted (part .od (exportAbandon o v c)) = true := by
  unfold exportAbandon
  simp +contextual (maxDischargeDepth := 20) [writeNum_sorted, kept]

theorem exportReceipt_sorted (o : Origin) (digest : List Byte) (c : Chip) (kept : odSorted (part .od c) = true) :
    odSorted (part .od (exportReceipt o digest c)) = true := by
  unfold exportReceipt
  simp +contextual (maxDischargeDepth := 20) [writeBytes_sorted, kept]

theorem twinExercise_sorted (o : Origin) (v : Int) (c : Chip) (kept : odSorted (part .od c) = true) :
    odSorted (part .od (twinExercise o v c)) = true := by
  unfold twinExercise
  simp +contextual (maxDischargeDepth := 20) [writeNum_sorted, kept]

theorem chipResetCmd_sorted (o : Origin) (v : Int) (c : Chip) (kept : odSorted (part .od c) = true) :
    odSorted (part .od (chipResetCmd o v c)) = true := by
  unfold chipResetCmd
  simp +contextual (maxDischargeDepth := 20) [writeNum_sorted, kept]

theorem paramStoreCmd_sorted (o : Origin) (v : Int) (c : Chip) (kept : odSorted (part .od c) = true) :
    odSorted (part .od (paramStoreCmd o v c)) = true := by
  unfold paramStoreCmd
  simp +contextual (maxDischargeDepth := 20) [writeNum_sorted, kept]

theorem loadEntry_sorted (k : Key) (b : List Byte) (c : Chip) (kept : odSorted (part .od c) = true) :
    odSorted (part .od (loadEntry k b c)) = true := by
  unfold loadEntry
  repeat' split
  all_goals simp +contextual (maxDischargeDepth := 20) [put_sorted, kept]

theorem reloadComm_sorted (c : Chip) (kept : odSorted (part .od c) = true) :
    odSorted (part .od (reloadComm c)) = true := by
  unfold reloadComm
  dsimp only
  apply each_sorted
  · exact fun e c kept => loadEntry_sorted _ _ _ kept
  · exact odSorted_iff.2 ((odSorted_iff.1 kept).filter _)

theorem startComm_sorted (c : Chip) (kept : odSorted (part .od c) = true) :
    odSorted (part .od (startComm c)) = true := by
  unfold startComm
  simp +contextual (maxDischargeDepth := 20) [reloadComm_sorted, kept]

theorem hamletMarkReady_sorted (h : Fin 27) (c : Chip) (kept : odSorted (part .od c) = true) :
    odSorted (part .od (hamletMarkReady h c)) = true := by
  unfold hamletMarkReady
  repeat' split
  all_goals simp +contextual (maxDischargeDepth := 20) [startComm_sorted, kept]

theorem watchEvaluation_sorted (c : Chip) (kept : odSorted (part .od c) = true) :
    odSorted (part .od (watchEvaluation c)) = true := by
  unfold watchEvaluation
  dsimp only
  repeat' split
  all_goals simp +contextual (maxDischargeDepth := 20) [when_sorted, chipReset_sorted, kept]

theorem thermalShutdown_sorted (c : Chip) (kept : odSorted (part .od c) = true) :
    odSorted (part .od (thermalShutdown c)) = true := by
  unfold thermalShutdown
  dsimp only
  repeat' split
  all_goals simp +contextual (maxDischargeDepth := 20) [watchEvaluation_sorted, kept]

theorem thermalRestart_sorted (c : Chip) (kept : odSorted (part .od c) = true) :
    odSorted (part .od (thermalRestart c)) = true := by
  unfold thermalRestart
  repeat' split
  all_goals simp +contextual (maxDischargeDepth := 20) [chipReset_sorted, kept]

theorem reeveWatchdogExpiry_sorted (c : Chip) (kept : odSorted (part .od c) = true) :
    odSorted (part .od (reeveWatchdogExpiry c)) = true := by
  unfold reeveWatchdogExpiry
  repeat' split
  all_goals simp +contextual (maxDischargeDepth := 20) [chipReset_sorted, kept]

theorem applyMirror_sorted (seq : BitVec 32) (full : Bool) (items : List MirrorItem) (c : Chip) (kept : odSorted (part .od c) = true) :
    odSorted (part .od (applyMirror seq full items c)) = true := by
  unfold applyMirror
  dsimp only
  repeat' split
  all_goals simp +contextual (maxDischargeDepth := 20) [applyWrites_sorted, kept]

theorem applyItem_sorted (c d : Chip) (h : applyItem c = some d) (kept : odSorted (part .od c) = true) :
    odSorted (part .od d) = true := by
  unfold applyItem at h
  repeat' split at h
  all_goals first
    | (cases h; simp [applyHamper_sorted, applyWrites_sorted, applyMirror_sorted, kept])
    | cases h

theorem applyItems_sorted (n : Nat) (c : Chip) (kept : odSorted (part .od c) = true) :
    odSorted (part .od (applyItems n c)) = true := by
  induction n generalizing c with
  | zero => exact kept
  | succ n ih =>
    unfold applyItems
    split
    · exact ih _ (applyItem_sorted _ _ (by assumption) kept)
    · exact kept

theorem applyTick_sorted (c : Chip) (kept : odSorted (part .od c) = true) :
    odSorted (part .od (applyTick c)) = true := by
  unfold applyTick
  dsimp only
  repeat' split
  all_goals simp +contextual (maxDischargeDepth := 20) [each_sorted, applyDomain_sorted, applyItems_sorted, kept]

theorem nmtResetCommunication_sorted (l : Fin 2) (c : Chip) (kept : odSorted (part .od c) = true) :
    odSorted (part .od (nmtResetCommunication l c)) = true := by
  unfold nmtResetCommunication
  simp +contextual (maxDischargeDepth := 20) [when_sorted, startComm_sorted, kept]

theorem nmtResetNode_sorted (l : Fin 2) (c : Chip) (kept : odSorted (part .od c) = true) :
    odSorted (part .od (nmtResetNode l c)) = true := by
  unfold nmtResetNode
  simp +contextual (maxDischargeDepth := 20) [when_sorted, startComm_sorted, kept]

theorem updateRestartReset_sorted (c : Chip) (kept : odSorted (part .od c) = true) :
    odSorted (part .od (updateRestartReset c)) = true := by
  unfold updateRestartReset
  repeat' split
  all_goals simp +contextual (maxDischargeDepth := 20) [chipReset_sorted, kept]

theorem rstAssert_sorted (c : Chip) (kept : odSorted (part .od c) = true) :
    odSorted (part .od (rstAssert c)) = true := by
  unfold rstAssert
  simp +contextual (maxDischargeDepth := 20) [chipReset_sorted, kept]

theorem loadSet_sorted (s : Fin 2) (p : ParamRegion) (c : Chip) (kept : odSorted (part .od c) = true) :
    odSorted (part .od (loadSet s p c)) = true := by
  unfold loadSet
  dsimp only
  repeat' split
  all_goals simp +contextual (maxDischargeDepth := 20) [loadChemistries_sorted, storeAll_sorted, kept]

theorem loadParameters_sorted (c : Chip) (kept : odSorted (part .od c) = true) :
    odSorted (part .od (loadParameters c)) = true := by
  unfold loadParameters
  dsimp only
  repeat' split
  all_goals simp +contextual (maxDischargeDepth := 20) [loadSet_sorted, kept]

theorem bootParameterLoad_sorted (closed : List Bool) (c : Chip) (kept : odSorted (part .od c) = true) :
    odSorted (part .od (bootParameterLoad closed c)) = true := by
  unfold bootParameterLoad
  repeat' split
  all_goals simp +contextual (maxDischargeDepth := 20) [loadParameters_sorted, kept]

theorem startTogether_sorted (c : Chip) (kept : odSorted (part .od c) = true) :
    odSorted (part .od (startTogether c)) = true := by
  unfold startTogether
  simp +contextual (maxDischargeDepth := 20) [startComm_sorted, kept]

theorem bootComplete_sorted (c : Chip) (kept : odSorted (part .od c) = true) :
    odSorted (part .od (bootComplete c)) = true := by
  unfold bootComplete
  repeat' split
  all_goals simp +contextual (maxDischargeDepth := 20) [startTogether_sorted, kept]

end Sys2Proof.Machine
end

