-- ==== Sys2Proof/Tests/Slice0.lean ====
section
/-! SUPPORT. The model's own tests: ill-formed commands, the numbers that the spec works out, and for each statement with
hypotheses a state and operands that meet them. -/

namespace Sys2Proof.Tests
open Sys2Proof.Machine
set_option Elab.async false

/-! ### Commands that no port can carry -/

/-- A list of samples one of which is on a channel that no input feeds (Table 7.4). -/
def badSamples : List Sample := [{ ch := 5, inputs := [0] }, { ch := 200, inputs := [0] }]

theorem test_illformed_samples :
    ([.busshareRun badSamples, .wellrateRun badSamples, .railloopRun 0 badSamples, .balanceBidirRun 0 badSamples,
      .chargeRun badSamples, .estimatorSample 0 badSamples, .seqTick badSamples,
      .busshareRun [{ ch := 60, inputs := [0] }], .busshareRun [{ ch := 76, inputs := [0] }],
      .busshareRun [{ ch := 128, inputs := [0] }]] : List Instr).all (fun i => !i.wellFormed) = true := by decide

theorem test_illformed_values :
    ([.railEnableWrite .service 0 256, .railTargetWrite .service 0 2147483648, .strRequalify .service 0 (-1),
      .battHeartbeat .service 65536, .fallowRequest .service 256, .shipModeArm .service 65536,
      .shipModeConfirm .service (-1), .ppEnableWrite .service 0 256, .seqCommand .service 256,
      .fenceClear .service 4294967296, .fenceClearOrigin .service 65536, .hamperStage .service 256,
      .laneEnableWrite .service 256, .srcEnableWrite .service 0 256, .srcForce .service 0 (-1),
      .exportStart .service 256, .exportAbandon .service 256, .twinExercise .service 256, .chipResetCmd .service 65536,
      .paramStoreCmd .service 65536] : List Instr).all (fun i => !i.wellFormed) = true := by decide

theorem test_illformed_readings :
    ([.phaseKill 0 2147483648, .peakLimit 0 (-2147483649), .ppKill 0 2147483648, .oringReverseTurnoff 0 (-2147483649),
      .supplyWarning 2147483648, .supplyOutOfWindow 245 (-2147483649), .handoverTrigger 4294967296 [],
      .handoverTrigger 0 badSamples, .syncLockStart 0 4294967296, .ownInFall 4294967296, .dieSensorRead [],
      .bootParameterLoad [true], .bootNorDiscovered (some { sizeMiB := 65536, ioMode := 0, clock := 0 }) false,
      .bootNorDiscovered (some { sizeMiB := 0, ioMode := 256, clock := 0 }) false,
      .bootNorDiscovered (some { sizeMiB := 0, ioMode := 0, clock := 4294967296 }) false] : List Instr).all (fun i => !i.wellFormed) = true := by decide

theorem test_illformed_keys :
    ([.objectWrite .service 0x1000000 [], .marketDispatch .service 0x1000000, .svcRead 0 0x1000000,
      .svcWrite 0 0x1000000 [], .svcWrite 0 0 (List.replicate 4094 0), .svcDomainRead 0 0x1000000 0 0,
      .svcDomainRead 0 0 4294967296 0, .svcDomainRead 0 0 0 65536, .svcDomainWrite 0 0x1000000 0 [] true,
      .svcDomainWrite 0 0 4294967296 [] true, .svcDomainWrite 0 0 0 (List.replicate 4090 0) true,
      .svcRate 0 4294967296, .svcSlotRead 0 256 0 0, .svcSlotRead 0 0 4294967296 0, .svcSlotRead 0 0 0 65536,
      .updateBegin 0 0 4294967296, .updateData 0 4294967296 [0], .updateData 0 0 (List.replicate 4093 0),
      .updateData 0 0 []] : List Instr).all (fun i => !i.wellFormed) = true := by decide +kernel

/-- A HAMPER frame whose T is too wide. -/
def badDomain : DomainFrame := { coordinator := 0, handle := 0, applyTime := 2 ^ 64 }

theorem test_illformed_domain_frames :
    ([.domainPrepareReceive badDomain, .domainVoteReceive 0 badDomain, .domainGoReceive badDomain,
      .domainArmedReceive 0 badDomain, .domainCommitReceive badDomain, .domainAbortReceive badDomain,
      .domainAppliedReceive 0 badDomain,
      .domainGoReceive { badDomain with applyTime := 0, deadline := 2 ^ 64 }] : List Instr).all
      (fun i => !i.wellFormed) = true := by decide

theorem test_illformed_host_frames :
    ([.usdoRequest 0 { write := true, k := 0x1000000, segmented := false, data := [] },
      .usdoRequest 0 { write := false, k := 0, segmented := false, data := [0] },
      .rpdoReceive 0 0 (List.replicate 65 0), .twWrite { addr := 0, seq := 0, k := 0x1000000, len := 0, data := [], pec := none },
      .twWrite { addr := 0, seq := 0, k := 0, len := 256, data := [], pec := none },
      .twWrite { addr := 0, seq := 0, k := 0, len := 0, data := List.replicate 256 0, pec := none },
      .twRead { addr := 0, seq := 0, k := 0, len := 0, data := [0], pec := none },
      .lifecycleTransition 0 { target := 0, nonce := [], publicKey := List.replicate 64 0, signature := List.replicate 64 0 },
      .lifecycleTransition 0 { target := 0, nonce := List.replicate 16 0, publicKey := [], signature := List.replicate 64 0 },
      .lifecycleTransition 0 { target := 0, nonce := List.replicate 16 0, publicKey := List.replicate 64 0, signature := [] }]
      : List Instr).all (fun i => !i.wellFormed) = true := by decide +kernel

theorem test_illformed_lane_frames :
    ([.shareFrameReceive 0 { group := 0, state := 0, flags := 0, budget := 2147483648, demand := 0, well := 0, ride := 0 },
      .shareFrameReceive 0 { group := 0, state := 0, flags := 0, budget := 0, demand := 2147483648, well := 0, ride := 0 },
      .shareFrameReceive 0 { group := 0, state := 0, flags := 0, budget := 0, demand := 0, well := 2 ^ 32, ride := 0 },
      .shareFrameReceive 0 { group := 0, state := 0, flags := 0, budget := 0, demand := 0, well := 0, ride := 2 ^ 32 },
      .laneFrameReceive .a { dest := 0, cls := 0, src := 0, seq := 0, dir := false, hops := 0, turns := 0, hchk := 0, crc := 0
                             payload := List.replicate 512 0 },
      .rollReceive { node := 0, flags := {}, masterId := 0, hops := 0, epoch := 0, serial := 2 ^ 64, age := 0 },
      .rollReceive { node := 0, flags := {}, masterId := 0, hops := 0, epoch := 0, serial := 0, age := 2 ^ 32 },
      .tsyncReceive .a { flags := {}, masterId := 0, hops := 0, epoch := 0, departure := 2 ^ 64, arrival := 0 },
      .tsyncReceive .a { flags := {}, masterId := 0, hops := 0, epoch := 0, departure := 0, arrival := 2 ^ 64 },
      .dreqReceive .a (2 ^ 64), .drspReceive .a (2 ^ 64) 0 0, .drspReceive .a 0 (2 ^ 64) 0, .drspReceive .a 0 0 (2 ^ 64),
      .laneTimeSet .service (List.replicate 4097 0), .gwResponseReceive 0 false true (List.replicate 257 0)]
      : List Instr).all (fun i => !i.wellFormed) = true := by decide +kernel

theorem test_illformed_requests_and_state_frames :
    ([.odRequestReceive 0 { op := .read, tag := 0, k := 0x1000000, last := true, offset := 0, length := 0, data := [] },
      .odRequestReceive 0 { op := .read, tag := 0, k := 0, last := true, offset := 2 ^ 32, length := 0, data := [] },
      .odRequestReceive 0 { op := .read, tag := 0, k := 0, last := true, offset := 0, length := 65536, data := [] },
      .odRequestReceive 0 { op := .write, tag := 0, k := 0, last := true, offset := 0, length := 0, data := List.replicate 241 0 },
      .almFetchReceive 0 { tag := 0, minSeverity := 256, count := 1, first := 0 },
      .almFetchReceive 0 { tag := 0, minSeverity := 0, count := 65536, first := 0 },
      .almFetchReceive 0 { tag := 0, minSeverity := 0, count := 1, first := 2 ^ 32 },
      .twinStateReceive { role := 256, state := 0, healthy := true, ready := true, ret := false, heartbeat := 0, laneTime := 0, almSequence := 0 },
      .twinStateReceive { role := 0, state := 256, healthy := true, ready := true, ret := false, heartbeat := 0, laneTime := 0, almSequence := 0 },
      .twinStateReceive { role := 0, state := 0, healthy := true, ready := true, ret := false, heartbeat := 2 ^ 32, laneTime := 0, almSequence := 0 },
      .twinStateReceive { role := 0, state := 0, healthy := true, ready := true, ret := false, heartbeat := 0, laneTime := 2 ^ 64, almSequence := 0 },
      .twinStateReceive { role := 0, state := 0, healthy := true, ready := true, ret := false, heartbeat := 0, laneTime := 0, almSequence := 2 ^ 32 }] : List Instr).all (fun i => !i.wellFormed) = true := by decide +kernel

/-! ### Numbers that the spec works out -/

/-- Words of the listing of Table 7.17: RD S0, 56; SUB S2, S0, S1; LDA S3, F 0; MAC C0, S5, F 0; STA S3, M 1; CMP S3, S4;
BR LE, 16; BR NE, 17; WR 08h:01h, S2; END. -/
theorem test_words_of_listing :
    fmtR 0x19 0 56 0 0 0 0 = 0x643800000000#48 ∧ fmtR 0x0C 0 0 2 0 1 0 = 0x300004000800#48 ∧
    fmtR 0x06 0 0 0 3 0 0 = 0x1800000C0000#48 ∧ fmtR 0x08 0 0 0 5 0 0 = 0x200000140000#48 ∧
    fmtR 0x07 1 0 3 0 0 0 = 0x1D0006000000#48 ∧ fmtR 0x15 0 0 0 3 4 0 = 0x5400000C2000#48 ∧
    fmtR 0x02 0 6 0 0 0 16 = 0x080600000010#48 ∧ fmtR 0x02 0 2 0 0 0 17 = 0x080200000011#48 ∧
    fmtR 0x1A 0 8 0 2 0 1 = 0x680800080001#48 ∧ fmtR 0x01 0 0 0 0 0 0 = 0x040000000000#48 := by decide

/-- LDI S4, 00200000h and LDI S6, 1 (Table 7.17). -/
theorem test_ldi_words : fmtL 4 0x200000 = 0x0C2000200000#48 ∧ fmtL 6 1 = 0x0C3000000001#48 := by decide

/-- 0.002 is stored at shift -8 as 4189374Ch, 5.5 at +3 as 58000000h, and 1 at +1 as 40000000h (R44, Table 2.3). -/
theorem test_coefficients_of_table_2_3 :
    (encodeCoef (2 / 1000)).map (fun k => (k.value, k.shift)) = some (0x4189374C, -8) ∧
    (encodeCoef (11 / 2)).map (fun k => (k.value, k.shift)) = some (0x58000000, 3) ∧
    (encodeCoef 1).map (fun k => (k.value, k.shift)) = some (0x40000000, 1) := by decide +kernel

/-- 0.330978 and -0.222030 have the stored words of Table 3.4 (R44). -/
theorem test_stored_words_of_table_3_4 :
    (encodeCoef (330978 / 1000000)).map (fun k => (k.value, k.shift)) = some (0x54BAF966, -1) ∧
    (encodeCoef (-222030 / 1000000)).map (fun k => (k.value, k.shift)) = some (0x8E521577, -2) := by decide +kernel

/-- The lead terms of rail 2 are the printed values of Table 3.4, to a unit of their last place. -/
theorem test_lead_terms_of_table_3_4 :
    (leadTerms 500000 3200 80000).zipWith (fun x y => decide (ratAbs (x - y) < 1 / 100000))
      [1697173 / 100000, -1630271 / 100000, 330978 / 1000000] = [true, true, true] ∧
    (leadTerms 500000 3200 250000).zipWith (fun x y => decide (ratAbs (x - y) < 1 / 100000))
      [3100043 / 100000, -2977840 / 100000, -222030 / 1000000] = [true, true, true] := by decide +kernel

/-- WM4 of the worked example of the monitors: full scale 300 V and thresholds of 228 V and 252 V, in 100 µV units. -/
def wm4 : Chip :=
  put (kWmOvFault 4) (.num 252000) (put (kWmUvFault 4) (.num 228000) (put (kWmScale 4) (.num 300000) (put (kWmEnable 4) (.num 1) {})))

/-- The codes of WM4 are 779 and 860. -/
theorem test_codes_of_wm4 : uvCode wm4 4 = 779 ∧ ovCode wm4 4 = 860 := by decide +kernel

/-- The CRC-32 of the nine digits is the check value of the polynomial of R331 with its initial value and final XOR. -/
theorem test_crc32_check_value : crc32 [0x31, 0x32, 0x33, 0x34, 0x35, 0x36, 0x37, 0x38, 0x39] = 0xCBF43926 := by decide +kernel

/-- The CRC-16 of HCHK over the nine digits is the check value of polynomial 1021h with initial value FFFFh. -/
theorem test_crc16_check_value : crc16 [0x31, 0x32, 0x33, 0x34, 0x35, 0x36, 0x37, 0x38, 0x39] = 0x29B1 := by decide +kernel

/-- The digest of "abc" and the signature of "sample" are the published ones (FIPS 180-4, RFC 6979 A.2.5): the digest, a key, and
the signature (r, then s) of the message with that key; another message does not verify. -/
theorem test_sha256_and_ecdsa_vectors :
    leNat (sha256 [0x61, 0x62, 0x63]).toList.reverse = 0xBA7816BF8F01CFEA414140DE5DAE2223B00361A396177A9CB410FF61F20015AD ∧
    (let be (v : Nat) : List Byte := (leBytes 32 v).reverse
     let publicKey := be 0x60FED4BA255A9D31C961EB74C6356D68C049B8923B61FA6CE669622E60F29FB6 ++
       be 0x7903FE1008B8BC99A41AE9E95628BC64F2F1B20C2D7E9F5177A3C294D4462299
     let signature := be 0xEFD48B2AACB6A8FD1140DD9CD45E81D69D2C877B56AAF991C34D0EA84EAF3716 ++
       be 0xF7CB1C942D657C41D436C7A1B6E29F65F3E900DBB9AFF4064DC4AB2F843ACDA8
     let digest (m : List Byte) := (sha256 m).toList
     ecdsaVerify publicKey (digest [0x73, 0x61, 0x6D, 0x70, 0x6C, 0x65]) signature = true ∧
     ecdsaVerify publicKey (digest [0x73, 0x61, 0x6D, 0x70, 0x6C]) signature = false) := by decide +kernel

/-- The digital signal balls are the 190 of R455, each once. -/
theorem test_digital_balls : digitalBalls.length = 190 ∧ digitalBalls.Nodup := by decide +kernel

/-! ### States that meet the hypotheses of the statements -/

/-- A unit that runs: booted, not in the safe state, every hamlet's clock on. -/
def up : Chip :=
  { boot := { phase := .running }, reeve := { halted := false }, hamlets := Vector.replicate 27 { run := true } }
/-- A unit whose mill 0 runs BUSSHARE, with tap 0 fitted and valid. -/
def hosted : Chip :=
  put (kMillUnit0 0 0) (.num 0x300) (put (kMillSource 0) (.num 1) (put kBusTapFitted (.num 1)
    { up with mills := (Vector.replicate 16 {}).set 0 { state := .ready, slots := Vector.replicate 4 true }, bus := { tapOk := Vector.replicate 4 true } }))
/-- A unit whose mill 0 runs WELLRATE. -/
def hosted5 : Chip :=
  put (kMillUnit0 0 0) (.num 0x500) (put (kMillSource 0) (.num 1)
    { up with mills := (Vector.replicate 16 {}).set 0 { state := .ready, slots := Vector.replicate 4 true } })
/-- A member of the Lane and of share group 1. -/
def laneUp : Chip := put kShareGroup (.num 1) { up with lane := { state := .member } }

/-- A unit whose rail 0 is a BUCK rail of phases 0 and 1 on VC port 0, enabled, in a state; mill 0 runs RAILLOOP. -/
def buckUp (st : RailState) : Chip :=
  put (kMillUnit0 0 0) (.num 0x100) (put (kMillSource 0) (.num 1) (put (kRailVcMax 0) (.num 20000) (put (kRailVcPort 0) (.num 0)
    (put (kRailEnable 0) (.num 1) (put (kRailPhaseMask 0) (.num 3) (put (kRailType 0) (.num 1)
    { up with rails := (Vector.replicate 16 {}).set 0 { state := st }
              mills := (Vector.replicate 16 {}).set 0 { state := .ready, slots := Vector.replicate 4 true } }))))))
/-- A unit whose rail 0 is a BIDIR rail of phases 0 and 1, in a state; mill 0 runs BALANCE. -/
def bidirUp (st : RailState) : Chip :=
  put (kMillUnit0 0 0) (.num 0x200) (put (kMillSource 0) (.num 1) (put (kStrRail 0) (.num 0)
    (put (kRailEnable 0) (.num 1) (put (kRailPhaseMask 0) (.num 3) (put (kRailType 0) (.num 2)
    { up with rails := (Vector.replicate 16 {}).set 0 { state := st }
              mills := (Vector.replicate 16 {}).set 0 { state := .ready, slots := Vector.replicate 4 true } })))))

/-- A unit whose strings 0 and 3 are fitted on rails 0 and 3, string 0 in a state, in ON-SOURCE; mill 0 runs CHARGE. -/
def strUp (st : StrState) : Chip :=
  put (kMillUnit0 0 0) (.num 0x400) (put (kMillSource 0) (.num 1) (put (kRailType 0) (.num 2) (put (kStrRail 3) (.num 3) (put (kStrRail 0) (.num 0)
    { up with strs := (Vector.replicate 4 {}).set 0 { state := st }
              rails := (Vector.replicate 16 {}).set 0 { state := .regulate }
              mills := (Vector.replicate 16 {}).set 0 { state := .ready, slots := Vector.replicate 4 true } }))))

/-- A unit whose mill 0 runs custom millwork whose next instruction is `w`. -/
def millUp (w : BitVec 48) : Chip :=
  put (kMillSource 0) (.num 2)
    { up with mills := (Vector.replicate 16 {}).set 0 { state := .ready, program := [w], running := some 0, words := Vector.replicate 128 0x80000000 } }

/-- A unit whose CAN ports are both in use and Operational; TPDO 0 and RPDO 0 are valid, of type FEh, and map `BusTarget`. -/
def canUp : Chip :=
  put (kTpdoCobId 0) (.num 0x18F) (put (kTpdoMap 0 0) (.num 0x2C100320) (put (kTpdoMapCount 0) (.num 1) (put (kTpdoType 0) (.num 0xFE)
    (put (kRpdoCobId 0) (.num 0x20F) (put (kRpdoMap 0 0) (.num 0x2C100320) (put (kRpdoMapCount 0) (.num 1) (put (kRpdoType 0) (.num 0xFE)
      (put kCanMode (.num 1) { up with can := { nmt := .operational } }))))))))

/-- A unit on whose Watch stile an event of a source waits, the source enabled with a set. -/
def eventUp (i : Fin 256) (set : Int) : Chip :=
  put (kSrcEnable i) (.num 1) (put (kSrcReaction i) (.num set) { up with watch := { arrived := [{ src := i, code := 7, value := 9 }] } })



/-- A member of the Lane with one hamper. -/
def hamperUp (x : Hamper) : Chip := { laneUp with hampers := { list := [x] } }
/-- A coordinator hamper of this unit, in a state: its one node is 0, its T is 5 ms. -/
def coordinator (st : HamperState) : Hamper :=
  { handle := 1, origin := .service, state := st, mode := .coordinator, nodes := [1], t := 5000000 }
/-- A participant hamper of node 0's hamper 7, in a state. -/
def participant (st : HamperState) : Hamper :=
  { handle := 1, origin := .service, state := st, mode := .participant, join := some (0, 7) }

/-- A public key whose secret is 1, and the signature of a message with it. -/
def testKey : List Byte := (leBytes 32 p256Base.x).reverse ++ (leBytes 32 p256Base.y).reverse
def testSignature (m : List Byte) : List Byte :=
  (leBytes 32 p256Base.x).reverse ++ (leBytes 32 ((beNat (sha256 m).toList + p256Base.x) % p256Order)).reverse
/-- A signed image with an empty body (Table 14.6). -/
def image (generation : Nat) : Image :=
  let header := padTo 32 ([0x49, 0x4D, 1, 0] ++ leBytes 4 generation ++ leBytes 8 0 ++ leBytes 4 0x6410) ++ (sha256 []).toList
  { bytes := header ++ testKey ++ testSignature header }
/-- A committed parameter set with no entries (Table 14.9). -/
def emptySet (generation : Nat) : ParamRegion :=
  let header := paramHeader 1 generation 0 0 0 0 0 0
  { header := header, marker := paramMarker header [] }
/-- A unit at a step of the boot, with a directory and signed images in both slots. -/
def booting (n : Fin 12) : Chip :=
  { boot := { phase := .step n }, fuses := { keyHash := (sha256 testKey).toList }
    nor := { directory := Vector.replicate 2 (dirBytes 1 16), images := #v[image 1, image 2] } }

/-- An event record of severity ERROR. -/
def loggedRecord : Record := { kind := .event .raised, severity := 3, source := 0, code := 0 }

/-- A DEPLOYED unit whose export is RECEIPTED, with a nonce in force, and the transition to RETIRED signed for it. -/
def retiring : Chip :=
  { up with
    fuses := { keyHash := (sha256 testKey).toList }, lc := { nonce := some (List.replicate 16 9, 0) }
    alm := { frozen := { state := .receipted } } }
def retirement : LcTransition :=
  { target := 4, nonce := List.replicate 16 9, publicKey := testKey
    signature := testSignature (List.replicate 8 0 ++ [2, 4] ++ List.replicate 16 9) }

/-- The hypotheses of `Obligations.ClockAndHamletCommands` are met. -/
theorem witness_ClockAndHamletCommands :
    (∃ (s : State), resettable s.chip ∧ s.chip.clock.refLost = false) ∧
    (∃ (s : State), resettable s.chip ∧ s.chip.clock.refLost = true) ∧
    (∃ (s : State) (h : Fin 27), s.chip.hamlets[h].blkrst = true) ∧
    (∃ (s : State) (h : Fin 27), s.chip.hamlets[h].closed = true ∧ s.chip.hamlets[h].blkrst = false ∧ reeveRuns s.chip) ∧
    (∃ (s : State) (h : Fin 27) (g : Signal) (rest : List Packet), hamletShut s.chip.hamlets[h] = false ∧ firstSignal
      s.chip.hamlets[h].inbox = some (g, rest)) ∧
    (∃ (s : State) (h : Fin 27), live s.chip ∧ 2 ≤ h.val ∧ s.chip.hamlets[h].run = false ∧ s.chip.hamlets[h].blkrst = false) ∧
    (∃ (s : State) (h : Fin 27), live s.chip ∧ 2 ≤ h.val ∧ s.chip.hamlets[h].waking = true) ∧
    (∃ (s : State) (h : Fin 27), s.chip.hamlets[h].parked = true ∧ s.chip.hamlets[h].run = true) ∧
    (∃ (s : State), reeveRuns s.chip ∧ s.chip.watch.safe = false ∧ resettable s.chip) :=
  ⟨⟨{ chip := up }, by decide +kernel⟩,
   ⟨{ chip := { up with clock := { refLost := true } } }, by decide +kernel⟩,
   ⟨{ chip := { up with hamlets := Vector.replicate 27 { blkrst := true } } }, 3, by decide +kernel⟩,
   ⟨{ chip := { up with hamlets := Vector.replicate 27 { closed := true, run := true } } }, 11, by decide +kernel⟩,
   ⟨{ chip := { up with hamlets := Vector.replicate 27 { run := true, inbox := [.request 7, .signal (.interrupt 5)] } } }, 2,
     .interrupt 5, [.request 7], by decide +kernel⟩,
   ⟨{ chip := { up with hamlets := Vector.replicate 27 { inbox := [.request 7] } } }, 2, by decide +kernel⟩,
   ⟨{ chip := { up with hamlets := Vector.replicate 27 { waking := true } } }, 26, by decide +kernel⟩,
   ⟨{ chip := { up with hamlets := Vector.replicate 27 { parked := true, run := true } } }, 5, by decide +kernel⟩,
   ⟨{ chip := up }, by decide +kernel⟩⟩

/-- The hypotheses of `Obligations.RectifierAndTapCommands` are met. -/
theorem witness_RectifierAndTapCommands :
    (∃ (s : State) (n : Fin 8), 2450000 < (chanOf s.chip (48 + n)).pin) ∧
    (∃ (s : State), tapsSettled s.chip) ∧
    (∃ (s : State), tapsSettled s.chip ∧ anyTapValid s.chip = false) ∧
    (∃ (s : State) (samples : List Sample) (u : Unit4), samples.all Sample.fits ∧ trackOf s.chip = none ∧ hostOf s.chip 3 0 =
      some u ∧ unitRuns (takeSamples samples s.chip) u ∧ trimsHeld s.chip = false) ∧
    (∃ (s : State) (samples : List Sample) (u : Unit4), samples.all Sample.fits ∧ trackOf s.chip = none ∧ hostOf s.chip 3 0 =
      some u ∧ unitRuns (takeSamples samples s.chip) u ∧ trimsHeld s.chip = true) ∧
    (∃ (s : State), live s.chip) ∧
    (∃ (s : State), live s.chip ∧ busOutside s.chip) :=
  ⟨⟨{ chip := { up with chans := Vector.replicate 256 { pin := 2450001 } } }, 7, by decide +kernel⟩,
   ⟨{ chip := { hosted with bus := { tapOk := Vector.replicate 4 true, tapsJudged := true }, clock := { us := 10000 } } },
     by decide +kernel⟩,
   ⟨{ chip := { up with bus := { tapsJudged := true }, clock := { us := 10000 } } }, by decide +kernel⟩,
   ⟨{ chip := hosted }, [], { mill := 0, slot := 0 }, by decide +kernel⟩,
   ⟨{ chip := { hosted with bus := { state := .handover } } }, [{ ch := 127, inputs := [5] }], { mill := 0, slot := 0 },
     by decide +kernel⟩,
   ⟨{ chip := up }, by decide +kernel⟩,
   ⟨{ chip := up }, by decide +kernel⟩⟩

/-- The hypotheses of `Obligations.PlantSharingAndWellCommands` are met. -/
theorem witness_PlantSharingAndWellCommands :
    (∃ (s : State), nat s.chip kShareGroup ≠ 0 ∧ drives s.chip ∧ s.chip.lane.state = .member ∧ laneActive s.chip) ∧
    (∃ (s : State), nat s.chip kShareGroup ≠ 0 ∧ drives s.chip ∧ s.chip.bus.state ≠ .handover ∧ 0 ≤ num s.chip kShareBand) ∧
    (∃ (s : State) (node : Fin 1024) (p : SharePayload), p.fits ∧ laneMember s.chip ∧ nat s.chip kShareGroup ≠ 0 ∧ p.group.toNat
      = nat s.chip kShareGroup ∧ node.val ≠ s.chip.lane.nodeIdNow) ∧
    (∃ (s : State), nat s.chip kShareGroup ≠ 0 ∧ live s.chip) ∧
    (∃ (s : State) (samples : List Sample) (u : Unit4), samples.all Sample.fits ∧ hostOf s.chip 5 0 = some u ∧ unitRuns
      (takeSamples samples s.chip) u) ∧
    (∃ (s : State), live s.chip) ∧
    (∃ (s : State), live s.chip ∧ s.chip.well.stale = false) ∧
    (∃ (s : State), live s.chip ∧ s.chip.well.stale = true) :=
  ⟨⟨{ chip := laneUp }, by decide +kernel⟩,
   ⟨{ chip := laneUp }, by decide +kernel⟩,
   ⟨{ chip := laneUp }, 1022,
     { group := 1, state := 0, flags := 0, budget := -2147483648, demand := 0, well := 0, ride := 4294967295 },
     by decide +kernel⟩,
   ⟨{ chip := laneUp }, by decide +kernel⟩,
   ⟨{ chip := hosted5 }, [], { mill := 0, slot := 0 }, by decide +kernel⟩,
   ⟨{ chip := up }, by decide +kernel⟩,
   ⟨{ chip := up }, by decide +kernel⟩,
   ⟨{ chip := { up with well := { stale := true } } }, by decide +kernel⟩⟩

/-- The hypotheses of `Obligations.HandoverAndHandbackCommands` are met. -/
theorem witness_HandoverAndHandbackCommands :
    (∃ (s : State) (fallTime : Nat) (samples : List Sample), fallTime < 2 ^ 32 ∧ samples.all Sample.fits ∧ drives s.chip ∧
      (s.chip.bus.state = .onSource ∨ s.chip.bus.state = .handback) ∧ triggerHolds (takeSamples samples s.chip)) ∧
    (∃ (s : State) (timedOut : Bool), s.chip.bus.state = .handover ∧ drives s.chip ∧ (timedOut || !((List.finRange 4).any
      (available s.chip)) || allDischarging s.chip) = true) ∧
    (∃ (s : State), s.chip.bus.state = .onBattery ∧ drives s.chip ∧ sourceGood s.chip) ∧
    (∃ (s : State), s.chip.bus.state = .qualifying ∧ drives s.chip ∧ sourceGood s.chip = false) ∧
    (∃ (s : State), s.chip.bus.state = .qualifying ∧ drives s.chip ∧ sourceGood s.chip) ∧
    (∃ (s : State), s.chip.bus.state = .handback ∧ drives s.chip) :=
  ⟨⟨{ chip := put (kRmFitted 3) (.num 1) { up with rms := Vector.replicate 8 { en := true, alarm := true } } }, 4294967295, [],
     by decide +kernel⟩,
   ⟨{ chip := { up with bus := { state := .handover } } }, true, by decide +kernel⟩,
   ⟨{ chip := { up with bus := { state := .onBattery, voltage := 2147483647 } } }, by decide +kernel⟩,
   ⟨{ chip := { up with bus := { state := .qualifying } } }, by decide +kernel⟩,
   ⟨{ chip := { up with bus := { state := .qualifying, voltage := 2147483647 }, strs := Vector.replicate 4 { state := .inService } } },
     by decide +kernel⟩,
   ⟨{ chip := { up with bus := { state := .handback } } }, by decide +kernel⟩⟩

/-- The hypotheses of `Obligations.CappingCommands` are met. -/
theorem witness_CappingCommands :
    (∃ (s : State), drives s.chip) ∧
    (∃ (s : State), drives s.chip ∧ s.chip.cap.awaitReeval = true) ∧
    (∃ (s : State) (n : Fin 8), drives s.chip ∧ (refreshCap s.chip).cap.shed.getLast? = some n ∧ capExcess (refreshCap s.chip) ≤
      0 ∧ (s.chip.pps[n].shedPower : Rat) < -capExcess (refreshCap s.chip)) ∧
    (∃ (s : State), drives s.chip ∧ capExcess s.chip ≤ 0 ∧ s.chip.cap.shed = [] ∧ s.chip.cap.doorLevel < 10000) ∧
    (∃ (s : State), drives s.chip ∧ capExcess s.chip ≤ 0 ∧ s.chip.cap.shed = [] ∧ s.chip.cap.doorLevel = 10000 ∧
      s.chip.cap.vcLevel < 10000) ∧
    (∃ (s : State), drives s.chip ∧ s.chip.cap.doorLevel < 10000) ∧
    (∃ (s : State), drives s.chip ∧ 3 ≤ s.chip.cap.stage) :=
  ⟨⟨{ chip := up }, by decide +kernel⟩,
   ⟨{ chip := { up with cap := { awaitReeval := true } } }, by decide +kernel⟩,
   ⟨{ chip := { up with pps := (Vector.replicate 8 {}).set 7 { state := .shed, shedPower := -1 }, cap := { shed := [7] } } }, 7,
     by decide +kernel⟩,
   ⟨{ chip := { up with cap := { doorLevel := 9999 } } }, by decide +kernel⟩,
   ⟨{ chip := { up with cap := { vcLevel := 0 } } }, by decide +kernel⟩,
   ⟨{ chip := { up with cap := { doorLevel := 0 } } }, by decide +kernel⟩,
   ⟨{ chip := { up with cap := { stage := 3 } } }, by decide +kernel⟩⟩

/-- The hypotheses of `Obligations.RailStateCommands` are met. -/
theorem witness_RailStateCommands :
    (∃ (s : State) (r : Fin 16), s.chip.rails[r].state = .onDelay ∧ drives s.chip) ∧
    (∃ (s : State) (r : Fin 16), s.chip.rails[r].state = .ramp ∧ drives s.chip ∧ (if railType s.chip r = 2 then bidirQuiet s.chip
      r (nat s.chip (kRailRampTime r)) else refAtTarget s.chip r) = true) ∧
    (∃ (s : State) (r : Fin 16), s.chip.rails[r].state = .offDelay ∧ drives s.chip) ∧
    (∃ (s : State) (r : Fin 16), s.chip.rails[r].state = .rampDown ∧ drives s.chip ∧ (if railType s.chip r = 2 then bidirQuiet
      s.chip r (nat s.chip (kRailRampDownTime r)) else decide (s.chip.rails[r].ref ≤ 0)) = true) ∧
    (∃ (s : State) (r : Fin 16), switching s.chip.rails[r] ∧ drives s.chip) ∧
    (∃ (s : State) (r : Fin 16), s.chip.rails[r].state = .fbHold ∧ drives s.chip) ∧
    (∃ (s : State) (r : Fin 16), s.chip.rails[r].state = .dutyRamp ∧ drives s.chip ∧ ((∀ p ∈ activePhases s.chip r,
      s.chip.phases[p].duty = 0))) ∧
    (∃ (s : State) (r : Fin 16), s.chip.rails[r].state = .fault ∧ drives s.chip ∧ flag s.chip (kRailAutoRestart r) ∧ startCond
      s.chip r ∧ causeCleared s.chip r) :=
  ⟨⟨{ chip := buckUp .onDelay }, 0, by decide +kernel⟩,
   ⟨{ chip := buckUp .ramp }, 0, by decide +kernel⟩,
   ⟨{ chip := buckUp .offDelay }, 0, by decide +kernel⟩,
   ⟨{ chip := buckUp .rampDown }, 0, by decide +kernel⟩,
   ⟨{ chip := buckUp .regulate }, 0, by decide +kernel⟩,
   ⟨{ chip := { up with rails := Vector.replicate 16 { state := .fbHold } } }, 15, by decide +kernel⟩,
   ⟨{ chip := { up with rails := Vector.replicate 16 { state := .dutyRamp } } }, 15, by decide +kernel⟩,
   ⟨{ chip := put (kRailAutoRestart 0) (.num 1) { buckUp .fault with seq := { upComplete := true } } }, 0, by decide +kernel⟩⟩

/-- The hypotheses of `Obligations.PhaseAndSyncCommands` are met. -/
theorem witness_PhaseAndSyncCommands :
    (∃ (s : State) (p : Fin 32) (current : Int) (r : Fin 16), inRange current (-2147483648) 2147483647 ∧ railOfPhase s.chip p =
      some r ∧ live s.chip ∧ comparatorLimit s.chip p (num s.chip (kPhKillLimit p)) ≤ ratAbs ((current : Rat) / 1000)) ∧
    (∃ (s : State) (p : Fin 32) (current : Int) (r : Fin 16), 0 ≤ current ∧ current ≤ 2147483647 ∧ railOfPhase s.chip p = some r
      ∧ s.chip.phases[p].drven = true ∧ comparatorLimit s.chip p (num s.chip (kPhPeakLimit p)) ≤ ratAbs ((current : Rat) / 1000)) ∧
    (∃ (s : State) (p : Fin 32) (current : Int) (r : Fin 16), -2147483648 ≤ current ∧ current < 0 ∧ railOfPhase s.chip p = some r
      ∧ s.chip.phases[p].drven = true ∧ comparatorLimit s.chip p (num s.chip (kPhPeakLimit p)) ≤ ratAbs ((current : Rat) / 1000)
      ∧ (railType s.chip r = 2 ∨ s.chip.rails[r].state = .rampDown)) ∧
    (∃ (s : State) (p : Fin 32) (r : Fin 16), railOfPhase s.chip p = some r ∧ s.chip.phases[p].drven = true) ∧
    (∃ (s : State) (r : Fin 16) (frequency : Nat), frequency < 2 ^ 32 ∧ live s.chip ∧ nat s.chip (kRailSyncMode r) ≠ 0 ∧ 100000 ≤
      frequency ∧ frequency ≤ 2000000 ∧ 9 * nat s.chip (kRailFsw r) ≤ 10 * lockFrequency (nat s.chip (kRailSyncMode r)) frequency
      ∧ 10 * lockFrequency (nat s.chip (kRailSyncMode r)) frequency ≤ 11 * nat s.chip (kRailFsw r)) ∧
    (∃ (s : State) (r : Fin 16), s.chip.rails[r].syncStarted = true ∧ live s.chip) ∧
    (∃ (s : State) (r : Fin 16), (s.chip.rails[r].syncLock = true ∨ s.chip.rails[r].syncStarted = true) ∧ live s.chip) :=
  ⟨⟨{ chip := buckUp .regulate }, 1, -2147483648, 0, by decide +kernel⟩,
   ⟨{ chip := { buckUp .regulate with phases := Vector.replicate 32 { drven := true } } }, 1, 2147483647, 0, by decide +kernel⟩,
   ⟨{ chip := { buckUp .rampDown with phases := Vector.replicate 32 { drven := true } } }, 1, -2147483648, 0, by decide +kernel⟩,
   ⟨{ chip := { buckUp .regulate with phases := Vector.replicate 32 { drven := true, dutyNext := some 1 } } }, 0, 0,
     by decide +kernel⟩,
   ⟨{ chip := put (kRailSyncMode 3) (.num 2) up }, 3, 450000, by decide +kernel⟩,
   ⟨{ chip := { up with rails := Vector.replicate 16 { syncStarted := true } } }, 15, by decide +kernel⟩,
   ⟨{ chip := { up with rails := Vector.replicate 16 { syncLock := true } } }, 15, by decide +kernel⟩⟩

/-- The hypotheses of `Obligations.LoopLawCommands` are met. -/
theorem witness_LoopLawCommands :
    (∃ (s : State) (r : Fin 16) (samples : List Sample) (u : Unit4), samples.all Sample.fits ∧ trackOf s.chip = none ∧ hostOf
      s.chip 1 r = some u ∧ unitRuns (takeSamples samples s.chip) u ∧ railType s.chip r = 1 ∧ switching s.chip.rails[r]) ∧
    (∃ (s : State) (r : Fin 16) (samples : List Sample) (u : Unit4), samples.all Sample.fits ∧ trackOf s.chip = none ∧ hostOf
      s.chip 2 r = some u ∧ unitRuns (takeSamples samples s.chip) u ∧ railType s.chip r = 2 ∧ switching s.chip.rails[r]) ∧
    (∃ (s : State) (r : Fin 16) (samples : List Sample) (u : Unit4) (t : TrackFrame), samples.all Sample.fits ∧ trackOf s.chip =
      some t ∧ hostOf s.chip 2 r = some u ∧ unitRuns (takeSamples samples s.chip) u ∧ railType s.chip r = 2 ∧ switching
      s.chip.rails[r]) :=
  ⟨⟨{ chip := buckUp .regulate }, 0, [{ ch := 0, inputs := [5] }], { mill := 0, slot := 0 }, by decide +kernel⟩,
   ⟨{ chip := bidirUp .regulate }, 0, [], { mill := 0, slot := 0 }, by decide +kernel⟩,
   ⟨{ chip := { bidirUp .regulate with twin := { state := .standby, track := some { trims := Vector.replicate 8 1, duties := Vector.replicate 16 2, commands := Vector.replicate 4 0 } } } },
     0, [], { mill := 0, slot := 0 },
     { trims := Vector.replicate 8 1, duties := Vector.replicate 16 2, commands := Vector.replicate 4 0 }, by decide +kernel⟩⟩

/-- The hypotheses of `Obligations.VoltageCommandPortCommands` are met. -/
theorem witness_VoltageCommandPortCommands :
    (∃ (s : State) (n : Fin 4) (arg : BitVec 16) (r : Fin 16), vcRail s.chip n = some r ∧ s.chip.rails[r].state = .regulate ∧ num
      s.chip (kRailVcMin r) ≤ arg.toNat * 10 ∧ (arg.toNat : Int) * 10 ≤ num s.chip (kRailVcMax r) ∧ s.chip.vcs[n].queue.length +
      (if s.chip.vcs[n].inFlight.isSome then 2 else 1) ≤ 16) ∧
    (∃ (s : State) (n : Fin 4) (arg : BitVec 16) (r : Fin 16), vcRail s.chip n = some r ∧ arg ≠ 0) ∧
    (∃ (s : State) (n : Fin 4) (r : Fin 16), vcRail s.chip n = some r) ∧
    (∃ (s : State) (n : Fin 4) (r : Fin 16) (d : VcDone) (rest : List VcDone), vcRail s.chip n = some r ∧ s.chip.vcs[n].queue = d
      :: rest) ∧
    (∃ (s : State) (n : Fin 4) (sel : BitVec 6) (r : Fin 16) (d : BitVec 16), vcRail s.chip n = some r ∧ sel ≠ 0 ∧ vcData s.chip
      n r sel.toNat = some d) ∧
    (∃ (s : State) (n : Fin 4) (frame : BitVec 40) (r : Fin 16), vcRail s.chip n = some r ∧ crc8Bits (bitsOf 32 (frame.toNat /
      256)) 0 ≠ frame.toNat % 256) ∧
    (∃ (s : State) (n : Fin 4) (frame : BitVec 40) (r : Fin 16), vcRail s.chip n = some r ∧ crc8Bits (bitsOf 32 (frame.toNat /
      256)) 0 = frame.toNat % 256 ∧ (field frame.toNat 36 4 = 0 ∨ 4 < field frame.toNat 36 4)) ∧
    (∃ (s : State) (n : Fin 4) (r : Fin 16), vcRail s.chip n = some r) ∧
    (∃ (s : State) (n : Fin 4) (r : Fin 16), vcRail s.chip n = some r) ∧
    (∃ (s : State) (n : Fin 4) (r : Fin 16), vcRail s.chip n = some r ∧ s.chip.vcs[n].response.isSome) ∧
    (∃ (s : State) (n : Fin 4) (r : Fin 16) (t : BitVec 6), vcRail s.chip n = some r ∧ s.chip.vcs[n].inFlight = some t ∧
      s.chip.rails[r].state = .regulate ∧ refAtTarget s.chip r ∧ 8 ≤ s.chip.rails[r].settled) ∧
    (∃ (s : State) (n : Fin 4) (r : Fin 16) (t : BitVec 6), vcRail s.chip n = some r ∧ s.chip.vcs[n].inFlight = some t ∧
      refAtTarget s.chip r) ∧
    (∃ (s : State) (n : Fin 4) (r : Fin 16), vcRail s.chip n = some r ∧ s.chip.vcs[n].levelPending = true) :=
  ⟨⟨{ chip := buckUp .regulate }, 0, 2000, 0, by decide +kernel⟩,
   ⟨{ chip := buckUp .off }, 0, 1, 0, by decide +kernel⟩,
   ⟨{ chip := buckUp .off }, 0, 0, by decide +kernel⟩,
   ⟨{ chip := { buckUp .off with vcs := Vector.replicate 4 { queue := [{ tag := 3, code := 1 }] } } }, 0, 0,
     { tag := 3, code := 1 }, [], by decide +kernel⟩,
   ⟨{ chip := buckUp .off }, 0, 3, 0, 0, by decide +kernel⟩,
   ⟨{ chip := buckUp .off }, 0, 1, 0, by decide +kernel⟩,
   ⟨{ chip := { buckUp .off with rails := Vector.replicate 16 { vcErrors := 65535 } } }, 0, 0, 0, by decide +kernel⟩,
   ⟨{ chip := buckUp .off }, 0, 0, by decide +kernel⟩,
   ⟨{ chip := buckUp .off }, 0, 0, by decide +kernel⟩,
   ⟨{ chip := { buckUp .off with vcs := Vector.replicate 4 { response := some { word := 0, data := none, crc := 0 } } } }, 0, 0,
     by decide +kernel⟩,
   ⟨{ chip := { buckUp .off with vcs := Vector.replicate 4 { inFlight := some 5 }, rails := Vector.replicate 16 { state := .regulate, settled := 8 } } },
     0, 0, 5, by decide +kernel⟩,
   ⟨{ chip := { buckUp .regulate with vcs := Vector.replicate 4 { inFlight := some 5 } } }, 0, 0, 5, by decide +kernel⟩,
   ⟨{ chip := { buckUp .off with vcs := Vector.replicate 4 { levelPending := true } } }, 0, 0, by decide +kernel⟩⟩

/-- The hypotheses of `Obligations.ChannelCheckCommands` are met. -/
theorem witness_ChannelCheckCommands :
    (∃ (s : State) (ch : Fin 256), live s.chip ∧ converted ch ∧ s.chip.chans[ch].pilotFail = false) ∧
    (∃ (s : State) (ch : Fin 256), live s.chip ∧ converted ch ∧ s.chip.chans[ch].pilotFail = true) ∧
    (∃ (s : State) (ch : Fin 256), live s.chip ∧ converted ch ∧ s.chip.chans[ch].rangeFail = false ∧ overRange ch
      s.chip.chans[ch].pin) ∧
    (∃ (s : State) (ch : Fin 256), live s.chip ∧ rippled s.chip ch ∧ s.chip.chans[ch].rippleFail = false) :=
  ⟨⟨{ chip := buckUp .regulate }, 32, by decide +kernel⟩,
   ⟨{ chip := { up with chans := Vector.replicate 256 { pilotFail := true } } }, 127, by decide +kernel⟩,
   ⟨{ chip := { buckUp .regulate with chans := Vector.replicate 256 { pin := 2000000 } } }, 1, by decide +kernel⟩,
   ⟨{ chip := { buckUp .regulate with phases := Vector.replicate 32 { duty := 1073741824 } } }, 32, by decide +kernel⟩⟩

/-- The hypotheses of `Obligations.PhaseFailureCommands` are met. -/
theorem witness_PhaseFailureCommands :
    (∃ (s : State) (p : Fin 32) (r : Fin 16), railOfPhase s.chip p = some r ∧ switching s.chip.rails[r] ∧ drives s.chip ∧
      s.chip.phases[p].dropped = false ∧ s.chip.phases[p].pendingCause = .none ∧ looksOpen s.chip r p) ∧
    (∃ (s : State) (p : Fin 32) (r : Fin 16), railOfPhase s.chip p = some r ∧ switching s.chip.rails[r] ∧ drives s.chip ∧
      s.chip.phases[p].dropped = false ∧ s.chip.phases[p].pendingCause = .none ∧ disagrees s.chip r p) ∧
    (∃ (s : State) (p : Fin 32) (r : Fin 16), railOfPhase s.chip p = some r ∧ switching s.chip.rails[r] ∧ drives s.chip ∧
      s.chip.phases[p].pendingCause ≠ .none) ∧
    (∃ (s : State) (r : Fin 16), phLost s.chip r ∧ s.chip.rails[r].iLim = true ∧ drives s.chip) ∧
    (∃ (s : State) (r : Fin 16), s.chip.rails[r].capReq = true ∧ s.chip.rails[r].iLim = true ∧ drives s.chip) ∧
    (∃ (s : State) (r : Fin 16), s.chip.rails[r].capReq = true ∧ s.chip.rails[r].iLim = false ∧ drives s.chip) :=
  ⟨⟨{ chip := { buckUp .regulate with chans := (Vector.replicate 256 {}).set 0 { word := 0x7FFFFFFF }, phases := Vector.replicate 32 { duty := 1073741824 } } },
     1, 0, by decide +kernel⟩,
   ⟨{ chip := { buckUp .regulate with chans := (Vector.replicate 256 {}).set 0 { word := 0x7FFFFFFF } } }, 1, 0,
     by decide +kernel⟩,
   ⟨{ chip := { buckUp .regulate with phases := Vector.replicate 32 { pendingCause := .pilot } } }, 1, 0, by decide +kernel⟩,
   ⟨{ chip := { buckUp .regulate with phases := Vector.replicate 32 { dropped := true }, rails := Vector.replicate 16 { iLim := true } } },
     0, by decide +kernel⟩,
   ⟨{ chip := { buckUp .regulate with rails := Vector.replicate 16 { iLim := true, capReq := true, capLevel := 300 } } }, 0,
     by decide +kernel⟩,
   ⟨{ chip := { buckUp .regulate with rails := Vector.replicate 16 { capReq := true, capLevel := 9900 } } }, 0,
     by decide +kernel⟩⟩

/-- The hypotheses of `Obligations.StringStateCommands` are met. -/
theorem witness_StringStateCommands :
    (∃ (s : State) (n : Fin 4), ((chanOf s.chip (72 + n)).pin < 12000 ∨ 1190000 < (chanOf s.chip (72 + n)).pin)) ∧
    (∃ (s : State) (n : Fin 4), s.chip.strs[n].state = .qualifying ∧ drives s.chip ∧ val s.chip (64 + n) < presenceLevel s.chip
      n) ∧
    (∃ (s : State) (n : Fin 4), s.chip.strs[n].state = .qualifying ∧ drives s.chip ∧ s.chip.strs[n].pattern = .none ∧
      strAwaitsEntry s.chip n = false ∧ strHeld s.chip n = false ∧ inQualWindow s.chip n) ∧
    (∃ (s : State) (n : Fin 4), s.chip.strs[n].state = .qualifying ∧ drives s.chip ∧ s.chip.strs[n].pattern = .none ∧
      (strAwaitsEntry s.chip n || strHeld s.chip n) = true ∧ inQualWindow s.chip n) ∧
    (∃ (s : State) (n : Fin 4), s.chip.strs[n].state = .closing ∧ drives s.chip) ∧
    (∃ (s : State) (n : Fin 4), s.chip.strs[n].state = .closing ∧ drives s.chip) ∧
    (∃ (s : State) (n : Fin 4), (s.chip.strs[n].state = .opened ∨ s.chip.strs[n].state = .ship) ∧ drives s.chip) ∧
    (∃ (s : State) (n : Fin 4) (cause : RemovalCause), removable s.chip.strs[n].state cause ∧ removed s.chip n cause ∧ drives
      s.chip) ∧
    (∃ (s : State) (n : Fin 4), s.chip.strs[n].state = .absent ∧ drives s.chip ∧ presenceLevel s.chip n < val s.chip (64 + n)) ∧
    (∃ (s : State) (n : Fin 4), s.chip.strs[n].state = .absent ∧ drives s.chip ∧ strHeld s.chip n = false ∧ presenceLevel s.chip
      n < val s.chip (64 + n)) ∧
    (∃ (s : State) (n : Fin 4), s.chip.strs[n].pattern = .set) ∧
    (∃ (s : State) (n : Fin 4), s.chip.strs[n].pattern = .clear ∧ s.chip.strs[n].state = .qualifying ∧ (strAwaitsEntry s.chip n
      || strHeld s.chip n) = true) ∧
    (∃ (s : State) (n : Fin 4), s.chip.strs[n].pattern = .clear ∧ s.chip.strs[n].state = .qualifying ∧ strAwaitsEntry s.chip n =
      false ∧ strHeld s.chip n = false) :=
  ⟨⟨{ chip := { up with strs := Vector.replicate 4 { state := .qualifying } } }, 3, by decide +kernel⟩,
   ⟨{ chip := put (kStrShutdownVoltage 3) (.num 10) { up with strs := Vector.replicate 4 { state := .qualifying } } }, 3,
     by decide +kernel⟩,
   ⟨{ chip := put (kStrCellVmax 3) (.num 50000)
       (put (kStrCells 3) (.num 14) { up with strs := Vector.replicate 4 { state := .qualifying }, chans := Vector.replicate 256 { word := 210000000 } }) },
     3, by decide +kernel⟩,
   ⟨{ chip := put (kStrCellVmax 3) (.num 50000) (put (kStrCells 3) (.num 14) (put kSeqUpLength (.num 1)
       (put (kSeqUpWordA 0) (.num 0x43000000) { up with strs := Vector.replicate 4 { state := .qualifying }, chans := Vector.replicate 256 { word := 210000000 } }))) },
     3, by decide +kernel⟩,
   ⟨{ chip := { up with strs := Vector.replicate 4 { state := .closing } } }, 3, by decide +kernel⟩,
   ⟨{ chip := { up with strs := Vector.replicate 4 { state := .closing } } }, 3, by decide +kernel⟩,
   ⟨{ chip := { up with strs := Vector.replicate 4 { state := .opened } } }, 3, by decide +kernel⟩,
   ⟨{ chip := { up with strs := Vector.replicate 4 { state := .inService } } }, 3, .feedbackOpen, by decide +kernel⟩,
   ⟨{ chip := { up with strs := Vector.replicate 4 { state := .absent }, chans := Vector.replicate 256 { word := 210000000 } } },
     3, by decide +kernel⟩,
   ⟨{ chip := { up with strs := Vector.replicate 4 { state := .absent }, chans := Vector.replicate 256 { word := 210000000 } } },
     3, by decide +kernel⟩,
   ⟨{ chip := { up with strs := Vector.replicate 4 { pattern := .set } } }, 3, by decide +kernel⟩,
   ⟨{ chip := put kSeqUpLength (.num 1)
       (put (kSeqUpWordA 0) (.num 0x43000000) { up with strs := Vector.replicate 4 { pattern := .clear, state := .qualifying } }) },
     3, by decide +kernel⟩,
   ⟨{ chip := { up with strs := Vector.replicate 4 { pattern := .clear, state := .qualifying } } }, 3, by decide +kernel⟩⟩

/-- The hypotheses of `Obligations.ShipModeAndWatchdogCommands` are met. -/
theorem witness_ShipModeAndWatchdogCommands :
    (∃ (s : State), s.chip.batt.shipPending = true ∧ drives s.chip) ∧
    (∃ (s : State), s.chip.batt.shipBoot = true ∧ drives s.chip ∧ sourceGood s.chip) ∧
    (∃ (s : State), drives s.chip) ∧
    (∃ (s : State), s.chip.batt.longOpen = true ∧ drives s.chip) ∧
    (∃ (s : State), s.chip.batt.wdRunning = true ∧ s.chip.batt.expired = false ∧ live s.chip) :=
  ⟨⟨{ chip := { strUp .inService with batt := { shipPending := true } } }, by decide +kernel⟩,
   ⟨{ chip := { strUp .ship with batt := { shipBoot := true }, bus := { voltage := 2147483647 } } }, by decide +kernel⟩,
   ⟨{ chip := strUp .inService }, by decide +kernel⟩,
   ⟨{ chip := { strUp .opened with batt := { longOpen := true } } }, by decide +kernel⟩,
   ⟨{ chip := { strUp .inService with batt := { wdRunning := true } } }, by decide +kernel⟩⟩

/-- The hypotheses of `Obligations.ChargeCommands` are met. -/
theorem witness_ChargeCommands :
    (∃ (s : State) (samples : List Sample) (u : Unit4), samples.all Sample.fits ∧ trackOf s.chip = none ∧ hostOf s.chip 4 0 =
      some u ∧ unitRuns (takeSamples samples s.chip) u) ∧
    (∃ (s : State) (samples : List Sample) (u : Unit4) (t : TrackFrame), samples.all Sample.fits ∧ trackOf s.chip = some t ∧
      hostOf s.chip 4 0 = some u ∧ unitRuns (takeSamples samples s.chip) u) ∧
    (∃ (s : State) (n : Fin 4), (strRail s.chip n).isSome ∧ live s.chip ∧ hundredMicro (num s.chip (kStrCellVmax n)) * nat s.chip
      (kStrCells n) < val s.chip (64 + n)) ∧
    (∃ (s : State) (n : Fin 4), s.chip.strs[n].phase = .cc ∧ s.chip.strs[n].wdFallback = false ∧ live s.chip) ∧
    (∃ (s : State) (n : Fin 4), s.chip.strs[n].phase = .absorb ∧ live s.chip) ∧
    (∃ (s : State) (n : Fin 4), s.chip.strs[n].phase = .float ∧ s.chip.strs[n].wdFallback = false ∧ live s.chip ∧
      s.chip.ests[n].socAbs < nat s.chip (kStrRebulkSoc n)) :=
  ⟨⟨{ chip := strUp .inService }, [], { mill := 0, slot := 0 }, by decide +kernel⟩,
   ⟨{ chip := { strUp .inService with twin := { state := .standby, track := some { trims := Vector.replicate 8 1, duties := Vector.replicate 16 2, commands := Vector.replicate 4 9 } } } },
     [], { mill := 0, slot := 0 },
     { trims := Vector.replicate 8 1, duties := Vector.replicate 16 2, commands := Vector.replicate 4 9 }, by decide +kernel⟩,
   ⟨{ chip := { strUp .inService with chans := Vector.replicate 256 { word := 210000000 } } }, 3, by decide +kernel⟩,
   ⟨{ chip := { up with strs := Vector.replicate 4 { phase := .cc } } }, 3, by decide +kernel⟩,
   ⟨{ chip := { up with strs := Vector.replicate 4 { phase := .absorb } } }, 3, by decide +kernel⟩,
   ⟨{ chip := { up with strs := Vector.replicate 4 { phase := .float } } }, 3, by decide +kernel⟩⟩

/-- The hypotheses of `Obligations.EstimatorAndFallowCommands` are met. -/
theorem witness_EstimatorAndFallowCommands :
    (∃ (s : State) (n : Fin 4) (samples : List Sample), samples.all Sample.fits ∧ live s.chip ∧ (strRail s.chip n).isSome ∧
      s.chip.strs[n].frozen = false) ∧
    (∃ (s : State), live s.chip) ∧
    (∃ (s : State) (n : Fin 4), s.chip.strs[n].resting = true ∧ s.chip.strs[n].frozen = false ∧ (strRail s.chip n).isSome ∧
      drives s.chip) ∧
    (∃ (s : State) (n : Fin 4), drives s.chip ∧ fallowChoice s.chip = some n ∧ fallowMayStart s.chip n) ∧
    (∃ (s : State) (n : Fin 4), drives s.chip ∧ s.chip.batt.fallowString = some n ∧ fallowHolds s.chip n = false) ∧
    (∃ (s : State) (n : Fin 4), drives s.chip ∧ s.chip.batt.fallowString = some n) ∧
    (∃ (s : State), drives s.chip ∧ s.chip.alm.direct = false ∧ s.chip.batt.slotWrite = none) ∧
    (∃ (s : State) (k : Fin 2) (e : List Byte), s.chip.batt.slotWrite = some (k, e) ∧ s.chip.batt.slotOwed = false) :=
  ⟨⟨{ chip := strUp .inService }, 3, [{ ch := 71, inputs := [65536] }], by decide +kernel⟩,
   ⟨{ chip := up }, by decide +kernel⟩,
   ⟨{ chip := { strUp .inService with strs := Vector.replicate 4 { state := .fallow, resting := true }, batt := { fallowString := some 3 } } },
     3, by decide +kernel⟩,
   ⟨{ chip := put kFallowEnable (.num 1) (put kWellFloor (.num 0) { strUp .inService with batt := { fallowChosen := some 0 } }) },
     0, by decide +kernel⟩,
   ⟨{ chip := put kFallowEnable (.num 0) { strUp .fallow with batt := { fallowString := some 0 } } }, 0, by decide +kernel⟩,
   ⟨{ chip := { strUp .fallow with batt := { fallowString := some 0 } } }, 0, by decide +kernel⟩,
   ⟨{ chip := strUp .inService }, by decide +kernel⟩,
   ⟨{ chip := { up with batt := { slotWrite := some (1, List.replicate 256 7) } } }, 1, List.replicate 256 7, by decide +kernel⟩⟩

/-- The hypotheses of `Obligations.PortTripAndRetryCommands` are met. -/
theorem witness_PortTripAndRetryCommands :
    (∃ (s : State) (n : Fin 8) (pair : Int), inRange pair (-2147483648) 2147483647 ∧ drives s.chip ∧ ppTripable s.chip n ∧
      comparatorTrips s.chip n pair) ∧
    (∃ (s : State) (n : Fin 8) (pair : Int), inRange pair (-2147483648) 2147483647 ∧ drives s.chip ∧ s.chip.pps[n].state ≠ .off ∧
      ppLimits s.chip n ∧ ppTripable s.chip n = false ∧ comparatorTrips s.chip n pair) ∧
    (∃ (s : State) (n : Fin 8) (pair : Int), inRange pair (-2147483648) 2147483647 ∧ drives s.chip ∧ ppRole s.chip n = 2 ∧
      s.chip.pps[n].state ≠ .off ∧ s.chip.pps[n].state ≠ .on ∧ comparatorTrips s.chip n pair) ∧
    (∃ (s : State) (n : Fin 8) (pair : Int), inRange pair (-2147483648) 2147483647 ∧ drives s.chip ∧ ppRole s.chip n = 2 ∧
      s.chip.pps[n].state = .on ∧ comparatorTrips s.chip n pair) ∧
    (∃ (s : State) (n : Fin 8), drives s.chip ∧ ppTripable s.chip n ∧ s.chip.pps[n].timer = true) ∧
    (∃ (s : State) (n : Fin 8), drives s.chip ∧ s.chip.pps[n].timer = true ∧ s.chip.pps[n].limiting = false) ∧
    (∃ (s : State) (n : Fin 8), drives s.chip ∧ s.chip.pps[n].state = .ramp) ∧
    (∃ (s : State) (n : Fin 8), drives s.chip ∧ s.chip.pps[n].state = .retryWait) ∧
    (∃ (s : State) (n : Fin 8), drives s.chip ∧ s.chip.pps[n].pg = true) ∧
    (∃ (s : State) (n : Fin 8), drives s.chip ∧ s.chip.pps[n].state = .reverse ∧ hundredMicro (num s.chip (kPpOrOnDrop n)) ≤ val
      s.chip (96 + n)) :=
  ⟨⟨{ chip := put (kPpRole 7) (.num 1) { up with pps := Vector.replicate 8 { state := .on } } }, 7, 2147483647,
     by decide +kernel⟩,
   ⟨{ chip := put (kPpRole 7) (.num 3) { up with pps := Vector.replicate 8 { state := .shed } } }, 7, 2147483647,
     by decide +kernel⟩,
   ⟨{ chip := put (kPpRole 7) (.num 2) { up with pps := Vector.replicate 8 { state := .reverse } } }, 7, -2147483648,
     by decide +kernel⟩,
   ⟨{ chip := put (kPpRole 7) (.num 2) { up with pps := Vector.replicate 8 { state := .on } } }, 7, -2147483648,
     by decide +kernel⟩,
   ⟨{ chip := put (kPpRole 7) (.num 3) ({ up with pps := Vector.replicate 8 { state := .ramp, timer := true } }) }, 7,
     by decide +kernel⟩,
   ⟨{ chip := { up with pps := Vector.replicate 8 { timer := true } } }, 7, by decide +kernel⟩,
   ⟨{ chip := { up with pps := Vector.replicate 8 { state := .ramp } } }, 7, by decide +kernel⟩,
   ⟨{ chip := { up with pps := Vector.replicate 8 { state := .retryWait, uvOk := true, ovOk := true } } }, 7, by decide +kernel⟩,
   ⟨{ chip := { up with pps := Vector.replicate 8 { pg := true } } }, 7, by decide +kernel⟩,
   ⟨{ chip := { up with pps := Vector.replicate 8 { state := .reverse }, chans := Vector.replicate 256 { word := 210000000 } } },
     7, by decide +kernel⟩⟩

/-- The hypotheses of `Obligations.PortRampAndPowerGoodCommands` are met. -/
theorem witness_PortRampAndPowerGoodCommands :
    (∃ (s : State) (n : Fin 8), live s.chip ∧ ppRole s.chip n ≠ 2 ∧ s.chip.pps[n].state = .ramp) ∧
    (∃ (s : State) (n : Fin 8), live s.chip ∧ ppRole s.chip n ≠ 2 ∧ s.chip.pps[n].state = .on) ∧
    (∃ (s : State) (n : Fin 8), live s.chip ∧ ppRole s.chip n = 2 ∧ s.chip.pps[n].state = .on) ∧
    (∃ (s : State) (n : Fin 8), drives s.chip ∧ s.chip.pps[n].state = .insert ∧ windowsOk s.chip.pps[n]) ∧
    (∃ (s : State) (n : Fin 8), drives s.chip ∧ s.chip.pps[n].state = .ramp ∧ outputUp s.chip n) ∧
    (∃ (s : State) (n : Fin 8), drives s.chip ∧ ppGood s.chip n ∧ s.chip.pps[n].pg = false) ∧
    (∃ (s : State) (n : Fin 8), drives s.chip ∧ ppGood s.chip n = false ∧ s.chip.pps[n].pg = true ∧ s.chip.pps[n].timer = false) ∧
    (∃ (s : State) (samples : List Sample), samples.all Sample.fits ∧ drives s.chip) :=
  ⟨⟨{ chip := { up with pps := Vector.replicate 8 { state := .ramp } } }, 7, by decide +kernel⟩,
   ⟨{ chip := put (kPpRole 7) (.num 1) { up with pps := Vector.replicate 8 { state := .on } } }, 7, by decide +kernel⟩,
   ⟨{ chip := put (kPpRole 7) (.num 2) { up with pps := Vector.replicate 8 { state := .on } } }, 7, by decide +kernel⟩,
   ⟨{ chip := { up with pps := Vector.replicate 8 { state := .insert, uvOk := true, ovOk := true } } }, 7, by decide +kernel⟩,
   ⟨{ chip := { up with pps := Vector.replicate 8 { state := .ramp } } }, 7, by decide +kernel⟩,
   ⟨{ chip := put (kPpRole 7) (.num 2) ({ up with pps := Vector.replicate 8 { state := .on } }) }, 7, by decide +kernel⟩,
   ⟨{ chip := { up with pps := Vector.replicate 8 { pg := true } } }, 7, by decide +kernel⟩,
   ⟨{ chip := put (kPpRole 7) (.num 1) { up with pps := Vector.replicate 8 { state := .waitInput } } },
     [{ ch := 32, inputs := [1] }], by decide +kernel⟩⟩

/-- The hypotheses of `Obligations.MonitorCommands` are met. -/
theorem witness_MonitorCommands :
    (∃ (s : State) (m : Fin 64), flag s.chip (kWmEnable m) ∧ live s.chip) ∧
    (∃ (s : State) (m : Fin 64), flag s.chip (kWmEnable m) ∧ live s.chip ∧ s.chip.wms[m].faultOv = false ∧ flag s.chip (kWmOvKill
      m) = false) ∧
    (∃ (s : State) (m : Fin 64) (r : Fin 16), flag s.chip (kWmEnable m) ∧ live s.chip ∧ s.chip.wms[m].faultOv = false ∧ flag
      s.chip (kWmOvKill m) ∧ wmRail s.chip m = some r) ∧
    (∃ (s : State) (m : Fin 64), flag s.chip (kWmEnable m) ∧ live s.chip) ∧
    (∃ (s : State) (m : Fin 64), flag s.chip (kWmEnable m) ∧ live s.chip ∧ wmStale s.chip m = false ∧ withMargin (num s.chip
      (kWmOvWarn m)) s.chip.wms[m].ovMargin < (s.chip.wms[m].value : Rat)) ∧
    (∃ (s : State) (m : Fin 64), flag s.chip (kWmEnable m) ∧ live s.chip ∧ wmStale s.chip m = false ∧ uvMasked s.chip m = false ∧
      (s.chip.wms[m].value : Rat) < withMargin (num s.chip (kWmUvWarn m)) s.chip.wms[m].uvMargin) ∧
    (∃ (s : State) (m : Fin 64), flag s.chip (kWmEnable m) ∧ live s.chip ∧ wmStale s.chip m = false ∧ (s.chip.wms[m].value : Rat)
      ≤ withMargin (num s.chip (kWmOvWarn m)) s.chip.wms[m].ovMargin - (num s.chip (kWmHyst m) : Rat) * num s.chip (kWmScale m) /
      1024) ∧
    (∃ (s : State) (m : Fin 64), flag s.chip (kWmEnable m) ∧ live s.chip ∧ wmStale s.chip m = false ∧ withMargin (num s.chip
      (kWmUvWarn m)) s.chip.wms[m].uvMargin + (num s.chip (kWmHyst m) : Rat) * num s.chip (kWmScale m) / 1024 ≤
      (s.chip.wms[m].value : Rat)) ∧
    (∃ (s : State) (m : Fin 64) (reading : BitVec 12), flag s.chip (kWmEnable m) ∧ live s.chip ∧ s.chip.wms[m].badOv = 1 ∧
      s.chip.wms[m].errOv = false ∧ within s.chip 20 s.chip.wms[m].ovMovedAt = false ∧ 12 < (reading.toNat : Int) - 4 * dacCode
      s.chip m true) ∧
    (∃ (s : State) (m : Fin 64) (r : Fin 16), wmRail s.chip m = some r ∧ flag s.chip (kWmFollowMargin m) ∧ live s.chip ∧
      refAtTarget s.chip r) :=
  ⟨⟨{ chip := put (kWmEnable 63) (.num 1) ({ up with wms := Vector.replicate 64 { } }) }, 63, by decide +kernel⟩,
   ⟨{ chip := put (kWmEnable 63) (.num 1) ({ up with wms := Vector.replicate 64 { } }) }, 63, by decide +kernel⟩,
   ⟨{ chip := put (kWmOvKill 63) (.num 1) (put (kWmRail 63) (.num 0) (put (kWmEnable 63) (.num 1) (buckUp .regulate))) }, 63, 0,
     by decide +kernel⟩,
   ⟨{ chip := put (kWmEnable 63) (.num 1) ({ up with wms := Vector.replicate 64 { faultOv := true } }) }, 63, by decide +kernel⟩,
   ⟨{ chip := put (kWmEnable 63) (.num 1) { up with chans := Vector.replicate 256 { writtenAt := some 0 }, wms := Vector.replicate 64 { value := 2147483647 } } },
     63, by decide +kernel⟩,
   ⟨{ chip := put (kWmUvWarn 63) (.num 1)
       (put (kWmEnable 63) (.num 1) { up with chans := Vector.replicate 256 { writtenAt := some 0 } }) }, 63, by decide +kernel⟩,
   ⟨{ chip := put (kWmEnable 63) (.num 1) ({ up with wms := Vector.replicate 64 { warnOv := true } }) }, 63, by decide +kernel⟩,
   ⟨{ chip := put (kWmEnable 63) (.num 1) { up with chans := Vector.replicate 256 { writtenAt := some 0 }, wms := Vector.replicate 64 { value := 2147483647 } } },
     63, by decide +kernel⟩,
   ⟨{ chip := put (kWmOvFault 63) (.num 0) (put (kWmEnable 63) (.num 1) { up with wms := Vector.replicate 64 { badOv := 1 } }) },
     63, 4095, by decide +kernel⟩,
   ⟨{ chip := put (kWmFollowMargin 63) (.num 1) (put (kWmRail 63) (.num 15) up) }, 63, 15, by decide +kernel⟩⟩

/-- The hypotheses of `Obligations.SequencerCommands` are met. -/
theorem witness_SequencerCommands :
    (∃ (s : State) (r : Fin 16), rawGoodNow s.chip r ≠ s.chip.seq.rawGood[r] ∧ drives s.chip) ∧
    (∃ (s : State) (r : Fin 16), rawGoodNow s.chip r ∧ s.chip.seq.rawGood[r] = true ∧ drives s.chip) ∧
    (∃ (s : State) (j : Nat), s.chip.seq.state = .powerUp ∧ s.chip.seq.entry = some j ∧ delayOver s.chip j ∧ drives s.chip ∧ j +
      1 < nat s.chip kSeqUpLength) ∧
    (∃ (s : State) (j : Nat), s.chip.seq.state = .powerUp ∧ s.chip.seq.entry = some j ∧ drives s.chip ∧ timedOut s.chip j ∧ nat
      s.chip kSeqUpTimeoutAction ≠ 1 ∧ j + 1 < nat s.chip kSeqUpLength) ∧
    (∃ (s : State) (j : Nat), s.chip.seq.state = .powerUp ∧ s.chip.seq.entry = some j ∧ drives s.chip ∧ timedOut s.chip j ∧ nat
      s.chip kSeqUpTimeoutAction = 1) ∧
    (∃ (s : State) (j : Nat), s.chip.seq.state = .powerDown ∧ s.chip.seq.entry = some j ∧ drives s.chip ∧ timedOut s.chip j ∧ 1 ≤
      field (seqWordA s.chip j) 28 4 ∧ field (seqWordA s.chip j) 28 4 ≤ 5) ∧
    (∃ (s : State), s.chip.seq.state = .offHold ∧ drives s.chip ∧ minOffPassed s.chip ∧ 0 < nat s.chip kSeqUpLength) :=
  ⟨⟨{ chip := buckUp .regulate }, 0, by decide +kernel⟩,
   ⟨{ chip := { buckUp .regulate with seq := { rawGood := Vector.replicate 16 true } } }, 0, by decide +kernel⟩,
   ⟨{ chip := put kSeqUpLength (.num 2)
       (put (kSeqUpWordA 0) (.num 0x10000000) { up with seq := { state := .powerUp, entry := some 0 } }) }, 0, by decide +kernel⟩,
   ⟨{ chip := put kSeqUpTimeoutAction (.num 0) (put kSeqUpLength (.num 2)
       (put (kSeqUpWordB 0) (.num 0x00010001) { up with clock := { us := 100000000 }, seq := { state := .powerUp, entry := some 0 } })) },
     0, by decide +kernel⟩,
   ⟨{ chip := put kSeqUpTimeoutAction (.num 1) (put kSeqUpLength (.num 2)
       (put (kSeqUpWordB 0) (.num 0x00010001) { up with clock := { us := 100000000 }, seq := { state := .powerUp, entry := some 0 } })) },
     0, by decide +kernel⟩,
   ⟨{ chip := put kSeqDownLength (.num 1) (put (kSeqDownWordA 0) (.num 0x10000000)
       (put (kSeqDownWordB 0) (.num 0x00010001) { up with clock := { us := 100000000 }, seq := { state := .powerDown, entry := some 0, railReached := Vector.replicate 16 true } })) },
     0, by decide +kernel⟩,
   ⟨{ chip := put kSeqUpLength (.num 2) { up with seq := { state := .offHold } } }, by decide +kernel⟩⟩

/-- The hypotheses of `Obligations.MillArithmeticInstructions` are met. -/
theorem witness_MillArithmeticInstructions :
    (∃ (s : State) (m : Fin 16) (d : Fin 128) (a : Fin 128) (b : Fin 128), millAt s.chip m (fmtR 0x0B 0 0 d a b 0) ∧ ([d, a,
      b].all fun w => !isPending s.chip.mills[m] w)) ∧
    (∃ (s : State) (m : Fin 16) (d : Fin 128) (a : Fin 128) (b : Fin 128), millAt s.chip m (fmtR 0x0C 0 0 d a b 0) ∧ ([d, a,
      b].all fun w => !isPending s.chip.mills[m] w)) ∧
    (∃ (s : State) (m : Fin 16) (d : Fin 128) (a : Fin 128) (b : Fin 128), millAt s.chip m (fmtR 0x0D 0 0 d a b 0) ∧ ([d, a,
      b].all fun w => !isPending s.chip.mills[m] w)) ∧
    (∃ (s : State) (m : Fin 16) (d : Fin 128) (a : Fin 128) (b : Fin 128), millAt s.chip m (fmtR 0x0E 0 0 d a b 0) ∧ ([d, a,
      b].all fun w => !isPending s.chip.mills[m] w)) ∧
    (∃ (s : State) (m : Fin 16) (d : Fin 128) (a : Fin 128) (b : Fin 128), millAt s.chip m (fmtR 0x0F 0 0 d a b 0) ∧ ([d, a,
      b].all fun w => !isPending s.chip.mills[m] w)) ∧
    (∃ (s : State) (m : Fin 16) (d : Fin 128) (a : Fin 128), millAt s.chip m (fmtR 0x10 0 0 d a 0 0) ∧ ([d, a].all fun w =>
      !isPending s.chip.mills[m] w)) ∧
    (∃ (s : State) (m : Fin 16) (d : Fin 128) (a : Fin 128), millAt s.chip m (fmtR 0x11 0 0 d a 0 0) ∧ ([d, a].all fun w =>
      !isPending s.chip.mills[m] w)) ∧
    (∃ (s : State) (m : Fin 16) (d : Fin 128) (a : Fin 128) (f : BitVec 6), millAt s.chip m (fmtR 0x12 0 0 d a 0 f.toNat) ∧ ([d,
      a].all fun w => !isPending s.chip.mills[m] w)) ∧
    (∃ (s : State) (m : Fin 16) (d : Fin 128) (a : Fin 128) (b : Fin 128) (k : BitVec 6), millAt s.chip m (fmtR 0x13 0 0 d a b
      k.toNat) ∧ ([d, a, b].all fun w => !isPending s.chip.mills[m] w)) ∧
    (∃ (s : State) (m : Fin 16) (d : Fin 128) (a : Fin 128) (b : Fin 128) (k : BitVec 6), millAt s.chip m (fmtR 0x14 0 0 d a b
      k.toNat) ∧ ([d, a, b].all fun w => !isPending s.chip.mills[m] w) ∧ k.toNat ≤ 62 ∧ s.chip.mills[m].words[b].toInt ≠ 0) ∧
    (∃ (s : State) (m : Fin 16) (d : Fin 128) (a : Fin 128) (b : Fin 128) (k : BitVec 6), millAt s.chip m (fmtR 0x14 0 0 d a b
      k.toNat) ∧ ([d, a, b].all fun w => !isPending s.chip.mills[m] w) ∧ k.toNat ≤ 62 ∧ s.chip.mills[m].words[b].toInt = 0) ∧
    (∃ (s : State) (m : Fin 16) (d : Fin 128) (a : Fin 128) (b : Fin 128), millAt s.chip m (fmtR 0x14 0 0 d a b 63) ∧
      s.chip.twin.state = .single) :=
  ⟨⟨{ chip := millUp (fmtR 0x0B 0 0 2 1 127 0) }, 0, 2, 1, 127, by decide +kernel⟩,
   ⟨{ chip := millUp (fmtR 0x0C 0 0 2 1 127 0) }, 0, 2, 1, 127, by decide +kernel⟩,
   ⟨{ chip := millUp (fmtR 0x0D 0 0 2 1 127 0) }, 0, 2, 1, 127, by decide +kernel⟩,
   ⟨{ chip := millUp (fmtR 0x0E 0 0 2 1 127 0) }, 0, 2, 1, 127, by decide +kernel⟩,
   ⟨{ chip := millUp (fmtR 0x0F 0 0 2 1 127 0) }, 0, 2, 1, 127, by decide +kernel⟩,
   ⟨{ chip := millUp (fmtR 0x10 0 0 2 1 0 0) }, 0, 2, 1, by decide +kernel⟩,
   ⟨{ chip := millUp (fmtR 0x11 0 0 2 1 0 0) }, 0, 2, 1, by decide +kernel⟩,
   ⟨{ chip := millUp (fmtR 0x12 0 0 2 1 0 63) }, 0, 2, 1, 63, by decide +kernel⟩,
   ⟨{ chip := millUp (fmtR 0x13 0 0 2 1 127 63) }, 0, 2, 1, 127, 63, by decide +kernel⟩,
   ⟨{ chip := millUp (fmtR 0x14 0 0 2 1 127 62) }, 0, 2, 1, 127, 62, by decide +kernel⟩,
   ⟨{ chip := put (kMillSource 0) (.num 2) { up with mills := (Vector.replicate 16 {}).set 0 { state := .ready, program := [fmtR 0x14 0 0 2 1 127 62], running := some 0 } } },
     0, 2, 1, 127, 62, by decide +kernel⟩,
   ⟨{ chip := millUp (fmtR 0x14 0 0 4 5 6 63) }, 0, 4, 5, 6, by decide +kernel⟩⟩

/-- The hypotheses of `Obligations.MillWordAndFlowInstructions` are met. -/
theorem witness_MillWordAndFlowInstructions :
    (∃ (s : State) (m : Fin 16), millAt s.chip m (fmtR 0x00 0 0 0 0 0 0)) ∧
    (∃ (s : State) (m : Fin 16) (d : Fin 128) (a : Fin 128), millAt s.chip m (fmtR 0x04 0 0 d a 0 0) ∧ ([d, a].all fun w =>
      !isPending s.chip.mills[m] w)) ∧
    (∃ (s : State) (m : Fin 16) (d : Fin 128) (imm : Word), millAt s.chip m (fmtL d imm) ∧ isPending s.chip.mills[m] d = false) ∧
    (∃ (s : State) (m : Fin 16) (d : Fin 128) (a : Fin 128) (b : Fin 128), millAt s.chip m (fmtR 0x16 0 0 d a b 0) ∧ ([d, a,
      b].all fun w => !isPending s.chip.mills[m] w)) ∧
    (∃ (s : State) (m : Fin 16) (d : Fin 128) (a : Fin 128) (b : Fin 128), millAt s.chip m (fmtR 0x17 0 0 d a b 0) ∧ ([d, a,
      b].all fun w => !isPending s.chip.mills[m] w)) ∧
    (∃ (s : State) (m : Fin 16) (d : Fin 128) (a : Fin 128) (b : Fin 128), millAt s.chip m (fmtR 0x18 0 0 d a b 0) ∧ ([d, a,
      b].all fun w => !isPending s.chip.mills[m] w)) ∧
    (∃ (s : State) (m : Fin 16) (a : Fin 128) (b : Fin 128), millAt s.chip m (fmtR 0x15 0 0 0 a b 0) ∧ ([a, b].all fun w =>
      !isPending s.chip.mills[m] w)) ∧
    (∃ (s : State) (m : Fin 16) (cond : BitVec 3) (addr : BitVec 11), millAt s.chip m (fmtR 0x02 0 cond.toNat 0 0 0 addr.toNat)) ∧
    (∃ (s : State) (m : Fin 16) (k : Fin 4), millAt s.chip m (fmtR 0x01 0 0 0 0 0 0) ∧ s.chip.mills[m].reads = [] ∧
      s.chip.mills[m].running = some k) :=
  ⟨⟨{ chip := millUp (fmtR 0x00 0 0 0 0 0 0) }, 0, by decide +kernel⟩,
   ⟨{ chip := millUp (fmtR 0x04 0 0 2 1 0 0) }, 0, 2, 1, by decide +kernel⟩,
   ⟨{ chip := millUp (fmtL 127 0xFFFFFFFF) }, 0, 127, 0xFFFFFFFF, by decide +kernel⟩,
   ⟨{ chip := millUp (fmtR 0x16 0 0 2 1 127 0) }, 0, 2, 1, 127, by decide +kernel⟩,
   ⟨{ chip := millUp (fmtR 0x17 0 0 2 1 127 0) }, 0, 2, 1, 127, by decide +kernel⟩,
   ⟨{ chip := millUp (fmtR 0x18 0 0 2 1 127 0) }, 0, 2, 1, 127, by decide +kernel⟩,
   ⟨{ chip := millUp (fmtR 0x15 0 0 0 1 127 0) }, 0, 1, 127, by decide +kernel⟩,
   ⟨{ chip := millUp (fmtR 0x02 0 7 0 0 0 2047) }, 0, 7, 2047, by decide +kernel⟩,
   ⟨{ chip := millUp (fmtR 0x01 0 0 0 0 0 0) }, 0, 0, by decide +kernel⟩⟩

/-- The hypotheses of `Obligations.MillAccumulatorInstructions` are met. -/
theorem witness_MillAccumulatorInstructions :
    (∃ (s : State) (m : Fin 16), millAt s.chip m (fmtR 0x05 0 0 0 0 0 0)) ∧
    (∃ (s : State) (m : Fin 16) (a : Fin 128) (f : BitVec 6), millAt s.chip m (fmtR 0x06 0 0 0 a 0 f.toNat) ∧ ([a].all fun w =>
      !isPending s.chip.mills[m] w)) ∧
    (∃ (s : State) (m : Fin 16) (d : Fin 128) (round : Bool), millAt s.chip m (fmtR 0x07 (if round then 1 else 0) 0 d 0 0 0) ∧
      ([d].all fun w => !isPending s.chip.mills[m] w)) ∧
    (∃ (s : State) (m : Fin 16) (k : Fin 256) (a : Fin 128) (f : BitVec 6), millAt s.chip m (fmtR 0x08 0 k 0 a 0 f.toNat) ∧
      ([a].all fun w => !isPending s.chip.mills[m] w)) ∧
    (∃ (s : State) (m : Fin 16) (k : Fin 256) (a : Fin 128) (f : BitVec 6), millAt s.chip m (fmtR 0x09 0 k 0 a 0 f.toNat) ∧
      ([a].all fun w => !isPending s.chip.mills[m] w)) ∧
    (∃ (s : State) (m : Fin 16) (k : Fin 256) (a : Fin 128) (f : BitVec 6), millAt s.chip m (fmtR 0x0A 0 k 0 a 0 f.toNat) ∧
      ([a].all fun w => !isPending s.chip.mills[m] w)) :=
  ⟨⟨{ chip := millUp (fmtR 0x05 0 0 0 0 0 0) }, 0, by decide +kernel⟩,
   ⟨{ chip := millUp (fmtR 0x06 0 0 0 1 0 63) }, 0, 1, 63, by decide +kernel⟩,
   ⟨{ chip := millUp (fmtR 0x07 (if true then 1 else 0) 0 2 0 0 0) }, 0, 2, true, by decide +kernel⟩,
   ⟨{ chip := millUp (fmtR 0x08 0 255 0 1 0 63) }, 0, 255, 1, 63, by decide +kernel⟩,
   ⟨{ chip := millUp (fmtR 0x09 0 255 0 1 0 63) }, 0, 255, 1, 63, by decide +kernel⟩,
   ⟨{ chip := millUp (fmtR 0x0A 0 255 0 1 0 63) }, 0, 255, 1, 63, by decide +kernel⟩⟩

/-- The hypotheses of `Obligations.MillInputAndOutputInstructions` are met. -/
theorem witness_MillInputAndOutputInstructions :
    (∃ (s : State) (m : Fin 16) (d : Fin 128) (ch : Fin 256) (status : Bool), millAt s.chip m (fmtR 0x19 (if status then 1 else
      0) ch d 0 0 0) ∧ ([d].all fun w => !isPending s.chip.mills[m] w) ∧ s.chip.mills[m].reads.length < 16) ∧
    (∃ (s : State) (m : Fin 16) (d : Fin 128) (q : MillRead), (s.chip.mills[m].reads.find? (fun r => r.dest == d) = some q)) ∧
    (∃ (s : State) (m : Fin 16) (cls : BitVec 8) (index : BitVec 11) (a : Fin 128), millAt s.chip m (fmtR 0x1A 0 cls.toNat 0 a 0
      index.toNat) ∧ ([a].all fun w => !isPending s.chip.mills[m] w) ∧ ownsOutput s.chip m cls.toNat index.toNat ∧
      s.chip.mills[m].outQueue.length < 8) ∧
    (∃ (s : State) (m : Fin 16) (cls : BitVec 8) (index : BitVec 11) (a : Fin 128), millAt s.chip m (fmtR 0x1A 0 cls.toNat 0 a 0
      index.toNat) ∧ ([a].all fun w => !isPending s.chip.mills[m] w) ∧ ownsOutput s.chip m cls.toNat index.toNat = false) ∧
    (∃ (s : State) (m : Fin 16) (q : MillOutput) (rest : List MillOutput), s.chip.mills[m].outQueue = q :: rest ∧ live s.chip ∧
      q.cls = 6 ∧ 1 ≤ q.index.toNat ∧ q.index.toNat ≤ 16) ∧
    (∃ (s : State) (m : Fin 16) (q : MillOutput) (rest : List MillOutput), s.chip.mills[m].outQueue = q :: rest ∧ live s.chip ∧
      q.cls = 5 ∧ q.index.toNat < 256) ∧
    (∃ (s : State) (m : Fin 16) (q : MillOutput) (rest : List MillOutput) (p : Fin 32) (r : Fin 16), s.chip.mills[m].outQueue = q
      :: rest ∧ live s.chip ∧ q.cls = 1 ∧ q.index.toNat = p.val ∧ railOfPhase s.chip p = some r ∧ railTakes s.chip r ∧
      s.chip.phases[p].dropped = false) :=
  ⟨⟨{ chip := millUp (fmtR 0x19 (if true then 1 else 0) 255 2 0 0 0) }, 0, 2, 255, true, by decide +kernel⟩,
   ⟨{ chip := { up with mills := Vector.replicate 16 { reads := [{ pc := 1, dest := 5, ch := 32, status := true }] } } }, 0, 5,
     { pc := 1, dest := 5, ch := 32, status := true }, by decide +kernel⟩,
   ⟨{ chip := millUp (fmtR 0x1A 0 6 0 1 0 16) }, 0, 6, 16, 1, by decide +kernel⟩,
   ⟨{ chip := millUp (fmtR 0x1A 0 1 0 1 0 0) }, 0, 1, 0, 1, by decide +kernel⟩,
   ⟨{ chip := { up with mills := Vector.replicate 16 { outQueue := [{ cls := 6, index := 16, value := 5 }] } } }, 0,
     { cls := 6, index := 16, value := 5 }, [], by decide +kernel⟩,
   ⟨{ chip := { up with mills := Vector.replicate 16 { outQueue := [{ cls := 5, index := 255, value := 5 }] } } }, 0,
     { cls := 5, index := 255, value := 5 }, [], by decide +kernel⟩,
   ⟨{ chip := { buckUp .regulate with mills := Vector.replicate 16 { outQueue := [{ cls := 1, index := 1, value := 0x80000000 }] } } },
     0, { cls := 1, index := 1, value := 0x80000000 }, [], 1, 0, by decide +kernel⟩⟩

/-- The hypotheses of `Obligations.MillControlCommands` are met. -/
theorem witness_MillControlCommands :
    (∃ (s : State) (m : Fin 16) (k : Fin 4), live s.chip ∧ s.chip.mills[m].state = .ready ∧ timed s.chip m k ∧
      s.chip.mills[m].due[k] ≤ 100 * s.chip.clock.us ∧ s.chip.mills[m].slots[k] = false) ∧
    (∃ (s : State) (m : Fin 16) (k : Fin 4), live s.chip ∧ s.chip.mills[m].state = .ready ∧ timed s.chip m k ∧
      s.chip.mills[m].due[k] ≤ 100 * s.chip.clock.us ∧ s.chip.mills[m].slots[k] = true) ∧
    (∃ (s : State) (m : Fin 16) (k : Fin 4), live s.chip ∧ s.chip.mills[m].state = .ready ∧ s.chip.mills[m].running = none ∧
      s.chip.mills[m].slots[k] = true ∧ ((∀ j : Fin 4, j < k → s.chip.mills[m].slots[j] = false))) ∧
    (∃ (s : State) (m : Fin 16), s.chip.mills[m].state = .ready ∧ nat s.chip (kMillSource m) = 2 ∧ s.chip.mills[m].running.isSome
      ∧ ((s.chip.mills[m].program[s.chip.mills[m].pc]?.all fun w => !legalWord w) = true) ∧ s.chip.twin.state = .single) ∧
    (∃ (s : State) (m : Fin 16), live s.chip ∧ s.chip.mills[m].state = .ready ∧ s.chip.mills[m].running.isSome ∧
      s.chip.twin.state = .single) ∧
    (∃ (s : State) (m : Fin 16) (k : Fin 4), live s.chip ∧ s.chip.mills[m].state = .ready ∧ s.chip.mills[m].slots[k] = true ∧
      s.chip.twin.state = .single) ∧
    (∃ (s : State) (m : Fin 16), live s.chip ∧ s.chip.mills[m].bankPend = true) ∧
    (∃ (s : State) (m : Fin 16), (s.chip.mills[m].state = .loading ∨ s.chip.mills[m].state = .reset) ∧ reeveRuns s.chip ∧
      s.chip.hamlets[millHamlet m].blkrst = false) ∧
    (∃ (s : State) (m : Fin 16), flag s.chip (kMillTraceDump m) ∧ s.chip.mills[m].trace.state = .done ∧
      s.chip.mills[m].trace.byWatch = true ∧ s.chip.nor.size ≠ 0 ∧ live s.chip) :=
  ⟨⟨{ chip := put (kMillSource 0) (.num 2)
       (put (kMillTrig 0 1) (.num 0x3000) { up with mills := (Vector.replicate 16 {}).set 0 { state := .ready } }) }, 0, 1,
     by decide +kernel⟩,
   ⟨{ chip := { hosted with mills := Vector.replicate 16 { state := .ready, slots := Vector.replicate 4 true } } }, 0, 0,
     by decide +kernel⟩,
   ⟨{ chip := { hosted with mills := Vector.replicate 16 { state := .ready, slots := Vector.replicate 4 true } } }, 0, 0,
     by decide +kernel⟩,
   ⟨{ chip := millUp (fmtR 0x3F 0 0 0 0 0 0) }, 0, by decide +kernel⟩,
   ⟨{ chip := millUp 0 }, 0, by decide +kernel⟩,
   ⟨{ chip := { hosted with mills := Vector.replicate 16 { state := .ready, slots := Vector.replicate 4 true } } }, 0, 0,
     by decide +kernel⟩,
   ⟨{ chip := { up with mills := Vector.replicate 16 { bankPend := true } } }, 15, by decide +kernel⟩,
   ⟨{ chip := { up with mills := Vector.replicate 16 { state := .loading } } }, 15, by decide +kernel⟩,
   ⟨{ chip := put (kMillTraceDump 15) (.num 1) { up with mills := Vector.replicate 16 { trace := { state := .done, byWatch := true } }, nor := { size := 0x1000000 } } },
     15, by decide +kernel⟩⟩

/-- The hypotheses of `Obligations.SettingAndRequestWrites` are met. -/
theorem witness_SettingAndRequestWrites :
    (∃ (s : State) (o : Origin) (r : Fin 16), reaches o (kRailEnable r) true s.chip ∧ directCheck o (kRailEnable r) (.num 1)
      s.chip = .ok ∧ s.chip.rails[r].state = .off ∧ s.chip.seq.railReached[r] = true ∧ railType s.chip r ≠ 0 ∧ lifeCycle s.chip ≠
      .blank ∧ railStartHeld s.chip r = false ∧ passes s.chip (32 + r) ∧ passes s.chip (nat s.chip (kRailInputChannel r)) ∧
      odSorted s.chip.od) ∧
    (∃ (s : State) (o : Origin) (r : Fin 16), reaches o (kRailEnable r) true s.chip ∧ directCheck o (kRailEnable r) (.num 0)
      s.chip = .ok ∧ s.chip.rails[r].state = .regulate ∧ odSorted s.chip.od) ∧
    (∃ (s : State) (o : Origin) (r : Fin 16) (v : Int), reaches o (kRailTarget r) true s.chip ∧ inRange v (-2147483648)
      2147483647 ∧ admissible (kRailTarget r) v ∧ directCheck o (kRailTarget r) (.num v) s.chip = .ok ∧ railType s.chip r = 1 ∧
      s.chip.rails[r].state = .regulate ∧ s.chip.rails[r].vcHolds = false ∧ odSorted s.chip.od) ∧
    (∃ (s : State) (o : Origin) (n : Fin 8), reaches o (kPpEnable n) true s.chip ∧ directCheck o (kPpEnable n) (.num 1) s.chip =
      .ok ∧ s.chip.pps[n].state = .off ∧ s.chip.seq.ppReached[n] = true ∧ ppRole s.chip n ≠ 0 ∧ lifeCycle s.chip ≠ .blank ∧
      ppHeld s.chip n = false ∧ odSorted s.chip.od) ∧
    (∃ (s : State) (o : Origin) (n : Fin 4), reaches o (kStrRequalify n) true s.chip ∧ drives s.chip ∧ s.chip.strs[n].state =
      .fault) ∧
    (∃ (s : State) (o : Origin) (v : Int), reaches o (kBattHeartbeat) true s.chip ∧ inRange v 0 65535 ∧ admissible kBattHeartbeat
      v) ∧
    (∃ (s : State) (o : Origin) (n : Fin 4), reaches o (kFallowRequest) true s.chip ∧ fallowMayStart s.chip n) ∧
    (∃ (s : State) (o : Origin), reaches o (kShipModeArm) true s.chip) ∧
    (∃ (s : State) (o : Origin), reaches o (kShipModeArm) true s.chip) ∧
    (∃ (s : State) (o : Origin) (t : Nat), reaches o (kShipModeConfirm) true s.chip ∧ s.chip.batt.shipArm = some (o, t) ∧ nowMs
      s.chip ≤ t + 10000) ∧
    (∃ (s : State) (o : Origin), reaches o (kSeqCommand) true s.chip ∧ drives s.chip ∧ lifeCycle s.chip ≠ .blank ∧
      s.chip.seq.state = .off ∧ s.chip.seq.offAt = none ∧ 0 < nat s.chip kSeqUpLength) ∧
    (∃ (s : State) (o : Origin), reaches o (kSeqCommand) true s.chip ∧ drives s.chip ∧ s.chip.seq.state = .offHold) ∧
    (∃ (s : State) (o : Origin) (m : Fin 16), reaches o (kMillTraceCtl m) true s.chip) ∧
    (∃ (s : State) (o : Origin) (m : Fin 16), reaches o (kMillTraceCtl m) true s.chip ∧ s.chip.mills[m].trace.state = .armed) ∧
    (∃ (s : State) (o : Origin) (m : Fin 16), reaches o (kMillTraceCtl m) true s.chip) :=
  ⟨⟨{ chip := put (kRailEnable 0) (.num 0) { buckUp .off with seq := { railReached := Vector.replicate 16 true } } }, .service,
     0, by decide +kernel⟩,
   ⟨{ chip := buckUp .regulate }, .service, 0, by decide +kernel⟩,
   ⟨{ chip := buckUp .regulate }, .service, 0, 20000, by decide +kernel⟩,
   ⟨{ chip := put (kPpRole 7) (.num 3) { up with seq := { ppReached := Vector.replicate 8 true } } }, .service, 7,
     by decide +kernel⟩,
   ⟨{ chip := { up with strs := Vector.replicate 4 { state := .fault } } }, .service, 3, by decide +kernel⟩,
   ⟨{ chip := { up with batt := { expired := true } } }, .service, 255, by decide +kernel⟩,
   ⟨{ chip := put kFallowEnable (.num 1) (put kWellFloor (.num 0) (strUp .inService)) }, .service, 0, by decide +kernel⟩,
   ⟨{ chip := up }, .service, by decide +kernel⟩,
   ⟨{ chip := up }, .service, by decide +kernel⟩,
   ⟨{ chip := { up with batt := { shipArm := some (.service, 0) } } }, .service, 0, by decide +kernel⟩,
   ⟨{ chip := put kSeqUpLength (.num 2) up }, .service, by decide +kernel⟩,
   ⟨{ chip := { up with seq := { state := .offHold } } }, .service, by decide +kernel⟩,
   ⟨{ chip := up }, .service, 15, by decide +kernel⟩,
   ⟨{ chip := { up with mills := Vector.replicate 16 { trace := { state := .armed } } } }, .service, 15, by decide +kernel⟩,
   ⟨{ chip := up }, .service, 15, by decide +kernel⟩⟩

/-- The hypotheses of `Obligations.HamperCommandWrites` are met. -/
theorem witness_HamperCommandWrites :
    (∃ (s : State) (o : Origin), reaches o kHamperOpen false s.chip ∧ (s.chip.hampers.list.filter Hamper.isOpen).length < 16) ∧
    (∃ (s : State) (o : Origin) (h : BitVec 8), reaches o kHamperStage true s.chip ∧ h ≠ 0 ∧ (s.chip.hampers.list.any fun y =>
      y.handle == h.toNat && y.state == .opened && y.origin == o)) ∧
    (∃ (s : State) (o : Origin) (h : BitVec 8) (x : Hamper), reaches o kHamperCommand true s.chip ∧ hamperOf s.chip h.toNat =
      some x ∧ x.state = .opened ∧ x.origin = o ∧ (s.chip.hampers.queue.all fun i => (itemOrder s.chip i).all (· ≤
      s.chip.market.nextId))) ∧
    (∃ (s : State) (o : Origin) (h : BitVec 8) (x : Hamper), reaches o kHamperCommand true s.chip ∧ hamperOf s.chip h.toNat =
      some x ∧ x.state = .opened ∧ x.origin = o ∧ (s.chip.hampers.queue.all fun i => (itemOrder s.chip i).all (· ≤
      s.chip.market.nextId))) ∧
    (∃ (s : State) (o : Origin) (h : BitVec 8) (x : Hamper), reaches o kHamperCommand true s.chip ∧ hamperOf s.chip h.toNat =
      some x ∧ x.state = .opened ∧ x.origin = o ∧ (s.chip.hampers.queue.all fun i => (itemOrder s.chip i).all (· ≤
      s.chip.market.nextId))) ∧
    (∃ (s : State) (o : Origin) (h : BitVec 8) (x : Hamper), reaches o kHamperCommand true s.chip ∧ hamperOf s.chip h.toNat =
      some x ∧ x.state = .opened ∧ x.origin = o ∧ x.req = none) ∧
    (∃ (s : State) (o : Origin) (h : BitVec 8) (node : Fin 1024) (chandle : BitVec 8) (x : Hamper), reaches o kHamperCommand true
      s.chip ∧ hamperOf s.chip h.toNat = some x ∧ x.state = .opened ∧ x.origin = o ∧ ((s.chip.hampers.list.any fun y => y.isOpen
      && y.join == some (node, chandle)) = false)) :=
  ⟨⟨{ chip := { up with hampers := { list := [{ handle := 255, origin := .service }] } } }, .service, by decide +kernel⟩,
   ⟨{ chip := { up with hampers := { list := [{ handle := 255, origin := .service }] } } }, .service, 255, by decide +kernel⟩,
   ⟨{ chip := { up with hampers := { list := [{ handle := 255, origin := .service }] } } }, .service, 255,
     { handle := 255, origin := .service }, by decide +kernel⟩,
   ⟨{ chip := { up with hampers := { list := [{ handle := 255, origin := .service }] } } }, .service, 255,
     { handle := 255, origin := .service }, by decide +kernel⟩,
   ⟨{ chip := { up with hampers := { list := [{ handle := 255, origin := .service }] } } }, .service, 255,
     { handle := 255, origin := .service }, by decide +kernel⟩,
   ⟨{ chip := { up with hampers := { list := [{ handle := 255, origin := .service }] } } }, .service, 255,
     { handle := 255, origin := .service }, by decide +kernel⟩,
   ⟨{ chip := { up with hampers := { list := [{ handle := 255, origin := .service }] } } }, .service, 255, 1023, 255,
     { handle := 255, origin := .service }, by decide +kernel⟩⟩

/-- The hypotheses of `Obligations.LaneWatchExportAndResetWrites` are met. -/
theorem witness_LaneWatchExportAndResetWrites :
    (∃ (s : State) (o : Origin), reaches o (kLaneEnable) true s.chip ∧ directCheck o kLaneEnable (.num 1) s.chip = .ok ∧
      s.chip.lane.state = .off ∧ s.chip.lane.dupId = false ∧ (s.chip.lane.linkA.up || s.chip.lane.linkB.up) = true ∧ lifeCycle
      s.chip ≠ .blank ∧ odSorted s.chip.od) ∧
    (∃ (s : State) (o : Origin), reaches o (kLaneEnable) true s.chip ∧ directCheck o kLaneEnable (.num 0) s.chip = .ok ∧ odSorted
      s.chip.od) ∧
    (∃ (s : State) (o : Origin) (v : List Byte), reaches o (kLaneTimeSet) true s.chip ∧ v.length = 8 ∧ isMaster s.chip ∧
      s.chip.lane.timeWritten = true ∧ leNat v ≤ s.chip.clock.laneNs + 1000000000 ∧ s.chip.clock.laneNs ≤ leNat v + 1000000000) ∧
    (∃ (s : State) (o : Origin) (v : List Byte), reaches o (kLaneGwRequest) true s.chip ∧ valueCheck kLaneGwRequest v = (.ok,
      .bytes v) ∧ s.chip.lane.state = .member ∧ s.chip.gw.waiting.length < 32) ∧
    (∃ (s : State) (o : Origin), reaches o kLaneGwResult false s.chip) ∧
    (∃ (s : State) (o : Origin) (i : Fin 256), reaches o (kSrcEnable i) true s.chip ∧ directCheck o (kSrcEnable i) (.num 0)
      s.chip = .ok ∧ s.chip.watch.srcs[i].state = .clear ∧ odSorted s.chip.od) ∧
    (∃ (s : State) (o : Origin) (i : Fin 256) (v : Int), reaches o (kSrcForce i) true s.chip ∧ inRange v 0 255 ∧ admissible
      (kSrcForce i) v) ∧
    (∃ (s : State) (o : Origin), reaches o (kAlmExportCtl) true s.chip ∧ s.chip.alm.frozen.state ≠ .ready) ∧
    (∃ (s : State) (o : Origin), reaches o (kAlmExportCtl) true s.chip) ∧
    (∃ (s : State) (o : Origin) (digest : List Byte), reaches o (kAlmExportReceipt) true s.chip ∧ s.chip.alm.frozen.state =
      .ready ∧ digest = (sha256 (exportBody s.chip)).toList) ∧
    (∃ (s : State) (o : Origin) (v : Int), reaches o (kTwinExercise) true s.chip ∧ inRange v 0 255 ∧ admissible kTwinExercise v ∧
      exerciseAllowed s.chip) ∧
    (∃ (s : State) (o : Origin), reaches o kChipResetCmd true s.chip) ∧
    (∃ (s : State) (o : Origin), reaches o kParamStoreCmd true s.chip ∧ s.chip.boot.store ≠ .running ∧ s.chip.alm.direct = false) :=
  ⟨⟨{ chip := { up with lane := { linkB := { up := true } } } }, .service, by decide +kernel⟩,
   ⟨{ chip := { up with lane := { state := .member } } }, .service, by decide +kernel⟩,
   ⟨{ chip := { up with lane := { state := .member, timeWritten := true, master := some 1023 } } }, .service,
     [1, 0, 0, 0, 0, 0, 0, 0], by decide +kernel⟩,
   ⟨{ chip := { up with lane := { state := .member } } }, .service, [1, 0, 1, 16, 0, 0, 0, 16, 0, 0, 0, 0, 0, 0, 0, 0, 0, 0],
     by decide +kernel⟩,
   ⟨{ chip := up }, .service, by decide +kernel⟩,
   ⟨{ chip := up }, .service, 255, by decide +kernel⟩,
   ⟨{ chip := up }, .service, 255, 1, by decide +kernel⟩,
   ⟨{ chip := up }, .service, by decide +kernel⟩,
   ⟨{ chip := up }, .service, by decide +kernel⟩,
   ⟨{ chip := { up with alm := { frozen := { state := .ready } } } }, .service,
     (sha256 (exportBody { up with alm := { frozen := { state := .ready } } })).toList, by decide +kernel⟩,
   ⟨{ chip := { up with twin := { state := .owner, link := true, partner := some { role := 2, healthy := true, ready := true, state := 4, ret := false, heartbeat := 0, laneTime := 0, almSequence := 0 } } } },
     .service, 1, by decide +kernel⟩,
   ⟨{ chip := up }, .service, by decide +kernel⟩,
   ⟨{ chip := up }, .service, by decide +kernel⟩⟩

/-- The hypotheses of `Obligations.MarketCommands` are met. -/
theorem witness_MarketCommands :
    (∃ (s : State) (o : Origin) (k : Key) (b : List Byte) (v : Val), reaches o (k) true s.chip ∧ k < 0x1000000 ∧ valueCheck k b =
      (.ok, v) ∧ applyInstant k = false ∧ commandWrite o k v s.chip = none ∧ directCheck o k v s.chip = .ok ∧ odSorted s.chip.od
      ∧ k ≠ kHamperStage ∧ k ≠ kHamperCommand ∧ k / 256 ≠ 0x2123 ∧ k / 256 ≠ 0x2124 ∧ k ≠ kParamStoreCmd ∧ k ≠ kTwinExercise ∧ k
      ≠ kAssetTag ∧ ((∀ n : Fin 4, k ≠ kStrResistance n))) ∧
    (∃ (s : State) (o : Origin) (k : Key) (b : List Byte) (v : Val), reaches o (k) true s.chip ∧ k < 0x1000000 ∧ valueCheck k b =
      (.ok, v) ∧ applyInstant k = true ∧ (s.chip.hampers.queue.all fun i => (itemOrder s.chip i).all (· ≤ s.chip.market.nextId))) ∧
    (∃ (s : State) (o : Origin) (k : Key) (q : Req), k < 0x1000000 ∧ live s.chip ∧ nextOf s.chip o k = some q ∧ pathFree
      (hamletOf s.chip k) s.chip) ∧
    (∃ (s : State) (o : Origin) (k : Key) (q : Req), k < 0x1000000 ∧ live s.chip ∧ nextOf s.chip o k = some q ∧ hamletShut
      s.chip.hamlets[hamletOf s.chip k] = true ∧ ((∀ g : Fin 27, s.chip.hamlets[g].outbox = [] ∧ s.chip.hamlets[g].unsent = []))
      ∧ s.chip.hamlets[hamletOf s.chip k].inbox.length < 16) ∧
    (∃ (s : State) (id : Nat) (q : Req), reqOf s.chip id = some q ∧ q.taken = true ∧ q.held = false ∧ live s.chip ∧ q.data =
      none) ∧
    (∃ (s : State) (id : Nat) (q : Req) (v : List Byte), reqOf s.chip id = some q ∧ q.taken = true ∧ q.held = false ∧ live s.chip
      ∧ q.data = none ∧ q.k ≠ kHamperOpen ∧ readObject s.chip q.origin q.k = (.ok, v) ∧ v.length ≤ 32) ∧
    (∃ (s : State) (id : Nat) (q : Req), reqOf s.chip id = some q ∧ q.dispatched = true ∧ 2 ≤ (hamletOf s.chip q.k).val ∧ live
      s.chip ∧ q.data = none) ∧
    (∃ (s : State) (id : Nat) (q : Req), reqOf s.chip id = some q ∧ live s.chip ∧ q.dispatched = true ∧ q.taken = false ∧
      (s.chip.hamlets[hamletOf s.chip q.k].blkrst || s.chip.hamlets[hamletOf s.chip q.k].closed) = true) ∧
    (∃ (s : State) (o : Origin), reaches o (kFenceClear) true s.chip) ∧
    (∃ (s : State) (o : Origin) (v : Int), reaches o (kFenceClear) true s.chip ∧ inRange v 0 4294967294 ∧ admissible kFenceClear
      v) ∧
    (∃ (s : State) (o : Origin) (v : Int), reaches o (kFenceClearOrigin) true s.chip ∧ inRange v 0 65535 ∧ admissible
      kFenceClearOrigin v) :=
  ⟨⟨{ chip := hosted }, .service, kBusTarget, leBytes 4 480000, .num 480000, by decide +kernel⟩,
   ⟨{ chip := up }, .service, kMarginRail 15, leBytes 2 5, .num 5, by decide +kernel⟩,
   ⟨{ chip := { up with market := { reqs := [{ id := 5, origin := .service, k := kBusTarget, data := none, reply := .own }] } } },
     .service, kBusTarget, { id := 5, origin := .service, k := kBusTarget, data := none, reply := .own }, by decide +kernel⟩,
   ⟨{ chip := { up with hamlets := Vector.replicate 27 {}, market := { reqs := [{ id := 5, origin := .service, k := kBusTarget, data := none, reply := .own }] } } },
     .service, kBusTarget, { id := 5, origin := .service, k := kBusTarget, data := none, reply := .own }, by decide +kernel⟩,
   ⟨{ chip := { up with market := { reqs := [{ id := 5, origin := .service, k := kBusTarget, data := none, reply := .own, dispatched := true, taken := true }] } } },
     5, { id := 5, origin := .service, k := kBusTarget, data := none, reply := .own, dispatched := true, taken := true },
     by decide +kernel⟩,
   ⟨{ chip := { up with market := { reqs := [{ id := 5, origin := .service, k := kBusTarget, data := none, reply := .own, dispatched := true, taken := true }] } } },
     5, { id := 5, origin := .service, k := kBusTarget, data := none, reply := .own, dispatched := true, taken := true },
     [0, 83, 7, 0], by decide +kernel⟩,
   ⟨{ chip := { up with market := { reqs := [{ id := 5, origin := .service, k := kBusTarget, data := none, reply := .own, dispatched := true, taken := true }] } } },
     5, { id := 5, origin := .service, k := kBusTarget, data := none, reply := .own, dispatched := true, taken := true },
     by decide +kernel⟩,
   ⟨{ chip := { up with hamlets := Vector.replicate 27 { closed := true }, market := { reqs := [{ id := 5, origin := .service, k := kBusTarget, data := none, reply := .own, dispatched := true }] } } },
     5, { id := 5, origin := .service, k := kBusTarget, data := none, reply := .own, dispatched := true }, by decide +kernel⟩,
   ⟨{ chip := { up with market := { fences := [(.service, kBusTarget), (.twoWire, kBusTarget)] } } }, .service,
     by decide +kernel⟩,
   ⟨{ chip := { up with market := { fences := [(.service, kBusTarget), (.twoWire, kBusTarget)] } } }, .service,
     (kBusTarget : Int), by decide +kernel⟩,
   ⟨{ chip := { up with market := { fences := [(.twoWire, kBusTarget)] } } }, .service, 3, by decide +kernel⟩⟩

/-- The hypotheses of `Obligations.HamperValidationAndTicks` are met. -/
theorem witness_HamperValidationAndTicks :
    (∃ (s : State) (n : Nat) (x : Hamper) (f : Detail × Nat), live s.chip ∧ s.chip.hampers.queue.head? = some (.hamper n false) ∧
      hamperOf s.chip n = some x ∧ validate s.chip x = some f) ∧
    (∃ (s : State) (n : Nat) (x : Hamper), live s.chip ∧ s.chip.hampers.queue.head? = some (.hamper n false) ∧ hamperOf s.chip n
      = some x ∧ validate s.chip x = none ∧ x.mode = .commit) ∧
    (∃ (s : State) (x : Hamper), live s.chip ∧ s.chip.hampers.queue.head? = some (.hamper x.handle false) ∧ hamperOf s.chip
      x.handle = some x ∧ validate s.chip x = none ∧ x.mode = .commitAt) ∧
    (∃ (s : State), live s.chip ∧ dueHampers s.chip = [] ∧ s.chip.hampers.queue = [] ∧ s.chip.hampers.derive = false ∧
      s.chip.hampers.applied = false ∧ s.chip.bus.fracPending = false ∧ s.chip.twin.role ≠ .alternate) ∧
    (∃ (s : State) (o : Origin) (id : Nat) (k : Key) (v : Val), live s.chip ∧ dueHampers s.chip = [] ∧ s.chip.hampers.queue =
      [.implicit o id k v] ∧ directCheck o k v s.chip = .ok ∧ waitsForCopy [(k, v)] s.chip = false ∧ odSorted s.chip.od ∧
      applyInstant k ∧ s.chip.twin.role ≠ .alternate) ∧
    (∃ (s : State) (x : Hamper) (k : Key) (v : Val), live s.chip ∧ dueHampers s.chip = [] ∧ s.chip.hampers.queue = [.hamper
      x.handle true] ∧ hamperOf s.chip x.handle = some x ∧ x.writes = [(k, v)] ∧ waitsForCopy [(k, v)] s.chip = false ∧ odSorted
      s.chip.od ∧ applyInstant k ∧ s.chip.twin.role ≠ .alternate) ∧
    (∃ (s : State) (h : BitVec 8) (x : Hamper), live s.chip ∧ hamperOf s.chip h.toNat = some x ∧ (x.state = .opened ∨ x.state =
      .joined)) ∧
    (∃ (s : State) (h : BitVec 8) (x : Hamper), live s.chip ∧ hamperOf s.chip h.toNat = some x ∧ x.state ≠ .opened ∧ x.state ≠
      .joined) :=
  ⟨⟨{ chip := { up with hampers := { list := [{ handle := 255, origin := .service, state := .validating, spoiled := some (.range, 3), mode := .commit }], queue := [.hamper 255 false] } } },
     255, { handle := 255, origin := .service, state := .validating, spoiled := some (.range, 3), mode := .commit },
     (.spoiled, 3), by decide +kernel⟩,
   ⟨{ chip := { up with hampers := { list := [{ handle := 255, origin := .service, state := .validating, mode := .commit }], queue := [.hamper 255 false] } } },
     255, { handle := 255, origin := .service, state := .validating, mode := .commit }, by decide +kernel⟩,
   ⟨{ chip := { laneUp with hampers := { list := [{ handle := 255, origin := .service, state := .validating, t := 2000000000, mode := .commitAt }], queue := [.hamper 255 false] } , lane := { state := .member, tvalid := true }, clock := { laneNs := 1000000000 } } },
     { handle := 255, origin := .service, state := .validating, t := 2000000000, mode := .commitAt }, by decide +kernel⟩,
   ⟨{ chip := up }, by decide +kernel⟩,
   ⟨{ chip := { up with hampers := { queue := [.implicit .service 0 (kMarginRail 15) (.num 5)] } } }, .service, 0,
     kMarginRail 15, .num 5, by decide +kernel⟩,
   ⟨{ chip := { up with hampers := { list := [{ handle := 255, origin := .service, state := .validating, writes := [(kMarginRail 15, .num 5)], mode := .commit }], queue := [.hamper 255 true] } } },
     { handle := 255, origin := .service, state := .validating, writes := [(kMarginRail 15, .num 5)], mode := .commit },
     kMarginRail 15, .num 5, by decide +kernel⟩,
   ⟨{ chip := { up with hampers := { list := [{ handle := 255, origin := .service, state := .joined }] } } }, 255,
     { handle := 255, origin := .service, state := .joined }, by decide +kernel⟩,
   ⟨{ chip := { up with hampers := { list := [{ handle := 255, origin := .service, state := .validating, mode := .commit }] } } },
     255, { handle := 255, origin := .service, state := .validating, mode := .commit }, by decide +kernel⟩⟩

/-- The hypotheses of `Obligations.DomainHamperCommands` are met. -/
theorem witness_DomainHamperCommands :
    (∃ (s : State) (f : DomainFrame), f.fits ∧ laneMember s.chip ∧ participantOf s.chip f = none) ∧
    (∃ (s : State) (f : DomainFrame) (x : Hamper), f.fits ∧ laneMember s.chip ∧ participantOf s.chip f = some x ∧ x.state =
      .joined ∧ validate s.chip { x with t := f.applyTime } = none) ∧
    (∃ (s : State) (f : DomainFrame) (x : Hamper) (d : Detail × Nat), f.fits ∧ laneMember s.chip ∧ participantOf s.chip f = some
      x ∧ x.state = .joined ∧ validate s.chip { x with t := f.applyTime } = some d) ∧
    (∃ (s : State) (node : Fin 1024) (f : DomainFrame) (x : Hamper), f.fits ∧ laneMember s.chip ∧ coordinatorOf s.chip f = some x
      ∧ x.state = .validating ∧ x.go = false ∧ node ∈ participants s.chip x ∧ f.no) ∧
    (∃ (s : State) (node : Fin 1024) (f : DomainFrame) (x : Hamper), f.fits ∧ laneMember s.chip ∧ coordinatorOf s.chip f = some x
      ∧ x.state = .validating ∧ x.go = false ∧ node ∈ participants s.chip x ∧ f.no = false ∧ (((participants s.chip x).all fun n
      => decide (n ∈ x.votes ∨ n = node)))) ∧
    (∃ (s : State) (node : Fin 1024) (f : DomainFrame) (x : Hamper), f.fits ∧ laneMember s.chip ∧ coordinatorOf s.chip f = some x
      ∧ x.state = .validating ∧ x.go = false ∧ node ∈ participants s.chip x ∧ f.no = false ∧ (((participants s.chip x).all (fun n
      => decide (n ∈ x.votes ∨ n = node)) = false))) ∧
    (∃ (s : State) (h : BitVec 8) (x : Hamper), hamperOf s.chip h.toNat = some x ∧ live s.chip ∧ x.mode = .coordinator ∧ x.state
      = .validating ∧ x.go = false ∧ x.deadline ≤ s.chip.clock.laneNs ∧ Item.hamper x.handle false ∉ s.chip.hampers.queue) ∧
    (∃ (s : State) (f : DomainFrame) (x : Hamper), f.fits ∧ laneMember s.chip ∧ participantOf s.chip f = some x ∧ x.state =
      .prepared) ∧
    (∃ (s : State) (h : BitVec 8) (x : Hamper), live s.chip ∧ hamperOf s.chip h.toNat = some x ∧ x.mode = .participant ∧ x.state
      = .armed ∧ x.t ≤ s.chip.clock.laneNs + 2000000 ∧ x.armedSent = false) ∧
    (∃ (s : State) (h : BitVec 8) (x : Hamper), live s.chip ∧ hamperOf s.chip h.toNat = some x ∧ x.mode = .participant ∧ x.state
      = .prepared ∧ x.t ≤ s.chip.clock.laneNs + 2000000) ∧
    (∃ (s : State) (node : Fin 1024) (f : DomainFrame) (x : Hamper), f.fits ∧ laneMember s.chip ∧ coordinatorOf s.chip f = some x
      ∧ node ∈ participants s.chip x ∧ node ∉ x.armedNodes) ∧
    (∃ (s : State) (h : BitVec 8) (x : Hamper), live s.chip ∧ hamperOf s.chip h.toNat = some x ∧ x.mode = .coordinator ∧ x.state
      = .armed ∧ x.t ≤ s.chip.clock.laneNs + 1000000 ∧ x.decision = none ∧ ((∀ n ∈ participants s.chip x, n ∈ x.armedNodes))) ∧
    (∃ (s : State) (h : BitVec 8) (x : Hamper), live s.chip ∧ hamperOf s.chip h.toNat = some x ∧ x.mode = .coordinator ∧ x.state
      = .armed ∧ x.t ≤ s.chip.clock.laneNs + 1000000 ∧ x.decision = none ∧ (((participants s.chip x).all fun n =>
      x.armedNodes.contains n) = false)) ∧
    (∃ (s : State) (h : BitVec 8) (x : Hamper) (d : Bool), live s.chip ∧ hamperOf s.chip h.toNat = some x ∧ x.mode = .coordinator
      ∧ s.chip.clock.laneNs + 500000 ≤ x.t ∧ x.decision = some d) ∧
    (∃ (s : State) (f : DomainFrame) (x : Hamper), f.fits ∧ laneMember s.chip ∧ participantOf s.chip f = some x ∧ x.state =
      .armed) ∧
    (∃ (s : State) (f : DomainFrame) (x : Hamper), f.fits ∧ laneMember s.chip ∧ participantOf s.chip f = some x) ∧
    (∃ (s : State) (f : DomainFrame) (x : Hamper), f.fits ∧ laneMember s.chip ∧ participantOf s.chip f = none ∧
      (s.chip.hampers.list.find? fun y => y.mode == .participant && y.state == .failed && y.join == some (f.coordinator,
      f.handle)) = some x) ∧
    (∃ (s : State) (h : BitVec 8) (x : Hamper) (k : Key) (v : Val), live s.chip ∧ hamperOf s.chip h.toNat = some x ∧ x.mode =
      .coordinator ∧ x.state = .armed ∧ x.t ≤ s.chip.clock.laneNs ∧ x.decision = some true ∧ x.writes = [(k, v)] ∧ waitsForCopy
      [(k, v)] s.chip = false ∧ odSorted s.chip.od ∧ applyInstant k) ∧
    (∃ (s : State) (h : BitVec 8) (x : Hamper) (k : Key) (v : Val), live s.chip ∧ hamperOf s.chip h.toNat = some x ∧ x.mode =
      .participant ∧ x.state = .armed ∧ x.t ≤ s.chip.clock.laneNs ∧ x.decision = some true ∧ x.writes = [(k, v)] ∧ waitsForCopy
      [(k, v)] s.chip = false ∧ odSorted s.chip.od ∧ applyInstant k) ∧
    (∃ (s : State) (h : BitVec 8) (x : Hamper), live s.chip ∧ hamperOf s.chip h.toNat = some x ∧ x.mode = .participant ∧ x.state
      = .armed ∧ x.t ≤ s.chip.clock.laneNs ∧ x.decision ≠ some true) ∧
    (∃ (s : State) (node : Fin 1024) (f : DomainFrame) (x : Hamper), f.fits ∧ laneMember s.chip ∧ f.coordinator.val = ownNode
      s.chip ∧ hamperOf s.chip f.handle.toNat = some x ∧ x.mode = .coordinator ∧ x.state = .applied ∧ node ∈ participants s.chip
      x ∧ node ∉ x.appliedNodes) ∧
    (∃ (s : State) (h : BitVec 8) (x : Hamper), live s.chip ∧ hamperOf s.chip h.toNat = some x ∧ x.mode = .coordinator ∧ x.state
      = .applied ∧ x.t + nat s.chip kDomainReportTime * 1000000 ≤ s.chip.clock.laneNs ∧ (((participants s.chip x).filter fun n =>
      !x.appliedNodes.contains n) ≠ [])) :=
  ⟨⟨{ chip := laneUp }, { coordinator := 0, handle := 7, applyTime := 5000000 }, by decide +kernel⟩,
   ⟨{ chip := { laneUp with hampers := { list := [participant .joined] } , lane := { state := .member, tvalid := true }, clock := { laneNs := 1000000000 } } },
     { coordinator := 0, handle := 7, applyTime := 2000000000 }, participant .joined, by decide +kernel⟩,
   ⟨{ chip := hamperUp (participant .joined) }, { coordinator := 0, handle := 7, applyTime := 5000000 }, participant .joined,
     (.time, 255), by decide +kernel⟩,
   ⟨{ chip := hamperUp (coordinator .validating) }, 0, { coordinator := 1023, handle := 1, applyTime := 5000000, no := true },
     coordinator .validating, by decide +kernel⟩,
   ⟨{ chip := hamperUp (coordinator .validating) }, 0, { coordinator := 1023, handle := 1, applyTime := 5000000 },
     coordinator .validating, by decide +kernel⟩,
   ⟨{ chip := { laneUp with hampers := { list := [{ handle := 1, origin := .service, state := .validating, mode := .coordinator, nodes := [3], t := 5000000 }] } } },
     0, { coordinator := 1023, handle := 1, applyTime := 5000000 },
     { handle := 1, origin := .service, state := .validating, mode := .coordinator, nodes := [3], t := 5000000 },
     by decide +kernel⟩,
   ⟨{ chip := hamperUp (coordinator .validating) }, 1, coordinator .validating, by decide +kernel⟩,
   ⟨{ chip := hamperUp (participant .prepared) }, { coordinator := 0, handle := 7, applyTime := 5000000 }, participant .prepared,
     by decide +kernel⟩,
   ⟨{ chip := hamperUp (participant .armed) }, 1, participant .armed, by decide +kernel⟩,
   ⟨{ chip := hamperUp (participant .prepared) }, 1, participant .prepared, by decide +kernel⟩,
   ⟨{ chip := hamperUp (coordinator .armed) }, 0, { coordinator := 1023, handle := 1, applyTime := 5000000 }, coordinator .armed,
     by decide +kernel⟩,
   ⟨{ chip := { hamperUp { coordinator .armed with armedNodes := [0] } with clock := { laneNs := 5000000 } } }, 1,
     { coordinator .armed with armedNodes := [0] }, by decide +kernel⟩,
   ⟨{ chip := { hamperUp (coordinator .armed) with clock := { laneNs := 5000000 } } }, 1, coordinator .armed, by decide +kernel⟩,
   ⟨{ chip := hamperUp { coordinator .armed with decision := some true } }, 1, { coordinator .armed with decision := some true },
     true, by decide +kernel⟩,
   ⟨{ chip := hamperUp (participant .armed) }, { coordinator := 0, handle := 7, applyTime := 5000000 }, participant .armed,
     by decide +kernel⟩,
   ⟨{ chip := hamperUp (participant .armed) }, { coordinator := 0, handle := 7, applyTime := 5000000 }, participant .armed,
     by decide +kernel⟩,
   ⟨{ chip := hamperUp (participant .failed) }, { coordinator := 0, handle := 7, applyTime := 5000000 }, participant .failed,
     by decide +kernel⟩,
   ⟨{ chip := { hamperUp { coordinator .armed with decision := some true, writes := [(kMarginRail 15, .num 5)] } with clock := { laneNs := 5000000 } } },
     1, { coordinator .armed with decision := some true, writes := [(kMarginRail 15, .num 5)] }, kMarginRail 15, .num 5,
     by decide +kernel⟩,
   ⟨{ chip := hamperUp { participant .armed with decision := some true, writes := [(kMarginRail 15, .num 5)] } }, 1,
     { participant .armed with decision := some true, writes := [(kMarginRail 15, .num 5)] }, kMarginRail 15, .num 5,
     by decide +kernel⟩,
   ⟨{ chip := hamperUp (participant .armed) }, 1, participant .armed, by decide +kernel⟩,
   ⟨{ chip := hamperUp (coordinator .applied) }, 0, { coordinator := 1023, handle := 1, applyTime := 5000000 },
     coordinator .applied, by decide +kernel⟩,
   ⟨{ chip := { hamperUp (coordinator .applied) with clock := { laneNs := 300000000000 } } }, 1, coordinator .applied,
     by decide +kernel⟩⟩

/-- The hypotheses of `Obligations.CanLineAndNmtCommands` are met. -/
theorem witness_CanLineAndNmtCommands :
    (∃ (s : State) (l : Fin 2), lineServed s.chip l ∧ s.chip.can.lines[l].errPassive = false ∧ s.chip.can.lines[l].busOff =
      false) ∧
    (∃ (s : State) (l : Fin 2), lineServed s.chip l = false) ∧
    (∃ (s : State) (l : Fin 2), lineServed s.chip l ∧ s.chip.can.lines[l].busOff = false) ∧
    (∃ (s : State) (l : Fin 2), linePresent s.chip l ∧ s.chip.can.lines[l].busOff) ∧
    (∃ (s : State) (l : Fin 2), linePresent s.chip l ∧ ((s.chip.can.lines[l].busOff → s.chip.can.lines[l].recovering))) ∧
    (∃ (s : State) (l : Fin 2), lineServed s.chip l) ∧
    (∃ (s : State) (l : Fin 2), lineServed s.chip l) ∧
    (∃ (s : State) (l : Fin 2), lineServed s.chip l) ∧
    (∃ (s : State) (l : Fin 2), lineServed s.chip l ∧ odSorted s.chip.od) ∧
    (∃ (s : State) (l : Fin 2), lineServed s.chip l ∧ odSorted s.chip.od) ∧
    (∃ (s : State) (l : Fin 2), lineServed s.chip l) ∧
    (∃ (s : State) (l : Fin 2) (e : Fin 4), linePresent s.chip l ∧ (consumerEntry s.chip e).2 ≠ 0 ∧
      s.chip.can.lines[l].hbTimedOut[e] = false) ∧
    (∃ (s : State), linePresent s.chip 0 ∧ nat s.chip kProducerHeartbeatTime ≠ 0) ∧
    (∃ (s : State) (l : Fin 2) (e : Emcy) (rest : List Emcy), lineServed s.chip l ∧ talking s.chip ∧ within s.chip (nat s.chip
      kInhibitTimeEmcy * 100) s.chip.can.lines[l].emcySentAt = false ∧ s.chip.can.lines[l].emcyQ = e :: rest) :=
  ⟨⟨{ chip := canUp }, 1, by decide +kernel⟩,
   ⟨{ chip := {} }, 0, by decide +kernel⟩,
   ⟨{ chip := canUp }, 1, by decide +kernel⟩,
   ⟨{ chip := { canUp with can := { canUp.can with lines := canUp.can.lines.set 0 { busOff := true } } } }, 0, by decide +kernel⟩,
   ⟨{ chip := { canUp with can := { canUp.can with lines := canUp.can.lines.set 0 { errPassive := true } } } }, 0,
     by decide +kernel⟩,
   ⟨{ chip := canUp }, 0, by decide +kernel⟩,
   ⟨{ chip := canUp }, 0, by decide +kernel⟩,
   ⟨{ chip := canUp }, 0, by decide +kernel⟩,
   ⟨{ chip := canUp }, 0, by decide +kernel⟩,
   ⟨{ chip := canUp }, 0, by decide +kernel⟩,
   ⟨{ chip := canUp }, 0, by decide +kernel⟩,
   ⟨{ chip := put (kConsumerHeartbeatTime 0) (.num 0x0001000A) { canUp with hampers := { list := [{ handle := 1, origin := .can 0 }] } } },
     0, 0, by decide +kernel⟩,
   ⟨{ chip := put kProducerHeartbeatTime (.num 100) canUp }, by decide +kernel⟩,
   ⟨{ chip := { canUp with can := { canUp.can with lines := canUp.can.lines.set 0 { emcyQ := [{ code := 0, register := 0, source := 0, transition := 0, record := 0 }] } } } },
     0, { code := 0, register := 0, source := 0, transition := 0, record := 0 }, [], by decide +kernel⟩⟩

/-- The hypotheses of `Obligations.UsdoAndPdoCommands` are met. -/
theorem witness_UsdoAndPdoCommands :
    (∃ (s : State) (l : Fin 2) (q : UsdoRequest), q.fits ∧ lineServed s.chip l ∧ talking s.chip ∧ s.chip.can.lines[l].usdo = none
      ∧ q.write = false ∧ reaches (.can l) q.k false s.chip) ∧
    (∃ (s : State) (l : Fin 2) (q : UsdoRequest), q.fits ∧ lineServed s.chip l ∧ talking s.chip ∧ s.chip.can.lines[l].usdo = none
      ∧ q.write ∧ q.segmented = false ∧ reaches (.can l) q.k true s.chip) ∧
    (∃ (s : State) (l : Fin 2) (q : UsdoRequest), q.fits ∧ lineServed s.chip l ∧ talking s.chip ∧ s.chip.can.lines[l].usdo = none
      ∧ q.write ∧ q.segmented) ∧
    (∃ (s : State) (l : Fin 2) (q : UsdoRequest), q.fits ∧ lineServed s.chip l ∧ talking s.chip ∧
      s.chip.can.lines[l].usdo.isSome) ∧
    (∃ (s : State) (l : Fin 2) (x : UsdoSession), lineServed s.chip l ∧ talking s.chip ∧ s.chip.can.lines[l].usdo = some x ∧
      x.write) ∧
    (∃ (s : State) (l : Fin 2) (x : UsdoSession), lineServed s.chip l ∧ talking s.chip ∧ s.chip.can.lines[l].usdo = some x ∧
      x.write ∧ reaches (.can l) x.k true s.chip) ∧
    (∃ (s : State) (l : Fin 2) (x : UsdoSession), lineServed s.chip l ∧ talking s.chip ∧ s.chip.can.lines[l].usdo = some x ∧
      x.write = false ∧ x.ready) ∧
    (∃ (s : State) (l : Fin 2) (x : UsdoSession), lineServed s.chip l ∧ talking s.chip ∧ s.chip.can.lines[l].usdo = some x ∧
      x.ready) ∧
    (∃ (s : State) (l : Fin 2) (counter : BitVec 8) (k : Fin 16) (v : List Byte), lineServed s.chip l ∧ s.chip.can.nmt =
      .operational ∧ tpdoValid s.chip k ∧ 1 ≤ nat s.chip (kTpdoType k) ∧ nat s.chip (kTpdoType k) ≤ 0xF0 ∧ nat s.chip (kTpdoType
      k) ≤ s.chip.can.tpdos[k].syncs + 1 ∧ syncCounts s.chip k counter ∧ sampleAll s.chip (tpdoMap s.chip k) = some v ∧ ((∀ j :
      Fin 16, j ≠ k → tpdoValid s.chip j = false)) ∧ ((∀ j : Fin 16, s.chip.can.rpdos[j].waiting = none))) ∧
    (∃ (s : State) (l : Fin 2), lineServed s.chip l ∧ s.chip.can.nmt = .operational ∧ ((∀ j : Fin 16, tpdoValid s.chip j =
      false))) ∧
    (∃ (s : State) (l : Fin 2) (k : Fin 16) (b : List Byte) (q : Key) (n : Nat), b.length ≤ 64 ∧ lineServed s.chip l ∧
      s.chip.can.nmt = .operational ∧ rpdoValid s.chip k ∧ rpdoDuplicate s.chip l k b = false ∧ 0xF0 < nat s.chip (kRpdoType k) ∧
      rpdoMap s.chip k = [(q, n)] ∧ n ≤ b.length ∧ reaches (.can l) q true s.chip) ∧
    (∃ (s : State) (l : Fin 2) (k : Fin 16) (b : List Byte), b.length ≤ 64 ∧ lineServed s.chip l ∧ s.chip.can.nmt = .operational
      ∧ rpdoValid s.chip k ∧ rpdoDuplicate s.chip l k b = false ∧ 0xF0 < nat s.chip (kRpdoType k) ∧ b.length < ((rpdoMap s.chip
      k).map (·.2)).foldl (· + ·) 0) ∧
    (∃ (s : State) (l : Fin 2) (k : Fin 16) (b : List Byte), b.length ≤ 64 ∧ lineServed s.chip l ∧ s.chip.can.nmt = .operational
      ∧ rpdoValid s.chip k ∧ rpdoDuplicate s.chip l k b = false ∧ nat s.chip (kRpdoType k) ≤ 0xF0) ∧
    (∃ (s : State) (l : Fin 2) (k : Fin 16) (b : List Byte), b.length ≤ 64 ∧ lineServed s.chip l ∧ s.chip.can.nmt = .operational
      ∧ rpdoValid s.chip k ∧ rpdoDuplicate s.chip l k b) ∧
    (∃ (s : State) (k : Fin 16), linePresent s.chip 0 ∧ s.chip.can.nmt = .operational ∧ rpdoValid s.chip k ∧ nat s.chip
      (kRpdoTimer k) ≠ 0 ∧ rpdoOverdue s.chip k ∧ s.chip.can.rpdoStale.getLsbD k = false) ∧
    (∃ (s : State) (k : Fin 16) (old : List Byte) (v : List Byte), linePresent s.chip 0 ∧ s.chip.can.nmt = .operational ∧
      eventDriven s.chip k ∧ isCapPdo s.chip k = false ∧ s.chip.can.tpdos[k].values = some old ∧ sampleAll s.chip (tpdoMap s.chip
      k) = some v ∧ old ≠ v ∧ tpdoInhibited s.chip k = false ∧ ((∀ j : Fin 16, j ≠ k → eventDriven s.chip j = false))) ∧
    (∃ (s : State), linePresent s.chip 0 ∧ s.chip.can.nmt = .operational ∧ ((∀ j : Fin 16, eventDriven s.chip j = false))) ∧
    (∃ (s : State) (k : Fin 16) (v : List Byte), linePresent s.chip 0 ∧ s.chip.can.nmt = .operational ∧ eventDriven s.chip k ∧
      nat s.chip (kTpdoTimer k) ≠ 0 ∧ sampleAll s.chip (tpdoMap s.chip k) = some v) ∧
    (∃ (s : State) (k : Fin 16) (v : List Byte), linePresent s.chip 0 ∧ s.chip.can.nmt = .operational ∧ tpdoValid s.chip k ∧
      s.chip.can.tpdos[k].delayed ∧ tpdoInhibited s.chip k = false ∧ sampleAll s.chip (tpdoMap s.chip k) = some v) :=
  ⟨⟨{ chip := canUp }, 1, { write := false, k := kBusTarget, segmented := false, data := [] }, by decide +kernel⟩,
   ⟨{ chip := canUp }, 1, { write := true, k := kBusTarget, segmented := false, data := [0, 0, 0, 0] }, by decide +kernel⟩,
   ⟨{ chip := canUp }, 1, { write := true, k := kBusTarget, segmented := true, data := [] }, by decide +kernel⟩,
   ⟨{ chip := { canUp with can := { canUp.can with lines := canUp.can.lines.set 0 { usdo := some { write := true, k := kBusTarget, data := [] } } } } },
     0, { write := false, k := kBusTarget, segmented := false, data := [] }, by decide +kernel⟩,
   ⟨{ chip := { canUp with can := { canUp.can with lines := canUp.can.lines.set 0 { usdo := some { write := true, k := kBusTarget, data := [0, 0] } } } } },
     0, { write := true, k := kBusTarget, data := [0, 0] }, by decide +kernel⟩,
   ⟨{ chip := { canUp with can := { canUp.can with lines := canUp.can.lines.set 0 { usdo := some { write := true, k := kBusTarget, data := [0, 0] } } } } },
     0, { write := true, k := kBusTarget, data := [0, 0] }, by decide +kernel⟩,
   ⟨{ chip := { canUp with can := { canUp.can with lines := canUp.can.lines.set 0 { usdo := some { write := false, k := kBusTarget, data := [7] } } } } },
     0, { write := false, k := kBusTarget, data := [7] }, by decide +kernel⟩,
   ⟨{ chip := { canUp with can := { canUp.can with lines := canUp.can.lines.set 0 { usdo := some { write := true, k := kBusTarget, data := [0, 0] } } } } },
     0, { write := true, k := kBusTarget, data := [0, 0] }, by decide +kernel⟩,
   ⟨{ chip := put (kTpdoType 0) (.num 1) canUp }, 0, 0, 0, [0, 83, 7, 0], by decide +kernel⟩,
   ⟨{ chip := put (kTpdoCobId 0) (.num 0x80000000) canUp }, 0, by decide +kernel⟩,
   ⟨{ chip := canUp }, 0, 0, [1, 0, 0, 0], kBusTarget, 4, by decide +kernel⟩,
   ⟨{ chip := canUp }, 0, 0, [1, 0], by decide +kernel⟩,
   ⟨{ chip := put (kRpdoType 0) (.num 0) canUp }, 0, 0, [1, 0, 0, 0], by decide +kernel⟩,
   ⟨{ chip := { canUp with can := { canUp.can with rpdos := Vector.replicate 16 { heard := #v[[], [(0, [1, 0, 0, 0])]] } } } },
     0, 0, [1, 0, 0, 0], by decide +kernel⟩,
   ⟨{ chip := put (kRpdoTimer 0) (.num 100) canUp }, 0, by decide +kernel⟩,
   ⟨{ chip := { canUp with can := { canUp.can with tpdos := Vector.replicate 16 { values := some [1, 0, 0, 0] } } } }, 0,
     [1, 0, 0, 0], [0, 83, 7, 0], by decide +kernel⟩,
   ⟨{ chip := put (kTpdoType 0) (.num 1) canUp }, by decide +kernel⟩,
   ⟨{ chip := put (kTpdoTimer 0) (.num 100) canUp }, 0, [0, 83, 7, 0], by decide +kernel⟩,
   ⟨{ chip := { canUp with can := { canUp.can with tpdos := Vector.replicate 16 { delayed := true } } } }, 0, [0, 83, 7, 0],
     by decide +kernel⟩⟩

/-- The hypotheses of `Obligations.TwoWireCommands` are met. -/
theorem witness_TwoWireCommands :
    (∃ (s : State) (f : TwFrame), f.fits ∧ twAnswers s.chip f.addr ∧ twWhole f true ∧ pecAccepted s.chip f true ∧ twDuplicate
      s.chip f = false ∧ reaches .twoWire f.k true s.chip) ∧
    (∃ (s : State) (f : TwFrame), f.fits ∧ twAnswers s.chip f.addr ∧ twWhole f true ∧ pecAccepted s.chip f true ∧ twDuplicate
      s.chip f ∧ s.chip.tw.results.length < 8) ∧
    (∃ (s : State) (f : TwFrame), f.fits ∧ twAnswers s.chip f.addr ∧ twWhole f true ∧ pecBad f true) ∧
    (∃ (s : State) (f : TwFrame), f.fits ∧ (twAnswers s.chip f.addr = false ∨ twWhole f true = false)) ∧
    (∃ (s : State) (f : TwFrame), f.fits ∧ f.data = [] ∧ twAnswers s.chip f.addr ∧ twWhole f false ∧ pecAccepted s.chip f false ∧
      reaches .twoWire f.k false s.chip) ∧
    (∃ (s : State) (a : BitVec 7) (seq : BitVec 8) (r : TwResult), twAnswers s.chip a ∧ seq ≠ 0 ∧ (s.chip.tw.results.find? (fun x
      => x.seq == seq) = some r)) ∧
    (∃ (s : State) (a : BitVec 7) (r : TwResult) (rest : List TwResult), twAnswers s.chip a ∧ s.chip.tw.results = r :: rest) ∧
    (∃ (s : State) (a : BitVec 7), twAnswers s.chip a ∧ s.chip.tw.results = []) ∧
    (∃ (s : State), netUp s.chip) ∧
    (∃ (s : State), netUp s.chip) ∧
    (∃ (s : State) (r : TwResult) (rest : List TwResult), s.chip.tw.results = r :: rest ∧ r.at_ + 1000000 ≤ s.chip.clock.us) :=
  ⟨⟨{ chip := up }, { addr := 64, seq := 7, k := kBusTarget, len := 4, data := [0, 83, 7, 0], pec := some 0x58 },
     by decide +kernel⟩,
   ⟨{ chip := { up with tw := { history := [{ seq := 7, k := kBusTarget, len := 4, data := [0, 83, 7, 0], at_ := 0 }] } } },
     { addr := 64, seq := 7, k := kBusTarget, len := 4, data := [0, 83, 7, 0], pec := some 0x58 }, by decide +kernel⟩,
   ⟨{ chip := up }, { addr := 64, seq := 7, k := kBusTarget, len := 4, data := [0, 83, 7, 0], pec := some 0 }, by decide +kernel⟩,
   ⟨{ chip := { up with tw := { waitIdle := true } } },
     { addr := 64, seq := 7, k := kBusTarget, len := 4, data := [0, 83, 7, 0], pec := none }, by decide +kernel⟩,
   ⟨{ chip := up }, { addr := 64, seq := 7, k := kBusTarget, len := 0, data := [], pec := some 0x27 }, by decide +kernel⟩,
   ⟨{ chip := { up with tw := { results := [{ seq := 7, status := 0, data := [] }] } } }, 64, 7,
     { seq := 7, status := 0, data := [] }, by decide +kernel⟩,
   ⟨{ chip := { up with tw := { results := [{ seq := 7, status := 0, data := [] }] } } }, 64,
     { seq := 7, status := 0, data := [] }, [], by decide +kernel⟩,
   ⟨{ chip := up }, 64, by decide +kernel⟩,
   ⟨{ chip := up }, by decide +kernel⟩,
   ⟨{ chip := up }, by decide +kernel⟩,
   ⟨{ chip := { up with clock := { us := 1000000 }, tw := { results := [{ seq := 7, status := 0, data := [] }] } } },
     { seq := 7, status := 0, data := [] }, [], by decide +kernel⟩⟩

/-- The hypotheses of `Obligations.ServicePortCommands` are met. -/
theorem witness_ServicePortCommands :
    (∃ (s : State), svcListens s.chip) ∧
    (∃ (s : State) (r : Nat), r < 4294967296 ∧ svcListens s.chip ∧ r ∈ svcRates) ∧
    (∃ (s : State) (r : Nat), r < 4294967296 ∧ svcListens s.chip ∧ r ∉ svcRates) ∧
    (∃ (s : State) (r : Nat), s.chip.svc.newRate = some r) ∧
    (∃ (s : State), live s.chip ∧ s.chip.svc.proving) ∧
    (∃ (s : State) (k : Key), k < 0x1000000 ∧ svcListens s.chip ∧ inRecovery s.chip = false ∧ reaches .service k false s.chip) ∧
    (∃ (s : State) (k : Key), k < 0x1000000 ∧ inRecovery s.chip) ∧
    (∃ (s : State) (k : Key) (data : List Byte), k < 0x1000000 ∧ data.length ≤ 4093 ∧ svcListens s.chip ∧ inRecovery s.chip =
      false ∧ reaches .service k true s.chip) ∧
    (∃ (s : State) (k : Key) (length : Nat), k < 0x1000000 ∧ length ≤ 4095 ∧ svcListens s.chip ∧ inRecovery s.chip = false ∧
      svcReading s.chip = false ∧ reaches .service k false s.chip) ∧
    (∃ (s : State) (k : Key) (offset : Nat) (length : Nat) (x : Transfer), k < 0x1000000 ∧ offset < 4294967296 ∧ length ≤ 4095 ∧
      svcListens s.chip ∧ inRecovery s.chip = false ∧ 0 < offset ∧ s.chip.svc.reader = some x ∧ x.k = k ∧ x.next = offset) ∧
    (∃ (s : State) (k : Key) (offset : Nat) (data : List Byte) (all : List Byte), k < 0x1000000 ∧ offset < 4294967296 ∧
      data.length ≤ 4089 ∧ svcListens s.chip ∧ inRecovery s.chip = false ∧ ((offset = 0 → s.chip.svc.writer = none)) ∧ gather
      s.chip.svc.writer k offset data = some all) ∧
    (∃ (s : State) (k : Key) (offset : Nat) (data : List Byte) (all : List Byte), k < 0x1000000 ∧ offset < 4294967296 ∧
      data.length ≤ 4089 ∧ svcListens s.chip ∧ inRecovery s.chip = false ∧ ((offset = 0 → s.chip.svc.writer = none)) ∧ gather
      s.chip.svc.writer k offset data = some all ∧ reaches .service k true s.chip) ∧
    (∃ (s : State) (m : Fin 16), svcListens s.chip ∧ inRecovery s.chip = false ∧ (s.chip.mills[m].trace.state = .armed ∨
      s.chip.mills[m].trace.state = .triggered)) ∧
    (∃ (s : State) (m : Fin 16), svcListens s.chip ∧ inRecovery s.chip = false ∧ (s.chip.mills[m].trace.state = .idle ∨
      s.chip.mills[m].trace.state = .done)) ∧
    (∃ (s : State) (slot : Nat) (offset : Nat) (length : Nat) (d : Dump), slot < 15 ∧ length ≤ 4095 ∧ offset + length ≤ 69632 ∧
      svcListens s.chip ∧ inRecovery s.chip = false ∧ s.chip.nor.dumps[Fin.ofNat 15 slot] = some d) ∧
    (∃ (s : State) (slot : Nat) (offset : Nat) (length : Nat), slot < 256 ∧ offset < 4294967296 ∧ length ≤ 4095 ∧ svcListens
      s.chip ∧ inRecovery s.chip = false ∧ (15 ≤ slot ∨ 69632 < offset + length)) ∧
    (∃ (s : State), svcListens s.chip) ∧
    (∃ (s : State), svcListens s.chip) ∧
    (∃ (s : State), svcListens s.chip ∧ s.chip.svc.up) ∧
    (∃ (s : State), svcListens s.chip ∧ inRecovery s.chip = false) :=
  ⟨⟨{ chip := { up with boot := { phase := .recovery } } }, by decide +kernel⟩,
   ⟨{ chip := { up with boot := { phase := .recovery } } }, 12000000, by decide +kernel⟩,
   ⟨{ chip := up }, 9600, by decide +kernel⟩,
   ⟨{ chip := { up with svc := { newRate := some 230400 } } }, 230400, by decide +kernel⟩,
   ⟨{ chip := { up with svc := { proving := true } } }, by decide +kernel⟩,
   ⟨{ chip := up }, kBusTarget, by decide +kernel⟩,
   ⟨{ chip := { up with boot := { phase := .recovery } } }, kBusTarget, by decide +kernel⟩,
   ⟨{ chip := up }, kBusTarget, [], by decide +kernel⟩,
   ⟨{ chip := up }, kBusTarget, 0, by decide +kernel⟩,
   ⟨{ chip := { up with svc := { reader := some { k := kBusTarget, data := [1, 2, 3], next := 1 } } } }, kBusTarget, 1, 1,
     { k := kBusTarget, data := [1, 2, 3], next := 1 }, by decide +kernel⟩,
   ⟨{ chip := up }, kBusTarget, 0, [], [], by decide +kernel⟩,
   ⟨{ chip := up }, kBusTarget, 0, [], [], by decide +kernel⟩,
   ⟨{ chip := { up with mills := Vector.replicate 16 { trace := { state := .armed } } } }, 15, by decide +kernel⟩,
   ⟨{ chip := { up with nor := { dumps := Vector.replicate 15 (some { mill := 0, channels := [], data := [] }) } } }, 0,
     by decide +kernel⟩,
   ⟨{ chip := { up with nor := { dumps := Vector.replicate 15 (some { mill := 15, channels := [], data := [1, 2] }) } } }, 14,
     69631, 1, { mill := 15, channels := [], data := [1, 2] }, by decide +kernel⟩,
   ⟨{ chip := up }, 15, 4294967295, 4095, by decide +kernel⟩,
   ⟨{ chip := up }, by decide +kernel⟩,
   ⟨{ chip := { up with svc := { up := true } } }, by decide +kernel⟩,
   ⟨{ chip := { up with svc := { up := true } } }, by decide +kernel⟩,
   ⟨{ chip := up }, by decide +kernel⟩⟩

/-- The hypotheses of `Obligations.UpdateAndLifeCycleCommands` are met. -/
theorem witness_UpdateAndLifeCycleCommands :
    (∃ (s : State) (slot : BitVec 8) (length : Nat), svcListens s.chip ∧ length ≤ 1576960 ∧ slot ≤ 1 ∧ lifeCycle s.chip ≠
      .retired ∧ updating s.chip = false ∧ (inRecovery s.chip ∨ slot.toNat ≠ s.chip.boot.slot.val)) ∧
    (∃ (s : State), s.chip.update.state = .erasing) ∧
    (∃ (s : State) (offset : Nat) (data : List Byte), offset < 4294967296 ∧ data.length ≤ 4092 ∧ data ≠ [] ∧ svcListens s.chip ∧
      lifeCycle s.chip ≠ .retired ∧ s.chip.update.state = .receiving ∧ offset = updateTaken s.chip ∧ offset + data.length ≤
      s.chip.update.length) ∧
    (∃ (s : State) (offset : Nat) (data : List Byte), offset < 4294967296 ∧ data.length ≤ 4092 ∧ data ≠ [] ∧ svcListens s.chip ∧
      lifeCycle s.chip ≠ .retired ∧ (s.chip.update.state ≠ .receiving ∨ offset ≠ updateTaken s.chip)) ∧
    (∃ (s : State) (tag : BitVec 16) (b : List Byte) (rest : List (BitVec 16 × List Byte)), s.chip.update.pieces = (tag, b) ::
      rest) ∧
    (∃ (s : State), svcListens s.chip ∧ lifeCycle s.chip ≠ .retired ∧ s.chip.update.state = .receiving ∧ s.chip.update.received =
      s.chip.update.length) ∧
    (∃ (s : State), svcListens s.chip ∧ lifeCycle s.chip ≠ .retired ∧ (s.chip.update.state ≠ .receiving ∨ s.chip.update.received
      ≠ s.chip.update.length)) ∧
    (∃ (s : State), resettable s.chip ∧ updating s.chip ∧ s.chip.update.lastAt + 60000000 ≤ s.chip.clock.us) ∧
    (∃ (s : State) (t : Nat), s.chip.update.restartAt = some t ∧ t ≤ s.chip.clock.us ∧ resettable s.chip) ∧
    (∃ (s : State), svcListens s.chip ∧ inRecovery s.chip = false) ∧
    (∃ (s : State) (t : LcTransition), t.fits ∧ svcListens s.chip ∧ inRecovery s.chip = false ∧ s.chip.lc.accepted = none) ∧
    (∃ (s : State) (dest : LifeCycle), s.chip.lc.accepted = some dest ∧ resettable s.chip) ∧
    (∃ (s : State), s.chip.lc.accepted = none) :=
  ⟨⟨{ chip := up }, 1, 0, by decide +kernel⟩,
   ⟨{ chip := { up with update := { state := .erasing } } }, by decide +kernel⟩,
   ⟨{ chip := { up with update := { state := .receiving, length := 9 } } }, 0, [1], by decide +kernel⟩,
   ⟨{ chip := up }, 0, [1], by decide +kernel⟩,
   ⟨{ chip := { up with update := { state := .receiving, length := 9, pieces := [(0, [1])] } } }, 0, [1], [], by decide +kernel⟩,
   ⟨{ chip := { up with update := { state := .receiving } } }, by decide +kernel⟩,
   ⟨{ chip := up }, by decide +kernel⟩,
   ⟨{ chip := { up with clock := { us := 60000000 }, update := { state := .receiving } } }, by decide +kernel⟩,
   ⟨{ chip := { up with update := { state := .ended, restartAt := some 0 } } }, 0, by decide +kernel⟩,
   ⟨{ chip := up }, by decide +kernel⟩,
   ⟨{ chip := retiring }, retirement, by decide +kernel⟩,
   ⟨{ chip := { up with lc := { accepted := some .retired } } }, .retired, by decide +kernel⟩,
   ⟨{ chip := up }, by decide +kernel⟩⟩

/-- The hypotheses of `Obligations.LaneLinkAndFrameCommands` are met. -/
theorem witness_LaneLinkAndFrameCommands :
    (∃ (s : State) (p : LanePort) (farB : Bool), laneRuns s.chip ∧ farB = (p == .b)) ∧
    (∃ (s : State) (p : LanePort) (farB : Bool), laneRuns s.chip ∧ farB ≠ (p == .b)) ∧
    (∃ (s : State) (p : LanePort), (laneLink s.chip p).up) ∧
    (∃ (s : State), laneRuns s.chip ∧ s.chip.lane.linkA.up = false ∧ s.chip.lane.linkB.up) ∧
    (∃ (s : State), laneRuns s.chip ∧ s.chip.lane.linkA.up ∧ s.chip.lane.linkB.up = false) ∧
    (∃ (s : State), laneRuns s.chip ∧ s.chip.lane.linkA.up = s.chip.lane.linkB.up) ∧
    (∃ (s : State) (p : LanePort) (f : LaneFrame), f.payload.length < 512 ∧ laneRuns s.chip ∧ (laneLink s.chip p).up ∧ frameBad f
      ∧ forwards s.chip f = false) ∧
    (∃ (s : State) (p : LanePort) (f : LaneFrame), f.payload.length < 512 ∧ laneRuns s.chip ∧ (laneLink s.chip p).up ∧ frameBad f
      = false ∧ addressed s.chip f ∧ delivers s.chip f ∧ f.seq ∉ seqsOf s.chip f) ∧
    (∃ (s : State) (p : LanePort) (f : LaneFrame), f.payload.length < 512 ∧ laneRuns s.chip ∧ (laneLink s.chip p).up ∧ f.seq ∈
      seqsOf s.chip f) ∧
    (∃ (s : State) (p : LanePort) (f : LaneFrame), f.payload.length < 512 ∧ laneRuns s.chip ∧ (laneLink s.chip p).up ∧ hchkBad f
      = false ∧ forwards s.chip f ∧ (laneLink s.chip (otherPort p)).up ∧ s.chip.lane.wrap = none) ∧
    (∃ (s : State) (p : LanePort) (f : LaneFrame), f.payload.length < 512 ∧ laneRuns s.chip ∧ (laneLink s.chip p).up ∧ hchkBad f
      ∧ forwards s.chip f ∧ (laneLink s.chip (otherPort p)).up ∧ s.chip.lane.wrap = none) :=
  ⟨⟨{ chip := up }, .b, true, by decide +kernel⟩,
   ⟨{ chip := put kLaneEnable (.num 1) up }, .a, true, by decide +kernel⟩,
   ⟨{ chip := { laneUp with lane := { laneUp.lane with linkA := { up := true }, linkB := { up := true } } } }, .a,
     by decide +kernel⟩,
   ⟨{ chip := { laneUp with lane := { laneUp.lane with linkB := { up := true } } } }, by decide +kernel⟩,
   ⟨{ chip := { laneUp with lane := { laneUp.lane with linkA := { up := true } } } }, by decide +kernel⟩,
   ⟨{ chip := { laneUp with lane := { laneUp.lane with linkA := { up := true }, linkB := { up := true } } } }, by decide +kernel⟩,
   ⟨{ chip := { laneUp with lane := { laneUp.lane with linkA := { up := true }, linkB := { up := true } } } }, .a,
     { dest := 1023, cls := 0, src := 3, seq := 0, dir := false, hops := 0, turns := 0, payload := [], hchk := 0, crc := 0 },
     by decide +kernel⟩,
   ⟨{ chip := { laneUp with lane := { laneUp.lane with linkA := { up := true }, linkB := { up := true } } } }, .a,
     { dest := 1023, cls := 0, src := 3, seq := 0, dir := false, hops := 0, turns := 0, payload := [], hchk := hchkOf { dest := 1023, cls := 0, src := 3, seq := 0, dir := false, hops := 0, turns := 0, payload := [], hchk := 0, crc := 0 }, crc := crcOf { dest := 1023, cls := 0, src := 3, seq := 0, dir := false, hops := 0, turns := 0, payload := [], hchk := 0, crc := 0 } },
     by decide +kernel⟩,
   ⟨{ chip := { laneUp with lane := { laneUp.lane with linkA := { up := true }, linkB := { up := true }, history := [{ src := 3, cls := 0, seqs := [0] }] } } },
     .a, { dest := 5, cls := 0, src := 3, seq := 0, dir := false, hops := 0, turns := 0, payload := [], hchk := 0, crc := 0 },
     by decide +kernel⟩,
   ⟨{ chip := { laneUp with lane := { laneUp.lane with linkA := { up := true }, linkB := { up := true } } } }, .a,
     { dest := 5, cls := 0, src := 3, seq := 0, dir := false, hops := 0, turns := 0, payload := [], hchk := hchkOf { dest := 5, cls := 0, src := 3, seq := 0, dir := false, hops := 0, turns := 0, payload := [], hchk := 0, crc := 0 }, crc := crcOf { dest := 5, cls := 0, src := 3, seq := 0, dir := false, hops := 0, turns := 0, payload := [], hchk := 0, crc := 0 } },
     by decide +kernel⟩,
   ⟨{ chip := { laneUp with lane := { laneUp.lane with linkA := { up := true }, linkB := { up := true } } } }, .a,
     { dest := 5, cls := 0, src := 3, seq := 0, dir := false, hops := 0, turns := 0, payload := [], hchk := 0, crc := 0 },
     by decide +kernel⟩⟩

/-- The hypotheses of `Obligations.LaneMembershipAndTimeCommands` are met. -/
theorem witness_LaneMembershipAndTimeCommands :
    (∃ (s : State), laneActive s.chip ∧ s.chip.lane.wrap = none ∧ s.chip.lane.linkA.up) ∧
    (∃ (s : State) (f : RollFrame), f.serial < 18446744073709551616 ∧ f.age < 4294967296 ∧ laneActive s.chip ∧ f.node.val ≠
      s.chip.lane.nodeIdNow) ∧
    (∃ (s : State) (f : RollFrame), f.serial < 18446744073709551616 ∧ f.age < 4294967296 ∧ laneActive s.chip ∧ f.node.val =
      s.chip.lane.nodeIdNow ∧ f.serial ≠ ownSerial s.chip ∧ losesTo s.chip f) ∧
    (∃ (s : State) (f : RollFrame), f.serial < 18446744073709551616 ∧ f.age < 4294967296 ∧ laneActive s.chip ∧ f.node.val =
      s.chip.lane.nodeIdNow ∧ losesTo s.chip f = false) ∧
    (∃ (s : State), laneActive s.chip ∧ s.chip.lane.state = .joining ∧ within s.chip 30000 s.chip.lane.joinedAt = false) ∧
    (∃ (s : State) (n : Fin 1024), laneRuns s.chip ∧ live s.chip ∧ (s.chip.lane.nodes.any fun x => x.node == n && overdue s.chip
      x)) ∧
    (∃ (s : State) (p : LanePort), laneRuns s.chip ∧ (laneLink s.chip p).up) ∧
    (∃ (s : State) (p : LanePort) (f : TsyncFrame), f.departure < 18446744073709551616 ∧ f.arrival < 18446744073709551616 ∧
      laneRuns s.chip ∧ (laneLink s.chip p).up ∧ (upstreamPort (setLink p (fun l => { l with upstream := some f, upstreamAt := s.chip.clock.us })
      s.chip) = some p) ∧ f.epoch = s.chip.lane.epoch ∧ -10000 ≤ tsyncOffset p f s.chip ∧ tsyncOffset p f s.chip ≤ 10000) ∧
    (∃ (s : State) (p : LanePort) (f : TsyncFrame), f.departure < 18446744073709551616 ∧ f.arrival < 18446744073709551616 ∧
      laneRuns s.chip ∧ (laneLink s.chip p).up ∧ (upstreamPort (setLink p (fun l => { l with upstream := some f, upstreamAt := s.chip.clock.us })
      s.chip) = some p) ∧ f.epoch ≠ s.chip.lane.epoch ∧ s.chip.watch.safe = false) ∧
    (∃ (s : State) (p : LanePort) (f : TsyncFrame), f.departure < 18446744073709551616 ∧ f.arrival < 18446744073709551616 ∧
      laneRuns s.chip ∧ (laneLink s.chip p).up ∧ (upstreamPort (setLink p (fun l => { l with upstream := some f, upstreamAt := s.chip.clock.us })
      s.chip) ≠ some p)) ∧
    (∃ (s : State) (p : LanePort), laneRuns s.chip ∧ (laneLink s.chip p).up) ∧
    (∃ (s : State) (p : LanePort) (t : Nat), t < 18446744073709551616 ∧ laneRuns s.chip ∧ (laneLink s.chip p).up) ∧
    (∃ (s : State) (p : LanePort) (t1 : Nat) (t2 : Nat) (t3 : Nat) (t4 : Nat), t2 < 18446744073709551616 ∧ t3 <
      18446744073709551616 ∧ t4 < 18446744073709551616 ∧ laneRuns s.chip ∧ (laneLink s.chip p).up ∧ (laneLink s.chip p).t1 = some
      t1) ∧
    (∃ (s : State), laneActive s.chip ∧ isMaster s.chip = false ∧ upstreamGone s.chip ∧ s.chip.lane.holdover = false) ∧
    (∃ (s : State), laneRuns s.chip ∧ s.chip.lane.holdover ∧ within s.chip (nat s.chip kLaneHoldover * 1000)
      s.chip.lane.holdoverAt = false ∧ s.chip.lane.tvalid) :=
  ⟨⟨{ chip := { laneUp with lane := { laneUp.lane with linkA := { up := true }, linkB := { up := true } } } }, by decide +kernel⟩,
   ⟨{ chip := laneUp }, { node := 3, flags := {}, masterId := 0, hops := 0, epoch := 0, serial := 1, age := 1 },
     by decide +kernel⟩,
   ⟨{ chip := laneUp }, { node := 1023, flags := {}, masterId := 0, hops := 0, epoch := 0, serial := 1, age := 1 },
     by decide +kernel⟩,
   ⟨{ chip := laneUp }, { node := 1023, flags := {}, masterId := 0, hops := 0, epoch := 0, serial := 1, age := 0 },
     by decide +kernel⟩,
   ⟨{ chip := { up with lane := { state := .joining } } }, by decide +kernel⟩,
   ⟨{ chip := { laneUp with clock := { us := 1000000000 }, lane := { laneUp.lane with nodes := [{ node := 1022, heard := true, heardAt := 0 }] } } },
     1022, by decide +kernel⟩,
   ⟨{ chip := { laneUp with lane := { laneUp.lane with linkA := { up := true }, linkB := { up := true } } } }, .b,
     by decide +kernel⟩,
   ⟨{ chip := { laneUp with lane := { laneUp.lane with linkA := { up := true }, linkB := { up := true }, master := some 0 } } },
     .b, { flags := {}, masterId := 0, hops := 0, epoch := 0, departure := 50, arrival := 0 }, by decide +kernel⟩,
   ⟨{ chip := { laneUp with lane := { laneUp.lane with linkA := { up := true }, linkB := { up := true }, master := some 0 } } },
     .b, { flags := {}, masterId := 0, hops := 0, epoch := 7, departure := 50, arrival := 0 }, by decide +kernel⟩,
   ⟨{ chip := { laneUp with lane := { laneUp.lane with linkA := { up := true }, linkB := { up := true } } } }, .b,
     { flags := {}, masterId := 0, hops := 0, epoch := 7, departure := 50, arrival := 0 }, by decide +kernel⟩,
   ⟨{ chip := { laneUp with lane := { laneUp.lane with linkA := { up := true }, linkB := { up := true } } } }, .a,
     by decide +kernel⟩,
   ⟨{ chip := { laneUp with lane := { laneUp.lane with linkA := { up := true }, linkB := { up := true } } } }, .a, 0,
     by decide +kernel⟩,
   ⟨{ chip := { laneUp with lane := { laneUp.lane with linkB := { up := true, t1 := some 100 } } } }, .b, 100, 0, 20, 180,
     by decide +kernel⟩,
   ⟨{ chip := laneUp }, by decide +kernel⟩,
   ⟨{ chip := { laneUp with lane := { laneUp.lane with holdover := true, tvalid := true } } }, by decide +kernel⟩⟩

/-- The hypotheses of `Obligations.LaneRemoteAccessCommands` are met. -/
theorem witness_LaneRemoteAccessCommands :
    (∃ (s : State) (src : Fin 1024) (q : OdRequest), q.fits ∧ laneMember s.chip ∧ q.op = .read ∧ reaches (.lane src) q.k false
      s.chip) ∧
    (∃ (s : State) (src : Fin 1024) (q : OdRequest), q.fits ∧ laneMember s.chip ∧ q.op = .write ∧ reaches (.lane src) q.k true
      s.chip) ∧
    (∃ (s : State) (src : Fin 1024) (q : OdRequest), q.fits ∧ laneMember s.chip ∧ q.op = .domainRead ∧ q.length ≤ 240 ∧ q.offset
      = 0 ∧ odReading s.chip src = false ∧ reaches (.lane src) q.k false s.chip) ∧
    (∃ (s : State) (src : Fin 1024) (q : OdRequest) (r : OdTransfer), q.fits ∧ laneMember s.chip ∧ q.op = .domainRead ∧ q.length
      ≤ 240 ∧ 0 < q.offset ∧ (s.chip.lane.readers.find? (fun x => x.node == src && decide (s.chip.clock.us < x.at_ + 1000000)) =
      some r) ∧ r.t.k = q.k ∧ r.t.next = q.offset) ∧
    (∃ (s : State) (src : Fin 1024) (q : OdRequest) (all : List Byte), q.fits ∧ laneMember s.chip ∧ q.op = .domainWrite ∧ q.last
      = false ∧ ((q.offset = 0 → (s.chip.lane.writers.find? fun x => x.node == src) = none)) ∧ (gather
      ((s.chip.lane.writers.find? fun x => x.node == src).map (·.t)) q.k q.offset q.data = some all)) ∧
    (∃ (s : State) (src : Fin 1024) (q : OdRequest) (all : List Byte), q.fits ∧ laneMember s.chip ∧ q.op = .domainWrite ∧ q.last
      ∧ ((q.offset = 0 → (s.chip.lane.writers.find? fun x => x.node == src) = none)) ∧ (gather ((s.chip.lane.writers.find? fun x
      => x.node == src).map (·.t)) q.k q.offset q.data = some all) ∧ reaches (.lane src) q.k true s.chip) ∧
    (∃ (s : State) (src : Fin 1024) (q : AlmFetch), q.fits ∧ laneMember s.chip ∧ reeveRuns s.chip ∧ lifeCycle s.chip ≠ .blank ∧
      lifeCycle s.chip ≠ .retired ∧ q.minSeverity ≤ 3 ∧ 1 ≤ q.count ∧ q.count ≤ 64 ∧ s.chip.lane.fetches.length ≤ 4 ∧
      ((s.chip.lane.fetches.drop 1).any (fun x => x.node == src) = false)) ∧
    (∃ (s : State) (q : AlmFetch), q.fits ∧ laneMember s.chip ∧ reeveRuns s.chip ∧ lifeCycle s.chip ≠ .blank ∧ lifeCycle s.chip ≠
      .retired ∧ q.minSeverity ≤ 3 ∧ 1 ≤ q.count ∧ q.count ≤ 64 ∧ 5 ≤ s.chip.lane.fetches.length) ∧
    (∃ (s : State) (src : Fin 1024) (alm : Bool) (payload : List Byte) (q : GwReq), payload.length ≤ 256 ∧ laneMember s.chip ∧
      (s.chip.gw.waiting.find? (fun x => x.node == src && x.alm == alm && x.tag == BitVec.ofNat 16 (leNat ((payload.drop 2).take
      2))) = some q)) ∧
    (∃ (s : State) (src : Fin 1024) (alm : Bool) (payload : List Byte), payload.length ≤ 256 ∧ laneMember s.chip ∧
      (s.chip.gw.waiting.find? (fun x => x.node == src && x.alm == alm && x.tag == BitVec.ofNat 16 (leNat ((payload.drop 2).take
      2))) = none)) ∧
    (∃ (s : State) (r : GwResult) (rest : List GwResult), live s.chip ∧ s.chip.gw.results = r :: rest ∧ r.at_ + 10000000 ≤
      s.chip.clock.us) ∧
    (∃ (s : State) (tag : BitVec 16) (node : Fin 1024) (q : GwReq), live s.chip ∧ (s.chip.gw.waiting.find? (gwOverdue s.chip node
      tag) = some q)) :=
  ⟨⟨{ chip := laneUp }, 1022, { op := .read, tag := 9, k := kBusTarget, last := false, offset := 0, length := 4, data := [] },
     by decide +kernel⟩,
   ⟨{ chip := laneUp }, 1022, { op := .write, tag := 9, k := kBusTarget, last := false, offset := 0, length := 4, data := [] },
     by decide +kernel⟩,
   ⟨{ chip := laneUp }, 1022,
     { op := .domainRead, tag := 9, k := kBusTarget, last := false, offset := 0, length := 4, data := [] }, by decide +kernel⟩,
   ⟨{ chip := { laneUp with lane := { laneUp.lane with readers := [{ node := 1022, t := { k := kBusTarget, data := [1, 2, 3], next := 1 } }] } } },
     1022, { op := .domainRead, tag := 9, k := kBusTarget, last := false, offset := 1, length := 4, data := [] },
     { node := 1022, t := { k := kBusTarget, data := [1, 2, 3], next := 1 } }, by decide +kernel⟩,
   ⟨{ chip := laneUp }, 1022,
     { op := .domainWrite, tag := 9, k := kBusTarget, last := false, offset := 0, length := 4, data := [] }, [],
     by decide +kernel⟩,
   ⟨{ chip := laneUp }, 1022,
     { op := .domainWrite, tag := 9, k := kBusTarget, last := true, offset := 0, length := 4, data := [] }, [],
     by decide +kernel⟩,
   ⟨{ chip := laneUp }, 1022, { tag := 1, minSeverity := 0, count := 64, first := 0 }, by decide +kernel⟩,
   ⟨{ chip := { laneUp with lane := { laneUp.lane with fetches := List.replicate 5 { node := 3, tag := 0, minSeverity := 0, first := 0, left := 1 } } } },
     { tag := 1, minSeverity := 0, count := 64, first := 0 }, by decide +kernel⟩,
   ⟨{ chip := { laneUp with gw := { waiting := [{ node := 1022, alm := false, tag := 0x0807, head := [1, 0, 7, 8] }] } } }, 1022,
     false, [2, 0, 7, 8], { node := 1022, alm := false, tag := 0x0807, head := [1, 0, 7, 8] }, by decide +kernel⟩,
   ⟨{ chip := laneUp }, 1022, true, [], by decide +kernel⟩,
   ⟨{ chip := { up with clock := { us := 10000000 }, gw := { results := [{ data := [], at_ := 0 }] } } },
     { data := [], at_ := 0 }, [], by decide +kernel⟩,
   ⟨{ chip := { up with clock := { us := 1000000000 }, gw := { waiting := [{ node := 1022, alm := false, tag := 0x0807, head := [1, 0, 7, 8] }] } } },
     0x0807, 1022, { node := 1022, alm := false, tag := 0x0807, head := [1, 0, 7, 8] }, by decide +kernel⟩⟩

/-- The hypotheses of `Obligations.WatchCommands` are met. -/
theorem witness_WatchCommands :
    (∃ (s : State) (e : Event), watchRuns s.chip ∧ s.chip.watch.arrived = [e] ∧ flag s.chip (kSrcEnable e.src) = false) ∧
    (∃ (s : State) (e : Event), watchRuns s.chip ∧ s.chip.watch.arrived = [e] ∧ flag s.chip (kSrcEnable e.src) ∧ hasBit (setOf
      s.chip e.src ((s.chip.watch.srcs[e.src].state.after (reachesN s.chip e.src)) == .severe)) 3 = false) ∧
    (∃ (s : State) (e : Event), watchRuns s.chip ∧ s.chip.watch.arrived = [e] ∧ flag s.chip (kSrcEnable e.src) ∧ hasBit (setOf
      s.chip e.src ((s.chip.watch.srcs[e.src].state.after (reachesN s.chip e.src)) == .severe)) 5 ∧ hasBit (setOf s.chip e.src
      ((s.chip.watch.srcs[e.src].state.after (reachesN s.chip e.src)) == .severe)) 3 = false ∧ hasBit (setOf s.chip e.src
      ((s.chip.watch.srcs[e.src].state.after (reachesN s.chip e.src)) == .severe)) 2 = false ∧ foldsInto s.chip e (Fin.ofNat 4
      ((setOf s.chip e.src ((s.chip.watch.srcs[e.src].state.after (reachesN s.chip e.src)) == .severe)) / 64)) = none ∧
      s.chip.alm.buffer.length ≤ 40) ∧
    (∃ (s : State) (e : Event) (h : Fin 27), watchRuns s.chip ∧ s.chip.watch.arrived = [e] ∧ flag s.chip (kSrcEnable e.src) ∧
      hasBit (setOf s.chip e.src ((s.chip.watch.srcs[e.src].state.after (reachesN s.chip e.src)) == .severe)) 2 ∧ hasBit (setOf
      s.chip e.src ((s.chip.watch.srcs[e.src].state.after (reachesN s.chip e.src)) == .severe)) 3 = false ∧ ownerOf s.chip e =
      some h ∧ resettableHamlet h) ∧
    (∃ (s : State) (e : Event), watchRuns s.chip ∧ s.chip.watch.arrived = [e] ∧ flag s.chip (kSrcEnable e.src) ∧ hasBit (setOf
      s.chip e.src ((s.chip.watch.srcs[e.src].state.after (reachesN s.chip e.src)) == .severe)) 3 ∧
      s.chip.watch.srcs[e.src].state ≠ s.chip.watch.srcs[e.src].state.after (reachesN s.chip e.src)) ∧
    (∃ (s : State) (i : Fin 256), watchRuns s.chip ∧ (s.chip.watch.srcs[i].state = .active ∨ s.chip.watch.srcs[i].state =
      .severe) ∧ quietFor s.chip i (nat s.chip (kSrcQuiet i)) ∧ (s.chip.watch.srcs[i].times.any (fun t => decide (nowMs s.chip ≤
      t + nat s.chip (kSrcWindow i))))) ∧
    (∃ (s : State) (i : Fin 256), watchRuns s.chip ∧ (s.chip.watch.srcs[i].state = .active ∨ s.chip.watch.srcs[i].state =
      .severe) ∧ quietFor s.chip i (nat s.chip (kSrcQuiet i)) ∧ (s.chip.watch.srcs[i].times.any (fun t => decide (nowMs s.chip ≤
      t + nat s.chip (kSrcWindow i))) = false)) ∧
    (∃ (s : State) (i : Fin 256), watchRuns s.chip ∧ s.chip.watch.srcs[i].state = .quiet ∧ quietFor s.chip i (nat s.chip
      (kSrcWindow i) + 1)) ∧
    (∃ (s : State), watchRuns s.chip) ∧
    (∃ (s : State), watchRuns s.chip) ∧
    (∃ (s : State) (h : Fin 27), watchRuns s.chip ∧ resettableHamlet h ∧ recordReady s.chip ∧ mayHoldLock h s.chip ∧
      s.chip.green.memLock ≠ some h) ∧
    (∃ (s : State) (h : Fin 27), watchRuns s.chip ∧ resettableHamlet h ∧ mayHoldLock h s.chip) ∧
    (∃ (s : State) (h : Fin 27), watchRuns s.chip ∧ resettableHamlet h = false ∧ recordReady s.chip ∧ mayHoldLock h s.chip ∧
      s.chip.green.memLock ≠ some h) ∧
    (∃ (s : State) (h : Fin 27), watchRuns s.chip ∧ resettableHamlet h = false) ∧
    (∃ (s : State), watchRuns s.chip) ∧
    (∃ (s : State) (v : Int), inRange v (-2147483648) 2147483647 ∧ watchRuns s.chip ∧ settingsTaken s.chip ∧ s.chip.alm.direct =
      false ∧ vauxBelow (22 / 5) v) ∧
    (∃ (s : State), vauxBelow (1111 / 250) (chanInt s.chip 122) = false) ∧
    (∃ (s : State) (i : Fin 256) (v : Int), inRange v (-2147483648) 2147483647 ∧ watchRuns s.chip ∧ i ∉ s.chip.watch.supplyOut ∧
      supplyBad i 0 v) :=
  ⟨⟨{ chip := put (kSrcEnable 40) (.num 0) (eventUp 40 0) }, { src := 40, code := 7, value := 9 }, by decide +kernel⟩,
   ⟨{ chip := eventUp 255 1 }, { src := 255, code := 7, value := 9 }, by decide +kernel⟩,
   ⟨{ chip := eventUp 40 0x60 }, { src := 40, code := 7, value := 9 }, by decide +kernel⟩,
   ⟨{ chip := eventUp 172 4 }, { src := 172, code := 7, value := 9 }, 7, by decide +kernel⟩,
   ⟨{ chip := eventUp 40 8 }, { src := 40, code := 7, value := 9 }, by decide +kernel⟩,
   ⟨{ chip := put (kSrcQuiet 255) (.num 10)
       (put (kSrcWindow 255) (.num 10000) { up with clock := { us := 1000000 }, watch := { srcs := Vector.replicate 256 { state := .severe, times := [0] } } }) },
     255, by decide +kernel⟩,
   ⟨{ chip := { up with watch := { srcs := Vector.replicate 256 { state := .severe } } } }, 255, by decide +kernel⟩,
   ⟨{ chip := { up with watch := { srcs := Vector.replicate 256 { state := .quiet } } } }, 255, by decide +kernel⟩,
   ⟨{ chip := up }, by decide +kernel⟩,
   ⟨{ chip := up }, by decide +kernel⟩,
   ⟨{ chip := { up with alm := { buffer := [loggedRecord] } } }, 26, by decide +kernel⟩,
   ⟨{ chip := up }, 26, by decide +kernel⟩,
   ⟨{ chip := { up with alm := { buffer := [loggedRecord] } } }, 2, by decide +kernel⟩,
   ⟨{ chip := up }, 2, by decide +kernel⟩,
   ⟨{ chip := up }, by decide +kernel⟩,
   ⟨{ chip := up }, 0, by decide +kernel⟩,
   ⟨{ chip := { up with alm := { direct := true }, chans := Vector.replicate 256 { word := 2147483647 } } }, by decide +kernel⟩,
   ⟨{ chip := up }, 123, 0, by decide +kernel⟩⟩

/-- The hypotheses of `Obligations.ThermalCommands` are met. -/
theorem witness_ThermalCommands :
    (∃ (s : State) (rs : List DieReading), rs.length = 12 ∧ resettable s.chip) ∧
    (∃ (s : State), watchRuns s.chip ∧ 2 ≤ s.chip.therm.overCount ∧ s.chip.therm.recording = false ∧ watchRuns (watchEvaluation
      (raise (144 + s.chip.therm.hottestAt) 3 s.chip.therm.hottest s.chip))) ∧
    (∃ (s : State), s.chip.therm.recording) ∧
    (∃ (s : State), s.chip.therm.shutdown ∧ 100 ≤ s.chip.therm.coolCount ∧ resettable s.chip) ∧
    (∃ (s : State), watchRuns s.chip ∧ s.chip.therm.window = some true ∧ s.chip.therm.stopping = false ∧ s.chip.therm.recording =
      false) ∧
    (∃ (s : State), watchRuns s.chip ∧ s.chip.therm.stopping ∧ s.chip.therm.recording = false ∧ (s.chip.seq.state = .off ∨
      s.chip.seq.state = .offHold)) ∧
    (∃ (s : State), s.chip.seq.state ≠ .off ∧ s.chip.seq.state ≠ .offHold) :=
  ⟨⟨{ chip := up }, List.replicate 12 { temp := 400, raw := 5 }, by decide +kernel⟩,
   ⟨{ chip := { up with therm := { overCount := 2 } } }, by decide +kernel⟩,
   ⟨{ chip := { up with therm := { recording := true } } }, by decide +kernel⟩,
   ⟨{ chip := { up with therm := { shutdown := true, coolCount := 100 } } }, by decide +kernel⟩,
   ⟨{ chip := { up with therm := { window := some true } } }, by decide +kernel⟩,
   ⟨{ chip := { up with therm := { stopping := true } } }, by decide +kernel⟩,
   ⟨{ chip := { up with therm := { stopping := true }, seq := { state := .powerUp } } }, by decide +kernel⟩⟩

/-- The hypotheses of `Obligations.AlmanacCommands` are met. -/
theorem witness_AlmanacCommands :
    (∃ (s : State) (r : Record) (rest : List Record), s.chip.alm.buffer = r :: rest ∧ r.seq.isSome ∧ s.chip.nor.size ≠ 0 ∧
      (s.chip.alm.held = false ∨ rest ≠ []) ∧ shutdownRecord r = false ∧ writable s.chip.alm.main) ∧
    (∃ (s : State) (r : Record) (rest : List Record), s.chip.alm.buffer = r :: rest ∧ r.seq.isSome ∧ s.chip.nor.size ≠ 0 ∧
      (s.chip.alm.held = false ∨ rest ≠ []) ∧ shutdownRecord r = false ∧ writable s.chip.alm.main = false ∧ (eraseNext
      (mainPlaces s.chip) (victim s.chip r.severity) s.chip.alm.main).erasing = none ∧ plainRing s.chip = false ∧ r.severity ≠ 3) ∧
    (∃ (s : State), s.chip.alm.held ∧ s.chip.alm.buffer.length ≤ 1) ∧
    (∃ (s : State) (p : Nat), s.chip.alm.main.erasing = some p) ∧
    (∃ (s : State) (p : Nat), s.chip.alm.main.erasing = none ∧ s.chip.alm.reserve.erasing = some p) ∧
    (∃ (s : State) (p : Nat), clocked s.chip ∧ recordReady s.chip = false ∧ s.chip.alm.main.erasing = some p) ∧
    (∃ (s : State), clocked s.chip ∧ recordReady s.chip ∧ goesToReserve s.chip = false) ∧
    (∃ (s : State), heldLongEnough s.chip) ∧
    (∃ (s : State), live s.chip ∧ s.chip.alm.checkpointAt + nat s.chip kAlmCheckpoint * 60000 ≤ nowMs s.chip ∧
      s.chip.alm.buffer.length ≤ 58) ∧
    (∃ (s : State), s.chip.boot.phase = .flushing ∧ s.chip.clock.resetAt + 5000 ≤ s.chip.clock.us) ∧
    (∃ (s : State), (s.chip.boot.phase ≠ .flushing ∨ s.chip.clock.us < s.chip.clock.resetAt + 5000)) :=
  ⟨⟨{ chip := { up with nor := { size := 16 }, alm := { buffer := [{ kind := .log, severity := 2, source := 3, code := 1, seq := some 9 }], main := { ready := [0] } } } },
     { kind := .log, severity := 2, source := 3, code := 1, seq := some 9 }, [], by decide +kernel⟩,
   ⟨{ chip := { up with fuses := { p := true, d := true }, nor := { size := 16 }, alm := { buffer := [{ kind := .log, severity := 2, source := 3, code := 1, seq := some 9 }], main := { touched := 9999 } } } },
     { kind := .log, severity := 2, source := 3, code := 1, seq := some 9 }, [], by decide +kernel⟩,
   ⟨{ chip := { up with alm := { held := true } } }, by decide +kernel⟩,
   ⟨{ chip := { up with alm := { main := { erasing := some 0 } } } }, 0, by decide +kernel⟩,
   ⟨{ chip := { up with alm := { reserve := { erasing := some 0 } } } }, 0, by decide +kernel⟩,
   ⟨{ chip := { up with alm := { main := { erasing := some 3 } } } }, 3, by decide +kernel⟩,
   ⟨{ chip := { up with alm := { buffer := [loggedRecord], main := { sectors := [{ place := 0, opening := 0 }] } } } },
     by decide +kernel⟩,
   ⟨{ chip := { boot := { phase := .flushing } } }, by decide +kernel⟩,
   ⟨{ chip := { up with clock := { us := 3600000000000 } } }, by decide +kernel⟩,
   ⟨{ chip := { up with boot := { phase := .flushing }, clock := { us := 5000 }, alm := { buffer := [loggedRecord] } } },
     by decide +kernel⟩,
   ⟨{ chip := up }, by decide +kernel⟩⟩

/-- The hypotheses of `Obligations.TwinLinkCommands` are met. -/
theorem witness_TwinLinkCommands :
    (∃ (s : State) (f : TwinFrame), f.fits ∧ twinUp s.chip) ∧
    (∃ (s : State), twinUp s.chip ∧ s.chip.twin.link) ∧
    (∃ (s : State), twinUp s.chip ∧ s.chip.twin.state ≠ .starting) ∧
    (∃ (s : State), twinUp s.chip ∧ s.chip.twin.state = .starting ∧ live s.chip ∧ s.chip.twin.ownIn) ∧
    (∃ (s : State), twinUp s.chip ∧ s.chip.twin.state = .starting ∧ live s.chip ∧ s.chip.twin.ownIn = false ∧ s.chip.twin.role =
      .preferred ∧ healthy s.chip) ∧
    (∃ (s : State), twinUp s.chip ∧ s.chip.twin.state = .owner) ∧
    (∃ (s : State), twinUp s.chip ∧ s.chip.twin.state = .standby) ∧
    (∃ (s : State), twinUp s.chip ∧ s.chip.twin.state = .owner) ∧
    (∃ (s : State), twinUp s.chip ∧ s.chip.twin.state = .owner) ∧
    (∃ (s : State) (seq : BitVec 32), twinUp s.chip ∧ s.chip.twin.state = .standby ∧ (s.chip.twin.mirrorSeqIn.all fun x => seq ==
      x + 1)) ∧
    (∃ (s : State) (seq : BitVec 32) (x : BitVec 32), twinUp s.chip ∧ s.chip.twin.state = .standby ∧ s.chip.twin.mirrorSeqIn =
      some x ∧ seq ≠ x + 1) :=
  ⟨⟨{ chip := { up with twin := { role := .alternate, state := .owner } } },
     { role := 2, state := 4, healthy := true, ready := true, ret := false, heartbeat := 1, laneTime := 0, almSequence := 9 },
     by decide +kernel⟩,
   ⟨{ chip := { up with twin := { role := .alternate, state := .standby, link := true } } }, by decide +kernel⟩,
   ⟨{ chip := { up with twin := { role := .alternate, state := .owner } } }, by decide +kernel⟩,
   ⟨{ chip := { up with twin := { role := .preferred, state := .starting, ownIn := true } } }, by decide +kernel⟩,
   ⟨{ chip := { up with twin := { role := .preferred, state := .starting } } }, by decide +kernel⟩,
   ⟨{ chip := { up with twin := { role := .preferred, state := .owner } } }, by decide +kernel⟩,
   ⟨{ chip := { up with twin := { role := .preferred, state := .standby } } }, by decide +kernel⟩,
   ⟨{ chip := { up with twin := { role := .preferred, state := .owner } } }, by decide +kernel⟩,
   ⟨{ chip := { up with twin := { role := .preferred, state := .owner } } }, by decide +kernel⟩,
   ⟨{ chip := { up with twin := { role := .preferred, state := .standby } } }, 0, by decide +kernel⟩,
   ⟨{ chip := { up with twin := { role := .preferred, state := .standby, mirrorSeqIn := some 7 } } }, 0, 7, by decide +kernel⟩⟩

/-- The hypotheses of `Obligations.TwinOwnershipCommands` are met. -/
theorem witness_TwinOwnershipCommands :
    (∃ (s : State) (b : Bool), s.chip.twin.state = .owner ∧ (b = false ∨ s.chip.twin.role ≠ .preferred)) ∧
    (∃ (s : State), s.chip.twin.state = .owner ∧ s.chip.twin.role = .preferred) ∧
    (∃ (s : State), (s.chip.twin.state = .single ∨ s.chip.twin.state = .releasing ∨ s.chip.twin.state = .standby)) ∧
    (∃ (s : State), s.chip.twin.ownIn ∧ within s.chip 2 s.chip.twin.ownInAt = false ∧ s.chip.twin.state = .releasing ∧ live
      s.chip) ∧
    (∃ (s : State), s.chip.twin.ownIn = false) ∧
    (∃ (s : State), s.chip.twin.ownIn = false ∧ within s.chip 200 s.chip.twin.releasedAt = false ∧ s.chip.twin.state = .releasing
      ∧ live s.chip) ∧
    (∃ (s : State), s.chip.twin.ownIn = false ∧ within s.chip 200 s.chip.twin.releasedAt = false ∧ s.chip.twin.state = .starting
      ∧ s.chip.twin.holding) ∧
    (∃ (s : State) (g : Nat), g < 4294967296 ∧ s.chip.twin.state = .standby ∧ live s.chip ∧ healthy s.chip) ∧
    (∃ (s : State) (g : Nat), g < 4294967296 ∧ s.chip.twin.state = .standby ∧ live s.chip ∧ healthy s.chip = false) ∧
    (∃ (s : State) (g : Nat), g < 4294967296 ∧ s.chip.twin.state ≠ .standby) ∧
    (∃ (s : State), s.chip.twin.state = .standby ∧ live s.chip ∧ s.chip.twin.link ∧ s.chip.twin.ownIn ∧ healthy s.chip ∧
      s.chip.twin.beatAt + nat s.chip kTwinHbTimeout * 1000 ≤ s.chip.clock.us) ∧
    (∃ (s : State), s.chip.twin.state = .starting ∧ s.chip.twin.role = .alternate ∧ live s.chip ∧ s.chip.twin.ownIn = false ∧
      healthy s.chip ∧ s.chip.boot.completedAt + 250000 ≤ s.chip.clock.us) ∧
    (∃ (s : State) (f : TwinFrame), s.chip.twin.state = .standby ∧ s.chip.twin.role = .preferred ∧ live s.chip ∧ flag s.chip
      kTwinAutoReturn ∧ s.chip.twin.link ∧ healthy s.chip ∧ s.chip.twin.ready ∧ s.chip.twin.partner = some f ∧ f.role ≠
      s.chip.twin.role.number ∧ holdoffOver s.chip) ∧
    (∃ (s : State), s.chip.twin.state ≠ .standby) :=
  ⟨⟨{ chip := { up with twin := { role := .preferred, state := .owner } } }, false, by decide +kernel⟩,
   ⟨{ chip := { up with twin := { role := .preferred, state := .owner } } }, by decide +kernel⟩,
   ⟨{ chip := { up with twin := { role := .preferred, state := .standby } } }, by decide +kernel⟩,
   ⟨{ chip := { up with twin := { role := .preferred, state := .releasing, ownIn := true } } }, by decide +kernel⟩,
   ⟨{ chip := { up with twin := { role := .preferred, state := .releasing } } }, by decide +kernel⟩,
   ⟨{ chip := { up with twin := { role := .preferred, state := .releasing } } }, by decide +kernel⟩,
   ⟨{ chip := { up with twin := { role := .preferred, state := .starting, holding := true } } }, by decide +kernel⟩,
   ⟨{ chip := { up with twin := { role := .preferred, state := .standby, ownIn := true } } }, 4294967295, by decide +kernel⟩,
   ⟨{ chip := { up with twin := { role := .preferred, state := .standby, ownIn := true }, watch := { srcs := Vector.replicate 256 { state := .active } } } },
     0, by decide +kernel⟩,
   ⟨{ chip := up }, 0, by decide +kernel⟩,
   ⟨{ chip := { up with clock := { us := 100000000000 }, twin := { role := .preferred, state := .standby, ownIn := true, link := true } } },
     by decide +kernel⟩,
   ⟨{ chip := { up with clock := { us := 100000000000 }, twin := { role := .alternate, state := .starting } } },
     by decide +kernel⟩,
   ⟨{ chip := put kTwinAutoReturn (.num 1) { up with clock := { us := 100000000000 }, twin := { role := .preferred, state := .standby, link := true, returnSince := some 0, ready := true, partner := some { role := 2, state := 4, healthy := true, ready := true, ret := false, heartbeat := 1, laneTime := 0, almSequence := 9 } } } },
     { role := 2, state := 4, healthy := true, ready := true, ret := false, heartbeat := 1, laneTime := 0, almSequence := 9 },
     by decide +kernel⟩,
   ⟨{ chip := up }, by decide +kernel⟩⟩

/-- The hypotheses of `Obligations.ResetCommands` are met. -/
theorem witness_ResetCommands :
    (∃ (s : State), s.chip.boot.phase = .porAsserted) ∧
    (∃ (s : State), resettable s.chip) ∧
    (∃ (s : State), s.chip.boot.phase = .rstHeld) ∧
    (∃ (s : State), s.chip.boot.phase ≠ .rstHeld) ∧
    (∃ (s : State), s.chip.boot.phase = .step 2) ∧
    (∃ (s : State), s.chip.boot.phase = .flushing ∧ s.chip.alm.buffer = []) :=
  ⟨⟨{ chip := {} }, by decide +kernel⟩,
   ⟨{ chip := up }, by decide +kernel⟩,
   ⟨{ chip := { boot := { phase := .rstHeld, rstLow := true } } }, by decide +kernel⟩,
   ⟨{ chip := up }, by decide +kernel⟩,
   ⟨{ chip := { boot := { phase := .step 2, rstLow := true } } }, by decide +kernel⟩,
   ⟨{ chip := { boot := { phase := .flushing } } }, by decide +kernel⟩⟩

/-- The hypotheses of `Obligations.BootCommands` are met. -/
theorem witness_BootCommands :
    (∃ (s : State), atStep s.chip 0) ∧
    (∃ (s : State), atStep s.chip 0 = false) ∧
    (∃ (s : State), atStep s.chip 3) ∧
    (∃ (s : State) (p : NorPart) (recov : Bool), p.fits ∧ atStep s.chip 4 ∧ 16 ≤ p.sizeMiB ∧ lifeCycle s.chip ≠ .retired ∧ recov
      = false ∧ (directoryInUse s.chip.nor).isSome) ∧
    (∃ (s : State) (p : NorPart) (recov : Bool), p.fits ∧ atStep s.chip 4 ∧ 16 ≤ p.sizeMiB ∧ (lifeCycle s.chip = .retired ∧
      s.chip.nor.eraseDue = false ∨ lifeCycle s.chip ≠ .retired ∧ (recov = true ∨ directoryInUse s.chip.nor = none))) ∧
    (∃ (s : State) (p : NorPart), p.fits ∧ atStep s.chip 4 ∧ 16 ≤ p.sizeMiB ∧ lifeCycle s.chip = .retired ∧ s.chip.nor.eraseDue) ∧
    (∃ (s : State), atStep s.chip 4 ∧ s.chip.watch.safe = false) ∧
    (∃ (s : State) (b : Bool) (k : Fin 2), k = (if b then 1 else 0) ∧ (atStep s.chip 5 ∧ k = firstSlot s.chip ∨ atStep s.chip 6 ∧
      k ≠ firstSlot s.chip) ∧ s.chip.nor.images[k].check s.chip.fuses.keyHash = .valid) ∧
    (∃ (s : State) (b : Bool) (k : Fin 2) (st : ImageStatus), k = (if b then 1 else 0) ∧ st = s.chip.nor.images[k].check
      s.chip.fuses.keyHash ∧ st ≠ .valid ∧ atStep s.chip 5 ∧ k = firstSlot s.chip) ∧
    (∃ (s : State) (b : Bool) (k : Fin 2), k = (if b then 1 else 0) ∧ s.chip.nor.images[k].check s.chip.fuses.keyHash ≠ .valid ∧
      atStep s.chip 6 ∧ k ≠ firstSlot s.chip) ∧
    (∃ (s : State), atStep s.chip 7) ∧
    (∃ (s : State) (l : List Bool) (k : Fin 2), l.length = 4 ∧ atStep s.chip 8 ∧ setToLoad s.chip = some k) ∧
    (∃ (s : State) (l : List Bool), l.length = 4 ∧ atStep s.chip 8 ∧ setToLoad s.chip = none) ∧
    (∃ (s : State), atStep s.chip 9) ∧
    (∃ (s : State), atStep s.chip 10 ∧ s.chip.seq.entry = none) :=
  ⟨⟨{ chip := { boot := { phase := .step 0 } } }, by decide +kernel⟩,
   ⟨{ chip := up }, by decide +kernel⟩,
   ⟨{ chip := { boot := { phase := .step 3 } } }, by decide +kernel⟩,
   ⟨{ chip := booting 4 }, { sizeMiB := 16, ioMode := 0, clock := 50 }, false, by decide +kernel⟩,
   ⟨{ chip := { boot := { phase := .step 4 } } }, { sizeMiB := 16, ioMode := 0, clock := 50 }, true, by decide +kernel⟩,
   ⟨{ chip := { booting 4 with fuses := { x := true }, nor := { eraseDue := true } } },
     { sizeMiB := 16, ioMode := 0, clock := 50 }, by decide +kernel⟩,
   ⟨{ chip := booting 4 }, by decide +kernel⟩,
   ⟨{ chip := booting 5 }, true, 1, by decide +kernel⟩,
   ⟨{ chip := { booting 5 with nor := { images := #v[image 1, { bytes := [0x49, 0x4D, 1, 0, 2, 0, 0, 0] }] } } }, true, 1,
     .headerMalformed, by decide +kernel⟩,
   ⟨{ chip := { booting 6 with nor := { images := #v[{}, { bytes := [0x49] }] } } }, true, 1, by decide +kernel⟩,
   ⟨{ chip := booting 7 }, by decide +kernel⟩,
   ⟨{ chip := { booting 8 with nor := { params := #v[{}, emptySet 2] } } }, [true, false, true, false], 1, by decide +kernel⟩,
   ⟨{ chip := booting 8 }, [true, false, true, false], by decide +kernel⟩,
   ⟨{ chip := booting 9 }, by decide +kernel⟩,
   ⟨{ chip := booting 10 }, by decide +kernel⟩⟩

/-- The hypotheses of `Obligations.ParamStoreCommands` are met. -/
theorem witness_ParamStoreCommands :
    (∃ (s : State) (r : ParamRegion), live s.chip ∧ s.chip.boot.store = .running ∧ r = s.chip.nor.params[storeSlot s.chip]) ∧
    (∃ (s : State), live s.chip ∧ s.chip.boot.store = .running ∧ supplyLow s.chip) ∧
    (∃ (s : State), s.chip.boot.store ≠ .running) ∧
    (∃ (s : State), (s.chip.boot.store ≠ .running ∨ supplyLow s.chip = false)) :=
  ⟨⟨{ chip := { up with boot := { phase := .running, store := .running }, nor := { params := Vector.replicate 2 (emptySet 2) } } },
     emptySet 2, by decide +kernel⟩,
   ⟨{ chip := { up with boot := { phase := .running, store := .running }, alm := { direct := true } } }, by decide +kernel⟩,
   ⟨{ chip := up }, by decide +kernel⟩,
   ⟨{ chip := up }, by decide +kernel⟩⟩

/-- The hypotheses of `Obligations.GreenLockRevoked` are met. -/
theorem witness_GreenLockRevoked :
    ∃ (s : State) (h : Fin 27), watchRuns s.chip ∧ resettableHamlet h ∧ mayHoldLock h s.chip :=
  ⟨{ chip := up }, 26, by decide +kernel⟩

/-- The hypotheses of `Obligations.MillLimits` are met. -/
theorem witness_MillLimits :
    (∃ (s : State) (m : Fin 16), live s.chip ∧ s.chip.mills[m].state = .ready ∧ s.chip.mills[m].running.isSome) ∧
    (∃ (s : State) (m : Fin 16) (k : Fin 4), live s.chip ∧ s.chip.mills[m].state = .ready ∧ s.chip.mills[m].slots[k]) ∧
    (∃ (s : State) (m : Fin 16), millAt s.chip m (fmtR 0x01 0 0 0 0 0 0) ∧ s.chip.mills[m].reads = []) :=
  ⟨⟨{ chip := millUp 0 }, 0, by decide +kernel⟩,
   ⟨{ chip := { up with mills := Vector.replicate 16 { state := .ready, slots := Vector.replicate 4 true } } }, 15, 3,
     by decide +kernel⟩,
   ⟨{ chip := millUp (fmtR 0x01 0 0 0 0 0 0) }, 0, by decide +kernel⟩⟩

/-- The hypotheses of `Obligations.SettingReadsBack` are met. -/
theorem witness_SettingReadsBack :
    ∃ (c : Chip), odSorted c.od = true ∧ c.od ≠ [] :=
  ⟨hosted, by decide +kernel⟩

/-- The hypotheses of `Obligations.ObjectsStayInOrder` are met. -/
theorem witness_ObjectsStayInOrder :
    ∃ (s t : State), odSorted s.chip.od = true ∧ s.chip.od ≠ [] ∧ step s = .next t :=
  ⟨{ chip := hosted }, idle { chip := hosted }, by decide +kernel, by decide +kernel, rfl⟩

/-- The hypotheses of `Obligations.LifeCycleInvariantKept` are met. -/
theorem witness_LifeCycleInvariantKept :
    ∃ (s t : State), lifeCycleInv s.chip ∧ step s = .next t ∧ s.chip.lc.accepted = some .retired :=
  ⟨{ chip := { up with lc := { accepted := some .retired } } }, _, ⟨by decide, by decide, by decide, by simp [transitionListed,
     lifeCycle, up]⟩, rfl, rfl⟩

/-- The hypotheses of `Obligations.FusesOnlyGrow` are met: no transition accepted, or another command than the two. -/
theorem witness_FusesOnlyGrow :
    (∃ (s t : State), step s = .next t ∧ s.chip.lc.accepted = none) ∧
    (∃ (s t : State), step s = .next t ∧ s.chip.lc.accepted ≠ none ∧
      ∀ rest, s.pending ≠ .lifecycleEraseComplete :: rest ∧ s.pending ≠ .powerOnReset :: rest) :=
  ⟨⟨{ chip := up, pending := [.lifecycleEraseComplete] }, _, rfl, rfl⟩,
   ⟨{ chip := { up with lc := { accepted := some .retired } }, pending := [.rstRelease] }, _, rfl, by decide,
     fun _ => ⟨fun h => by simp at h, fun h => by simp at h⟩⟩⟩

/-- The hypotheses of `Obligations.StagedWritesAreLimited` are met, within the limit of 256 writes and beyond it. -/
theorem witness_StagedWritesAreLimited :
    ∀ n ∈ [0, 255, 256], ∃ (c : Chip) (o : Origin) (k : Key) (b : List Byte) (v : Val) (h : Hamper),
      stagingHamper c o = some h ∧ hamperOf c h.handle = some h ∧ writeCheck c o k true = .ok ∧ valueCheck k b = (.ok, v) ∧
      (stageIn h.writes k v).length = n + 1 := by
  intro n h
  let x : Hamper := { handle := 255, origin := .service, writes := (List.range n).map fun k => (k, .num 0) }
  refine ⟨{ up with hampers := { list := [x], stage := [(.service, 255)] } }, .service, kBusTarget, leBytes 4 480000,
    .num 480000, x, ?_⟩
  simp only [List.mem_cons, List.not_mem_nil, or_false] at h
  rcases h with rfl | rfl | rfl <;> decide +kernel

/-- A Lane frame with its checks. -/
def laneFrame : LaneFrame :=
  let f : LaneFrame := { dest := 5, cls := 0, src := 3, seq := 0, dir := false, hops := 0, turns := 0, payload := [], hchk := 0, crc := 0 }
  let f := { f with hchk := hchkOf f }
  { f with crc := crcOf f }

/-- The hypotheses of `Obligations.LaneReceiverDiscards` are met by a frame that passes, one that fails CRC-32 and one that fails
HCHK. -/
theorem witness_LaneReceiverDiscards :
    ∃ (s : State) (p : LanePort), laneRuns s.chip = true ∧ (laneLink s.chip p).up = true ∧
      [laneFrame, { laneFrame with crc := laneFrame.crc + 1 }, { laneFrame with hchk := laneFrame.hchk + 1 }].map
        (fun f => (decide (f.payload.length < 512), decide (f.hchk ≠ hchkOf f), decide (f.crc ≠ crcOf f))) =
        [(true, false, false), (true, false, true), (true, true, false)] :=
  ⟨{ chip := { laneUp with lane := { state := .member, linkB := { up := true } } } }, .b, by decide +kernel⟩

/-- The hypotheses of `Obligations.RetirementNeedsReceipt` are met: a transition to RETIRED is accepted, and a record finds a
place while an export exists. -/
theorem witness_RetirementNeedsReceipt :
    (∃ (s t : State) (tag : BitVec 16) (x : LcTransition), s.chip.lc.accepted = none ∧
      exec (.lifecycleTransition tag x) s = .next t ∧ t.chip.lc.accepted = some .retired) ∧
    (∃ (c : Chip) (r : Record), c.alm.frozen.state ≠ .none ∧ (accept r c).alm.buffer ≠ c.alm.buffer) :=
  ⟨⟨{ chip := retiring }, _, 7, retirement, rfl, rfl, by decide +kernel⟩,
   ⟨{ up with alm := { frozen := { state := .ready } } }, { kind := .log, severity := 1, source := 3, code := 1 },
     by decide +kernel⟩⟩

/-- The hypotheses of `Obligations.ExportReceiptTaken` are met, with the digest and with other bytes. -/
theorem witness_ExportReceiptTaken :
    ∃ (s : State) (o : Origin), reaches o kAlmExportReceipt true s.chip = true ∧ s.chip.alm.frozen.state = .ready ∧
      [(sha256 (exportBody s.chip)).toList, List.replicate 32 0].map
        (fun b => (b.length, decide (b = (sha256 (exportBody s.chip)).toList))) = [(32, true), (32, false)] :=
  ⟨{ chip := { up with alm := { frozen := { state := .ready } } } }, .service, by decide +kernel⟩

end Sys2Proof.Tests
end

section
/-! The limits of a mill's run (R228): what the run limit and a slot pending too long do, what the end of a run clears, and
where `Obligations.MillLimits` fails.

Its first three clauses hold (`runLimit_gives`, `millHeartbeatLost_gives`, `end_gives`). The last takes any function for the
law of a stock run, also one in which the mill stops: such a run has not completed, and HBLOST stays. It holds for a law that
leaves the mill running (`stockRun_clears`). -/

namespace Sys2Proof.Machine

/-! ### A mill that stops -/

@[simp] theorem millFails_mills (m : Fin 16) (c : Chip) : (millFails m c).mills = c.mills :=
  millFails_part .mills (by decide) (by decide) (by decide) (by decide) (by decide) (by decide) (by decide) (by decide)
    (by decide) (by decide) (by decide) m c

/-- What a mill that stops leaves of itself: the give-up and the rails' loss that follow touch no mill. -/
theorem millStops_mill (m : Fin 16) (f : Mill → Mill) (c : Chip) :
    (millStops m f c).mills[m] = { f c.mills[m] with state := .stopped, running := none, reads := [] } := by
  unfold millStops
  rw [millFails_mills, raise_mills, setMill_self]

/-- The run limit stops the mill, and changes nothing of its status but RUNLIMIT (R228). -/
theorem runLimit_mill (m : Fin 16) (c : Chip) (hready : c.mills[m].state = .ready) (hrun : c.mills[m].running.isSome) :
    (runLimit m c).mills[m] =
      { c.mills[m] with
        state := .stopped, running := none, reads := [], stat := { c.mills[m].stat with runLimit := true } } := by
  have h : runLimit m c = millStops m (fun x => { x with stat := { x.stat with runLimit := true } }) c := by
    rw [runLimit, hready, hrun]
    rfl
  rw [h, millStops_mill]

/-- A live chip is not in the safe state. -/
theorem not_safe_of_live {c : Chip} (h : live c) : c.watch.safe = false := by
  simp only [live, Bool.and_eq_true, Bool.not_eq_true'] at h
  exact h.2

/-- The run limit of a running READY mill stops it with RUNLIMIT set (R228). -/
theorem runLimit_gives (s : State) (m : Fin 16) (hlive : live s.chip) (hready : s.chip.mills[m].state = .ready)
    (hrun : s.chip.mills[m].running.isSome) :
    Gives (.runLimit m) s [.hamlets, .phases, .rails, .vcs, .mills, .market, .can, .tw, .svc, .lane, .watch, .twin] fun c =>
      c.mills[m].state = .stopped ∧ c.mills[m].stat.runLimit = true := by
  refine ⟨runLimit m s.chip, ?_, fun p hp => ?_, ?_⟩
  · change answer s (when (live s.chip) (runLimit m) s.chip) = _
    rw [hlive]; rfl
  · simp only [List.mem_cons, List.not_mem_nil, or_false, not_or] at hp
    simp [hp]
  · have hmill := runLimit_mill m s.chip hready hrun
    exact ⟨by rw [hmill], by rw [hmill]⟩

/-! ### A slot that stays pending -/

@[simp] theorem switchoverAll_watch (c : Chip) : (switchoverAll c).watch = c.watch :=
  switchoverAll_part .watch (by decide) (by decide) (by decide) (by decide) (by decide) (by decide) c

@[simp] theorem giveUp_mills (cause : Nat) (c : Chip) : (giveUp cause c).mills = c.mills :=
  giveUp_part .mills (by decide) (by decide) (by decide) (by decide) (by decide) (by decide) (by decide) (by decide) cause c

/-- The event of an evaluating Watch counts for its source. -/
theorem eventsOf_raise_same (src code : Nat) (value : Int) (c : Chip) (hsafe : c.watch.safe = false) :
    eventsOf (Fin.ofNat 256 src) (raise src code value c) = eventsOf (Fin.ofNat 256 src) c + 1 := by
  simp [eventsOf, raise, hsafe]

/-- An event counts for no other source. -/
theorem eventsOf_raise_other (i : Fin 256) (src code : Nat) (value : Int) (c : Chip) (h : Fin.ofNat 256 src ≠ i) :
    eventsOf i (raise src code value c) = eventsOf i c := by
  unfold raise
  split
  · rfl
  · have hne : (Fin.ofNat 256 src == i) = false := beq_false_of_ne h
    simp only [eventsOf, List.filter_append, List.filter_cons, hne, List.filter_nil, Bool.false_eq_true, if_false,
      List.append_nil]

/-- A give-up of the shelf raises no event but those of source 182 (R408). -/
theorem eventsOf_giveUp (i : Fin 256) (cause : Nat) (c : Chip) (h : (182 : Fin 256) ≠ i) :
    eventsOf i (giveUp cause c) = eventsOf i c := by
  unfold giveUp
  split
  · rfl
  split
  · unfold releaseShelf
    rw [eventsOf_raise_other i 182 3 cause _ h]
    simp only [eventsOf, switchoverAll_watch, setTwin_watch]
  · exact eventsOf_raise_other i 182 7 cause c h

/-- The report of a lost heartbeat: HBLOST, and the event of the mill's source. -/
def reportHbLost (m : Fin 16) (c : Chip) : Chip :=
  raise (156 + m) 2 0 (setMill m (fun x => { x with stat := { x.stat with hbLost := true } }) c)

theorem reportHbLost_hbLost (m : Fin 16) (c : Chip) : (reportHbLost m c).mills[m].stat.hbLost = true := by
  simp only [reportHbLost, raise_mills, setMill_self]

/-- A lost heartbeat is reported, and a mill that runs the shelf gives it up (R228, Table 13.3). -/
theorem millHeartbeatLost_eq (m : Fin 16) (k : Fin 4) (c : Chip) (hready : c.mills[m].state = .ready)
    (hslot : c.mills[m].slots[k]) :
    millHeartbeatLost m k c = when (millServes c m) (giveUp 3) (reportHbLost m c) := by
  rw [millHeartbeatLost, hready, hslot]
  rfl

/-- The source of the twin's give-ups is that of no mill. -/
theorem twinSource_ne_millSource : ∀ m : Fin 16, (182 : Fin 256) ≠ Fin.ofNat 256 (156 + m) := by decide

/-- A slot of a READY mill that stays pending sets HBLOST, with one event of the mill's source (R228). -/
theorem millHeartbeatLost_gives (s : State) (m : Fin 16) (k : Fin 4) (hlive : live s.chip)
    (hready : s.chip.mills[m].state = .ready) (hslot : s.chip.mills[m].slots[k]) :
    Gives (.millHeartbeatLost m k) s [.hamlets, .mills, .market, .can, .tw, .svc, .lane, .watch, .twin] fun c =>
      c.mills[m].stat.hbLost = true ∧
      eventsOf (Fin.ofNat 256 (156 + m)) c = eventsOf (Fin.ofNat 256 (156 + m)) s.chip + 1 := by
  have hevents : eventsOf (Fin.ofNat 256 (156 + m)) (reportHbLost m s.chip) =
      eventsOf (Fin.ofNat 256 (156 + m)) s.chip + 1 := eventsOf_raise_same _ _ _ _ (not_safe_of_live hlive)
  refine ⟨millHeartbeatLost m k s.chip, ?_, fun p hp => ?_, ?_⟩
  · change answer s (when (live s.chip) (millHeartbeatLost m k) s.chip) = _
    rw [hlive]; rfl
  · simp only [List.mem_cons, List.not_mem_nil, or_false, not_or] at hp
    simp [hp]
  · rw [millHeartbeatLost_eq m k s.chip hready hslot]
    unfold when
    split
    · exact ⟨by simp only [giveUp_mills, reportHbLost_hbLost],
        (eventsOf_giveUp _ 3 _ (twinSource_ne_millSource m)).trans hevents⟩
    · exact ⟨reportHbLost_hbLost m s.chip, hevents⟩

/-! ### The end of a run -/

/-- Where no run executes there is none to end. -/
theorem endRun_of_not_running (m : Fin 16) (c : Chip) (h : c.mills[m].running = none) : endRun m c = c := by
  unfold endRun
  rw [h]

/-- A run that ends clears HBLOST, whether or not the banks switch with it (R228, R234). -/
theorem endRun_clears (m : Fin 16) (c : Chip) (h : c.mills[m].running.isSome) :
    (endRun m c).mills[m].running = none ∧ (endRun m c).mills[m].stat.hbLost = false := by
  obtain ⟨k, hk⟩ := Option.isSome_iff_exists.mp h
  unfold endRun
  rw [hk]
  simp only [setMill_self]
  split <;> exact ⟨rfl, rfl⟩

/-- A mill that is at an instruction executes a run. -/
theorem running_of_millAt {m : Fin 16} {w : BitVec 48} {c : Chip} (h : millAt c m w) : c.mills[m].running.isSome := by
  unfold millAt millNext at h
  dsimp only at h
  split at h
  case isTrue hrun =>
    simp only [Bool.and_eq_true] at hrun
    obtain ⟨-, hrunning⟩ := hrun
    exact hrunning
  case isFalse => simp at h

/-- END ends the run once no read is outstanding (R219). -/
theorem insEnd_of_millAt (m : Fin 16) (c : Chip) (h : millAt c m (fmtR 0x01 0 0 0 0 0 0)) (hreads : c.mills[m].reads = []) :
    insEnd m c = endRun m c := by
  rw [insEnd, h, hreads]
  rfl

/-- END of a custom run clears HBLOST (R228). -/
theorem end_gives (s : State) (m : Fin 16) (hat : millAt s.chip m (fmtR 0x01 0 0 0 0 0 0))
    (hreads : s.chip.mills[m].reads = []) :
    Gives (.end_ m) s [.mills, .fresh] fun c => c.mills[m].running = none ∧ c.mills[m].stat.hbLost = false := by
  refine ⟨insEnd m s.chip, rfl, fun p hp => ?_, ?_⟩
  · simp only [List.mem_cons, List.not_mem_nil, or_false, not_or] at hp
    simp [hp]
  · rw [insEnd_of_millAt m s.chip hat hreads]
    exact endRun_clears m s.chip (running_of_millAt hat)

/-! ### Stock runs -/

/-- The mill as the law of a stock run finds it: in the run that MILL_RUN_START started, or in one that starts now. -/
def atLaw (k : Fin 4) (x : Mill) : Mill := if x.running.isSome then x else startRun k x

theorem stockRun_eq (u : Unit4) (law : Chip → Chip) (c : Chip) :
    stockRun u law c = endRun u.mill (law (setMill u.mill (atLaw u.slot) c)) := rfl

theorem atLaw_running (k : Fin 4) (x : Mill) : (atLaw k x).running.isSome := by
  unfold atLaw
  split
  case isTrue h => exact h
  case isFalse => rfl

@[simp] theorem atLaw_state (k : Fin 4) (x : Mill) : (atLaw k x).state = x.state := by
  unfold atLaw
  split <;> rfl

@[simp] theorem atLaw_stat (k : Fin 4) (x : Mill) : (atLaw k x).stat = x.stat := by
  unfold atLaw
  split <;> rfl

/-- A stock run clears HBLOST where its law leaves the mill running (R228). -/
theorem stockRun_clears (c : Chip) (u : Unit4) (law : Chip → Chip)
    (hlaw : ∀ d : Chip, d.mills[u.mill].running.isSome → (law d).mills[u.mill].running.isSome) :
    (stockRun u law c).mills[u.mill].running = none ∧ (stockRun u law c).mills[u.mill].stat.hbLost = false := by
  rw [stockRun_eq]
  exact endRun_clears u.mill _ (hlaw _ (by rw [setMill_self]; exact atLaw_running u.slot _))

/-- A stock run that reaches its limit has not completed: it leaves HBLOST as it was. -/
theorem stockRun_runLimit_hbLost (u : Unit4) (c : Chip) (hready : c.mills[u.mill].state = .ready) :
    (stockRun u (runLimit u.mill) c).mills[u.mill].stat.hbLost = c.mills[u.mill].stat.hbLost := by
  have hmill := runLimit_mill u.mill (setMill u.mill (atLaw u.slot) c) (by rw [setMill_self, atLaw_state, hready])
    (by rw [setMill_self]; exact atLaw_running u.slot _)
  rw [stockRun_eq, endRun_of_not_running _ _ (by rw [hmill]), hmill, setMill_self, atLaw_stat]

/-- Refutes O59, by its last clause: mill 0 is READY with HBLOST set, and its stock run reaches the run limit, which stops the
mill and leaves HBLOST set. -/
theorem not_millLimits : ¬ Obligations.MillLimits := by
  unfold Obligations.MillLimits
  rintro ⟨-, -, -, hstock⟩
  obtain ⟨c, hready, hlost⟩ :
      ∃ c : Chip, c.mills[(0 : Fin 16)].state = .ready ∧ c.mills[(0 : Fin 16)].stat.hbLost = true :=
    ⟨{ mills := Vector.replicate 16 { state := .ready, stat := { hbLost := true } } }, by simp, by simp⟩
  obtain ⟨-, hclear⟩ := hstock c { mill := 0, slot := 0 } (runLimit 0)
  have hkept := stockRun_runLimit_hbLost { mill := 0, slot := 0 } c hready
  exact Bool.false_ne_true (hclear.symm.trans (hkept.trans hlost))

end Sys2Proof.Machine
end

section
/-! The limits of staging (R272): how one more write joins the staged ones, what a hamper reads as once it changed, and
`Obligations.StagedWritesAreLimited`. -/

namespace Sys2Proof.Machine

/-! ### One more staged write -/

/-- A write to an object already staged takes no new place; a write to another object takes the next one. -/
theorem stageIn_keys (l : List (Key × Val)) (k : Key) (v : Val) :
    (stageIn l k v).map (·.1) = if k ∈ l.map (·.1) then l.map (·.1) else l.map (·.1) ++ [k] := by
  induction l with
  | nil => rfl
  | cons e rest ih =>
    obtain ⟨q, w⟩ := e
    by_cases hq : q = k
    · simp [stageIn, hq]
    · simp only [stageIn, hq, if_false, List.map_cons, ih, List.mem_cons, Ne.symm hq, false_or]
      split <;> rfl

theorem mem_stageIn_self (l : List (Key × Val)) (k : Key) (v : Val) : (k, v) ∈ stageIn l k v := by
  induction l with
  | nil => exact List.mem_singleton_self _
  | cons e rest ih =>
    unfold stageIn
    split
    · exact List.mem_cons_self
    · exact List.mem_cons_of_mem _ ih

/-- The staged writes to other objects stay. -/
theorem mem_stageIn_of_ne {l : List (Key × Val)} {k : Key} {e : Key × Val} (v : Val) (he : e ∈ l) (hne : e.1 ≠ k) :
    e ∈ stageIn l k v := by
  induction l with
  | nil => cases he
  | cons a rest ih =>
    unfold stageIn
    rcases List.mem_cons.mp he with rfl | hrest
    · rw [if_neg hne]
      exact List.mem_cons_self
    · split
      · exact List.mem_cons_of_mem _ hrest
      · exact List.mem_cons_of_mem _ (ih hrest)

/-! ### The hamper of a handle after a change -/

/-- A change that keeps the handles shows in the hamper of that handle. -/
theorem hamperOf_setHamper_same {handle : Nat} {f : Hamper → Hamper} {c : Chip} {h : Hamper}
    (hf : ∀ x, (f x).handle = x.handle) (hh : hamperOf c handle = some h) :
    hamperOf (setHamper handle f c) handle = some (f h) := by
  have hkeep : ((fun x => x.handle == handle) ∘ fun x : Hamper => if x.handle == handle then f x else x) =
      fun x => x.handle == handle := by
    funext x
    dsimp only [Function.comp]
    split
    · rw [hf]
    · rfl
  have hmatch : (h.handle == handle) = true := List.find?_some (p := fun x : Hamper => x.handle == handle) hh
  unfold hamperOf at hh ⊢
  simp only [setHamper, setHampers_hampers, List.find?_map, hkeep, hh, Option.map_some, hmatch, if_true]

/-- A write refused with HAMPER-FULL leaves the hamper but for the mark, and a first mark is kept (R274, R278). -/
theorem hamperOf_spoil_hamperFull {c : Chip} {h : Hamper} (k : Key) (hh : hamperOf c h.handle = some h) :
    hamperOf (spoil h k .hamperFull c) h.handle =
      some { h with spoiled := some (h.spoiled.getD (.hamperFull, 255)) } := by
  unfold spoil
  rw [hamperOf_setHamper_same ?keeps hh]
  case keeps => exact fun _ => rfl
  cases h.spoiled <;> rfl

/-! ### The two limits -/

/-- The DOMAIN bytes that all hampers hold together where the hamper of a handle holds the given writes. -/
def domainBytesWith (c : Chip) (handle : Nat) (writes : List (Key × Val)) : Nat :=
  (c.hampers.list.map fun x => domainBytes (if x.handle = handle then writes else x.writes)).foldl (· + ·) 0

/-- Past its checks a write meets the two limits: beyond one it is refused and spoils, and else it is staged (R272). -/
theorem stageWrite_of_checked {c : Chip} {o : Origin} {k : Key} {b : List Byte} {v : Val} {h : Hamper}
    (hstage : stagingHamper c o = some h) (hcheck : writeCheck c o k true = .ok) (hvalue : valueCheck k b = (.ok, v)) :
    stageWrite o k b c =
      if 256 < (stageIn h.writes k v).length ∨ 131072 < domainBytesWith c h.handle (stageIn h.writes k v) then
        (.hamperFull, spoil h k .hamperFull c)
      else (.ok, setHamper h.handle (fun x => { x with writes := stageIn h.writes k v }) c) := by
  simp only [stageWrite, hstage, hcheck, hvalue]
  exact ite_congr (by simp only [domainBytesWith, Bool.or_eq_true, decide_eq_true_eq]) (fun _ => rfl) fun _ => rfl

/-- Settles O56: a write that replaces takes no place, and the two limits decide between staging and HAMPER-FULL. -/
theorem stagedWritesAreLimited : Obligations.StagedWritesAreLimited := by
  intro c o k b v h hstage hh hcheck hvalue
  have hwrite := stageWrite_of_checked hstage hcheck hvalue
  refine ⟨stageIn_keys _ _ _, mem_stageIn_self _ _ _, fun e he hne => mem_stageIn_of_ne v he hne, ?within, ?beyond⟩
  case within =>
    intro hlen hbytes
    rw [hwrite.trans (if_neg (not_or.mpr ⟨Nat.not_lt.mpr hlen, Nat.not_lt.mpr hbytes⟩))]
    exact ⟨rfl, hamperOf_setHamper_same (fun _ => rfl) hh⟩
  case beyond =>
    intro hfull
    rw [hwrite.trans (if_pos hfull)]
    exact ⟨rfl, 255, hamperOf_spoil_hamperFull k hh⟩

end Sys2Proof.Machine
end

section
/-! What a Lane receiver does with the frames it discards (R333): only the verdict on a frame touches the counters of a link, what
is delivered and what is known of the nodes; forwarding adds to what is sent. `Obligations.LaneReceiverDiscards` follows. -/

namespace Sys2Proof.Machine

/-- A frame is bad for one of the four reasons of R333. -/
theorem frameBad_iff (f : LaneFrame) :
    frameBad f ↔ f.hchk ≠ hchkOf f ∨ f.crc ≠ crcOf f ∨ f.reservedSet ∨ classLimit f.cls.toNat < f.payload.length := by
  simp only [frameBad, Bool.or_eq_true, bne_iff_ne, decide_eq_true_eq]
  rw [or_assoc, or_assoc, or_left_comm, or_left_comm (a := f.reservedSet = true)]

/-! ### Forwarding only sends -/

/-- A change of the chip that may send on the Lane, and changes nothing else of it. -/
def OnlySends (f : Chip → Chip) : Prop := ∀ c, ∃ tx, (f c).lane = { c.lane with tx := tx }

/-- What a send does with one frame: it is added to what is sent, or lost. -/
theorem sendIf_onlySends (b : Chip → Bool) (x : Chip → LaneTx) :
    OnlySends fun c => if b c then setLane (fun l => { l with tx := l.tx ++ [x c] }) c else c := by
  intro c
  dsimp only
  split
  · exact ⟨_, rfl⟩
  · exact ⟨c.lane.tx, rfl⟩

theorem laneLeave_onlySends (p : LanePort) (f : LaneFrame) : OnlySends (laneLeave p f) :=
  sendIf_onlySends _ _

theorem forwardFrame_onlySends (p : LanePort) (f : LaneFrame) : OnlySends (forwardFrame p f) := by
  unfold forwardFrame
  cases hchkBad f with
  | true => exact sendIf_onlySends _ _
  | false => exact laneLeave_onlySends _ _

theorem when_onlySends (b : Bool) {f : Chip → Chip} (hf : OnlySends f) : OnlySends (when b f) := by
  intro c
  cases b with
  | true => exact hf c
  | false => exact ⟨c.lane.tx, rfl⟩

/-! ### Delivering and learning leave the links -/

theorem laneLink_setLane {g : Lane → Lane} {c : Chip} (ha : (g c.lane).linkA = c.lane.linkA)
    (hb : (g c.lane).linkB = c.lane.linkB) (q : LanePort) : laneLink (setLane g c) q = laneLink c q := by
  cases q with
  | a => exact ha
  | b => exact hb

theorem laneLink_when {b : Bool} {g : Chip → Chip} {c : Chip} {q : LanePort} (hg : laneLink (g c) q = laneLink c q) :
    laneLink (when b g c) q = laneLink c q := by
  cases b with
  | true => exact hg
  | false => rfl

@[simp] theorem laneLink_setNode (n : Fin 1024) (g : LaneNode → LaneNode) (c : Chip) (q : LanePort) :
    laneLink (setNode n g c) q = laneLink c q :=
  laneLink_setLane rfl rfl q

@[simp] theorem laneLink_hear (n : Fin 1024) (c : Chip) (q : LanePort) : laneLink (hear n c) q = laneLink c q := by
  unfold hear
  split
  · rfl
  · exact laneLink_setNode n _ c q

@[simp] theorem laneLink_learnHops (n : Fin 1024) (p : LanePort) (hops : Nat) (turns : BitVec 2) (c : Chip) (q : LanePort) :
    laneLink (learnHops n p hops turns c) q = laneLink c q :=
  laneLink_setNode n _ c q

@[simp] theorem laneLink_learnRing (hops : Nat) (turns : BitVec 2) (c : Chip) (q : LanePort) :
    laneLink (learnRing hops turns c) q = laneLink c q := by
  unfold learnRing
  generalize (if turns = 0 then some hops else none) = r
  dsimp only
  split
  · rfl
  · exact laneLink_setLane rfl rfl q

@[simp] theorem laneLink_learnFrame (p : LanePort) (f : LaneFrame) (c : Chip) (q : LanePort) :
    laneLink (learnFrame p f c) q = laneLink c q := by
  unfold learnFrame
  split
  · rfl
  split
  · exact laneLink_when (laneLink_learnRing _ _ c q)
  split
  · exact (laneLink_when (laneLink_learnHops _ p _ _ _ q)).trans (laneLink_hear _ c q)
  · rfl

@[simp] theorem laneLink_deliverFrame (f : LaneFrame) (c : Chip) (q : LanePort) :
    laneLink (deliverFrame f c) q = laneLink c q := by
  unfold deliverFrame
  split
  · rfl
  · exact laneLink_setLane rfl rfl q

/-! ### The verdict on a frame -/

theorem laneLink_setLink_same (p : LanePort) (g : LaneLink → LaneLink) (c : Chip) :
    laneLink (setLink p g c) p = g (laneLink c p) := by
  cases p <;> rfl

@[simp] theorem setLink_delivered (p : LanePort) (g : LaneLink → LaneLink) (c : Chip) :
    (setLink p g c).lane.delivered = c.lane.delivered := by
  cases p <;> rfl

@[simp] theorem setLink_nodes (p : LanePort) (g : LaneLink → LaneLink) (c : Chip) :
    (setLink p g c).lane.nodes = c.lane.nodes := by
  cases p <;> rfl

/-- A frame received is discarded and counted, or else learned from and delivered; whether it is forwarded is another matter. -/
def judgeFrame (p : LanePort) (f : LaneFrame) (c : Chip) : Chip :=
  if frameBad f then setLink p (fun l => { l with crcErrors := l.crcErrors + 1 }) c else deliverFrame f (learnFrame p f c)

/-- After a frame on a link that is up, the Lane of a running node is as the verdict leaves it, but for what is sent. -/
theorem laneFrameReceive_lane {c : Chip} {p : LanePort} (f : LaneFrame) (hruns : laneRuns c) (hup : (laneLink c p).up) :
    ∃ tx, (laneFrameReceive p f c).lane = { (judgeFrame p f c).lane with tx := tx } := by
  have hrecv : laneFrameReceive p f c =
      when (forwards (judgeFrame p f c) f) (forwardFrame p f) (judgeFrame p f c) := by
    rw [laneFrameReceive, hruns, hup]
    rfl
  rw [hrecv]
  exact when_onlySends _ (forwardFrame_onlySends p f) _

/-- What is sent is no part of a link. -/
theorem laneLink_of_lane {c d : Chip} {tx : List LaneTx} (h : d.lane = { c.lane with tx := tx }) (q : LanePort) :
    laneLink d q = laneLink c q := by
  cases q <;> simp only [laneLink, h]

/-- A bad frame is not delivered, teaches nothing, and is counted at its port. -/
theorem judgeFrame_of_bad {f : LaneFrame} (p : LanePort) (c : Chip) (hbad : frameBad f) :
    (judgeFrame p f c).lane.delivered = c.lane.delivered ∧ (judgeFrame p f c).lane.nodes = c.lane.nodes ∧
    (laneLink (judgeFrame p f c) p).crcErrors = (laneLink c p).crcErrors + 1 := by
  rw [judgeFrame, if_pos hbad, laneLink_setLink_same]
  exact ⟨setLink_delivered p _ c, setLink_nodes p _ c, rfl⟩

/-- A good frame is counted as an error at no port. -/
theorem laneLink_judgeFrame_of_good {f : LaneFrame} (p : LanePort) (c : Chip) (hgood : ¬ frameBad f) (q : LanePort) :
    laneLink (judgeFrame p f c) q = laneLink c q := by
  rw [judgeFrame, if_neg hgood, laneLink_deliverFrame, laneLink_learnFrame]

/-! ### The command -/

/-- A frame that a port can carry is received, and changes the Lane only. -/
theorem laneFrameReceive_gives {s : State} {p : LanePort} {f : LaneFrame} {P : Chip → Prop} (hlen : f.payload.length < 512)
    (h : P (laneFrameReceive p f s.chip)) : Gives (.laneFrameReceive p f) s [.lane] P := by
  refine ⟨laneFrameReceive p f s.chip, ?_, fun pt hpt => ?_, h⟩
  · change guarded (decide (f.payload.length < 512)) s (laneFrameReceive p f s.chip) = _
    rw [decide_eq_true hlen]
    rfl
  · exact laneFrameReceive_part pt (by simpa only [List.mem_singleton] using hpt) p f s.chip

/-- Settles O57: the verdict counts and discards a bad frame, and forwarding touches neither the links nor what is delivered or
known. -/
theorem laneReceiverDiscards : Obligations.LaneReceiverDiscards := by
  intro s p f hlen hruns hup
  refine laneFrameReceive_gives hlen ?_
  obtain ⟨tx, hlane⟩ := laneFrameReceive_lane f hruns hup
  rw [laneLink_of_lane hlane p, hlane]
  split
  case isTrue hbad => exact judgeFrame_of_bad p s.chip ((frameBad_iff f).mpr hbad)
  case isFalse hgood => rw [laneLink_judgeFrame_of_good p s.chip (mt (frameBad_iff f).mp hgood)]

end Sys2Proof.Machine
end

section
/-! The revocation of the green lock (R365). What the block reset of a hamlet does besides ends requests, rolls back hampers, gives
up the shelf, drops links and loses rails; none of it touches a hamlet but for its queues, and each event it raises is of another
source than that of the revocation (`SparesRevocation`). `Obligations.GreenLockRevoked` follows. -/

namespace Sys2Proof.Machine

/-- From `c` to `d` no hamlet changes but for its queues, the chip neither enters nor leaves the safe state, and no event of source
229, that of the revoked green lock, comes or goes. -/
structure SparesRevocation (c d : Chip) : Prop where
  bits : ∀ h : Fin 27, (d.hamlets[h]).bits = (c.hamlets[h]).bits
  safe : d.watch.safe = c.watch.safe
  events : eventsOf 229 d = eventsOf 229 c

namespace SparesRevocation

theorem trans {c d e : Chip} (hcd : SparesRevocation c d) (hde : SparesRevocation d e) : SparesRevocation c e :=
  ⟨fun h => (hde.bits h).trans (hcd.bits h), hde.safe.trans hcd.safe, hde.events.trans hcd.events⟩

/-- A change that leaves the Watch spares the revocation where it leaves the hamlets' bits. -/
theorem of_bits {c d : Chip} (hbits : ∀ h : Fin 27, (d.hamlets[h]).bits = (c.hamlets[h]).bits)
    (hwatch : d.watch = c.watch) : SparesRevocation c d :=
  ⟨hbits, by rw [hwatch], by simp only [eventsOf, hwatch]⟩

/-- A change of other parts of the chip than the hamlets and the Watch spares the revocation. -/
theorem of_parts {c d : Chip} (hhamlets : part .hamlets d = part .hamlets c) (hwatch : part .watch d = part .watch c) :
    SparesRevocation c d := by
  change d.hamlets = c.hamlets at hhamlets
  exact of_bits (fun h => by rw [hhamlets]) hwatch

theorem refl (c : Chip) : SparesRevocation c c := of_parts rfl rfl

/-- An event of another source spares the revocation. -/
theorem raise {src : Nat} (hsrc : Fin.ofNat 256 src ≠ 229) (code : Nat) (value : Int) (c : Chip) :
    SparesRevocation c (raise src code value c) where
  bits h := by rw [raise_hamlets]
  safe := by unfold Machine.raise; split <;> rfl
  events := eventsOf_raise_other 229 src code value c hsrc

theorem each {α : Type} {f : α → Chip → Chip} (hf : ∀ a c, SparesRevocation c (f a c)) (l : List α) (c : Chip) :
    SparesRevocation c (each l f c) := by
  induction l generalizing c with
  | nil => exact refl c
  | cons a l ih => exact (hf a c).trans (ih (f a c))

theorem when {f : Chip → Chip} (hf : ∀ c, SparesRevocation c (f c)) (b : Bool) (c : Chip) :
    SparesRevocation c (when b f c) := by
  cases b with
  | true => exact hf c
  | false => exact refl c

/-! ### Requests, hampers and the shelf -/

theorem complete (q : Req) (st : Status) (v : List Byte) (c : Chip) : SparesRevocation c (complete q st v c) :=
  of_bits (complete_bits q st v · c) (complete_watch c q st v)

theorem switchoverAll (c : Chip) : SparesRevocation c (switchoverAll c) :=
  of_bits (completeAll_bits c.market.reqs .switchover · c) (switchoverAll_watch c)

theorem completeHeld (h : Hamper) (st : Status) (c : Chip) : SparesRevocation c (completeHeld h st c) := by
  unfold Machine.completeHeld completeId
  split
  · split
    · exact complete _ st [] c
    · exact refl c
  · exact refl c

theorem rollBack (h : Hamper) (c : Chip) : SparesRevocation c (rollBack h c) := by
  unfold Machine.rollBack endHamper
  refine .trans ?_ (completeHeld h .ok _)
  exact of_parts (by simp) (by simp)

theorem originsLost (p : Origin → Bool) (c : Chip) : SparesRevocation c (originsLost p c) :=
  each rollBack _ c

theorem giveUp (cause : Nat) (c : Chip) : SparesRevocation c (giveUp cause c) := by
  unfold Machine.giveUp releaseShelf
  split
  · exact refl c
  split
  · refine .trans ?_ (raise (by decide) 3 cause _)
    refine .trans ?_ (switchoverAll _)
    exact of_parts rfl rfl
  · exact raise (by decide) 7 cause c

theorem resetGivesUp (h : Fin 27) (c : Chip) : SparesRevocation c (resetGivesUp h c) := by
  unfold Machine.resetGivesUp
  split
  · exact when (fun c => when (giveUp 3) _ c) _ c
  · exact refl c

/-! ### Links that drop -/

theorem abandonUpdate (c : Chip) : SparesRevocation c (abandonUpdate c) := by
  unfold Machine.abandonUpdate logRaise
  split
  · refine .trans ?_ (raise (by decide) _ _ _)
    exact of_parts (by simp) (by simp)
  · exact refl c

theorem dropLink (counted : Bool) (c : Chip) : SparesRevocation c (dropLink counted c) := by
  unfold Machine.dropLink
  refine .trans ?_ (raise (by decide) 1 0 _)
  exact ((originsLost _ c).trans (abandonUpdate _)).trans (of_parts rfl rfl)

theorem wipeNet (c : Chip) : SparesRevocation c (wipeNet c) :=
  (when (dropLink false) c.svc.up c).trans (of_parts rfl rfl)

theorem clearTvalid (c : Chip) : SparesRevocation c (clearTvalid c) := by
  refine when (fun c => ?_) c.lane.tvalid c
  refine .trans ?_ (raise (by decide) 4 0 _)
  exact of_parts rfl rfl

theorem wipeLane (c : Chip) : SparesRevocation c (wipeLane c) :=
  ((clearTvalid c).trans (originsLost laneOrigin _)).trans (of_parts rfl rfl)

theorem twinLinkDown (c : Chip) : SparesRevocation c (twinLinkDown c) := by
  unfold Machine.twinLinkDown
  split
  · exact refl c
  · refine .trans ?_ (raise (by decide) 1 0 _)
    exact (originsLost _ c).trans (of_parts rfl rfl)

theorem wipeTwin (c : Chip) : SparesRevocation c (wipeTwin c) :=
  (twinLinkDown c).trans (of_parts rfl rfl)

/-! ### Rails that lose their mill -/

/-- The sources of the VC ports (Table 11.1). -/
theorem vcSource_ne : ∀ n : Fin 4, Fin.ofNat 256 (178 + n) ≠ 229 := by decide

/-- The sources of the rails (Table 11.1). -/
theorem railSource_ne : ∀ r : Fin 16, Fin.ofNat 256 (32 + r) ≠ 229 := by decide

theorem vcAbort (r : Fin 16) (c : Chip) : SparesRevocation c (vcAbort r c) := by
  unfold Machine.vcAbort
  split
  · exact refl c
  split
  · exact refl c
  · refine .trans ?_ (raise (vcSource_ne _) 2 0 _)
    exact of_parts rfl rfl

theorem setRail (r : Fin 16) (f : Rail → Rail) (c : Chip) : SparesRevocation c (setRail r f c) := of_parts rfl rfl

theorem railGo (r : Fin 16) (st : RailState) (c : Chip) : SparesRevocation c (railGo r st c) :=
  (when (vcAbort r) _ c).trans (of_parts rfl rfl)

theorem setPhases (l : List (Fin 32)) (f : Phase → Phase) (c : Chip) :
    SparesRevocation c (Machine.each l (fun p => setPhase p f) c) :=
  each (f := fun p => setPhase p f) (fun _ _ => of_parts rfl rfl) l c

theorem feedbackLost (r : Fin 16) (c : Chip) : SparesRevocation c (feedbackLost r c) := by
  unfold Machine.feedbackLost
  split
  · refine .trans ?_ (raise (railSource_ne r) 1 0 _)
    refine .trans ?_ (setRail r _ _)
    exact (setPhases _ _ c).trans (railGo r .fbHold _)
  · exact refl c

theorem railsLoseMill (m : Fin 16) (c : Chip) : SparesRevocation c (railsLoseMill m c) :=
  when (each feedbackLost _) _ c

/-! ### The memories of a hamlet -/

theorem wipeHamlet (h : Fin 27) (c : Chip) : SparesRevocation c (wipeHamlet h c) := by
  unfold Machine.wipeHamlet
  split
  case isTrue => exact of_parts rfl rfl
  split
  case isTrue => exact wipeNet c
  split
  case isTrue => exact wipeLane c
  split
  case isTrue => exact wipeTwin c
  split
  case isTrue => exact of_parts rfl rfl
  split
  · refine .trans ?_ (railsLoseMill _ _)
    exact of_parts rfl rfl
  · exact refl c

end SparesRevocation

/-! ### The block reset -/

/-- A hamlet with the bits of one in block reset is in block reset, and likewise of one that is not. -/
theorem blkrst_of_bits {x y : Hamlet} (h : x.bits = y.bits) : x.blkrst = y.blkrst :=
  congrArg (·.blkrst) h

/-- The hamlet is held in reset (R14): its clock stops. -/
def holdReset (h : Fin 27) (c : Chip) : Chip :=
  setHamlet h (fun x => { x with blkrst := true, run := false, waking := false, realign := false }) c

/-- What a hamlet held in reset loses (R14, R18): its requests end, and its memories are wiped. -/
def loseHeld (h : Fin 27) (c : Chip) : Chip :=
  wipeHamlet h (each (c.market.reqs.filter fun q => q.taken && !q.held && hamletOf c q.k == h)
    (fun q => complete q .hamletReset []) c)

/-- A block reset that may start holds the hamlet, which loses what it had, and then its locks. -/
theorem blockReset_eq {h : Fin 27} {c : Chip} (hres : resettableHamlet h) (hrun : c.hamlets[h].blkrst = false) :
    blockReset h c = releaseLocks h (loseHeld h (holdReset h c)) := by
  unfold blockReset
  rw [hres, hrun]
  rfl

theorem loseHeld_spares (h : Fin 27) (c : Chip) : SparesRevocation c (loseHeld h c) :=
  (SparesRevocation.each (fun q => SparesRevocation.complete q .hamletReset []) _ c).trans (SparesRevocation.wipeHamlet h _)

/-- The block reset of a hamlet that is not in one yet: the hamlet is in block reset, and the Watch is as it was but for events
of other sources. -/
theorem blockReset_started {h : Fin 27} {c : Chip} (hres : resettableHamlet h) (hrun : c.hamlets[h].blkrst = false) :
    (blockReset h c).hamlets[h].blkrst = true ∧ (blockReset h c).watch.safe = c.watch.safe ∧
      eventsOf 229 (blockReset h c) = eventsOf 229 c := by
  rw [blockReset_eq hres hrun]
  have hspares := loseHeld_spares h (holdReset h c)
  refine ⟨?_, hspares.safe, hspares.events⟩
  have hheld : (holdReset h c).hamlets[h].blkrst = true := by simp [holdReset]
  exact (blkrst_of_bits (hspares.bits h)).trans hheld

/-- The block reset of the hamlet that holds the green lock releases it (R14). -/
theorem blockReset_releases {h : Fin 27} {c : Chip} (hres : resettableHamlet h) (hrun : c.hamlets[h].blkrst = false)
    (hlock : c.green.greenLock = some h) : (blockReset h c).green.greenLock = none := by
  have hkept : part .green (loseHeld h (holdReset h c)) = part .green c := by simp [loseHeld, holdReset]
  change (loseHeld h (holdReset h c)).green = c.green at hkept
  rw [blockReset_eq hres hrun]
  simp [releaseLocks, hkept, hlock]

/-! ### The revocation -/

/-- The Watch counts a revocation (R364, R365). -/
def countRevocation (c : Chip) : Chip := setWatch (fun w => { w with revocations := satSucc 65535 w.revocations }) c

/-- What comes before the block reset of a revocation: the count, and the give-up of a mill that runs the shelf. -/
def beforeRevocation (h : Fin 27) (c : Chip) : Chip := resetGivesUp h (countRevocation c)

theorem revoke_eq (src : Nat) (h : Fin 27) (c : Chip) :
    revoke src h c = raise src 1 h.val (blockReset h (beforeRevocation h c)) := rfl

theorem countRevocation_spares (c : Chip) : SparesRevocation c (countRevocation c) := ⟨fun _ => rfl, rfl, rfl⟩

theorem beforeRevocation_spares (h : Fin 27) (c : Chip) : SparesRevocation c (beforeRevocation h c) :=
  (countRevocation_spares c).trans (SparesRevocation.resetGivesUp h _)

theorem beforeRevocation_green (h : Fin 27) (c : Chip) : (beforeRevocation h c).green = c.green := by
  change part .green (beforeRevocation h c) = part .green c
  simp [beforeRevocation, countRevocation]

/-- The revocation of the green lock: its holder, which is not in block reset, comes to be, the lock is free, and one event of
source 229 has come (R365). -/
theorem revoke_greenLock {h : Fin 27} {c : Chip} (hres : resettableHamlet h) (hrun : c.hamlets[h].blkrst = false)
    (hsafe : c.watch.safe = false) (hlock : c.green.greenLock = some h) :
    (revoke 229 h c).hamlets[h].blkrst = true ∧ (revoke 229 h c).green.greenLock = none ∧
      eventsOf 229 (revoke 229 h c) = eventsOf 229 c + 1 := by
  have hbefore := beforeRevocation_spares h c
  have hrun' : (beforeRevocation h c).hamlets[h].blkrst = false := (blkrst_of_bits (hbefore.bits h)).trans hrun
  have hlock' : (beforeRevocation h c).green.greenLock = some h := by rw [beforeRevocation_green, hlock]
  obtain ⟨hblk, hsafe', hevents⟩ := blockReset_started hres hrun'
  have hone : eventsOf 229 (raise 229 1 h.val (blockReset h (beforeRevocation h c))) =
      eventsOf 229 (blockReset h (beforeRevocation h c)) + 1 :=
    eventsOf_raise_same 229 1 h.val _ (hsafe'.trans (hbefore.safe.trans hsafe))
  rw [revoke_eq, hone, hevents, hbefore.events, raise_hamlets, raise_green]
  exact ⟨hblk, blockReset_releases hres hrun' hlock', rfl⟩

/-- Where the Watch runs, the chip is not in the safe state. -/
theorem not_safe_of_watchRuns {c : Chip} (h : watchRuns c) : c.watch.safe = false := by
  simp only [watchRuns, Bool.and_eq_true, Bool.not_eq_true'] at h
  exact h.left

/-- A hamlet that may hold a lock is not in block reset (R14). -/
theorem blkrst_of_mayHoldLock {h : Fin 27} {c : Chip} (hhold : mayHoldLock h c) : c.hamlets[h].blkrst = false := by
  simp only [mayHoldLock, Bool.and_eq_true, Bool.not_eq_true'] at hhold
  exact hhold.left

/-- Settles O55: the revocation takes the lock by the block reset of its holder, and its own event is the only one of its source. -/
theorem greenLockRevoked : Obligations.GreenLockRevoked := by
  intro s h hwatch hres hhold
  have heq : greenLockRevoke h s.chip = revoke 229 h (setGreen (fun g => { g with greenLock := some h }) s.chip) := by
    rw [greenLockRevoke, hwatch, hhold, hres]
    rfl
  refine ⟨greenLockRevoke h s.chip, rfl, fun pt hpt => ?_, ?_⟩
  · simp only [List.mem_cons, List.not_mem_nil, or_false, not_or] at hpt
    simp [hpt]
  · rw [heq]
    exact revoke_greenLock hres (blkrst_of_mayHoldLock hhold) (not_safe_of_watchRuns hwatch) rfl

end Sys2Proof.Machine
end

section
/-! A write or read that reaches its target at once (R256 to R258): the request stands in the market, taken by its hamlet, and a
write is served there. -/

namespace Sys2Proof.Machine

/-! ### The newest request of the market -/

/-- No outstanding request has the number of this one, or its pair of origin and object. -/
def NewRequest (q : Req) (c : Chip) : Prop :=
  ∀ x ∈ c.market.reqs, x.id ≠ q.id ∧ (x.origin = q.origin → x.k ≠ q.k)

/-- The chip with one more request in the market's slots (R256). -/
def queued (q : Req) (c : Chip) : Chip :=
  setMarket (fun m => { m with reqs := m.reqs ++ [q], peak := max m.peak (m.reqs.length + 1) }) c

/-- The newest request goes next where it is the only one of its pair (R258). -/
theorem nextOf_queued {q : Req} {c : Chip} (hnew : NewRequest q c) (hwaits : q.dispatched = false) :
    nextOf (queued q c) q.origin q.k = some q := by
  have hothers : (c.market.reqs.filter fun x => x.origin == q.origin && x.k == q.k) = [] :=
    List.filter_eq_nil_iff.mpr fun x hx => by simpa using (hnew x hx).right
  have hpair : ((queued q c).market.reqs.filter fun x => x.origin == q.origin && x.k == q.k) = [q] := by
    simp [queued, List.filter_append, hothers]
  simp [nextOf, hpair, hwaits]

/-- A change of the newest request leaves the others. -/
theorem setReq_queued {q : Req} {c : Chip} (hnew : NewRequest q c) (f : Req → Req) :
    setReq q.id f (queued q c) = queued (f q) c := by
  have hothers : (c.market.reqs.map fun x => if x.id = q.id then f x else x) = c.market.reqs :=
    (List.map_congr_left fun x hx => if_neg (hnew x hx).left).trans (List.map_id' _)
  simp [setReq, queued, setMarket, hothers]

/-- The newest request is found by its number. -/
theorem reqOf_queued {q : Req} {c : Chip} (hnew : NewRequest q c) : reqOf (queued q c) q.id = some q := by
  have hothers : c.market.reqs.find? (fun x => x.id == q.id) = none :=
    List.find?_eq_none.mpr fun x hx => by simpa using (hnew x hx).left
  simp [reqOf, queued, List.find?_append, hothers]

/-! ### From the port to the hamlet -/

/-- A request goes to its hamlet at once, which takes it, where its way is free and none of its pair is outstanding (R258). -/
theorem takeSlot_of_free {q : Req} {c : Chip} (hlive : live c) (hpath : pathFree (hamletOf c q.k) c)
    (hnew : NewRequest q c) (hwaits : q.dispatched = false) :
    takeSlot q c = queued { q with admitted := c.clock.laneNs, dispatched := true, taken := true } c := by
  let p : Req := { q with admitted := c.clock.laneNs }
  have hnext : nextOf (queued p c) p.origin p.k = some p := nextOf_queued hnew hwaits
  have hlive' : live (queued p c) := hlive
  have hpath' : pathFree (hamletOf (queued p c) p.k) (queued p c) := hpath
  calc takeSlot q c = marketDispatch p.origin p.k (queued p c) := rfl
    _ = dispatch p (queued p c) := by
      simp only [marketDispatch, hlive', hnext, Bool.not_true, Bool.false_eq_true, if_false]
    _ = setReq p.id (fun x => { x with dispatched := true, taken := true }) (queued p c) := if_pos hpath'
    _ = _ := setReq_queued (q := p) hnew _

/-- A request that passes the checks of admission, and that no handle stages, takes a slot (R257). -/
theorem admitReq_of_checked {q : Req} {c : Chip} (hslot : slotFree c q.origin) (hfence : fencedPair c q.origin q.k = false)
    (hcheck : if q.data.isSome then writeCheck c q.origin q.k false = .ok ∧ (stageOf c q.origin = 0 ∨ stageExempt q.k)
      else readCheck c q.origin q.k = .ok) :
    admitReq q c = takeSlot q c := by
  cases hdata : q.data with
  | none =>
    have hread : readCheck c q.origin q.k = .ok := by simpa [hdata] using hcheck
    simp only [admitReq, hslot, hfence, hdata, hread, Bool.not_true, Bool.false_eq_true, if_false]
  | some b =>
    obtain ⟨hwrite, hdirect⟩ : writeCheck c q.origin q.k false = .ok ∧ (stageOf c q.origin = 0 ∨ stageExempt q.k) := by
      simpa [hdata] using hcheck
    have hstages : (stageOf c q.origin != 0 && !stageExempt q.k) = false := by
      rcases hdirect with h | h <;> simp [h]
    simp only [admitReq, hslot, hfence, hdata, hstages, hwrite, Bool.not_true, Bool.false_eq_true, if_false]

/-- What `reaches` says, part by part. -/
theorem reaches_iff (o : Origin) (k : Key) (write : Bool) (c : Chip) :
    reaches o k write c ↔ live c ∧ hamletShut c.hamlets[(3 : Fin 27)] = false ∧ slotFree c o ∧ fencedPair c o k = false ∧
      pathFree (hamletOf c k) c ∧
      (if write then writeCheck c o k false = .ok ∧ (stageOf c o = 0 ∨ stageExempt k) else readCheck c o k = .ok) ∧
      ∀ q ∈ c.market.reqs, q.id ≠ c.market.nextId ∧ (q.origin = o → q.k ≠ k) := by
  cases write <;> simp [reaches, and_assoc, Decidable.imp_iff_not_or]

/-- The chip once a number of the market is given out. -/
def numbered (c : Chip) : Chip := setMarket (fun m => { m with nextId := m.nextId + 1 }) c

/-- A running chip whose MARKET hamlet takes packets numbers a request and admits it (R17, R257). -/
theorem submit_of_open {o : Origin} {k : Key} {data : Option (List Byte)} {r : Reply} {c : Chip} (hlive : live c)
    (hopen : hamletShut c.hamlets[(3 : Fin 27)] = false) :
    submit o k data r c = admitReq { id := c.market.nextId, origin := o, k := k, data := data, reply := r } (numbered c) := by
  simp only [submit, hlive, setMarket_hamlets, hopen, Bool.not_true, Bool.false_eq_true, if_false, numbered]

/-- A request that reaches its target stands in the market, taken by its hamlet. -/
theorem submit_of_reaches {o : Origin} {k : Key} {data : Option (List Byte)} (r : Reply) {c : Chip}
    (h : reaches o k data.isSome c) : submit o k data r c = placed { ownRequest o k data c with reply := r } c := by
  obtain ⟨hlive, hopen, hslot, hfence, hpath, hcheck, hnew⟩ := (reaches_iff o k _ c).mp h
  let q : Req := { id := c.market.nextId, origin := o, k := k, data := data, reply := r }
  calc submit o k data r c = admitReq q (numbered c) := submit_of_open hlive hopen
    _ = takeSlot q (numbered c) := admitReq_of_checked hslot hfence hcheck
    _ = queued { q with admitted := c.clock.laneNs, dispatched := true, taken := true } (numbered c) :=
      takeSlot_of_free (c := numbered c) hlive hpath hnew rfl

/-- A write that reaches its target is served there. -/
theorem writeBytes_of_reaches {o : Origin} {k : Key} (b : List Byte) {c : Chip} (h : reaches o k true c) :
    writeBytes o k b c = serve (ownRequest o k (some b) c) (placed (ownRequest o k (some b) c) c) := by
  obtain ⟨-, -, -, -, -, -, hnew⟩ := (reaches_iff o k _ c).mp h
  have hsubmit : submit o k (some b) .own c = placed (ownRequest o k (some b) c) c := submit_of_reaches .own h
  have hfound : reqOf (placed (ownRequest o k (some b) c) c) c.market.nextId = some (ownRequest o k (some b) c) :=
    reqOf_queued (c := numbered c) hnew
  simp only [writeBytes, hsubmit, hfound]
  rfl

/-- A request carried out at once completes with what came of it; only `ChipResetCmd` does more. -/
theorem serve_of_carryOut {q : Req} {c d : Chip} {st : Status} {v : List Byte}
    (hcarry : carryOut q c = { status := st, value := v, chip := d }) (hk : (q.k == kChipResetCmd) = false) :
    serve q c = complete q st v d := by
  simp [serve, hcarry, hk, when]

end Sys2Proof.Machine
end

section
/-! The receipt of a frozen READY stream (R399): what a write of `AlmExportReceipt` does, and the record of code 50h that a matching
digest leaves. -/

namespace Sys2Proof.Machine

/-! ### Records that enter the buffer -/

/-- A record leaves `AlmExportState` (R397, R399). -/
theorem enterAt_frozenState (places : Nat) (r : Record) (c : Chip) :
    (enterAt places r c).alm.frozen.state = c.alm.frozen.state := by
  unfold enterAt
  extract_lets _ _ due
  split <;> split <;> rfl

theorem log_frozenState (code src : Nat) (severity : Fin 4) (value : Int) (entries : List Nat) (c : Chip) :
    (log code src severity value entries c).alm.frozen.state = c.alm.frozen.state :=
  enterAt_frozenState _ _ c

/-- A record that finds room for itself and a MARK stands in the buffer, but for its number and LOSS, which it is given there
(R389, R396). -/
theorem exists_mem_enterAt {places : Nat} (r : Record) {c : Chip} (hroom : c.alm.buffer.length + 2 ≤ places) :
    ∃ x ∈ (enterAt places r c).alm.buffer, { x with seq := r.seq, loss := r.loss } = r := by
  unfold enterAt
  extract_lets _ _ due _ mark entered
  refine ⟨entered, ?_, rfl⟩
  split
  case isTrue =>
    rw [if_neg (Nat.not_lt.mpr hroom)]
    exact List.mem_append_right _ (List.mem_cons_of_mem _ (List.mem_singleton_self _))
  case isFalse =>
    rw [if_neg (Nat.not_lt.mpr (Nat.le_of_succ_le hroom))]
    exact List.mem_append_right _ (List.mem_singleton_self _)

/-- A LOG record is accepted while the buffer has two places for it below the last four (R389). -/
theorem exists_mem_log (code src : Nat) (severity : Fin 4) (value : Int) (entries : List Nat) {c : Chip}
    (hroom : c.alm.buffer.length ≤ 58) :
    ∃ r ∈ (log code src severity value entries c).alm.buffer, r.kind = .log ∧ r.code = BitVec.ofNat 8 code := by
  have hplaces : c.alm.buffer.length + 2 ≤ if severity = 3 then 64 else 60 := by split <;> omega
  obtain ⟨x, hx, hr⟩ := exists_mem_enterAt _ hplaces
  exact ⟨x, hx, congrArg Record.kind hr, congrArg Record.code hr⟩

/-! ### The write of `AlmExportReceipt` -/

/-- The value of `AlmExportReceipt` is any 32 bytes (R250). -/
theorem valueCheck_exportReceipt {b : List Byte} (hlen : b.length = 32) :
    valueCheck kAlmExportReceipt b = (.ok, .bytes b) := by
  have hrow : objOf kAlmExportReceipt = some
      { name := "AlmExportReceipt", base := 0x2840, sub := 6, last := 6, type := .dom, access := .wo, dflt := .bytes []
        lens := (32, 32) } := by decide +kernel
  simp [valueCheck, hrow, Obj.parse, Obj.inRange, ObjType.size, hlen]

/-- `AlmExportReceipt` acts on the value by EXPORT_RECEIPT (R399). -/
theorem commandWrite_exportReceipt (o : Origin) (b : List Byte) (c : Chip) :
    commandWrite o kAlmExportReceipt (.bytes b) c = some (exportReceive b c) := rfl

/-- A write of 32 bytes to `AlmExportReceipt` is carried out at once (R261). -/
theorem carryOut_exportReceipt {q : Req} {b : List Byte} {c : Chip} (hk : q.k = kAlmExportReceipt)
    (hdata : q.data = some b) (hlen : b.length = 32) (hcheck : writeCheck c q.origin kAlmExportReceipt false = .ok) :
    carryOut q c = { status := (exportReceive b c).1, chip := (exportReceive b c).2 } := by
  simp only [carryOut, hdata, carryWrite, hk, hcheck, valueCheck_exportReceipt hlen, commandWrite_exportReceipt]
  rfl

/-- The chip once its frozen stream is receipted: RECEIPTED, and LOG code 50h of source 193. -/
def receipted (c : Chip) : Chip :=
  log 0x50 193 0 (seqOf c.alm.frozen.records.getLast? : Int) []
    (setAlm (fun a => { a with frozen := { a.frozen with state := .receipted } }) c)

/-- The digest of a READY stream receipts it, and any other value is refused (R399). -/
theorem exportReceive_of_ready {c : Chip} (b : List Byte) (hready : c.alm.frozen.state = .ready) :
    exportReceive b c = if b = (sha256 (exportBody c)).toList then (.ok, receipted c) else (.consistency, c) := by
  simp [exportReceive, hready, receipted]

/-- A request leaves the frozen stream, of which its own bytes are no part (R398). -/
theorem exportBody_placed (q : Req) (c : Chip) : exportBody (placed q c) = exportBody c := rfl

/-- A write of 32 bytes to `AlmExportReceipt` that reaches its target while a stream is READY (R399). -/
theorem exportReceipt_of_ready {o : Origin} {b : List Byte} {c : Chip} {q : Req} (hlen : b.length = 32)
    (hreach : reaches o kAlmExportReceipt true c) (hready : c.alm.frozen.state = .ready)
    (hq : q = ownRequest o kAlmExportReceipt (some b) c) :
    exportReceipt o b c = if b = (sha256 (exportBody c)).toList then complete q .ok [] (receipted (placed q c))
      else complete q .consistency [] (placed q c) := by
  obtain ⟨-, -, -, -, -, ⟨hcheck, -⟩, -⟩ := (reaches_iff o _ _ c).mp hreach
  subst hq
  rw [exportReceipt, writeBytes_of_reaches b hreach,
    serve_of_carryOut (carryOut_exportReceipt rfl rfl hlen hcheck) rfl,
    exportReceive_of_ready (c := placed _ c) b hready, exportBody_placed]
  split <;> rfl

/-! ### The statement -/

/-- A completion with a status that sets no fence is the market's last (R259). -/
theorem complete_getLast (q : Req) {st : Status} (v : List Byte) (c : Chip) (h : st.fences = false) :
    (complete q st v c).market.done.getLast? =
      some { id := q.id, origin := q.origin, k := q.k, write := q.data.isSome, status := st, value := v } := by
  rw [complete_market q st v c h]
  exact List.getLast?_concat

/-- Settles O60: the write completes with what `exportReceive` answers, which compares the bytes with the digest of the stream as
it was before the request. -/
theorem exportReceiptTaken : Obligations.ExportReceiptTaken := by
  intro s o b hlen hreach hready
  refine ⟨exportReceipt o b s.chip, rfl, ?_⟩
  rw [exportReceipt_of_ready hlen hreach hready rfl]
  split
  case isTrue =>
    refine ⟨complete_getLast _ [] _ rfl, ?_, fun hroom => ?_⟩
    · rw [complete_alm]
      exact log_frozenState ..
    · rw [complete_alm]
      exact exists_mem_log _ _ _ _ _ hroom
  case isFalse => exact ⟨complete_getLast _ [] _ rfl, complete_alm ..⟩

end Sys2Proof.Machine
end

section
/-! The transition to RETIRED (R447): what a TRANSITION that is accepted says of the export, and how the mark of a record of WARN or
above follows the export. -/

namespace Sys2Proof.Machine

/-! ### What a TRANSITION accepts -/

@[simp] theorem flush_lc (c : Chip) : (flush c).lc = c.lc := flush_part .lc (by decide) c

@[simp] theorem refuseTransition_lc (tag : BitVec 16) (status reason : Nat) (c : Chip) :
    (refuseTransition tag status reason c).lc = c.lc :=
  refuseTransition_part .lc (by decide) (by decide) (by decide) tag status reason c

/-- What holds of a chip that does not listen, of the answer of ROM recovery mode, and of the command's own effect holds of every
service command that needs normal running (R320). -/
theorem svcNormal_cases {p : Chip → Prop} {cmd : Nat} {tag : BitVec 16} {f : Chip → Chip} {c : Chip} (hdeaf : p c)
    (hrecovery : p (svcAnswer cmd tag 0x22 [] (svcValid c))) (heffect : p (f (svcValid c))) : p (svcNormal cmd tag f c) := by
  unfold svcNormal svcAlways
  split
  case isTrue =>
    dsimp only
    split <;> assumption
  case isFalse => exact hdeaf

/-- Using up the nonce leaves the transition accepted (R446). -/
theorem when_dropNonce_accepted (b : Bool) (c : Chip) :
    (when b (setLc fun l => { l with nonce := none }) c).lc.accepted = c.lc.accepted := by
  cases b <;> rfl

/-- Using up the nonce leaves what Table 14.11 allows: that depends on the fuses and the export alone. -/
theorem transitionTo_when_dropNonce (b : Bool) (c : Chip) (target : BitVec 8) :
    transitionTo (when b (setLc fun l => { l with nonce := none }) c) target = transitionTo c target := by
  cases b <;> rfl

/-- After a TRANSITION the transition accepted is the one that was, or the one that Table 14.11 allows from the state before. -/
theorem lifecycleTransition_accepted (tag : BitVec 16) (t : LcTransition) (c : Chip) :
    (lifecycleTransition tag t c).lc.accepted = c.lc.accepted ∨
      (lifecycleTransition tag t c).lc.accepted = transitionTo c t.target := by
  unfold lifecycleTransition
  refine svcNormal_cases
    (p := fun d => d.lc.accepted = c.lc.accepted ∨ d.lc.accepted = transitionTo c t.target) (.inl rfl) (.inl rfl) ?_
  extract_lets ok d
  have hkept : d.lc.accepted = c.lc.accepted := when_dropNonce_accepted _ (svcValid c)
  have htarget : transitionTo d t.target = transitionTo c t.target := transitionTo_when_dropNonce _ (svcValid c) _
  split
  case isTrue => exact .inl (by rw [refuseTransition_lc, hkept])
  case isFalse =>
    split
    case h_1 => exact .inl (by rw [refuseTransition_lc, hkept])
    case h_2 dest hdest =>
      split
      case isTrue => exact .inl (by rw [refuseTransition_lc, hkept])
      case isFalse => exact .inr (by rw [flush_lc, logRaise_lc, ← htarget, hdest]; rfl)

/-- Table 14.11 leads to RETIRED only under R447. -/
theorem receipted_of_transitionTo_retired {c : Chip} {target : BitVec 8} (h : transitionTo c target = some .retired) :
    c.alm.frozen.state = .receipted ∧ c.alm.frozen.severe = false := by
  unfold transitionTo at h
  extract_lets receipted at h
  have hreceipted : receipted = true := by
    split at h
    case h_1 | h_2 | h_4 | h_8 => cases h
    case h_3 => split at h <;> cases h
    case h_5 | h_6 | h_7 =>
      split at h
      case isTrue hmet => exact hmet
      case isFalse => cases h
  simp only [receipted, Bool.and_eq_true, beq_iff_eq, Bool.not_eq_true'] at hreceipted
  exact hreceipted

/-! ### The mark of a record of WARN or above -/

/-- A record is dropped for want of a place, or it marks an export that exists where it is of WARN or above (R389, R447). -/
theorem enterAt_dropped_or_marked (places : Nat) (r : Record) (c : Chip) :
    (enterAt places r c).alm.buffer = c.alm.buffer ∨
      (enterAt places r c).alm.frozen =
        { c.alm.frozen with
          severe := c.alm.frozen.severe || (c.alm.frozen.state != .none && decide (1 ≤ r.severity.val)) } := by
  unfold enterAt
  extract_lets _ _ due
  by_cases hfull : places < c.alm.buffer.length + (if due then 2 else 1)
  · left
    rw [if_pos hfull]
  · right
    rw [if_neg hfull]

/-- A record that finds a place marks the export; its stamp leaves its severity (Table 12.1). -/
theorem accept_frozen {r : Record} {c : Chip} (hplace : (accept r c).alm.buffer ≠ c.alm.buffer) :
    (accept r c).alm.frozen =
      { c.alm.frozen with
        severe := c.alm.frozen.severe || (c.alm.frozen.state != .none && decide (1 ≤ r.severity.val)) } :=
  (enterAt_dropped_or_marked _ (stamp c r) c).resolve_left hplace

/-- Settles O58: a TRANSITION accepts only what Table 14.11 allows, which asks for a receipt and no mark; the mark is clear in a new
export, and every record that finds a place brings it up to date. -/
theorem retirementNeedsReceipt : Obligations.RetirementNeedsReceipt := by
  refine ⟨fun s t tag x hnone hexec hretired => ?_, fun c => ⟨rfl, rfl⟩, fun c r hexport hplace => ?_⟩
  · obtain rfl : { s with chip := if x.fits then lifecycleTransition tag x s.chip else s.chip } = t :=
      Host.Outcome.next.inj hexec
    dsimp only at hretired
    split at hretired
    case isTrue =>
      rcases lifecycleTransition_accepted tag x s.chip with hkept | htarget
      · rw [hkept, hnone] at hretired
        cases hretired
      · exact receipted_of_transitionTo_retired (htarget ▸ hretired)
    case isFalse =>
      rw [hnone] at hretired
      cases hretired
  · rw [accept_frozen hplace]
    exact ⟨rfl, by simp only [bne_iff_ne.mpr hexport, Bool.true_and]⟩

end Sys2Proof.Machine
end

section
/-! What every command keeps: the queue, the test port, the order of the objects in force, and a history of the life-cycle
fuses that Table 14.11 can make. -/

namespace Sys2Proof.Machine

/-! ### The answer of a command -/

/-- Where the command answers a next state, `P` holds of its chip. -/
def Answers (P : Chip → Prop) (o : Host.Outcome State Fault Refusal) : Prop := ∀ t, o = .next t → P t.chip

theorem answers_answer {P : Chip → Prop} {s : State} {c : Chip} (h : P c) : Answers P (answer s c) := by
  rintro t ⟨⟩
  exact h

/-- A command that no port can carry changes nothing (log 148). -/
theorem answers_guarded_kept {ok : Bool} {s : State} {c : Chip} :
    Answers (fun d => ok = false → d = s.chip) (guarded ok s c) :=
  answers_answer fun h => by rw [h]; rfl

theorem answers_guarded {P : Chip → Prop} {ok : Bool} {s : State} {c : Chip} (hkept : P s.chip) (h : P c) :
    Answers P (guarded ok s c) := by
  refine answers_answer ?_
  split <;> assumption

/-- Every command answers a next state, and leaves the queue as it was. -/
theorem exec_next (i : Instr) (s : State) : ∃ c, exec i s = .next { s with chip := c } := by
  cases i <;> exact ⟨_, rfl⟩

theorem exec_kept_of_not_wellFormed (i : Instr) (s : State) :
    Answers (fun c => i.wellFormed = false → c = s.chip) (exec i s) := by
  cases i <;> exact answers_guarded_kept

/-! ### The test port (R455): no reset and no command reaches it -/

theorem wipe_test (hold : Bool) (boot : Boot) (c : Chip) : part .test (wipe hold boot c) = part .test c := rfl

theorem chipReset_test (cause : ResetCause) (hold : Bool) (c : Chip) :
    part .test (chipReset cause hold c) = part .test c := by
  unfold chipReset
  split
  · rfl
  · simp [wipe_test]

theorem serve_test (q : Req) (c : Chip) : part .test (serve q c) = part .test c := by
  unfold serve
  dsimp only
  split <;> simp [chipReset_test]

theorem writeBytes_test (o : Origin) (k : Key) (b : List Byte) (c : Chip) :
    part .test (writeBytes o k b c) = part .test c := by
  unfold writeBytes
  dsimp only
  split
  · split <;> simp [serve_test]
  · simp

theorem readNow_test (o : Origin) (k : Key) (c : Chip) : part .test (readNow o k c) = part .test c := by
  unfold readNow
  dsimp only
  split
  · split <;> simp [serve_test]
  · simp

theorem perhaps_test (q : Req) (c : Chip) : part .test (perhaps q c) = part .test c := by
  unfold perhaps
  dsimp only
  split <;> simp [chipReset_test]

theorem marketCompletion_test (id : Nat) (memoryError : Bool) (c : Chip) :
    part .test (marketCompletion id memoryError c) = part .test c := by
  unfold marketCompletion
  split
  · rfl
  · repeat' split
    all_goals simp [serve_test, perhaps_test]

theorem marketTimeout_test (id : Nat) (c : Chip) : part .test (marketTimeout id c) = part .test c := by
  unfold marketTimeout
  split
  · rfl
  · split <;> simp [perhaps_test]

theorem watchEvaluation_test (c : Chip) : part .test (watchEvaluation c) = part .test c := by
  unfold watchEvaluation
  dsimp only
  split
  · rfl
  · simp [chipReset_test]

theorem thermalShutdown_test (c : Chip) : part .test (thermalShutdown c) = part .test c := by
  unfold thermalShutdown
  dsimp only
  repeat' split
  all_goals simp [watchEvaluation_test]

theorem reeveWatchdogExpiry_test (c : Chip) : part .test (reeveWatchdogExpiry c) = part .test c := by
  unfold reeveWatchdogExpiry
  split <;> simp [chipReset_test]

theorem thermalRestart_test (c : Chip) : part .test (thermalRestart c) = part .test c := by
  unfold thermalRestart
  split <;> simp [chipReset_test]

theorem rstAssert_test (c : Chip) : part .test (rstAssert c) = part .test c := by
  unfold rstAssert
  simp [chipReset_test]

theorem updateRestartReset_test (c : Chip) : part .test (updateRestartReset c) = part .test c := by
  unfold updateRestartReset
  repeat' split
  all_goals simp [chipReset_test]

theorem eraseFor_test (dest : LifeCycle) (c : Chip) : part .test (eraseFor dest c) = part .test c := by
  cases dest <;> simp [eraseFor]

theorem lifecycleEraseComplete_test (c : Chip) : part .test (lifecycleEraseComplete c) = part .test c := by
  unfold lifecycleEraseComplete
  split
  · rfl
  · split
    · rw [chipReset_test, eraseFor_test]; rfl
    · rfl

/-- The commands that are one write or one read of an object (R256). -/
def oneAccess : Instr → Bool
  | .railEnableWrite .. | .railTargetWrite .. | .strRequalify .. | .battHeartbeat .. | .fallowRequest .. | .shipModeArm .. | .shipModeConfirm .. | .ppEnableWrite .. | .seqCommand .. | .traceArm .. | .traceForce .. | .traceIdle .. | .objectWrite .. | .fenceClear .. | .fenceClearOrigin .. | .hamperOpen .. | .hamperStage .. | .hamperCommit .. | .hamperCommitAt .. | .hamperCommitDomain .. | .hamperRollback .. | .hamperJoin .. | .laneEnableWrite .. | .laneTimeSet .. | .laneGwRequest .. | .laneGwResult .. | .srcEnableWrite .. | .srcForce .. | .exportStart .. | .exportAbandon .. | .exportReceipt .. | .twinExercise .. | .chipResetCmd .. | .paramStoreCmd .. => true
  | _ => false

/-- A command that is one write or one read is the market's own write or read. -/
theorem exec_of_oneAccess (P : Chip → Prop) (i : Instr) (s : State) (h : oneAccess i) (hkept : P s.chip)
    (hwrite : ∀ o k b, P (writeBytes o k b s.chip)) (hread : ∀ o k, P (readNow o k s.chip)) : Answers P (exec i s) := by
  cases i
  case hamperOpen | laneGwResult => exact answers_answer (hread _ _)
  case
      traceArm | traceForce | traceIdle | hamperCommit | hamperCommitAt | hamperCommitDomain | hamperRollback | hamperJoin | laneGwRequest | exportReceipt =>
    exact answers_answer (hwrite _ _ _)
  case
      railEnableWrite | railTargetWrite | strRequalify | battHeartbeat | fallowRequest | shipModeArm | shipModeConfirm | ppEnableWrite | seqCommand | objectWrite | fenceClear | fenceClearOrigin | hamperStage | laneEnableWrite | laneTimeSet | srcEnableWrite | srcForce | exportStart | exportAbandon | twinExercise | chipResetCmd | paramStoreCmd =>
    exact answers_guarded hkept (hwrite _ _ _)
  all_goals cases h

/-- No command reaches the test port. -/
theorem exec_test (i : Instr) (s : State) : Answers (fun c => part .test c = part .test s.chip) (exec i s) := by
  by_cases h : oneAccess i
  · exact exec_of_oneAccess _ i s h rfl (fun o k b => writeBytes_test o k b s.chip) (fun o k => readNow_test o k s.chip)
  cases i
  case railEnableWrite | railTargetWrite | strRequalify | battHeartbeat | fallowRequest | shipModeArm | shipModeConfirm | ppEnableWrite | seqCommand | traceArm | traceForce | traceIdle | objectWrite | fenceClear | fenceClearOrigin | hamperOpen | hamperStage | hamperCommit | hamperCommitAt | hamperCommitDomain | hamperRollback | hamperJoin | laneEnableWrite | laneTimeSet | laneGwRequest | laneGwResult | srcEnableWrite | srcForce | exportStart | exportAbandon | exportReceipt | twinExercise | chipResetCmd | paramStoreCmd => exact absurd rfl h
  all_goals apply answers_answer
  case powerOnReset => rfl
  all_goals
    simp [apply_ite (part .test), reeveWatchdogExpiry_test, marketCompletion_test, marketTimeout_test, watchEvaluation_test,
      thermalShutdown_test, thermalRestart_test, rstAssert_test, lifecycleEraseComplete_test, updateRestartReset_test]

/-! ### The list of objects in force -/

/-- The end of an accepted transition leaves it, or drops it with the reset (R448). -/
theorem lifecycleEraseComplete_accepted (c : Chip) :
    Kept (part .lc c).accepted (part .lc (lifecycleEraseComplete c)) := by
  unfold lifecycleEraseComplete
  split
  · exact .inl rfl
  case h_2 dest _ =>
    split
    · exact chipReset_accepted _ _ _ _ (by cases dest <;> exact .inl rfl)
    · exact .inl rfl

theorem lifecycleEraseComplete_sorted (c : Chip) (h : odSorted (part .od c)) : odSorted (part .od (lifecycleEraseComplete c)) := by
  unfold lifecycleEraseComplete
  split
  · exact h
  case h_2 dest _ =>
    split
    · exact chipReset_sorted _ _ _ (by cases dest <;> exact h)
    · exact h

/-- Every command keeps the keys of the objects in force rising. -/
theorem exec_sorted (i : Instr) (s : State) (h : odSorted (part .od s.chip)) :
    Answers (fun c => odSorted (part .od c) = true) (exec i s) := by
  by_cases ha : oneAccess i
  · exact exec_of_oneAccess _ i s ha h (fun o k b => writeBytes_sorted o k b s.chip h) (fun o k => readNow_sorted o k s.chip h)
  cases i
  case railEnableWrite | railTargetWrite | strRequalify | battHeartbeat | fallowRequest | shipModeArm | shipModeConfirm | ppEnableWrite | seqCommand | traceArm | traceForce | traceIdle | objectWrite | fenceClear | fenceClearOrigin | hamperOpen | hamperStage | hamperCommit | hamperCommitAt | hamperCommitDomain | hamperRollback | hamperJoin | laneEnableWrite | laneTimeSet | laneGwRequest | laneGwResult | srcEnableWrite | srcForce | exportStart | exportAbandon | exportReceipt | twinExercise | chipResetCmd | paramStoreCmd => exact absurd rfl ha
  all_goals apply answers_answer
  case lifecycleEraseComplete => exact lifecycleEraseComplete_sorted s.chip h
  case powerOnReset => exact powerOnReset_sorted s.chip
  case domainApplyTime => exact when_sorted _ _ _ (fun c => domainApplyTime_sorted _ c) h
  case bootParameterLoad =>
    split
    · exact bootParameterLoad_sorted _ _ h
    · exact h
  all_goals
    simp [apply_ite (part .od), h, hamletMarkReady_sorted, reeveWatchdogExpiry_sorted, marketCompletion_sorted,
      marketTimeout_sorted, applyTick_sorted, nmtResetCommunication_sorted, nmtResetNode_sorted, watchEvaluation_sorted,
      thermalShutdown_sorted, thermalRestart_sorted, rstAssert_sorted, bootComplete_sorted, updateRestartReset_sorted]

/-! ### The fuses -/

/-- Only the end of an accepted transition and power-on reset can reach a fuse. -/
theorem exec_fuses (i : Instr) (s : State) (herase : i ≠ .lifecycleEraseComplete) (hpower : i ≠ .powerOnReset) :
    Answers (fun c => part .fuses c = part .fuses s.chip) (exec i s) := by
  cases i
  case lifecycleEraseComplete => exact absurd rfl herase
  case powerOnReset => exact absurd rfl hpower
  all_goals apply answers_answer
  all_goals simp [apply_ite (part .fuses)]

/-! ### The transition accepted -/

/-- Every command but TRANSITION leaves the transition accepted, or drops it with a reset. -/
theorem exec_accepted (i : Instr) (s : State) (h : ∀ tag t, i ≠ .lifecycleTransition tag t) :
    Answers (fun c => Kept (part .lc s.chip).accepted (part .lc c)) (exec i s) := by
  have hkept : Kept (part .lc s.chip).accepted (part .lc s.chip) := .inl rfl
  by_cases ha : oneAccess i
  · exact exec_of_oneAccess _ i s ha hkept (fun o k b => writeBytes_accepted _ o k b s.chip hkept)
      (fun o k => readNow_accepted _ o k s.chip hkept)
  cases i
  case railEnableWrite | railTargetWrite | strRequalify | battHeartbeat | fallowRequest | shipModeArm | shipModeConfirm | ppEnableWrite | seqCommand | traceArm | traceForce | traceIdle | objectWrite | fenceClear | fenceClearOrigin | hamperOpen | hamperStage | hamperCommit | hamperCommitAt | hamperCommitDomain | hamperRollback | hamperJoin | laneEnableWrite | laneTimeSet | laneGwRequest | laneGwResult | srcEnableWrite | srcForce | exportStart | exportAbandon | exportReceipt | twinExercise | chipResetCmd | paramStoreCmd => exact absurd rfl ha
  case lifecycleTransition => exact absurd rfl (h _ _)
  all_goals apply answers_answer
  case powerOnReset => exact powerOnReset_accepted _ s.chip
  case lifecycleEraseComplete => exact lifecycleEraseComplete_accepted s.chip
  all_goals
    simp [apply_ite (part .lc), hkept, reeveWatchdogExpiry_accepted, marketCompletion_accepted, marketTimeout_accepted,
      lifecycleNonce_accepted, watchEvaluation_accepted, thermalShutdown_accepted, thermalRestart_accepted,
      rstAssert_accepted, updateRestartReset_accepted]

/-! ### Steps -/

/-- What idling and every command keep, every step keeps. -/
theorem step_answers {P : Chip → Prop} {s t : State} (hidle : P (idle s).chip) (hexec : ∀ i rest, s.pending = i :: rest →
    Answers P (exec i { s with pending := rest })) (h : step s = .next t) : P t.chip := by
  unfold step at h
  split at h
  case h_1 => cases h; exact hidle
  case h_2 i rest hpending => exact hexec i rest hpending t h

/-- Idling changes the clock, the realigning stiles, the Lane and the boot timer only. -/
theorem idle_part (p : Part) (hclock : p ≠ .clock) (hhamlets : p ≠ .hamlets) (hlane : p ≠ .lane) (hboot : p ≠ .boot) (s : State) :
    part p (idle s).chip = part p s.chip := by
  simp [idle, hclock, hhamlets, hlane, hboot]

/-- Settles O51: every command keeps the keys rising, and idling does not touch the list. -/
theorem objectsStayInOrder : Obligations.ObjectsStayInOrder := by
  intro s t hsorted hstep
  refine step_answers (P := fun c => odSorted (part .od c) = true) ?_ (fun i rest _ => exec_sorted i _ hsorted) hstep
  rw [idle_part .od (by decide) (by decide) (by decide) (by decide)]
  exact hsorted

/-- The fuses of `f` come from those of `e` by at most one transition: none is unblown, and what identifies the part stays. -/
def FusesGrow (e f : Fuses) : Prop :=
  (e.p → f.p) ∧ (e.d → f.d) ∧ (e.x → f.x) ∧ e.service ≤ f.service ∧ f.service ≤ e.service + 1 ∧
    f.serial = e.serial ∧ f.grade = e.grade ∧ f.keyHash = e.keyHash

theorem FusesGrow.refl (e : Fuses) : FusesGrow e e := ⟨id, id, id, Nat.le_refl _, Nat.le_succ _, rfl, rfl, rfl⟩

theorem blow_grows (c : Chip) (dest : LifeCycle) : FusesGrow c.fuses (blow c dest) := by
  cases dest
  case deployed => unfold blow; dsimp only; split <;> simp [FusesGrow]
  all_goals simp [blow, FusesGrow]

/-- A loss of power leaves the fuses, or blows those of the transition accepted (R445, R448). -/
theorem cutTransition_fuses (c : Chip) :
    (cutTransition c).1 = c.fuses ∨ ∃ dest, c.lc.accepted = some dest ∧ (cutTransition c).1 = blow c dest := by
  unfold cutTransition
  split
  case h_1 dest h =>
    split
    · exact .inr ⟨dest, h, rfl⟩
    · exact .inl rfl
  case h_2 => exact .inl rfl

/-- The end of an accepted transition leaves the chip, or blows its fuses and drops it with the reset (R448). -/
theorem lifecycleEraseComplete_cases (c : Chip) :
    lifecycleEraseComplete c = c ∨
      ∃ dest, c.lc.accepted = some dest ∧ (lifecycleEraseComplete c).fuses = blow c dest ∧
        (lifecycleEraseComplete c).lc.accepted = none := by
  unfold lifecycleEraseComplete
  split
  case h_1 => exact .inl rfl
  case h_2 dest h =>
    split
    case isFalse => exact .inl rfl
    case isTrue hres =>
      refine .inr ⟨dest, h, ?_, ?_⟩
      · exact (chipReset_part_fuses _ _ _).trans (eraseFor_part .fuses (by decide) (by decide) dest _)
      · have : resettable (eraseFor dest { c with fuses := blow c dest }) = true := by cases dest <;> exact hres
        rw [chipReset, this]
        rfl

/-- The fuses after a step: as they were, or with those of the transition accepted blown by its completion or by the power-on
reset that cuts it off. -/
theorem step_fuses {s t : State} (h : step s = .next t) :
    t.chip.fuses = s.chip.fuses ∨
      ∃ dest, s.chip.lc.accepted = some dest ∧ t.chip.fuses = blow s.chip dest ∧ t.chip.lc.accepted = none ∧
        ∃ rest, s.pending = .lifecycleEraseComplete :: rest ∨ s.pending = .powerOnReset :: rest := by
  refine step_answers (P := fun c => c.fuses = s.chip.fuses ∨
      ∃ dest, s.chip.lc.accepted = some dest ∧ c.fuses = blow s.chip dest ∧ c.lc.accepted = none ∧
        ∃ rest, s.pending = .lifecycleEraseComplete :: rest ∨ s.pending = .powerOnReset :: rest)
    (.inl (idle_part .fuses (by decide) (by decide) (by decide) (by decide) s)) (fun i rest hpending => ?_) h
  by_cases herase : i = .lifecycleEraseComplete
  · subst herase
    refine answers_answer ?_
    rcases lifecycleEraseComplete_cases s.chip with hkept | ⟨dest, hdest, hfuses, hnone⟩
    · exact .inl (congrArg Chip.fuses hkept)
    · exact .inr ⟨dest, hdest, hfuses, hnone, rest, .inl hpending⟩
  by_cases hpower : i = .powerOnReset
  · subst hpower
    refine answers_answer ?_
    rcases cutTransition_fuses s.chip with hkept | ⟨dest, hdest, hfuses⟩
    · exact .inl hkept
    · exact .inr ⟨dest, hdest, hfuses, rfl, rest, .inr hpending⟩
  exact fun t ht => .inl (exec_fuses i { s with pending := rest } herase hpower t ht)

/-- Settles O52: a step leaves the fuses, or blows those of the transition accepted. -/
theorem fusesOnlyGrow : Obligations.FusesOnlyGrow := by
  intro s t hstep
  rcases step_fuses hstep with hkept | ⟨dest, hdest, hfuses, -, rest, hpending⟩
  · exact ⟨fun _ => hkept, hkept ▸ FusesGrow.refl _⟩
  · refine ⟨fun hnot => ?_, hfuses ▸ blow_grows s.chip dest⟩
    rcases hnot with hnone | hother
    · rw [hnone] at hdest; cases hdest
    · exact absurd hpending (not_or.mpr (hother rest))

/-! ### The history of the life-cycle fuses -/

/-- The fuses hold a history that Table 14.11 can make. -/
def fuseHistory (f : Fuses) : Prop := (f.d ∨ f.x → f.p) ∧ (0 < f.service → f.d) ∧ f.service ≤ 64

/-- A transition to `t` can be accepted: Table 14.11 lists it from the present state, and service has a fuse left (R445). -/
def mayAccept (c : Chip) (t : LifeCycle) : Prop := transitionListed (lifeCycle c) t ∧ (t = .service → c.fuses.service < 63)

theorem lifeCycleInv_iff (c : Chip) :
    lifeCycleInv c ↔ fuseHistory c.fuses ∧ ∀ t, c.lc.accepted = some t → mayAccept c t := by
  simp only [lifeCycleInv, fuseHistory, mayAccept, and_assoc]

/-- The life-cycle state depends on the fuses alone (R445). -/
theorem mayAccept_congr {c d : Chip} (h : d.fuses = c.fuses) (t : LifeCycle) (hc : mayAccept c t) : mayAccept d t := by
  unfold mayAccept lifeCycle at *
  rwa [h]

/-- What the fuses hold in each life-cycle state (Table 14.10). -/
theorem lifeCycle_fuses (c : Chip) :
    match lifeCycle c with
    | .blank => c.fuses.p = false ∧ c.fuses.d = false ∧ c.fuses.x = false
    | .provisioned => c.fuses.p = true ∧ c.fuses.d = false ∧ c.fuses.x = false
    | .deployed => c.fuses.d = true ∧ c.fuses.service % 2 = 0 ∧ c.fuses.x = false
    | .service => c.fuses.d = true ∧ c.fuses.service % 2 = 1 ∧ c.fuses.x = false
    | .retired => c.fuses.x = true := by
  unfold lifeCycle
  by_cases hx : c.fuses.x = true
  · rw [if_pos hx]
    exact hx
  · have hx' : c.fuses.x = false := Bool.eq_false_iff.mpr hx
    rw [if_neg hx]
    by_cases hd : c.fuses.d = true
    · rw [if_pos hd]
      by_cases hs : c.fuses.service % 2 = 1
      · rw [if_pos hs]
        exact ⟨hd, hs, hx'⟩
      · rw [if_neg hs]
        exact ⟨hd, by omega, hx'⟩
    · have hd' : c.fuses.d = false := Bool.eq_false_iff.mpr hd
      rw [if_neg hd]
      by_cases hp : c.fuses.p = true
      · rw [if_pos hp]
        exact ⟨hp, hd', hx'⟩
      · rw [if_neg hp]
        exact ⟨Bool.eq_false_iff.mpr hp, hd', hx'⟩

/-- The fuses of a transition that may be accepted, once blown, hold a history again. -/
theorem blow_history {c : Chip} {t : LifeCycle} (hhist : fuseHistory c.fuses) (h : mayAccept c t) : fuseHistory (blow c t) := by
  obtain ⟨hp, hd, hcount⟩ := hhist
  obtain ⟨hlisted, hfuse⟩ := h
  have hstate := lifeCycle_fuses c
  unfold blow fuseHistory
  generalize lifeCycle c = a at *
  cases a <;> cases t <;> simp_all [transitionListed]
  all_goals omega

/-- TRANSITION accepts only what Table 14.11 allows. -/
theorem mayAccept_of_transitionTo {c : Chip} {target : BitVec 8} {t : LifeCycle} (h : transitionTo c target = some t) :
    mayAccept c t := by
  unfold transitionTo at h
  unfold mayAccept
  extract_lets receipted at h
  split at h
  case h_3 hstate _ =>
    rw [hstate]
    split at h
    case isTrue hfuse => cases h; exact ⟨rfl, fun _ => hfuse⟩
    case isFalse => cases h
  case h_5 hstate _ | h_6 hstate _ | h_7 hstate _ =>
    rw [hstate]
    split at h <;> cases h
    exact ⟨rfl, nofun⟩
  case h_1 hstate _ | h_2 hstate _ | h_4 hstate _ =>
    rw [hstate]
    cases h
    exact ⟨rfl, nofun⟩
  case h_8 => cases h

/-- The transition accepted after a step: the one that was, none, or one that a TRANSITION accepts. -/
theorem step_accepted {s t : State} (h : step s = .next t) :
    Kept s.chip.lc.accepted t.chip.lc ∨ ∃ target, t.chip.lc.accepted = transitionTo s.chip target := by
  refine step_answers (P := fun c => Kept s.chip.lc.accepted c.lc ∨ ∃ target, c.lc.accepted = transitionTo s.chip target)
    (.inl (.inl (congrArg LcCommand.accepted (idle_part .lc (by decide) (by decide) (by decide) (by decide) s))))
    (fun i rest _ => ?_) h
  by_cases hlc : ∃ tag x, i = .lifecycleTransition tag x
  · obtain ⟨tag, x, rfl⟩ := hlc
    refine answers_guarded (.inl (.inl rfl)) ?_
    rcases lifecycleTransition_accepted tag x s.chip with hkept | htarget
    · exact .inl (.inl hkept)
    · exact .inr ⟨_, htarget⟩
  · exact fun t ht => .inl (exec_accepted i { s with pending := rest } (fun tag x e => hlc ⟨tag, x, e⟩) t ht)

/-- Settles O53: the fuses change only by a transition that was accepted, and only a listed one is accepted. -/
theorem lifeCycleInvariantKept : Obligations.LifeCycleInvariantKept := by
  intro s t hinv hstep
  obtain ⟨hhist, hlisted⟩ := (lifeCycleInv_iff s.chip).mp hinv
  refine (lifeCycleInv_iff t.chip).mpr ?_
  rcases step_fuses hstep with hfuses | ⟨dest, hdest, hfuses, hnone, -⟩
  · refine ⟨hfuses ▸ hhist, fun dest hdest => mayAccept_congr hfuses dest ?_⟩
    rcases step_accepted hstep with (hkept | hnone) | ⟨target, htarget⟩
    · exact hlisted dest (hkept ▸ hdest)
    · rw [hnone] at hdest; cases hdest
    · exact mayAccept_of_transitionTo (htarget ▸ hdest)
  · refine ⟨hfuses ▸ blow_history hhist (hlisted dest hdest), fun dest h => ?_⟩
    rw [hnone] at h; cases h

/-! ### What every command answers -/

/-- Settles O48: an answer with the same queue, the chip as it was where no port carries the command, and a test port that no
command reaches. -/
theorem everyCommandCompletes : Obligations.EveryCommandCompletes := by
  intro i s
  obtain ⟨c, hc⟩ := exec_next i s
  have htest : c.test = s.chip.test := exec_test i s _ hc
  refine ⟨c, hc, exec_kept_of_not_wellFormed i s _ hc, htest, fun hhighz p => ?_⟩
  have hins : testInstruction c = .highz := by rw [← hhighz]; unfold testInstruction; rw [htest]
  simp only [pinLevel, hins]

/-- Settles O47, by the definition of a step. -/
theorem stepRunsFrontCommand : Obligations.StepRunsFrontCommand := fun _ _ _ => rfl

/-! ### The state at reset -/

/-- Settles O54: nothing but P and D is blown at reset, and no object differs from its default. -/
theorem invariantsAtReset : Obligations.InvariantsAtReset :=
  ⟨(lifeCycleInv_iff _).mpr ⟨⟨fun _ => rfl, fun _ => rfl, Nat.zero_le _⟩, nofun⟩, rfl⟩

/-- Settles O49, field by field of the reset state. -/
theorem stateAtReset : Obligations.StateAtReset := by
  refine ⟨rfl, rfl, rfl, rfl, rfl, rfl, ?_⟩
  simp [State.reset]

/-! ### A setting put in force -/

theorem odFind_odInsert_same (l : List (Key × Val)) (k : Key) (v : Val) : odFind (odInsert l k v) k = some v := by
  induction l with
  | nil => simp [odInsert, odFind]
  | cons e l ih =>
    obtain ⟨q, w⟩ := e
    unfold odInsert
    split
    case isTrue => exact if_pos rfl
    case isFalse =>
      split
      case isTrue => exact if_pos rfl
      case isFalse heq => rw [odFind, if_neg (Ne.symm heq), ih]

theorem odFind_odInsert_other (l : List (Key × Val)) {k q : Key} (v : Val) (h : q ≠ k) :
    odFind (odInsert l k v) q = odFind l q := by
  induction l with
  | nil => simp [odInsert, odFind, h.symm]
  | cons e l ih =>
    obtain ⟨r, w⟩ := e
    unfold odInsert
    split
    case isTrue => exact if_neg h.symm
    case isFalse =>
      split
      case isTrue heq => rw [odFind, odFind, if_neg h.symm, if_neg (heq ▸ h.symm)]
      case isFalse => rw [odFind, odFind, ih]

/-- No entry of a key stands behind a higher one. -/
theorem odFind_eq_none_of_lt {l : List (Key × Val)} {k : Key} (h : ∀ e ∈ l, k < e.1) : odFind l k = none := by
  induction l with
  | nil => rfl
  | cons e l ih =>
    obtain ⟨hlt, hl⟩ := List.forall_mem_cons.mp h
    rw [odFind, if_neg (Nat.ne_of_gt hlt), ih hl]

theorem odFind_odErase_same {l : List (Key × Val)} (h : odSorted l) (k : Key) : odFind (odErase l k) k = none := by
  rw [odSorted_iff] at h
  induction l with
  | nil => rfl
  | cons e l ih =>
    obtain ⟨q, w⟩ := e
    obtain ⟨hlt, hl⟩ := List.pairwise_cons.mp h
    unfold odErase
    split
    case isTrue hq => exact odFind_eq_none_of_lt (hq ▸ hlt)
    case isFalse hq => rw [odFind, if_neg hq, ih hl]

theorem odFind_odErase_other (l : List (Key × Val)) {k q : Key} (h : q ≠ k) : odFind (odErase l k) q = odFind l q := by
  induction l with
  | nil => rfl
  | cons e l ih =>
    obtain ⟨r, w⟩ := e
    unfold odErase
    split
    case isTrue heq => rw [odFind, if_neg (heq ▸ h.symm)]
    case isFalse => rw [odFind, odFind, ih]

/-- Settles O50: the value is listed, or it is the default and the sorted list no longer names the object. -/
theorem settingReadsBack : Obligations.SettingReadsBack := by
  intro c k v hsorted
  have hdefault (q : Key) : defaultOf (put k v c) q = defaultOf c q := rfl
  by_cases hv : v = defaultOf c k
  · have hod : (put k v c).od = odErase c.od k := if_pos hv
    unfold cfg
    simp only [hod, hdefault, odFind_odErase_same hsorted]
    exact ⟨hv.symm, fun q hq => by rw [odFind_odErase_other _ hq]⟩
  · have hod : (put k v c).od = odInsert c.od k v := if_neg hv
    unfold cfg
    simp only [hod, hdefault, odFind_odInsert_same]
    exact ⟨rfl, fun q hq => by rw [odFind_odInsert_other _ _ hq]⟩

end Sys2Proof.Machine
end

section
/-! How a command that completes is shown to complete, and what the shared operations leave of what they read. -/

namespace Sys2Proof.Machine

/-- A command that answers `c`, within the named parts. -/
theorem gives_of_answer {i : Instr} {s : State} {l : List Part} {P : Chip → Prop} (c : Chip) (hexec : exec i s = answer s c)
    (honly : Only l s.chip c) (h : P c) : Gives i s l P := ⟨c, hexec, honly, h⟩

/-- A guarded command whose operands a port can carry. -/
theorem gives_of_guarded {i : Instr} {s : State} {l : List Part} {P : Chip → Prop} {ok : Bool} (c : Chip) (hok : ok = true)
    (hexec : exec i s = guarded ok s c) (honly : Only l s.chip c) (h : P c) : Gives i s l P :=
  ⟨c, by rw [hexec, guarded, if_pos hok]; rfl, honly, h⟩

/-- A command whose effect is made where a condition holds, and it does. -/
theorem gives_of_when {i : Instr} {s : State} {l : List Part} {P : Chip → Prop} {b : Bool} {f : Chip → Chip} (hb : b = true)
    (hexec : exec i s = answer s (when b f s.chip)) (honly : Only l s.chip (f s.chip)) (h : P (f s.chip)) : Gives i s l P :=
  ⟨f s.chip, by rw [hexec, when, if_pos hb]; rfl, honly, h⟩

/-- A command that leaves the chip as it is. -/
theorem gives_of_kept {i : Instr} {s : State} {l : List Part} {P : Chip → Prop} (hexec : exec i s = answer s s.chip)
    (h : P s.chip) : Gives i s l P := ⟨s.chip, hexec, fun _ _ => rfl, h⟩

/-- A record enters alike where the Almanac and the header fields that it takes from the chip are alike. -/
theorem enterAt_alm_congr {c d : Chip} (places : Nat) (r : Record) (halm : d.alm = c.alm) (hstamp : stamp d = stamp c) :
    (enterAt places r d).alm = (enterAt places r c).alm := by
  unfold enterAt
  simp only [halm, hstamp, apply_ite Chip.alm]

theorem log_alm_congr {c d : Chip} (code src : Nat) (severity : Fin 4) (value : Int) (entries : List Nat)
    (halm : d.alm = c.alm) (hstamp : stamp d = stamp c) :
    (log code src severity value entries d).alm = (log code src severity value entries c).alm := by
  unfold log accept enter
  rw [hstamp]
  exact enterAt_alm_congr _ _ halm hstamp

/-- An event joins those that arrived where the Watch is alike. -/
theorem raise_watch_congr {c d : Chip} (src code : Nat) (value : Int) (h : d.watch = c.watch) :
    (raise src code value d).watch = (raise src code value c).watch := by
  unfold raise
  rw [h]
  split
  · exact h
  · rfl

/-! ### Parameter stores -/

/-- The region that a store filled, with its marker (R442). -/
def markedRegion (r : ParamRegion) : ParamRegion := { r with marker := paramMarker r.header r.body }

/-- The chip once the marker of a running store is programmed, but for the record of it (R442). -/
def storeMarked (c : Chip) : Chip :=
  setBoot (fun b => { b with store := .done })
    (setNor (fun n => { n with params := n.params.set (storeSlot c) (markedRegion c.nor.params[storeSlot c]) }) c)

theorem paramStoreDone_of_running {c : Chip} (h : c.boot.store = .running) :
    paramStoreDone c = log 0x64 242 0 (c.nor.params[storeSlot c].generation : Int) [] (storeMarked c) := by
  unfold paramStoreDone
  rw [h]
  rfl

theorem paramStoreFail_of_low {c : Chip} (h : c.boot.store = .running) (hlow : supplyLow c) : paramStoreFail c = storeFails c := by
  unfold paramStoreFail
  rw [h, hlow]
  rfl

/-- Settles O46, by the two ends of a running store. -/
theorem paramStoreCommands : Obligations.ParamStoreCommands := by
  refine ⟨?_, ?_, ?_, ?_⟩
  · rintro s r hlive hrun rfl
    refine gives_of_when hlive rfl (fun p hp => ?_) ?_
    · simp only [List.mem_cons, List.not_mem_nil, or_false, not_or] at hp
      simp [hp]
    · rw [paramStoreDone_of_running hrun]
      exact ⟨by simp [storeMarked], by simp [storeMarked, markedRegion], log_alm_congr _ _ _ _ _ rfl rfl⟩
  · intro s _ hrun hlow
    refine gives_of_answer _ (congrArg (answer s) (paramStoreFail_of_low hrun hlow)) (fun p hp => ?_) ?_
    · simp only [List.mem_cons, List.not_mem_nil, or_false, not_or] at hp
      simp [hp]
    · exact ⟨by simp [storeFails], raise_watch_congr _ _ _ rfl⟩
  · intro s hrun
    refine gives_of_kept (congrArg (answer s) ?_) rfl
    unfold when paramStoreDone
    simp [hrun]
  · intro s hkept
    refine gives_of_kept (congrArg (answer s) ?_) rfl
    unfold paramStoreFail
    rcases hkept with h | h <;> simp [h]

end Sys2Proof.Machine
end

section
/-! The events that have arrived at the Watch stay there until it takes them (R353): changes that only add to them. -/

namespace Sys2Proof.Machine

theorem prefix_of_same {α : Type} {l k : List α} (h : k = l) : l <+: k := by
  subst h
  exact List.prefix_refl k

/-- The events that had arrived in `c` have arrived in `d`, before any others. -/
def KeepsEvents (c d : Chip) : Prop := c.watch.arrived <+: d.watch.arrived

namespace KeepsEvents

theorem refl (c : Chip) : KeepsEvents c c := List.prefix_refl _

theorem trans {c d e : Chip} (hcd : KeepsEvents c d) (hde : KeepsEvents d e) : KeepsEvents c e := List.IsPrefix.trans hcd hde

theorem of_watch {c d : Chip} (h : part .watch d = part .watch c) : KeepsEvents c d :=
  prefix_of_same (by rw [show d.watch = c.watch from h])

theorem raise (src code : Nat) (value : Int) (c : Chip) : KeepsEvents c (raise src code value c) := by
  unfold KeepsEvents Machine.raise
  split
  · exact List.prefix_refl _
  · exact List.prefix_append _ _

theorem each {α : Type} {f : α → Chip → Chip} (hf : ∀ a c, KeepsEvents c (f a c)) (l : List α) (c : Chip) :
    KeepsEvents c (each l f c) := by
  unfold Machine.each
  induction l generalizing c with
  | nil => exact refl c
  | cons a l ih => exact (hf a c).trans (ih _)

theorem when {f : Chip → Chip} (hf : ∀ c, KeepsEvents c (f c)) (b : Bool) (c : Chip) : KeepsEvents c (when b f c) := by
  unfold Machine.when
  split
  · exact hf c
  · exact refl c

theorem setRail (r : Fin 16) (f : Rail → Rail) (c : Chip) : KeepsEvents c (setRail r f c) := of_watch rfl

theorem setPhase (p : Fin 32) (f : Phase → Phase) (c : Chip) : KeepsEvents c (setPhase p f c) := of_watch rfl

theorem vcAbort (r : Fin 16) (c : Chip) : KeepsEvents c (vcAbort r c) := by
  unfold Machine.vcAbort
  split
  · exact refl c
  · split
    · exact refl c
    · exact (of_watch (by simp)).trans (raise _ _ _ _)

theorem railGo (r : Fin 16) (st : RailState) (c : Chip) : KeepsEvents c (railGo r st c) :=
  (when (vcAbort r) _ c).trans (setRail r _ _)

theorem feedbackLost (r : Fin 16) (c : Chip) : KeepsEvents c (feedbackLost r c) := by
  unfold Machine.feedbackLost
  split
  · exact (each (fun p => setPhase p _) _ c).trans ((railGo r _ _).trans ((setRail r _ _).trans (raise _ _ _ _)))
  · exact refl c

theorem railsLoseMill (m : Fin 16) (c : Chip) : KeepsEvents c (railsLoseMill m c) := when (fun d => each feedbackLost _ d) _ c

end KeepsEvents

end Sys2Proof.Machine
end

section
/-! What settings read through a change, and what the green moves (R15, R25): the bits of the hamlets stay, queues towards them
grow, and requests that arrive at an open hamlet are taken. -/

namespace Sys2Proof.Machine

/-! ### Settings -/

/-- Objects read alike where the list in force, the fuses and the node-ID are alike. -/
theorem cfg_congr {c d : Chip} (hod : part .od d = part .od c) (hfuses : part .fuses d = part .fuses c)
    (hcan : part .can d = part .can c) (k : Key) : cfg d k = cfg c k := by
  unfold cfg defaultOf
  rw [show d.od = c.od from hod, show d.fuses = c.fuses from hfuses, show d.can = c.can from hcan]

theorem num_congr {c d : Chip} (hod : part .od d = part .od c) (hfuses : part .fuses d = part .fuses c)
    (hcan : part .can d = part .can c) (k : Key) : num d k = num c k := by
  unfold num
  rw [cfg_congr hod hfuses hcan]

theorem nat_congr {c d : Chip} (hod : part .od d = part .od c) (hfuses : part .fuses d = part .fuses c)
    (hcan : part .can d = part .can c) (k : Key) : nat d k = nat c k := by
  unfold nat
  rw [num_congr hod hfuses hcan]

theorem flag_congr {c d : Chip} (hod : part .od d = part .od c) (hfuses : part .fuses d = part .fuses c)
    (hcan : part .can d = part .can c) (k : Key) : flag d k = flag c k := by
  unfold flag
  rw [num_congr hod hfuses hcan]

/-! ### The green -/

theorem setHamlet_hamlets_ne {i j : Fin 27} (h : i ≠ j) (f : Hamlet → Hamlet) (c : Chip) :
    (setHamlet i f c).hamlets[j] = c.hamlets[j] := by
  rw [setHamlet_hamlets, if_neg h]

/-- A change of one hamlet that leaves its bits leaves those of every hamlet. -/
theorem setHamlet_bits {f : Hamlet → Hamlet} (hf : ∀ x, (f x).bits = x.bits) (i h : Fin 27) (c : Chip) :
    (setHamlet i f c).hamlets[h].bits = c.hamlets[h].bits := by
  by_cases hi : i = h
  · subst hi
    rw [setHamlet_self, hf]
  · rw [setHamlet_hamlets_ne hi]

/-- Taking requests one list after another takes them all. -/
theorem takeRequests_append (l k : List Nat) (c : Chip) :
    (takeRequests k (takeRequests l c)).market = (takeRequests (l ++ k) c).market := by
  simp only [takeRequests, setMarket, List.map_map, Market.mk.injEq, and_true]
  refine List.map_congr_left fun r _ => ?_
  simp only [Function.comp, List.contains_eq_mem, List.mem_append]
  by_cases hl : r.id ∈ l <;> by_cases hk : r.id ∈ k <;> simp [hl, hk]

theorem takeRequests_nil (c : Chip) : (takeRequests [] c).market = c.market := by
  simp [takeRequests, setMarket]

/-- What the green does to a chip: hamlets keep their bits, their queues towards them grow, and some requests are taken. -/
structure GreenMoves (c d : Chip) : Prop where
  bits : ∀ h : Fin 27, d.hamlets[h].bits = c.hamlets[h].bits
  inbox : ∀ h : Fin 27, c.hamlets[h].inbox <+: d.hamlets[h].inbox
  market : ∃ ids, d.market = (takeRequests ids c).market

namespace GreenMoves

theorem refl (c : Chip) : GreenMoves c c := ⟨fun _ => rfl, fun _ => List.prefix_refl _, [], (takeRequests_nil c).symm⟩

theorem of_same {c d : Chip} (hhamlets : d.hamlets = c.hamlets) (hmarket : d.market = c.market) : GreenMoves c d :=
  ⟨fun _ => by rw [hhamlets], fun _ => prefix_of_same (by rw [hhamlets]), [], hmarket.trans (takeRequests_nil c).symm⟩

theorem trans {c d e : Chip} (hcd : GreenMoves c d) (hde : GreenMoves d e) : GreenMoves c e := by
  refine ⟨fun h => (hde.bits h).trans (hcd.bits h), fun h => (hcd.inbox h).trans (hde.inbox h), ?_⟩
  obtain ⟨l, hl⟩ := hcd.market
  obtain ⟨k, hk⟩ := hde.market
  refine ⟨l ++ k, ?_⟩
  rw [hk, ← takeRequests_append]
  unfold takeRequests setMarket at *
  dsimp only at *
  rw [hl]

theorem of_setHamlet {f : Hamlet → Hamlet} (hbits : ∀ x, (f x).bits = x.bits) (hinbox : ∀ x, x.inbox <+: (f x).inbox) (i : Fin 27)
    (c : Chip) : GreenMoves c (setHamlet i f c) := by
  refine ⟨fun h => setHamlet_bits hbits i h c, fun h => ?_, [], (takeRequests_nil c).symm⟩
  by_cases hi : i = h
  · subst hi
    rw [setHamlet_self]
    exact hinbox _
  · exact prefix_of_same (by rw [setHamlet_hamlets_ne hi])

theorem arrive (d : Fin 27) (p : Packet) (c : Chip) : GreenMoves c (arrive d p c) := by
  unfold Machine.arrive
  split
  · exact ⟨fun _ => rfl, fun _ => List.prefix_refl _, [_], rfl⟩
  · exact of_setHamlet (f := fun x => { x with inbox := x.inbox ++ [_] }) (fun _ => rfl) (fun _ => List.prefix_append _ _) d c

theorem greenMove (h : Fin 27) (c : Chip) : GreenMoves c (greenMove h c) := by
  unfold Machine.greenMove
  split
  case h_1 rest _ =>
    dsimp only
    refine GreenMoves.trans ?_ (arrive _ _ _)
    refine GreenMoves.trans (of_same (d := setGreen (fun g => { g with turn := if h = 0 then g.turn else h + 1 }) c) rfl rfl) ?_
    exact of_setHamlet (f := fun x => fillStile { x with outbox := rest }) (fun _ => rfl)
      (fun _ => List.prefix_refl _) h _
  case h_2 => exact refl c

theorem greenServe (n : Nat) (c : Chip) : GreenMoves c (greenServe n c) := by
  induction n generalizing c with
  | zero => exact refl c
  | succ n ih =>
    unfold Machine.greenServe
    split
    case h_1 h _ => exact (greenMove h c).trans (ih _)
    case h_2 => exact refl c

/-- A request after the green has moved is one before, taken or as it was. -/
theorem req_mem {c d : Chip} (h : GreenMoves c d) {q : Req} (hq : q ∈ d.market.reqs) :
    ∃ p ∈ c.market.reqs, q.id = p.id ∧ (p.taken = true → q.taken = true) := by
  obtain ⟨ids, hids⟩ := h.market
  rw [hids] at hq
  simp only [takeRequests, setMarket, List.mem_map] at hq
  obtain ⟨p, hp, rfl⟩ := hq
  refine ⟨p, hp, ?_⟩
  split <;> simp

end GreenMoves

/-- A hamlet without the requests in its queue. -/
def signalsOnly (x : Hamlet) : Hamlet := { x with inbox := x.inbox.filter isSignal }

/-- The requests in a queue. -/
def requestsIn (l : List Packet) : List Nat :=
  l.filterMap fun p => match p with
    | .request id => some id
    | .signal _ => none

theorem mem_requestsIn {l : List Packet} {id : Nat} (h : .request id ∈ l) : id ∈ requestsIn l :=
  List.mem_filterMap.mpr ⟨_, h, rfl⟩

/-- The hamlet takes the requests in its queue, and the green moves. -/
theorem deliverPackets_eq (h : Fin 27) (c : Chip) : deliverPackets h c =
    greenServe (greenLoad (setHamlet h signalsOnly c)) (takeRequests (requestsIn c.hamlets[h].inbox) (setHamlet h signalsOnly c)) := by
  have hsignal : (fun p : Packet => match p with
      | .request _ => false
      | .signal _ => true) = isSignal := by funext p; cases p <;> rfl
  unfold deliverPackets signalsOnly requestsIn
  rw [← hsignal] <;> rfl

/-- The requests that are delivered leave every hamlet's bits. -/
theorem deliverPackets_bits (h i : Fin 27) (c : Chip) : (deliverPackets h c).hamlets[i].bits = c.hamlets[i].bits := by
  rw [deliverPackets_eq]
  exact ((GreenMoves.greenServe _ _).bits i).trans (setHamlet_bits (f := signalsOnly) (fun _ => rfl) h i c)

/-- The signals that wait at the hamlet wait on. -/
theorem deliverPackets_inbox (h : Fin 27) (c : Chip) : c.hamlets[h].inbox.filter isSignal <+: (deliverPackets h c).hamlets[h].inbox := by
  rw [deliverPackets_eq]
  have hself : (setHamlet h signalsOnly c).hamlets[h].inbox = c.hamlets[h].inbox.filter isSignal :=
    congrArg Hamlet.inbox (setHamlet_self c h signalsOnly)
  rw [← hself]
  exact (GreenMoves.greenServe _ (takeRequests _ (setHamlet h signalsOnly c))).inbox h

/-- Every request that waited at the hamlet is taken. -/
theorem deliverPackets_taken {h : Fin 27} {c : Chip} {q : Req} (hq : q ∈ (deliverPackets h c).market.reqs)
    (hwaited : .request q.id ∈ c.hamlets[h].inbox) : q.taken = true := by
  rw [deliverPackets_eq] at hq
  obtain ⟨p, hp, hid, htaken⟩ := (GreenMoves.greenServe _ _).req_mem hq
  simp only [takeRequests, setMarket, List.mem_map] at hp
  obtain ⟨r, -, rfl⟩ := hp
  have hrid : q.id = r.id := by rw [hid]; split <;> rfl
  refine htaken ?_
  rw [if_pos]
  rw [List.contains_eq_mem, decide_eq_true_eq, ← hrid]
  exact mem_requestsIn hwaited

/-- A hamlet marked ready is open, and its stile has realigned (R17). -/
theorem openHamlet_opens (h : Fin 27) (c : Chip) :
    (openHamlet h c).hamlets[h].closed = false ∧ (openHamlet h c).hamlets[h].realign = false := by
  have hbits : (openHamlet h c).hamlets[h].bits = { c.hamlets[h] with closed := false, realign := false }.bits := by
    unfold openHamlet
    dsimp only
    unfold when
    split
    · rw [deliverPackets_bits, setHamlet_self]
    · rw [setHamlet_self]
  exact ⟨congrArg Hamlet.closed hbits, congrArg Hamlet.realign hbits⟩

end Sys2Proof.Machine
end

section
/-! The instructions of a mill that only the mill shows (Tables 7.2, 7.3): the arithmetic, the words, the flow and the
accumulator. -/

namespace Sys2Proof.Machine

/-! ### Saturation (R216) and shifts -/

/-- A number survives the passage through `n + 1` bits exactly where it lies in their range. -/
theorem toInt_ofInt_clamp (n : Nat) (v : Int) :
    (BitVec.ofInt (n + 1) (max (-2 ^ n) (min (2 ^ n - 1) v))).toInt = max (-2 ^ n) (min (2 ^ n - 1) v) := by
  have hpos : (0 : Int) < 2 ^ n := Int.pow_pos (by decide)
  rw [BitVec.toInt_ofInt_eq_self (by omega)] <;> simp only [Nat.add_sub_cancel] <;> omega

theorem toInt_satWord (v : Int) : (satWord v).toInt = max (-2147483648) (min 2147483647 v) := by
  have h := toInt_ofInt_clamp 31 v
  simpa [satWord, clampInt] using h

theorem toInt_ofInt_acc (v : Int) :
    (BitVec.ofInt 64 (max (-9223372036854775808) (min 9223372036854775807 v))).toInt =
      max (-9223372036854775808) (min 9223372036854775807 v) := by
  have h := toInt_ofInt_clamp 63 v
  simpa using h

theorem clamp_ne_iff (lo hi v : Int) (h : lo ≤ hi) : (max lo (min hi v) != v) = (decide (v < lo) || decide (hi < v)) := by
  rw [Bool.eq_iff_iff]
  simp only [bne_iff_ne, Bool.or_eq_true, decide_eq_true_eq]
  omega

theorem satWord_saturates (v : Int) : ((satWord v).toInt != v) = (decide (v < -2147483648) || decide (2147483647 < v)) := by
  rw [toInt_satWord]
  exact clamp_ne_iff _ _ v (by decide)

theorem setSat_pc (d : Fin 128) (v : Int) (x : Mill) : { setSat d v x with pc := x.pc + 1 } = wroteSat x d v := by
  simp only [setSat, wroteSat, wroteWord, satWord_saturates, Bool.or_assoc]
  rfl

theorem setAcc_pc (v : Int) (x : Mill) : { setAcc v x with pc := x.pc + 1 } = wroteAcc x v := by
  simp only [setAcc, wroteAcc, clampInt, toInt_ofInt_acc, Bool.or_assoc,
    clamp_ne_iff (-9223372036854775808) 9223372036854775807 v (by decide)]

theorem zero_le_rat_div {a b : Rat} (ha : 0 ≤ a) (hb : 0 < b) : 0 ≤ a / b := by
  refine Rat.not_lt.mp fun h => ?_
  rw [Rat.div_lt_iff hb, Rat.zero_mul] at h
  exact Rat.not_lt.mpr ha h

theorem rat_div_neg {a b : Rat} (ha : a < 0) (hb : 0 < b) : a / b < 0 := by
  rw [Rat.div_lt_iff hb, Rat.zero_mul]
  exact ha

theorem floor_intCast_div_pow (v : Int) (n : Nat) : ((v : Rat) / 2 ^ n).floor = v / 2 ^ n := by
  have hle (x : Int) : x ≤ ((v : Rat) / 2 ^ n).floor ↔ x ≤ v / 2 ^ n := by
    rw [Rat.le_floor_iff, Int.le_ediv_iff_mul_le (Int.pow_pos (by decide)), ← Rat.not_lt,
      Rat.div_lt_iff (Rat.pow_pos (by decide)), Rat.not_lt, ← Rat.intCast_le_intCast, Rat.intCast_mul, Rat.intCast_pow]
    rfl
  exact Int.le_antisymm ((hle _).mp (Int.le_refl _)) ((hle _).mpr (Int.le_refl _))

/-- A shift is the product with a power of 2, rounded towards minus infinity. -/
theorem shiftInt_eq_floor (v k : Int) : shiftInt v k = ((v : Rat) * (2 : Rat) ^ k).floor := by
  unfold shiftInt
  split
  case isTrue h =>
    obtain ⟨n, rfl⟩ := Int.eq_ofNat_of_zero_le h
    rw [Rat.zpow_natCast, show (v : Rat) * 2 ^ n = ((v * 2 ^ n : Int) : Rat) by push_cast; rfl, Rat.floor_intCast]
    rfl
  case isFalse h =>
    obtain ⟨n, rfl⟩ : ∃ n : Nat, k = -(n : Int) := ⟨(-k).toNat, by omega⟩
    rw [Rat.zpow_neg, Rat.zpow_natCast, ← Rat.div_def, Int.neg_neg, Int.toNat_natCast, floor_intCast_div_pow]

/-- MULS shifts the product to the right. -/
theorem shiftInt_neg (v : Int) (n : Nat) : shiftInt v (-(n : Int)) = v / 2 ^ n := by
  unfold shiftInt
  split
  case isTrue h =>
    obtain rfl : n = 0 := by omega
    simp
  case isFalse => rw [Int.neg_neg, Int.toNat_natCast]

/-! ### An instruction at the PC -/

/-- An instruction at the PC, with no word that it touches pending, changes its mill, and the PC moves on. -/
theorem millStep_of_millAt {m : Fin 16} {w : BitVec 48} {touched : List (Fin 128)} {f : Mill → Mill} {c : Chip}
    (hat : millAt c m w) (hfree : touched.all fun d => !isPending c.mills[m] d) :
    millStep m w touched f c = setMill m (fun x => { f x with pc := x.pc + 1 }) c := by
  unfold millStep
  rw [hat, hfree]
  rfl

theorem gives_millStep {i : Instr} {s : State} {m : Fin 16} {w : BitVec 48} {touched : List (Fin 128)} {f : Mill → Mill}
    {x : Mill} (hat : millAt s.chip m w) (hfree : touched.all fun d => !isPending s.chip.mills[m] d)
    (hexec : exec i s = answer s (millStep m w touched f s.chip))
    (hx : { f s.chip.mills[m] with pc := s.chip.mills[m].pc + 1 } = x) :
    Gives i s [.mills] fun c => c.mills = s.chip.mills.set m x := by
  refine gives_of_answer _ hexec (by simp +contextual [Only]) ?_
  rw [millStep_of_millAt hat hfree, ← hx]
  rfl

/-! ### DIV -/

theorem divByZero_intCast (v : Int) :
    divByZero (v : Rat) = if v = 0 then 0 else if 0 < v then 0x7FFFFFFF else 0x80000000 := by
  unfold divByZero
  simp only [Rat.intCast_pos, Rat.intCast_neg_iff]
  obtain h | rfl | h := Int.lt_trichotomy v 0
  · rw [if_neg (by omega), if_pos h, if_neg (by omega), if_neg (by omega)]
  · rfl
  · rw [if_pos h, if_neg (by omega), if_pos h]

/-- DIV by 0 (Table 7.2). -/
theorem insDiv_zero_pc {d a b : Fin 128} {x : Mill} (h : x.words[b].toInt = 0) (k : BitVec 6) :
    ({ (if stateInt x b = 0 then { setWord d (divByZero (stateInt x a : Rat)) x with v := true }
        else setSat d ((stateInt x a * 2 ^ k.toNat).tdiv (stateInt x b)) x) with pc := x.pc + 1 } : Mill) =
      { wroteWord x d (if x.words[a].toInt = 0 then 0 else if 0 < x.words[a].toInt then 0x7FFFFFFF else 0x80000000) with
        v := true } := by
  have hb : stateInt x b = 0 := h
  simp only [hb, if_true, divByZero_intCast]
  rfl

theorem insDiv_pc {d a b : Fin 128} {x : Mill} (h : x.words[b].toInt ≠ 0) (k : BitVec 6) :
    ({ (if stateInt x b = 0 then { setWord d (divByZero (stateInt x a : Rat)) x with v := true }
        else setSat d ((stateInt x a * 2 ^ k.toNat).tdiv (stateInt x b)) x) with pc := x.pc + 1 } : Mill) =
      wroteSat x d ((x.words[a].toInt * 2 ^ k.toNat).tdiv x.words[b].toInt) := by
  have hb : stateInt x b ≠ 0 := h
  simp only [hb, if_false]
  exact setSat_pc _ _ _

theorem divOrStop_of_le {k : BitVec 6} (h : k.toNat ≤ 62) (m : Fin 16) (d a b : Fin 128) (c : Chip) :
    divOrStop m d a b k c = insDiv m d a b k c := if_pos h

/-- The number that a word of format R is. -/
theorem toNat_fmtR {op mm cc d a b x : Nat} (hop : op < 64) (hm : mm < 4) (hc : cc < 256) (hd : d < 128) (ha : a < 128)
    (hb : b < 128) (hx : x < 2048) :
    (fmtR op mm cc d a b x).toNat = op * 2 ^ 42 + mm * 2 ^ 40 + cc * 2 ^ 32 + d * 2 ^ 25 + a * 2 ^ 18 + b * 2 ^ 11 + x := by
  rw [fmtR, BitVec.toNat_ofNat, Nat.mod_eq_of_lt]
  omega

/-- The operation field of a word of format R. -/
theorem field_op_fmtR {op mm cc d a b x : Nat} (hop : op < 64) (hm : mm < 4) (hc : cc < 256) (hd : d < 128) (ha : a < 128)
    (hb : b < 128) (hx : x < 2048) : field (fmtR op mm cc d a b x).toNat 42 6 = op := by
  rw [toNat_fmtR hop hm hc hd ha hb hx, field]
  omega

/-- The last field of a word of format R. -/
theorem field_x_fmtR {op mm cc d a b x : Nat} (hop : op < 64) (hm : mm < 4) (hc : cc < 256) (hd : d < 128) (ha : a < 128)
    (hb : b < 128) (hx : x < 2048) : field (fmtR op mm cc d a b x).toNat 0 11 = x := by
  rw [toNat_fmtR hop hm hc hd ha hb hx, field]
  omega

/-- A DIV with K 63 is no instruction of Table 7.2. -/
theorem not_legalWord_div63 (d a b : Fin 128) : legalWord (fmtR 0x14 0 0 d a b 63) = false := by
  have hop := field_op_fmtR (op := 0x14) (mm := 0) (cc := 0) (x := 63) (by decide) (by decide) (by decide) d.isLt a.isLt b.isLt (by decide)
  have hx := field_x_fmtR (op := 0x14) (mm := 0) (cc := 0) (x := 63) (by decide) (by decide) (by decide) d.isLt a.isLt b.isLt (by decide)
  unfold legalWord
  simp only [hop, hx]
  simp [insFields]

/-- An illegal instruction at the PC stops the mill (R220). -/
theorem illegalInstruction_of_millAt {m : Fin 16} {w : BitVec 48} {c : Chip} (hat : millAt c m w) (hbad : legalWord w = false) :
    illegalInstruction m c =
      millStops m (fun x => { x with stat := { x.stat with illegal := true, stopPc := BitVec.ofNat 16 x.pc } }) c := by
  unfold millAt millNext at hat
  dsimp only at hat
  split at hat
  case isFalse => simp at hat
  case isTrue hrun =>
    have hword : c.mills[m].program[c.mills[m].pc]? = some w := by simpa using hat
    unfold illegalInstruction
    dsimp only
    rw [hrun, hword]
    simp [hbad]

/-- A unit without a twin gives up nothing (Table 13.3). -/
theorem giveUp_of_single {c : Chip} (h : c.twin.state = .single) (cause : Nat) : giveUp cause c = c := by
  unfold giveUp
  rw [h]
  rfl

/-- The event of a mill that stops stays with those that arrived, where no shelf is given up. -/
theorem millStops_keepsEvents {m : Fin 16} (f : Mill → Mill) {c : Chip} (h : c.twin.state = .single) :
    KeepsEvents (raise (156 + m) 1 0 c) (millStops m f c) := by
  have hgive (d : Chip) (hd : d.twin.state = .single) : millGivesUp m d = d := by
    unfold millGivesUp when
    rw [giveUp_of_single hd]
    split <;> rfl
  unfold millStops millFails
  rw [hgive _ (by simp [h])]
  refine KeepsEvents.trans (KeepsEvents.of_watch ?_) (KeepsEvents.railsLoseMill m _)
  exact raise_watch_congr _ _ _ rfl

/-- Settles O20: each instruction is one step of its mill with a saturated result; a DIV with K 63 is illegal. -/
theorem millArithmeticInstructions : Obligations.MillArithmeticInstructions := by
  refine ⟨?_, ?_, ?_, ?_, ?_, ?_, ?_, ?_, ?_, ?_, ?_, ?_⟩
  case refine_1 => exact fun s m d a b hat hfree => gives_millStep hat hfree rfl (setSat_pc d _ _)
  case refine_2 => exact fun s m d a b hat hfree => gives_millStep hat hfree rfl (setSat_pc d _ _)
  case refine_3 => exact fun s m d a b hat hfree => gives_millStep hat hfree rfl (setSat_pc d _ _)
  case refine_4 => exact fun s m d a b hat hfree => gives_millStep hat hfree rfl (setSat_pc d _ _)
  case refine_5 => exact fun s m d a b hat hfree => gives_millStep hat hfree rfl (setSat_pc d _ _)
  case refine_6 => exact fun s m d a hat hfree => gives_millStep hat hfree rfl (setSat_pc d _ _)
  case refine_7 => exact fun s m d a hat hfree => gives_millStep hat hfree rfl (setSat_pc d _ _)
  case refine_8 =>
    exact fun s m d a f hat hfree => gives_millStep hat hfree rfl
      ((setSat_pc d _ _).trans (congrArg (wroteSat _ d) (shiftInt_eq_floor _ _)))
  case refine_9 =>
    exact fun s m d a b k hat hfree => gives_millStep hat hfree rfl
      ((setSat_pc d _ _).trans (congrArg (wroteSat _ d) (shiftInt_neg _ _)))
  case refine_10 =>
    exact fun s m d a b k hat hfree hk hb => gives_millStep hat hfree
      (congrArg (answer s) (divOrStop_of_le hk m d a b s.chip)) (insDiv_pc hb k)
  case refine_11 =>
    exact fun s m d a b k hat hfree hk hb => gives_millStep hat hfree
      (congrArg (answer s) (divOrStop_of_le hk m d a b s.chip)) (insDiv_zero_pc hb k)
  case refine_12 =>
    intro s m d a b hat hsingle
    have hstop : divOrStop m d a b 63 s.chip =
        millStops m (fun x => { x with stat := { x.stat with illegal := true, stopPc := BitVec.ofNat 16 x.pc } }) s.chip := by
      rw [← illegalInstruction_of_millAt hat (not_legalWord_div63 d a b), divOrStop, if_neg (by decide), when]
      exact if_pos hat
    refine gives_of_answer _ (congrArg (answer s) hstop) (by simp +contextual [Only]) ?_
    rw [millStops_mill]
    exact ⟨rfl, rfl, rfl, rfl, millStops_keepsEvents _ hsingle⟩

/-! ### Traces -/

/-- Of the mills only the trace of mill `m` may differ. -/
def OnlyTraces (m : Fin 16) (c d : Chip) : Prop := ∃ t, d.mills = c.mills.set m { c.mills[m] with trace := t }

namespace OnlyTraces

theorem of_mills {m : Fin 16} {c d : Chip} (h : d.mills = c.mills) : OnlyTraces m c d :=
  ⟨c.mills[m].trace, h.trans (Vector.set_getElem_self m.isLt).symm⟩

theorem trans {m : Fin 16} {c d e : Chip} (hcd : OnlyTraces m c d) (hde : OnlyTraces m d e) : OnlyTraces m c e := by
  obtain ⟨t, ht⟩ := hcd
  obtain ⟨u, hu⟩ := hde
  exact ⟨u, by rw [hu, ht]; simp⟩

theorem setTrace (m : Fin 16) (f : Mill → Trace) (c : Chip) : OnlyTraces m c (setMill m (fun x => { x with trace := f x }) c) :=
  ⟨_, rfl⟩

theorem each {α : Type} {m : Fin 16} {f : α → Chip → Chip} (hf : ∀ a c, OnlyTraces m c (f a c)) (l : List α) (c : Chip) :
    OnlyTraces m c (each l f c) := by
  unfold Machine.each
  induction l generalizing c with
  | nil => exact of_mills rfl
  | cons a l ih => exact (hf a c).trans (ih _)

theorem traceNote (m : Fin 16) (kind pc : Nat) (w : Word) (c : Chip) : OnlyTraces m c (traceNote m kind pc w c) :=
  each (fun _ d => setTrace m _ d) _ c

theorem traceCapture (m : Fin 16) (c : Chip) : OnlyTraces m c (traceCapture m c) :=
  trans (d := setMill m _ c) (setTrace m (fun _ => _) c) (each (fun _ d => of_mills (d := takeFree d) rfl) _ _)

theorem traceEnd (m : Fin 16) (slot : Fin 4) (c : Chip) : OnlyTraces m c (traceEnd m slot c) := by
  unfold Machine.traceEnd
  dsimp only
  split
  · exact of_mills rfl
  · split
    · exact (setTrace m _ c).trans ((setTrace m _ _).trans (traceCapture m _))
    · exact setTrace m _ c

end OnlyTraces

/-- A mill whose run ends at `now` (R216, R228, R234). -/
def ended (now : Nat) (x : Mill) : Mill :=
  let x := { x with
    running := none
    stat := { x.stat with
      runs := x.stat.runs + 1, hbLost := false
      satCount := if x.v then satSucc 65535 x.stat.satCount else x.stat.satCount
      satAt := if x.v then some now else x.stat.satAt } }
  if x.switchAtEnd then switchBanks x else x

theorem endRun_of_running {m : Fin 16} {k : Fin 4} {c : Chip} (h : c.mills[m].running = some k) :
    endRun m c = setMill m (ended c.clock.us) (traceEnd m k c) := by
  have hclock : (traceEnd m k c).clock = c.clock := traceEnd_part .clock (by decide) (by decide) m k c
  unfold endRun
  rw [h]
  dsimp only
  rw [hclock]
  rfl

/-- What the end of a run leaves of a mill, and what it makes of the rest. -/
theorem ended_fields (now : Nat) (x : Mill) :
    (ended now x).running = none ∧ (ended now x).words = x.words ∧ (ended now x).acc = x.acc ∧
      (ended now x).stat = { x.stat with
        runs := x.stat.runs + 1, hbLost := false
        satCount := if x.v then satSucc 65535 x.stat.satCount else x.stat.satCount
        satAt := if x.v then some now else x.stat.satAt } ∧
      (ended now x).activeB = (x.activeB != x.switchAtEnd) := by
  unfold ended switchBanks
  dsimp only
  split
  case isTrue h => exact ⟨rfl, rfl, rfl, rfl, by rw [h, Bool.bne_true]⟩
  case isFalse h => exact ⟨rfl, rfl, rfl, rfl, by rw [Bool.not_eq_true] at h; rw [h, Bool.bne_false]⟩

/-- Settles O21: each instruction is one step of its mill; END counts the run and leaves the words and ACC. -/
theorem millWordAndFlowInstructions : Obligations.MillWordAndFlowInstructions := by
  refine ⟨?_, ?_, ?_, ?_, ?_, ?_, ?_, ?_, ?_⟩
  case refine_1 => exact fun s m hat => gives_millStep hat rfl rfl rfl
  case refine_2 => exact fun s m d a hat hfree => gives_millStep hat hfree rfl rfl
  case refine_3 => exact fun s m d imm hat hfree => gives_millStep (touched := [d]) hat (by rw [List.all_cons, hfree]; rfl) rfl rfl
  case refine_4 => exact fun s m d a b hat hfree => gives_millStep hat hfree rfl rfl
  case refine_5 => exact fun s m d a b hat hfree => gives_millStep hat hfree rfl rfl
  case refine_6 => exact fun s m d a b hat hfree => gives_millStep hat hfree rfl rfl
  case refine_7 =>
    refine fun s m a b hat hfree => gives_millStep hat hfree rfl ?_
    simp only [stateInt, BitVec.toInt_inj, Bool.beq_eq_decide_eq]
    rfl
  case refine_8 =>
    intro s m cond addr hat
    have hbr : insBr m cond addr s.chip =
        setMill m (fun x => { x with pc := if brCond x cond then addr.toNat else x.pc + 1 }) s.chip := if_pos hat
    exact gives_of_answer _ (congrArg (answer s) hbr) (by simp +contextual [Only]) rfl
  case refine_9 =>
    intro s m k hat hreads hrun
    refine gives_of_answer _ (congrArg (answer s) (insEnd_of_millAt m s.chip hat hreads)) (by simp +contextual [Only]) ?_
    obtain ⟨t, ht⟩ := OnlyTraces.traceEnd m k s.chip
    have hself : (traceEnd m k s.chip).mills[m] = { s.chip.mills[m] with trace := t } := by simp [ht]
    obtain ⟨hrunning, hwords, hacc, hstat, hactive⟩ := ended_fields s.chip.clock.us { s.chip.mills[m] with trace := t }
    rw [endRun_of_running hrun, setMill_self, hself]
    refine ⟨hrunning, hwords, hacc, hstat, hactive, fun q hq => ?_⟩
    rw [setMill_mills, if_neg (Ne.symm hq), ht]
    exact Vector.getElem_set_ne _ _ (Fin.val_ne_of_ne (Ne.symm hq))

/-! ### The products -/

/-- P of R215, before the model rounds it. -/
theorem product_eq_floor (x : Mill) (k : Fin 256) (a : Fin 128) (f : BitVec 6) :
    product x k a f = (exactProduct x k a f).floor := shiftInt_eq_floor _ _

/-- A trace changes neither where a mill is nor what waits in it. -/
theorem OnlyTraces.millAt {m : Fin 16} {c d : Chip} (h : OnlyTraces m c d) (hod : part .od d = part .od c)
    (hfuses : part .fuses d = part .fuses c) (hcan : part .can d = part .can c) (w : BitVec 48) : Machine.millAt d m w = Machine.millAt c m w := by
  obtain ⟨t, ht⟩ := h
  have hself : d.mills[m] = { c.mills[m] with trace := t } := by simp [ht]
  have hod' : d.od = c.od := hod
  have hsource : nat d (kMillSource m) = nat c (kMillSource m) := by
    unfold nat num cfg defaultOf
    rw [hod', show d.fuses = c.fuses from hfuses, show d.can = c.can from hcan]
  unfold Machine.millAt millNext
  rw [hself, hsource]

/-- A product instruction at the PC writes ACC with the rounded product of the active bank (R215); its P may be traced. -/
theorem gives_productStep {i : Instr} {s : State} {op : Nat} {m : Fin 16} {k : Fin 256} {a : Fin 128} {f : BitVec 6}
    {g : Int → Int → Int} (hat : millAt s.chip m (fmtR op 0 k 0 a 0 f.toNat)) (hfree : [a].all fun w => !isPending s.chip.mills[m] w)
    (hexec : exec i s = answer s (productStep op m k a f g s.chip)) :
    Gives i s [.mills] fun c => c.mills = s.chip.mills.set m
      { wroteAcc s.chip.mills[m] (g s.chip.mills[m].acc.toInt (exactProduct s.chip.mills[m] k a f).floor) with
        trace := c.mills[m].trace } := by
  refine gives_of_answer _ hexec (by simp +contextual [Only]) ?_
  have hone : isPending s.chip.mills[m] a = false := by simpa using hfree
  let d := traceNote m 1 s.chip.mills[m].pc (satWord (product s.chip.mills[m] k a f / 2 ^ 31)) s.chip
  have htrace : OnlyTraces m s.chip d := OnlyTraces.traceNote m _ _ _ s.chip
  have hat' : millAt d m (fmtR op 0 k 0 a 0 f.toNat) :=
    (htrace.millAt (by simp [d]) (by simp [d]) (by simp [d]) _).trans hat
  obtain ⟨t, ht⟩ := htrace
  have hself : d.mills[m] = { s.chip.mills[m] with trace := t } := by simp [ht]
  have hstep : productStep op m k a f g s.chip =
      setMill m (fun x => { setAcc (g x.acc.toInt (product s.chip.mills[m] k a f)) x with pc := x.pc + 1 }) d := by
    unfold productStep
    dsimp only
    rw [hat, hone]
    exact millStep_of_millAt hat' (by rw [hself]; exact hfree)
  rw [hstep, setMill_self, setAcc_pc, hself, ← product_eq_floor]
  show d.mills.set m _ = _
  rw [ht, Vector.set_set]
  simp only [setAcc_pc, ← ht, hself]
  rfl

/-- Settles O22: each instruction is one step of its mill on ACC; the products may also be traced. -/
theorem millAccumulatorInstructions : Obligations.MillAccumulatorInstructions := by
  refine ⟨?_, ?_, ?_, ?_, ?_, ?_⟩
  case refine_1 => exact fun s m hat => gives_millStep hat rfl rfl rfl
  case refine_2 =>
    exact fun s m a f hat hfree => gives_millStep hat hfree rfl
      ((setAcc_pc _ _).trans (congrArg (wroteAcc _) (shiftInt_eq_floor _ _)))
  case refine_3 => exact fun s m d round hat hfree => gives_millStep hat hfree rfl (setSat_pc d _ _)
  case refine_4 => exact fun s m k a f hat hfree => gives_productStep hat hfree rfl
  case refine_5 => exact fun s m k a f hat hfree => gives_productStep hat hfree rfl
  case refine_6 => exact fun s m k a f hat hfree => gives_productStep (g := fun _ p => p) hat hfree rfl

end Sys2Proof.Machine
end

section
/-! What a mill takes in and gives out (R221 to R223, R230, R231). -/

namespace Sys2Proof.Machine

/-! ### Reads and writes -/

/-- A mill whose trace alone is not named has the trace that it has. -/
theorem eq_set_trace {v w : Vector Mill 16} {m : Fin 16} {x : Mill} {t : Trace} (h : w = v.set m { x with trace := t }) :
    w = v.set m { x with trace := w[m].trace } := by
  have ht : w[m].trace = t := by rw [h]; simp
  rw [ht]
  exact h

/-- An instruction at the PC whose value may be traced first. -/
theorem millStep_traced {m : Fin 16} {w : BitVec 48} {touched : List (Fin 128)} {g : Mill → Mill} {c d : Chip}
    (htrace : OnlyTraces m c d) (hod : part .od d = part .od c) (hfuses : part .fuses d = part .fuses c)
    (hcan : part .can d = part .can c) (hg : ∀ x t, g { x with trace := t } = { g x with trace := t })
    (hat : millAt c m w) (hfree : touched.all fun w => !isPending c.mills[m] w) :
    (millStep m w touched g d).mills = c.mills.set m
      { g c.mills[m] with pc := c.mills[m].pc + 1, trace := (millStep m w touched g d).mills[m].trace } := by
  have hat' : millAt d m w := (htrace.millAt hod hfuses hcan w).trans hat
  obtain ⟨t, ht⟩ := htrace
  have hself : d.mills[m] = { c.mills[m] with trace := t } := by simp [ht]
  refine eq_set_trace (x := { g c.mills[m] with pc := c.mills[m].pc + 1 }) (t := t) ?_
  rw [millStep_of_millAt hat' (by rw [hself]; exact hfree)]
  show d.mills.set m _ = _
  rw [hself, ht, Vector.set_set]
  exact congrArg (fun y : Mill => c.mills.set m { y with pc := c.mills[m].pc + 1 }) (hg c.mills[m] t)

theorem millStep_traceNote_watch (m : Fin 16) (w : BitVec 48) (touched : List (Fin 128)) (g : Mill → Mill) (kind pc : Nat) (v : Word)
    (c : Chip) : (millStep m w touched g (traceNote m kind pc v c)).watch = c.watch :=
  (millStep_part .watch (by decide) _ _ _ _ _).trans (traceNote_part .watch (by decide) _ _ _ _ _)

theorem insRd_of_room {m : Fin 16} {c : Chip} (h : c.mills[m].reads.length < 16) (d : Fin 128) (ch : Fin 256) (status : Bool) :
    insRd m d ch status c = millStep m (fmtR 0x19 (if status then 1 else 0) ch d 0 0 0) [d]
      (fun x => { x with reads := x.reads ++ [{ pc := x.pc, dest := d, ch := ch, status := status }] }) c := if_pos h

/-- The word that lands for a read (R221 to R223). -/
def landed (c : Chip) (q : MillRead) : Word :=
  if workingChannel q.ch then freeWord c else if q.status then chanStatus c q.ch
  else if chanReserved q.ch then 0 else (chanOf c q.ch).word

/-- The mill in which the word of a read has landed. -/
def tookRead (d : Fin 128) (w : Word) (x : Mill) : Mill :=
  { setWord d w x with reads := x.reads.filter fun q => q.dest != d }

theorem rdLand_mills {m : Fin 16} {d : Fin 128} {q : MillRead} {c : Chip}
    (h : c.mills[m].reads.find? (fun r => r.dest == d) = some q) :
    ∃ t, (rdLand m d c).mills = c.mills.set m { tookRead d (landed c q) c.mills[m] with trace := t } := by
  have hland : rdLand m d c = traceNote m 2 q.pc (landed c q)
      (when (workingChannel q.ch) takeFree (setMill m (tookRead d (landed c q)) c)) := by
    unfold rdLand
    rw [h]
    rfl
  have hfree (b : Bool) (e : Chip) : (when b takeFree e).mills = e.mills := by cases b <;> rfl
  obtain ⟨t, ht⟩ := OnlyTraces.traceNote m 2 q.pc (landed c q)
    (when (workingChannel q.ch) takeFree (setMill m (tookRead d (landed c q)) c))
  refine ⟨t, ?_⟩
  rw [hland, ht, hfree, setMill_self]
  exact Vector.set_set (hi := m.isLt) _

theorem insWr_of_owned {m : Fin 16} {cls : BitVec 8} {index : BitVec 11} {a : Fin 128} {c : Chip}
    (hat : millAt c m (fmtR 0x1A 0 cls.toNat 0 a 0 index.toNat)) (hfree : isPending c.mills[m] a = false)
    (hown : ownsOutput c m cls.toNat index.toNat) (hroom : c.mills[m].outQueue.length < 8) :
    insWr m cls index a c = millStep m (fmtR 0x1A 0 cls.toNat 0 a 0 index.toNat) [a] (fun x => { x with
      outQueue := x.outQueue ++ [{ cls := cls, index := index, value := x.words[a] }] })
        (traceNote m 3 c.mills[m].pc c.mills[m].words[a] c) := by
  unfold insWr
  dsimp only
  rw [hat, hfree, hown, if_neg (by decide), if_pos rfl, if_pos hroom]

theorem insWr_of_unowned {m : Fin 16} {cls : BitVec 8} {index : BitVec 11} {a : Fin 128} {c : Chip}
    (hat : millAt c m (fmtR 0x1A 0 cls.toNat 0 a 0 index.toNat)) (hfree : isPending c.mills[m] a = false)
    (hown : ownsOutput c m cls.toNat index.toNat = false) :
    insWr m cls index a c = raise (156 + m) 4 0 (millStep m (fmtR 0x1A 0 cls.toNat 0 a 0 index.toNat) [a] (fun x => { x with
      stat := { x.stat with writeRejects := satSucc 65535 x.stat.writeRejects, wrejAt := some c.clock.us } })
        (traceNote m 3 c.mills[m].pc c.mills[m].words[a] c)) := by
  unfold insWr
  dsimp only
  rw [hat, hfree, hown, if_neg (by decide), if_neg (by decide)]

/-! ### Deliveries -/

/-- The oldest output is delivered from a queue that it has left. -/
theorem millOutputDelivery_of_cons {m : Fin 16} {q : MillOutput} {rest : List MillOutput} {c : Chip}
    (h : c.mills[m].outQueue = q :: rest) :
    millOutputDelivery m c = deliver m q (setMill m (fun x => { x with outQueue := rest }) c) := by
  unfold millOutputDelivery
  rw [h]

theorem deliver_millOut {q : MillOutput} (h : q.cls = 6) (m : Fin 16) (c : Chip) :
    deliver m q c = setMill m (fun x => { x with outs := x.outs.set (Fin.ofNat 16 (q.index.toNat - 1)) q.value }) c := by
  unfold deliver
  rw [h]
  rfl

theorem deliver_channel {q : MillOutput} (h : q.cls = 5) (m : Fin 16) (c : Chip) :
    deliver m q c = publish q.index.toNat q.value c := by
  unfold deliver
  rw [h]
  rfl

theorem deliver_duty {q : MillOutput} {p : Fin 32} {r : Fin 16} {c : Chip} (h : q.cls = 1) (hp : q.index.toNat = p.val)
    (hr : railOfPhase c p = some r) (htakes : railTakes c r) (hactive : c.phases[p].dropped = false) (m : Fin 16) :
    deliver m q c = setPhase p (fun x => { x with dutyNext := some (if q.value.toInt < 0 then 0 else q.value) }) c := by
  have hp' : Fin.ofNat 32 q.index.toNat = p := by rw [hp]; exact Fin.ofNat_val_eq_self p
  have hheld : dutyHeld c p = false := by
    unfold dutyHeld
    rw [hr]
    unfold railTakes at htakes
    split at htakes <;> simp_all
  unfold deliver
  rw [h]
  show (match railOfPhase c (Fin.ofNat 32 q.index.toNat) with
    | some r => if railTakes c r && !c.phases[Fin.ofNat 32 q.index.toNat].dropped then
        writeDuty (Fin.ofNat 32 q.index.toNat) (if q.value.toInt < 0 then 0 else q.value) c else c
    | none => c) = _
  simp only [hp', hr]
  show (if railTakes c r && !c.phases[p].dropped then writeDuty p (if q.value.toInt < 0 then 0 else q.value) c else c) = _
  rw [htakes, hactive]
  show writeDuty p _ c = _
  rw [writeDuty, hheld]
  rfl

/-- Settles O23: each instruction, landing or delivery is one change of its mill, with a trace where the value is traced. -/
theorem millInputAndOutputInstructions : Obligations.MillInputAndOutputInstructions := by
  refine ⟨?_, ?_, ?_, ?_, ?_, ?_, ?_⟩
  case refine_1 =>
    exact fun s m d ch status hat hfree hroom => gives_millStep hat hfree (congrArg (answer s) (insRd_of_room hroom d ch status)) rfl
  case refine_2 =>
    intro s m d q hq
    obtain ⟨t, ht⟩ := rdLand_mills hq
    exact gives_of_answer _ rfl (by simp +contextual [Only]) (eq_set_trace ht)
  case refine_3 =>
    intro s m cls index a hat hfree hown hroom
    have hone : isPending s.chip.mills[m] a = false := by simpa using hfree
    refine gives_of_answer _ (congrArg (answer s) (insWr_of_owned hat hone hown hroom)) (by simp +contextual [Only]) ⟨?_, ?_⟩
    · exact millStep_traced (OnlyTraces.traceNote _ _ _ _ _) (by simp) (by simp) (by simp) (fun _ _ => rfl) hat hfree
    · exact millStep_traceNote_watch _ _ _ _ _ _ _ _
  case refine_4 =>
    intro s m cls index a hat hfree hown
    have hone : isPending s.chip.mills[m] a = false := by simpa using hfree
    refine gives_of_answer _ (congrArg (answer s) (insWr_of_unowned hat hone hown)) (by simp +contextual [Only]) ⟨?_, ?_⟩
    · rw [raise_mills]
      exact millStep_traced (OnlyTraces.traceNote _ _ _ _ _) (by simp) (by simp) (by simp) (fun _ _ => rfl) hat hfree
    · exact raise_watch_congr _ _ _ (millStep_traceNote_watch _ _ _ _ _ _ _ _)
  case refine_5 =>
    intro s m q rest hq hlive hcls _ _
    refine gives_of_when hlive rfl (by simp +contextual [Only]) ?_
    rw [millOutputDelivery_of_cons hq, deliver_millOut hcls]
    exact ⟨by simp [setMill], rfl, rfl⟩
  case refine_6 =>
    intro s m q rest hq hlive hcls _
    refine gives_of_when hlive rfl (by simp +contextual [Only]) ?_
    rw [millOutputDelivery_of_cons hq, deliver_channel hcls]
    exact ⟨rfl, rfl⟩
  case refine_7 =>
    intro s m q rest p r hq hlive hcls hp hr htakes hactive
    refine gives_of_when hlive rfl (by simp +contextual [Only]) ?_
    rw [millOutputDelivery_of_cons hq, deliver_duty (c := setMill m _ s.chip) hcls hp hr htakes hactive]
    exact ⟨rfl, rfl⟩

end Sys2Proof.Machine
end

section
/-! The triggers, runs, stops, loads and dumps of a mill (R226 to R228, R234, R235, R238, R245). -/

namespace Sys2Proof.Machine

/-! ### Triggers and runs -/

theorem millTrigger_of_due {m : Fin 16} {k : Fin 4} {c : Chip} (hready : c.mills[m].state = .ready) (htimed : timed c m k)
    (hdue : c.mills[m].due[k] ≤ 100 * c.clock.us) :
    millTrigger m k c =
      fireSlot { mill := m, slot := k } (setMill m (fun x => { x with due := x.due.set k (x.due[k] + timerPeriod c m) }) c) := by
  have hkind : ((slotTrigger c { mill := m, slot := k }).1 == 3) = true := htimed
  unfold millTrigger
  rw [hkind, hready, decide_eq_true hdue]
  rfl

/-- A trigger makes a free slot of a READY mill pending (R227). -/
theorem fireSlot_of_free {u : Unit4} {c : Chip} (hready : c.mills[u.mill].state = .ready) (hfree : c.mills[u.mill].slots[u.slot] = false) :
    fireSlot u c = setMill u.mill (fun x => { x with slots := x.slots.set u.slot true }) c := by
  unfold fireSlot
  dsimp only
  rw [hready, hfree]
  rfl

/-- An event of overruns is due (R227). -/
def overrunQuiet (now : Nat) (x : Mill) : Bool :=
  match x.stat.overrunEventAt with
  | some t => decide (now < t + 1000000)
  | none => false

theorem overrunQuiet_of_none {now : Nat} {x : Mill} (h : x.stat.overrunEventAt = none) : overrunQuiet now x = false := by
  unfold overrunQuiet
  rw [h]

/-- A trigger counts an overrun of a pending slot (R227). -/
theorem fireSlot_of_pending {u : Unit4} {c : Chip} (hready : c.mills[u.mill].state = .ready)
    (hpending : c.mills[u.mill].slots[u.slot] = true) :
    fireSlot u c = when (!overrunQuiet c.clock.us c.mills[u.mill]) (raise (156 + u.mill) 3 0)
      (setMill u.mill (fun x => { x with stat := { x.stat with
        overruns := satSucc 65535 x.stat.overruns, overrunAt := some c.clock.us
        overrunEventAt := if overrunQuiet c.clock.us c.mills[u.mill] then x.stat.overrunEventAt else some c.clock.us } }) c) := by
  unfold fireSlot
  dsimp only
  rw [hready, hpending]
  rfl

theorem when_raise_mills (b : Bool) (src code : Nat) (value : Int) (c : Chip) : (when b (raise src code value) c).mills = c.mills := by
  unfold when
  split
  · exact raise_mills c src code value
  · rfl

/-- The first number that satisfies a condition. -/
theorem firstFin_eq_some {n : Nat} {p : Fin n → Bool} {k : Fin n} (hk : p k = true) (hlow : ∀ j : Fin n, j < k → p j = false) :
    firstFin n p = some k := by
  refine List.find?_eq_some_iff_getElem.mpr ⟨hk, k, by simp, by simp, fun j hj => ?_⟩
  rw [List.getElem_finRange, Bool.not_eq_true']
  exact hlow _ hj

theorem millRunStart_of_lowest {m : Fin 16} {k : Fin 4} {c : Chip} (hready : c.mills[m].state = .ready)
    (hidle : c.mills[m].running = none) (hslot : c.mills[m].slots[k] = true) (hlow : ∀ j : Fin 4, j < k → c.mills[m].slots[j] = false) :
    millRunStart m c = setMill m (fun x => { startRun k x with pc := nat c (kMillTrigEntry m k) }) c := by
  have hfirst : firstFin 4 (fun k => c.mills[m].slots[k]) = some k := firstFin_eq_some hslot hlow
  unfold millRunStart
  dsimp only
  rw [hready, hidle, hfirst]
  rfl

/-! ### Stops -/

/-- Another mill is left by a mill that stops. -/
theorem millStops_other {m q : Fin 16} (h : q ≠ m) (f : Mill → Mill) (c : Chip) : (millStops m f c).mills[q] = c.mills[q] := by
  unfold millStops
  rw [millFails_mills, raise_mills, setMill_mills, if_neg (Ne.symm h)]

theorem illegalInstruction_of_bad {m : Fin 16} {c : Chip} (hready : c.mills[m].state = .ready) (hsource : nat c (kMillSource m) = 2)
    (hrun : c.mills[m].running.isSome) (hbad : (c.mills[m].program[c.mills[m].pc]?.all fun w => !legalWord w) = true) :
    illegalInstruction m c =
      millStops m (fun x => { x with stat := { x.stat with illegal := true, stopPc := BitVec.ofNat 16 x.pc } }) c := by
  unfold illegalInstruction
  dsimp only
  rw [hready, hsource, hrun]
  cases h : c.mills[m].program[c.mills[m].pc]? with
  | none => rfl
  | some w =>
    rw [h, Option.all_some, Bool.not_eq_true'] at hbad
    exact if_pos (by simp [hbad])

theorem runLimit_of_running {m : Fin 16} {c : Chip} (hready : c.mills[m].state = .ready) (hrun : c.mills[m].running.isSome) :
    runLimit m c = millStops m (fun x => { x with stat := { x.stat with runLimit := true } }) c := by
  rw [runLimit, hready, hrun]
  rfl

/-- A lost heartbeat of a unit without a twin is reported, and no more. -/
theorem millHeartbeatLost_of_single {m : Fin 16} {k : Fin 4} {c : Chip} (hready : c.mills[m].state = .ready)
    (hslot : c.mills[m].slots[k] = true) (hsingle : c.twin.state = .single) : millHeartbeatLost m k c = reportHbLost m c := by
  rw [millHeartbeatLost_eq m k c hready hslot]
  have htwin : (reportHbLost m c).twin.state = .single := by rw [reportHbLost, raise_twin]; exact hsingle
  unfold when
  split
  · exact giveUp_of_single htwin 3
  · rfl

/-! ### Loads -/

theorem millLoad_of_reset {m : Fin 16} {c : Chip} (hstate : c.mills[m].state = .loading ∨ c.mills[m].state = .reset)
    (hreeve : reeveRuns c) (hopen : c.hamlets[millHamlet m].blkrst = false) :
    millLoad m c = openHamlet (millHamlet m) (loadMill m c) := by
  unfold millLoad
  dsimp only
  rw [hreeve, hopen]
  rcases hstate with h | h <;> rw [h] <;> rfl

theorem openHamlet_mills (h : Fin 27) (c : Chip) : (openHamlet h c).mills = c.mills :=
  openHamlet_part .mills (by decide) (by decide) (by decide) h c

/-- What the clearing of the units of a mill leaves of it: all. -/
theorem eachClear_mills (l : List Unit4) (e c : Chip) : (each l (clearUnit e) c).mills = c.mills :=
  each_part .mills l _ c fun u d => by simp

/-- A mill as a load leaves it (R238). -/
def loaded (c : Chip) (m : Fin 16) (x : Mill) : Mill :=
  { x with
    state := if nat c (kMillSource m) = 0 then .idle else .ready
    program := if nat c (kMillSource m) = 2 then codeWords (nat c (kMillCodeLength m)) (bytes c (kMillCode m)) else []
    bankA := loadBank c m, bankB := loadBank c m, bankPend := false, staged := false, switchAtEnd := false
    words := Vector.replicate 128 0, pc := 0, running := none, reads := [], trace := {}
    slots := Vector.ofFn (timed c m), due := Vector.replicate 4 (100 * c.clock.us + timerPeriod c m)
    stat := { x.stat with illegal := false, runLimit := false, hbLost := false } }

/-- A load read from a chip in which the units of the mill are clear. -/
theorem setMill_loaded {m : Fin 16} {c d : Chip} (hmills : d.mills = c.mills) (hnat : ∀ k, nat d k = nat c k)
    (hbytes : ∀ k, bytes d k = bytes c k) (htimed : timed d m = timed c m) :
    d.mills.set m { loaded c m d.mills[m] with
      program := if nat c (kMillSource m) = 2 then codeWords (nat d (kMillCodeLength m)) (bytes d (kMillCode m)) else []
      slots := Vector.ofFn (timed d m) } = c.mills.set m (loaded c m c.mills[m]) := by
  rw [hmills, hnat, hbytes, htimed]
  rfl

theorem loadMill_mills (m : Fin 16) (c : Chip) : (loadMill m c).mills = c.mills.set m (loaded c m c.mills[m]) := by
  have hcfg (l : List Unit4) (k : Key) : cfg (each l (clearUnit c) c) k = cfg c k :=
    cfg_congr (each_part .od _ _ c fun u d => by simp) (each_part .fuses _ _ c fun u d => by simp)
      (each_part .can _ _ c fun u d => by simp) k
  have hnat (l : List Unit4) (k : Key) : nat (each l (clearUnit c) c) k = nat c k := by unfold nat num; rw [hcfg]
  have hbytes (l : List Unit4) (k : Key) : bytes (each l (clearUnit c) c) k = bytes c k := by unfold bytes; rw [hcfg]
  have htimed (l : List Unit4) : timed (each l (clearUnit c) c) m = timed c m := by
    funext k
    unfold timed slotTrigger unitWord
    simp only [hnat]
  exact setMill_loaded (eachClear_mills _ c c) (hnat _) (hbytes _) (htimed _)

/-- A mill whose banks the Reeve has copied (R235). -/
def copied (x : Mill) : Mill :=
  { (if x.activeB then { x with bankA := x.bankB } else { x with bankB := x.bankA } : Mill) with bankPend := false }

theorem copied_bankPend (x : Mill) : (copied x).bankPend = false := rfl

theorem copied_banks (x : Mill) : (copied x).bankA = (copied x).bankB := by
  unfold copied
  split <;> rfl

/-- The copy reads the active bank and leaves it. -/
theorem copied_active (x : Mill) : if x.activeB then (copied x).bankB = x.bankB else (copied x).bankA = x.bankA := by
  unfold copied
  split <;> rfl

/-- The copy leaves the rest of a mill that has it pending. -/
theorem copied_rest {x : Mill} (h : x.bankPend = true) :
    { copied x with bankA := x.bankA, bankB := x.bankB, bankPend := true } = x := by
  unfold copied
  rw [← h]
  split <;> rfl

theorem bankCopyDone_of_pending {m : Fin 16} {c : Chip} (h : c.mills[m].bankPend = true) :
    bankCopyDone m c = setMill m copied c := if_pos h

/-! ### Trace dumps -/

/-- The dump that a mill's trace makes (R246). -/
def dumpOf (c : Chip) (m : Fin 16) : Dump :=
  { mill := m, data := dumpHeader c m
    channels := (List.finRange 4).map fun (k : Fin 4) => c.mills[m].trace.buf[k].reverse }

theorem traceDumpStored_of_done {m : Fin 16} {c : Chip} (hflag : flag c (kMillTraceDump m)) (hdone : c.mills[m].trace.state = .done)
    (hwatch : c.mills[m].trace.byWatch = true) (hsize : c.nor.size ≠ 0) (hlive : live c) :
    traceDumpStored m c = log 0x30 (156 + m) 0 ((Fin.ofNat 15 c.nor.dumpNext).val : Int) []
      (setMill m (fun x => { x with trace := { x.trace with byWatch := false } })
        (setNor (fun n => { n with
          dumps := n.dumps.set (Fin.ofNat 15 c.nor.dumpNext) (some (dumpOf c m)), dumpNext := ((Fin.ofNat 15 c.nor.dumpNext).val + 1) % 15 }) c)) := by
  unfold traceDumpStored
  dsimp only
  rw [hflag, hdone, hwatch, hlive, bne_iff_ne.mpr hsize]
  rfl

/-- Settles O24: each trigger, start, stop, load or dump is one change of its mill; a stop adds only events after its own. -/
theorem millControlCommands : Obligations.MillControlCommands := by
  refine ⟨?_, ?_, ?_, ?_, ?_, ?_, ?_, ?_, ?_⟩
  case refine_1 =>
    intro s m k hlive hready htimed hdue hfree
    refine gives_of_when hlive rfl (by simp +contextual [Only]) ?_
    rw [millTrigger_of_due hready htimed hdue,
      fireSlot_of_free (by rw [setMill_self]; exact hready) (by rw [setMill_self]; exact hfree)]
    refine ⟨?_, rfl⟩
    simp only [setMill, Vector.set_set, Vector.getElem_set_self, Fin.getElem_fin]
  case refine_2 =>
    intro s m k hlive hready htimed hdue hpending
    refine gives_of_when hlive rfl (by simp +contextual [Only]) ?_
    rw [millTrigger_of_due hready htimed hdue,
      fireSlot_of_pending (by rw [setMill_self]; exact hready) (by rw [setMill_self]; exact hpending)]
    rw [when_raise_mills, setMill_self, setMill_self]
    refine ⟨rfl, rfl, rfl, rfl, fun hnone => ?_, fun q hq => ?_⟩
    · rw [overrunQuiet_of_none]
      · exact raise_watch_congr _ _ _ rfl
      · exact hnone
    · rw [setMill_mills, if_neg (Ne.symm hq), setMill_mills, if_neg (Ne.symm hq)]
  case refine_3 =>
    intro s m k hlive hready hidle hslot hlow
    refine gives_of_when hlive rfl (by simp +contextual [Only]) ?_
    rw [millRunStart_of_lowest hready hidle hslot hlow]
    rfl
  case refine_4 =>
    intro s m hready hsource hrun hbad hsingle
    refine gives_of_answer _ (congrArg (answer s) (illegalInstruction_of_bad hready hsource hrun hbad)) (by simp +contextual [Only]) ?_
    rw [millStops_mill]
    exact ⟨rfl, rfl, rfl, rfl, millStops_keepsEvents _ hsingle, fun q hq => millStops_other hq _ _⟩
  case refine_5 =>
    intro s m hlive hready hrun hsingle
    refine gives_of_when hlive rfl (by simp +contextual [Only]) ?_
    rw [runLimit_of_running hready hrun, millStops_mill]
    exact ⟨rfl, rfl, rfl, rfl, millStops_keepsEvents _ hsingle, fun q hq => millStops_other hq _ _⟩
  case refine_6 =>
    intro s m k hlive hready hslot hsingle
    refine gives_of_when hlive rfl (by simp +contextual [Only]) ?_
    rw [millHeartbeatLost_of_single hready hslot hsingle]
    exact ⟨by rw [reportHbLost, raise_mills]; rfl, KeepsEvents.of_watch (raise_watch_congr _ _ _ rfl)⟩
  case refine_7 =>
    intro s m hlive hpend
    refine gives_of_when hlive rfl (by simp +contextual [Only]) ?_
    rw [bankCopyDone_of_pending hpend]
    have hother (q : Fin 16) (hq : q ≠ m) : (setMill m copied s.chip).mills[q] = s.chip.mills[q] := by
      rw [setMill_mills, if_neg (Ne.symm hq)]
    refine ⟨?_, ?_, ?_, ?_, hother⟩ <;> rw [setMill_self]
    · exact copied_bankPend _
    · exact copied_banks _
    · exact copied_active _
    · exact copied_rest hpend
  case refine_8 =>
    intro s m hstate hreeve hopen
    refine gives_of_answer _ (congrArg (answer s) (millLoad_of_reset hstate hreeve hopen)) (by simp +contextual [Only]) ?_
    obtain ⟨hclosed, -⟩ := openHamlet_opens (millHamlet m) (loadMill m s.chip)
    rw [openHamlet_mills, loadMill_mills]
    refine ⟨by simp [loaded], by simp [loaded], by simp [loaded], by simp [loaded], by simp [loaded], by simp [loaded], by simp [loaded], hclosed, fun q hq => ?_⟩
    exact Vector.getElem_set_ne _ _ (Fin.val_ne_of_ne (Ne.symm hq))
  case refine_9 =>
    intro s m hflag hdone hbyWatch hsize hlive
    refine gives_of_answer _ rfl (by simp +contextual [Only]) ?_
    rw [traceDumpStored_of_done hflag hdone hbyWatch hsize hlive]
    refine ⟨by simp [setMill], ?_, fun j hj => ?_, ?_⟩
    · simp
    · rw [log_nor]
      exact Vector.getElem_set_ne (Fin.isLt _) _ (Fin.val_ne_of_ne (Ne.symm hj))
    · simp
end Sys2Proof.Machine
end

section
/-! Loops, and what taking samples (R213) leaves: the unit's state and its settings. -/

namespace Sys2Proof.Machine

/-! ### Loops -/

/-- What a part of a loop does to what holds before and after the turn of one element. -/
theorem each_at {α : Type} {P Q : Chip → Prop} {f : α → Chip → Chip} {a : α} {l : List α} (hin : a ∈ l) (hnodup : l.Nodup)
    (hbefore : ∀ b ≠ a, ∀ d, P d → P (f b d)) (hturn : ∀ d, P d → Q (f a d)) (hafter : ∀ b ≠ a, ∀ d, Q d → Q (f b d)) {c : Chip}
    (h : P c) : Q (each l f c) := by
  unfold each
  induction l generalizing c with
  | nil => simp at hin
  | cons b l ih =>
    obtain ⟨hnot, hnodup⟩ := List.nodup_cons.mp hnodup
    rw [List.foldl_cons]
    by_cases hb : b = a
    · subst hb
      refine List.foldlRecOn l (fun c x => f x c) (hturn c h) fun d hd e he => hafter e ?_ d hd
      exact fun heq => hnot (heq ▸ he)
    · exact ih ((List.mem_cons.mp hin).resolve_left (Ne.symm hb)) hnodup (hbefore b hb c h)

/-- What every part of a loop keeps, the loop keeps. -/
theorem each_keeps {α : Type} {P : Chip → Prop} {f : α → Chip → Chip} {l : List α} (h : ∀ a ∈ l, ∀ d, P d → P (f a d)) {c : Chip}
    (hc : P c) : P (each l f c) := List.foldlRecOn l (fun c x => f x c) hc fun d hd a ha => h a ha d hd

/-! ### Samples -/

theorem raise_safe (src code : Nat) (value : Int) (c : Chip) : (raise src code value c).watch.safe = c.watch.safe := by
  unfold raise
  split <;> rfl

theorem fireSlot_safe (u : Unit4) (c : Chip) : (fireSlot u c).watch.safe = c.watch.safe := by
  unfold fireSlot when
  dsimp only
  repeat' split
  all_goals first | rfl | exact raise_safe _ _ _ _

theorem supplyBack_safe (ch : Fin 256) (c : Chip) : (supplyBack ch c).watch.safe = c.watch.safe := by
  unfold supplyBack
  split <;> rfl

theorem takeSample_safe (x : Sample) (c : Chip) : (takeSample x c).watch.safe = c.watch.safe := by
  unfold takeSample
  split
  · rfl
  · refine (supplyBack_safe _ _).trans ?_
    rw [show (takeWarnings x _).watch = _ from takeWarnings_part .watch (by decide) _ _]
    rfl

theorem takeSamples_safe (l : List Sample) (c : Chip) : (takeSamples l c).watch.safe = c.watch.safe := by
  have hsame {d e : Chip} (h : part .watch e = part .watch d) : e.watch.safe = d.watch.safe := congrArg Watch.safe h
  have hfirst (l : List Sample) : (each l (fun x c => takeTap x (takeSample x c)) c).watch.safe = c.watch.safe :=
    each_keeps (P := fun d => d.watch.safe = c.watch.safe)
      (fun x _ d hd => ((hsame (by simp)).trans (takeSample_safe x d)).trans hd) rfl
  have htap (b : Bool) (d : Chip) : (when b refreshTap d).watch.safe = d.watch.safe := hsame (by simp)
  have hrails (l : List (Fin 16)) (d : Chip) : (each l refreshRail d).watch.safe = d.watch.safe :=
    hsame (each_part .watch _ _ _ fun r d => by simp)
  unfold takeSamples newValues fire
  refine each_keeps (P := fun d => d.watch.safe = c.watch.safe) (fun u _ d hd => (fireSlot_safe u d).trans hd) ?_
  exact (hrails _ _).trans ((htap _ _).trans (hfirst _))

theorem drives_congr {c d : Chip} (hboot : part .boot d = part .boot c) (htwin : part .twin d = part .twin c)
    (hsafe : d.watch.safe = c.watch.safe) : drives d = drives c := by
  unfold drives live
  rw [show d.boot = c.boot from hboot, show d.twin = c.twin from htwin, hsafe]

theorem live_congr {c d : Chip} (hboot : part .boot d = part .boot c) (hsafe : d.watch.safe = c.watch.safe) : live d = live c := by
  unfold live
  rw [show d.boot = c.boot from hboot, hsafe]

/-- A channel's value reads the channel and the settings. -/
theorem val_congr {c d : Chip} (hchans : part .chans d = part .chans c) (hod : part .od d = part .od c)
    (hfuses : part .fuses d = part .fuses c) (hcan : part .can d = part .can c) (ch : Nat) : val d ch = val c ch := by
  unfold val chanFrac chanOf
  simp only [nat_congr hod hfuses hcan, show d.chans = c.chans from hchans]

theorem passes_congr {c d : Chip} (hchans : part .chans d = part .chans c) (ch : Nat) : passes d ch = passes c ch := by
  unfold passes chanOf
  rw [show d.chans = c.chans from hchans]

theorem takeSamples_drives (l : List Sample) (c : Chip) : drives (takeSamples l c) = drives c :=
  drives_congr (by simp) (by simp) (takeSamples_safe l c)

theorem takeSamples_live (l : List Sample) (c : Chip) : live (takeSamples l c) = live c :=
  live_congr (by simp) (takeSamples_safe l c)

theorem takeSamples_nat (l : List Sample) (c : Chip) (k : Key) : nat (takeSamples l c) k = nat c k :=
  nat_congr (by simp) (by simp) (by simp) k

end Sys2Proof.Machine
end

section
/-! Power-path ports (R164 to R181): trips and retries, ramps and power-good. -/

namespace Sys2Proof.Machine

/-! ### Changes of one port -/

/-- Changes of one port join to one. -/
theorem setPp_setPp (n : Fin 8) (f g : Pp → Pp) (c : Chip) : setPp n f (setPp n g c) = setPp n (fun x => f (g x)) c := by
  simp [setPp]

theorem setPp_ne {n m : Fin 8} (h : m ≠ n) (f : Pp → Pp) (c : Chip) : (setPp n f c).pps[m] = c.pps[m] := by
  rw [setPp_pps, if_neg (Ne.symm h)]

theorem drives_running {c : Chip} (h : drives c) : c.boot.phase = .running := by
  unfold drives live at h
  simp only [Bool.and_eq_true, beq_iff_eq] at h
  exact h.1.1

theorem setPp_drives (n : Fin 8) (f : Pp → Pp) (c : Chip) : drives (setPp n f c) = drives c := rfl

/-- The comparator of a port that is not OFF is armed while the unit drives the shelf. -/
theorem ppArmed_of_drives {c : Chip} {n : Fin 8} (hdrives : drives c) (hon : c.pps[n].state ≠ .off) : ppArmed c n = true := by
  rw [ppArmed, drives_running hdrives, bne_iff_ne.mpr hon]
  rfl

theorem ppLimits_of_tripable {c : Chip} {n : Fin 8} (h : ppTripable c n) : ppLimits c n = true := (Bool.and_eq_true_iff.mp h).1

theorem on_of_tripable {c : Chip} {n : Fin 8} (h : ppTripable c n) : c.pps[n].state ≠ .off := by
  intro hoff
  simp [-Fin.getElem_fin, ppTripable, hoff] at h

/-! ### Trips -/

/-- A port after a trip (R172 to R175). -/
def tripped (c : Chip) (n : Fin 8) (killed : Bool) (x : Pp) : Pp :=
  { x with
    gate := 0, foff := true, pg := x.pg && killed, pgDefer := false, pgCount := 0, pgSince := none, limiting := false
    timer := false, count := 0, idle := 0
    state := if nat c (kPpRetryCount n) ≠ 255 ∧ x.retriesLeft = 0 then .latched else .retryWait
    retriesLeft := if nat c (kPpRetryCount n) = 255 then 255 else x.retriesLeft - 1
    offTime := retryOffTime c n (c.clock.us - x.rampAt), trips := satSucc 65535 x.trips }

/-- The port that trips has no retry left (R175). -/
def ppLatches (c : Chip) (n : Fin 8) : Bool := !decide (nat c (kPpRetryCount n) = 255) && c.pps[n].retriesLeft == 0

theorem ppTrip_eq (n : Fin 8) (killed : Bool) (c : Chip) :
    ppTrip n killed c = when (ppLatches c n) (raise (72 + n) 2 0) (raise (72 + n) 1 0 (setPp n (tripped c n killed) c)) := by
  have hport : { ({ c.pps[n] with
        gate := 0, foff := true, pg := c.pps[n].pg && killed, pgDefer := false, pgCount := 0, pgSince := none, limiting := false
        timer := false, count := 0, idle := 0 } : Pp) with
      state := if ppLatches c n then .latched else .retryWait
      retriesLeft := if nat c (kPpRetryCount n) = 255 then 255 else c.pps[n].retriesLeft - 1
      offTime := retryOffTime c n (c.clock.us - c.pps[n].rampAt), trips := satSucc 65535 c.pps[n].trips } =
      tripped c n killed c.pps[n] := by
    simp [tripped, ppLatches]
  have hset : setPp n (tripped c n killed) c = { c with pps := c.pps.set n (tripped c n killed c.pps[n]) } := rfl
  rw [hset, ← hport]
  unfold ppTrip ppOff
  dsimp only
  rw [setPp_setPp, setPp_setPp]
  rfl

theorem ppTrip_pps (n : Fin 8) (killed : Bool) (c : Chip) : (ppTrip n killed c).pps = (setPp n (tripped c n killed) c).pps := by
  rw [ppTrip_eq]
  unfold when
  split <;> simp only [raise_pps]

/-- A trip adds its event to those that arrived, before any others. -/
theorem ppTrip_keepsEvents {c d : Chip} (n : Fin 8) (killed : Bool) (h : d.watch = c.watch) :
    KeepsEvents (raise (72 + n) 1 0 c) (ppTrip n killed d) := by
  rw [ppTrip_eq]
  exact (KeepsEvents.of_watch (raise_watch_congr (d := setPp n (tripped d n killed) d) _ _ _ h)).trans
    (KeepsEvents.when (KeepsEvents.raise _ _ _) _ _)

/-- A trip that no kill made. -/
theorem trip_facts (n : Fin 8) (c : Chip) :
    (ppTrip n false c).pps[n].state = (if nat c (kPpRetryCount n) ≠ 255 ∧ c.pps[n].retriesLeft = 0 then .latched else .retryWait) ∧
    (ppTrip n false c).pps[n].foff = true ∧ (ppTrip n false c).pps[n].gate = 0 ∧ (ppTrip n false c).pps[n].pg = false ∧
    (ppTrip n false c).pps[n].timer = false ∧ (ppTrip n false c).pps[n].count = 0 ∧
    (ppTrip n false c).pps[n].trips = satSucc 65535 c.pps[n].trips ∧
    (ppTrip n false c).pps[n].retriesLeft = (if nat c (kPpRetryCount n) = 255 then 255 else c.pps[n].retriesLeft - 1) ∧
    (ppTrip n false c).pps[n].offTime = retryOffTime c n (c.clock.us - c.pps[n].rampAt) ∧
    (raise (72 + n) 1 0 c).watch.arrived <+: (ppTrip n false c).watch.arrived ∧
    ∀ m : Fin 8, m ≠ n → (ppTrip n false c).pps[m] = c.pps[m] := by
  rw [ppTrip_pps, setPp_self]
  exact ⟨rfl, rfl, rfl, Bool.and_false _, rfl, rfl, rfl, rfl, rfl, ppTrip_keepsEvents n false rfl, fun m hm => setPp_ne hm _ _⟩

/-- An event does not touch the ports. -/
theorem setPp_raise_pps (n : Fin 8) (f : Pp → Pp) (src code : Nat) (value : Int) (c : Chip) :
    (setPp n f (raise src code value c)).pps = (setPp n f c).pps := by
  unfold setPp
  simp only [raise_pps]

/-! ### The events of a port -/

theorem ppKill_of_trips {n : Fin 8} {pair : Int} {c : Chip} (hdrives : drives c) (hon : c.pps[n].state ≠ .off) (hlimits : ppLimits c n)
    (htrips : comparatorTrips c n pair) :
    ppKill n pair c =
      if ppTripable c n then ppTrip n true (setPp n (fun p => { p with foff := true, gate := 0, kill := true }) c)
      else raise (72 + n) 1 0 (setPp n (fun p => { p with foff := true, gate := 0, kill := true, trips := satSucc 65535 p.trips }) c) := by
  have htripable : ppTripable (setPp n (fun p => { p with foff := true, gate := 0, kill := true }) c) n = ppTripable c n := by
    unfold ppTripable
    rw [setPp_self]
    rfl
  unfold ppKill
  rw [ppArmed_of_drives hdrives hon, hlimits, htrips]
  dsimp only
  rw [htripable, setPp_setPp, setPp_drives, hdrives]
  rfl

theorem oringReverseTurnoff_of_trips {n : Fin 8} {pair : Int} {c : Chip} (hdrives : drives c) (hrole : ppRole c n = 2)
    (hon : c.pps[n].state ≠ .off) (htrips : comparatorTrips c n pair) :
    oringReverseTurnoff n pair c =
      let d := raise (72 + n) 3 0
        (setPp n (fun p => { p with foff := true, gate := 0, reverses := satSucc 65535 p.reverses }) c)
      if c.pps[n].state = .on then setPp n (fun p => { p with state := .reverse }) (ppOff n d) else d := by
  unfold oringReverseTurnoff
  rw [ppArmed_of_drives hdrives hon, hrole, htrips]
  dsimp only
  rw [setPp_setPp, raise_pps, setPp_self, setPp_drives, hdrives]
  simp only [beq_iff_eq]
  rfl

/-- Settles O16: each command is one change of its port, which for a trip is `tripped`. -/
theorem portTripAndRetryCommands : Obligations.PortTripAndRetryCommands := by
  refine ⟨?_, ?_, ?_, ?_, ?_, ?_, ?_, ?_, ?_, ?_⟩
  case refine_1 =>
    intro s n pair hrange hdrives htripable htrips
    refine gives_of_guarded _ hrange rfl (by simp +contextual [Only]) ?_
    rw [ppKill_of_trips hdrives (on_of_tripable htripable) (ppLimits_of_tripable htripable) htrips, if_pos htripable, ppTrip_pps,
      setPp_setPp, setPp_self]
    refine ⟨rfl, rfl, rfl, rfl, Bool.and_true _, rfl, rfl, rfl, rfl, rfl, ppTrip_keepsEvents n true rfl, fun m hm => setPp_ne hm _ _⟩
  case refine_2 =>
    intro s n pair hrange hdrives hon hlimits htripable htrips
    refine gives_of_guarded _ hrange rfl (by simp +contextual [Only]) ?_
    rw [ppKill_of_trips hdrives hon hlimits htrips, htripable, if_neg (by decide)]
    exact ⟨by rw [raise_pps]; rfl, raise_watch_congr _ _ _ rfl⟩
  case refine_3 =>
    intro s n pair hrange hdrives hrole hoff hon htrips
    refine gives_of_guarded _ hrange rfl (by simp +contextual [Only]) ?_
    rw [oringReverseTurnoff_of_trips hdrives hrole hoff htrips]
    dsimp only
    rw [if_neg hon]
    exact ⟨by rw [raise_pps]; rfl, raise_watch_congr _ _ _ rfl⟩
  case refine_4 =>
    intro s n pair hrange hdrives hrole hon htrips
    refine gives_of_guarded _ hrange rfl (by simp +contextual [Only]) ?_
    rw [oringReverseTurnoff_of_trips hdrives hrole (by simp [-Fin.getElem_fin, hon]) htrips]
    dsimp only
    rw [if_pos hon, ppOff, setPp_setPp]
    refine ⟨?_, raise_watch_congr _ _ _ rfl⟩
    rw [setPp_raise_pps, setPp_setPp]
    rfl
  case refine_5 =>
    intro s n hdrives htripable htimer
    refine gives_of_answer _ (congrArg (answer s) (if_pos (by rw [htripable, htimer, hdrives]; rfl))) (by simp +contextual [Only]) ?_
    exact trip_facts n s.chip
  case refine_6 =>
    intro s n hdrives htimer hlimiting
    refine gives_of_answer _ (congrArg (answer s) (if_pos (by rw [htimer, hlimiting, hdrives]; rfl))) (by simp +contextual [Only]) rfl
  case refine_7 =>
    intro s n hdrives hramp
    refine gives_of_answer _ (congrArg (answer s) (if_pos (by rw [hramp, hdrives]; rfl))) (by simp +contextual [Only]) ?_
    exact trip_facts n s.chip
  case refine_8 =>
    intro s n hdrives hwait
    refine gives_of_answer _ (congrArg (answer s) (if_neg (by rw [hwait, hdrives]; decide))) (by split <;> simp +contextual [Only]) ?_
    split <;> rfl
  case refine_9 =>
    intro s n hdrives hpg
    exact gives_of_answer _ (congrArg (answer s) (if_pos (by rw [hpg, hdrives]; rfl))) (by simp +contextual [Only]) rfl
  case refine_10 =>
    intro s n hdrives hreverse hdrop
    exact gives_of_answer _ (congrArg (answer s) (if_pos (by rw [hreverse, hdrives, decide_eq_true hdrop]; rfl)))
      (by simp +contextual [Only]) rfl

end Sys2Proof.Machine
end

section
/-! The tick of the power-path ports (R167), and their ramps and power-good (R170, R171, R179). -/

namespace Sys2Proof.Machine

/-! ### A tick of one port leaves the others -/

theorem ppOff_ne {n m : Fin 8} (h : m ≠ n) (c : Chip) : (ppOff n c).pps[m] = c.pps[m] := setPp_ne h _ c

theorem ppWait_ne {n m : Fin 8} (h : m ≠ n) (c : Chip) : (ppWait n c).pps[m] = c.pps[m] := setPp_ne h _ c

theorem ppTrip_ne {n m : Fin 8} (h : m ≠ n) (killed : Bool) (c : Chip) : (ppTrip n killed c).pps[m] = c.pps[m] := by
  rw [ppTrip_pps, setPp_ne h]

theorem ppStart_ne {n m : Fin 8} (h : m ≠ n) (c : Chip) : (ppStart n c).pps[m] = c.pps[m] := by
  unfold ppStart
  split
  · rfl
  · rw [ppWait_ne h, setPp_ne h]

theorem ppWindowLost_ne {n m : Fin 8} (h : m ≠ n) (c : Chip) : (ppWindowLost n c).pps[m] = c.pps[m] := by
  unfold ppWindowLost when
  dsimp only
  split <;> simp only [raise_pps, ppWait_ne h, ppOff_ne h]

theorem ppTransitions_ne {n m : Fin 8} (h : m ≠ n) (c : Chip) : (ppTransitions n c).pps[m] = c.pps[m] := by
  unfold ppTransitions
  dsimp only
  split
  · exact ppTrip_ne h _ c
  split
  · rw [ppSenseLost, ppWait_ne h, ppOff_ne h]
  split
  · exact ppStart_ne h c
  all_goals try split
  all_goals simp only [setPp_ne h, ppWait_ne h, ppWindowLost_ne h]

theorem ppTimer_ne {n m : Fin 8} (h : m ≠ n) (c : Chip) : (ppTimer n c).pps[m] = c.pps[m] := by
  unfold ppTimer
  split
  · rfl
  · exact setPp_ne h _ c

theorem ppPower_ne {n m : Fin 8} (h : m ≠ n) (c : Chip) : (ppPower n c).pps[m] = c.pps[m] := by
  unfold ppPower
  split
  · rfl
  · exact setPp_ne h _ c

theorem ppWindows_ne {n m : Fin 8} (h : m ≠ n) (c : Chip) : (ppWindows n c).pps[m] = c.pps[m] := setPp_ne h _ c

theorem ppAssert_ne {n m : Fin 8} (h : m ≠ n) (c : Chip) : (ppAssert n c).pps[m] = c.pps[m] := setPp_ne h _ c

theorem ppWithdraw_ne {n m : Fin 8} (h : m ≠ n) (c : Chip) : (ppWithdraw n c).pps[m] = c.pps[m] := setPp_ne h _ c

theorem ppPg_ne {n m : Fin 8} (h : m ≠ n) (c : Chip) : (ppPg n c).pps[m] = c.pps[m] := by
  unfold ppPg
  dsimp only
  repeat' split
  all_goals simp only [setPp_ne h, ppWithdraw_ne h, ppAssert_ne h]

theorem ppTick_ne {n m : Fin 8} (h : m ≠ n) (c : Chip) : (ppTick n c).pps[m] = c.pps[m] := by
  rw [ppTick, ppPg_ne h, ppTransitions_ne h, ppTimer_ne h, ppPower_ne h, ppWindows_ne h]

/-! ### What a tick does with a port's state -/

theorem ppPg_state (n : Fin 8) (c : Chip) : (ppPg n c).pps[n].state = c.pps[n].state := by
  unfold ppPg ppWithdraw ppAssert
  dsimp only
  repeat' split
  all_goals try rfl
  all_goals simp only [setPp_self]
  all_goals split <;> rfl

theorem ppPower_state (n : Fin 8) (c : Chip) : (ppPower n c).pps[n].state = c.pps[n].state := by
  unfold ppPower
  split
  · rfl
  · dsimp only
    rw [setPp_self]

theorem ppPower_windowsOk (n : Fin 8) (c : Chip) : windowsOk (ppPower n c).pps[n] = windowsOk c.pps[n] := by
  unfold ppPower
  split
  · rfl
  · rw [setPp_self]
    rfl

theorem ppWindows_state (n : Fin 8) (c : Chip) : (ppWindows n c).pps[n].state = c.pps[n].state := by
  unfold ppWindows
  rw [setPp_self]

theorem ppRole_congr {c d : Chip} (hod : part .od d = part .od c) (hfuses : part .fuses d = part .fuses c)
    (hcan : part .can d = part .can c) (n : Fin 8) : ppRole d n = ppRole c n := nat_congr hod hfuses hcan _

theorem not_tripable {c : Chip} {n : Fin 8} (hramp : c.pps[n].state ≠ .ramp) (hon : c.pps[n].state ≠ .on) : ppTripable c n = false := by
  simp [-Fin.getElem_fin, ppTripable, hramp, hon]

theorem ppTimer_of_untripable {c : Chip} {n : Fin 8} (h : ppTripable c n = false) : ppTimer n c = c := by
  rw [ppTimer, h]
  rfl

/-- A port waiting for its input, whose windows are satisfied, is inserted (Table 5.2). -/
theorem ppTick_inserts {n : Fin 8} {c : Chip} (hwait : c.pps[n].state = .waitInput) (hrole : ppRole c n ≠ 2)
    (hok : windowsOk (ppWindows n c).pps[n]) : (ppTick n c).pps[n].state = .insert := by
  obtain ⟨d, hd⟩ : ∃ d, d = ppPower n (ppWindows n c) := ⟨_, rfl⟩
  have hstate : d.pps[n].state = .waitInput := by rw [hd, ppPower_state, ppWindows_state, hwait]
  have hwindows : windowsOk d.pps[n] = true := by rw [hd, ppPower_windowsOk]; exact hok
  have hrole' : (ppRole d n == 2) = false := by
    rw [hd, ppRole_congr (c := c) (by simp) (by simp) (by simp)]
    exact beq_false_of_ne hrole
  have huntripable : ppTripable d n = false := not_tripable (by simp [-Fin.getElem_fin, hstate]) (by simp [-Fin.getElem_fin, hstate])
  rw [ppTick, ppPg_state, ← hd, ppTimer_of_untripable huntripable]
  unfold ppTransitions
  dsimp only
  rw [huntripable, bne, hrole', hstate, hwindows]
  show (setPp n (fun p => { p with state := .insert }) d).pps[n].state = .insert
  rw [setPp_self]

/-- A port that is latched or shed stays so in a tick. -/
theorem ppTick_rests {n : Fin 8} {c : Chip} (h : c.pps[n].state = .latched ∨ c.pps[n].state = .shed) :
    (ppTick n c).pps[n].state = c.pps[n].state := by
  obtain ⟨d, hd⟩ : ∃ d, d = ppPower n (ppWindows n c) := ⟨_, rfl⟩
  have hstate : d.pps[n].state = c.pps[n].state := by rw [hd, ppPower_state, ppWindows_state]
  rw [← hstate] at h
  have huntripable : ppTripable d n = false := not_tripable (by rcases h with h | h <;> simp [-Fin.getElem_fin, h]) (by rcases h with h | h <;> simp [-Fin.getElem_fin, h])
  rw [ppTick, ppPg_state, ← hd, ppTimer_of_untripable huntripable, ← hstate]
  unfold ppTransitions
  dsimp only
  rw [huntripable]
  rcases h with h | h <;> rw [h, show oringWatched _ = false from rfl, Bool.and_false] <;> exact congrArg (fun x => x) h

/-- Every port has its own tick, and no other port's changes it. -/
theorem ppTicks_turn {P Q : Pp → Prop} {n : Fin 8} {c : Chip} (hP : P c.pps[n])
    (hturn : ∀ d : Chip, (∀ p : Part, p ≠ .pps → p ≠ .watch → part p d = part p c) → P d.pps[n] → Q (ppTick n d).pps[n]) :
    Q (each (List.finRange 8) ppTick c).pps[n] := by
  have h := each_at (α := Fin 8) (f := ppTick) (c := c) (a := n)
    (P := fun d => (∀ p : Part, p ≠ .pps → p ≠ .watch → part p d = part p c) ∧ P d.pps[n])
    (Q := fun d => Q d.pps[n]) (List.mem_finRange n) (List.nodup_finRange 8)
    (fun m hm d hd => ⟨fun p hp hw => (ppTick_part p hp hw m d).trans (hd.1 p hp hw), by rw [ppTick_ne (Ne.symm hm)]; exact hd.2⟩)
    (fun d hd => hturn d hd.1 hd.2) (fun m hm d hd => by rw [ppTick_ne (Ne.symm hm)]; exact hd)
  exact h ⟨fun _ _ _ => rfl, hP⟩

/-- The windows of a port read its own state, its input channel and the settings. -/
theorem ppWindows_congr {c d : Chip} {n : Fin 8} (hpp : d.pps[n] = c.pps[n])
    (h : ∀ p : Part, p ≠ .pps → p ≠ .watch → part p d = part p c) : (ppWindows n d).pps[n] = (ppWindows n c).pps[n] := by
  have hchans := h .chans (by decide) (by decide)
  have hod := h .od (by decide) (by decide)
  have hfuses := h .fuses (by decide) (by decide)
  have hcan := h .can (by decide) (by decide)
  unfold ppWindows
  rw [setPp_self, setPp_self, hpp]
  simp only [num_congr hod hfuses hcan, val_congr hchans hod hfuses hcan, passes_congr hchans]

theorem ppTicks_insert {n : Fin 8} {c : Chip} (hwait : c.pps[n].state = .waitInput) (hrole : ppRole c n ≠ 2)
    (hok : windowsOk (ppWindows n c).pps[n]) : (each (List.finRange 8) ppTick c).pps[n].state = .insert := by
  refine ppTicks_turn (P := fun x => x = c.pps[n]) (Q := fun x => x.state = .insert) rfl fun d hparts hpp => ?_
  refine ppTick_inserts (by rw [hpp, hwait]) ?_ (by rw [ppWindows_congr hpp hparts]; exact hok)
  rw [ppRole_congr (hparts .od (by decide) (by decide)) (hparts .fuses (by decide) (by decide)) (hparts .can (by decide) (by decide))]
  exact hrole

theorem ppTicks_rest {n : Fin 8} {c : Chip} (h : c.pps[n].state = .latched ∨ c.pps[n].state = .shed) :
    (each (List.finRange 8) ppTick c).pps[n].state = c.pps[n].state :=
  ppTicks_turn (P := fun x => x = c.pps[n]) (Q := fun x => x.state = c.pps[n].state) rfl fun d _ hpp => by
    rw [ppTick_rests (by rw [hpp]; exact h), hpp]

/-! ### The gate loop and insertion -/

theorem ppGateLoop_of_ramp {n : Fin 8} {voltageTerm currentTerm : BitVec 12} {c : Chip} (hlive : live c) (hrole : ppRole c n ≠ 2)
    (hramp : c.pps[n].state = .ramp) : ppGateLoop n voltageTerm currentTerm c = setPp n (fun p =>
      gateTerms voltageTerm currentTerm { p with ref := p.ref + (nat c (kPpRampRate n) : Rat) / 2000000 }) c := by
  unfold ppGateLoop
  rw [hlive, hramp]
  split
  · contradiction
  · split <;> first | contradiction | rfl

theorem ppGateLoop_of_on {n : Fin 8} {voltageTerm currentTerm : BitVec 12} {c : Chip} (hlive : live c) (hrole : ppRole c n ≠ 2)
    (hon : c.pps[n].state = .on) : ppGateLoop n voltageTerm currentTerm c = setPp n (fun p =>
      gateTerms (risenCode { p with rise := p.rise - 1 }) currentTerm { p with rise := p.rise - 1 }) c := by
  unfold ppGateLoop
  rw [hlive, hon]
  split
  · contradiction
  · split <;> first | contradiction | rfl

theorem ppGateLoop_of_oring {n : Fin 8} {voltageTerm currentTerm : BitVec 12} {c : Chip} (hlive : live c) (hrole : ppRole c n = 2)
    (hon : c.pps[n].state = .on) : ppGateLoop n voltageTerm currentTerm c = setPp n (fun p => { p with gate := voltageTerm }) c := by
  unfold ppGateLoop
  rw [hlive, hon, hrole]
  rfl

theorem ppInsertElapsed_of_ok {n : Fin 8} {c : Chip} (hdrives : drives c) (hinsert : c.pps[n].state = .insert)
    (hok : windowsOk c.pps[n]) : ppInsertElapsed n c = if ppRole c n = 2 then ppOn n c else ppRamp n c := by
  unfold ppInsertElapsed
  rw [hdrives, hinsert, hok]
  simp only [beq_iff_eq]
  rfl

/-! ### The rest of the SEQ tick -/

theorem ppStart_state {n : Fin 8} (m : Fin 8) {c : Chip} (h : c.pps[n].state ≠ .off) : (ppStart m c).pps[n] = c.pps[n] := by
  by_cases hm : m = n
  · subst hm
    rw [ppStart, bne_iff_ne.mpr h]
    rfl
  · exact ppStart_ne (Ne.symm hm) c

/-- What the tick does after the ports leaves a port that is not OFF. -/
theorem startAll_pps {n : Fin 8} {c : Chip} (h : c.pps[n].state ≠ .off) : (startAll c).pps[n] = c.pps[n] := by
  have hrails : (each (List.finRange 16) railStart c).pps = c.pps := each_part .pps _ _ _ fun r d => by simp
  have hports : ((each (List.finRange 8) ppStart (each (List.finRange 16) railStart c)).pps[n] = c.pps[n]) :=
    each_keeps (P := fun d => d.pps[n] = c.pps[n]) (fun m _ d hd => (ppStart_state m (by rw [hd]; exact h)).trans hd) (by rw [hrails])
  exact hports

/-- The SEQ tick of a unit that drives the shelf. -/
theorem seqTick_of_drives {samples : List Sample} {c : Chip} (h : drives c) :
    seqTick samples c = pgOutputs (startAll (entryTick (each (List.finRange 4) strRelease
      (each (List.finRange 8) ppTick (takeSamples samples c))))) := by
  rw [seqTick, takeSamples_drives, h]
  rfl

theorem seqTick_port {samples : List Sample} {c : Chip} {n : Fin 8} (hdrives : drives c)
    (h : (each (List.finRange 8) ppTick (takeSamples samples c)).pps[n].state ≠ .off) :
    (seqTick samples c).pps[n] = (each (List.finRange 8) ppTick (takeSamples samples c)).pps[n] := by
  obtain ⟨d, hd⟩ : ∃ d, d = each (List.finRange 8) ppTick (takeSamples samples c) := ⟨_, rfl⟩
  have hpps : (entryTick (each (List.finRange 4) strRelease d)).pps = d.pps :=
    (entryTick_part .pps (by decide) _).trans (each_part .pps _ _ _ fun n e => by simp)
  rw [seqTick_of_drives hdrives, ← hd]
  rw [← hd] at h
  have hlast (e : Chip) : (pgOutputs e).pps = e.pps := rfl
  rw [hlast, startAll_pps (by rw [hpps]; exact h), hpps]

theorem entryTick_pgAsserted (c : Chip) : (entryTick c).seq.pgAsserted = c.seq.pgAsserted := by
  unfold entryTick
  split <;> rfl

/-- The PG outputs are what they say of the chip that they leave (R208). -/
theorem pgOutputs_pgOut (c : Chip) (n : Fin 8) : (pgOutputs c).seq.pgOut[n] = (c.seq.pgAsserted[n] && (nat c (kPgFollow n) == 0 ||
    seqCond (pgOutputs c) (nat c (kPgFollow n) / 4096) (nat c (kPgFollow n) % 256))) := by
  have hcond (a b : Nat) : seqCond (pgOutputs c) a b = seqCond c a b := rfl
  rw [hcond]
  unfold pgOutputs setSeq
  exact Vector.getElem_ofFn _

theorem seqTick_pgOut {samples : List Sample} {c : Chip} (h : drives c) (n : Fin 8) : (seqTick samples c).seq.pgOut[n] =
    (c.seq.pgAsserted[n] && (nat c (kPgFollow n) == 0 ||
      seqCond (seqTick samples c) (nat c (kPgFollow n) / 4096) (nat c (kPgFollow n) % 256))) := by
  obtain ⟨d, hd⟩ : ∃ d, d = startAll (entryTick (each (List.finRange 4) strRelease
    (each (List.finRange 8) ppTick (takeSamples samples c)))) := ⟨_, rfl⟩
  have hnat : nat d (kPgFollow n) = nat c (kPgFollow n) := by
    rw [hd]
    exact nat_congr (by simp) (by simp) (by simp) _
  have hasserted : d.seq.pgAsserted = c.seq.pgAsserted := by
    have hstart (e : Chip) : (startAll e).seq = e.seq :=
      startAll_part .seq (by decide) (by decide) (by decide) (by decide) (by decide) (by decide) e
    have hports (e : Chip) : (each (List.finRange 8) ppTick e).seq = e.seq := each_part .seq _ _ _ fun n e => by simp
    have hstrings (e : Chip) : (each (List.finRange 4) strRelease e).seq = e.seq := each_part .seq _ _ _ fun n e => by simp
    have hsamples : (takeSamples samples c).seq = c.seq :=
      takeSamples_part .seq (by decide) (by decide) (by decide) (by decide) (by decide) _ _
    rw [hd, hstart, entryTick_pgAsserted, hstrings, hports, hsamples]
  rw [seqTick_of_drives h, ← hd, pgOutputs_pgOut, hnat, hasserted]

/-- Settles O17: each command is one change of its port; a tick gives every port its turn, and no other port's. -/
theorem portRampAndPowerGoodCommands : Obligations.PortRampAndPowerGoodCommands := by
  refine ⟨?_, ?_, ?_, ?_, ?_, ?_, ?_, ?_⟩
  case refine_1 =>
    intro s n voltageTerm currentTerm hlive hrole hramp
    refine gives_of_answer _ rfl (by simp +contextual [Only]) ?_
    rw [ppGateLoop_of_ramp hlive hrole hramp]
    rfl
  case refine_2 =>
    intro s n voltageTerm currentTerm hlive hrole hon
    refine gives_of_answer _ rfl (by simp +contextual [Only]) ?_
    rw [ppGateLoop_of_on hlive hrole hon, setPp_self]
    exact ⟨rfl, rfl⟩
  case refine_3 =>
    intro s n voltageTerm currentTerm hlive hrole hon
    refine gives_of_answer _ rfl (by simp +contextual [Only]) ?_
    rw [ppGateLoop_of_oring hlive hrole hon]
    rfl
  case refine_4 =>
    intro s n hdrives hinsert hok
    refine gives_of_answer _ (congrArg (answer s) (ppInsertElapsed_of_ok hdrives hinsert hok)) (by split <;> simp +contextual [Only]) ?_
    by_cases hrole : ppRole s.chip n = 2
    · rw [if_pos hrole, if_pos hrole]
      rfl
    · rw [if_neg hrole, if_neg hrole]
      rfl
  case refine_5 =>
    intro s n hdrives hramp hup
    exact gives_of_answer _ (congrArg (answer s) (if_pos (by rw [hramp, hdrives, hup]; rfl))) (by simp +contextual [Only]) rfl
  case refine_6 =>
    intro s n hdrives hgood hpg
    refine gives_of_answer _ (congrArg (answer s) (if_pos (by rw [hgood, hpg, hdrives]; rfl))) (by simp +contextual [Only]) ?_
    rw [ppAssert, setPp_setPp]
    rfl
  case refine_7 =>
    intro s n hdrives hgood hpg htimer
    exact gives_of_answer _ (congrArg (answer s) (if_pos (by rw [hgood, hpg, htimer, hdrives]; rfl))) (by simp +contextual [Only]) rfl
  case refine_8 =>
    intro s samples hfits hdrives
    refine gives_of_guarded _ hfits rfl (by simp +contextual [Only]) ?_
    have hsamples (n : Fin 8) : (takeSamples samples s.chip).pps[n] = s.chip.pps[n] := by
      rw [show (takeSamples samples s.chip).pps = s.chip.pps from takeSamples_part .pps (by decide) (by decide) (by decide) (by decide) (by decide) _ _]
    refine ⟨fun n hwait hrole hok => ?_, fun n hrests => ?_, fun n => ?_, ?_⟩
    · have hturn := ppTicks_insert (c := takeSamples samples s.chip) (n := n) (by rw [hsamples]; exact hwait)
        (by rw [ppRole, takeSamples_nat]; exact hrole) hok
      rw [seqTick_port hdrives (by rw [hturn]; decide), hturn]
    · have hturn := ppTicks_rest (c := takeSamples samples s.chip) (n := n) (by rw [hsamples]; exact hrests)
      rw [hsamples] at hturn
      rw [seqTick_port hdrives (by rw [hturn]; rcases hrests with h | h <;> rw [h] <;> decide), hturn]
    · exact seqTick_pgOut hdrives n
    · have : part .clock (seqTick samples s.chip) = part .clock s.chip := by simp
      exact this

end Sys2Proof.Machine
end

section
/-! The rails' and phases' shared operations: what each leaves of a rail and of its phases. -/

namespace Sys2Proof.Machine

/-! ### Phases of a rail -/

theorem phasesOf_congr {c d : Chip} (hod : part .od d = part .od c) (hfuses : part .fuses d = part .fuses c)
    (hcan : part .can d = part .can c) (r : Fin 16) : phasesOf d r = phasesOf c r := by
  unfold phasesOf railType
  simp only [nat_congr hod hfuses hcan]

theorem phasesOf_nodup (c : Chip) (r : Fin 16) : (phasesOf c r).Nodup := by
  unfold phasesOf
  split
  · exact List.nodup_nil
  · exact (List.nodup_finRange 32).filter _

theorem setPhase_ne {p q : Fin 32} (h : p ≠ q) (f : Phase → Phase) (c : Chip) : (setPhase q f c).phases[p] = c.phases[p] := by
  rw [setPhase_phases, if_neg (Ne.symm h)]

/-- One change of every phase of a list. -/
theorem each_setPhase {l : List (Fin 32)} (hnodup : l.Nodup) (g : Fin 32 → Phase → Phase) (c : Chip) (p : Fin 32) :
    (each l (fun q => setPhase q (g q)) c).phases[p] = if p ∈ l then g p c.phases[p] else c.phases[p] := by
  split
  · next hin =>
    exact each_at (P := fun d => d.phases[p] = c.phases[p]) (Q := fun d => d.phases[p] = g p c.phases[p]) hin hnodup
      (fun q hq d hd => (setPhase_ne (Ne.symm hq) _ d).trans hd) (fun d hd => by rw [setPhase_self, hd])
      (fun q hq d hd => (setPhase_ne (Ne.symm hq) _ d).trans hd) rfl
  · next hout =>
    exact each_keeps (P := fun d => d.phases[p] = c.phases[p])
      (fun q hq d hd => (setPhase_ne (by rintro rfl; exact hout hq) _ d).trans hd) rfl

/-- A phase that is driven no more (R75). -/
def lowered (x : Phase) : Phase :=
  { x with duty := 0, dutyNext := none, enabled := false, drven := false, highEnded := false, lowEnded := false }

theorem railLow_phases (r : Fin 16) (c : Chip) (p : Fin 32) :
    (railLow r c).phases[p] = if p ∈ phasesOf c r then lowered c.phases[p] else c.phases[p] :=
  each_setPhase (phasesOf_nodup c r) (fun _ => lowered) c p

theorem railLow_rails (r : Fin 16) (c : Chip) : (railLow r c).rails = c.rails := railLow_part .rails (by decide) r c

/-! ### Rails -/

theorem vcAbort_rails (r : Fin 16) (c : Chip) : (vcAbort r c).rails = c.rails := vcAbort_part .rails (by decide) (by decide) r c

theorem railGo_rails (r : Fin 16) (st : RailState) (c : Chip) : (railGo r st c).rails = (setRail r (fun x => wentTo x st c.clock.us) c).rails := by
  unfold railGo when
  dsimp only
  split
  · have hclock : (vcAbort r c).clock = c.clock := vcAbort_part .clock (by decide) (by decide) r c
    unfold setRail
    simp only [vcAbort_rails, hclock]
    rfl
  · rfl

theorem railGo_self (r : Fin 16) (st : RailState) (c : Chip) : (railGo r st c).rails[r] = wentTo c.rails[r] st c.clock.us := by
  rw [railGo_rails, setRail_self]

theorem railGo_ne {r q : Fin 16} (h : q ≠ r) (st : RailState) (c : Chip) : (railGo r st c).rails[q] = c.rails[q] := by
  rw [railGo_rails, setRail_rails, if_neg (Ne.symm h)]

theorem railGo_phases (r : Fin 16) (st : RailState) (c : Chip) : (railGo r st c).phases = c.phases :=
  railGo_part .phases (by decide) (by decide) (by decide) r st c

theorem railFault_rails (r : Fin 16) (c : Chip) : (railFault r c).rails = (setRail r ((fun x => wentTo x .fault c.clock.us)) c).rails := by
  rw [railFault, railLow_rails, railGo_rails]

theorem railFault_phases (r : Fin 16) (c : Chip) (p : Fin 32) :
    (railFault r c).phases[p] = if p ∈ phasesOf c r then lowered c.phases[p] else c.phases[p] := by
  rw [railFault, railLow_phases, railGo_phases, phasesOf_congr (c := c) (by simp) (by simp) (by simp)]

/-! ### Kills -/

/-- A rail whose kill is latched. -/
def killLatched (r : Fin 16) (c : Chip) : Chip := setRail r (fun x => { x with killed := true }) c

/-- What a kill makes of a rail (R75): it latches; one that the unit drives goes to FAULT, and else its phases go low. -/
theorem killRail_cases (r : Fin 16) (c : Chip) : killRail r c = killLatched r c ∨ killRail r c = railFault r (killLatched r c) ∨
    killRail r c = railLow r (killLatched r c) := by
  unfold killRail
  dsimp only
  split
  · exact .inl rfl
  split
  · exact .inr (.inl rfl)
  · exact .inr (.inr rfl)

theorem killRail_killed (r : Fin 16) (c : Chip) : (killRail r c).rails[r].killed = true := by
  have hlatched : (killLatched r c).rails[r].killed = true := by rw [killLatched, setRail_self]
  rcases killRail_cases r c with h | h | h <;> rw [h]
  · exact hlatched
  · rw [railFault_rails, setRail_self]
    exact hlatched
  · rw [railLow_rails]
    exact hlatched

theorem killRail_faults {r : Fin 16} {c : Chip} (hdrives : drives c) (hon : c.rails[r].state ≠ .off) :
    (killRail r c).rails[r].state = .fault := by
  have hstate : (killLatched r c).rails[r].state = c.rails[r].state := by rw [killLatched, setRail_self]
  have htwin : (c.twin.state == .standby) = false := by
    unfold drives at hdrives
    cases h : c.twin.state <;> simp_all
  have hkill : killRail r c = if (killLatched r c).rails[r].state != .fault then railFault r (killLatched r c)
      else railLow r (killLatched r c) := by
    have hdrives' : drives (killLatched r c) = true := hdrives
    have hon' : ((killLatched r c).rails[r].state != .off) = true := by rw [hstate]; exact bne_iff_ne.mpr hon
    show (if c.twin.state == .standby then _ else
      if drives (killLatched r c) && (killLatched r c).rails[r].state != .off && (killLatched r c).rails[r].state != .fault then _
      else _) = _
    rw [htwin, hdrives', hon']
    rfl
  by_cases hfault : (killLatched r c).rails[r].state = .fault
  · rw [hkill, if_neg (by rw [hfault]; decide), railLow_rails, hfault]
  · rw [hkill, if_pos (bne_iff_ne.mpr hfault), railFault_rails, setRail_self]
    rfl

/-- A kill leaves the kill of every phase. -/
theorem killRail_kill (r : Fin 16) (c : Chip) (p : Fin 32) : (killRail r c).phases[p].kill = c.phases[p].kill := by
  rcases killRail_cases r c with h | h | h <;> rw [h]
  · rfl
  · rw [railFault_phases]
    split <;> rfl
  · rw [railLow_phases]
    split <;> rfl

theorem railKillLine_kill {r : Fin 16} {c : Chip} {p : Fin 32} (h : p ∈ phasesOf c r) :
    (railKillLine r c).phases[p].kill = true := by
  rw [railKillLine, killRail_kill, each_setPhase (phasesOf_nodup c r), if_pos h]

namespace KeepsEvents

theorem railFault (r : Fin 16) (c : Chip) : KeepsEvents c (railFault r c) :=
  (railGo r _ c).trans (of_watch (railLow_part .watch (by decide) _ _))

theorem killRail (r : Fin 16) (c : Chip) : KeepsEvents c (killRail r c) := by
  rcases killRail_cases r c with h | h | h <;> rw [h]
  · exact setRail r _ c
  · exact (setRail r _ c).trans (railFault r _)
  · exact (setRail r _ c).trans (of_watch (railLow_part .watch (by decide) _ _))

theorem railKillLine (r : Fin 16) (c : Chip) : KeepsEvents c (railKillLine r c) :=
  (each (fun p => setPhase p _) _ c).trans (killRail r _)

end KeepsEvents

end Sys2Proof.Machine
end

section
/-! Window monitors (R189 to R195, R211). -/

namespace Sys2Proof.Machine

theorem setWm_setWm (m : Fin 64) (f g : Wm → Wm) (c : Chip) : setWm m f (setWm m g c) = setWm m (fun x => f (g x)) c := by
  simp [setWm]

/-- An event raised where something of a monitor begins. -/
theorem when_raise_setWm_watch (b : Bool) (src code : Nat) (value : Int) (m : Fin 64) (f : Wm → Wm) (c : Chip) :
    (when b (raise src code value) (setWm m f c)).watch = if b then (raise src code value c).watch else c.watch := by
  cases b
  · rfl
  · exact raise_watch_congr _ _ _ rfl

theorem when_raise_wms (b : Bool) (src code : Nat) (value : Int) (c : Chip) : (when b (raise src code value) c).wms = c.wms := by
  cases b
  · rfl
  · exact raise_wms c src code value

/-- The monitor is enabled and the unit live, so that the commands of a monitor act. -/
theorem wmFaultOnset_uv {m : Fin 64} {c : Chip} (henable : flag c (kWmEnable m)) (hlive : live c) :
    wmFaultOnset m false c = when (!c.wms[m].faultUv && !uvMasked c m) (raise (80 + m) 1 0)
      (setWm m (fun w => { w with faultUv := true, uvMovedAt := some c.clock.us }) c) := by
  unfold wmFaultOnset uvMoves
  rw [henable, hlive, setWm_setWm]
  rfl

/-- The monitor's rail and its kill link are settings. -/
theorem wmRail_congr {c d : Chip} (hod : part .od d = part .od c) (hfuses : part .fuses d = part .fuses c)
    (hcan : part .can d = part .can c) (m : Fin 64) : wmRail d m = wmRail c m := by
  unfold wmRail
  simp only [nat_congr hod hfuses hcan]

/-- A monitor's over-voltage onset before the kill link. -/
def ovOnset (m : Fin 64) (c : Chip) : Chip :=
  raise (80 + m) 1 0 (setWm m (fun w => { w with faultOv := true, ovMovedAt := some c.clock.us }) c)

theorem ovOnset_wms (m : Fin 64) (c : Chip) :
    (ovOnset m c).wms = c.wms.set m { c.wms[m] with faultOv := true, ovMovedAt := some c.clock.us } := by
  rw [ovOnset, raise_wms]
  rfl

theorem wmFaultOnset_ov {m : Fin 64} {c : Chip} (henable : flag c (kWmEnable m)) (hlive : live c) (honset : c.wms[m].faultOv = false) :
    wmFaultOnset m true c = match wmRail (ovOnset m c) m with
      | some r => if true && flag (ovOnset m c) (kWmOvKill m) then
          railKillLine r (raise (80 + m) 2 0 (setWm m (fun w => { w with killed := true }) (ovOnset m c))) else ovOnset m c
      | none => ovOnset m c := by
  unfold wmFaultOnset ovMoves
  rw [henable, hlive, honset, setWm_setWm]
  rfl

theorem wmFaultOnset_unlinked {m : Fin 64} {c : Chip} (henable : flag c (kWmEnable m)) (hlive : live c)
    (honset : c.wms[m].faultOv = false) (hkill : flag c (kWmOvKill m) = false) : wmFaultOnset m true c = ovOnset m c := by
  have hkill' : flag (ovOnset m c) (kWmOvKill m) = false :=
    (flag_congr (by simp [ovOnset]) (by simp [ovOnset]) (by simp [ovOnset]) _).trans hkill
  rw [wmFaultOnset_ov henable hlive honset, hkill']
  split <;> rfl

theorem wmFaultOnset_linked {m : Fin 64} {c : Chip} {r : Fin 16} (henable : flag c (kWmEnable m)) (hlive : live c)
    (honset : c.wms[m].faultOv = false) (hkill : flag c (kWmOvKill m)) (hr : wmRail c m = some r) :
    wmFaultOnset m true c =
      railKillLine r (raise (80 + m) 2 0 (setWm m (fun w => { w with killed := true }) (ovOnset m c))) := by
  have hkill' : flag (ovOnset m c) (kWmOvKill m) = true :=
    (flag_congr (by simp [ovOnset]) (by simp [ovOnset]) (by simp [ovOnset]) _).trans hkill
  have hr' : wmRail (ovOnset m c) m = some r :=
    (wmRail_congr (by simp [ovOnset]) (by simp [ovOnset]) (by simp [ovOnset]) m).trans hr
  rw [wmFaultOnset_ov henable hlive honset, hkill', hr']
  rfl

/-- The kill link after the onset (R193). -/
theorem wmFaultOnset_kills {m : Fin 64} {c : Chip} {r : Fin 16} (henable : flag c (kWmEnable m)) (hlive : live c)
    (honset : c.wms[m].faultOv = false) (hkill : flag c (kWmOvKill m)) (hr : wmRail c m = some r) :
    (wmFaultOnset m true c).wms =
      c.wms.set m { c.wms[m] with faultOv := true, ovMovedAt := some c.clock.us, killed := true } ∧
    (raise (80 + m) 2 0 (raise (80 + m) 1 0 c)).watch.arrived <+: (wmFaultOnset m true c).watch.arrived ∧
    (wmFaultOnset m true c).rails[r].killed = true ∧ (∀ p ∈ phasesOf c r, (wmFaultOnset m true c).phases[p].kill = true) ∧
    (drives c = true → c.rails[r].state ≠ .off → (wmFaultOnset m true c).rails[r].state = .fault) := by
  rw [wmFaultOnset_linked henable hlive honset hkill hr]
  obtain ⟨d, hd⟩ : ∃ d, d = raise (80 + m) 2 0 (setWm m (fun w => { w with killed := true }) (ovOnset m c)) := ⟨_, rfl⟩
  have hwms : d.wms = c.wms.set m { c.wms[m] with faultOv := true, ovMovedAt := some c.clock.us, killed := true } := by
    rw [hd, raise_wms]
    show (ovOnset m c).wms.set m { (ovOnset m c).wms[m] with killed := true } = _
    rw [ovOnset_wms, Vector.set_set]
    simp
  have hwatch : d.watch = (raise (80 + m) 2 0 (raise (80 + m) 1 0 c)).watch := by
    rw [hd]
    exact raise_watch_congr _ _ _ (raise_watch_congr _ _ _ rfl)
  have hrails : d.rails = c.rails := by rw [hd]; simp [ovOnset]
  have hphases : phasesOf d r = phasesOf c r := by
    rw [hd]
    exact phasesOf_congr (by simp [ovOnset]) (by simp [ovOnset]) (by simp [ovOnset]) r
  have hdrives : drives d = drives c := by
    rw [hd]
    exact drives_congr (by simp [ovOnset]) (by simp [ovOnset]) ((raise_safe _ _ _ _).trans (raise_safe _ _ _ _))
  rw [← hd]
  refine ⟨?_, ?_, killRail_killed r _, fun p hp => railKillLine_kill (by rw [hphases]; exact hp), fun hdr hon => ?_⟩
  · rw [show (railKillLine r d).wms = d.wms from railKillLine_part .wms (by decide) (by decide) (by decide) (by decide) r d, hwms]
  · rw [← hwatch]
    exact KeepsEvents.railKillLine r d
  · have hrails' : (each (phasesOf d r) (fun p => setPhase p fun x => { x with kill := true }) d).rails = d.rails :=
      each_part .rails _ _ _ fun p e => by simp
    refine killRail_faults ?_ (by rw [hrails', hrails]; exact hon)
    rw [drives_congr (c := d) (by simp) (by simp) (congrArg Watch.safe (each_part .watch _ _ _ fun p e => by simp)), hdrives]
    exact hdr

/-! ### Warnings -/

/-- Something holds of a monitor's warning of one side. -/
theorem wmWarningOnset_beyond {m : Fin 64} {ov : Bool} {c : Chip} (henable : flag c (kWmEnable m)) (hlive : live c)
    (hfresh : wmStale c m = false)
    (hbeyond : (if ov then decide (withMargin (num c (kWmOvWarn m)) c.wms[m].ovMargin < c.wms[m].value)
      else decide ((c.wms[m].value : Rat) < withMargin (num c (kWmUvWarn m)) c.wms[m].uvMargin) && !uvMasked c m) = true) :
    wmWarningOnset m ov c = when (!(if ov then c.wms[m].warnOv else c.wms[m].warnUv)) (raise 234 1 0)
      (setWm m (fun w => if ov then { w with warnOv := true } else { w with warnUv := true }) c) := by
  unfold wmWarningOnset
  dsimp only
  rw [henable, hlive, hfresh, hbeyond]
  rfl

theorem wmWarningClear_inside {m : Fin 64} {ov : Bool} {c : Chip} (henable : flag c (kWmEnable m)) (hlive : live c)
    (hfresh : wmStale c m = false)
    (hinside : (if ov then decide ((c.wms[m].value : Rat) ≤ withMargin (num c (kWmOvWarn m)) c.wms[m].ovMargin -
        (num c (kWmHyst m) : Rat) * (num c (kWmScale m) : Rat) / 1024)
      else decide (withMargin (num c (kWmUvWarn m)) c.wms[m].uvMargin +
        (num c (kWmHyst m) : Rat) * (num c (kWmScale m) : Rat) / 1024 ≤ c.wms[m].value)) = true) :
    wmWarningClear m ov c =
      setWm m (fun w => if ov then { w with warnOv := false } else { w with warnUv := false }) c := by
  unfold wmWarningClear
  dsimp only
  rw [henable, hlive, hfresh, hinside]
  rfl

/-- The second bad reading of the over-voltage DAC sets DACERR (R195). -/
theorem wmDacReadback_second {m : Fin 64} {reading : BitVec 12} {c : Chip} (henable : flag c (kWmEnable m)) (hlive : live c)
    (hbad : c.wms[m].badOv = 1) (herr : c.wms[m].errOv = false) (hlate : within c 20 c.wms[m].ovMovedAt = false)
    (hhigh : 12 < (reading.toNat : Int) - 4 * dacCode c m true) :
    wmDacReadback m true reading c =
      raise 233 1 0 (setWm m (fun w => { w with badOv := 2, goodOv := 0, errOv := true }) c) := by
  have hreading : countReading true true c.wms[m] = { c.wms[m] with badOv := 2, goodOv := 0, errOv := true } := by
    simp [-Fin.getElem_fin, countReading, hbad]
  have hset : setWm m (countReading true true) c = setWm m (fun w => { w with badOv := 2, goodOv := 0, errOv := true }) c := by
    unfold setWm
    rw [hreading]
  have henable' : flag (setWm m (fun w => { w with badOv := 2, goodOv := 0, errOv := true }) c) (kWmEnable m) = true := henable
  unfold wmDacReadback
  dsimp only
  rw [if_pos rfl, hlive, hlate, decide_eq_true hhigh, Bool.true_or, hset, if_pos rfl, if_pos rfl, herr, setWm_self, henable']
  rfl

/-- Settles O18: each command is one change of its monitor, and the kill link goes on with the rail's kill. -/
theorem monitorCommands : Obligations.MonitorCommands := by
  refine ⟨?_, ?_, ?_, ?_, ?_, ?_, ?_, ?_, ?_, ?_⟩
  case refine_1 =>
    intro s m henable hlive
    refine gives_of_answer _ (congrArg (answer s) (wmFaultOnset_uv henable hlive)) (by simp +contextual [Only]) ⟨?_, ?_⟩
    · rw [when_raise_wms]
      rfl
    · rw [when_raise_setWm_watch]
      cases s.chip.wms[m].faultUv <;> cases uvMasked s.chip m <;> rfl
  case refine_2 =>
    intro s m henable hlive honset hkill
    refine gives_of_answer _ (congrArg (answer s) (wmFaultOnset_unlinked henable hlive honset hkill))
      (by simp +contextual [Only, ovOnset]) ⟨ovOnset_wms m _, raise_watch_congr _ _ _ rfl, ?_, ?_⟩
    · simp [ovOnset]
    · simp [ovOnset]
  case refine_3 =>
    intro s m r henable hlive honset hkill hr
    exact gives_of_answer _ rfl (by simp +contextual [Only]) (wmFaultOnset_kills henable hlive honset hkill hr)
  case refine_4 =>
    intro s m ov henable hlive
    refine gives_of_answer _ rfl (by simp +contextual [Only]) ?_
    unfold wmFaultClear ovMoves uvMoves
    rw [henable, hlive, setWm_setWm, setWm_setWm]
    cases ov <;> rfl
  case refine_5 =>
    intro s m henable hlive hfresh hbeyond
    refine gives_of_answer _ (congrArg (answer s) (wmWarningOnset_beyond henable hlive hfresh (decide_eq_true hbeyond)))
      (by simp +contextual [Only]) ⟨?_, ?_⟩
    · rw [when_raise_wms]
      rfl
    · rw [when_raise_setWm_watch]
      cases s.chip.wms[m].warnOv <;> rfl
  case refine_6 =>
    intro s m henable hlive hfresh hmask hbeyond
    refine gives_of_answer _ (congrArg (answer s) (wmWarningOnset_beyond (ov := false) henable hlive hfresh
      (by rw [hmask, decide_eq_true hbeyond]; rfl))) (by simp +contextual [Only]) ⟨?_, ?_⟩
    · rw [when_raise_wms]
      rfl
    · rw [when_raise_setWm_watch]
      cases s.chip.wms[m].warnUv <;> rfl
  case refine_7 =>
    intro s m henable hlive hfresh hinside
    exact gives_of_answer _ (congrArg (answer s) (wmWarningClear_inside henable hlive hfresh (decide_eq_true hinside)))
      (by simp +contextual [Only]) rfl
  case refine_8 =>
    intro s m henable hlive hfresh hinside
    exact gives_of_answer _ (congrArg (answer s) (wmWarningClear_inside (ov := false) henable hlive hfresh (decide_eq_true hinside)))
      (by simp +contextual [Only]) rfl
  case refine_9 =>
    intro s m reading henable hlive hbad herr hlate hhigh
    refine gives_of_answer _ (congrArg (answer s) (wmDacReadback_second henable hlive hbad herr hlate hhigh))
      (by simp +contextual [Only]) ⟨?_, raise_watch_congr _ _ _ rfl⟩
    rw [raise_wms]
    rfl
  case refine_10 =>
    intro s m r hr hfollow hlive htarget
    refine gives_of_answer _ rfl (by simp +contextual [Only]) ?_
    unfold marginNarrowMove ovMoves uvMoves
    rw [hr]
    dsimp only
    rw [hfollow, hlive, htarget, setWm_setWm, setWm_setWm]
    rfl

end Sys2Proof.Machine
end

section
/-! The sequencer (R198 to R206): its entries, its timeouts and what its actions leave of it. -/

namespace Sys2Proof.Machine

/-! ### What an action leaves of the tables -/

/-- A change that leaves the sequencer but for the chatter bits and the PG outputs. -/
def TableKept (c d : Chip) : Prop := ∃ chatter pgOut, d.seq = { c.seq with chatter := chatter, pgOut := pgOut }

namespace TableKept

theorem of_seq {c d : Chip} (h : part .seq d = part .seq c) : TableKept c d := ⟨c.seq.chatter, c.seq.pgOut, h⟩

theorem trans {c d e : Chip} (hcd : TableKept c d) (hde : TableKept d e) : TableKept c e := by
  obtain ⟨chatter, out, h⟩ := hcd
  obtain ⟨chatter', out', h'⟩ := hde
  exact ⟨chatter', out', by rw [h', h]⟩

theorem pgOutputs (c : Chip) : TableKept c (pgOutputs c) := ⟨c.seq.chatter, _, rfl⟩

theorem setChatter (f : Vector Bool 16 → Vector Bool 16) (c : Chip) :
    TableKept c (setSeq (fun q => { q with chatter := f q.chatter }) c) := ⟨_, c.seq.pgOut, rfl⟩

theorem railToOff (r : Fin 16) (c : Chip) : TableKept c (railToOff r c) := by
  unfold Machine.railToOff
  dsimp only
  refine .trans ?_ ((setChatter (fun v => v.set r false) _).trans (of_seq (publishLimit_part .seq (by decide) r _)))
  exact of_seq (by simp)

theorem railStop (r : Fin 16) (c : Chip) : TableKept c (railStop r c) := by
  unfold Machine.railStop
  split
  · exact railToOff r c
  · exact of_seq (by simp)
  · exact of_seq (by simp)
  · exact .trans (of_seq (by simp)) (railToOff r _)
  · exact of_seq rfl

theorem seqReached {c d : Chip} (h : TableKept c d) (ttype tnum : Nat) : seqReached d ttype tnum = seqReached c ttype tnum := by
  obtain ⟨chatter, out, h⟩ := h
  unfold Machine.seqReached
  rw [h]

theorem state {c d : Chip} (h : TableKept c d) : d.seq.state = c.seq.state := by
  obtain ⟨chatter, out, h⟩ := h
  rw [h]

end TableKept

/-- The sequencer marks a target (R203, R204). -/
def markTarget (ttype tnum : Nat) (on : Bool) (q : Seq) : Seq :=
  if ttype = 1 then { q with railReached := q.railReached.set (Fin.ofNat 16 tnum) on }
  else if ttype = 2 then { q with ppReached := q.ppReached.set (Fin.ofNat 8 tnum) on }
  else if ttype = 3 then { q with rmReached := q.rmReached.set (Fin.ofNat 8 tnum) on }
  else if ttype = 4 then { q with strReached := q.strReached.set (Fin.ofNat 4 tnum) on }
  else if ttype = 5 then { q with pgReached := q.pgReached.set (Fin.ofNat 8 tnum) on }
  else q

theorem markTarget_state (ttype tnum : Nat) (on : Bool) (q : Seq) : (markTarget ttype tnum on q).state = q.state := by
  unfold markTarget
  repeat' split
  all_goals rfl

/-- A marked target reads as it was marked. -/
theorem seqReached_markTarget {ttype : Nat} (hlow : 1 ≤ ttype) (hhigh : ttype ≤ 5) (tnum : Nat) (on : Bool) (c : Chip) :
    seqReached (setSeq (markTarget ttype tnum on) c) ttype tnum = on := by
  unfold seqReached setSeq markTarget
  obtain rfl | rfl | rfl | rfl | rfl : ttype = 1 ∨ ttype = 2 ∨ ttype = 3 ∨ ttype = 4 ∨ ttype = 5 := by omega
  all_goals simp

theorem seqReached_other {ttype : Nat} (h : ¬ (1 ≤ ttype ∧ ttype ≤ 5)) (tnum : Nat) (c : Chip) : seqReached c ttype tnum = true := by
  unfold seqReached
  repeat rw [if_neg (by omega)]

/-- Marking a target changes the table by the mark, and no more but the chatter bits and the PG outputs. -/
theorem seqMark_kept (ttype tnum : Nat) (on : Bool) (c : Chip) :
    TableKept (setSeq (markTarget ttype tnum on) c) (seqMark ttype tnum on c) := by
  have hrail (r : Fin 16) (d : Chip) : part .seq (railStart r d) = part .seq d := by simp
  have hstart (p : Fin 8) (d : Chip) : part .seq (ppStart p d) = part .seq d := by simp
  have hstop (p : Fin 8) (d : Chip) : part .seq (ppStop p d) = part .seq d := by simp
  have hrm (p : Fin 8) (f : Rm → Rm) (d : Chip) : part .seq (rmRefresh p (setRm p f d)) = part .seq d := by simp
  have hstr (n : Fin 4) (d : Chip) : part .seq (strRelease n d) = part .seq d := by simp
  unfold seqMark
  dsimp only
  split
  · next h =>
    subst h
    cases on
    · exact .railStop _ _
    · exact .of_seq (hrail _ _)
  split
  · next h =>
    subst h
    cases on
    · exact .of_seq (hstop _ _)
    · exact .of_seq (hstart _ _)
  split
  · next h =>
    subst h
    exact .of_seq (hrm _ _ _)
  split
  · next h =>
    subst h
    cases on
    · exact .of_seq rfl
    · exact .of_seq (hstr _ _)
  split
  · next h =>
    subst h
    exact .pgOutputs _
  · next h1 h2 h3 h4 h5 =>
    have hmark : setSeq (markTarget ttype tnum on) c = c := by
      unfold setSeq markTarget
      rw [if_neg h1, if_neg h2, if_neg h3, if_neg h4, if_neg h5]
    rw [hmark]
    exact .of_seq rfl

/-- An action of a table marks its target. -/
theorem seqTake_reached (ttype tnum : Nat) (on : Bool) (c : Chip) (h : 1 ≤ ttype ∧ ttype ≤ 5) :
    seqReached (seqTake ttype tnum on c) ttype tnum = on := by
  unfold seqTake
  rw [(seqMark_kept ttype tnum on _).seqReached]
  exact seqReached_markTarget h.1 h.2 tnum on _

theorem seqTake_state (ttype tnum : Nat) (on : Bool) (c : Chip) : (seqTake ttype tnum on c).seq.state = c.seq.state := by
  unfold seqTake
  rw [(seqMark_kept ttype tnum on _).state]
  refine (markTarget_state _ _ _ _).trans ?_
  split <;> rfl

/-! ### Entries -/

theorem seqEnter_of_up {j : Nat} {c : Chip} (hstate : c.seq.state = .powerUp) (hlen : j < nat c kSeqUpLength) :
    seqEnter j c = entryStart j c := by
  unfold seqEnter
  rw [hstate]
  exact if_pos hlen

/-- The power-down table goes on with an entry at or after the one named, or has completed. -/
theorem seqEnter_of_down (j : Nat) {c : Chip} (hstate : c.seq.state = .powerDown) :
    (∃ i, j ≤ i ∧ seqEnter j c = entryStart i c) ∨ seqEnter j c = seqDownDone c := by
  have henter : seqEnter j c = match nextDown c j with
      | some i => entryStart i c
      | none => seqDownDone c := by
    unfold seqEnter
    rw [hstate] <;> rfl
  rw [henter]
  cases h : nextDown c j with
  | none => exact .inr rfl
  | some i =>
    have hi := List.find?_some h
    simp only [Bool.and_eq_true, decide_eq_true_eq] at hi
    exact .inl ⟨i, hi.1, rfl⟩

theorem entryStart_reached (j : Nat) (c : Chip) (ttype tnum : Nat) :
    seqReached (entryStart j c) ttype tnum = seqReached c ttype tnum := rfl

theorem drives_live {c : Chip} (h : drives c) : live c := (Bool.and_eq_true_iff.mp h).1

/-- An event changes nothing that a table reads. -/
theorem raise_nat (src code : Nat) (value : Int) (c : Chip) (k : Key) : nat (raise src code value c) k = nat c k :=
  nat_congr (by simp) (by simp) (by simp) k

theorem seqWordA_raise (src code : Nat) (value : Int) (c : Chip) (j : Nat) : seqWordA (raise src code value c) j = seqWordA c j := by
  unfold seqWordA
  rw [raise_seq, raise_nat, raise_nat]

theorem seqCond_raise (src code : Nat) (value : Int) (c : Chip) (wtype wnum : Nat) :
    seqCond (raise src code value c) wtype wnum = seqCond c wtype wnum := by
  unfold raise
  split <;> rfl

theorem entryCond_raise (src code : Nat) (value : Int) (c : Chip) (j : Nat) : entryCond (raise src code value c) j = entryCond c j := by
  rw [entryCond, entryCond, seqWordA_raise, seqCond_raise]

theorem nextDown_raise (src code : Nat) (value : Int) (c : Chip) (j : Nat) : nextDown (raise src code value c) j = nextDown c j := by
  unfold nextDown seqReached
  simp only [raise_nat, raise_seq]

theorem setSeq_raise (f : Seq → Seq) (src code : Nat) (value : Int) (c : Chip) :
    setSeq f (raise src code value c) = raise src code value (setSeq f c) := by
  unfold raise
  rw [setSeq_watch]
  split <;> rfl

/-- An entry starts alike after an event. -/
theorem entryStart_raise (j : Nat) (src code : Nat) (value : Int) (c : Chip) :
    (entryStart j (raise src code value c)).seq = (entryStart j c).seq := by
  unfold entryStart setSeq
  rw [entryCond_raise]
  simp only [raise_seq, raise_clock]

theorem seqDownDone_raise (src code : Nat) (value : Int) (c : Chip) :
    (seqDownDone (raise src code value c)).seq = (seqDownDone c).seq := by
  unfold seqDownDone setSeq
  simp only [raise_seq, raise_clock]

/-- The power-down table before its first entry. -/
def downBegun (c : Chip) : Chip := setSeq (fun q => { q with state := .powerDown, upComplete := false, pendingOn := false }) c

theorem seqStartDown_eq (c : Chip) : seqStartDown c = match nextDown (downBegun c) 0 with
    | some i => entryStart i (downBegun c)
    | none => seqDownDone (downBegun c) := rfl

/-- The power-down table runs, or has already completed without a pending on request. -/
theorem seqStartDown_state (c : Chip) : (seqStartDown c).seq.state = .powerDown ∨ (seqStartDown c).seq.state = .off := by
  rw [seqStartDown_eq]
  split
  · exact .inl rfl
  · exact .inr rfl

theorem seqStartDown_watch (c : Chip) : (seqStartDown c).watch = c.watch := by
  rw [seqStartDown_eq]
  split <;> rfl

theorem seqStartDown_raise (src code : Nat) (value : Int) (c : Chip) :
    (seqStartDown (raise src code value c)).seq = (seqStartDown c).seq := by
  have hbegun : downBegun (raise src code value c) = raise src code value (downBegun c) := setSeq_raise _ _ _ _ _
  rw [seqStartDown_eq, seqStartDown_eq, hbegun, nextDown_raise]
  split
  · exact entryStart_raise _ _ _ _ _
  · exact seqDownDone_raise _ _ _ _

namespace KeepsEvents

theorem railToOff (r : Fin 16) (c : Chip) : KeepsEvents c (railToOff r c) := by
  have hrest (d : Chip) : part .watch (Machine.railToOff r d) = part .watch (Machine.railGo r .off d) := by
    unfold Machine.railToOff
    simp
  exact (railGo r _ c).trans (of_watch (hrest c))

theorem railStop (r : Fin 16) (c : Chip) : KeepsEvents c (railStop r c) := by
  unfold Machine.railStop
  split
  · exact railToOff r c
  · exact (railGo r _ c).trans (setRail r _ _)
  · exact railGo r _ c
  · exact .trans (of_watch (by simp [clearKills])) (railToOff r _)
  · exact refl c

theorem rmRefresh (n : Fin 8) (c : Chip) : KeepsEvents c (rmRefresh n c) := by
  unfold Machine.rmRefresh
  dsimp only
  exact .trans (.trans (of_watch (setRm_part .watch (by decide) n _ c)) (when (raise _ _ _) _ _))
    (when (fun d => of_watch (rmLeave_part .watch (by decide) (by decide) n d)) _ _)

/-- A target that is marked unreached. -/
theorem seqMark_off (ttype tnum : Nat) (c : Chip) : KeepsEvents c (seqMark ttype tnum false c) := by
  unfold Machine.seqMark
  dsimp only
  split
  · exact .trans (of_watch (setSeq_part .watch (by decide) _ c)) (railStop _ _)
  split
  · exact of_watch (by simp)
  split
  · exact .trans (of_watch (by simp)) (rmRefresh _ (setRm _ _ (setSeq _ c)))
  split
  · exact of_watch rfl
  split
  · exact of_watch rfl
  · exact refl c

theorem seqTake_off (ttype tnum : Nat) (c : Chip) : KeepsEvents c (seqTake ttype tnum false c) := by
  unfold Machine.seqTake
  refine .trans ?_ (seqMark_off ttype tnum _)
  split <;> exact of_watch rfl

end KeepsEvents

/-! ### The commands -/

/-- The changes of a rail's raw good within the last 10 ms, this one included (R199). -/
def goodTimes (r : Fin 16) (c : Chip) : List Nat :=
  c.clock.us :: c.seq.transitions[r].filter fun t => decide (c.clock.us ≤ t + 10000)

/-- The sequencer after a change of a rail's raw good. -/
def goodChanged (r : Fin 16) (c : Chip) (q : Seq) : Seq :=
  { q with
    rawGood := q.rawGood.set r (rawGoodNow c r)
    good := q.good.set r false
    transitions := q.transitions.set r (if decide (8 ≤ (goodTimes r c).length) then [] else goodTimes r c)
    chatter := q.chatter.set r (q.chatter[r] || decide (8 ≤ (goodTimes r c).length)) }

theorem rawGoodTransition_of_change {r : Fin 16} {c : Chip} (hchange : rawGoodNow c r ≠ c.seq.rawGood[r]) (hdrives : drives c) :
    rawGoodTransition r c = when (decide (8 ≤ (goodTimes r c).length)) (raise 232 1 0) (setSeq (goodChanged r c) c) := by
  unfold rawGoodTransition
  exact if_neg (by rw [beq_false_of_ne hchange, hdrives]; decide)

theorem seqEntryDelayEnd_of_over {j : Nat} {c : Chip} (hentry : c.seq.entry = some j) (hover : delayOver c j) (hdrives : drives c) :
    seqEntryDelayEnd c = seqAct j c := by
  unfold seqEntryDelayEnd
  rw [hentry]
  exact if_pos (by rw [hover, hdrives]; rfl)

theorem seqUpTimeout_of_out {j : Nat} {c : Chip} (hstate : c.seq.state = .powerUp) (hentry : c.seq.entry = some j)
    (hdrives : drives c) (hout : timedOut c j) : seqUpTimeout c =
      if nat c kSeqUpTimeoutAction = 1 then seqOff (raise 230 1 0 c) else seqEnter (j + 1) (raise 230 1 0 c) := by
  unfold seqUpTimeout
  rw [hentry]
  dsimp only
  rw [hstate, hdrives, hout, raise_nat]
  rfl

theorem seqDownTimeout_of_out {j : Nat} {c : Chip} (hstate : c.seq.state = .powerDown) (hentry : c.seq.entry = some j)
    (hdrives : drives c) (hout : timedOut c j) : seqDownTimeout c = seqAct j (raise 231 1 0 c) := by
  unfold seqDownTimeout
  rw [hentry]
  dsimp only
  rw [hstate, hdrives, hout]
  rfl

/-- An entry of the power-up table acts on its target, and the next one starts (R202, R203). -/
theorem seqAct_up {j : Nat} {c : Chip} (hstate : c.seq.state = .powerUp) (hlen : j + 1 < nat c kSeqUpLength) :
    (seqAct j c).seq.state = .powerUp ∧ (seqAct j c).seq.entry = some (j + 1) ∧
      seqReached (seqAct j c) (field (seqWordA c j) 28 4) (field (seqWordA c j) 24 4) = true := by
  obtain ⟨d, hd⟩ : ∃ d, d = seqTake (field (seqWordA c j) 28 4) (field (seqWordA c j) 24 4) true c := ⟨_, rfl⟩
  have hact : seqAct j c = seqEnter (j + 1) d := by
    unfold seqAct
    rw [hstate, hd]
    rfl
  have hstate' : d.seq.state = .powerUp := by rw [hd, seqTake_state, hstate]
  have hnat : nat d kSeqUpLength = nat c kSeqUpLength := by
    rw [hd]
    exact nat_congr (by simp) (by simp) (by simp) _
  rw [hact, seqEnter_of_up hstate' (by rw [hnat]; exact hlen), entryStart_reached]
  refine ⟨hstate', rfl, ?_⟩
  by_cases htype : 1 ≤ field (seqWordA c j) 28 4 ∧ field (seqWordA c j) 28 4 ≤ 5
  · rw [hd]
    exact seqTake_reached _ _ _ _ htype
  · exact seqReached_other htype _ _

/-- An entry of the power-down table acts on its target, and a later one starts, if one has one to act on (R204). -/
theorem seqAct_down {j : Nat} {c : Chip} (hstate : c.seq.state = .powerDown)
    (htype : 1 ≤ field (seqWordA c j) 28 4 ∧ field (seqWordA c j) 28 4 ≤ 5) :
    seqReached (seqAct j c) (field (seqWordA c j) 28 4) (field (seqWordA c j) 24 4) = false ∧ (seqAct j c).seq.entry ≠ some j ∧
      KeepsEvents c (seqAct j c) := by
  obtain ⟨d, hd⟩ : ∃ d, d = seqTake (field (seqWordA c j) 28 4) (field (seqWordA c j) 24 4) false c := ⟨_, rfl⟩
  have hact : seqAct j c = seqEnter (j + 1) d := by
    unfold seqAct
    rw [hstate, hd]
    rfl
  have hstate' : d.seq.state = .powerDown := by rw [hd, seqTake_state, hstate]
  have hreached : seqReached d (field (seqWordA c j) 28 4) (field (seqWordA c j) 24 4) = false := by
    rw [hd]
    exact seqTake_reached _ _ _ _ htype
  have hevents : KeepsEvents c d := by
    rw [hd]
    exact KeepsEvents.seqTake_off _ _ c
  rw [hact]
  rcases seqEnter_of_down (j + 1) hstate' with ⟨i, hi, h⟩ | h <;> rw [h]
  · refine ⟨hreached, fun heq => ?_, hevents⟩
    have : i = j := Option.some.inj heq
    omega
  · exact ⟨hreached, fun heq => (nomatch show (none : Option Nat) = some j from heq), hevents⟩

/-- Settles O19: an entry's action marks its target and the table goes on; a timeout raises its event first. -/
theorem sequencerCommands : Obligations.SequencerCommands := by
  refine ⟨?_, ?_, ?_, ?_, ?_, ?_, ?_⟩
  case refine_1 =>
    intro s r hchange hdrives
    refine gives_of_answer _ rfl (by simp +contextual [Only]) ?_
    rw [rawGoodTransition_of_change hchange hdrives]
    have hlen : (goodTimes r s.chip).length =
        1 + (s.chip.seq.transitions[r].filter fun t => decide (s.chip.clock.us ≤ t + 10000)).length := Nat.add_comm _ 1
    rw [← hlen]
    have hseq : (when (decide (8 ≤ (goodTimes r s.chip).length)) (raise 232 1 0) (setSeq (goodChanged r s.chip) s.chip)).seq =
        goodChanged r s.chip s.chip.seq := by
      unfold when
      split
      · rw [raise_seq]
        rfl
      · rfl
    rw [hseq]
    refine ⟨rfl, rfl, Vector.getElem_set_self _, ?_⟩
    by_cases h8 : 8 ≤ (goodTimes r s.chip).length
    · rw [decide_eq_true h8, if_pos h8]
      exact raise_watch_congr _ _ _ rfl
    · rw [decide_eq_false h8, if_neg h8]
      rfl
  case refine_2 =>
    intro s r hnow hraw hdrives
    exact gives_of_answer _ (congrArg (answer s) (if_pos (by rw [hnow, hraw, hdrives]; rfl))) (by simp +contextual [Only]) rfl
  case refine_3 =>
    intro s j hstate hentry hover hdrives hlen
    refine gives_of_answer _ rfl (by simp +contextual [Only]) ?_
    rw [seqEntryDelayEnd_of_over hentry hover hdrives]
    exact seqAct_up hstate hlen
  case refine_4 =>
    intro s j hstate hentry hdrives hout haction hlen
    refine gives_of_answer _ rfl (by simp +contextual [Only]) ?_
    rw [seqUpTimeout_of_out hstate hentry hdrives hout, if_neg haction,
      seqEnter_of_up (by rw [raise_seq]; exact hstate) (by rw [raise_nat]; exact hlen)]
    unfold entryStart
    rw [entryCond_raise]
    refine ⟨?_, rfl⟩
    unfold setSeq
    simp only [raise_seq, raise_clock]
  case refine_5 =>
    intro s j hstate hentry hdrives hout haction
    refine gives_of_answer _ rfl (by simp +contextual [Only]) ?_
    have hoff : seqOff (raise 230 1 0 s.chip) = seqStartDown (raise 230 1 0 s.chip) := by
      unfold seqOff
      rw [raise_seq, hstate]
    rw [seqUpTimeout_of_out hstate hentry hdrives hout, if_pos haction, hoff]
    exact ⟨seqStartDown_raise _ _ _ _, seqStartDown_state _, seqStartDown_watch _⟩
  case refine_6 =>
    intro s j hstate hentry hdrives hout hlow hhigh
    refine gives_of_answer _ rfl (by simp +contextual [Only]) ?_
    have hword := seqWordA_raise 231 1 0 s.chip j
    rw [seqDownTimeout_of_out hstate hentry hdrives hout, ← hword]
    obtain ⟨hreached, hnext, hevents⟩ := seqAct_down (j := j) (c := raise 231 1 0 s.chip) (by rw [raise_seq]; exact hstate)
      (by rw [hword]; exact ⟨hlow, hhigh⟩)
    refine ⟨hreached, hevents.subset ?_, hnext⟩
    rw [raise, not_safe_of_live (drives_live hdrives)]
    exact List.mem_append_right _ (List.mem_singleton.mpr rfl)
  case refine_7 =>
    intro s hstate hdrives hpassed hlen
    refine gives_of_answer _ (congrArg (answer s) (if_pos (by rw [hstate, hdrives, hpassed]; rfl))) (by simp +contextual [Only]) ?_
    rw [seqStartUp, seqEnter_of_up]
    · exact ⟨rfl, rfl, rfl, rfl, rfl⟩
    · rfl
    · exact hlen

end Sys2Proof.Machine
end

section
/-! Rail states (R84 to R88, R112, Table 3.3). -/

namespace Sys2Proof.Machine

theorem setRail_setRail (r : Fin 16) (f g : Rail → Rail) (c : Chip) : setRail r f (setRail r g c) = setRail r (fun x => f (g x)) c := by
  simp [setRail]

theorem setRail_ne {r q : Fin 16} (h : q ≠ r) (f : Rail → Rail) (c : Chip) : (setRail r f c).rails[q] = c.rails[q] := by
  rw [setRail_rails, if_neg (Ne.symm h)]

/-- A change of a rail is the same where the rails are. -/
theorem setRail_rails_congr {c d : Chip} (r : Fin 16) (f : Rail → Rail) (h : d.rails = c.rails) :
    (setRail r f d).rails = (setRail r f c).rails := by
  unfold setRail
  simp only [h]

theorem activePhases_congr {c d : Chip} (hod : part .od d = part .od c) (hfuses : part .fuses d = part .fuses c)
    (hcan : part .can d = part .can c) (hphases : d.phases = c.phases) (r : Fin 16) : activePhases d r = activePhases c r := by
  unfold activePhases
  rw [phasesOf_congr hod hfuses hcan, hphases]

theorem activePhases_nodup (c : Chip) (r : Fin 16) : (activePhases c r).Nodup := (phasesOf_nodup c r).filter _

/-- Each turn of a loop over a rail's phases leaves the other parts. -/
theorem each_setPhase_rails (l : List (Fin 32)) (g : Fin 32 → Phase → Phase) (c : Chip) :
    (each l (fun q => setPhase q (g q)) c).rails = c.rails := each_part .rails _ _ _ fun p d => by simp

/-- Interleaving sets offsets alone (R78). -/
theorem interleave_phase {β : Type} (f : Phase → β) (hf : ∀ (x : Phase) o, f { x with offsetNext := o } = f x) (r : Fin 16) (c : Chip)
    (p : Fin 32) : f (interleave r c).phases[p] = f c.phases[p] := by
  unfold interleave
  refine each_keeps (P := fun d => f d.phases[p] = f c.phases[p]) (fun e _ d hd => ?_) rfl
  by_cases h : p = e.1
  · subst h
    rw [setPhase_self]
    split
    · exact hd
    · exact (hf _ _).trans hd
  · rw [setPhase_ne h, hd]

/-! ### OFF and ON-DELAY -/

/-- A rail that has come to OFF (R87). -/
def broughtOff (now : Nat) (x : Rail) : Rail :=
  { wentTo x .off now with
    vcHolds := false, vcSlew := none, ref := 0, slope := 0, iLim := false, dutyLim := false
    period := 0, periodNext := none, edgeDelay := none, edgeEvery := 1, loop := {}, icmd := 0 }

theorem railToOff_rails (r : Fin 16) (c : Chip) : (railToOff r c).rails = (setRail r (broughtOff c.clock.us) c).rails := by
  have hlast (d : Chip) (f : Seq → Seq) : (publishLimit r (setSeq f d)).rails = d.rails := by
    rw [show (publishLimit r (setSeq f d)).rails = (setSeq f d).rails from publishLimit_part .rails (by decide) _ _]
    rfl
  have hloops (d : Chip) (l : List Nat) (k : List (Fin 32)) (f : Nat → Chan → Chan) (g : Fin 32 → Phase → Phase) :
      (each k (fun p => setPhase p (g p)) (each l (fun ch => setChan (Fin.ofNat 256 ch) (f ch)) d)).rails = d.rails := by
    rw [each_setPhase_rails]
    exact each_part .rails _ _ _ fun p d => by simp
  unfold railToOff
  dsimp only
  rw [hlast, setRail_rails_congr r _ ((hloops _ _ _ (fun _ x => { x with rippleFail := false }) _).trans
    ((railLow_rails r _).trans (railGo_rails r .off c))), setRail_setRail]
  rfl

/-- A phase of a rail that has come to OFF. -/
def readmitted (x : Phase) : Phase :=
  { lowered x with
    dropped := false, cause := .none, pendingCause := .none, offsetForced := false, integ := 0, bal := 0 }

theorem railToOff_phases {r : Fin 16} {c : Chip} {p : Fin 32} (h : p ∈ phasesOf c r) :
    (railToOff r c).phases[p] = readmitted c.phases[p] := by
  have hlast (d : Chip) (f : Rail → Rail) (g : Seq → Seq) : (publishLimit r (setSeq g (setRail r f d))).phases = d.phases := by
    rw [show (publishLimit r (setSeq g (setRail r f d))).phases = (setSeq g (setRail r f d)).phases from
      publishLimit_part .phases (by decide) _ _]
    rfl
  have hchans (d : Chip) (l : List Nat) (f : Nat → Chan → Chan) :
      (each l (fun ch => setChan (Fin.ofNat 256 ch) (f ch)) d).phases = d.phases := each_part .phases _ _ _ fun p d => by simp
  unfold railToOff
  dsimp only
  rw [hlast, each_setPhase (phasesOf_nodup _ _) (fun _ x => { x with
    dropped := false, cause := .none, pendingCause := .none, offsetForced := false, integ := 0, bal := 0 }) _ p]
  rw [if_pos, hchans, railLow_phases, railGo_phases, if_pos]
  · rfl
  · rw [phasesOf_congr (c := c) (by simp) (by simp) (by simp)]
    exact h
  · rw [phasesOf_congr (c := c) (by simp) (by simp) (by simp)]
    exact h

/-- Entry to ON-DELAY, before the checks of the rail's channels. -/
def delayEntered (r : Fin 16) (c : Chip) : Chip :=
  setRail r (fun x => { x with prebias := false, fbLost := false }) (railGo r .onDelay c)

theorem enterOnDelay_cases (r : Fin 16) (c : Chip) :
    enterOnDelay r c = delayEntered r c ∨ enterOnDelay r c = railFault r (delayEntered r c) := by
  unfold enterOnDelay
  dsimp only
  split
  · exact .inl rfl
  · exact .inr rfl

theorem delayEntered_rails (r : Fin 16) (c : Chip) : (delayEntered r c).rails =
    (setRail r (fun x => { wentTo x .onDelay c.clock.us with prebias := false, fbLost := false }) c).rails := by
  rw [delayEntered, setRail_rails_congr r _ (railGo_rails r .onDelay c), setRail_setRail]

theorem delayEntered_phases (r : Fin 16) (c : Chip) : (delayEntered r c).phases = c.phases := railGo_phases r .onDelay c

/-- A rail that enters ON-DELAY is there, or in FAULT with its phases low; its reference and the other rails stay. -/
theorem enterOnDelay_facts (r : Fin 16) (c : Chip) :
    ((enterOnDelay r c).rails[r].state = .onDelay ∨ (enterOnDelay r c).rails[r].state = .fault) ∧
    (enterOnDelay r c).rails[r].ref = c.rails[r].ref ∧ (∀ q : Fin 16, q ≠ r → (enterOnDelay r c).rails[q] = c.rails[q]) ∧
    ∀ p : Fin 32, (enterOnDelay r c).phases[p] = c.phases[p] ∨ (enterOnDelay r c).phases[p] = lowered c.phases[p] := by
  rcases enterOnDelay_cases r c with h | h <;> rw [h]
  · rw [delayEntered_rails, setRail_self, delayEntered_phases]
    exact ⟨.inl rfl, rfl, fun q hq => setRail_ne hq _ c, fun p => .inl rfl⟩
  · refine ⟨.inr ?_, ?_, fun q hq => ?_, fun p => ?_⟩
    · rw [railFault_rails, setRail_self]
      rfl
    · rw [railFault_rails, setRail_self, delayEntered_rails, setRail_self]
      rfl
    · rw [railFault_rails, setRail_ne hq, delayEntered_rails, setRail_ne hq]
    · rw [railFault_phases, delayEntered_phases]
      split
      · exact .inr rfl
      · exact .inl rfl

theorem leaveOff_rails (r : Fin 16) (c : Chip) : (leaveOff r c).rails = c.rails := leaveOff_part .rails (by decide) r c

theorem leaveOff_phases (r : Fin 16) (c : Chip) : (leaveOff r c).phases = c.phases := leaveOff_part .phases (by decide) r c

/-- The start condition on a rail that is OFF: it stays, or it leaves for ON-DELAY (Table 3.3). -/
theorem railStart_of_off {r : Fin 16} {c : Chip} (hoff : c.rails[r].state = .off) :
    railStart r c = c ∨ (startCond c r = true ∧ railStart r c = leaveOff r (enterOnDelay r c)) := by
  unfold railStart
  rw [hoff]
  split
  · exact .inl rfl
  · next h =>
    dsimp only
    split
    · exact .inl rfl
    · exact .inr ⟨by simpa using h, rfl⟩

theorem startCond_of_tableKept {c d : Chip} (h : TableKept c d) (hod : part .od d = part .od c)
    (hfuses : part .fuses d = part .fuses c) (hcan : part .can d = part .can c) (r : Fin 16) : startCond d r = startCond c r := by
  obtain ⟨chatter, out, h⟩ := h
  unfold startCond startRule hasUpEntry
  rw [h, flag_congr hod hfuses hcan]
  simp only [nat_congr hod hfuses hcan]

/-- What the start condition leaves of a rail that is OFF (Table 3.3). -/
theorem railStart_facts {r : Fin 16} {c : Chip} (hoff : c.rails[r].state = .off) :
    ((railStart r c).rails[r].state = .off ∨ (railStart r c).rails[r].state = .onDelay ∨ (railStart r c).rails[r].state = .fault) ∧
    (startCond c r = false → (railStart r c).rails[r].state = .off) ∧ (railStart r c).rails[r].ref = c.rails[r].ref ∧
    (∀ p : Fin 32, (railStart r c).phases[p] = c.phases[p] ∨ (railStart r c).phases[p] = lowered c.phases[p]) ∧
    ∀ q : Fin 16, q ≠ r → (railStart r c).rails[q] = c.rails[q] := by
  rcases railStart_of_off hoff with h | ⟨hcond, h⟩ <;> rw [h]
  · exact ⟨.inl hoff, fun _ => hoff, rfl, fun p => .inl rfl, fun q hq => rfl⟩
  · obtain ⟨hstate, href, hothers, hphases⟩ := enterOnDelay_facts r c
    rw [leaveOff_rails, leaveOff_phases]
    refine ⟨.inr hstate, fun hno => ?_, href, hphases, hothers⟩
    rw [hno] at hcond
    exact absurd hcond Bool.false_ne_true

/-- The end of a ramp-down (R87). -/
theorem rampDownComplete_facts (r : Fin 16) (c : Chip) :
    ((railStart r (railToOff r c)).rails[r].state = .off ∨ (railStart r (railToOff r c)).rails[r].state = .onDelay ∨
      (railStart r (railToOff r c)).rails[r].state = .fault) ∧
    (startCond c r = false → (railStart r (railToOff r c)).rails[r].state = .off) ∧
    (railStart r (railToOff r c)).rails[r].ref = 0 ∧
    (∀ p ∈ phasesOf c r, (railStart r (railToOff r c)).phases[p].drven = false ∧ (railStart r (railToOff r c)).phases[p].duty = 0 ∧
      (railStart r (railToOff r c)).phases[p].dropped = false) ∧
    ∀ q : Fin 16, q ≠ r → (railStart r (railToOff r c)).rails[q] = c.rails[q] := by
  have hstart : startCond (railToOff r c) r = startCond c r :=
    startCond_of_tableKept (.railToOff r c) (by simp) (by simp) (by simp) r
  have hphase (p : Fin 32) (hp : p ∈ phasesOf c r) := railToOff_phases hp
  have hrails := railToOff_rails r c
  generalize railToOff r c = d at *
  have hself : d.rails[r] = broughtOff c.clock.us c.rails[r] := by rw [hrails, setRail_self]
  obtain ⟨hstate, hno, href, hphases, hothers⟩ := railStart_facts (r := r) (c := d) (by rw [hself]; rfl)
  refine ⟨hstate, fun h => hno (hstart.trans h), href.trans (by rw [hself]; rfl), fun p hp => ?_, fun q hq => ?_⟩
  · rcases hphases p with hp' | hp' <;> rw [hp', hphase p hp] <;> exact ⟨rfl, rfl, rfl⟩
  · rw [hothers q hq, hrails, setRail_ne hq]

end Sys2Proof.Machine
end

section
/-! The rail state commands (R85 to R88, R112, Table 3.3). -/

namespace Sys2Proof.Machine

/-! ### The end of the on-delay -/

/-- The on-delay's end but for the phases and what is published. -/
def rampStarted (r : Fin 16) (c : Chip) : Chip :=
  let c := setRail r (fun x => { x with
    ref := if railType c r == 2 then 0 else if chanInt c (32 + r) < 0 then 0 else chanInt c (32 + r)
    prebias := !(railType c r == 2) && decide (0 < if chanInt c (32 + r) < 0 then 0 else chanInt c (32 + r))
    target := num c (kRailTarget r), command := num c (kRailTarget r)
    vcHolds := false, period := nominalTicks c r, periodNext := none, loop := {}, icmd := 0 }) (railGo r .ramp c)
  setRail r (fun x => { x with slope := slopeOf c r (nat c (kRailRampTime r)) }) c

theorem rampStarted_rail (r : Fin 16) (c : Chip) :
    (rampStarted r c).rails[r].state = .ramp ∧ (rampStarted r c).rails[r].vcHolds = false ∧
    (rampStarted r c).rails[r].ref = (if railType c r = 2 then 0 else max 0 (chanInt c (32 + r))) ∧
    (rampStarted r c).rails[r].command = num c (kRailTarget r) ∧ (rampStarted r c).rails[r].target = num c (kRailTarget r) ∧
    ∀ q : Fin 16, q ≠ r → (rampStarted r c).rails[q] = c.rails[q] := by
  have hmax (v : Int) : (if v < 0 then 0 else v) = max 0 v := by omega
  unfold rampStarted
  dsimp only
  rw [setRail_setRail, setRail_self, railGo_self, hmax]
  exact ⟨rfl, rfl, by simp only [beq_iff_eq], rfl, rfl, fun q hq => by rw [setRail_ne hq, railGo_ne hq]⟩

/-- The command of a BUCK rail is published as its ramp begins. -/
def rampPublished (r : Fin 16) (c : Chip) : Chip := if railType c r == 2 then rampStarted r c else publishCommand r (rampStarted r c)

/-- A phase as its rail's ramp begins. -/
def ramping (c : Chip) (bidir : Bool) (r : Fin 16) (p : Fin 32) (x : Phase) : Phase :=
  { x with
    drven := true, enabled := true, integ := 0, bal := 0, pendingCause := senseCause c p.val
    dutyNext := if bidir then some (divQ31 (val c (32 + r)) (val c (nat c (kRailInputChannel r)))) else some 0 }

theorem onDelayElapsed_of_delay {r : Fin 16} {c : Chip} (hdelay : c.rails[r].state = .onDelay) (hdrives : drives c) :
    onDelayElapsed r c = publishLimit r (interleave r (each (activePhases (rampPublished r c) r)
      (fun p => setPhase p (ramping (rampPublished r c) (railType c r == 2) r p)) (rampPublished r c))) := by
  unfold onDelayElapsed
  rw [if_neg (by rw [hdelay, hdrives]; decide)]
  rfl

theorem rampPublished_part {pt : Part} (hrails : pt ≠ .rails) (hvcs : pt ≠ .vcs) (hwatch : pt ≠ .watch) (hchans : pt ≠ .chans)
    (r : Fin 16) (c : Chip) : part pt (rampPublished r c) = part pt c := by
  unfold rampPublished rampStarted
  split <;> simp [*]

theorem rampPublished_rails (r : Fin 16) (c : Chip) : (rampPublished r c).rails = (rampStarted r c).rails := by
  unfold rampPublished
  split
  · rfl
  · exact publishCommand_part .rails (by decide) r _

theorem onDelayElapsed_rails {r : Fin 16} {c : Chip} (hdelay : c.rails[r].state = .onDelay) (hdrives : drives c) :
    (onDelayElapsed r c).rails = (rampStarted r c).rails := by
  have hlast (d : Chip) : (publishLimit r (interleave r d)).rails = d.rails :=
    (publishLimit_part .rails (by decide) r _).trans (interleave_part .rails (by decide) r d)
  rw [onDelayElapsed_of_delay hdelay hdrives, hlast, each_setPhase_rails, rampPublished_rails]

/-- The active phases of a rail are driven once its on-delay is over. -/
theorem onDelayElapsed_driven {r : Fin 16} {c : Chip} (hdelay : c.rails[r].state = .onDelay) (hdrives : drives c) {p : Fin 32}
    (hp : p ∈ activePhases c r) : (onDelayElapsed r c).phases[p].drven = true ∧ (onDelayElapsed r c).phases[p].enabled = true := by
  have hlast (d : Chip) : (publishLimit r d).phases = d.phases := publishLimit_part .phases (by decide) r d
  have hactive : activePhases (rampPublished r c) r = activePhases c r :=
    activePhases_congr (rampPublished_part (by decide) (by decide) (by decide) (by decide) r c)
      (rampPublished_part (by decide) (by decide) (by decide) (by decide) r c)
      (rampPublished_part (by decide) (by decide) (by decide) (by decide) r c)
      (rampPublished_part (pt := .phases) (by decide) (by decide) (by decide) (by decide) r c) r
  rw [onDelayElapsed_of_delay hdelay hdrives, hlast, interleave_phase Phase.drven (fun _ _ => rfl),
    interleave_phase Phase.enabled (fun _ _ => rfl), each_setPhase (activePhases_nodup _ _), if_pos (by rw [hactive]; exact hp)]
  exact ⟨rfl, rfl⟩

/-! ### The other commands -/

theorem rampComplete_rails {r : Fin 16} {c : Chip} (hramp : c.rails[r].state = .ramp) (hdrives : drives c)
    (hready : (if railType c r = 2 then bidirQuiet c r (nat c (kRailRampTime r)) else refAtTarget c r) = true) :
    (rampComplete r c).rails = (railGo r .regulate c).rails := by
  have hready' : (if railType c r == 2 then bidirQuiet c r (nat c (kRailRampTime r)) else refAtTarget c r) = true := by
    simpa using hready
  unfold rampComplete
  rw [hramp, hdrives, hready']
  exact each_part .rails _ _ _ fun m d => by simp

theorem rampDown_rails (r : Fin 16) (c : Chip) : (rampDown r c).rails = (setRail r (fun x => { wentTo x .rampDown c.clock.us with
    slope := if railType c r = 2 then ratAbs (ofQ 16 c.rails[r].icmd) * 1000000 / (nat c (kRailRampDownTime r) : Rat)
      else slopeOf c r (nat c (kRailRampDownTime r)) }) c).rails := by
  unfold rampDown
  dsimp only
  rw [setRail_rails_congr r _ (railGo_rails r .rampDown c), setRail_setRail]
  simp only [beq_iff_eq]

/-- Feedback is lost by a switching rail that the unit drives (R112). -/
theorem feedbackLost_of_switching {r : Fin 16} {c : Chip} (hswitch : switching c.rails[r]) (hdrives : drives c) :
    feedbackLost r c = raise (32 + r) 1 0 (setRail r (fun x => { x with fbLost := true })
      (railGo r .fbHold (each (phasesOf c r) (fun p => setPhase p fun x => { x with dutyNext := none }) c))) := by
  unfold feedbackLost
  rw [hswitch, hdrives]
  rfl

theorem feedbackLost_rails {r : Fin 16} {c : Chip} (hswitch : switching c.rails[r]) (hdrives : drives c) :
    (feedbackLost r c).rails = c.rails.set r { wentTo c.rails[r] .fbHold c.clock.us with fbLost := true } := by
  have hrails (l : List (Fin 32)) (g : Fin 32 → Phase → Phase) := each_setPhase_rails l g c
  have hclock (l : List (Fin 32)) (g : Fin 32 → Phase → Phase) : (each l (fun q => setPhase q (g q)) c).clock = c.clock :=
    each_part .clock _ _ _ fun p d => by simp
  rw [feedbackLost_of_switching hswitch hdrives, raise_rails, setRail_rails_congr r _ (railGo_rails r .fbHold _), setRail_setRail,
    setRail_rails_congr r _ (hrails _ fun _ x => { x with dutyNext := none }), hclock _ fun _ x => { x with dutyNext := none }]
  rfl

theorem feedbackLost_phases {r : Fin 16} {c : Chip} (hswitch : switching c.rails[r]) (hdrives : drives c) (p : Fin 32) :
    (feedbackLost r c).phases[p] = if p ∈ phasesOf c r then { c.phases[p] with dutyNext := none } else c.phases[p] := by
  have hlast (d : Chip) (f : Rail → Rail) : (setRail r f (railGo r .fbHold d)).phases = d.phases := railGo_phases r .fbHold d
  rw [feedbackLost_of_switching hswitch hdrives, raise_phases, hlast,
    each_setPhase (phasesOf_nodup c r) (fun _ x => { x with dutyNext := none })]

/-- The last event to arrive is the one just raised, unless the unit is in the safe state. -/
theorem raise_getLast {c : Chip} (hsafe : c.watch.safe = false) (src code : Nat) (value : Int) :
    (raise src code value c).watch.arrived.getLast? =
      some { src := Fin.ofNat 256 src, code := BitVec.ofNat 8 code, value := value } := by
  unfold raise
  rw [hsafe]
  exact List.getLast?_concat

theorem railGo_safe (r : Fin 16) (st : RailState) (c : Chip) : (railGo r st c).watch.safe = c.watch.safe := by
  unfold railGo vcAbort when
  dsimp only
  repeat' split
  all_goals first | rfl | exact raise_safe _ _ _ _

theorem feedbackLost_event {r : Fin 16} {c : Chip} (hswitch : switching c.rails[r]) (hdrives : drives c) :
    (feedbackLost r c).watch.arrived.getLast? = some { src := Fin.ofNat 256 (32 + r), code := 1, value := 0 } := by
  rw [feedbackLost_of_switching hswitch hdrives]
  refine raise_getLast ?_ _ _ _
  rw [setRail_watch, railGo_safe, show (each _ _ c).watch = c.watch from each_part .watch _ _ _ fun p d => by simp]
  exact not_safe_of_live (drives_live hdrives)

/-- The periods over which the duties fall after FB-HOLD (R112). -/
def fallPeriods (r : Fin 16) (c : Chip) : Nat := max 1 ((nat c (kRailRampDownTime r) : Rat) * railHz c r / 1000000).floor.toNat

theorem fbHoldElapsed_of_hold {r : Fin 16} {c : Chip} (hhold : c.rails[r].state = .fbHold) (hdrives : drives c) :
    fbHoldElapsed r c = setRail r (fun x => { x with rampOver := fallPeriods r c }) (railGo r .dutyRamp
      (each (phasesOf c r) (fun p => setPhase p fun x => { x with rampFrom := x.duty, rampLeft := fallPeriods r c }) c)) := by
  unfold fbHoldElapsed
  rw [hhold, hdrives]
  rfl

theorem clearKills_rails (r : Fin 16) (c : Chip) : (clearKills r c).rails = (setRail r (fun x => { x with killed := false }) c).rails :=
  setRail_rails_congr r _ (each_setPhase_rails _ (fun _ x => { x with kill := false }) c)

theorem clearKills_phases {r : Fin 16} {c : Chip} {p : Fin 32} (hp : p ∈ phasesOf c r) :
    (clearKills r c).phases[p] = { c.phases[p] with kill := false } := by
  show (each _ _ c).phases[p] = _
  rw [each_setPhase (phasesOf_nodup c r) (fun _ x => { x with kill := false }), if_pos hp]

/-- A rail enters ON-DELAY where its channels pass. -/
theorem enterOnDelay_of_passes {r : Fin 16} {c : Chip} (hvoltage : passes c (32 + r))
    (hinput : passes c (nat c (kRailInputChannel r))) : enterOnDelay r c = delayEntered r c := by
  have hchans : part .chans (delayEntered r c) = part .chans c := by simp [delayEntered]
  have hnat (k : Key) : nat (delayEntered r c) k = nat c k :=
    nat_congr (by simp [delayEntered]) (by simp [delayEntered]) (by simp [delayEntered]) k
  show (if passes (delayEntered r c) (32 + r) && passes (delayEntered r c) (nat (delayEntered r c) (kRailInputChannel r)) then _ else _) = _
  rw [passes_congr hchans, passes_congr hchans, hnat, hvoltage, hinput]
  rfl

theorem fbHoldElapsed_rails {r : Fin 16} {c : Chip} (hhold : c.rails[r].state = .fbHold) (hdrives : drives c) :
    (fbHoldElapsed r c).rails = c.rails.set r { wentTo c.rails[r] .dutyRamp c.clock.us with rampOver := fallPeriods r c } := by
  have hrails (l : List (Fin 32)) (g : Fin 32 → Phase → Phase) := each_setPhase_rails l g c
  have hclock (l : List (Fin 32)) (g : Fin 32 → Phase → Phase) : (each l (fun q => setPhase q (g q)) c).clock = c.clock :=
    each_part .clock _ _ _ fun p d => by simp
  rw [fbHoldElapsed_of_hold hhold hdrives, setRail_rails_congr r _ (railGo_rails r .dutyRamp _), setRail_setRail,
    setRail_rails_congr r _ (hrails _ fun _ x => { x with rampFrom := x.duty, rampLeft := fallPeriods r c }),
    hclock _ fun _ x => { x with rampFrom := x.duty, rampLeft := fallPeriods r c }]
  rfl

/-- A restart after a cleared cause (R88). -/
theorem railAutoRestart_facts {r : Fin 16} {c : Chip} (hcleared : causeCleared c r) :
    (enterOnDelay r (clearKills r c)).rails = c.rails.set r { wentTo c.rails[r] .onDelay c.clock.us with
      killed := false, prebias := false, fbLost := false } ∧
    ∀ p ∈ phasesOf c r, (enterOnDelay r (clearKills r c)).phases[p].kill = false := by
  have hchans : part .chans (clearKills r c) = part .chans c := by simp [clearKills]
  have hnat (k : Key) : nat (clearKills r c) k = nat c k :=
    nat_congr (by simp [clearKills]) (by simp [clearKills]) (by simp [clearKills]) k
  have hclock : (clearKills r c).clock = c.clock := clearKills_part .clock (by decide) (by decide) r c
  unfold causeCleared at hcleared
  obtain ⟨hpass, -⟩ := Bool.and_eq_true_iff.mp hcleared
  obtain ⟨hvoltage, hinput⟩ := Bool.and_eq_true_iff.mp hpass
  rw [enterOnDelay_of_passes (by rw [passes_congr hchans]; exact hvoltage) (by rw [passes_congr hchans, hnat]; exact hinput)]
  refine ⟨?_, fun p hp => ?_⟩
  · rw [delayEntered_rails, setRail_rails_congr r _ (clearKills_rails r c), setRail_setRail, hclock]
    rfl
  · rw [delayEntered_phases, clearKills_phases hp]

/-- Settles O6: each command is one change of its rail and one of its phases. -/
theorem railStateCommands : Obligations.RailStateCommands := by
  refine ⟨?_, ?_, ?_, ?_, ?_, ?_, ?_, ?_⟩
  case refine_1 =>
    intro s r hdelay hdrives
    refine gives_of_answer _ rfl (by simp +contextual [Only]) ?_
    obtain ⟨hstate, hholds, href, hcommand, htarget, hothers⟩ := rampStarted_rail r s.chip
    rw [onDelayElapsed_rails hdelay hdrives]
    exact ⟨hstate, hholds, href, hcommand, htarget, fun p hp => onDelayElapsed_driven hdelay hdrives hp, hothers⟩
  case refine_2 =>
    intro s r hramp hdrives hready
    refine gives_of_answer _ rfl (by simp +contextual [Only]) ?_
    exact (rampComplete_rails hramp hdrives hready).trans (railGo_rails r .regulate s.chip)
  case refine_3 =>
    intro s r hdelay hdrives
    exact gives_of_answer _ (congrArg (answer s) (if_pos (by rw [hdelay, hdrives]; rfl))) (by simp +contextual [Only])
      (rampDown_rails r s.chip)
  case refine_4 =>
    intro s r hdown hdrives hready
    refine gives_of_answer _ (congrArg (answer s) (if_pos (by rw [hdown, hdrives]; simpa using hready))) (by simp +contextual [Only]) ?_
    exact rampDownComplete_facts r s.chip
  case refine_5 =>
    intro s r hswitch hdrives
    refine gives_of_answer _ rfl (by simp +contextual [Only]) ⟨feedbackLost_rails hswitch hdrives, fun p hp => ?_,
      feedbackLost_event hswitch hdrives⟩
    rw [feedbackLost_phases hswitch hdrives, if_pos hp]
    exact ⟨rfl, rfl⟩
  case refine_6 =>
    intro s r hhold hdrives
    refine gives_of_answer _ rfl (by simp +contextual [Only]) ?_
    have hrails := fbHoldElapsed_rails hhold hdrives
    have hover : (fbHoldElapsed r s.chip).rails[r].rampOver = fallPeriods r s.chip := by
      rw [hrails]
      simp
    rw [hover]
    refine ⟨hrails, Nat.le_max_left _ _, fun p hp => ?_⟩
    rw [fbHoldElapsed_of_hold hhold hdrives]
    show (railGo r .dutyRamp _).phases[p] = _
    rw [railGo_phases, each_setPhase (phasesOf_nodup s.chip r) (fun _ x => { x with
      rampFrom := x.duty, rampLeft := fallPeriods r s.chip }), if_pos hp]
  case refine_7 =>
    intro s r hramp hdrives hzero
    refine gives_of_answer _ (congrArg (answer s) (if_pos (by
      rw [hramp, hdrives, List.all_eq_true.mpr fun p hp => beq_iff_eq.mpr (hzero p hp)]; rfl))) (by simp +contextual [Only]) ?_
    refine ⟨railFault_rails r s.chip, fun p hp => ?_⟩
    rw [railFault_phases, if_pos hp]
    exact ⟨rfl, rfl, rfl⟩
  case refine_8 =>
    intro s r hfault hdrives hauto hcond hcleared
    refine gives_of_answer _ (congrArg (answer s) (if_pos (by rw [hfault, hdrives, hauto, hcond, hcleared]; rfl)))
      (by simp +contextual [Only]) (railAutoRestart_facts hcleared)

end Sys2Proof.Machine
end

section
/-! Phase protection, period starts and synchronisation (R71 to R83). -/

namespace Sys2Proof.Machine

/-! ### Kills -/

theorem killRail_other {r q : Fin 16} (h : q ≠ r) (c : Chip) : (killRail r c).rails[q] = c.rails[q] := by
  have hlatched : (killLatched r c).rails[q] = c.rails[q] := setRail_ne h _ c
  rcases killRail_cases r c with hk | hk | hk <;> rw [hk]
  · exact hlatched
  · rw [railFault_rails, setRail_ne h, hlatched]
  · rw [railLow_rails, hlatched]

/-- A kill lowers every phase of a rail that the unit drives. -/
theorem killRail_lowers {r : Fin 16} {c : Chip} (hdrives : drives c) {p : Fin 32} (hp : p ∈ phasesOf c r) :
    (killRail r c).phases[p] = lowered c.phases[p] := by
  have hphases : phasesOf (killLatched r c) r = phasesOf c r := phasesOf_congr rfl rfl rfl r
  have htwin : (c.twin.state == .standby) = false := by
    unfold drives at hdrives
    cases h : c.twin.state <;> simp_all
  have hkill : killRail r c = if drives (killLatched r c) && (killLatched r c).rails[r].state != .off &&
      (killLatched r c).rails[r].state != .fault then railFault r (killLatched r c) else railLow r (killLatched r c) :=
    if_neg fun h : (c.twin.state == .standby) = true => absurd h (by rw [htwin]; decide)
  rw [hkill]
  split
  · rw [railFault_phases, hphases, if_pos hp]
    rfl
  · rw [railLow_phases, hphases, if_pos hp]
    rfl

/-- A current at the kill threshold (R73). -/
theorem phaseKill_of_over {p : Fin 32} {current : Int} {r : Fin 16} {c : Chip} (hr : railOfPhase c p = some r) (hlive : live c)
    (hover : comparatorLimit c p (num c (kPhKillLimit p)) ≤ ratAbs ((current : Rat) / 1000)) :
    phaseKill p current c = killRail r (raise p 1 current (setPhase p (fun x => { x with kill := true }) c)) := by
  unfold phaseKill
  rw [hr]
  exact if_neg (by rw [hlive, decide_eq_false (Rat.not_lt.mpr hover)]; decide)

theorem phaseKill_facts {p : Fin 32} {current : Int} {r : Fin 16} {c : Chip} (hr : railOfPhase c p = some r) (hlive : live c)
    (hover : comparatorLimit c p (num c (kPhKillLimit p)) ≤ ratAbs ((current : Rat) / 1000)) :
    (phaseKill p current c).phases[p].kill = true ∧ (phaseKill p current c).rails[r].killed = true ∧
    (raise p 1 current c).watch.arrived <+: (phaseKill p current c).watch.arrived ∧
    (drives c = true → (c.rails[r].state ≠ .off → (phaseKill p current c).rails[r].state = .fault) ∧
      ∀ q ∈ phasesOf c r, (phaseKill p current c).phases[q].drven = false ∧ (phaseKill p current c).phases[q].duty = 0) ∧
    ∀ q : Fin 16, q ≠ r → (phaseKill p current c).rails[q] = c.rails[q] := by
  rw [phaseKill_of_over hr hlive hover]
  have hphases : phasesOf (raise p 1 current (setPhase p (fun x => { x with kill := true }) c)) r = phasesOf c r :=
    phasesOf_congr (by simp) (by simp) (by simp) r
  have hwatch : (raise p 1 current (setPhase p (fun x => { x with kill := true }) c)).watch = (raise p 1 current c).watch :=
    raise_watch_congr _ _ _ rfl
  have hkill : (raise p 1 current (setPhase p (fun x => { x with kill := true }) c)).phases[p].kill = true := by
    rw [raise_phases, setPhase_self]
  have hdrives : drives (raise p 1 current (setPhase p (fun x => { x with kill := true }) c)) = drives c :=
    drives_congr (by simp) (by simp) (raise_safe _ _ _ _)
  have hrails : (raise p 1 current (setPhase p (fun x => { x with kill := true }) c)).rails = c.rails := raise_rails _ _ _ _
  generalize raise p 1 current (setPhase p (fun x => { x with kill := true }) c) = d at *
  refine ⟨by rw [killRail_kill, hkill], killRail_killed r d, ?_, fun hdr => ⟨fun hon => ?_, fun q hq => ?_⟩, fun q hq => ?_⟩
  · rw [← hwatch]
    exact KeepsEvents.killRail r d
  · exact killRail_faults (hdrives.trans hdr) (by rw [hrails]; exact hon)
  · rw [killRail_lowers (hdrives.trans hdr) (by rw [hphases]; exact hq)]
    exact ⟨rfl, rfl⟩
  · rw [killRail_other hq, hrails]

theorem peakLimit_of_over {p : Fin 32} {current : Int} {r : Fin 16} {c : Chip} (hr : railOfPhase c p = some r)
    (hdriven : c.phases[p].drven = true)
    (hover : comparatorLimit c p (num c (kPhPeakLimit p)) ≤ ratAbs ((current : Rat) / 1000)) :
    peakLimit p current c = if (0 : Rat) ≤ (current : Rat) / 1000 then
        setPhase p (fun x => { x with highEnded := true, peakAt := some c.clock.us }) c
      else if railType c r == 2 || c.rails[r].state == .rampDown then
        setPhase p (fun x => { x with lowEnded := true, peakAt := some c.clock.us }) c
      else c := by
  unfold peakLimit
  rw [hr]
  exact if_neg (by rw [hdriven, decide_eq_false (Rat.not_lt.mpr hover)]; decide)

/-! ### Period starts -/

/-- A rail at the period start of its first phase (R75, R81, R83). -/
def firstRailStart (r : Fin 16) (c : Chip) : Chip :=
  let c := setRail r (fun x => { x with
    period := x.periodNext.getD x.period
    periodNext := none
    syncRises := x.syncRises + (if flag c (kRailSyncOut r) then 1 else 0) }) c
  setRail r (fun x => { x with
    edgeDelay := if x.syncLock then some (nat c (kRailSyncOffset r) * periodTicks c r / 256) else none
    edgeEvery := if nat c (kRailSyncMode r) = 1 then 2 else 1 }) c

/-- A phase takes up an offset that waits. -/
def offsetTaken (x : Phase) : Phase := { x with offset := x.offsetNext.getD x.offset, offsetNext := none }

theorem firstPhaseStart_eq (r : Fin 16) (c : Chip) : firstPhaseStart r c =
    each (phasesOf (firstRailStart r c) r) (fun q => setPhase q offsetTaken) (firstRailStart r c) := rfl

theorem firstPhaseStart_rail (r : Fin 16) (c : Chip) :
    (firstPhaseStart r c).rails[r].state = c.rails[r].state ∧ (firstPhaseStart r c).rails[r].rampOver = c.rails[r].rampOver ∧
    (firstPhaseStart r c).rails[r].periodNext = none ∧
    (firstPhaseStart r c).rails[r].period = c.rails[r].periodNext.getD c.rails[r].period := by
  rw [firstPhaseStart_eq, each_setPhase_rails _ (fun _ => offsetTaken)]
  unfold firstRailStart
  dsimp only
  rw [setRail_setRail, setRail_self]
  exact ⟨rfl, rfl, rfl, rfl⟩

/-- A first period start changes offsets alone. -/
theorem firstPhaseStart_phase {β : Type} (f : Phase → β) (hf : ∀ (x : Phase) o n, f { x with offset := o, offsetNext := n } = f x)
    (r : Fin 16) (c : Chip) (p : Fin 32) : f (firstPhaseStart r c).phases[p] = f c.phases[p] := by
  rw [firstPhaseStart_eq, each_setPhase (phasesOf_nodup _ _) (fun _ => offsetTaken)]
  by_cases h : p ∈ phasesOf (firstRailStart r c) r
  · rw [if_pos h]
    exact hf _ _ _
  · rw [if_neg h]
    rfl

/-- The triggers and, at the first phase, what waits for it. -/
def periodBegun (p : Fin 32) (r : Fin 16) (c : Chip) : Chip :=
  if (activePhases (periodTriggers p r c) r).head? == some p then firstPhaseStart r (periodTriggers p r c)
  else periodTriggers p r c

/-- The phase's duty one period on, in DUTY-RAMP (R112). -/
def dutyFallen (p : Fin 32) (r : Fin 16) (c : Chip) : Chip :=
  if c.rails[r].state == .dutyRamp then setPhase p (rampedDuty c.rails[r].rampOver) c else c

/-- A phase that takes the duty that waits. -/
def dutyTaken (c : Chip) (r : Fin 16) (x : Phase) : Phase :=
  { x with
    duty := match x.dutyNext with
      | some w => shapeDuty c r w
      | none => x.duty
    dutyNext := none, highEnded := false, lowEnded := false }

theorem periodStart_of_driven {p : Fin 32} {r : Fin 16} {c : Chip} (hr : railOfPhase c p = some r) (hdriven : c.phases[p].drven = true) :
    periodStart p c = setPhase p (dutyTaken (dutyFallen p r (periodBegun p r c)) r) (dutyFallen p r (periodBegun p r c)) := by
  unfold periodStart
  rw [hr]
  exact if_neg (by rw [hdriven]; decide)

theorem dutyFallen_rails (p : Fin 32) (r : Fin 16) (c : Chip) : (dutyFallen p r c).rails = c.rails := by
  unfold dutyFallen
  split <;> rfl

theorem periodTriggers_active (p : Fin 32) (r : Fin 16) (c : Chip) : activePhases (periodTriggers p r c) r = activePhases c r :=
  activePhases_congr (periodTriggers_part _ (by decide) (by decide) p r c) (periodTriggers_part _ (by decide) (by decide) p r c)
    (periodTriggers_part _ (by decide) (by decide) p r c) (periodTriggers_part .phases (by decide) (by decide) p r c) r

theorem periodTriggers_rails (p : Fin 32) (r : Fin 16) (c : Chip) : (periodTriggers p r c).rails = c.rails :=
  periodTriggers_part .rails (by decide) (by decide) p r c

theorem periodTriggers_phases (p : Fin 32) (r : Fin 16) (c : Chip) : (periodTriggers p r c).phases = c.phases :=
  periodTriggers_part .phases (by decide) (by decide) p r c

/-- What the start of a period leaves of the rail's state, and what its first phase takes up. -/
theorem periodBegun_rail (p : Fin 32) (r : Fin 16) (c : Chip) :
    (periodBegun p r c).rails[r].state = c.rails[r].state ∧ (periodBegun p r c).rails[r].rampOver = c.rails[r].rampOver ∧
    ((activePhases c r).head? = some p → (periodBegun p r c).rails[r].periodNext = none ∧
      (periodBegun p r c).rails[r].period = c.rails[r].periodNext.getD c.rails[r].period) := by
  obtain ⟨hstate, hover, hnext, hperiod⟩ := firstPhaseStart_rail r (periodTriggers p r c)
  rw [periodTriggers_rails] at hstate hover hperiod
  unfold periodBegun
  rw [periodTriggers_active]
  by_cases h : (activePhases c r).head? = some p
  · rw [if_pos (beq_iff_eq.mpr h)]
    exact ⟨hstate, hover, fun _ => ⟨hnext, hperiod⟩⟩
  · rw [if_neg (by simpa using h), periodTriggers_rails]
    exact ⟨rfl, rfl, fun h' => absurd h' h⟩

/-- The start of a period leaves what its phases do but for their offsets. -/
theorem periodBegun_phase {β : Type} (f : Phase → β) (hf : ∀ (x : Phase) o n, f { x with offset := o, offsetNext := n } = f x)
    (p q : Fin 32) (r : Fin 16) (c : Chip) : f (periodBegun p r c).phases[q] = f c.phases[q] := by
  unfold periodBegun
  by_cases h : (activePhases (periodTriggers p r c) r).head? = some p
  · rw [if_pos (beq_iff_eq.mpr h), firstPhaseStart_phase f hf, periodTriggers_phases]
  · rw [if_neg (by simpa using h), periodTriggers_phases]

theorem shapeDuty_setPhase (p : Fin 32) (f : Phase → Phase) (c : Chip) (r : Fin 16) : shapeDuty (setPhase p f c) r = shapeDuty c r := rfl

theorem periodStart_facts {p : Fin 32} {r : Fin 16} {c : Chip} (hr : railOfPhase c p = some r) (hdriven : c.phases[p].drven = true) :
    (periodStart p c).phases[p].dutyNext = none ∧ (periodStart p c).phases[p].highEnded = false ∧
    (periodStart p c).phases[p].lowEnded = false ∧ (periodStart p c).rails[r].state = c.rails[r].state ∧
    (c.rails[r].state ≠ .dutyRamp → (periodStart p c).phases[p].duty =
      (c.phases[p].dutyNext.map (shapeDuty (periodStart p c) r)).getD c.phases[p].duty) ∧
    (c.rails[r].state = .dutyRamp → c.phases[p].dutyNext = none → (periodStart p c).phases[p].duty =
      toQ 31 (ofQ 31 c.phases[p].rampFrom * (c.phases[p].rampLeft - 1 : Nat) / (max 1 c.rails[r].rampOver : Nat))) ∧
    ((activePhases c r).head? = some p → (periodStart p c).rails[r].periodNext = none ∧
      (periodStart p c).rails[r].period = c.rails[r].periodNext.getD c.rails[r].period) := by
  obtain ⟨hstate, hover, hfirst⟩ := periodBegun_rail p r c
  have hduty := periodBegun_phase Phase.duty (fun _ _ _ => rfl) p p r c
  have hnext := periodBegun_phase Phase.dutyNext (fun _ _ _ => rfl) p p r c
  have hfrom := periodBegun_phase Phase.rampFrom (fun _ _ _ => rfl) p p r c
  have hleft := periodBegun_phase Phase.rampLeft (fun _ _ _ => rfl) p p r c
  rw [periodStart_of_driven hr hdriven]
  generalize periodBegun p r c = d at *
  rw [shapeDuty_setPhase, setPhase_self]
  refine ⟨rfl, rfl, rfl, ?_, fun hno => ?_, fun hramp hnone => ?_, ?_⟩
  · rw [setPhase_rails, dutyFallen_rails, hstate]
  · have hd : dutyFallen p r d = d := if_neg (by rw [hstate]; simpa using hno)
    rw [hd, ← hduty, ← hnext]
    unfold dutyTaken
    cases d.phases[p].dutyNext <;> rfl
  · have hd : dutyFallen p r d = setPhase p (rampedDuty d.rails[r].rampOver) d := if_pos (by rw [hstate, hramp]; rfl)
    rw [hd, setPhase_self, hover, ← hfrom, ← hleft]
    unfold dutyTaken rampedDuty
    dsimp only
    rw [hnext, hnone]
  · rw [setPhase_rails, dutyFallen_rails]
    exact hfirst

/-! ### Synchronisation -/

theorem syncLockStart_of_near {r : Fin 16} {frequency : Nat} {c : Chip} (hlive : live c) (hmode : nat c (kRailSyncMode r) ≠ 0)
    (hlow : 100000 ≤ frequency) (hhigh : frequency ≤ 2000000)
    (hnear : 9 * nat c (kRailFsw r) ≤ 10 * lockFrequency (nat c (kRailSyncMode r)) frequency)
    (hnear' : 10 * lockFrequency (nat c (kRailSyncMode r)) frequency ≤ 11 * nat c (kRailFsw r)) :
    syncLockStart r frequency c = setRail r (fun x => { x with
      syncStarted := true, syncNext := lockFrequency (nat c (kRailSyncMode r)) frequency, syncSeen := true }) c := by
  unfold syncLockStart
  dsimp only
  generalize lockFrequency (nat c (kRailSyncMode r)) frequency = f at *
  generalize nat c (kRailFsw r) = fsw at *
  rw [hlive, decide_eq_false hmode, decide_eq_false (by omega), decide_eq_false (by omega), decide_eq_false (by omega),
    decide_eq_false (by omega), decide_eq_false (by omega)]
  rfl

theorem syncLockAchieved_of_started {r : Fin 16} {c : Chip} (hstarted : c.rails[r].syncStarted = true) (hlive : live c) :
    syncLockAchieved r c = retime r (setRail r (fun x => { x with
      syncLock := true, syncLost := false, syncStarted := false, syncFreq := x.syncNext }) c) := by
  unfold syncLockAchieved
  rw [hstarted, hlive]
  rfl

/-- A rail that produces edges takes up its nominal period, which no waiting period changes. -/
theorem retime_rails (r : Fin 16) (c : Chip) : (retime r c).rails = c.rails.set r { c.rails[r] with
    periodNext := if c.rails[r].period = 0 then c.rails[r].periodNext else some (nominalTicks (retime r c) r) } := by
  have hnominal : nominalTicks (setRail r (fun x => { x with periodNext := some (nominalTicks c r) }) c) r = nominalTicks c r := by
    unfold nominalTicks
    rw [setRail_self]
    rfl
  unfold retime when
  by_cases h : c.rails[r].period = 0
  · rw [h, if_pos rfl, if_neg (by decide)]
    exact (Vector.set_getElem_self r.isLt).symm
  · rw [if_neg h, if_pos (bne_iff_ne.mpr h), hnominal]
    rfl

/-- Settles O7: each command is one change of its phase and its rail. -/
theorem phaseAndSyncCommands : Obligations.PhaseAndSyncCommands := by
  refine ⟨?_, ?_, ?_, ?_, ?_, ?_, ?_⟩
  case refine_1 =>
    intro s p current r hrange hr hlive hover
    exact gives_of_guarded _ hrange rfl (by simp +contextual [Only]) (phaseKill_facts hr hlive hover)
  case refine_2 =>
    intro s p current r hpos htop hr hdriven hover
    have hrange : inRange current (-2147483648) 2147483647 = true := by simp [inRange]; omega
    refine gives_of_guarded _ hrange rfl (by simp +contextual [Only]) ?_
    rw [peakLimit_of_over hr hdriven hover, if_pos (zero_le_rat_div (Rat.intCast_nonneg.mpr hpos) (by decide))]
    rfl
  case refine_3 =>
    intro s p current r hbottom hneg hr hdriven hover hside
    have hrange : inRange current (-2147483648) 2147483647 = true := by simp [inRange]; omega
    refine gives_of_guarded _ hrange rfl (by simp +contextual [Only]) ?_
    rw [peakLimit_of_over hr hdriven hover, if_neg, if_pos]
    · rfl
    · simpa using hside
    · exact Rat.not_le.mpr (rat_div_neg (Rat.intCast_neg_iff.mpr hneg) (by decide))
  case refine_4 =>
    intro s p r hr hdriven
    exact gives_of_answer _ rfl (by simp +contextual [Only]) (periodStart_facts hr hdriven)
  case refine_5 =>
    intro s r frequency hfits hlive hmode hlow hhigh hnear hnear'
    refine gives_of_guarded _ (decide_eq_true hfits) rfl (by simp +contextual [Only]) ?_
    rw [syncLockStart_of_near hlive hmode hlow hhigh hnear hnear']
    rfl
  case refine_6 =>
    intro s r hstarted hlive
    refine gives_of_answer _ (congrArg (answer s) (syncLockAchieved_of_started hstarted hlive)) (by simp +contextual [Only]) ?_
    rw [retime_rails, setRail_self]
    generalize nominalTicks _ r = ticks
    exact Vector.set_set (hi := r.isLt) _
  case refine_7 =>
    intro s r hlock hlive
    refine gives_of_answer _ (congrArg (answer s) (if_pos (by
      rw [hlive]; rcases hlock with h | h <;> rw [h] <;> simp))) (by simp +contextual [Only]) ⟨?_, raise_watch_congr _ _ _ rfl⟩
    rw [raise_rails]
    rfl

end Sys2Proof.Machine
end

section
/-! The checks of the sense channels (R109 to R112, R114). -/

namespace Sys2Proof.Machine

theorem setChan_ne {i j : Fin 256} (h : j ≠ i) (f : Chan → Chan) (c : Chip) : (setChan i f c).chans[j] = c.chans[j] := by
  rw [setChan_chans, if_neg (Ne.symm h)]

/-- The lowest tap is published on a channel above those that have converters. -/
theorem refreshTap_chans {d : Fin 256} (hd : d.val < 140) (c : Chip) : (refreshTap c).chans[d] = c.chans[d] := by
  unfold refreshTap
  split
  · exact setChan_ne (by intro h; rw [h] at hd; exact absurd hd (by decide)) _ c
  · rfl

theorem when_refreshTap_chans {d : Fin 256} (hd : d.val < 140) (b : Bool) (src code : Nat) (value : Int) (c : Chip) :
    (when b (raise src code value) (refreshTap c)).chans[d] = c.chans[d] := by
  unfold when
  by_cases hb : b = true
  · rw [if_pos hb, raise_chans, refreshTap_chans hd]
  · rw [if_neg hb, refreshTap_chans hd]

theorem railChannelFails_chans (r : Fin 16) (c : Chip) : (railChannelFails r c).chans = c.chans :=
  railChannelFails_part .chans (by decide) (by decide) (by decide) (by decide) r c

/-- What fails with a channel besides the rails that it feeds (Table 11.6). -/
def channelTail (ch : Nat) (cause : DropCause) (c : Chip) : Chip :=
  if h : ch < 32 then phaseFails ⟨ch, h⟩ cause c
  else if ch < 48 then railChannelFails (Fin.ofNat 16 (ch - 32)) c
  else if ch < 56 then (if cause = .pilot then shareStale (Fin.ofNat 8 (ch - 48)) true c else c)
  else if ch < 60 then
    when (cause == .pilot && tapsSettled c && hasBit (nat c kBusTapFitted) (ch - 56)) (raise 58 1 (ch - 56 : Nat)) (refreshTap c)
  else if 64 ≤ ch && ch < 72 then raise (64 + ch % 4) 5 0 c
  else if 72 ≤ ch && ch < 76 then when (cause == .pilot) (raise (64 + ch % 4) 5 0) c
  else if 80 ≤ ch && ch < 104 then ppChannelFails (Fin.ofNat 8 ch) ch c
  else if ch = 122 then when (cause == .pilot) (raise 245 2 (chanInt c ch)) c
  else if 123 ≤ ch && ch < 128 then when (cause == .pilot) (raise 246 2 (chanInt c ch)) c
  else c

theorem channelFails_eq (ch : Nat) (cause : DropCause) (c : Chip) :
    channelFails ch cause c = channelTail ch cause (each (fedBy c ch) railChannelFails c) := rfl

theorem channelTail_chans {d : Fin 256} (hd : d.val < 140) (ch : Nat) (cause : DropCause) (c : Chip) :
    (channelTail ch cause c).chans[d] = c.chans[d] := by
  have hsame {e : Chip} (h : part .chans e = part .chans c) : e.chans[d] = c.chans[d] := by
    rw [show e.chans = c.chans from h]
  unfold channelTail
  split
  · exact hsame (by simp)
  split
  · exact hsame (by simp)
  split
  · exact hsame (by split <;> simp)
  split
  · exact when_refreshTap_chans hd _ _ _ _ c
  all_goals
    refine hsame ?_
    repeat' split
    all_goals simp

/-- What fails with a channel leaves the channels below 140. -/
theorem channelFails_chans {d : Fin 256} (hd : d.val < 140) (ch : Nat) (cause : DropCause) (c : Chip) :
    (channelFails ch cause c).chans[d] = c.chans[d] := by
  have hfed (l : List (Fin 16)) : (each l railChannelFails c).chans = c.chans :=
    each_part .chans _ _ _ fun r e => railChannelFails_chans r e
  rw [channelFails_eq, channelTail_chans hd, hfed]

/-- A failed check of a channel sets its flag and leaves its word and the other channels below 140. -/
theorem failed_chans {ch : Fin 256} (hch : ch.val < 140) (f : Chan → Chan) (cause : DropCause) (c : Chip) :
    (channelFails ch cause (setChan ch f c)).chans[ch] = f c.chans[ch] ∧
    ∀ d : Fin 256, d ≠ ch → d.val < 140 → (channelFails ch cause (setChan ch f c)).chans[d] = c.chans[d] :=
  ⟨by rw [channelFails_chans hch, setChan_self], fun d hne hd => by rw [channelFails_chans hd, setChan_ne hne]⟩

/-! ### Rails whose channels fail -/

theorem railChannelFails_ne {r q : Fin 16} (h : q ≠ r) (c : Chip) : (railChannelFails r c).rails[q] = c.rails[q] := by
  unfold railChannelFails
  by_cases hdelay : (c.rails[r].state == .onDelay && drives c) = true
  · rw [if_pos hdelay, railFault_rails, setRail_ne h]
  rw [if_neg hdelay]
  by_cases hlost : switching c.rails[r] = true ∧ drives c = true
  · rw [feedbackLost_rails hlost.1 hlost.2]
    exact Vector.getElem_set_ne _ _ (Fin.val_ne_of_ne (Ne.symm h))
  · rw [feedbackLost, if_neg (by simpa using hlost)]

theorem railChannelFails_drives (r : Fin 16) (c : Chip) : drives (railChannelFails r c) = drives c := by
  refine drives_congr (by simp) (by simp) ?_
  have hlow (r : Fin 16) (d : Chip) : (railLow r d).watch = d.watch := railLow_part .watch (by decide) r d
  have heach (l : List (Fin 32)) (g : Fin 32 → Phase → Phase) (d : Chip) : (each l (fun q => setPhase q (g q)) d).watch = d.watch :=
    each_part .watch _ _ _ fun p d => by simp
  unfold railChannelFails feedbackLost railFault
  dsimp only
  repeat' split
  · rw [hlow, railGo_safe]
  · rw [raise_safe, setRail_watch, railGo_safe, heach _ fun _ x => { x with dutyNext := none }]
  · rfl

/-- The rail is in FB-HOLD with its feedback lost, or still switches. -/
def holdsOrSwitches (r : Fin 16) (c : Chip) : Prop :=
  drives c = true ∧ ((c.rails[r].state = .fbHold ∧ c.rails[r].fbLost = true) ∨ switching c.rails[r] = true)

/-- A switching rail whose own channel fails goes to FB-HOLD, and one in FB-HOLD stays there (R112). -/
theorem railChannelFails_holds {r : Fin 16} {c : Chip} (h : holdsOrSwitches r c) :
    (railChannelFails r c).rails[r].state = .fbHold ∧ (railChannelFails r c).rails[r].fbLost = true := by
  obtain ⟨hdrives, ⟨hstate, hlost⟩ | hswitch⟩ := h
  · have hkept : railChannelFails r c = c := by
      unfold railChannelFails feedbackLost switching
      rw [hstate]
      rfl
    rw [hkept]
    exact ⟨hstate, hlost⟩
  · have hlost : railChannelFails r c = feedbackLost r c := by
      refine if_neg fun hdelay => ?_
      have hstate : c.rails[r].state = .onDelay := by simpa [-Fin.getElem_fin, hdrives] using hdelay
      simp [-Fin.getElem_fin, switching, hstate] at hswitch
    rw [hlost, feedbackLost_rails hswitch hdrives]
    simp [wentTo]

theorem railChannelFails_keeps {r : Fin 16} (q : Fin 16) {c : Chip} (h : holdsOrSwitches r c) :
    holdsOrSwitches r (railChannelFails q c) := by
  refine ⟨(railChannelFails_drives q c).trans h.1, ?_⟩
  by_cases hq : r = q
  · subst hq
    exact .inl (railChannelFails_holds h)
  · rw [railChannelFails_ne hq]
    exact h.2

/-- A switching rail goes to FB-HOLD when its own sense channel fails. -/
theorem channelFails_holds {r : Fin 16} {ch : Nat} (hch : ch = 32 + r.val) (cause : DropCause) {c : Chip}
    (hswitch : switching c.rails[r] = true) (hdrives : drives c) :
    (channelFails ch cause c).rails[r].state = .fbHold ∧ (channelFails ch cause c).rails[r].fbLost = true := by
  have hfed : holdsOrSwitches r (each (fedBy c ch) railChannelFails c) :=
    each_keeps (fun q _ d hd => railChannelFails_keeps q hd) ⟨hdrives, .inr hswitch⟩
  have hr : Fin.ofNat 16 (ch - 32) = r := by
    rw [hch, Nat.add_sub_cancel_left]
    exact Fin.ofNat_val_eq_self r
  rw [channelFails_eq, channelTail, dif_neg (by omega), if_pos (by omega), hr]
  exact railChannelFails_holds hfed

/-! ### Phases whose channels fail -/

theorem phaseFails_of_good {p : Fin 32} {r : Fin 16} {cause : DropCause} {c : Chip} (hr : railOfPhase c p = some r)
    (hswitch : switching c.rails[r] = true) (hdrives : drives c) (hactive : c.phases[p].dropped = false)
    (hnone : c.phases[p].pendingCause = .none) : phaseFails p cause c = setPhase p (fun x => { x with pendingCause := cause }) c := by
  unfold phaseFails
  rw [hr]
  exact if_pos (by rw [hswitch, hdrives, hactive, hnone]; rfl)

theorem converted_low {ch : Fin 256} (h : converted ch) : ch.val < 140 := by
  simp [converted] at h
  omega

theorem rippled_switching {c : Chip} {ch : Nat} {r : Fin 16} (h : rippled c ch) (hr : ch = 32 + r.val) :
    switching c.rails[r] = true := by
  have hrail : Fin.ofNat 16 (ch - 32) = r := by
    rw [hr, Nat.add_sub_cancel_left]
    exact Fin.ofNat_val_eq_self r
  unfold rippled at h
  rw [dif_neg (by omega), if_pos (by omega), hrail] at h
  exact (Bool.and_eq_true_iff.mp h).1

/-- Settles O10: the flag of the channel is set or cleared, and what uses the channel fails with it. -/
theorem channelCheckCommands : Obligations.ChannelCheckCommands := by
  refine ⟨?_, ?_, ?_, ?_⟩
  case refine_1 =>
    intro s ch hlive hconv hflag
    obtain ⟨hself, hothers⟩ := failed_chans (converted_low hconv) (fun x => { x with pilotFail := true }) .pilot s.chip
    refine gives_of_answer _ (congrArg (answer s) (if_neg (by rw [hconv, hlive, hflag]; decide))) (by simp +contextual [Only]) ?_
    rw [hself]
    exact ⟨rfl, rfl, hothers, fun r hr hswitch hdrives => channelFails_holds hr .pilot hswitch hdrives⟩
  case refine_2 =>
    intro s ch hlive hconv hflag
    refine gives_of_answer _ (congrArg (answer s) (if_neg (by rw [hconv, hlive, hflag]; decide))) ?_ ?_
    · split <;> simp +contextual [Only]
    · split
      · exact shareStale_part .chans (by decide) (by decide) (by decide) _ _ _
      · rfl
  case refine_3 =>
    intro s ch hlive hconv hflag hover
    obtain ⟨hself, hothers⟩ := failed_chans (converted_low hconv) (fun x => { x with rangeFail := true }) .range s.chip
    refine gives_of_answer _ (congrArg (answer s) (if_neg (by rw [hconv, hlive, hflag, hover]; decide))) (by simp +contextual [Only]) ?_
    rw [hself]
    refine ⟨rfl, rfl, hothers, fun p r hch hr hswitch hdrives hactive hnone hfed => ?_⟩
    have hfed' : fedBy (setChan ch (fun x => { x with rangeFail := true }) s.chip) ch = [] := List.isEmpty_iff.mp hfed
    have hp : (⟨ch.val, by omega⟩ : Fin 32) = p := Fin.ext hch
    rw [channelFails_eq, hfed']
    unfold each channelTail
    rw [List.foldl_nil, dif_pos (by omega), hp,
      phaseFails_of_good (c := setChan ch _ s.chip) hr hswitch hdrives hactive hnone, setPhase_self]
  case refine_4 =>
    intro s ch hlive hrippled hflag
    refine gives_of_answer _ (congrArg (answer s) (if_neg (by rw [hrippled, hlive, hflag]; decide))) ?_ ?_
    · split <;> simp +contextual [Only]
    refine ⟨?_, fun r hr hdrives => ?_⟩
    · split
      · exact phaseFails_part .chans (by decide) _ _ _
      · exact feedbackLost_part .chans (by decide) (by decide) (by decide) (by decide) _ _
    · have hrail : Fin.ofNat 16 (ch.val - 32) = r := by
        rw [hr, Nat.add_sub_cancel_left]
        exact Fin.ofNat_val_eq_self r
      rw [dif_neg (by omega), hrail, feedbackLost_rails (c := setChan ch _ s.chip) (rippled_switching hrippled hr) hdrives]
      simp [wentTo]

end Sys2Proof.Machine
end

section
/-! Phase failure, phase dropping and the rail's cap level (R113 to R116). -/

namespace Sys2Proof.Machine

theorem phaseCheck_of_good {holds : Chip → Fin 16 → Fin 32 → Bool} {p : Fin 32} {r : Fin 16} {cause : DropCause} {c : Chip}
    (hr : railOfPhase c p = some r) (hswitch : switching c.rails[r] = true) (hdrives : drives c)
    (hactive : c.phases[p].dropped = false) (hnone : c.phases[p].pendingCause = .none) (hholds : holds c r p = true) :
    phaseCheck holds p cause c = setPhase p (fun x => { x with pendingCause := cause }) c := by
  unfold phaseCheck
  rw [hr]
  show when (holds c r p) (phaseFails p cause) c = _
  rw [when, if_pos hholds, phaseFails_of_good hr hswitch hdrives hactive hnone]

/-! ### A phase is dropped -/

/-- A phase that is dropped (R115). -/
def droppedPhase (x : Phase) : Phase := lowered { x with dropped := true, cause := x.pendingCause, pendingCause := .none }

/-- The phase is dropped with its events, before its rail is judged. -/
def phaseDropped (p : Fin 32) (r : Fin 16) (c : Chip) : Chip := raise (32 + r) 3 0 (raise p 2 0 (setPhase p droppedPhase c))

theorem phaseDrop_of_pending {p : Fin 32} {r : Fin 16} {c : Chip} (hr : railOfPhase c p = some r) (hswitch : switching c.rails[r] = true)
    (hdrives : drives c) (hcause : c.phases[p].pendingCause ≠ .none) : phaseDrop p c = publishLimit r
      (if (activePhases (phaseDropped p r c) r).isEmpty then railFault r (phaseDropped p r c)
        else interleave r (phaseDropped p r c)) := by
  have hlow : phaseLow p (setPhase p (fun x => { x with dropped := true, cause := x.pendingCause, pendingCause := .none }) c) =
      setPhase p droppedPhase c := by
    unfold phaseLow setPhase
    simp
    rfl
  unfold phaseDrop
  rw [hr]
  dsimp only
  rw [hlow]
  exact if_neg (by rw [hswitch, hdrives, beq_false_of_ne hcause]; decide)

theorem phaseDropped_rails (p : Fin 32) (r : Fin 16) (c : Chip) : (phaseDropped p r c).rails = c.rails := by
  rw [phaseDropped, raise_rails, raise_rails, setPhase_rails]

theorem phaseDropped_self (p : Fin 32) (r : Fin 16) (c : Chip) : (phaseDropped p r c).phases[p] = droppedPhase c.phases[p] := by
  rw [phaseDropped, raise_phases, raise_phases, setPhase_self]

/-- What a rail's fault and an interleaving leave, the rest of a drop leaves. -/
theorem phaseDrop_keeps (P : Phase → Prop) (hoffset : ∀ (x : Phase) o, P { x with offsetNext := o } = P x)
    (hlow : ∀ x, P x → P (lowered x)) {p : Fin 32} {r : Fin 16} {c : Chip} (hr : railOfPhase c p = some r)
    (hswitch : switching c.rails[r] = true) (hdrives : drives c) (hcause : c.phases[p].pendingCause ≠ .none) {q : Fin 32}
    (h : P (phaseDropped p r c).phases[q]) : P (phaseDrop p c).phases[q] := by
  have hlast (d : Chip) : (publishLimit r d).phases = d.phases := publishLimit_part .phases (by decide) r d
  rw [phaseDrop_of_pending hr hswitch hdrives hcause, hlast]
  by_cases hempty : (activePhases (phaseDropped p r c) r).isEmpty = true
  · rw [if_pos hempty, railFault_phases]
    split
    · exact hlow _ h
    · exact h
  · rw [if_neg hempty, interleave_phase P hoffset]
    exact h

theorem phaseDrop_active {p : Fin 32} {r : Fin 16} {c : Chip} (hr : railOfPhase c p = some r) (hswitch : switching c.rails[r] = true)
    (hdrives : drives c) (hcause : c.phases[p].pendingCause ≠ .none) :
    activePhases (phaseDrop p c) r = activePhases (phaseDropped p r c) r := by
  have hdropped (q : Fin 32) : (phaseDrop p c).phases[q].dropped = (phaseDropped p r c).phases[q].dropped :=
    phaseDrop_keeps (fun x => x.dropped = (phaseDropped p r c).phases[q].dropped) (fun _ _ => rfl) (fun _ h => h) hr hswitch hdrives
      hcause rfl
  have hphases : phasesOf (phaseDrop p c) r = phasesOf (phaseDropped p r c) r :=
    phasesOf_congr (by simp [phaseDropped]) (by simp [phaseDropped]) (by simp [phaseDropped]) r
  unfold activePhases
  rw [hphases]
  simp only [hdropped]

/-- The rail of the last active phase enters FAULT, and any other stays (R115). -/
theorem phaseDrop_rails {p : Fin 32} {r : Fin 16} {c : Chip} (hr : railOfPhase c p = some r) (hswitch : switching c.rails[r] = true)
    (hdrives : drives c) (hcause : c.phases[p].pendingCause ≠ .none) : (phaseDrop p c).rails =
      if (activePhases (phaseDrop p c) r).isEmpty then c.rails.set r (wentTo c.rails[r] .fault c.clock.us) else c.rails := by
  have hlast (d : Chip) : (publishLimit r d).rails = d.rails := publishLimit_part .rails (by decide) r d
  have hclock : (phaseDropped p r c).clock = c.clock := by simp [phaseDropped]
  rw [phaseDrop_active hr hswitch hdrives hcause, phaseDrop_of_pending hr hswitch hdrives hcause, hlast]
  split
  · rw [railFault_rails, hclock, setRail_rails_congr r _ (phaseDropped_rails p r c)]
    rfl
  · exact (interleave_part .rails (by decide) r _).trans (phaseDropped_rails p r c)

theorem phaseDrop_keepsEvents {p : Fin 32} {r : Fin 16} {c : Chip} (hr : railOfPhase c p = some r) (hswitch : switching c.rails[r] = true)
    (hdrives : drives c) (hcause : c.phases[p].pendingCause ≠ .none) :
    KeepsEvents (raise (32 + r) 3 0 (raise p 2 0 c)) (phaseDrop p c) := by
  have hdropped : (phaseDropped p r c).watch = (raise (32 + r) 3 0 (raise p 2 0 c)).watch :=
    raise_watch_congr _ _ _ (raise_watch_congr _ _ _ rfl)
  have hlast (d : Chip) : part .watch (publishLimit r d) = part .watch d := publishLimit_part .watch (by decide) r d
  rw [phaseDrop_of_pending hr hswitch hdrives hcause]
  refine (KeepsEvents.of_watch hdropped).trans (.trans ?_ (.of_watch (hlast _)))
  split
  · exact .railFault r _
  · exact .of_watch (interleave_part .watch (by decide) r _)

theorem railCapLevel_rails (r : Fin 16) (level : Nat) (c : Chip) : (railCapLevel r level c).rails =
    (setRail r (fun x => { x with capLevel := level, capReq := if level = 10000 then false else x.capReq }) c).rails := by
  have hlimit (d : Chip) : (publishLimit r d).rails = d.rails := publishLimit_part .rails (by decide) r d
  have hlevel (n : Fin 4) (d : Chip) : (vcLevel n d).rails = d.rails := vcLevel_part .rails (by decide) n d
  unfold railCapLevel
  dsimp only
  split
  · rw [hlevel, hlimit]
  · rw [hlimit]

/-- Settles O11: a check marks its phase, a drop lowers it and judges its rail, and a cap level is one change of its rail. -/
theorem phaseFailureCommands : Obligations.PhaseFailureCommands := by
  refine ⟨?_, ?_, ?_, ?_, ?_, ?_⟩
  case refine_1 =>
    intro s p r hr hswitch hdrives hactive hnone hopen
    exact gives_of_answer _ (congrArg (answer s) (phaseCheck_of_good hr hswitch hdrives hactive hnone hopen))
      (by simp +contextual [Only]) rfl
  case refine_2 =>
    intro s p r hr hswitch hdrives hactive hnone hfar
    exact gives_of_answer _ (congrArg (answer s) (phaseCheck_of_good hr hswitch hdrives hactive hnone hfar))
      (by simp +contextual [Only]) rfl
  case refine_3 =>
    intro s p r hr hswitch hdrives hcause
    refine gives_of_answer _ rfl (by simp +contextual [Only]) ?_
    obtain ⟨hdropped, hwas, hnone, hduty, hdriven, henabled⟩ := phaseDrop_keeps
      (fun x => x.dropped = true ∧ x.cause = s.chip.phases[p].pendingCause ∧ x.pendingCause = .none ∧ x.duty = 0 ∧ x.drven = false ∧
        x.enabled = false) (fun _ _ => rfl) (fun _ ⟨hd, hc, hn, _⟩ => ⟨hd, hc, hn, rfl, rfl, rfl⟩) hr hswitch hdrives hcause
      (q := p) (by rw [phaseDropped_self]; exact ⟨rfl, rfl, rfl, rfl, rfl, rfl⟩)
    exact ⟨hdropped, hwas, hnone, hduty, hdriven, henabled, phaseDrop_keepsEvents hr hswitch hdrives hcause,
      phaseDrop_rails hr hswitch hdrives hcause⟩
  case refine_4 =>
    intro s r hlost hlim hdrives
    refine gives_of_answer _ (congrArg (answer s) (if_pos (by rw [hlost, hlim, hdrives]; rfl))) (by simp +contextual [Only])
      ⟨?_, raise_watch_congr _ _ _ rfl⟩
    rw [raise_rails]
    rfl
  case refine_5 =>
    intro s r hreq hlim hdrives
    refine gives_of_answer _ (congrArg (answer s) (if_pos (by rw [hreq, hlim, hdrives]; rfl))) (by simp +contextual [Only]) ?_
    rw [railCapLevel_rails]
    exact ⟨by rw [setRail_self], fun q hq => setRail_ne hq _ _⟩
  case refine_6 =>
    intro s r hreq hlim hdrives
    refine gives_of_answer _ (congrArg (answer s) (if_pos (by rw [hreq, hlim, hdrives]; rfl))) (by simp +contextual [Only]) ?_
    rw [railCapLevel_rails]
    have hreq' : (if min 10000 (s.chip.rails[r].capLevel + 100) = 10000 then false else s.chip.rails[r].capReq) =
        decide (s.chip.rails[r].capLevel + 100 < 10000) := by
      rw [hreq]
      by_cases h : s.chip.rails[r].capLevel + 100 < 10000
      · rw [decide_eq_true h, if_neg (by omega)]
      · rw [decide_eq_false h, if_pos (by omega)]
    rw [← hreq']
    rfl

end Sys2Proof.Machine
end

section
/-! Voltage command ports (R99 to R108). -/

namespace Sys2Proof.Machine

theorem setVc_setVc (n : Fin 4) (f g : Vc → Vc) (c : Chip) : setVc n f (setVc n g c) = setVc n (fun x => f (g x)) c := by
  simp [setVc]

/-- A port that accepts a frame offers its response (R100, R101). -/
def offered (word : Nat) (data : Option (BitVec 16)) (v : Vc) : Vc :=
  { v with accepts := v.accepts + 1, response := some (vcResponseOf word data) }

theorem vcAnswer_eq (n : Fin 4) (type : Nat) (tag : BitVec 6) (code : Nat) (data : Option (BitVec 16)) (c : Chip) :
    vcAnswer n type tag code data c = setVc n (offered (type * 16384 + tag.toNat * 256 + code) data) c := by
  unfold vcAnswer offered vcResponseOf
  simp only [BitVec.toNat_ofNat]

/-- An ACK carries its tag alone (Table 3.6). -/
theorem vcAnswer_ack (n : Fin 4) (tag : BitVec 6) (data : Option (BitVec 16)) (c : Chip) :
    vcAnswer n 0 tag 0 data c = setVc n (offered (tag.toNat * 256) data) c := by
  rw [vcAnswer_eq, Nat.zero_mul, Nat.zero_add, Nat.add_zero]

/-- A NACK of a frame carries the frame's tag and its cause. -/
theorem vcNack_frame (n : Fin 4) (frame : BitVec 40) (code : Nat) (c : Chip) :
    vcNack n (BitVec.ofNat 6 (field frame.toNat 30 6)) code c =
      setVc n (offered (16384 + field frame.toNat 30 6 * 256 + code) none) c := by
  have htag : (BitVec.ofNat 6 (field frame.toNat 30 6)).toNat = field frame.toNat 30 6 := by
    rw [BitVec.toNat_ofNat]
    exact Nat.mod_eq_of_lt (Nat.mod_lt _ (by decide))
  rw [vcNack, vcAnswer_eq, htag, Nat.one_mul]

theorem vcError_rails (n : Fin 4) (r : Fin 16) (code : Nat) (c : Chip) : (vcError n r code c).rails =
    (setRail r (fun x => { x with vcErrors := satSucc 65535 x.vcErrors }) c).rails := raise_rails _ _ _ _

theorem vcError_watch {c d : Chip} (n : Fin 4) (r : Fin 16) (code : Nat) (h : d.watch = c.watch) :
    (vcError n r code d).watch = (raise (178 + n) code 0 c).watch := raise_watch_congr _ _ _ h

theorem vcError_vcs (n : Fin 4) (r : Fin 16) (code : Nat) (c : Chip) : (vcError n r code c).vcs = c.vcs := raise_vcs _ _ _ _

/-- The rail of a port has that port. -/
theorem vcOf_of_vcRail {c : Chip} {n : Fin 4} {r : Fin 16} (h : vcRail c n = some r) : vcOf c r = some n := by
  unfold vcRail at h
  split at h
  · have hfound := List.find?_some h
    simp only [Bool.and_eq_true, beq_iff_eq] at hfound
    obtain ⟨htype, hport⟩ := hfound
    unfold vcOf
    dsimp only
    rw [dif_pos (by rw [hport]; exact n.isLt), if_pos htype]
    exact congrArg some (Fin.ext hport)
  · contradiction

/-! ### SETV -/

/-- The SETV in flight is superseded (R104). -/
def superseded (n : Fin 4) (r : Fin 16) (c : Chip) : Chip :=
  match c.vcs[n].inFlight with
  | some t => setRail r (fun x => { x with ref := chanInt c (32 + r) }) (vcComplete n t 1 c)
  | none => c

/-- What a SETV completes with when another follows it (Table 3.7). -/
def supersededDone : Option (BitVec 6) → List VcDone
  | some t => [{ tag := t, code := 1 }]
  | none => []

theorem superseded_vc (n : Fin 4) (r : Fin 16) (c : Chip) : (superseded n r c).vcs[n] = { c.vcs[n] with
    queue := c.vcs[n].queue ++ supersededDone c.vcs[n].inFlight } := by
  unfold superseded
  cases h : c.vcs[n].inFlight with
  | some t =>
    dsimp only
    rw [setRail_vcs, vcComplete, setVc_self, h]
    rfl
  | none =>
    dsimp only [supersededDone]
    rw [List.append_nil]

theorem superseded_rail {r q : Fin 16} (h : q ≠ r) (n : Fin 4) (c : Chip) : (superseded n r c).rails[q] = c.rails[q] := by
  unfold superseded
  split
  · exact setRail_ne h _ _
  · rfl

/-- The command of a SETV on its rail (R103, R105). -/
def commanded (slew : Nat) (v : Int) (x : Rail) : Rail :=
  { x with command := v, vcHolds := true, slope := (slew : Rat) * 100, settled := 0 }

theorem vcSetv_of_room {n : Fin 4} {tag : BitVec 6} {arg : BitVec 16} {r : Fin 16} {c : Chip} (hr : vcRail c n = some r)
    (hregulate : c.rails[r].state = .regulate) (hmin : num c (kRailVcMin r) ≤ arg.toNat * 10)
    (hmax : (arg.toNat : Int) * 10 ≤ num c (kRailVcMax r))
    (hroom : c.vcs[n].queue.length + (if c.vcs[n].inFlight.isSome then 2 else 1) ≤ 16) :
    vcSetv n tag arg c = setVc n (offered (tag.toNat * 256) none) (publishCommand r (setVc n (fun p => { p with inFlight := some tag })
      (setRail r (commanded (vcSlewNow (superseded n r c) r) (arg.toNat * 10)) (superseded n r c)))) := by
  have hfull : ¬ 16 < c.vcs[n].queue.length + (if c.vcs[n].inFlight.isSome then 1 else 0) + 1 := by
    cases h : c.vcs[n].inFlight <;> simp [-Fin.getElem_fin, h] at hroom ⊢ <;> omega
  have hrange : ¬ ((decide ((arg.toNat : Int) * 10 < num c (kRailVcMin r)) || decide (num c (kRailVcMax r) < (arg.toNat : Int) * 10)) = true) := by
    simp only [Bool.or_eq_true, decide_eq_true_eq]
    omega
  rw [← vcAnswer_ack]
  unfold vcSetv
  rw [hr]
  dsimp only
  rw [if_neg (by rw [hregulate]; decide), if_neg (by simpa using hrange), if_neg hfull]
  rfl

theorem vcSetv_facts {n : Fin 4} {tag : BitVec 6} {arg : BitVec 16} {r : Fin 16} {c : Chip} (hr : vcRail c n = some r)
    (hregulate : c.rails[r].state = .regulate) (hmin : num c (kRailVcMin r) ≤ arg.toNat * 10)
    (hmax : (arg.toNat : Int) * 10 ≤ num c (kRailVcMax r))
    (hroom : c.vcs[n].queue.length + (if c.vcs[n].inFlight.isSome then 2 else 1) ≤ 16) :
    (vcSetv n tag arg c).rails[r].command = arg.toNat * 10 ∧ (vcSetv n tag arg c).rails[r].vcHolds = true ∧
    (vcSetv n tag arg c).vcs[n].inFlight = some tag ∧
    (vcSetv n tag arg c).vcs[n].response = some (vcResponseOf (tag.toNat * 256) none) ∧
    (vcSetv n tag arg c).vcs[n].accepts = c.vcs[n].accepts + 1 ∧
    (vcSetv n tag arg c).vcs[n].queue = c.vcs[n].queue ++ supersededDone c.vcs[n].inFlight ∧
    ∀ q : Fin 16, q ≠ r → (vcSetv n tag arg c).rails[q] = c.rails[q] := by
  have hrails (d : Chip) (f g : Vc → Vc) : (setVc n f (publishCommand r (setVc n g d))).rails = d.rails :=
    publishCommand_part .rails (by decide) r (setVc n g d)
  have hvcs (d : Chip) : (publishCommand r d).vcs = d.vcs := publishCommand_part .vcs (by decide) r d
  have hvc := superseded_vc n r c
  have hother (q : Fin 16) (hq : q ≠ r) := superseded_rail hq n c
  rw [vcSetv_of_room hr hregulate hmin hmax hroom, hrails, setVc_self, hvcs, setVc_self, setRail_self, setRail_vcs]
  generalize superseded n r c = d at *
  rw [hvc]
  exact ⟨rfl, rfl, rfl, rfl, rfl, rfl, fun q hq => (setRail_ne hq _ d).trans (hother q hq)⟩

/-! ### The other commands -/

theorem vcAbort_of_flight {n : Fin 4} {r : Fin 16} {t : BitVec 6} {c : Chip} (hr : vcOf c r = some n)
    (hflight : c.vcs[n].inFlight = some t) : vcAbort r c = raise (178 + n) 2 0 (setVc n (fun v => { v with
      inFlight := none, queue := v.queue ++ [{ tag := t, code := 2 }] }) c) := by
  unfold vcAbort
  rw [hr]
  dsimp only
  rw [hflight]
  dsimp only
  rw [vcComplete, setVc_setVc]
  rfl

/-- Settles O9: on a port that answers, each command is one change of the port and one of its rail. -/
theorem voltageCommandPortCommands : Obligations.VoltageCommandPortCommands := by
  refine ⟨?_, ?_, ?_, ?_, ?_, ?_, ?_, ?_, ?_, ?_, ?_, ?_, ?_⟩
  case refine_1 =>
    intro s n tag arg r hr hregulate hmin hmax hroom
    obtain ⟨hcommand, hholds, hflight, hresponse, haccepts, hqueue, hothers⟩ :=
      vcSetv_facts (tag := tag) hr hregulate hmin hmax hroom
    refine gives_of_answer _ rfl (by simp +contextual [Only]) ⟨hcommand, hholds, hflight, hresponse, haccepts, hqueue.trans ?_, hothers⟩
    cases s.chip.vcs[n].inFlight <;> rfl
  case refine_2 =>
    intro s n tag arg r hr harg
    have hset : vcSlew n tag arg s.chip = setVc n (offered (tag.toNat * 256) none)
        (setRail r (fun x => { x with vcSlew := some arg.toNat }) s.chip) := by
      rw [← vcAnswer_ack]
      unfold vcSlew
      rw [hr]
      exact if_neg harg
    refine gives_of_answer _ (congrArg (answer s) hset) (by simp +contextual [Only]) ⟨rfl, ?_, ?_⟩ <;> rw [setVc_self] <;> rfl
  case refine_3 =>
    intro s n tag r hr
    have hcap : vcCap n tag s.chip = setVc n (offered (tag.toNat * 256) (some (BitVec.ofNat 16 s.chip.vcs[n].level)))
        (setVc n (fun v => { v with levelPending := false }) s.chip) := by
      rw [← vcAnswer_ack]
      unfold vcCap
      rw [hr]
    refine gives_of_answer _ (congrArg (answer s) hcap) (by simp +contextual [Only]) ?_
    rw [setVc_self, setVc_self]
    exact ⟨rfl, rfl, rfl⟩
  case refine_4 =>
    intro s n tag r d rest hr hqueue
    have hquery : vcQuery n tag 0 s.chip =
        setVc n (offered (tag.toNat * 256) (some (BitVec.ofNat 16 (2 * 16384 + d.tag.toNat * 256 + d.code.toNat))))
          (setVc n (fun v => { v with queue := rest }) s.chip) := by
      rw [← vcAnswer_ack]
      unfold vcQuery
      rw [hr]
      dsimp only
      rw [if_pos rfl, hqueue]
    refine gives_of_answer _ (congrArg (answer s) hquery) (by simp +contextual [Only]) ?_
    rw [setVc_setVc]
    rfl
  case refine_5 =>
    intro s n tag sel r d hr hsel hdata
    have hquery : vcQuery n tag sel s.chip = setVc n (offered (tag.toNat * 256) (some d)) s.chip := by
      rw [← vcAnswer_ack]
      unfold vcQuery
      rw [hr]
      dsimp only
      rw [if_neg hsel, hdata]
    exact gives_of_answer _ (congrArg (answer s) hquery) (by simp +contextual [Only]) rfl
  case refine_6 =>
    intro s n frame r hr hcrc
    have hnack : vcFrameNack n frame s.chip =
        vcError n r 3 (setVc n (offered (16384 + field frame.toNat 30 6 * 256 + 1) none) s.chip) := by
      rw [← vcNack_frame]
      unfold vcFrameNack
      rw [hr]
      exact if_pos (bne_iff_ne.mpr hcrc)
    refine gives_of_answer _ (congrArg (answer s) hnack) (by simp +contextual [Only]) ⟨?_, ?_, vcError_watch n r 3 rfl⟩
    · rw [vcError_rails]
      rfl
    · rw [vcError_vcs]
      rfl
  case refine_7 =>
    intro s n frame r hr hcrc hop
    have hnack : vcFrameNack n frame s.chip = setVc n (offered (16384 + field frame.toNat 30 6 * 256 + 2) none) s.chip := by
      rw [← vcNack_frame]
      unfold vcFrameNack
      rw [hr]
      dsimp only
      rw [if_neg (by rw [hcrc, bne_self_eq_false]; decide), if_neg (by omega), if_neg (by omega), if_neg (by omega), if_neg (by omega)]
    exact gives_of_answer _ (congrArg (answer s) hnack) (by simp +contextual [Only]) rfl
  case refine_8 =>
    intro s n r hr
    have hgap : vcFrameGap n s.chip = vcError n r 1 s.chip := by
      unfold vcFrameGap
      rw [hr]
    exact gives_of_answer _ (congrArg (answer s) hgap) (by simp +contextual [Only]) ⟨vcError_rails n r 1 s.chip, vcError_watch n r 1 rfl⟩
  case refine_9 =>
    intro s n r hr
    have hread : vcResponseRead n s.chip = setVc n (fun v => { v with response := none }) s.chip := by
      unfold vcResponseRead
      rw [hr]
    exact gives_of_answer _ (congrArg (answer s) hread) (by simp +contextual [Only]) rfl
  case refine_10 =>
    intro s n r hr hresponse
    have hlost : vcResponseTimeout n s.chip = vcError n r 1 (setVc n (fun v => { v with response := none }) s.chip) := by
      unfold vcResponseTimeout
      rw [hr]
      exact if_neg (by simpa [-Fin.getElem_fin, Option.isSome_iff_ne_none] using hresponse)
    refine gives_of_answer _ (congrArg (answer s) hlost) (by simp +contextual [Only]) ⟨?_, ?_, vcError_watch n r 1 rfl⟩
    · rw [vcError_vcs]
      rfl
    · rw [vcError_rails]
      rfl
  case refine_11 =>
    intro s n r t hr hflight hregulate htarget hsettled
    have hdone : vcSetvDone n s.chip = vcComplete n t 0 (setVc n (fun v => { v with inFlight := none }) s.chip) := by
      unfold vcSetvDone
      rw [hr, hflight]
      exact if_pos (by rw [hregulate, htarget, decide_eq_true hsettled]; rfl)
    refine gives_of_answer _ (congrArg (answer s) hdone) (by simp +contextual [Only]) ?_
    rw [vcComplete, setVc_setVc]
    rfl
  case refine_12 =>
    intro s n r t hr hflight htarget
    have hlate : vcSetvTimeout n s.chip = vcAbort r s.chip := by
      unfold vcSetvTimeout
      rw [hr]
      exact if_pos htarget
    refine gives_of_answer _ (congrArg (answer s) hlate) (by simp +contextual [Only]) ?_
    rw [vcAbort_of_flight (vcOf_of_vcRail hr) hflight, raise_vcs]
    exact ⟨rfl, raise_watch_congr _ _ _ rfl⟩
  case refine_13 =>
    intro s n r hr hpending
    have hevent : vcCapUncollected n s.chip = raise (178 + n) 4 0 s.chip := by
      unfold vcCapUncollected
      rw [hr]
      exact if_pos hpending
    exact gives_of_answer _ (congrArg (answer s) hevent) (by simp +contextual [Only]) rfl

end Sys2Proof.Machine
end

section
/-! RAILLOOP and BALANCE runs (R89 to R98): two rails that share a phase. -/

namespace Sys2Proof.Machine

/-- Rails 0 and 1 are BUCK rails of phase 0; rail 0 is in FB-HOLD, and mill 0 runs RAILLOOP of rail 1, which regulates. -/
def sharedPhase : Chip :=
  { rails := ((Vector.replicate 16 {}).set 0 { state := .fbHold }).set 1 { state := .regulate }
    mills := (Vector.replicate 16 {}).set 0 { state := .ready, slots := Vector.replicate 4 true }
    od := [(kRailType 0, .num 1), (kRailPhaseMask 0, .num 1), (kRailType 1, .num 1), (kRailPhaseMask 1, .num 1),
      (kMillSource 0, .num 1), (kMillUnit0 0 0, .num 0x101)] }

/-- The duty that RAILLOOP of rail 1 gives phase 0 is not taken, as rail 0 holds it. -/
theorem sharedPhase_held : (railloopRow 1 [] sharedPhase).phases[(0 : Fin 32)].dutyNext = none := by decide +kernel

/-- Refutes O8, by its first clause: nothing there says that the rails' phase masks are disjoint, and the run of a rail gives no duty
to a phase that a lower rail in FB-HOLD has as well. -/
theorem not_loopLawCommands : ¬ Obligations.LoopLawCommands := by
  rintro ⟨hrun, -, -⟩
  obtain ⟨c, hexec, -, -, -, -, hduty, -⟩ := hrun { chip := sharedPhase } 1 [] { mill := 0, slot := 0 } rfl rfl
    (by decide +kernel) (by decide +kernel) (by decide +kernel) (by decide +kernel)
  have hc : c = railloopRow 1 [] sharedPhase := by
    have hsame : (.next { chip := railloopRow 1 [] sharedPhase } : Host.Outcome State Fault Refusal) =
      .next { chip := c } := hexec
    simp only [Host.Outcome.next.injEq, State.mk.injEq] at hsame
    exact hsame.1.symm
  obtain ⟨hsome, -⟩ := hduty 0 (by decide +kernel)
  rw [hc, sharedPhase_held] at hsome
  exact absurd hsome (by decide)

end Sys2Proof.Machine
end

section
/-! Battery strings: their states, removal and ship patterns (R119 to R128). -/

namespace Sys2Proof.Machine

/-! ### Changes of one string -/

/-- Changes of one string join to one. -/
theorem setStr_setStr (n : Fin 4) (f g : Str → Str) (c : Chip) : setStr n f (setStr n g c) = setStr n (fun x => f (g x)) c := by
  simp [setStr]

theorem setStr_ne {n m : Fin 4} (h : m ≠ n) (f : Str → Str) (c : Chip) : (setStr n f c).strs[m] = c.strs[m] := by
  rw [setStr_strs, if_neg (Ne.symm h)]

theorem setStr_strs_congr (n : Fin 4) (f : Str → Str) {c d : Chip} (h : d.strs = c.strs) :
    (setStr n f d).strs = (setStr n f c).strs := by
  unfold setStr
  rw [h]

/-- A change that leaves its string as it is changes nothing. -/
theorem setStr_of_same {n : Fin 4} {f : Str → Str} {c : Chip} (h : f c.strs[n] = c.strs[n]) : setStr n f c = c := by
  unfold setStr
  rw [h, Fin.getElem_fin, Vector.set_getElem_self]

theorem setStr_of_eq {n : Fin 4} {f g : Str → Str} {c : Chip} (h : f c.strs[n] = g c.strs[n]) : setStr n f c = setStr n g c := by
  unfold setStr
  rw [h]

/-- A string that enters a state (Table 4.4). -/
def wentStr (st : StrState) (x : Str) : Str :=
  { x with
    state := st
    phase := if st == .inService || st == .fallow then x.phase else .none
    resting := if st == .inService || st == .fallow then x.resting else false
    seqWaits := false }

theorem strGo_eq (n : Fin 4) (st : StrState) (c : Chip) : strGo n st c = setStr n (wentStr st) c := rfl

theorem slotWrite_strs (c : Chip) : (slotWrite c).strs = c.strs := slotWrite_part .strs (by decide) (by decide) (by decide) c

theorem slotWrite_watch (c : Chip) : (slotWrite c).watch = c.watch :=
  slotWrite_part .watch (by decide) (by decide) (by decide) c

theorem when_raise_strs (b : Bool) (src code : Nat) (value : Int) (c : Chip) :
    (when b (raise src code value) c).strs = c.strs := by
  cases b
  · rfl
  · exact raise_strs c src code value

theorem when_raise_watch (b : Bool) (src code : Nat) (value : Int) {c d : Chip} (h : d.watch = c.watch) :
    (when b (raise src code value) d).watch = if b then (raise src code value c).watch else c.watch := by
  cases b
  · exact h
  · exact raise_watch_congr src code value h

/-! ### Into service -/

/-- A string that comes into service with its reinsertion check made (R129, R134). -/
def servedStr (lowConf : Bool) (x : Str) : Str :=
  { x with
    state := .inService, phase := if x.wdFallback then .float else .cc, seqWaits := false, frozen := false, lowConf := lowConf }

theorem resetEstimate_strs (n : Fin 4) (c : Chip) :
    (resetEstimate n c).strs = (setStr n (fun x => { x with lowConf := true }) c).strs := by
  unfold resetEstimate
  rw [raise_strs]
  rfl

/-- The reinsertion check thaws the estimator, and may mark its confidence low. -/
theorem reinsertionCheck_strs (n : Fin 4) (c : Chip) :
    ∃ b, (reinsertionCheck n c).strs = (setStr n (fun x => { x with frozen := false, lowConf := b }) c).strs := by
  unfold reinsertionCheck
  by_cases hfrozen : c.strs[n].frozen = true
  · rw [if_neg (by rw [hfrozen]; decide)]
    have hthaw (near : Bool) : ∃ b, (setStr n (fun x => { x with frozen := false })
        (if near then setEst n (fun e => { e with history := [] }) c else resetEstimate n c)).strs =
        (setStr n (fun x => { x with frozen := false, lowConf := b }) c).strs := by
      cases near with
      | true => exact ⟨c.strs[n].lowConf, by simp [-Fin.getElem_fin, setStr]⟩
      | false =>
        refine ⟨true, ?_⟩
        rw [if_neg (by decide), setStr_strs_congr n _ (resetEstimate_strs n c), setStr_setStr]
    exact hthaw _
  · refine ⟨c.strs[n].lowConf, ?_⟩
    rw [if_pos (by simpa using hfrozen)]
    refine congrArg Chip.strs (setStr_of_same ?_).symm
    rw [← Bool.eq_false_iff.mpr hfrozen]

theorem toInService_strs (n : Fin 4) (c : Chip) : ∃ b, (toInService n c).strs = (setStr n (servedStr b) c).strs := by
  obtain ⟨b, h⟩ := reinsertionCheck_strs n c
  refine ⟨b, ?_⟩
  unfold toInService startCharge
  rw [strGo_eq, setStr_setStr, setStr_strs_congr n _ h, setStr_setStr]
  rfl

/-! ### What holds a string -/

theorem strClose_of_latched {n : Fin 4} {c : Chip} (h : c.strs[n].shipLatch = true) :
    strClose n c = setStr n (fun x => { x with seqWaits := false, pattern := .clear, sw := false }) c := by
  unfold strClose
  dsimp only
  rw [setStr_self, if_pos h, setStr_setStr]

theorem strClose_of_unlatched {n : Fin 4} {c : Chip} (h : c.strs[n].shipLatch = false) :
    strClose n c = setStr n (fun x => wentStr .closing { x with seqWaits := false, sw := false }) c := by
  unfold strClose
  dsimp only
  rw [setStr_self, if_neg (by rw [h]; decide), strGo_eq, setStr_setStr, setStr_setStr]

/-- A string that may qualify: QUALIFYING, driven, no pattern running, its voltage in the window (R125). -/
theorem stringQualified_of_ready {n : Fin 4} {c : Chip} (hstate : c.strs[n].state = .qualifying) (hdrives : drives c)
    (hpattern : c.strs[n].pattern = .none) (hwindow : inQualWindow c n) :
    stringQualified n c = if strAwaitsEntry c n || strHeld c n then setStr n (fun x => { x with seqWaits := true }) c
      else strClose n c := by
  unfold stringQualified
  exact if_neg (by rw [hstate, hdrives, hpattern, hwindow]; decide)

/-- The end of a ship-clear pattern on the string itself (R126). -/
def shipCleared (n : Fin 4) (c : Chip) : Chip :=
  let c := setStr n (fun x => { x with pattern := .none, shipLatch := false, sw := false }) c
  if c.strs[n].state != .qualifying then c
  else if strAwaitsEntry c n || strHeld c n then openSwitch n (setStr n (fun x => { x with seqWaits := true }) c)
  else strGo n .closing c

theorem shipPatternComplete_of_clear {n : Fin 4} {c : Chip} (h : c.strs[n].pattern = .clear) :
    (shipPatternComplete n c).strs = (shipCleared n c).strs := by
  have hend (b : Bool) (f : Batt → Batt) (d : Chip) : (if b then slotWrite (setBatt f d) else d).strs = d.strs := by
    cases b
    · rfl
    · exact slotWrite_strs _
  unfold shipPatternComplete
  rw [h]
  exact hend _ _ (shipCleared n c)

theorem shipCleared_of_held {n : Fin 4} {c : Chip} (hstate : c.strs[n].state = .qualifying)
    (hheld : (strAwaitsEntry c n || strHeld c n) = true) :
    shipCleared n c =
      setStr n (fun x => { x with pattern := .none, shipLatch := false, sw := true, closed := false, seqWaits := true }) c := by
  unfold shipCleared
  dsimp only
  rw [if_neg (by rw [setStr_self, hstate]; decide)]
  refine (if_pos hheld).trans ?_
  unfold openSwitch
  rw [setStr_setStr, setStr_setStr]

theorem shipCleared_of_free {n : Fin 4} {c : Chip} (hstate : c.strs[n].state = .qualifying)
    (hheld : (strAwaitsEntry c n || strHeld c n) = false) :
    shipCleared n c = setStr n (fun x => wentStr .closing { x with pattern := .none, shipLatch := false, sw := false }) c := by
  unfold shipCleared
  dsimp only
  rw [if_neg (by rw [setStr_self, hstate]; decide)]
  refine (if_neg ?_).trans ?_
  · exact Bool.eq_false_iff.mp hheld
  · rw [strGo_eq, setStr_setStr]

/-! ### Removal, reinsertion and the feedback -/

theorem fallowAbortMarks_strs (n : Fin 4) (c : Chip) : (fallowAbortMarks n c).strs =
    (setStr n (fun x => { x with retryAt := some (nowMs c + nat c kFallowRetryDelay * 60000) }) c).strs := by
  unfold fallowAbortMarks
  rw [log_strs, raise_strs]
  rfl

/-- The end of a window leaves the string but for the time of its next. -/
theorem fallowLost_strs (n : Fin 4) (c : Chip) :
    ∃ t, (fallowLost n c).strs = (setStr n (fun x => { x with retryAt := t }) c).strs := by
  unfold fallowLost
  cases c.batt.fallowString == some n with
  | true => exact ⟨_, fallowAbortMarks_strs n c⟩
  | false => exact ⟨c.strs[n].retryAt, congrArg Chip.strs (setStr_of_same (c := c) (n := n) rfl).symm⟩

theorem fallowLost_safe (n : Fin 4) (c : Chip) : (fallowLost n c).watch.safe = c.watch.safe := by
  unfold fallowLost
  cases c.batt.fallowString == some n with
  | true =>
    change (fallowAbortMarks n c).watch.safe = _
    unfold fallowAbortMarks
    rw [log_watch, raise_safe]
    rfl
  | false => rfl

/-- An event of a chip whose protection does not hold it joins those that arrived. -/
theorem mem_raise_arrived {c : Chip} (hsafe : c.watch.safe = false) (src code : Nat) (value : Int) :
    { src := Fin.ofNat 256 src, code := BitVec.ofNat 8 code, value := value } ∈ (raise src code value c).watch.arrived := by
  unfold raise
  rw [if_neg (by rw [hsafe]; decide)]
  exact List.mem_append_right _ (List.mem_singleton_self _)

/-- A string that its cause removes (R128). -/
def removedStr (cause : RemovalCause) (t : Option Nat) (x : Str) : Str :=
  { wentStr .absent { x with frozen := true, closed := x.closed && cause != .feedbackOpen } with retryAt := t }

theorem stringRemoval_of_removed {n : Fin 4} {cause : RemovalCause} {c : Chip} (hcan : removable c.strs[n].state cause)
    (hremoved : removed c n cause) (hdrives : drives c) :
    (∃ t, (stringRemoval n cause c).strs = (setStr n (removedStr cause t) c).strs) ∧
    { src := Fin.ofNat 256 (64 + n), code := 1, value := 0 } ∈ (stringRemoval n cause c).watch.arrived := by
  unfold stringRemoval
  rw [if_neg (by rw [hcan, hremoved, hdrives]; decide)]
  dsimp only
  rw [strGo_eq, setStr_setStr]
  generalize hc : setStr n (fun x => wentStr .absent { x with frozen := true, closed := x.closed && cause != .feedbackOpen }) c = d
  constructor
  · obtain ⟨t, ht⟩ := fallowLost_strs n d
    refine ⟨t, ?_⟩
    rw [slotWrite_strs, log_strs, raise_strs, ht, ← hc,
      setStr_setStr]
    rfl
  · rw [slotWrite_watch,
      log_watch]
    refine mem_raise_arrived ?_ _ _ _
    rw [fallowLost_safe, ← hc, setStr_watch]
    exact not_safe_of_live (drives_live hdrives)

theorem toQualifying_eq (n : Fin 4) (c : Chip) : toQualifying n c = setStr n (fun x =>
    wentStr .qualifying { x with pattern := .none, sw := x.sw || !x.shipLatch, closed := x.closed && x.shipLatch }) c := by
  have hopen (b : Bool) (d : Chip) :
      when (!b) (openSwitch n) d = setStr n (fun x => { x with sw := x.sw || !b, closed := x.closed && b }) d := by
    cases b with
    | false => simp [when, openSwitch]
    | true => exact (setStr_of_same (by simp [-Fin.getElem_fin])).symm
  unfold toQualifying
  dsimp only
  rw [setStr_self, strGo_eq, hopen, setStr_setStr, setStr_setStr]
  exact setStr_of_eq rfl

/-- A string above the presence level, where a reinsertion is looked for (Table 4.4). -/
theorem stringReinsertion_of_present {n : Fin 4} {closed : Bool} {c : Chip} (hstate : c.strs[n].state = .absent) (hdrives : drives c)
    (hpresent : presenceLevel c n < val c (64 + n)) :
    stringReinsertion n closed c =
      if !closed then toQualifying n (setStr n (fun x => { x with closed := closed }) c)
      else if strHeld c n then setStr n (fun x => { x with closed := closed }) c
      else toInService n (setStr n (fun x => { x with closed := closed }) c) := by
  unfold stringReinsertion
  exact if_neg (by rw [hstate, hdrives, decide_eq_false (Rat.not_le.mpr hpresent)]; decide)

/-- What a string that comes into service by its closed switch shows, and the strings beside it. -/
theorem served_facts (n : Fin 4) (c : Chip) :
    let d := toInService n (setStr n (fun x => { x with closed := true }) c)
    d.strs[n].state = .inService ∧ d.strs[n].closed = true ∧ d.strs[n].frozen = false ∧
    d.strs[n].phase = (if c.strs[n].wdFallback then .float else .cc) ∧ ∀ m : Fin 4, m ≠ n → d.strs[m] = c.strs[m] := by
  obtain ⟨b, h⟩ := toInService_strs n (setStr n (fun x => { x with closed := true }) c)
  dsimp only
  rw [h, setStr_setStr]
  refine ⟨?_, ?_, ?_, ?_, fun m hm => setStr_ne hm _ c⟩
  all_goals
    rw [setStr_self]
    rfl

theorem switchFeedbackTimeout_of_closing {n : Fin 4} {c : Chip} (hstate : c.strs[n].state = .closing) (hdrives : drives c) :
    switchFeedbackTimeout n c =
      raise (64 + n) 2 0 (setStr n (fun x => wentStr .fault { x with sw := true, closed := false }) c) := by
  unfold switchFeedbackTimeout
  rw [if_neg (by rw [hdrives]; decide), hstate]
  dsimp only
  unfold strFault openSwitch
  rw [strGo_eq, setStr_setStr]

theorem switchFeedbackTimeout_of_open {n : Fin 4} {c : Chip} (hstate : c.strs[n].state = .opened ∨ c.strs[n].state = .ship)
    (hdrives : drives c) :
    switchFeedbackTimeout n c = raise (64 + n) 2 0 (setStr n (fun x => wentStr .fault { x with closed := true }) c) := by
  unfold switchFeedbackTimeout
  rw [if_neg (by rw [hdrives]; decide)]
  rcases hstate with hstate | hstate
  all_goals
    rw [hstate]
    dsimp only
    unfold strFault
    rw [strGo_eq, setStr_setStr]

/-- A thermistor outside its range (R120). -/
theorem ntcFail_of_outside {n : Fin 4} {c : Chip} (h : (chanOf c (72 + n)).pin < 12000 ∨ 1190000 < (chanOf c (72 + n)).pin) :
    ntcFail n c = when (!c.strs[n].ntcFail) (raise (64 + n) 3 0)
      (publish (72 + n) 0x7FFFFFFF (setStr n (fun x => { x with ntcFail := true }) c)) := by
  unfold ntcFail
  exact if_neg (by omega)

theorem publish_word (ch : Nat) (w : Word) (c : Chip) : (chanOf (publish ch w c) ch).word = w := by
  unfold chanOf publish
  rw [setChan_self]

/-- Settles O12: each command moves its own string along Table 4.4, through `strGo` and the reinsertion check. -/
theorem stringStateCommands : Obligations.StringStateCommands := by
  unfold Obligations.StringStateCommands
  refine ⟨?ntc, ?absent, ?close, ?wait, ?closed, ?timeout, ?shut, ?removal, ?opened, ?served, ?latch, ?held, ?free⟩
  case ntc =>
    intro s n h
    refine gives_of_answer _ (congrArg (answer s) (ntcFail_of_outside h)) (by simp +contextual [Only]) ⟨?_, ?_, ?_⟩
    · rw [when_raise_strs, publish_strs]
      rfl
    · have hchans (b : Bool) (d : Chip) : (when b (raise (64 + n) 3 0) d).chans = d.chans := when_part .chans _ _ _ (by simp)
      unfold chanOf
      rw [hchans]
      exact publish_word _ _ _
    · rw [when_raise_watch _ _ _ _ (show (publish (72 + n) 0x7FFFFFFF (setStr n (fun x => { x with ntcFail := true }) s.chip)).watch =
        s.chip.watch from publish_watch _ _ _)]
      cases s.chip.strs[n].ntcFail <;> rfl
  case absent =>
    intro s n hstate hdrives hlow
    refine gives_of_answer _ (congrArg (answer s) (if_pos (by rw [hstate, hdrives, decide_eq_true hlow]; rfl)))
      (by simp +contextual [Only]) ?_
    rw [slotWrite_strs]
    rfl
  case close =>
    intro s n hstate hdrives hpattern hentry hheld hwindow
    have hready := stringQualified_of_ready hstate hdrives hpattern hwindow
    rw [if_neg (by rw [hentry, hheld]; decide)] at hready
    refine gives_of_answer _ (congrArg (answer s) hready) (by simp +contextual [Only]) ?_
    cases hlatch : s.chip.strs[n].shipLatch with
    | true => rw [strClose_of_latched hlatch]; rfl
    | false => rw [strClose_of_unlatched hlatch]; rfl
  case wait =>
    intro s n hstate hdrives hpattern hheld hwindow
    have hready := stringQualified_of_ready hstate hdrives hpattern hwindow
    rw [if_pos hheld] at hready
    exact gives_of_answer _ (congrArg (answer s) hready) (by simp +contextual [Only]) rfl
  case closed =>
    intro s n hstate hdrives
    have hserve : switchFeedbackClosed n s.chip = toInService n (setStr n (fun x => { x with closed := true }) s.chip) := by
      unfold switchFeedbackClosed
      dsimp only
      rw [setStr_self]
      exact if_pos (by rw [hstate]; exact hdrives)
    exact gives_of_answer _ (congrArg (answer s) hserve) (by simp +contextual [Only]) (served_facts n s.chip)
  case timeout =>
    intro s n hstate hdrives
    refine gives_of_answer _ (congrArg (answer s) (switchFeedbackTimeout_of_closing hstate hdrives)) (by simp +contextual [Only]) ⟨?_, ?_⟩
    · rw [raise_strs]
      rfl
    · exact raise_watch_congr _ _ _ rfl
  case shut =>
    intro s n hstate hdrives
    refine gives_of_answer _ (congrArg (answer s) (switchFeedbackTimeout_of_open hstate hdrives)) (by simp +contextual [Only]) ⟨?_, ?_⟩
    · rw [raise_strs]
      rfl
    · exact raise_watch_congr _ _ _ rfl
  case removal =>
    intro s n cause hcan hremoved hdrives
    obtain ⟨⟨t, hstrs⟩, hevent⟩ := stringRemoval_of_removed hcan hremoved hdrives
    refine gives_of_answer (stringRemoval n cause s.chip) rfl (by simp +contextual [Only]) ?_
    rw [hstrs, setStr_self]
    exact ⟨rfl, rfl, rfl, rfl, hevent, fun m hm => setStr_ne hm _ _⟩
  case opened =>
    intro s n hstate hdrives hpresent
    refine gives_of_answer _ (congrArg (answer s) (stringReinsertion_of_present hstate hdrives hpresent)) (by simp +contextual [Only]) ?_
    rw [Bool.not_false, if_pos rfl, toQualifying_eq, setStr_setStr]
    rfl
  case served =>
    intro s n hstate hdrives hheld hpresent
    have hserve := stringReinsertion_of_present (closed := true) hstate hdrives hpresent
    rw [if_neg (by decide), if_neg (by rw [hheld]; decide)] at hserve
    exact gives_of_answer _ (congrArg (answer s) hserve) (by simp +contextual [Only]) (served_facts n s.chip)
  case latch =>
    intro s n hpattern
    have hset : shipPatternComplete n s.chip = setStr n (fun x => { x with pattern := .none, shipLatch := true, sw := true }) s.chip := by
      unfold shipPatternComplete
      rw [hpattern]
    exact gives_of_answer _ (congrArg (answer s) hset) (by simp +contextual [Only]) rfl
  case held =>
    intro s n hpattern hstate hheld
    refine gives_of_answer (shipPatternComplete n s.chip) rfl (by simp +contextual [Only]) ?_
    rw [shipPatternComplete_of_clear hpattern, shipCleared_of_held hstate hheld]
    rfl
  case free =>
    intro s n hpattern hstate hentry hheld
    refine gives_of_answer (shipPatternComplete n s.chip) rfl (by simp +contextual [Only]) ?_
    rw [shipPatternComplete_of_clear hpattern, shipCleared_of_free hstate (by rw [hentry, hheld]; rfl)]
    rfl

end Sys2Proof.Machine
end

section
/-! Ship mode, the long press and the battery watchdog (R137 to R139, R157 to R159). -/

namespace Sys2Proof.Machine

/-! ### All strings in turn -/

/-- A loop whose turns change one string each changes just the strings that it names. -/
theorem each_strs {l : List (Fin 4)} (hnodup : l.Nodup) {f : Fin 4 → Chip → Chip} {g : Fin 4 → Str → Str}
    (hf : ∀ s d, (f s d).strs = (setStr s (g s) d).strs) (c : Chip) (n : Fin 4) :
    (each l f c).strs[n] = if n ∈ l then g n c.strs[n] else c.strs[n] := by
  have hother (s : Fin 4) (hs : s ≠ n) (d : Chip) : (f s d).strs[n] = d.strs[n] := by
    rw [hf, setStr_ne hs.symm]
  by_cases hin : n ∈ l
  · rw [if_pos hin]
    refine each_at (P := fun d => d.strs[n] = c.strs[n]) (Q := fun d => d.strs[n] = g n c.strs[n]) hin hnodup
      (fun s hs d hd => (hother s hs d).trans hd) (fun d hd => ?_) (fun s hs d hd => (hother s hs d).trans hd) rfl
    rw [hf, setStr_self, hd]
  · rw [if_neg hin]
    exact each_keeps (P := fun d => d.strs[n] = c.strs[n])
      (fun s hs d hd => (hother s (fun h : s = n => hin (h ▸ hs)) d).trans hd) rfl

theorem fittedStrs_nodup (c : Chip) : (fittedStrs c).Nodup := (List.nodup_finRange 4).filter _

theorem strsIn_nodup (p : Fin 4 → Bool) : ((List.finRange 4).filter p).Nodup := (List.nodup_finRange 4).filter p

theorem mem_strsIn {p : Fin 4 → Bool} {n : Fin 4} : n ∈ (List.finRange 4).filter p ↔ p n = true := by
  simp [List.mem_filter, List.mem_finRange]

/-- The loop over the strings in a state, after a mark of the battery unit. -/
theorem each_strsIn (st : StrState) {f : Fin 4 → Chip → Chip} {g : Fin 4 → Str → Str}
    (hf : ∀ s d, (f s d).strs = (setStr s (g s) d).strs) (mark : Batt → Batt) (c : Chip) (n : Fin 4) :
    (each ((List.finRange 4).filter fun s => c.strs[s].state == st) f (setBatt mark c)).strs[n] =
      if c.strs[n].state = st then g n c.strs[n] else c.strs[n] := by
  rw [each_strs (strsIn_nodup _) hf, setBatt_strs]
  simp only [mem_strsIn, beq_iff_eq]

theorem each_batt {l : List (Fin 4)} {f : Fin 4 → Chip → Chip} (hf : ∀ s d, (f s d).batt = d.batt) (c : Chip) :
    (each l f c).batt = c.batt :=
  each_keeps (P := fun d => d.batt = c.batt) (fun s _ d hd => (hf s d).trans hd) rfl

/-! ### The marks of ship mode and the long press -/

/-- The marks of ship mode and of the long press. -/
def openingMarks (c : Chip) : Bool × Option (Origin × Nat) × Bool × Bool :=
  (c.batt.shipPending, c.batt.shipArm, c.batt.shipFlag, c.batt.longOpen)

theorem slotWrite_openingMarks (c : Chip) : openingMarks (slotWrite c) = openingMarks c := by
  unfold slotWrite
  dsimp only
  repeat' split
  all_goals rfl

theorem log_openingMarks (code src : Nat) (severity : Fin 4) (value : Int) (entries : List Nat) (c : Chip) :
    openingMarks (log code src severity value entries c) = openingMarks c := by
  unfold openingMarks
  rw [log_batt]

theorem fallowLost_openingMarks (n : Fin 4) (c : Chip) : openingMarks (fallowLost n c) = openingMarks c := by
  unfold fallowLost
  cases c.batt.fallowString == some n with
  | false => rfl
  | true =>
    change openingMarks (fallowAbortMarks n c) = _
    unfold fallowAbortMarks openingMarks
    rw [log_batt, raise_batt]
    rfl

/-- A string that opens (Table 4.4): its switch open, in the state named, with the pattern that runs then. -/
def openedStr (st : StrState) (p : ShipPattern) (t : Option Nat) (x : Str) : Str :=
  { wentStr st { x with sw := true, closed := false, pattern := p } with retryAt := t }

/-- A string that opens, and its fallow window if it had one. -/
def opens (st : StrState) (p : ShipPattern) (s : Fin 4) (c : Chip) : Chip :=
  fallowLost s (strGo s st (setStr s (fun x => { x with pattern := p }) (openSwitch s c)))

theorem opens_strs (st : StrState) (p : ShipPattern) (s : Fin 4) (c : Chip) :
    ∃ t, (opens st p s c).strs = (setStr s (openedStr st p t) c).strs := by
  unfold opens openSwitch
  rw [strGo_eq, setStr_setStr, setStr_setStr]
  obtain ⟨t, ht⟩ := fallowLost_strs s (setStr s (fun x => wentStr st { x with sw := true, closed := false, pattern := p }) c)
  exact ⟨t, by rw [ht, setStr_setStr]; rfl⟩

theorem opens_ne (st : StrState) (p : ShipPattern) {s n : Fin 4} (h : s ≠ n) (c : Chip) : (opens st p s c).strs[n] = c.strs[n] := by
  obtain ⟨t, ht⟩ := opens_strs st p s c
  rw [ht, setStr_ne h.symm]

theorem opens_openingMarks (st : StrState) (p : ShipPattern) (s : Fin 4) (c : Chip) :
    openingMarks (opens st p s c) = openingMarks c := by
  unfold opens
  rw [fallowLost_openingMarks]
  unfold openingMarks
  rfl

theorem each_opens_marks (st : StrState) (p : ShipPattern) (l : List (Fin 4)) (c : Chip) :
    openingMarks (each l (opens st p) c) = openingMarks c :=
  each_keeps (P := fun d => openingMarks d = openingMarks c) (fun s _ d hd => (opens_openingMarks st p s d).trans hd) rfl

/-- The strings that a loop names open, and the others stay. -/
theorem each_opens_mem (st : StrState) (p : ShipPattern) {l : List (Fin 4)} (hnodup : l.Nodup) {n : Fin 4} (hin : n ∈ l) (c : Chip) :
    ∃ t, (each l (opens st p) c).strs[n] = openedStr st p t c.strs[n] := by
  refine each_at (P := fun d => d.strs[n] = c.strs[n]) (Q := fun d => ∃ t, d.strs[n] = openedStr st p t c.strs[n]) hin hnodup
    (fun s hs d hd => (opens_ne st p hs d).trans hd) (fun d hd => ?_)
    (fun s hs d ⟨t, ht⟩ => ⟨t, (opens_ne st p hs d).trans ht⟩) rfl
  obtain ⟨t, ht⟩ := opens_strs st p n d
  exact ⟨t, by rw [ht, setStr_self, hd]⟩

theorem each_opens_not_mem (st : StrState) (p : ShipPattern) {l : List (Fin 4)} {n : Fin 4} (hin : n ∉ l) (c : Chip) :
    (each l (opens st p) c).strs[n] = c.strs[n] :=
  each_keeps (P := fun d => d.strs[n] = c.strs[n]) (fun s hs d hd => (opens_ne st p (fun h : s = n => hin (h ▸ hs)) d).trans hd) rfl

/-! ### The openings -/

/-- The chip at which the strings of a ship opening open (R157). -/
def shipMarked (c : Chip) : Chip :=
  let d := setBatt (fun b => { b with shipPending := false, shipArm := none, shipFlag := true, shipBoot := false }) c
  log 0x23 64 1 (fittedMask d : Int) [] (slotWrite d)

theorem shipMarked_strs (c : Chip) : (shipMarked c).strs = c.strs := by
  unfold shipMarked
  rw [log_strs, slotWrite_strs, setBatt_strs]

theorem shipMarked_marks (c : Chip) : openingMarks (shipMarked c) = (false, none, true, c.batt.longOpen) := by
  unfold shipMarked
  rw [log_openingMarks, slotWrite_openingMarks]
  rfl

theorem strRail_congr {c d : Chip} (hod : part .od d = part .od c) (hfuses : part .fuses d = part .fuses c)
    (hcan : part .can d = part .can c) (s : Fin 4) : strRail d s = strRail c s := by
  unfold strRail
  simp only [nat_congr hod hfuses hcan]

theorem fittedStrs_congr {c d : Chip} (hod : part .od d = part .od c) (hfuses : part .fuses d = part .fuses c)
    (hcan : part .can d = part .can c) : fittedStrs d = fittedStrs c := by
  unfold fittedStrs
  simp only [strRail_congr hod hfuses hcan]

theorem shipOpening_of_pending {c : Chip} (hpending : c.batt.shipPending = true) (hdrives : drives c) :
    shipOpening c = each ((fittedStrs c).filter fun s => c.strs[s].state != .ship) (opens .ship .set) (shipMarked c) := by
  have hlist : ((fittedStrs (shipMarked c)).filter fun s => (shipMarked c).strs[s].state != .ship) =
      (fittedStrs c).filter fun s => c.strs[s].state != .ship := by
    rw [shipMarked_strs, fittedStrs_congr (d := shipMarked c) (c := c) (by simp [shipMarked]) (by simp [shipMarked])
      (by simp [shipMarked])]
  rw [← hlist]
  unfold shipOpening
  rw [if_neg (by rw [hpending, hdrives]; decide)]
  rfl

/-- The chip at which the strings of a long press open (R159). -/
def longMarked (c : Chip) : Chip :=
  setBatt (fun b => { b with longOpen := true }) (slotWrite (log 0x24 64 1 (fittedMask c : Int) [] c))

theorem longMarked_strs (c : Chip) : (longMarked c).strs = c.strs := by
  unfold longMarked
  rw [setBatt_strs, slotWrite_strs, log_strs]

theorem longPress_of_driven {c : Chip} (hdrives : drives c) :
    longPress c = each ((List.finRange 4).filter fun s => longPressed c.strs[s].state) (opens .opened .none) (longMarked c) := by
  have hlist : ((List.finRange 4).filter fun s => longPressed (longMarked c).strs[s].state) =
      (List.finRange 4).filter fun s => longPressed c.strs[s].state := by
    rw [longMarked_strs]
  rw [← hlist]
  unfold longPress
  exact if_neg (by rw [hdrives]; decide)

/-! ### The watchdog -/

/-- A string whose watchdog has expired (R138, R134). -/
def fallbackStr (x : Str) : Str := { x with wdFallback := true, phase := if x.phase == .none then .none else .float }

theorem fallback_strs (s : Fin 4) (c : Chip) :
    (log 0x20 (68 + s) 1 (s.val : Int) [] (raise (68 + s) 1 0 (setStr s fallbackStr c))).strs = (setStr s fallbackStr c).strs := by
  rw [log_strs, raise_strs]

theorem battWatchdogExpiry_of_running {c : Chip} (hruns : c.batt.wdRunning = true) (hfresh : c.batt.expired = false) (hlive : live c) :
    battWatchdogExpiry c = each (fittedStrs c)
      (fun s d => log 0x20 (68 + s) 1 (s.val : Int) [] (raise (68 + s) 1 0 (setStr s fallbackStr d)))
      (setBatt (fun b => { b with expired := true }) c) := by
  unfold battWatchdogExpiry
  exact if_neg (by rw [hruns, hfresh, hlive]; decide)

/-- Settles O13: each opening or return is one loop over the strings that it names, each turn of which moves its own string. -/
theorem shipModeAndWatchdogCommands : Obligations.ShipModeAndWatchdogCommands := by
  unfold Obligations.ShipModeAndWatchdogCommands
  refine ⟨?opening, ?good, ?press, ?pressEnd, ?watchdog⟩
  case opening =>
    intro s hpending hdrives
    have hmarks := (each_opens_marks .ship .set ((fittedStrs s.chip).filter fun n => s.chip.strs[n].state != .ship)
      (shipMarked s.chip)).trans (shipMarked_marks s.chip)
    rw [← shipOpening_of_pending hpending hdrives] at hmarks
    obtain ⟨hnow, harm, hflag, -⟩ := (by simpa only [openingMarks, Prod.mk.injEq] using hmarks : _ ∧ _ ∧ _ ∧ _)
    refine gives_of_answer (shipOpening s.chip) rfl (by simp +contextual [Only]) ⟨hnow, harm, hflag, fun n hn => ?_⟩
    rw [shipOpening_of_pending hpending hdrives]
    by_cases hship : s.chip.strs[n].state = .ship
    · rw [each_opens_not_mem _ _ (by simp [-Fin.getElem_fin, hship]), shipMarked_strs]
      exact ⟨hship, fun h => absurd hship h⟩
    · obtain ⟨t, ht⟩ := each_opens_mem .ship .set ((fittedStrs_nodup s.chip).filter _)
        (List.mem_filter.mpr ⟨hn, bne_iff_ne.mpr hship⟩ :
          n ∈ (fittedStrs s.chip).filter fun n => s.chip.strs[n].state != .ship) (shipMarked s.chip)
      rw [ht]
      exact ⟨rfl, fun _ => ⟨rfl, rfl, rfl, rfl⟩⟩
  case good =>
    intro s hboot hdrives hgood
    have hloop : shipSourceGood s.chip = each ((List.finRange 4).filter fun n => s.chip.strs[n].state == .ship) toQualifying
        (setBatt (fun b => { b with shipBoot := false }) s.chip) := if_neg (by rw [hboot, hdrives, hgood]; decide)
    refine gives_of_answer (shipSourceGood s.chip) rfl (by simp +contextual [Only]) ?_
    rw [hloop]
    refine ⟨?_, fun n => ?_⟩
    · exact each_batt (fun s d => toQualifying_part .batt (by decide) s d) _
    · rw [each_strsIn .ship (fun s d => congrArg Chip.strs (toQualifying_eq s d))]
      rfl
  case press =>
    intro s hdrives
    refine gives_of_answer (longPress s.chip) rfl (by simp +contextual [Only]) ?_
    rw [longPress_of_driven hdrives]
    constructor
    · have hmarks := each_opens_marks .opened .none ((List.finRange 4).filter fun n => longPressed s.chip.strs[n].state)
        (longMarked s.chip)
      exact congrArg (fun m => m.2.2.2) hmarks
    · intro n hn
      obtain ⟨t, ht⟩ := each_opens_mem .opened .none (strsIn_nodup fun n => longPressed s.chip.strs[n].state) (mem_strsIn.mpr hn)
        (longMarked s.chip)
      rw [ht]
      exact ⟨rfl, rfl, rfl, rfl, rfl⟩
  case pressEnd =>
    intro s hopen hdrives
    have hloop : longPressOpenEnd s.chip = each ((List.finRange 4).filter fun n => s.chip.strs[n].state == .opened)
        (fun n c => strGo n .closing (setStr n (fun x => { x with sw := false }) c))
        (setBatt (fun b => { b with longOpen := false }) s.chip) := if_neg (by rw [hopen, hdrives]; decide)
    refine gives_of_answer (longPressOpenEnd s.chip) rfl (by simp +contextual [Only]) ?_
    rw [hloop]
    refine ⟨?_, fun n => ?_⟩
    · exact each_batt (f := fun n c => strGo n .closing (setStr n (fun x => { x with sw := false }) c)) (fun s d => rfl) _
    · rw [each_strsIn .opened (g := fun _ x => wentStr .closing { x with sw := false })
        (fun s d => by rw [strGo_eq, setStr_setStr])]
      rfl
  case watchdog =>
    intro s hruns hfresh hlive
    refine gives_of_answer (battWatchdogExpiry s.chip) rfl (by simp +contextual [Only]) ?_
    rw [battWatchdogExpiry_of_running hruns hfresh hlive]
    refine ⟨?_, fun n hn => ?_, fun n hn => ?_⟩
    · exact each_batt (fun s d => by rw [log_batt, raise_batt]; rfl) _
    · rw [each_strs (fittedStrs_nodup _) fallback_strs, if_pos hn]
      simp only [fallbackStr, beq_iff_eq]
      rfl
    · rw [each_strs (fittedStrs_nodup _) fallback_strs, if_neg hn]
      rfl

end Sys2Proof.Machine
end

section
/-! CHARGE: the law of its run and its phases (R132 to R137). -/

namespace Sys2Proof.Machine

/-! ### Stock units -/

theorem hostOf_congr {c d : Chip} (hod : part .od d = part .od c) (hfuses : part .fuses d = part .fuses c)
    (hcan : part .can d = part .can c) (code i : Nat) : hostOf d code i = hostOf c code i := by
  unfold hostOf unitWord
  simp only [nat_congr hod hfuses hcan]

theorem takeSamples_hostOf (l : List Sample) (c : Chip) (code i : Nat) : hostOf (takeSamples l c) code i = hostOf c code i :=
  hostOf_congr (by simp) (by simp) (by simp) code i

/-- A stock unit that a mill holds and that may run makes its run (R230). -/
theorem stockUnit_of_host {c : Chip} {code i : Nat} {u : Unit4} (hhost : hostOf c code i = some u) (hruns : unitRuns c u)
    (law : Unit4 → Chip → Chip) : stockUnit code i law c = stockRun u (law u) c := by
  unfold stockUnit
  rw [hhost]
  exact if_pos hruns

/-- The mill at which the law of a stock run is computed. -/
def lawStart (u : Unit4) (c : Chip) : Chip := setMill u.mill (atLaw u.slot) c

/-- What the law of a stock run leaves in a part that is not a mill's. -/
theorem stockRun_keeps {pt : Part} (hmills : pt ≠ .mills) (hfresh : pt ≠ .fresh) (u : Unit4) (law : Chip → Chip) (c : Chip) :
    part pt (stockRun u law c) = part pt (law (lawStart u c)) := by
  rw [stockRun_eq, endRun_part pt hmills hfresh]
  rfl

theorem stockRun_strs (u : Unit4) (law : Chip → Chip) (c : Chip) : (stockRun u law c).strs = (law (lawStart u c)).strs :=
  stockRun_keeps (pt := .strs) (by decide) (by decide) u law c

/-! ### What the samples leave of the bus -/

theorem takeTap_busState (x : Sample) (c : Chip) : (takeTap x c).bus.state = c.bus.state := by
  unfold takeTap
  split <;> rfl

theorem takeSamples_busState (l : List Sample) (c : Chip) : (takeSamples l c).bus.state = c.bus.state := by
  have hfirst (l : List Sample) : (each l (fun x c => takeTap x (takeSample x c)) c).bus.state = c.bus.state := by
    refine each_keeps (P := fun d => d.bus.state = c.bus.state) (fun x _ d hd => ?_) rfl
    have hsample : (takeSample x d).bus = d.bus := takeSample_part .bus (by decide) (by decide) (by decide) x d
    rw [takeTap_busState, hsample, hd]
  have htap (b : Bool) (d : Chip) : (when b refreshTap d).bus = d.bus := when_part .bus _ _ _ (refreshTap_part .bus (by decide))
  have hrails (l : List (Fin 16)) (d : Chip) : (each l refreshRail d).bus = d.bus :=
    each_part .bus _ _ _ fun r d => refreshRail_part .bus (by decide) r d
  have hnew (l : List Nat) (d : Chip) : (newValues l d).bus = d.bus := newValues_part .bus (by decide) (by decide) l d
  unfold takeSamples
  rw [hnew, hrails, htap]
  exact hfirst _

theorem takeSamples_strs (l : List Sample) (c : Chip) : (takeSamples l c).strs = c.strs :=
  takeSamples_part .strs (by decide) (by decide) (by decide) (by decide) (by decide) l c

theorem strMode_congr {c d : Chip} {n : Fin 4} (hstate : d.strs[n].state = c.strs[n].state) (hbus : d.bus.state = c.bus.state) :
    strMode d n = strMode c n := by
  unfold strMode
  rw [hstate, hbus]

/-! ### The law on one string -/

theorem zero_le_ratMax (q : Rat) : 0 ≤ ratMax 0 q := by
  unfold ratMax
  split
  · assumption
  · exact Rat.le_refl

theorem zero_le_roundRat {q : Rat} (h : 0 ≤ q) : 0 ≤ roundRat q := 
  Rat.le_floor_iff.mpr (show (0 : Rat) ≤ q + 1 / 2 by grind)

theorem zero_le_ofQ {w : Word} (h : 0 ≤ w.toInt) (n : Nat) : 0 ≤ ofQ n w :=
  zero_le_rat_div (Rat.intCast_nonneg.mpr h) (Rat.pow_pos (by decide))

/-- The word of a quantity that is not negative is not negative. -/
theorem zero_le_ofQ_toQ {q : Rat} (h : 0 ≤ q) (n : Nat) : 0 ≤ ofQ n (toQ n q) := by
  have hround : 0 ≤ roundRat (q * 2 ^ n) := zero_le_roundRat (Rat.mul_nonneg h (Rat.pow_nonneg (by decide)))
  have hword : 0 ≤ (toQ n q).toInt := by
    unfold toQ
    rw [toInt_satWord]
    omega
  exact zero_le_ofQ hword n

/-- A string after its turn in a run of CHARGE: its integrator, charge current, command and over-voltage mark. -/
def chargedStr (xv ich cmd : Word) (isOver : Bool) (x : Str) : Str := { x with xv := xv, ich := ich, cmd := cmd, overV := isOver }

/-- The command of a string is published for BALANCE, which leaves the strings. -/
theorem publishCmd_strs (o : Option (Fin 16)) (w : Word) (c : Chip) :
    (match o with
      | some r => publish (176 + r) w c
      | none => c).strs = c.strs := by
  cases o
  · rfl
  · exact publish_strs _ _ _

/-- The turn of a string: a charge current of at least 0, which is its command in CHARGE, and command 0 in HOLD-ZERO (R133). -/
theorem chargeString_strs (u : Unit4) (ub : Rat) (n : Fin 4) (c : Chip) :
    ∃ xv ich cmd isOver, (chargeString u ub n c).strs = (setStr n (chargedStr xv ich cmd isOver) c).strs ∧ 0 ≤ ofQ 16 ich ∧
      (strMode c n = .charge → cmd = ich) ∧ (strMode c n = .holdZero → cmd = 0) := by
  refine ⟨_, _, _, _, publishCmd_strs _ _ _, ?_, ?_, ?_⟩
  · split
    · exact zero_le_ofQ (by decide) 16
    · exact zero_le_ofQ_toQ (zero_le_ratMax _) 16
  · intro h
    rw [h]
  · intro h
    rw [h]

theorem chargeString_ne (u : Unit4) (ub : Rat) {n m : Fin 4} (h : m ≠ n) (c : Chip) :
    (chargeString u ub n c).strs[m] = c.strs[m] := by
  obtain ⟨xv, ich, cmd, isOver, hstrs, -⟩ := chargeString_strs u ub n c
  rw [hstrs, setStr_ne h]

/-- What a string shows after a run of CHARGE in a chip that computes it. -/
def Charged (c : Chip) (n : Fin 4) (x : Str) : Prop :=
  0 ≤ ofQ 16 x.ich ∧ x.state = c.strs[n].state ∧ (strMode c n = .charge → x.cmd = x.ich) ∧ (strMode c n = .holdZero → x.cmd = 0)

theorem each_chargeString (u : Unit4) (ub : Rat) {c d : Chip} (hstrs : d.strs = c.strs) (hbus : d.bus.state = c.bus.state) {n : Fin 4}
    {l : List (Fin 4)} (hnodup : l.Nodup) (hin : n ∈ l) : Charged c n (each l (chargeString u ub) d).strs[n] := by
  refine each_at (P := fun e => e.strs[n] = c.strs[n] ∧ e.bus.state = c.bus.state) (Q := fun e => Charged c n e.strs[n]) hin hnodup
    (fun m hm e he => ⟨(chargeString_ne u ub hm.symm e).trans he.1, ?_⟩) (fun e he => ?_) (fun m hm e he => ?_)
    ⟨by rw [hstrs], hbus⟩
  · rw [show (chargeString u ub m e).bus = e.bus from chargeString_part .bus (by decide) (by decide) u ub m e]
    exact he.2
  · obtain ⟨hself, hstate⟩ := he
    obtain ⟨xv, ich, cmd, isOver, hturn, hich, hcharge, hzero⟩ := chargeString_strs u ub n e
    have hmode : strMode e n = strMode c n := strMode_congr (by rw [hself]) hstate
    rw [hmode] at hcharge hzero
    rw [hturn, setStr_self, hself]
    exact ⟨hich, rfl, hcharge, hzero⟩
  · rw [chargeString_ne u ub hm.symm e]
    exact he

/-- A unit that does not track computes CHARGE (R132). -/
theorem chargeUnit_of_untracked (u : Unit4) {c : Chip} (h : trackOf c = none) : ∃ ub xb, (chargeUnit u c).strs =
    (each (fittedStrs c) (chargeString u ub) (setBatt (fun b => { b with xb := xb }) c)).strs := by
  unfold trackOf at h
  unfold chargeUnit
  cases htrack : c.twin.track with
  | none =>
    cases hstate : c.twin.state
    all_goals exact ⟨_, _, rfl⟩
  | some t =>
    cases hstate : c.twin.state
    case standby => rw [hstate, htrack] at h; simp at h
    all_goals exact ⟨_, _, rfl⟩

/-! ### Tracking -/

theorem chargeTrack_strs (u : Unit4) (t : TrackFrame) (n : Fin 4) (c : Chip) :
    ∃ xv, (chargeTrack u t n c).strs = (setStr n (fun x => { x with xv := xv, cmd := t.commands[n] }) c).strs :=
  ⟨_, publishCmd_strs _ _ _⟩

theorem chargeTrack_ne (u : Unit4) (t : TrackFrame) {n m : Fin 4} (h : m ≠ n) (c : Chip) :
    (chargeTrack u t n c).strs[m] = c.strs[m] := by
  obtain ⟨xv, hstrs⟩ := chargeTrack_strs u t n c
  rw [hstrs, setStr_ne h]

theorem each_chargeTrack (u : Unit4) (t : TrackFrame) (c : Chip) {n : Fin 4} {l : List (Fin 4)} (hnodup : l.Nodup) (hin : n ∈ l) :
    (each l (chargeTrack u t) c).strs[n].cmd = t.commands[n] := by
  refine each_at (P := fun _ => True) (Q := fun e => e.strs[n].cmd = t.commands[n]) hin hnodup (fun _ _ _ _ => trivial)
    (fun e _ => ?_) (fun m hm e he => ?_) trivial
  · obtain ⟨xv, hstrs⟩ := chargeTrack_strs u t n e
    rw [hstrs, setStr_self]
  · rw [chargeTrack_ne u t hm.symm e]
    exact he

theorem chargeUnit_of_tracked (u : Unit4) {c : Chip} {t : TrackFrame} (h : trackOf c = some t) :
    chargeUnit u c = each (fittedStrs c) (chargeTrack u t) c := by
  unfold trackOf at h
  split at h
  case isTrue hstandby =>
    unfold chargeUnit
    rw [beq_iff_eq.mp hstandby, h]
  case isFalse => exact absurd h (by simp)

/-! ### The run -/

/-- The chip at which CHARGE is computed after its samples. -/
def chargeStart (samples : List Sample) (u : Unit4) (c : Chip) : Chip := lawStart u (takeSamples samples c)

theorem chargeRow_strs {samples : List Sample} {u : Unit4} {c : Chip} (hhost : hostOf c 4 0 = some u)
    (hruns : unitRuns (takeSamples samples c) u) : (chargeRow samples c).strs = (chargeUnit u (chargeStart samples u c)).strs := by
  unfold chargeRow
  rw [stockUnit_of_host ((takeSamples_hostOf samples c 4 0).trans hhost) hruns, stockRun_strs]
  rfl

theorem chargeStart_trackOf (samples : List Sample) (u : Unit4) (c : Chip) : trackOf (chargeStart samples u c) = trackOf c := by
  have htwin : (chargeStart samples u c).twin = c.twin :=
    (takeSamples_part .twin (by decide) (by decide) (by decide) (by decide) (by decide) samples c)
  unfold trackOf
  rw [htwin]

theorem chargeStart_fittedStrs (samples : List Sample) (u : Unit4) (c : Chip) :
    fittedStrs (chargeStart samples u c) = fittedStrs c :=
  fittedStrs_congr (by simp [chargeStart, lawStart]) (by simp [chargeStart, lawStart]) (by simp [chargeStart, lawStart])

theorem chargeStart_strs (samples : List Sample) (u : Unit4) (c : Chip) : (chargeStart samples u c).strs = c.strs :=
  takeSamples_strs samples c

theorem chargeStart_busState (samples : List Sample) (u : Unit4) (c : Chip) : (chargeStart samples u c).bus.state = c.bus.state :=
  takeSamples_busState samples c

/-- A run of CHARGE that computes leaves every fitted string charged (R132). -/
theorem chargeRow_charged {samples : List Sample} {u : Unit4} {c : Chip} (htrack : trackOf c = none) (hhost : hostOf c 4 0 = some u)
    (hruns : unitRuns (takeSamples samples c) u) {n : Fin 4} (hn : n ∈ fittedStrs c) : Charged c n (chargeRow samples c).strs[n] := by
  obtain ⟨ub, xb, hlaw⟩ := chargeUnit_of_untracked u ((chargeStart_trackOf samples u c).trans htrack)
  rw [chargeRow_strs hhost hruns, hlaw]
  refine each_chargeString u ub ?_ ?_ (fittedStrs_nodup _) (by rw [chargeStart_fittedStrs]; exact hn)
  · rw [setBatt_strs, chargeStart_strs]
  · rw [setBatt_bus, chargeStart_busState]

/-- Settles O14: a run of CHARGE is its law on each fitted string in turn, and the phases each change their own string. -/
theorem chargeCommands : Obligations.ChargeCommands := by
  unfold Obligations.ChargeCommands
  refine ⟨?run, ?track, ?overvolt, ?absorb, ?float, ?rebulk⟩
  case run =>
    intro s samples u hfits htrack hhost hruns
    refine gives_of_guarded (chargeRow samples s.chip) hfits rfl (by simp +contextual [Only, chargeRow]) fun n hn => ?_
    exact chargeRow_charged htrack hhost hruns hn
  case track =>
    intro s samples u t hfits htrack hhost hruns
    refine gives_of_guarded (chargeRow samples s.chip) hfits rfl (by simp +contextual [Only, chargeRow]) fun n hn => ?_
    rw [chargeRow_strs hhost hruns, chargeUnit_of_tracked u ((chargeStart_trackOf samples u s.chip).trans htrack)]
    exact each_chargeTrack u t _ (fittedStrs_nodup _) (by rw [chargeStart_fittedStrs]; exact hn)
  case overvolt =>
    intro s n hfitted hlive hhigh
    have hset : stringOvervoltage n s.chip = when (!s.chip.strs[n].overV) (raise (64 + n) 4 0)
        (setStr n (fun x => { x with overV := true, ich := 0 }) s.chip) := by
      unfold stringOvervoltage
      exact if_neg (by
        rw [hlive, decide_eq_false (Rat.not_le.mpr hhigh), Option.isNone_eq_false_iff.mpr hfitted]
        decide)
    refine gives_of_answer _ (congrArg (answer s) hset) (by simp +contextual [Only]) ⟨?_, ?_⟩
    · rw [when_raise_strs]
      rfl
    · rw [when_raise_watch _ _ _ _ (setStr_watch _ _ _ : (setStr n _ s.chip).watch = s.chip.watch)]
      cases s.chip.strs[n].overV <;> rfl
  case absorb =>
    intro s n hphase hfall hlive
    exact gives_of_answer _ (congrArg (answer s) (if_pos (by rw [hphase, hfall, hlive]; rfl))) (by simp +contextual [Only]) rfl
  case float =>
    intro s n hphase hlive
    exact gives_of_answer _ (congrArg (answer s) (if_pos (by rw [hphase, hlive]; rfl))) (by simp +contextual [Only]) rfl
  case rebulk =>
    intro s n hphase hfall hlive hsoc
    exact gives_of_answer _ (congrArg (answer s) (if_pos (by rw [hphase, hfall, hlive, decide_eq_true hsoc]; rfl)))
      (by simp +contextual [Only]) rfl

end Sys2Proof.Machine
end

section
/-! The estimator and fallow windows (R140 to R156). -/

namespace Sys2Proof.Machine

/-! ### Changes of one estimate -/

theorem setEst_setEst (n : Fin 4) (f g : Est → Est) (c : Chip) : setEst n f (setEst n g c) = setEst n (fun x => f (g x)) c := by
  simp [setEst]

theorem setEst_ne {n m : Fin 4} (h : m ≠ n) (f : Est → Est) (c : Chip) : (setEst n f c).ests[m] = c.ests[m] := by
  rw [setEst_ests, if_neg (Ne.symm h)]

theorem takeSamples_ests (l : List Sample) (c : Chip) : (takeSamples l c).ests = c.ests :=
  takeSamples_part .ests (by decide) (by decide) (by decide) (by decide) (by decide) l c

theorem takeSamples_strRail (l : List Sample) (c : Chip) (n : Fin 4) : strRail (takeSamples l c) n = strRail c n :=
  strRail_congr (by simp) (by simp) (by simp) n

/-! ### Samples -/

theorem clampRat_bounds {hi : Rat} (h : 0 ≤ hi) (v : Rat) : 0 ≤ clampRat 0 hi v ∧ clampRat 0 hi v ≤ hi := by
  unfold clampRat ratMax ratMin
  repeat' split
  all_goals constructor <;> grind

/-- The resistance of a string moves, with the samples held for its next step, and nothing else (R141). -/
theorem resistanceStep_ests (n : Fin 4) (c : Chip) :
    ∃ r h, resistanceStep n c = setEst n (fun e => { e with resistance := r, history := h }) c := by
  unfold resistanceStep
  dsimp only
  cases c.ests[n].history.getLast? with
  | none => exact ⟨c.ests[n].resistance, _, rfl⟩
  | some s =>
    dsimp only
    split
    · exact ⟨_, _, rfl⟩
    · exact ⟨c.ests[n].resistance, _, rfl⟩

/-- The charge that a sample of 250 µs moves, in mAh (R140). -/
def sampleCharge (c : Chip) (n : Fin 4) : Rat := val c (68 + n) * 1000 / 14400000

/-- The load filter and the rest of a string after a sample (R142, R144). -/
def loadFiltered (n : Fin 4) (c : Chip) : Chip :=
  let d := setEst n (fun e => { e with
    iFilt := e.iFilt + Config.filterGain 250 (nat c (kStrLoadFilter n) * 1000000) * (ratMax 0 (-val c (68 + n)) - e.iFilt) }) c
  setStr n (fun x => { x with resting := rests d n }) d

theorem loadFiltered_ests (n : Fin 4) (c : Chip) :
    ∃ i, (loadFiltered n c).ests = (setEst n (fun e => { e with iFilt := i }) c).ests := ⟨_, rfl⟩

theorem loadFiltered_strs (n : Fin 4) (c : Chip) :
    ∃ rest, (loadFiltered n c).strs = (setStr n (fun x => { x with resting := rest }) c).strs := ⟨_, rfl⟩

/-- The charge that flows in counts at its efficiency (R140). -/
def countedCharge (c : Chip) (n : Fin 4) : Rat :=
  if 0 < sampleCharge c n then sampleCharge c n * pct (num c (kStrChargeEff n)) else sampleCharge c n

/-- An estimate that counts a charge (R140, R146). -/
def countedEst (w q : Rat) (e : Est) : Est :=
  { e with charge := clampRat 0 e.capacity (e.charge + w), dq := e.dq + w, throughput := e.throughput + ratAbs q }

theorem estimatorSample_eq {n : Fin 4} {samples : List Sample} {c : Chip} (hlive : live c) (hfitted : (strRail c n).isSome)
    (hfrozen : c.strs[n].frozen = false) :
    estimatorSample n samples c =
      setEst n (countedEst (countedCharge (loadFiltered n (takeSamples samples c)) n) (sampleCharge (takeSamples samples c) n))
        (resistanceStep n (loadFiltered n (takeSamples samples c))) := by
  have hstrs := takeSamples_strs samples c
  have hlive' := (takeSamples_live samples c).trans hlive
  have hfitted' := Option.isNone_eq_false_iff.mpr ((congrArg Option.isSome (takeSamples_strRail samples c n)).trans hfitted)
  unfold estimatorSample
  generalize takeSamples samples c = d at *
  dsimp only
  rw [if_neg (by rw [hlive', hfitted']; decide), if_neg (by rw [setStr_self, setEst_strs, hstrs, hfrozen]; decide)]
  rfl

/-- The estimate of a string that is not frozen after a sample: its charge within its bounds, its throughput counted (R140). -/
theorem estimatorSample_ests {n : Fin 4} {samples : List Sample} {c : Chip} (hlive : live c) (hfitted : (strRail c n).isSome)
    (hfrozen : c.strs[n].frozen = false) :
    ∃ i r h w, (estimatorSample n samples c).ests = (setEst n (fun e => countedEst w (sampleCharge (takeSamples samples c) n)
      { e with iFilt := i, resistance := r, history := h }) c).ests := by
  obtain ⟨i, hfilter⟩ := loadFiltered_ests n (takeSamples samples c)
  rw [estimatorSample_eq hlive hfitted hfrozen]
  obtain ⟨r, h, hstep⟩ := resistanceStep_ests n (loadFiltered n (takeSamples samples c))
  refine ⟨i, r, h, countedCharge (loadFiltered n (takeSamples samples c)) n, ?_⟩
  have hcongr (f : Est → Est) {d e : Chip} (hde : d.ests = e.ests) : (setEst n f d).ests = (setEst n f e).ests := by
    unfold setEst
    rw [hde]
  rw [hstep, setEst_setEst, hcongr _ hfilter, setEst_setEst, hcongr _ (takeSamples_ests samples c)]

theorem estimatorSample_strs {n : Fin 4} {samples : List Sample} {c : Chip} (hlive : live c) (hfitted : (strRail c n).isSome)
    (hfrozen : c.strs[n].frozen = false) :
    ∃ rest, (estimatorSample n samples c).strs = (setStr n (fun x => { x with resting := rest }) c).strs := by
  obtain ⟨rest, hfilter⟩ := loadFiltered_strs n (takeSamples samples c)
  have hstep (d : Chip) : (resistanceStep n d).strs = d.strs := resistanceStep_part .strs (by decide) n d
  refine ⟨rest, ?_⟩
  rw [estimatorSample_eq hlive hfitted hfrozen, setEst_strs, hstep, hfilter, setStr_strs_congr n _ (takeSamples_strs samples c)]

/-! ### The refresh -/

/-- The outputs of an estimate (R140, R142, R143): `StrSocAbs` is its charge over its capacity. -/
theorem refreshEst_ests (n : Fin 4) (c : Chip) : ∃ soc usable left,
    (refreshEst n c).ests = (setEst n (fun e => { e with
      socAbs := if (e.capacity : Rat) = 0 then 0 else (e.charge / e.capacity * 10000).floor.toNat
      soc := soc, usableJ := usable, timeToShutdown := left }) c).ests := by
  unfold refreshEst
  rw [show ∀ d : Chip, (takeFree d).ests = d.ests from fun d => rfl, setEst_setEst]
  exact ⟨_, _, _, rfl⟩

/-- An estimate that has been refreshed. -/
def Refreshed (x e : Est) : Prop :=
  e.charge = x.charge ∧ e.capacity = x.capacity ∧
  e.socAbs = if (x.capacity : Rat) = 0 then 0 else (x.charge / x.capacity * 10000).floor.toNat

theorem refreshEst_ne {n m : Fin 4} (h : m ≠ n) (c : Chip) : (refreshEst n c).ests[m] = c.ests[m] := by
  obtain ⟨soc, usable, left, hests⟩ := refreshEst_ests n c
  rw [hests, setEst_ne h]

theorem each_refreshEst_mem {l : List (Fin 4)} (hnodup : l.Nodup) {n : Fin 4} (hin : n ∈ l) (c : Chip) :
    Refreshed c.ests[n] (each l refreshEst c).ests[n] := by
  refine each_at (P := fun d => d.ests[n] = c.ests[n]) (Q := fun d => Refreshed c.ests[n] d.ests[n]) hin hnodup
    (fun m hm d hd => (refreshEst_ne hm.symm d).trans hd) (fun d hd => ?_)
    (fun m hm d hd => by rw [refreshEst_ne hm.symm d]; exact hd) rfl
  obtain ⟨soc, usable, left, hests⟩ := refreshEst_ests n d
  rw [hests, setEst_self, hd]
  exact ⟨rfl, rfl, rfl⟩

theorem each_refreshEst_not_mem {l : List (Fin 4)} {n : Fin 4} (hin : n ∉ l) (c : Chip) :
    (each l refreshEst c).ests[n] = c.ests[n] :=
  each_keeps (P := fun d => d.ests[n] = c.ests[n])
    (fun m hm d hd => (refreshEst_ne (fun h : n = m => hin (h ▸ hm)) d).trans hd) rfl

/-! ### Anchors -/

/-- A string and its estimate after an anchor (R145 to R147): the other strings are as they were. -/
structure Anchored (n : Fin 4) (c d : Chip) : Prop where
  at_ : d.ests[n].anchorAt = some (nowMs c)
  cycle : d.ests[n].anchorCycle = c.clock.powerCycles
  anchored : d.ests[n].anchored = true
  dq : d.ests[n].dq = 0
  throughput : d.ests[n].throughput = 0
  lowConf : d.strs[n].lowConf = false
  others : ∀ m : Fin 4, m ≠ n → d.ests[m] = c.ests[m] ∧ d.strs[m] = c.strs[m]

/-- A second anchor teaches the capacity, or its measurement is rejected, or there is nothing to learn (R146, R147). -/
theorem learnCapacity_cases (n : Fin 4) (soc : Nat) (c : Chip) :
    learnCapacity n soc c = c ∨
    (∃ k, learnCapacity n soc c =
      setEst n (fun e => { e with capacity := k }) (setStr n (fun x => { x with learnRej := false }) c)) ∨
    learnCapacity n soc c = raise (68 + n) 3 0 (setStr n (fun x => { x with learnRej := true }) c) := by
  unfold learnCapacity
  extract_lets e apart meas rated cap
  split
  · exact .inl rfl
  · split
    · exact .inr (.inl ⟨_, rfl⟩)
    · exact .inr (.inr rfl)

theorem learnCapacity_others (n : Fin 4) (soc : Nat) (c : Chip) {m : Fin 4} (h : m ≠ n) :
    (learnCapacity n soc c).ests[m] = c.ests[m] ∧ (learnCapacity n soc c).strs[m] = c.strs[m] := by
  rcases learnCapacity_cases n soc c with hkept | ⟨k, hlearned⟩ | hrejected
  · rw [hkept]
    exact ⟨rfl, rfl⟩
  · rw [hlearned, setEst_ne h, setStr_ests, setEst_strs, setStr_ne h]
    exact ⟨rfl, rfl⟩
  · rw [hrejected, raise_ests, setStr_ests, raise_strs, setStr_ne h]
    exact ⟨rfl, rfl⟩

theorem takeAnchor_anchored (n : Fin 4) (c : Chip) : Anchored n c (takeAnchor n c) := by
  have hclock (soc : Nat) (d : Chip) : (learnCapacity n soc d).clock = d.clock :=
    learnCapacity_part .clock (by decide) (by decide) (by decide) n soc d
  unfold takeAnchor
  dsimp only
  constructor
  case others =>
    intro m hm
    rw [setStr_ests, setStr_ne hm, setEst_ne hm, setEst_strs]
    exact learnCapacity_others n _ _ hm
  case lowConf => rw [setStr_self]
  all_goals rw [setStr_ests, setEst_self]
  case at_ =>
    unfold nowMs
    rw [hclock]
    rfl
  case cycle =>
    dsimp only
    rw [hclock]
    rfl

theorem Anchored.congr {n : Fin 4} {c d e : Chip} (h : Anchored n c d) (hests : e.ests = d.ests) (hlow : e.strs[n].lowConf = d.strs[n].lowConf)
    (hothers : ∀ m : Fin 4, m ≠ n → e.strs[m] = d.strs[m]) : Anchored n c e where
  at_ := by rw [hests, h.at_]
  cycle := by rw [hests, h.cycle]
  anchored := by rw [hests, h.anchored]
  dq := by rw [hests, h.dq]
  throughput := by rw [hests, h.throughput]
  lowConf := by rw [hlow, h.lowConf]
  others := fun m hm => by rw [hests, hothers m hm]; exact h.others m hm

/-- The end of the string's fallow window at its rest point (R151). -/
def endWindow (n : Fin 4) (c : Chip) : Chip :=
  if c.batt.fallowString == some n then setBatt (fun b => { b with fallowString := none }) (strGo n .inService c) else c

theorem endWindow_anchored {n : Fin 4} {c d : Chip} (h : Anchored n c d) : Anchored n c (endWindow n d) := by
  unfold endWindow
  split
  · refine h.congr rfl ?_ fun m hm => ?_
    · rw [setBatt_strs, strGo_eq, setStr_self]
      rfl
    · rw [setBatt_strs, strGo_eq, setStr_ne hm]
  · exact h

theorem slotWrite_fallowString (c : Chip) : (slotWrite c).batt.fallowString = c.batt.fallowString := by
  unfold slotWrite
  dsimp only
  repeat' split
  all_goals rfl

theorem restPoint_of_resting {n : Fin 4} {c : Chip} (hrest : c.strs[n].resting = true) (hfrozen : c.strs[n].frozen = false)
    (hfitted : (strRail c n).isSome) (hdrives : drives c) : restPoint n c = slotWrite (endWindow n (takeAnchor n c)) := by
  unfold restPoint
  rw [if_neg (by rw [hrest, hfrozen, hdrives, Option.isNone_eq_false_iff.mpr hfitted]; decide)]
  rfl

/-! ### Fallow windows -/

theorem fallowAbort_of_window {n : Fin 4} {c : Chip} (h : c.batt.fallowString = some n) :
    fallowAbort c = fallowAbortMarks n (strGo n .inService c) := by
  unfold fallowAbort
  rw [h]

theorem fallowAbort_facts {n : Fin 4} {c : Chip} (h : c.batt.fallowString = some n) :
    (fallowAbort c).batt.fallowString = none ∧ (fallowAbort c).strs = c.strs.set n { c.strs[n] with
      state := .inService, seqWaits := false, retryAt := some (nowMs c + nat c kFallowRetryDelay * 60000) } ∧
    (fallowAbort c).watch = (raise (68 + n) 4 0 c).watch := by
  rw [fallowAbort_of_window h]
  refine ⟨?_, ?_, ?_⟩
  · unfold fallowAbortMarks
    rw [log_batt, raise_batt]
    rfl
  · rw [fallowAbortMarks_strs, strGo_eq, setStr_setStr]
    rfl
  · unfold fallowAbortMarks
    rw [log_watch]
    exact raise_watch_congr _ _ _ rfl

/-! ### Slots -/

theorem slotWrite_of_free {c : Chip} (hdrives : drives c) (hdirect : c.alm.direct = false) (hfree : c.batt.slotWrite = none) :
    slotWrite c = takeFree (setBatt (fun b => { b with
      slotWrite := some (staleSlot c, entryBytes (newEntry c)), slotOwed := false, lastSave := nowMs c })
      (setNor (fun n => { n with slots := n.slots.set (staleSlot c) .torn }) c)) := by
  unfold slotWrite
  rw [if_neg (by rw [hdrives, hdirect]; decide), if_neg (by rw [hfree]; decide)]

theorem estimatorSlotWriteDone_of_writing {c : Chip} {k : Fin 2} {e : List Byte} (h : c.batt.slotWrite = some (k, e))
    (howed : c.batt.slotOwed = false) : estimatorSlotWriteDone c =
      setNor (fun n => { n with slots := n.slots.set k (.entry e) })
        (setBatt (fun b => { b with slotWrite := none, slotOwed := false }) c) := by
  unfold estimatorSlotWriteDone
  rw [h]
  dsimp only
  rw [howed]
  rfl

theorem natCast_le_max (a : Nat) : (a : Rat) ≤ max 0 (a : Rat) := by
  rw [Rat.max_def]
  split
  case isTrue => exact Rat.le_refl
  case isFalse h => exact Rat.le_of_lt (Rat.not_le.mp h)

/-- Settles O15: the sample, the anchor and the window each change one string and its estimate. -/
theorem estimatorAndFallowCommands : Obligations.EstimatorAndFallowCommands := by
  unfold Obligations.EstimatorAndFallowCommands
  refine ⟨?sample, ?refresh, ?rest, ?check, ?fails, ?noRest, ?save, ?done⟩
  case sample =>
    intro s n samples hfits hlive hfitted hfrozen
    obtain ⟨i, r, h, w, hests⟩ := estimatorSample_ests (samples := samples) hlive hfitted hfrozen
    obtain ⟨rest, hstrs⟩ := estimatorSample_strs (samples := samples) hlive hfitted hfrozen
    refine gives_of_guarded (estimatorSample n samples s.chip) hfits rfl (by simp +contextual [Only]) ?_
    rw [hests, hstrs, setEst_self]
    have hcap : (0 : Rat) ≤ (s.chip.ests[n].capacity : Rat) := Rat.natCast_nonneg
    obtain ⟨hlow, hhigh⟩ := clampRat_bounds hcap (s.chip.ests[n].charge + w)
    exact ⟨hlow, Rat.le_trans hhigh (natCast_le_max _), rfl, rfl, fun m hm => ⟨setEst_ne hm _ _, setStr_ne hm _ _⟩⟩
  case refresh =>
    intro s hlive
    have hrefresh : estimatorRefresh s.chip = each (fittedStrs s.chip) refreshEst s.chip := by
      unfold estimatorRefresh when
      exact if_pos hlive
    refine gives_of_answer _ (congrArg (answer s) hrefresh) (by simp +contextual [Only]) fun n => ?_
    by_cases hn : n ∈ fittedStrs s.chip
    · obtain ⟨hcharge, hcap, hsoc⟩ := each_refreshEst_mem (fittedStrs_nodup _) hn s.chip
      refine ⟨hcharge, hcap, fun h => absurd hn h, fun _ hne => ?_⟩
      rw [hsoc, if_neg (by exact_mod_cast hne)]
    · rw [each_refreshEst_not_mem hn]
      exact ⟨rfl, rfl, fun _ => rfl, fun h => absurd h hn⟩
  case rest =>
    intro s n hrest hfrozen hfitted hdrives
    have hanchor := endWindow_anchored (takeAnchor_anchored n s.chip)
    have hslot : Anchored n s.chip (slotWrite (endWindow n (takeAnchor n s.chip))) :=
      hanchor.congr (slotWrite_part .ests (by decide) (by decide) (by decide) _) (by rw [slotWrite_strs])
        fun m _ => by rw [slotWrite_strs]
    refine gives_of_answer (restPoint n s.chip) rfl (by simp +contextual [Only]) ?_
    rw [restPoint_of_resting hrest hfrozen hfitted hdrives]
    refine ⟨hslot.at_, hslot.cycle, hslot.anchored, hslot.dq, hslot.throughput, hslot.lowConf, fun hwindow => ?_, hslot.others⟩
    have hbatt : (takeAnchor n s.chip).batt = s.chip.batt :=
      takeAnchor_part .batt (by decide) (by decide) (by decide) (by decide) n s.chip
    have hend : endWindow n (takeAnchor n s.chip) =
        setBatt (fun b => { b with fallowString := none }) (strGo n .inService (takeAnchor n s.chip)) :=
      if_pos (by rw [hbatt, hwindow]; exact beq_self_eq_true _)
    rw [slotWrite_fallowString, slotWrite_strs, hend]
    refine ⟨rfl, ?_⟩
    rw [setBatt_strs, strGo_eq, setStr_self]
    rfl
  case check =>
    intro s n hdrives hchoice hmay
    have hstate : s.chip.strs[n].state = .inService := by
      unfold fallowMayStart at hmay
      simp only [Bool.and_eq_true, beq_iff_eq] at hmay
      exact hmay.2
    have hcheck : fallowCheck s.chip = setBatt (fun b => { b with fallowString := some n, fallowStart := nowMs s.chip })
        (strGo n .fallow (setBatt (fun b => { b with fallowChosen := none }) s.chip)) := by
      unfold fallowCheck
      rw [if_neg (by rw [hdrives]; decide), hchoice]
      exact if_pos hmay
    refine gives_of_answer _ (congrArg (answer s) hcheck) (by simp +contextual [Only]) ⟨?_, rfl⟩
    rw [setBatt_strs, strGo_eq]
    rfl
  case fails =>
    intro s n hdrives hwindow hfails
    have habort : fallowConditionFail s.chip = fallowAbort s.chip := by
      unfold fallowConditionFail
      rw [hwindow]
      exact if_pos (by rw [hdrives, hfails]; rfl)
    exact gives_of_answer _ (congrArg (answer s) habort) (by simp +contextual [Only]) (fallowAbort_facts hwindow)
  case noRest =>
    intro s n hdrives hwindow
    exact gives_of_answer _ (congrArg (answer s) (if_pos hdrives)) (by simp +contextual [Only]) (fallowAbort_facts hwindow)
  case save =>
    intro s hdrives hdirect hfree
    exact gives_of_answer _ (congrArg (answer s) (slotWrite_of_free hdrives hdirect hfree)) (by simp +contextual [Only])
      ⟨rfl, rfl, rfl⟩
  case done =>
    intro s k e hwriting howed
    refine gives_of_answer _ (congrArg (answer s) (estimatorSlotWriteDone_of_writing hwriting howed)) (by simp +contextual [Only])
      ⟨?_, rfl⟩
    rw [← howed]
    rfl

end Sys2Proof.Machine
end

section
/-! Plant-level sharing and the well (R49 to R55, R241). -/

namespace Sys2Proof.Machine

/-! ### Plant sharing -/

theorem laneCopy_onlySends (p : LanePort) (dest cls : Nat) (n : BitVec 16) (l : List Byte) : OnlySends (laneCopy p dest cls n l) :=
  fun c => laneLeave_onlySends p _ c

/-- A send of an active node takes the next sequence number of its class (R335). -/
theorem laneSend_seqs {c : Chip} (hactive : laneActive c) (byA byB : Bool) (dest cls : Nat) (payload : List Byte) :
    (laneSend byA byB dest cls payload c).lane.seqs = c.lane.seqs.set (Fin.ofNat 16 cls) (c.lane.seqs[Fin.ofNat 16 cls] + 1) := by
  have hcopy (b : Bool) (p : LanePort) (n : BitVec 16) (l : List Byte) (d : Chip) :
      (when b (laneCopy p dest cls n l) d).lane.seqs = d.lane.seqs := by
    obtain ⟨tx, htx⟩ := when_onlySends b (laneCopy_onlySends p dest cls n l) d
    rw [htx]
  unfold laneSend
  rw [if_neg (by simp [hactive]), hcopy, hcopy]
  rfl

theorem hundredMicro_nonneg {v : Int} (h : 0 ≤ v) : 0 ≤ hundredMicro v := by
  exact zero_le_rat_div (Rat.intCast_nonneg.mpr h) (by decide)

/-- A clamp between the two ends of a band stays in the band. -/
theorem clampRat_band {band : Rat} (h : 0 ≤ band) (v : Rat) : -band ≤ clampRat (-band) band v ∧ clampRat (-band) band v ≤ band := by
  unfold clampRat ratMax ratMin
  repeat' split
  all_goals constructor <;> grind

/-- The trim of a group that is heard stays within `ShareBand` (R50). -/
theorem plantTrimUpdate_within {c : Chip} (hgroup : nat c kShareGroup ≠ 0) (hdrives : drives c) (hstate : c.bus.state ≠ .handover)
    (hband : 0 ≤ num c kShareBand) (hheard : c.bus.silent = false) :
    -hundredMicro (num c kShareBand) ≤ (plantTrimUpdate c).bus.plantTrim ∧
    (plantTrimUpdate c).bus.plantTrim ≤ hundredMicro (num c kShareBand) := by
  unfold plantTrimUpdate
  rw [if_neg (by simp [hgroup, hdrives, hstate]), if_neg (by rw [hheard]; decide)]
  dsimp only
  split
  all_goals exact clampRat_band (hundredMicro_nonneg hband) _

theorem plantTrimUpdate_of_silent {c : Chip} (hgroup : nat c kShareGroup ≠ 0) (hdrives : drives c)
    (hstate : c.bus.state ≠ .handover) (hsilent : c.bus.silent = true) :
    (plantTrimUpdate c).bus.rampLeft = c.bus.rampLeft - 1 := by
  unfold plantTrimUpdate
  rw [if_neg (by simp [hgroup, hdrives, hstate]), if_pos hsilent]
  rfl

/-! ### WELLRATE -/

/-- The judgement of the bus by its taps leaves the mills (R41). -/
theorem refreshBus_mills (c : Chip) : (refreshBus c).mills = c.mills := refreshBus_part .mills (by decide) (by decide) c

theorem unitRuns_congr {c d : Chip} (h : d.mills = c.mills) (u : Unit4) : unitRuns d u = unitRuns c u := by
  unfold unitRuns
  rw [h]

/-- The chip at which WELLRATE is computed after its samples. -/
def wellStart (samples : List Sample) (u : Unit4) (c : Chip) : Chip := lawStart u (refreshBus (takeSamples samples c))

theorem wellStart_part {pt : Part} (h0 : pt ≠ .chans) (h1 : pt ≠ .bus) (h2 : pt ≠ .wms) (h3 : pt ≠ .mills) (h4 : pt ≠ .watch)
    (samples : List Sample) (u : Unit4) (c : Chip) : part pt (wellStart samples u c) = part pt c := by
  unfold wellStart lawStart
  rw [setMill_part pt h3, refreshBus_part pt h0 h1, takeSamples_part pt h0 h1 h2 h3 h4]

theorem wellrateRow_of_host {samples : List Sample} {u : Unit4} {c : Chip} (hhost : hostOf c 5 0 = some u)
    (hruns : unitRuns (takeSamples samples c) u) :
    wellrateRow samples c = stockRun u (wellrateUnit u) (refreshBus (takeSamples samples c)) := by
  unfold wellrateRow
  refine stockUnit_of_host ?_ ?_ wellrateUnit
  · rw [hostOf_congr (c := takeSamples samples c) (by simp) (by simp) (by simp), takeSamples_hostOf, hhost]
  · rw [unitRuns_congr (refreshBus_mills _)]
    exact hruns

theorem publish_writtenAt (ch : Nat) (w : Word) (c : Chip) : (chanOf (publish ch w c) ch).writtenAt = some c.clock.us := by
  unfold chanOf publish
  rw [setChan_self]

theorem noteSat_well (u : Unit4) (b : Bool) (c : Chip) : (noteSat u b c).well = c.well := noteSat_part .well (by decide) u b c

/-- The fast part of the well with the run counted (R241). -/
def wellFast (u : Unit4) (c : Chip) : Chip :=
  let k := coef c u
  let vb := ofQ 22 c.bus.voltage
  let pr := vb * ((fittedRms c).map fun n => val c (48 + n.val)).foldl (· + ·) 0
  let powers := ((List.finRange 4).filter (available c)).map fun s => val c (64 + s.val) * val c (68 + s.val)
  let ps := powers.foldl (· + ·) 0
  let pd := (powers.map fun p => ratMax 0 (-p)).foldl (· + ·) 0
  let d := toQ 8 (pr + pd)
  let c := noteSat u (overflows 8 (pr + pd)) (publish 158 d c)
  let gain := Config.filterGain 100 (nat c kWellLoadFilter * 1000000)
  setWell (fun w => { w with
    stringJ := w.stringJ + k 2 * k 3 * ps
    busJ := ratMax 0 (k 0 * vb * vb - k 1)
    load := w.load + gain * (ofQ 8 d - w.load)
    runs := (w.runs + 1) % 10 }) c

/-- The tenth run publishes the well and ends STALE. -/
theorem wellrateUnit_eq (u : Unit4) (c : Chip) : wellrateUnit u c =
    if (wellFast u c).well.runs = 0 then
      publishWell (wellFast u c).well.busJ (setWell (fun w => { w with stale := false }) (wellFast u c))
    else wellFast u c := rfl

theorem wellFast_runs (u : Unit4) (c : Chip) : (wellFast u c).well.runs = (c.well.runs + 1) % 10 := by
  unfold wellFast
  dsimp only
  rw [setWell_well, noteSat_well, publish_well]

theorem wellFast_writtenAt (u : Unit4) (c : Chip) : (chanOf (wellFast u c) 158).writtenAt = some c.clock.us := by
  have hnote (b : Bool) (d : Chip) : (noteSat u b d).chans = d.chans := noteSat_part .chans (by decide) u b d
  unfold wellFast chanOf
  dsimp only
  rw [setWell_chans, hnote]
  exact publish_writtenAt 158 _ c

theorem publishWell_runs (q : Rat) (c : Chip) : (publishWell q c).well.runs = c.well.runs := rfl

theorem publishWell_stale (q : Rat) (c : Chip) : (publishWell q c).well.stale = c.well.stale := rfl

/-- A run of WELLRATE: channel 158 is written now, the run is counted to ten, and the tenth ends STALE (R241). -/
theorem wellrateUnit_facts (u : Unit4) (c : Chip) :
    (chanOf (wellrateUnit u c) 158).writtenAt = some c.clock.us ∧ (wellrateUnit u c).well.runs = (c.well.runs + 1) % 10 ∧
    ((wellrateUnit u c).well.runs = 0 → (wellrateUnit u c).well.stale = false) := by
  rw [wellrateUnit_eq]
  by_cases htenth : (wellFast u c).well.runs = 0
  · rw [if_pos htenth]
    refine ⟨?_, ?_, fun _ => ?_⟩
    · unfold chanOf
      rw [show ∀ (q : Rat) (d : Chip), (publishWell q d).chans = d.chans from fun q d => rfl, setWell_chans]
      exact wellFast_writtenAt u c
    · rw [publishWell_runs, setWell_well]
      exact wellFast_runs u c
    · rw [publishWell_stale, setWell_well]
  · rw [if_neg htenth]
    exact ⟨wellFast_writtenAt u c, wellFast_runs u c, fun h => absurd h htenth⟩

/-- Settles O3: each command writes the part it is about, from values that the state holds. -/
theorem plantSharingAndWellCommands : Obligations.PlantSharingAndWellCommands := by
  unfold Obligations.PlantSharingAndWellCommands
  refine ⟨?send, ?trim, ?receive, ?silent, ?rate, ?strings, ?stale, ?update⟩
  case send =>
    intro s hgroup hdrives hmember hactive
    refine gives_of_answer _ (congrArg (answer s) (if_pos (by rw [hdrives, hmember, bne_iff_ne.mpr hgroup]; rfl)))
      (by simp +contextual [Only]) ?_
    exact laneSend_seqs hactive _ _ _ _ _
  case trim =>
    intro s hgroup hdrives hstate hband
    exact gives_of_answer (plantTrimUpdate s.chip) rfl (by simp +contextual [Only])
      ⟨plantTrimUpdate_of_silent hgroup hdrives hstate, plantTrimUpdate_within hgroup hdrives hstate hband⟩
  case receive =>
    intro s node p hfits hmember hgroup hsame hother
    refine gives_of_guarded (shareFrameReceive node p s.chip) hfits rfl (by simp +contextual [Only]) ?_
    unfold shareFrameReceive
    rw [if_neg (by simp [hmember, hgroup, hsame, hother])]
    exact ⟨rfl, rfl⟩
  case silent =>
    intro s hgroup hlive
    have hset : shareGroupSilent s.chip =
        raise 60 1 0 (setBus (fun b => { b with silent := true, rampFrom := b.plantTrim, rampLeft := 1000 }) s.chip) := by
      unfold shareGroupSilent
      exact if_neg (by simp [hgroup, hlive])
    refine gives_of_answer _ (congrArg (answer s) hset) (by simp +contextual [Only]) ⟨?_, raise_watch_congr _ _ _ rfl⟩
    rw [raise_bus]
    rfl
  case rate =>
    intro s samples u hfits hhost hruns
    refine gives_of_guarded (wellrateRow samples s.chip) hfits rfl (by simp +contextual [Only, wellrateRow]) ?_
    obtain ⟨hwritten, hcount, hstale⟩ := wellrateUnit_facts u (wellStart samples u s.chip)
    have hwell : (wellrateRow samples s.chip).well = (wellrateUnit u (wellStart samples u s.chip)).well := by
      rw [wellrateRow_of_host hhost hruns]
      exact stockRun_keeps (pt := .well) (by decide) (by decide) _ _ _
    have hchans : (wellrateRow samples s.chip).chans = (wellrateUnit u (wellStart samples u s.chip)).chans := by
      rw [wellrateRow_of_host hhost hruns]
      exact stockRun_keeps (pt := .chans) (by decide) (by decide) _ _ _
    have hwas : (wellStart samples u s.chip).well = s.chip.well :=
      wellStart_part (pt := .well) (by decide) (by decide) (by decide) (by decide) (by decide) samples u s.chip
    have hclock : (wellStart samples u s.chip).clock = s.chip.clock :=
      wellStart_part (pt := .clock) (by decide) (by decide) (by decide) (by decide) (by decide) samples u s.chip
    rw [hwell]
    refine ⟨?_, ?_, hstale⟩
    · unfold chanOf at hwritten ⊢
      rw [hchans, hwritten, hclock]
    · rw [hcount, hwas]
  case strings =>
    intro s hlive
    refine gives_of_answer (wellStringReplace s.chip) rfl (by simp +contextual [Only]) ?_
    unfold wellStringReplace
    rw [if_neg (by simp [hlive])]
    rfl
  case stale =>
    intro s hlive hfresh
    have hset : wellStale s.chip = raise 57 1 0 (setWell (fun w => { w with stale := true }) s.chip) := by
      unfold wellStale
      exact if_neg (by rw [hlive, hfresh]; decide)
    refine gives_of_answer _ (congrArg (answer s) hset) (by simp +contextual [Only]) ⟨?_, raise_watch_congr _ _ _ rfl⟩
    rw [raise_well]
    rfl
  case update =>
    intro s hlive hstale
    refine gives_of_when (by rw [hlive, hstale]; rfl) rfl (by simp +contextual [Only]) ⟨?_, ?_, hstale⟩
    · exact (by decide : floorU32 0 = 0)
    · exact congrArg floorU32 (Rat.zero_add _)

end Sys2Proof.Machine
end

section
/-! Hand-over and hand-back (R56 to R62, R134, R136). -/

namespace Sys2Proof.Machine

/-! ### The trims at rest -/

theorem setRm_ne {n m : Fin 8} (h : m ≠ n) (f : Rm → Rm) (c : Chip) : (setRm n f c).rms[m] = c.rms[m] := by
  rw [setRm_rms, if_neg (Ne.symm h)]

theorem restTrim_congr {c d : Chip} (hod : part .od d = part .od c) (hfuses : part .fuses d = part .fuses c)
    (hcan : part .can d = part .can c) (n : Fin 8) : restTrim d n = restTrim c n := by
  unfold restTrim
  rw [flag_congr hod hfuses hcan, nat_congr hod hfuses hcan]

/-- Every trim rests and every port falls back (R47). -/
theorem trimsNeutral_rms (c : Chip) (n : Fin 8) :
    (trimsNeutral c).rms[n].trim = restTrim c n ∧ (trimsNeutral c).rms[n].fallback = true := by
  unfold trimsNeutral
  dsimp only
  rw [setBus_rms]
  refine each_at (P := fun d => restTrim d n = restTrim c n)
    (Q := fun d => d.rms[n].trim = restTrim c n ∧ d.rms[n].fallback = true) (List.mem_finRange n) (List.nodup_finRange 8)
    (fun m _ d hd => ?_) (fun d hd => ?_) (fun m hm d hd => ?_) rfl
  · rw [restTrim_congr (c := d) (by simp) (by simp) (by simp)]
    exact hd
  · rw [setRm_self]
    exact ⟨hd, rfl⟩
  · rw [setRm_ne hm.symm]
    exact hd

theorem trimsNeutral_bus (c : Chip) : (trimsNeutral c).bus = { c.bus with iv := 0, fracPending := true } := by
  have hloop (l : List (Fin 8)) (g : Fin 8 → Chip → Rm → Rm) : (each l (fun n d => setRm n (g n d) d) c).bus = c.bus :=
    each_keeps (P := fun d => d.bus = c.bus) (f := fun n d => setRm n (g n d) d) (fun n _ d hd => hd) rfl
  unfold trimsNeutral
  dsimp only
  rw [setBus_bus, hloop]

/-! ### Completion -/

theorem sourceGood_congr {c d : Chip} (hod : part .od d = part .od c) (hfuses : part .fuses d = part .fuses c)
    (hcan : part .can d = part .can c) (hrms : d.rms = c.rms) (hvoltage : d.bus.voltage = c.bus.voltage) :
    sourceGood d = sourceGood c := by
  unfold sourceGood fittedRms
  simp only [num_congr hod hfuses hcan, nat_congr hod hfuses hcan, flag_congr hod hfuses hcan, hrms, hvoltage]

/-- The strings were not all found regulating at the end of a hand-over (R62). -/
def stringsLost (c : Chip) : Bool := !((List.finRange 4).any (available c)) || !allDischarging c

/-- The chip at which a hand-over ends: the capacitance identified and NOSTRING judged (R56, R62). -/
def handoverJudged (c : Chip) : Chip :=
  when (stringsLost c) (raise 62 1 0) (setWell (fun w => { w with noString := stringsLost c }) (identify c))

theorem handoverJudged_part {pt : Part} (hwell : pt ≠ .well) (hhampers : pt ≠ .hampers) (hwatch : pt ≠ .watch) (c : Chip) :
    part pt (handoverJudged c) = part pt c := by
  unfold handoverJudged
  rw [when_part pt _ _ _ (raise_part pt hwatch _ _ _), setWell_part pt hwell, identify_part pt hwell hhampers hwatch]

theorem handoverJudged_bus (c : Chip) : (handoverJudged c).bus = c.bus :=
  handoverJudged_part (pt := .bus) (by decide) (by decide) (by decide) c

theorem handoverJudged_rms (c : Chip) : (handoverJudged c).rms = c.rms :=
  handoverJudged_part (pt := .rms) (by decide) (by decide) (by decide) c

theorem handoverJudged_sourceGood (c : Chip) : sourceGood (handoverJudged c) = sourceGood c :=
  sourceGood_congr (handoverJudged_part (by decide) (by decide) (by decide) c)
    (handoverJudged_part (by decide) (by decide) (by decide) c) (handoverJudged_part (by decide) (by decide) (by decide) c)
    (handoverJudged_rms c) (by rw [handoverJudged_bus])

/-- The bus once a hand-over has ended (R60, R62). -/
def handoverEnded (c : Chip) (b : Bus) : Bus :=
  { b with
    handovers := (b.handovers + 1) % 2 ^ 32
    state := if sourceGood c then .qualifying else .onBattery
    since := c.clock.us }

theorem handoverComplete_eq (timedOut : Bool) (c : Chip) : handoverComplete timedOut c =
    if c.bus.state != .handover || !drives c ||
      !(timedOut || !((List.finRange 4).any (available c)) || allDischarging c) then c
    else setBus (handoverEnded (handoverJudged c)) (handoverJudged c) := rfl

/-- A completion either changes nothing or ends the hand-over. -/
theorem handoverComplete_cases (timedOut : Bool) (c : Chip) :
    handoverComplete timedOut c = c ∨
    handoverComplete timedOut c = setBus (handoverEnded (handoverJudged c)) (handoverJudged c) := by
  rw [handoverComplete_eq]
  split
  · exact .inl rfl
  · exact .inr rfl

/-! ### The trigger -/

/-- What a hand-over notes at its start (R56, R60), with every trim at rest (R47). -/
structure Handed (start : Chip) (fallTime : Nat) (d : Chip) : Prop where
  fall : d.bus.fallTime = fallTime
  demand : d.bus.triggerDemand = start.cap.demandBefore
  budget : d.bus.triggerBudget = start.cap.budget
  trims : ∀ n : Fin 8, d.rms[n].trim = restTrim start n ∧ d.rms[n].fallback = true

theorem Handed.congr {start d e : Chip} {fallTime : Nat} (h : Handed start fallTime d) (hbus : e.bus = d.bus) (hrms : e.rms = d.rms) :
    Handed start fallTime e where
  fall := by rw [hbus, h.fall]
  demand := by rw [hbus, h.demand]
  budget := by rw [hbus, h.budget]
  trims := by rw [hrms]; exact h.trims

/-- The bus at the trigger of a hand-over (R60). -/
def handoverEntered (fallTime : Nat) (c : Chip) : Chip :=
  setBus (fun b => { b with
    state := .handover, since := c.clock.us, fallTime := fallTime
    triggerDemand := c.cap.demandBefore, triggerBudget := c.cap.budget }) c

/-- The chip once a hand-over has begun: xb preloaded, the window aborted, the trims at rest and the plan engaged. -/
def handoverBegun (fallTime : Nat) (c : Chip) : Chip :=
  let d := trimsNeutral (fallowAbort (preload (handoverEntered fallTime c)))
  raise 59 1 0 (when (flag d kCapEnable) (engage d.cap.plan) d)

theorem preload_bus (c : Chip) : (preload c).bus = c.bus := preload_part .bus (by decide) (by decide) c

theorem fallowAbort_bus (c : Chip) : (fallowAbort c).bus = c.bus :=
  fallowAbort_part .bus (by decide) (by decide) (by decide) (by decide) c

theorem when_engage_part {pt : Part} (h0 : pt ≠ .cap) (h1 : pt ≠ .vcs) (h2 : pt ≠ .pps) (h3 : pt ≠ .can) (b : Bool) (p : Plan) (c : Chip) :
    part pt (when b (engage p) c) = part pt c := when_part pt _ _ _ (engage_part pt h0 h1 h2 h3 p)

theorem handoverBegun_bus (fallTime : Nat) (c : Chip) : (handoverBegun fallTime c).bus =
    { (handoverEntered fallTime c).bus with iv := 0, fracPending := true } := by
  unfold handoverBegun
  dsimp only
  rw [raise_bus, show ∀ b p (d : Chip), (when b (engage p) d).bus = d.bus from fun b p d =>
    when_engage_part (pt := .bus) (by decide) (by decide) (by decide) (by decide) b p d, trimsNeutral_bus, fallowAbort_bus, preload_bus]

theorem handoverBegun_handed (fallTime : Nat) (c : Chip) : Handed c fallTime (handoverBegun fallTime c) where
  fall := by rw [handoverBegun_bus]; rfl
  demand := by rw [handoverBegun_bus]; rfl
  budget := by rw [handoverBegun_bus]; rfl
  trims n := by
    have hrest : restTrim (fallowAbort (preload (handoverEntered fallTime c))) n = restTrim c n :=
      restTrim_congr (by simp [handoverEntered]) (by simp [handoverEntered]) (by simp [handoverEntered]) n
    unfold handoverBegun
    dsimp only
    rw [raise_rms, show ∀ b p (d : Chip), (when b (engage p) d).rms = d.rms from fun b p d =>
      when_engage_part (pt := .rms) (by decide) (by decide) (by decide) (by decide) b p d, ← hrest]
    exact trimsNeutral_rms _ n

theorem handoverTrigger_eq (fallTime : Nat) (samples : List Sample) (c : Chip) : handoverTrigger fallTime samples c =
    if !drives (takeSamples samples c) ||
      !((takeSamples samples c).bus.state == .onSource || (takeSamples samples c).bus.state == .handback) ||
      !triggerHolds (takeSamples samples c) then takeSamples samples c
    else if (List.finRange 4).any (available (handoverBegun fallTime (takeSamples samples c))) then
      handoverBegun fallTime (takeSamples samples c)
    else handoverComplete false (handoverBegun fallTime (takeSamples samples c)) := rfl

/-- A trigger that holds begins the hand-over, and ends it at once where no string is available. -/
theorem handoverTrigger_of_holds {fallTime : Nat} {samples : List Sample} {c : Chip} (hdrives : drives c)
    (hstate : c.bus.state = .onSource ∨ c.bus.state = .handback) (hholds : triggerHolds (takeSamples samples c)) :
    handoverTrigger fallTime samples c = handoverBegun fallTime (takeSamples samples c) ∨
    handoverTrigger fallTime samples c = handoverComplete false (handoverBegun fallTime (takeSamples samples c)) := by
  have hplace : ((takeSamples samples c).bus.state == .onSource || (takeSamples samples c).bus.state == .handback) = true := by
    rw [takeSamples_busState]
    rcases hstate with h | h <;> rw [h] <;> rfl
  rw [handoverTrigger_eq, if_neg (by rw [takeSamples_drives, hdrives, hplace, hholds]; decide)]
  split
  · exact .inl rfl
  · exact .inr rfl

/-- The state in which a trigger leaves the bus, with what it noted. -/
theorem handoverTrigger_facts {fallTime : Nat} {samples : List Sample} {c : Chip} (hdrives : drives c)
    (hstate : c.bus.state = .onSource ∨ c.bus.state = .handback) (hholds : triggerHolds (takeSamples samples c)) :
    ((handoverTrigger fallTime samples c).bus.state = .handover ∨ (handoverTrigger fallTime samples c).bus.state = .onBattery ∨
      (handoverTrigger fallTime samples c).bus.state = .qualifying) ∧
    Handed (takeSamples samples c) fallTime (handoverTrigger fallTime samples c) := by
  have hbegun : (handoverBegun fallTime (takeSamples samples c)).bus.state = .handover := by rw [handoverBegun_bus]; rfl
  have hhanded := handoverBegun_handed fallTime (takeSamples samples c)
  rcases handoverTrigger_of_holds (fallTime := fallTime) hdrives hstate hholds with h | h
  · rw [h]
    exact ⟨.inl hbegun, hhanded⟩
  rw [h]
  rcases handoverComplete_cases false (handoverBegun fallTime (takeSamples samples c)) with hkept | hended
  · rw [hkept]
    exact ⟨.inl hbegun, hhanded⟩
  · have hjudged := hhanded.congr (handoverJudged_bus _) (handoverJudged_rms _)
    rw [hended]
    refine ⟨?_, ⟨hjudged.fall, hjudged.demand, hjudged.budget, hjudged.trims⟩⟩
    rw [setBus_bus]
    unfold handoverEnded
    dsimp only
    split
    · exact .inr (.inr rfl)
    · exact .inr (.inl rfl)

/-! ### Hand-back -/

theorem sourceQualified_of_good {c : Chip} (hstate : c.bus.state = .qualifying) (hdrives : drives c) (hgood : sourceGood c) :
    sourceQualified c = each ((List.finRange 4).filter fun n => c.strs[n].phase == .float) startCharge
      (setBus (fun b => { b with state := .handback, since := c.clock.us, fracPending := true }) c) :=
  if_pos (by rw [hstate, hdrives, hgood]; rfl)

/-- Settles O4: a trigger begins the hand-over with `handoverBegun`, and its end is `handoverEnded` after `handoverJudged`. -/
theorem handoverAndHandbackCommands : Obligations.HandoverAndHandbackCommands := by
  unfold Obligations.HandoverAndHandbackCommands
  refine ⟨?trigger, ?complete, ?good, ?bad, ?qualified, ?rampEnd⟩
  case trigger =>
    intro s fallTime samples hfall hfits hdrives hstate hholds
    obtain ⟨hnext, hhanded⟩ := handoverTrigger_facts (fallTime := fallTime) hdrives hstate hholds
    have hcap : (takeSamples samples s.chip).cap = s.chip.cap :=
      takeSamples_part .cap (by decide) (by decide) (by decide) (by decide) (by decide) samples s.chip
    refine gives_of_guarded (handoverTrigger fallTime samples s.chip) (by rw [decide_eq_true hfall, hfits]; rfl) rfl
      (by simp +contextual [Only]) ⟨hnext, hhanded.fall, ?_, ?_, fun n => ?_⟩
    · rw [hhanded.demand, hcap]
    · rw [hhanded.budget, hcap]
    · rw [← restTrim_congr (d := takeSamples samples s.chip) (c := s.chip) (by simp) (by simp) (by simp)]
      exact hhanded.trims n
  case complete =>
    intro s timedOut hstate hdrives hends
    refine gives_of_answer (handoverComplete timedOut s.chip) rfl (by simp +contextual [Only]) ?_
    rw [handoverComplete_eq, if_neg (by rw [hstate, hdrives, hends]; decide), setBus_bus, setBus_well]
    have hclock : (handoverJudged s.chip).clock = s.chip.clock :=
      handoverJudged_part (pt := .clock) (by decide) (by decide) (by decide) s.chip
    refine ⟨?_, ?_, ?_, ?_⟩
    · unfold handoverEnded
      rw [handoverJudged_sourceGood]
    · unfold handoverEnded
      rw [hclock]
    · unfold handoverEnded
      rw [handoverJudged_bus]
    · have hwell (b : Bool) (d : Chip) : (when b (raise 62 1 0) d).well = d.well := when_part .well _ _ _ (by simp)
      unfold handoverJudged
      rw [hwell]
      rfl
  case good =>
    intro s hstate hdrives hgood
    exact gives_of_answer _ (congrArg (answer s) (if_pos (by rw [hstate, hdrives, hgood]; rfl))) (by simp +contextual [Only]) rfl
  case bad =>
    intro s hstate hdrives hbad
    exact gives_of_answer _ (congrArg (answer s) (if_pos (by rw [hstate, hdrives, hbad]; rfl))) (by simp +contextual [Only]) rfl
  case qualified =>
    intro s hstate hdrives hgood
    have hbus (l : List (Fin 4)) (d : Chip) : (each l startCharge d).bus = d.bus :=
      each_part .bus _ _ _ fun n d => startCharge_part .bus (by decide) n d
    refine gives_of_answer _ (congrArg (answer s) (sourceQualified_of_good hstate hdrives hgood)) (by simp +contextual [Only])
      ⟨?_, ?_, fun k => ?_⟩
    · rw [hbus]
      rfl
    · rw [hbus]
      rfl
    · rw [each_strs (f := startCharge) (g := fun _ x => { x with phase := if x.wdFallback then .float else .cc }) (strsIn_nodup _)
        fun n d => rfl]
      simp only [mem_strsIn, beq_iff_eq]
      rfl
  case rampEnd =>
    intro s hstate hdrives
    exact gives_of_answer _ (congrArg (answer s) (if_pos (by rw [hstate, hdrives]; rfl))) (by simp +contextual [Only]) ⟨rfl, rfl⟩

end Sys2Proof.Machine
end

section
/-! Capping (R63 to R69). -/

namespace Sys2Proof.Machine

/-! ### What the stages do to the figures and the levels -/

theorem each_cap {α : Type} {l : List α} {f : α → Chip → Chip} (hf : ∀ a d, (f a d).cap = d.cap) (c : Chip) : (each l f c).cap = c.cap :=
  each_keeps (P := fun d => d.cap = c.cap) (fun a _ d hd => (hf a d).trans hd) rfl

theorem vcLevel_cap (n : Fin 4) (c : Chip) : (vcLevel n c).cap = c.cap := vcLevel_part .cap (by decide) n c

theorem setVcLevel_cap (l : Nat) (c : Chip) : (setVcLevel l c).cap = { c.cap with vcLevel := l } := by
  unfold setVcLevel
  rw [each_cap vcLevel_cap, setCap_cap]

theorem setDoorLevel_of_same {l : Nat} {c : Chip} (h : l = c.cap.doorLevel) : setDoorLevel l c = c := if_pos h

theorem setDoorLevel_of_new {l : Nat} {c : Chip} (h : l ≠ c.cap.doorLevel) :
    (setDoorLevel l c).cap = { c.cap with doorLevel := l, sequence := c.cap.sequence + 1 } := by
  unfold setDoorLevel
  rw [if_neg h, show ∀ d : Chip, (capPdo d).cap = d.cap from fun d => capPdo_part .cap (by decide) d]
  rfl

/-- The level stands where it was set, whether or not it moved; the rest of the capping but its sequence stays. -/
theorem setDoorLevel_cap (l : Nat) (c : Chip) : ∃ n, (setDoorLevel l c).cap = { c.cap with doorLevel := l, sequence := n } := by
  by_cases h : l = c.cap.doorLevel
  · rw [setDoorLevel_of_same h, h]
    exact ⟨c.cap.sequence, rfl⟩
  · exact ⟨_, setDoorLevel_of_new h⟩

/-- The stage that Table 2.10 gives. -/
def capStageOf (x : Cap) : Nat :=
  if !x.shed.isEmpty then 4
  else if x.doorLevel < 10000 then 3
  else if x.vcLevel < 10000 then 2
  else if x.chargeLimit.isSome then 1
  else 0

theorem restage_cap (c : Chip) : (restage c).cap = { c.cap with stage := capStageOf c.cap } := rfl

theorem ppRestore_cap (n : Fin 8) (c : Chip) : (ppRestore n c).cap = c.cap := ppRestore_part .cap (by decide) n c

/-- The budget and the demand of the capping. -/
def figures (c : Chip) : Int × Int := (c.cap.budget, c.cap.demand)

theorem restage_figures (c : Chip) : figures (restage c) = figures c := rfl

theorem setLevels_figures (vc door : Nat) (c : Chip) : figures (setDoorLevel door (setVcLevel vc c)) = figures c := by
  obtain ⟨n, h⟩ := setDoorLevel_cap door (setVcLevel vc c)
  unfold figures
  rw [h, setVcLevel_cap]

theorem capShed_figures (n : Fin 8) (c : Chip) : figures (capShed n c) = figures c := by
  unfold capShed figures
  rw [show ∀ d : Chip, (ppShed n d).cap = d.cap from fun d => ppShed_part .cap (by decide) n d]
  rfl

theorem engage_figures (p : Plan) (c : Chip) : figures (engage p c) = figures c := by
  unfold engage
  dsimp only
  rw [restage_figures]
  refine each_keeps (P := fun d => figures d = figures c) (fun n _ d hd => (capShed_figures n d).trans hd) ?_
  exact setLevels_figures _ _ _

/-- Every stage is released: nothing is shed, every level is full and the charge limit is gone (R65). -/
theorem releaseAll_cap (c : Chip) : ∃ n, (releaseAll c).cap = { c.cap with
    chargeLimit := none, shed := [], awaitReeval := false, vcLevel := 10000, doorLevel := 10000, stage := 0, sequence := n } := by
  unfold releaseAll
  dsimp only
  obtain ⟨n, h⟩ := setDoorLevel_cap 10000 (setVcLevel 10000
    (setCap (fun x => { x with chargeLimit := none, shed := [], awaitReeval := false }) (each c.cap.shed.reverse ppRestore c)))
  refine ⟨n, ?_⟩
  rw [restage_cap, h, setVcLevel_cap, setCap_cap, each_cap ppRestore_cap]
  rfl

theorem actOnExcess_of_disabled {c : Chip} (h : flag c kCapEnable = false) : actOnExcess c = releaseAll c := by
  unfold actOnExcess
  exact if_pos (by rw [h]; rfl)

theorem actOnExcess_figures (c : Chip) : figures (actOnExcess c) = figures c := by
  unfold actOnExcess
  dsimp only
  split
  · obtain ⟨n, h⟩ := releaseAll_cap c
    unfold figures
    rw [h]
  split
  · exact engage_figures _ c
  split
  · rfl
  · exact restage_figures c

theorem refreshCap_figures (c : Chip) : figures (refreshCap c) = (budgetNow c, demandNow c) := rfl

/-! ### Restores -/

/-- A restored port is shed no more: it ramps, or waits for its input (R66). -/
theorem ppRestore_not_shed (n : Fin 8) (c : Chip) : (ppRestore n c).pps[n].state ≠ .shed := by
  unfold ppRestore
  by_cases hshed : c.pps[n].state = .shed
  · rw [if_neg (by rw [hshed]; decide)]
    cases windowsOk c.pps[n] with
    | true =>
      change (ppRamp n c).pps[n].state ≠ _
      unfold ppRamp
      rw [setPp_self]
      exact PpState.noConfusion
    | false =>
      change (ppWait n _).pps[n].state ≠ _
      unfold ppWait
      rw [setPp_self]
      exact PpState.noConfusion
  · rw [if_pos (bne_iff_ne.mpr hshed)]
    exact hshed

theorem capRestore_of_room {c : Chip} {n : Fin 8} (hdrives : drives c) (hlast : (refreshCap c).cap.shed.getLast? = some n)
    (hroom : capExcess (refreshCap c) ≤ 0) (hpower : (c.pps[n].shedPower : Rat) < -capExcess (refreshCap c)) :
    capRestore c = restage (ppRestore n (setCap (fun x => { x with shed := x.shed.dropLast }) (refreshCap c))) := by
  unfold capRestore
  dsimp only
  rw [hlast]
  exact if_pos (by rw [hdrives, decide_eq_true hroom, decide_eq_true hpower]; rfl)

/-! ### Rising levels -/

theorem capLevelRise_of_room {c : Chip} (hdrives : drives c) (hroom : capExcess c ≤ 0) (hshed : c.cap.shed = []) :
    capLevelRise c = if c.cap.doorLevel < 10000 then restage (setDoorLevel (min 10000 (c.cap.doorLevel + 100)) c)
      else if c.cap.vcLevel < 10000 then restage (setVcLevel (min 10000 (c.cap.vcLevel + 100)) c)
      else c := by
  unfold capLevelRise
  exact if_neg (by rw [hdrives, hshed, decide_eq_false (Rat.not_lt.mpr hroom)]; decide)

/-- Settles O5: the stages keep the figures that `refreshCap` computed, and each level moves by its own setter. -/
theorem cappingCommands : Obligations.CappingCommands := by
  unfold Obligations.CappingCommands
  refine ⟨?evaluation, ?reevaluation, ?restore, ?door, ?vc, ?pdo, ?stage⟩
  case evaluation =>
    intro s hdrives
    refine gives_of_answer _ (congrArg (answer s) (if_pos hdrives : capEvaluation s.chip = actOnExcess (refreshCap s.chip)))
      (by simp +contextual [Only]) ?_
    have hfigures := (actOnExcess_figures (refreshCap s.chip)).trans (refreshCap_figures s.chip)
    refine ⟨congrArg Prod.fst hfigures, congrArg Prod.snd hfigures, fun hoff => ?_⟩
    have hoff' : flag (refreshCap s.chip) kCapEnable = false := by
      rw [flag_congr (c := s.chip) (by simp) (by simp) (by simp), hoff]
    obtain ⟨n, h⟩ := releaseAll_cap (refreshCap s.chip)
    rw [actOnExcess_of_disabled hoff', h]
    exact ⟨rfl, rfl, rfl, rfl, rfl⟩
  case reevaluation =>
    intro s hdrives hawait
    have hfigures := actOnExcess_figures (setCap (fun x => { x with awaitReeval := false }) (refreshCap s.chip))
    exact gives_of_answer _ (congrArg (answer s) (if_pos (by rw [hdrives, hawait]; rfl) : shedReevaluate s.chip =
      actOnExcess (setCap (fun x => { x with awaitReeval := false }) (refreshCap s.chip)))) (by simp +contextual [Only])
      ⟨congrArg Prod.fst hfigures, congrArg Prod.snd hfigures⟩
  case restore =>
    intro s n hdrives hlast hroom hpower
    refine gives_of_answer _ (congrArg (answer s) (capRestore_of_room hdrives hlast hroom hpower)) (by simp +contextual [Only])
      ⟨?_, ?_⟩
    · rw [restage_cap, ppRestore_cap]
      rfl
    · exact ppRestore_not_shed n _
  case door =>
    intro s hdrives hroom hshed hdoor
    have hrise := capLevelRise_of_room hdrives hroom hshed
    rw [if_pos hdoor] at hrise
    refine gives_of_answer _ (congrArg (answer s) hrise) (by simp +contextual [Only]) ?_
    rw [restage_cap, setDoorLevel_of_new (by omega)]
    exact ⟨rfl, rfl, rfl⟩
  case vc =>
    intro s hdrives hroom hshed hdoor hvc
    have hrise := capLevelRise_of_room hdrives hroom hshed
    rw [if_neg (by omega), if_pos hvc] at hrise
    refine gives_of_answer _ (congrArg (answer s) hrise) (by simp +contextual [Only]) ?_
    rw [restage_cap, setVcLevel_cap]
    exact ⟨rfl, hdoor⟩
  case pdo =>
    intro s hdrives hdoor
    exact gives_of_answer _ (congrArg (answer s) (if_pos (by rw [hdrives, decide_eq_true hdoor]; rfl))) (by simp +contextual [Only]) rfl
  case stage =>
    intro s hdrives hstage
    exact gives_of_answer _ (congrArg (answer s) (if_pos (by rw [hdrives, decide_eq_true hstage]; rfl))) (by simp +contextual [Only])
      rfl

end Sys2Proof.Machine
end

section
/-! The die sensors and the thermal protection (R372 to R378). -/

namespace Sys2Proof.Machine

/-! ### A read of the sensors -/

/-- A sensor after a read of it (R372 to R374). -/
def dieRead (c : Chip) (k : Fin 12) (r : DieReading) : Die :=
  let d := c.therm.dies[k]
  let same := if d.raw = some r.raw then d.same + 1 else 1
  let breaking := !d.broken && !masked c k && breaks d r same
  let broken := d.broken || breaking
  let t : Int := if broken then 0x7FFF else r.temp
  let warned := !masked c k &&
    (decide (num c kThermWarnLevel ≤ t) || (d.warned && decide (num c kThermWarnLevel - 32 < t)))
  { d with reads := (t :: d.reads).take 1024, raw := some r.raw, same := same, broken := broken, warned := warned }

/-- A read moves its own sensor. -/
theorem readDie_therm (k : Fin 12) (r : DieReading) (c : Chip) :
    (readDie k r c).therm = { c.therm with dies := c.therm.dies.set k (dieRead c k r) } := by
  have hevent (b : Bool) (src code : Nat) (v : Int) (d : Chip) : (when b (raise src code v) d).therm = d.therm :=
    when_part .therm _ _ _ (by simp)
  have hnew (l : List Nat) (d : Chip) : (newValues l d).therm = d.therm := newValues_part .therm (by decide) (by decide) l d
  unfold readDie
  dsimp only
  rw [hevent, hevent, hnew, publish_therm]
  rfl

/-- A sensor is broken once, by a read of an unmasked sensor that breaks it (R373). -/
theorem dieRead_broken (c : Chip) (k : Fin 12) (r : DieReading) : (dieRead c k r).broken = (c.therm.dies[k].broken ||
    (!masked c k && breaks c.therm.dies[k] r (if c.therm.dies[k].raw = some r.raw then c.therm.dies[k].same + 1 else 1))) := by
  unfold dieRead
  dsimp only
  cases c.therm.dies[k].broken <;> rfl

theorem masked_congr {c d : Chip} (hod : part .od d = part .od c) (hfuses : part .fuses d = part .fuses c)
    (hcan : part .can d = part .can c) (k : Fin 12) : masked d k = masked c k := by
  unfold masked
  rw [nat_congr hod hfuses hcan]

theorem each_map {α β : Type} (l : List α) (g : α → β) (f : β → Chip → Chip) (c : Chip) :
    each (l.map g) f c = each l (fun a => f (g a)) c := List.foldl_map

/-- The reading of a sensor. -/
def readingOf {rs : List DieReading} (h : rs.length = 12) (k : Fin 12) : DieReading := rs[k.val]'(by omega)

/-- The twelve readings with their sensors. -/
theorem readings_zipIdx {rs : List DieReading} (h : rs.length = 12) :
    rs.zipIdx = (List.finRange 12).map fun k => (readingOf h k, k.val) := by
  refine List.ext_getElem (by simp [h]) fun i hi _ => ?_
  simp [readingOf]

/-- The sensors are read one by one. -/
def readAll (rs : List DieReading) (c : Chip) : Chip := each rs.zipIdx (fun p => readDie (Fin.ofNat 12 p.2) p.1) c

theorem readAll_part {pt : Part} (h0 : pt ≠ .chans) (h1 : pt ≠ .mills) (h2 : pt ≠ .watch) (h3 : pt ≠ .therm) (rs : List DieReading)
    (c : Chip) : part pt (readAll rs c) = part pt c :=
  each_part pt _ _ _ fun _ d => readDie_part pt h0 h1 h2 h3 _ _ d

theorem readAll_die {rs : List DieReading} (h : rs.length = 12) (c : Chip) (k : Fin 12) :
    (readAll rs c).therm.dies[k].raw = rs[k.val]?.map (·.raw) ∧
    (readAll rs c).therm.dies[k].broken = (c.therm.dies[k].broken || (!masked c k && rs[k.val]?.any fun r =>
      breaks c.therm.dies[k] r (if c.therm.dies[k].raw = some r.raw then c.therm.dies[k].same + 1 else 1))) := by
  have hother (m : Fin 12) (hm : m ≠ k) (r : DieReading) (d : Chip) :
      (readDie (Fin.ofNat 12 m.val) r d).therm.dies[k] = d.therm.dies[k] := by
    rw [show (Fin.ofNat 12 m.val : Fin 12) = m by simp, readDie_therm]
    exact Vector.getElem_set_ne m.isLt k.isLt (Fin.val_ne_of_ne hm)
  have hmask (m : Fin 12) (r : DieReading) (d : Chip) : masked (readDie m r d) k = masked d k :=
    masked_congr (by simp) (by simp) (by simp) k
  unfold readAll
  rw [readings_zipIdx h, each_map]
  refine each_at (P := fun d => d.therm.dies[k] = c.therm.dies[k] ∧ masked d k = masked c k)
    (Q := fun d => d.therm.dies[k].raw = rs[k.val]?.map (·.raw) ∧ d.therm.dies[k].broken = (c.therm.dies[k].broken ||
      (!masked c k && rs[k.val]?.any fun r =>
        breaks c.therm.dies[k] r (if c.therm.dies[k].raw = some r.raw then c.therm.dies[k].same + 1 else 1))))
    (List.mem_finRange k) (List.nodup_finRange 12) (fun m hm d hd => ⟨(hother m hm _ d).trans hd.1, (hmask _ _ d).trans hd.2⟩)
    (fun d hd => ?_) (fun m hm d hd => by rw [hother m hm]; exact hd) ⟨rfl, rfl⟩
  have hk : (Fin.ofNat 12 k.val : Fin 12) = k := by simp
  have hr : rs[k.val]? = some (readingOf h k) := List.getElem?_eq_getElem _
  have hself (r : DieReading) : (readDie k r d).therm.dies[k] = dieRead d k r := by
    rw [readDie_therm]
    exact Vector.getElem_set_self _
  rw [hk, hself, dieRead_broken, hd.1, hd.2, hr]
  exact ⟨rfl, rfl⟩

theorem readAll_overCount (rs : List DieReading) (c : Chip) : (readAll rs c).therm.overCount = c.therm.overCount :=
  each_keeps (P := fun d => d.therm.overCount = c.therm.overCount)
    (fun p _ d hd => (congrArg Therm.overCount (readDie_therm (Fin.ofNat 12 p.2) p.1 d)).trans hd) rfl

/-! ### The judgement -/

theorem hottestDie_congr {c d : Chip} (hod : part .od d = part .od c) (hfuses : part .fuses d = part .fuses c)
    (hcan : part .can d = part .can c) (hdies : d.therm.dies = c.therm.dies) : hottestDie d = hottestDie c := by
  unfold hottestDie unmaskedDies dieTemp
  simp only [masked_congr hod hfuses hcan, hdies]

theorem judgeTherm_dies (c : Chip) : (judgeTherm c).therm.dies = c.therm.dies := by
  unfold judgeTherm
  split <;> rfl

/-- The hottest unmasked sensor is judged: two reads at the shutdown level are counted (R375). -/
theorem judgeTherm_of_hottest {c : Chip} {k : Fin 12} (h : hottestDie c = some k) :
    (judgeTherm c).therm.hottest = dieTemp c k ∧
    (judgeTherm c).therm.overCount = if num c kThermShutdownLevel ≤ dieTemp c k then c.therm.overCount + 1 else 0 := by
  unfold judgeTherm
  rw [h]
  exact ⟨rfl, rfl⟩

theorem dieSensorRead_of_resettable {rs : List DieReading} {c : Chip} (h : resettable c) :
    dieSensorRead rs c = judgeTherm (readAll rs c) := by
  unfold dieSensorRead
  exact if_neg (by rw [h]; decide)

theorem judgeTherm_facts (c : Chip) (h : (hottestDie (judgeTherm c)).isSome) :
    (judgeTherm c).therm.hottest = ((hottestDie (judgeTherm c)).map (dieTemp (judgeTherm c))).getD 0 ∧
    (judgeTherm c).therm.overCount =
      if num c kThermShutdownLevel ≤ (judgeTherm c).therm.hottest then c.therm.overCount + 1 else 0 := by
  have hsame : hottestDie (judgeTherm c) = hottestDie c := hottestDie_congr (by simp) (by simp) (by simp) (judgeTherm_dies c)
  have htemp (k : Fin 12) : dieTemp (judgeTherm c) k = dieTemp c k := by
    unfold dieTemp
    rw [judgeTherm_dies]
  rw [hsame] at h ⊢
  obtain ⟨k, hk⟩ := Option.isSome_iff_exists.mp h
  obtain ⟨hhot, hcount⟩ := judgeTherm_of_hottest hk
  rw [hcount, hhot, hk]
  exact ⟨(htemp k).symm, rfl⟩

/-! ### The shutdown -/

/-- A chip reset that is made flushes first (R430). -/
theorem chipReset_boot {c : Chip} (h : resettable c) (cause : ResetCause) (hold : Bool) :
    (chipReset cause hold c).boot.phase = .flushing ∧ (chipReset cause hold c).boot.cause = cause := by
  unfold chipReset
  rw [if_neg (by rw [h]; decide)]
  exact ⟨rfl, rfl⟩

/-- What an evaluation does before its chip reset, if it makes one (R358). -/
def evaluated (c : Chip) : Chip :=
  let r := classifyAll (c.watch.arrived.foldr insertEvent []) (setWatch (fun w => { w with arrived := [] }) c)
  let d := each r.2 passRecord (traceEvents r.2 (each r.2 watchGiveUps r.1))
  each r.2 passBlockReset (each r.2 passChatter (each r.2 passSignals d))

/-- An evaluation after which the Watch runs made no chip reset. -/
theorem watchEvaluation_of_runs {c : Chip} (h : watchRuns c) (hafter : watchRuns (watchEvaluation c)) :
    watchEvaluation c = evaluated c := by
  have hform : ∃ b hold, watchEvaluation c = when b (chipReset .watch hold) (evaluated c) := by
    unfold watchEvaluation
    rw [if_neg (by rw [h]; decide)]
    exact ⟨_, _, rfl⟩
  obtain ⟨b, hold, hform⟩ := hform
  rw [hform] at hafter ⊢
  cases b with
  | false => rfl
  | true =>
    change watchRuns (chipReset .watch hold (evaluated c)) = true at hafter
    change chipReset .watch hold (evaluated c) = _
    by_cases hreset : resettable (evaluated c)
    · obtain ⟨hphase, -⟩ := chipReset_boot hreset .watch hold
      simp [watchRuns, hphase] at hafter
    · unfold chipReset
      exact if_pos (by simpa using hreset)

theorem evaluated_therm (c : Chip) : (evaluated c).therm = c.therm := by
  unfold evaluated
  have hloop {f : Taken → Chip → Chip} (hf : ∀ t d, part .therm (f t d) = part .therm d) (l : List Taken) (d : Chip) :
      part .therm (each l f d) = part .therm d := each_part .therm l f d hf
  change part .therm _ = part .therm c
  dsimp only
  rw [hloop (fun t d => by simp), hloop (fun t d => by simp), hloop (fun t d => by simp), hloop (fun t d => by simp),
    traceEvents_part .therm (by decide), hloop (fun t d => by simp), classifyAll_part .therm (by decide)]
  rfl

/-- A shutdown whose event begins no chip reset passes its record on (R375). -/
theorem thermalShutdown_of_recorded {c : Chip} (hruns : watchRuns c) (hover : 2 ≤ c.therm.overCount) (hfree : c.therm.recording = false)
    (hafter : watchRuns (watchEvaluation (raise (144 + c.therm.hottestAt) 3 c.therm.hottest c))) :
    ∃ b, thermalShutdown c = shutdownLog (setTherm (fun x => { x with stopping := false })
      (when b (setSeq fun q => { q with entry := none }) (watchEvaluation (raise (144 + c.therm.hottestAt) 3 c.therm.hottest c)))) := by
  unfold thermalShutdown
  rw [if_neg (by simp [hruns, hfree]; omega)]
  dsimp only
  rw [if_neg (by rw [hafter]; decide)]
  exact ⟨_, rfl⟩

theorem shutdownLog_therm (c : Chip) : (shutdownLog c).therm = { c.therm with recording := true } := by
  unfold shutdownLog
  dsimp only
  rw [log_therm]
  rfl

theorem shutdownLog_alm {c d : Chip} (halm : d.alm = c.alm) (hstamp : stamp d = stamp c) (htherm : d.therm.hottest = c.therm.hottest)
    (hat : d.therm.hottestAt = c.therm.hottestAt) :
    (shutdownLog d).alm = (log 0x40 (144 + c.therm.hottestAt) 3 c.therm.hottest [] c).alm := by
  unfold shutdownLog
  dsimp only
  rw [hat, htherm]
  exact log_alm_congr _ _ _ _ _ halm hstamp

/-- The safe state stops the Watch (R367). -/
theorem enterSafe_safe (c : Chip) : (enterSafe c).watch.safe = true := by
  unfold enterSafe
  split
  case isTrue h => exact h
  case isFalse => rfl

/-! ### The orderly stop -/

theorem entryCond_setTherm (f : Therm → Therm) (c : Chip) (j : Nat) : entryCond (setTherm f c) j = entryCond c j := by
  have hcond (wtype wnum : Nat) : seqCond (setTherm f c) wtype wnum = seqCond c wtype wnum := by
    unfold seqCond
    rfl
  unfold entryCond
  simp only [hcond]
  rfl

/-- An off request reads nothing of the thermal protection. -/
theorem seqOff_setTherm (f : Therm → Therm) (c : Chip) : (seqOff (setTherm f c)).seq = (seqOff c).seq := by
  have hdown : (seqStartDown (setTherm f c)).seq = (seqStartDown c).seq := by
    have hbegun : downBegun (setTherm f c) = setTherm f (downBegun c) := rfl
    have hnext (d : Chip) (j : Nat) : nextDown (setTherm f d) j = nextDown d j := rfl
    rw [seqStartDown_eq, seqStartDown_eq, hbegun, hnext]
    split
    · unfold entryStart
      rw [entryCond_setTherm]
      rfl
    · rfl
  unfold seqOff
  rw [setTherm_seq]
  cases c.seq.state with
  | powerUp => exact hdown
  | up => exact hdown
  | powerDown => rfl
  | offHold => rfl
  | off => rfl

theorem seqStartDown_rails (c : Chip) : (seqStartDown c).rails = c.rails := by
  rw [seqStartDown_eq]
  split <;> rfl

theorem seqOff_rails (c : Chip) : (seqOff c).rails = c.rails := by
  unfold seqOff
  cases c.seq.state with
  | powerUp => exact seqStartDown_rails c
  | up => exact seqStartDown_rails c
  | powerDown => rfl
  | offHold => rfl
  | off => rfl

theorem seqOff_therm (c : Chip) : (seqOff c).therm = c.therm := by
  have hdown : (seqStartDown c).therm = c.therm := by
    rw [seqStartDown_eq]
    split <;> rfl
  unfold seqOff
  cases c.seq.state with
  | powerUp => exact hdown
  | up => exact hdown
  | powerDown => rfl
  | offHold => rfl
  | off => rfl

/-- The chip at which an orderly stop makes its off request (R377). -/
def stopBegun (c : Chip) : Chip := setTherm (fun x => { x with stopping := true }) c

theorem orderlyStopStart_of_window {c : Chip} (hruns : watchRuns c) (hwindow : c.therm.window = some true)
    (hfree : c.therm.stopping = false) (hrecord : c.therm.recording = false) :
    orderlyStopStart c = when (drives c) seqOff (stopBegun c) := by
  unfold orderlyStopStart
  rw [if_neg (by rw [hruns, hwindow, hfree, hrecord]; decide)]
  rfl

theorem orderlyStopSeqOff_of_on {c : Chip} (hoff : c.seq.state ≠ .off) (hhold : c.seq.state ≠ .offHold) : orderlyStopSeqOff c = c := by
  unfold orderlyStopSeqOff
  split
  · rfl
  · rw [beq_eq_false_iff_ne.mpr hoff, beq_eq_false_iff_ne.mpr hhold]
    rfl

theorem orderlyStopSeqOff_of_off {c : Chip} (hruns : watchRuns c) (hstop : c.therm.stopping) (hrecord : c.therm.recording = false)
    (hoff : c.seq.state = .off ∨ c.seq.state = .offHold) : orderlyStopSeqOff c = shutdownLog c := by
  unfold orderlyStopSeqOff
  rw [if_neg (by rw [hruns, hstop, hrecord]; decide)]
  rcases hoff with h | h
  all_goals
    rw [h]
    rfl

/-- Settles O40: a read moves its sensors one by one and then judges them, and the shutdown goes through `shutdownLog`. -/
theorem thermalCommands : Obligations.ThermalCommands := by
  unfold Obligations.ThermalCommands
  refine ⟨?read, ?shutdown, ?recorded, ?restart, ?start, ?off, ?waits⟩
  case read =>
    intro s rs hlen hreset
    refine gives_of_guarded (dieSensorRead rs s.chip) (decide_eq_true hlen) rfl (by simp +contextual [Only]) ?_
    rw [dieSensorRead_of_resettable hreset]
    refine ⟨fun k => ?_, fun hsome => ?_⟩
    · rw [judgeTherm_dies]
      exact readAll_die hlen s.chip k
    · obtain ⟨hhot, hcount⟩ := judgeTherm_facts (readAll rs s.chip) hsome
      have hlevel : num (readAll rs s.chip) kThermShutdownLevel = num s.chip kThermShutdownLevel :=
        num_congr (readAll_part (by decide) (by decide) (by decide) (by decide) rs s.chip)
          (readAll_part (by decide) (by decide) (by decide) (by decide) rs s.chip)
          (readAll_part (by decide) (by decide) (by decide) (by decide) rs s.chip) _
      rw [hlevel, readAll_overCount] at hcount
      exact ⟨hhot, hcount⟩
  case shutdown =>
    intro s hruns hover hfree hafter
    obtain ⟨b, hshut⟩ := thermalShutdown_of_recorded hruns hover hfree hafter
    have htherm : (watchEvaluation (raise (144 + s.chip.therm.hottestAt) 3 s.chip.therm.hottest s.chip)).therm = s.chip.therm := by
      rw [watchEvaluation_of_runs (by simpa [watchRuns, raise_safe] using hruns) hafter, evaluated_therm, raise_therm]
    have hentry (d : Chip) : (when b (setSeq fun q => { q with entry := none }) d).therm = d.therm := by cases b <;> rfl
    have hhot (d : Chip) : (setTherm (fun x => { x with stopping := false }) (when b (setSeq fun q => { q with entry := none }) d)).therm.hottest =
        d.therm.hottest := by cases b <;> rfl
    have hat (d : Chip) : (setTherm (fun x => { x with stopping := false }) (when b (setSeq fun q => { q with entry := none }) d)).therm.hottestAt =
        d.therm.hottestAt := by cases b <;> rfl
    have halm (d : Chip) : (when b (setSeq fun q => { q with entry := none }) d).alm = d.alm := by cases b <;> rfl
    have hstamp (d : Chip) : stamp (when b (setSeq fun q => { q with entry := none }) d) = stamp d := by cases b <;> rfl
    refine ⟨thermalShutdown s.chip, rfl, ?_⟩
    rw [hshut, shutdownLog_therm]
    refine ⟨rfl, rfl, ?_⟩
    rw [shutdownLog_alm (d := setTherm (fun x => { x with stopping := false }) _) (halm _) (hstamp _)
      (hhot _) (hat _), htherm]
  case recorded =>
    intro s hrecord
    refine gives_of_answer (thermalRecordDone s.chip) rfl (by simp +contextual [Only]) ?_
    unfold thermalRecordDone
    rw [if_neg (by rw [hrecord]; decide)]
    exact ⟨rfl, rfl, rfl, enterSafe_safe s.chip⟩
  case restart =>
    intro s hshut hcool hreset
    have hrestart : thermalRestart s.chip = chipReset .thermalRestart false s.chip :=
      if_pos (by rw [hshut, decide_eq_true hcool]; rfl)
    obtain ⟨hphase, hcause⟩ := chipReset_boot hreset .thermalRestart false
    exact ⟨_, congrArg (answer s) hrestart, hphase, hcause, chipReset_part_fuses _ _ _⟩
  case start =>
    intro s hruns hwindow hfree hrecord
    refine gives_of_answer _ (congrArg (answer s) (orderlyStopStart_of_window hruns hwindow hfree hrecord))
      (by simp +contextual [Only, stopBegun]) ?_
    cases hdrives : drives s.chip with
    | true =>
      refine ⟨seqOff_therm _, fun _ => ⟨seqOff_setTherm _ s.chip, ?_⟩, fun h => absurd h (by decide)⟩
      rw [seqOff_rails]
      exact seqOff_rails _
    | false => exact ⟨rfl, fun h => absurd h (by decide), fun _ => rfl⟩
  case off =>
    intro s hruns hstop hrecord hoff
    exact gives_of_answer _ (congrArg (answer s) (orderlyStopSeqOff_of_off hruns hstop hrecord hoff))
      (by simp +contextual [Only, shutdownLog]) ⟨shutdownLog_therm _, shutdownLog_alm rfl rfl rfl rfl⟩
  case waits =>
    intro s hoff hhold
    exact gives_of_kept (congrArg (answer s) (orderlyStopSeqOff_of_on hoff hhold)) rfl

end Sys2Proof.Machine
end

section
/-! RECORD_WRITE_DONE (R391, R392): two sectors of one place. -/

namespace Sys2Proof.Machine

/-- The record that is to be written. -/
def waitingRecord : Record := { kind := .log, severity := 0, source := 193, code := 1, seq := some 0 }

/-- The main region has two sectors at place 5, the open one last, and no room left for a successor but what it reclaims. -/
def sharedPlace : Chip :=
  { alm := { buffer := [waitingRecord], main := { sectors := [{ place := 5, opening := 1 }, { place := 5, opening := 2 }] } }
    nor := { size := 1 } }

/-- The record is programmed into the open sector, and the sector reclaimed next takes it along. -/
theorem sharedPlace_stored : stored (recordWriteDone sharedPlace) = [] := by decide +kernel

/-- Refutes O41, by its first clause: nothing there says that the places of a region's sectors differ, and the reclaim of the first
of two sectors at one place empties the open sector that the record has just reached. -/
theorem not_almanacCommands : ¬ Obligations.AlmanacCommands := by
  rintro ⟨hwrite, -⟩
  obtain ⟨c, hexec, -, -, -, hstored, -⟩ := hwrite { chip := sharedPlace } waitingRecord [] rfl rfl (by decide) (.inl rfl)
    (by decide +kernel) (by decide +kernel)
  have hc : c = recordWriteDone sharedPlace := by
    have hsame : (.next { chip := recordWriteDone sharedPlace } : Host.Outcome State Fault Refusal) = .next { chip := c } := hexec
    simp only [Host.Outcome.next.injEq, State.mk.injEq] at hsame
    exact hsame.1.symm
  rw [hc, sharedPlace_stored] at hstored
  exact absurd hstored (by simp)

end Sys2Proof.Machine
end

section
/-! The twin link: STATE, TRACK and MIRROR frames (R401 to R404, R413 to R419). -/

namespace Sys2Proof.Machine

/-! ### An origin that is lost -/

/-- A hamper that is rolled back (R274). -/
def rolledBack (x : Hamper) : Hamper := { x with state := .rolledBack, result := {}, writes := [], req := none }

theorem completeHeld_hampers (h : Hamper) (st : Status) (c : Chip) : (completeHeld h st c).hampers = c.hampers :=
  completeHeld_part .hampers (by decide) (by decide) (by decide) (by decide) (by decide) (by decide) h st c

/-- A roll-back ends the hampers of its handle. -/
theorem rollBack_list (h : Hamper) (c : Chip) : (rollBack h c).hampers.list =
    c.hampers.list.map fun x => if x.handle == h.handle then rolledBack x else x := by
  unfold rollBack endHamper
  rw [completeHeld_hampers]
  rfl

theorem each_rollBack_list (l : List Hamper) (c : Chip) : (each l rollBack c).hampers.list =
    c.hampers.list.map fun x => if l.any fun h => h.handle == x.handle then rolledBack x else x := by
  unfold each
  induction l generalizing c with
  | nil => simp
  | cons h l ih =>
    rw [List.foldl_cons, ih, rollBack_list, List.map_map]
    refine List.map_congr_left fun x _ => ?_
    by_cases hx : x.handle = h.handle
    · simp [hx, rolledBack]
    · simp [hx, Ne.symm hx]

/-- An origin that is lost leaves no open hamper of its own (R274, R413). -/
theorem originLost_closed (o : Origin) (c : Chip) :
    ∀ h ∈ (originLost o c).hampers.list, h.origin = o → h.state ≠ .opened ∧ h.state ≠ .joined := by
  unfold originLost originsLost
  rw [each_rollBack_list]
  intro h hmem horigin
  obtain ⟨x, hx, hxh⟩ := List.mem_map.mp hmem
  by_cases hlisted : ((c.hampers.list.filter fun h => (h.origin == o) && (h.state == .opened || h.state == .joined)).any
      fun h => h.handle == x.handle) = true
  · rw [if_pos hlisted] at hxh
    subst hxh
    exact ⟨HamperState.noConfusion, HamperState.noConfusion⟩
  · rw [if_neg hlisted] at hxh
    subst hxh
    have hkept : (x.state == .opened || x.state == .joined) = false := by
      refine Bool.eq_false_iff.mpr fun hopen => hlisted ?_
      exact List.any_eq_true.mpr ⟨x, List.mem_filter.mpr ⟨hx, by rw [hopen, horigin]; simp⟩, beq_self_eq_true _⟩
    rw [Bool.or_eq_false_iff, beq_eq_false_iff_ne, beq_eq_false_iff_ne] at hkept
    exact hkept

theorem originLost_twin (o : Origin) (c : Chip) : (originLost o c).twin = c.twin :=
  originLost_part .twin (by decide) (by decide) (by decide) (by decide) (by decide) (by decide) (by decide) o c

theorem originLost_watch (o : Origin) (c : Chip) : (originLost o c).watch = c.watch :=
  originLost_part .watch (by decide) (by decide) (by decide) (by decide) (by decide) (by decide) (by decide) o c

theorem twinLinkDown_of_up {c : Chip} (h : c.twin.link) : twinLinkDown c = raise 182 1 0 (setTwin (fun t => { t with
    link := false, returnSince := none, ret := false, stale := t.stale || t.state == .standby }) (originLost .twin c)) := by
  unfold twinLinkDown
  exact if_neg (by rw [h]; decide)

theorem when_true (f : Chip → Chip) (c : Chip) : when true f c = f c := rfl

/-! ### STATE -/

/-- A partner of this role is already known over the link. -/
def knownPartner (f : TwinFrame) (c : Chip) : Bool :=
  match c.twin.partner with
  | some g => c.twin.link && g.role == f.role
  | none => false

/-- The partner's heartbeat moved. -/
def partnerBeats (f : TwinFrame) (c : Chip) : Bool :=
  match c.twin.partner with
  | some g => g.heartbeat != f.heartbeat
  | none => true

theorem twinStateReceive_of_up {c : Chip} (h : twinUp c) (f : TwinFrame) : twinStateReceive f c =
    when (f.role == c.twin.role.number && !knownPartner f c) (raise 182 9 f.role) (setTwin (fun t => { t with
      link := true, partner := some f, partnerSeq := f.almSequence
      beatAt := if partnerBeats f c then c.clock.us else t.beatAt }) c) := by
  unfold twinStateReceive
  rw [if_neg (by rw [h]; decide)]
  rfl

theorem partnerBeats_eq (f : TwinFrame) (c : Chip) :
    partnerBeats f c = !decide (c.twin.partner.map (·.heartbeat) = some f.heartbeat) := by
  unfold partnerBeats
  cases c.twin.partner with
  | none => rfl
  | some g => simp [bne, BEq.beq]

theorem knownPartner_eq (f : TwinFrame) (c : Chip) :
    (!knownPartner f c) = decide (c.twin.link = false ∨ c.twin.partner.map (·.role) ≠ some f.role) := by
  unfold knownPartner
  cases c.twin.partner with
  | none => simp
  | some g => cases c.twin.link <;> simp [Bool.beq_eq_decide_eq]

theorem judgeReturn_twin (c : Chip) : ∃ a b r, judgeReturn c =
    setTwin (fun t => { t with healthySince := a, returnSince := b, ret := r }) c := ⟨_, _, _, rfl⟩

theorem leaveStarting_of_started {c : Chip} (h : c.twin.state ≠ .starting) : leaveStarting c = c := by
  unfold leaveStarting
  exact if_pos (by rw [bne_iff_ne.mpr h]; rfl)

theorem leaveStarting_of_held {c : Chip} (hstate : c.twin.state = .starting) (hlive : live c) (hin : c.twin.ownIn) :
    leaveStarting c = toStandby c := by
  unfold leaveStarting
  rw [if_neg (by rw [hstate, hlive]; decide), if_pos hin]

theorem leaveStarting_of_free {c : Chip} (hstate : c.twin.state = .starting) (hlive : live c) (hin : c.twin.ownIn = false)
    (hrole : c.twin.role = .preferred) (hhealthy : healthy c) : leaveStarting c = claim c := by
  unfold leaveStarting
  rw [if_neg (by rw [hstate, hlive]; decide), if_neg (by rw [hin]; decide), hrole, hhealthy]
  rfl

/-- The STATE frame that leaves (R403). -/
def stateSent (c : Chip) : Chip :=
  let beat := if reeveRuns c then c.twin.heartbeat + 1 else c.twin.heartbeat
  setTwin (fun t => { t with
    heartbeat := beat
    tx := t.tx ++ [.state t.role.number t.state.number (healthy c) t.ready t.ret beat.toNat c.clock.laneNs
      (c.alm.next.getD 0)] }) c

theorem twinStateSend_of_up {c : Chip} (h : twinUp c) : twinStateSend c = stateSent (leaveStarting (judgeReturn c)) := by
  unfold twinStateSend
  rw [if_neg (by rw [h]; decide)]
  rfl

theorem healthy_congr {c d : Chip} (hlock : d.twin.lockstep = c.twin.lockstep) (hmills : d.mills = c.mills)
    (hwatch : d.watch = c.watch) (hmap : ∀ i, inGiveUpMap d i = inGiveUpMap c i)
    (hserves : ∀ m, millServes d m = millServes c m) : healthy d = healthy c := by
  unfold healthy
  simp only [hlock, hmills, hwatch, hserves, hmap]

/-! ### The claim -/

/-- The chip that takes the shelf (R410, R411). -/
def claimBegun (c : Chip) : Chip :=
  fenceHosts (clearLatches (setTwin (fun t => { t with
    state := .owner, ownOut := true, takeovers := satSucc 65535 t.takeovers, ready := false, ret := false
    healthySince := none, returnSince := none, holding := false }) c))

/-- The entry of the tables that runs starts again (R411). -/
def claimEntered (c : Chip) : Chip :=
  match (claimBegun c).seq.entry with
  | some j => seqEnter j (claimBegun c)
  | none => claimBegun c

theorem claim_eq (c : Chip) : ∃ b f, claim c =
    slotWrite (raise 182 4 (when b (setBus f) (claimEntered c)).twin.partnerSeq (when b (setBus f) (claimEntered c))) := ⟨_, _, rfl⟩

theorem claimEntered_part {pt : Part} (hchans : pt ≠ .chans) (hrms : pt ≠ .rms) (hbus : pt ≠ .bus) (hphases : pt ≠ .phases)
    (hrails : pt ≠ .rails) (hvcs : pt ≠ .vcs) (hstrs : pt ≠ .strs) (hpps : pt ≠ .pps) (hwms : pt ≠ .wms) (hseq : pt ≠ .seq)
    (hwatch : pt ≠ .watch) (c : Chip) : part pt (claimEntered c) = part pt (claimBegun c) := by
  unfold claimEntered
  split
  · exact seqEnter_part pt hchans hrms hbus hphases hrails hvcs hstrs hpps hwms hseq hwatch _ _
  · rfl

theorem fenceHosts_twin (c : Chip) : (fenceHosts c).twin = c.twin :=
  fenceHosts_part .twin (by decide) (by decide) (by decide) (by decide) (by decide) (by decide) c

/-- The line and the state of a unit that has taken the shelf. -/
theorem claim_twin (c : Chip) : (claim c).twin = { c.twin with
    state := .owner, ownOut := true, takeovers := satSucc 65535 c.twin.takeovers, ready := false, ret := false
    healthySince := none, returnSince := none, holding := false } := by
  obtain ⟨b, f, h⟩ := claim_eq c
  have hbus (d : Chip) : (when b (setBus f) d).twin = d.twin := by cases b <;> rfl
  have hslot (d : Chip) : (slotWrite d).twin = d.twin := slotWrite_part .twin (by decide) (by decide) (by decide) d
  have hentered : (claimEntered c).twin = (claimBegun c).twin := claimEntered_part (pt := .twin) (by decide) (by decide) (by decide)
    (by decide) (by decide) (by decide) (by decide) (by decide) (by decide) (by decide) (by decide) c
  rw [h, hslot, raise_twin, hbus, hentered]
  unfold claimBegun
  rw [fenceHosts_twin]
  rfl

/-! ### MIRROR -/

theorem placeItem_last {later : Item → Bool} (h : ∀ q, later q = false) (i : Item) (l : List Item) : placeItem later i l = l ++ [i] := by
  induction l with
  | nil => rfl
  | cons q l ih =>
    unfold placeItem
    rw [if_neg (by rw [h]; decide), ih]
    rfl

/-- A MIRROR frame waits behind all that waits (R419). -/
theorem enqueue_mirror (seq : BitVec 32) (full : Bool) (items : List MirrorItem) (c : Chip) :
    enqueue (.mirror seq full items) c = setHampers (fun h => { h with queue := h.queue ++ [.mirror seq full items] }) c := by
  unfold enqueue
  dsimp only
  exact congrArg (fun f => setHampers f c) (funext fun h =>
    congrArg (fun q => { h with queue := q }) (placeItem_last (fun q => rfl) _ h.queue))

/-- The sequence number that a MIRROR frame must not have, where one was received before. -/
def mirrorGap (seq : BitVec 32) (c : Chip) : Bool :=
  match c.twin.mirrorSeqIn with
  | some s => seq != s + 1
  | none => false

theorem mirrorReceive_of_standby {c : Chip} (hup : twinUp c) (hstate : c.twin.state = .standby) (seq : BitVec 32) (full : Bool)
    (items : List MirrorItem) : mirrorReceive seq full items c =
      setHampers (fun h => { h with queue := h.queue ++ [.mirror seq full items] })
        (setTwin (fun t => { t with mirrorSeqIn := some seq })
          (when (mirrorGap seq c) (fun c => raise 182 6 seq.toNat (sendResync c)) c)) := by
  rw [← enqueue_mirror]
  unfold mirrorReceive
  exact if_pos (by rw [hup, hstate]; rfl)

/-- Settles O42: the link is one change of the twin's own part, and what leaves is added to its frames. -/
theorem twinLinkCommands : Obligations.TwinLinkCommands := by
  unfold Obligations.TwinLinkCommands
  refine ⟨?receive, ?lost, ?send, ?standby, ?claims, ?track, ?tracked, ?mirror, ?resync, ?mirrored, ?gap⟩
  case receive =>
    intro s f hfits hup
    refine gives_of_guarded (twinStateReceive f s.chip) hfits rfl (by simp +contextual [Only]) ?_
    rw [twinStateReceive_of_up hup, partnerBeats_eq, knownPartner_eq]
    constructor
    · have htwin (b : Bool) (d : Chip) : (when b (raise 182 9 f.role) d).twin = d.twin := when_part .twin _ _ _ (by simp)
      rw [htwin, setTwin_twin]
      by_cases hbeat : s.chip.twin.partner.map (·.heartbeat) = some f.heartbeat <;> simp [hbeat]
    · rw [when_raise_watch _ _ _ _ (setTwin_watch _ _ : (setTwin _ s.chip).watch = s.chip.watch)]
      simp only [Bool.and_eq_true, beq_iff_eq, decide_eq_true_eq]
  case lost =>
    intro s hup hlink
    refine gives_of_answer _ (congrArg (answer s) ((if_pos hup).trans (twinLinkDown_of_up hlink))) (by simp +contextual [Only])
      ⟨?_, ?_, ?_⟩
    · rw [raise_twin, setTwin_twin, originLost_twin]
    · exact raise_watch_congr _ _ _ (originLost_watch _ _)
    · rw [raise_hampers]
      exact originLost_closed .twin s.chip
  case send =>
    intro s hup hstate
    obtain ⟨a, b, r, hjudged⟩ := judgeReturn_twin s.chip
    refine gives_of_answer (twinStateSend s.chip) rfl (by simp +contextual [Only]) ?_
    rw [twinStateSend_of_up hup, leaveStarting_of_started (by rw [hjudged]; exact hstate), hjudged]
    refine ⟨rfl, ?_, _, _, _, rfl⟩
    change (if reeveRuns s.chip then s.chip.twin.heartbeat + 1 else s.chip.twin.heartbeat) = _
    cases reeveRuns s.chip <;> simp
  case standby =>
    intro s hup hstate hlive hin
    obtain ⟨a, b, r, hjudged⟩ := judgeReturn_twin s.chip
    refine gives_of_answer (twinStateSend s.chip) rfl (by simp +contextual [Only]) ?_
    rw [twinStateSend_of_up hup, leaveStarting_of_held (by rw [hjudged]; exact hstate) (by rw [hjudged]; exact hlive)
      (by rw [hjudged]; exact hin), hjudged]
    refine ⟨rfl, rfl, ?_⟩
    exact List.mem_append_left _ (List.mem_append_right _ (List.mem_singleton_self _))
  case claims =>
    intro s hup hstate hlive hin hrole hhealthy
    obtain ⟨a, b, r, hjudged⟩ := judgeReturn_twin s.chip
    refine gives_of_answer (twinStateSend s.chip) rfl (by simp +contextual [Only]) ?_
    rw [twinStateSend_of_up hup, leaveStarting_of_free (by rw [hjudged]; exact hstate) (by rw [hjudged]; exact hlive)
      (by rw [hjudged]; exact hin) (by rw [hjudged]; exact hrole)
      (by rw [hjudged]; exact (healthy_congr rfl rfl rfl (fun i => rfl) fun m => rfl).trans hhealthy)]
    unfold stateSent
    dsimp only
    rw [setTwin_twin, claim_twin]
    exact ⟨rfl, rfl⟩
  case track =>
    intro s hup hstate
    exact gives_of_answer _ (congrArg (answer s) (if_pos (by rw [hup, hstate]; rfl))) (by simp +contextual [Only]) rfl
  case tracked =>
    intro s f hup hstate
    exact gives_of_answer _ (congrArg (answer s) (if_pos (by rw [hup, hstate]; rfl))) (by simp +contextual [Only]) rfl
  case mirror =>
    intro s hup hstate
    exact gives_of_answer _ (congrArg (answer s) (if_pos (by rw [hup, hstate]; rfl))) (by simp +contextual [Only]) rfl
  case resync =>
    intro s hup hstate
    exact gives_of_answer _ (congrArg (answer s) (if_pos (by rw [hup, hstate]; rfl))) (by simp +contextual [Only]) rfl
  case mirrored =>
    intro s seq full items hup hstate hnext
    have hgap : mirrorGap seq s.chip = false := by
      unfold mirrorGap
      cases h : s.chip.twin.mirrorSeqIn with
      | none => rfl
      | some x => simpa [h] using hnext
    have hreceive := mirrorReceive_of_standby hup hstate seq full items
    rw [hgap] at hreceive
    exact gives_of_answer _ (congrArg (answer s) hreceive) (by simp +contextual [Only, when]) ⟨rfl, rfl⟩
  case gap =>
    intro s seq full items x hup hstate hlast hgap
    have hgap : mirrorGap seq s.chip = true := by
      unfold mirrorGap
      rw [hlast]
      exact bne_iff_ne.mpr hgap
    have hreceive := mirrorReceive_of_standby hup hstate seq full items
    rw [hgap] at hreceive
    refine gives_of_answer _ (congrArg (answer s) hreceive) (by simp +contextual [Only, when, sendResync]) ⟨?_, ?_, ?_⟩
    · exact raise_watch_congr (c := s.chip) (d := sendResync s.chip) _ _ _ rfl
    · rw [setHampers_hampers, setTwin_hampers, when_true, raise_hampers]
      rfl
    · rw [setHampers_twin, setTwin_twin, when_true, raise_twin]
      rfl

end Sys2Proof.Machine
end

section
/-! The ownership of a shelf of twins: yielding, coming back and claiming (R405 to R412, R420 to R425). -/

namespace Sys2Proof.Machine

/-! ### What a start leaves alone -/

/-- The kills of the phases stay, and so do the events that have arrived. -/
structure KeepsKills (c d : Chip) : Prop where
  kill : ∀ p : Fin 32, d.phases[p].kill = c.phases[p].kill
  events : KeepsEvents c d

namespace KeepsKills

theorem refl (c : Chip) : KeepsKills c c := ⟨fun _ => rfl, .refl c⟩

theorem trans {c d e : Chip} (hcd : KeepsKills c d) (hde : KeepsKills d e) : KeepsKills c e :=
  ⟨fun p => (hde.kill p).trans (hcd.kill p), hcd.events.trans hde.events⟩

theorem of_parts {c d : Chip} (hphases : part .phases d = part .phases c) (hwatch : part .watch d = part .watch c) :
    KeepsKills c d :=
  ⟨fun p => congrArg (fun v : Vector Phase 32 => v[p].kill) hphases, .of_watch hwatch⟩

theorem each {α : Type} {f : α → Chip → Chip} (hf : ∀ a c, KeepsKills c (f a c)) (l : List α) (c : Chip) :
    KeepsKills c (each l f c) := by
  unfold Machine.each
  induction l generalizing c with
  | nil => exact refl c
  | cons a l ih => exact (hf a c).trans (ih _)

theorem railGo (r : Fin 16) (st : RailState) (c : Chip) : KeepsKills c (railGo r st c) :=
  ⟨fun p => by rw [railGo_phases], .railGo r st c⟩

theorem railFault (r : Fin 16) (c : Chip) : KeepsKills c (railFault r c) := by
  refine ⟨fun p => ?_, .railFault r c⟩
  rw [railFault_phases]
  split <;> rfl

theorem enterOnDelay (r : Fin 16) (c : Chip) : KeepsKills c (enterOnDelay r c) := by
  have hgone (f : Rail → Rail) : KeepsKills c (Machine.setRail r f (Machine.railGo r .onDelay c)) :=
    (railGo r .onDelay c).trans (of_parts rfl rfl)
  unfold Machine.enterOnDelay
  dsimp only
  split
  · exact hgone _
  · exact (hgone _).trans (railFault r _)

theorem railStart (r : Fin 16) (c : Chip) : KeepsKills c (railStart r c) := by
  have hleave (d : Chip) : KeepsKills d (leaveOff r d) :=
    of_parts (leaveOff_part .phases (by decide) r d) (leaveOff_part .watch (by decide) r d)
  unfold Machine.railStart
  split
  · exact refl c
  split
  · split
    · exact refl c
    · exact (enterOnDelay r c).trans (hleave _)
  · exact railGo r .regulate c
  · exact refl c

theorem rmRefresh (n : Fin 8) (c : Chip) : KeepsKills c (rmRefresh n c) :=
  ⟨fun p => congrArg (fun v : Vector Phase 32 => v[p].kill)
    (rmRefresh_part .phases (by decide) (by decide) (by decide) n c), .rmRefresh n c⟩

/-- A target that is marked reached. -/
theorem seqMark_on (ttype tnum : Nat) (c : Chip) : KeepsKills c (seqMark ttype tnum true c) := by
  have hset (f : Seq → Seq) : KeepsKills c (setSeq f c) := of_parts rfl rfl
  unfold Machine.seqMark
  dsimp only
  split
  · exact (hset _).trans (railStart _ _)
  split
  · exact (hset _).trans (of_parts (ppStart_part .phases (by decide) _ _) (ppStart_part .watch (by decide) _ _))
  split
  · exact .trans (of_parts (by simp) (by simp)) (rmRefresh _ (Machine.setRm _ _ (setSeq _ c)))
  split
  · exact (hset _).trans (of_parts (strRelease_part .phases (by decide) _ _) (strRelease_part .watch (by decide) _ _))
  split
  · exact of_parts rfl rfl
  · exact refl c

/-- A table that goes on from an entry. -/
theorem seqEnter (j : Nat) (c : Chip) : KeepsKills c (seqEnter j c) := by
  unfold Machine.seqEnter
  split
  · split
    · exact of_parts rfl rfl
    · unfold seqUpDone
      dsimp only
      exact .trans (d := setSeq _ c) (of_parts rfl rfl) (each (fun (t : Nat × Nat) d => seqMark_on t.1 t.2 d) _ _)
  · split <;> exact of_parts rfl rfl
  · exact refl c

end KeepsKills

/-! ### A claim -/

theorem clearLatches_kill (c : Chip) (p : Fin 32) : (clearLatches c).phases[p].kill = false := by
  unfold clearLatches
  simp

theorem clearLatches_state (c : Chip) (r : Fin 16) : (clearLatches c).rails[r].state = c.rails[r].state := by
  unfold clearLatches
  simp

theorem eachFinish_originFences (l : List Req) (st : Status) (c : Chip) :
    (each l (fun q => finish q st []) c).market.originFences = c.market.originFences := by
  unfold each
  induction l generalizing c with
  | nil => rfl
  | cons q l ih =>
    rw [List.foldl_cons, ih, finish_market]

/-- Every host origin is fenced at a claim (R411). -/
theorem fenceHosts_originFences (c : Chip) {o : Origin} (hall : o ∈ allOrigins) (hhost : hostOrigin o) :
    o ∈ (fenceHosts c).market.originFences := by
  unfold fenceHosts
  dsimp only
  rw [eachFinish_originFences]
  exact List.mem_filter.mpr ⟨hall, by rw [hhost]; rfl⟩

theorem claimBegun_phases (c : Chip) (p : Fin 32) : (claimBegun c).phases[p].kill = false := by
  unfold claimBegun
  rw [show ∀ d : Chip, (fenceHosts d).phases = d.phases from
    fenceHosts_part .phases (by decide) (by decide) (by decide) (by decide) (by decide) (by decide)]
  exact clearLatches_kill _ p

theorem claimBegun_rails (c : Chip) (r : Fin 16) : (claimBegun c).rails[r].state = c.rails[r].state := by
  unfold claimBegun
  rw [show ∀ d : Chip, (fenceHosts d).rails = d.rails from
    fenceHosts_part .rails (by decide) (by decide) (by decide) (by decide) (by decide) (by decide)]
  exact clearLatches_state _ r

theorem claimBegun_events (c : Chip) : KeepsEvents c (claimBegun c) := by
  unfold claimBegun
  exact .of_watch (fenceHosts_part .watch (by decide) (by decide) (by decide) (by decide) (by decide) (by decide) _)

theorem claimBegun_entry (c : Chip) : (claimBegun c).seq.entry = c.seq.entry := by
  unfold claimBegun
  rw [show ∀ d : Chip, (fenceHosts d).seq = d.seq from
    fenceHosts_part .seq (by decide) (by decide) (by decide) (by decide) (by decide) (by decide)]
  rfl

theorem claimEntered_keeps (c : Chip) : KeepsKills (claimBegun c) (claimEntered c) := by
  unfold claimEntered
  split
  · exact .seqEnter _ _
  · exact .refl _

/-- What follows the table's entry in a claim leaves phases, rails and market alone. -/
theorem claim_fromEntered {pt : Part} (hbus : pt ≠ .bus) (hbatt : pt ≠ .batt) (hwatch : pt ≠ .watch) (hnor : pt ≠ .nor)
    (hfresh : pt ≠ .fresh) (c : Chip) : part pt (claim c) = part pt (claimEntered c) := by
  obtain ⟨b, f, h⟩ := claim_eq c
  rw [h]
  simp [*]

theorem claim_kill (c : Chip) (p : Fin 32) : (claim c).phases[p].kill = false := by
  rw [show (claim c).phases = _ from claim_fromEntered (pt := .phases) (by decide) (by decide) (by decide) (by decide) (by decide) c]
  exact ((claimEntered_keeps c).kill p).trans (claimBegun_phases c p)

theorem claim_rails {c : Chip} (h : c.seq.entry = none) (r : Fin 16) : (claim c).rails[r].state = c.rails[r].state := by
  have hentered : claimEntered c = claimBegun c := by
    unfold claimEntered
    split
    · next j hj => exact absurd (hj.symm.trans ((claimBegun_entry c).trans h)) (by simp)
    · rfl
  rw [show (claim c).rails = _ from claim_fromEntered (pt := .rails) (by decide) (by decide) (by decide) (by decide) (by decide) c]
  exact (congrArg (fun d : Chip => d.rails[r].state) hentered).trans (claimBegun_rails c r)

theorem claim_originFences (c : Chip) : ∀ o ∈ allOrigins, hostOrigin o → o ∈ (claim c).market.originFences := by
  intro o hall hhost
  rw [show (claim c).market = (claimEntered c).market from
    claim_fromEntered (pt := .market) (by decide) (by decide) (by decide) (by decide) (by decide) c,
    show (claimEntered c).market = (claimBegun c).market from claimEntered_part (pt := .market) (by decide) (by decide) (by decide)
    (by decide) (by decide) (by decide) (by decide) (by decide) (by decide) (by decide) (by decide) c]
  exact fenceHosts_originFences _ hall hhost

theorem claim_events (c : Chip) : KeepsEvents c (claim c) := by
  obtain ⟨b, f, h⟩ := claim_eq c
  rw [h]
  have hbus (d : Chip) : KeepsEvents d (when b (setBus f) d) := .when (f := setBus f) (fun e => .of_watch rfl) b d
  exact (((claimBegun_events c).trans (claimEntered_keeps c).events).trans (hbus _)).trans
    (.trans (.raise _ _ _ _) (.of_watch (slotWrite_part .watch (by decide) (by decide) (by decide) _)))

/-- A unit that has taken the shelf (R411). -/
theorem claim_taken (c : Chip) : (claim c).twin.state = .owner ∧ (claim c).twin.ownOut = true ∧
    (claim c).twin.takeovers = satSucc 65535 c.twin.takeovers ∧ (∀ p : Fin 32, (claim c).phases[p].kill = false) ∧
    (∀ o ∈ allOrigins, hostOrigin o → o ∈ (claim c).market.originFences) := by
  have htwin := claim_twin c
  exact ⟨by rw [htwin], by rw [htwin], by rw [htwin], claim_kill c, claim_originFences c⟩

/-! ### The lines -/

theorem ownInRise_of_kept {b : Bool} {c : Chip} (h : c.twin.state = .single ∨ c.twin.state = .releasing ∨ c.twin.state = .standby) :
    ownInRise b c = setTwin (fun t => { t with ownIn := true, ownInAt := some c.clock.us }) c := by
  unfold ownInRise
  dsimp only
  rw [setTwin_twin]
  rcases h with h | h | h <;> rw [h]

theorem ownInRise_of_owner {b : Bool} {c : Chip} (h : c.twin.state = .owner) :
    ownInRise b c = if b && c.twin.role == .preferred then
      setTwin (fun t => { t with ownIn := true, ownInAt := some c.clock.us }) c
      else yieldShelf (setTwin (fun t => { t with ownIn := true, ownInAt := some c.clock.us }) c) := by
  unfold ownInRise
  dsimp only
  rw [setTwin_twin, h]

theorem yieldShelf_reqs (c : Chip) : (yieldShelf c).market.reqs = [] := by
  unfold yieldShelf toStandby switchoverAll
  rw [setTwin_market]
  exact completeAll_empty _ _

theorem yieldShelf_twin (c : Chip) : (yieldShelf c).twin = { c.twin with
    lastCause := 9, yieldAt := some c.clock.us, state := .standby, ownOut := false, holding := false, ready := false
    mirrorSeqIn := none, healthySince := none, returnSince := none, ret := false, changed := []
    tx := c.twin.tx ++ [.resync] } := by
  unfold yieldShelf toStandby
  rw [setTwin_twin, show ∀ d : Chip, (switchoverAll d).twin = d.twin from
    switchoverAll_part .twin (by decide) (by decide) (by decide) (by decide) (by decide) (by decide)]
  rfl

/-- What a claim's health reads is not the twin's lines. -/
theorem healthy_setTwin {f : Twin → Twin} {c : Chip} (h : (f c.twin).lockstep = c.twin.lockstep) :
    healthy (setTwin f c) = healthy c :=
  healthy_congr h rfl rfl (fun _ => rfl) fun _ => rfl

theorem ownInFall_of_healthy {g : Nat} {c : Chip} (hstate : c.twin.state = .standby) (hlive : live c) (hhealthy : healthy c) :
    ownInFall g c = claim (setTwin (fun t => { t with ownIn := false, lastGap := g }) c) := by
  have hfall : healthy (setTwin (fun t => { t with ownIn := false }) c) = true := (healthy_setTwin rfl).trans hhealthy
  have hgap : healthy (setTwin (fun t => { t with ownIn := false, lastGap := g }) c) = true := (healthy_setTwin rfl).trans hhealthy
  have hon : ((setTwin (fun t => { t with ownIn := false }) c).twin.state == .standby &&
      live (setTwin (fun t => { t with ownIn := false }) c)) = true := by
    rw [show live (setTwin (fun t => { t with ownIn := false }) c) = live c from rfl, setTwin_twin, hstate, hlive]
    rfl
  unfold ownInFall
  dsimp only
  rw [if_pos hon, hfall]
  exact if_pos hgap

theorem ownInFall_of_unhealthy {g : Nat} {c : Chip} (hstate : c.twin.state = .standby) (hlive : live c)
    (hhealthy : healthy c = false) : ownInFall g c = raise 182 8 0 (setTwin (fun t => { t with ownIn := false }) c) := by
  have hfall : healthy (setTwin (fun t => { t with ownIn := false }) c) = false := (healthy_setTwin rfl).trans hhealthy
  have hon : ((setTwin (fun t => { t with ownIn := false }) c).twin.state == .standby &&
      live (setTwin (fun t => { t with ownIn := false }) c)) = true := by
    rw [show live (setTwin (fun t => { t with ownIn := false }) c) = live c from rfl, setTwin_twin, hstate, hlive]
    rfl
  unfold ownInFall
  dsimp only
  rw [if_pos hon, hfall]
  exact if_neg (ne_true_of_eq_false hfall)

theorem ownInFall_of_other {g : Nat} {c : Chip} (hstate : c.twin.state ≠ .standby) :
    ownInFall g c = setTwin (fun t => { t with ownIn := false }) c := by
  unfold ownInFall
  exact if_neg (by simp [hstate])

/-- Settles O43: a claim is the twin's own change, the latches, the fences and the table's entry, and what follows leaves them. -/
theorem twinOwnershipCommands : Obligations.TwinOwnershipCommands := by
  unfold Obligations.TwinOwnershipCommands
  refine ⟨?yields, ?keeps, ?kept, ?standby, ?held, ?retaken, ?restart, ?claims, ?withholds, ?falls, ?stale, ?alternate, ?returns, ?none⟩
  case yields =>
    intro s b hstate hsim
    have hyield : ownInRise b s.chip =
        yieldShelf (setTwin (fun t => { t with ownIn := true, ownInAt := some s.chip.clock.us }) s.chip) := by
      rw [ownInRise_of_owner hstate]
      refine if_neg ?_
      rcases hsim with h | h
      · simp [h]
      · simp [h]
    refine gives_of_answer _ (congrArg (answer s) hyield) (by simp +contextual [Only]) ?_
    rw [yieldShelf_reqs, yieldShelf_twin]
    exact ⟨rfl, rfl, rfl, List.mem_append_right _ (List.mem_singleton_self _), rfl, rfl, rfl, rfl⟩
  case keeps =>
    intro s hstate hrole
    exact gives_of_answer _ (congrArg (answer s) ((ownInRise_of_owner hstate).trans (if_pos (by rw [hrole]; rfl))))
      (by simp +contextual [Only]) rfl
  case kept =>
    intro s b hstate
    exact gives_of_answer _ (congrArg (answer s) (ownInRise_of_kept hstate)) (by simp +contextual [Only]) rfl
  case standby =>
    intro s hin hover hstate hlive
    have hend : releaseHoldEnd s.chip = toStandby s.chip := by
      unfold releaseHoldEnd
      rw [if_neg (by rw [hin, hover]; decide), if_pos (by rw [hstate, hlive]; rfl)]
    exact gives_of_answer _ (congrArg (answer s) hend) (by simp +contextual [Only])
      ⟨rfl, rfl, rfl, List.mem_append_right _ (List.mem_singleton_self _), rfl, rfl⟩
  case held =>
    intro s hin
    exact gives_of_answer _ (congrArg (answer s) (if_pos (by rw [hin]; rfl))) (by simp +contextual [Only]) rfl
  case retaken =>
    intro s hin hover hstate hlive
    have hback : releaseTimeout s.chip =
        raise 182 5 0 (setTwin (fun t => { t with state := .owner, ownOut := true, holding := false }) s.chip) := by
      unfold releaseTimeout
      rw [if_neg (by rw [hin, hover]; decide), if_pos (by rw [hstate, hlive]; rfl)]
    refine gives_of_answer _ (congrArg (answer s) hback) (by simp +contextual [Only]) ⟨?_, raise_watch_congr _ _ _ rfl⟩
    rw [raise_twin]
    rfl
  case restart =>
    intro s hin hover hstate hholding
    have hend : releaseTimeout s.chip = endRestartHold s.chip := by
      unfold releaseTimeout
      rw [if_neg (by rw [hin, hover]; decide), if_neg (by rw [hstate]; exact Bool.false_ne_true),
        if_pos (by rw [hstate, hholding]; rfl)]
    exact gives_of_answer _ (congrArg (answer s) hend) (by simp +contextual [Only])
      ⟨rfl, fun p => by simp [endRestartHold], fun n => by simp [endRestartHold]⟩
  case claims =>
    intro s g hfits hstate hlive hhealthy
    refine gives_of_guarded (ownInFall g s.chip) (by simpa using hfits) rfl (by simp +contextual [Only]) ?_
    rw [ownInFall_of_healthy hstate hlive hhealthy]
    obtain ⟨hown, hout, htakes, hkill, hfences⟩ := claim_taken (setTwin (fun t => { t with ownIn := false, lastGap := g }) s.chip)
    exact ⟨hown, hout, htakes, hkill, hfences, fun hentry => claim_rails hentry, by rw [claim_twin]; rfl, by rw [claim_twin]; rfl⟩
  case withholds =>
    intro s g hfits hstate hlive hhealthy
    refine gives_of_guarded (ownInFall g s.chip) (by simpa using hfits) rfl (by simp +contextual [Only]) ?_
    rw [ownInFall_of_unhealthy hstate hlive hhealthy]
    unfold raise
    rw [setTwin_watch]
    split <;> rfl
  case falls =>
    intro s g hfits hstate
    refine gives_of_guarded (ownInFall g s.chip) (by simpa using hfits) rfl (by simp +contextual [Only]) ?_
    exact ownInFall_of_other hstate
  case stale =>
    intro s hstate hlive hlink hin hhealthy hbeat
    have hclaim : staleHolderClaim s.chip = claim (raise 182 2 0 s.chip) := by
      unfold staleHolderClaim
      exact if_pos (by rw [hstate, hlive, hlink, hin, hhealthy, decide_eq_true hbeat]; rfl)
    refine gives_of_answer _ (congrArg (answer s) hclaim) (by simp +contextual [Only]) ?_
    obtain ⟨hown, hout, htakes, hkill, hfences⟩ := claim_taken (raise 182 2 0 s.chip)
    rw [raise_twin] at htakes
    refine ⟨hown, hout, htakes, hkill, hfences, fun hentry r => ?_, claim_events _⟩
    rw [claim_rails (by rw [raise_seq]; exact hentry), raise_rails]
  case alternate =>
    intro s hstate hrole hlive hin hhealthy hstarted
    have hclaim : alternateStartClaim s.chip = claim s.chip := by
      unfold alternateStartClaim
      exact if_pos (by rw [hstate, hrole, hlive, hin, hhealthy, decide_eq_true hstarted]; rfl)
    refine gives_of_answer _ (congrArg (answer s) hclaim) (by simp +contextual [Only]) ?_
    obtain ⟨hown, hout, htakes, hkill, hfences⟩ := claim_taken s.chip
    exact ⟨hown, hout, htakes, hkill, hfences, fun hentry => claim_rails hentry⟩
  case returns =>
    intro s f hstate hrole hlive hauto hlink hhealthy hready hpartner hother hover
    have hend : returnHoldoffEnd s.chip = setTwin (fun t => { t with ret := true }) s.chip := by
      rw [hrole] at hother
      unfold returnHoldoffEnd
      dsimp only
      rw [hpartner]
      exact if_pos (by simp [hstate, hrole, hlive, hauto, hlink, hhealthy, hready, hother, hover])
    exact gives_of_answer _ (congrArg (answer s) hend) (by simp +contextual [Only]) rfl
  case none =>
    intro s hstate
    have hend : returnHoldoffEnd s.chip = s.chip := by
      unfold returnHoldoffEnd
      exact if_neg (by simp [hstate])
    exact gives_of_answer _ (congrArg (answer s) hend) (by simp +contextual [Only]) rfl

end Sys2Proof.Machine
end

section
/-! Power-on reset, the external reset and the wipe (R426 to R431). -/

namespace Sys2Proof.Machine

/-- What a chip reset closes before it wipes (R430). -/
def closing (c : Chip) : Chip := closeRecord (passRecords (abandonUpdate c))

theorem closing_part {pt : Part} (hhamlets : pt ≠ .hamlets) (hgreen : pt ≠ .green) (hmarket : pt ≠ .market) (hcan : pt ≠ .can)
    (hupdate : pt ≠ .update) (hwatch : pt ≠ .watch) (halm : pt ≠ .alm) (hfresh : pt ≠ .fresh) (c : Chip) :
    part pt (closing c) = part pt c := by
  unfold closing
  simp [*]

theorem chipReset_of_resettable {c : Chip} (h : resettable c) (cause : ResetCause) (hold : Bool) :
    chipReset cause hold c = wipe hold { phase := .flushing, cause := cause, rstLow := (closing c).boot.rstLow } (closing c) := by
  unfold chipReset
  exact if_neg (by rw [h]; decide)

/-- A chip that flushes without an ownership hold drives no phase. -/
theorem pinLevel_flushing {c : Chip} (htest : testInstruction c = .bypass) (hphase : c.boot.phase = .flushing)
    (hhold : c.twin.holding = false) (p : Fin 32) :
    pinLevel c (.pwmh p) = .low ∧ pinLevel c (.pwml p) = .low ∧ pinLevel c (.drven p) = .low := by
  have hboot (x : Pin) : pinLevel c x = bootLevel c x := by
    unfold pinLevel ownLevel
    rw [htest, hphase]
  have hlow (x : Level) : (if c.twin.holding then x else .low) = .low := if_neg (by rw [hhold]; decide)
  rw [hboot, hboot, hboot]
  exact ⟨hlow _, hlow _, hlow _⟩

/-- A wiped chip waits while RST# is low (R431). -/
def wiped (c : Chip) : Chip := { c with boot := { c.boot with phase := if c.boot.rstLow then .rstHeld else .step 3 } }

theorem bootWipeComplete_of_step {c : Chip} (h : c.boot.phase = .step 2) : bootWipeComplete c = wiped c := by
  unfold bootWipeComplete
  rw [h]
  rfl

theorem bootWipeComplete_of_flushed {c : Chip} (h : c.boot.phase = .flushing) (hbuffer : c.alm.buffer = []) :
    bootWipeComplete c = wiped (endFlush c) := by
  unfold bootWipeComplete
  rw [h, hbuffer]
  rfl

/-- Settles O44: each reset builds the chip after it from the parts that it keeps. -/
theorem resetCommands : Obligations.ResetCommands := by
  unfold Obligations.ResetCommands
  refine ⟨?power, ?release, ?external, ?rise, ?riseElse, ?wipe, ?flush⟩
  case power =>
    intro s
    exact ⟨powerOnReset s.chip, rfl, rfl, cutTransition_fuses s.chip, rfl, rfl, rfl, rfl, rfl, rfl, rfl,
      fun n => by simp [powerOnReset], fun n => by simp [powerOnReset]⟩
  case release =>
    intro s x hphase
    have hrelease : powerOnRelease x s.chip = _ := if_neg (by rw [hphase]; decide)
    exact gives_of_answer _ (congrArg (answer s) hrelease) (by simp +contextual [Only]) ⟨rfl, rfl, rfl, rfl⟩
  case external =>
    intro s hreset
    let d := setBoot (fun b => { b with rstLow := true }) s.chip
    have hreset : resettable d = true := hreset
    have hclosed {pt : Part} := closing_part (pt := pt) (c := d)
    have hboot : (closing d).boot = d.boot := closing_part (pt := .boot) (by decide) (by decide) (by decide) (by decide) (by decide)
      (by decide) (by decide) (by decide) d
    have hclock : (closing d).clock = d.clock := closing_part (pt := .clock) (by decide) (by decide) (by decide) (by decide) (by decide)
      (by decide) (by decide) (by decide) d
    have hfuses : (closing d).fuses = d.fuses := closing_part (pt := .fuses) (by decide) (by decide) (by decide) (by decide) (by decide)
      (by decide) (by decide) (by decide) d
    have hnor : (closing d).nor = d.nor := closing_part (pt := .nor) (by decide) (by decide) (by decide) (by decide) (by decide)
      (by decide) (by decide) (by decide) d
    have hrms : (closing d).rms = d.rms := closing_part (pt := .rms) (by decide) (by decide) (by decide) (by decide) (by decide)
      (by decide) (by decide) (by decide) d
    have hstrs : (closing d).strs = d.strs := closing_part (pt := .strs) (by decide) (by decide) (by decide) (by decide) (by decide)
      (by decide) (by decide) (by decide) d
    have htest : (closing d).test = d.test := closing_part (pt := .test) (by decide) (by decide) (by decide) (by decide) (by decide)
      (by decide) (by decide) (by decide) d
    refine ⟨_, congrArg (answer s) (chipReset_of_resettable hreset .external false), rfl, ?_, ?_, ?_, ?_, ?_, ?_, rfl, rfl, ?_, ?_, ?_⟩
    · exact (congrArg Boot.rstLow hboot :)
    · exact hfuses
    · exact (congrArg Clock.powerCycles hclock :)
    · exact (congrArg Clock.us hclock :)
    · exact (congrArg Nor.images hnor :)
    · exact (congrArg Nor.params hnor :)
    · intro n
      simp [wipe, hrms, d]
    · intro n
      simp [wipe, hstrs, d]
    · intro hins hhold
      refine pinLevel_flushing ?_ rfl hhold
      rw [← hins]
      exact congrArg (fun x : TestPort => testInstruction { s.chip with test := x }) htest
  case rise =>
    intro s hphase
    refine gives_of_answer (rstRelease s.chip) rfl (by simp +contextual [Only]) ?_
    unfold rstRelease
    rw [setBoot_boot, if_pos hphase]
  case riseElse =>
    intro s hphase
    refine gives_of_answer (rstRelease s.chip) rfl (by simp +contextual [Only]) ?_
    unfold rstRelease
    rw [setBoot_boot, if_neg hphase]
  case wipe =>
    intro s hphase
    refine gives_of_answer (bootWipeComplete s.chip) rfl (by simp +contextual [Only]) ?_
    rw [bootWipeComplete_of_step hphase]
    exact ⟨rfl, rfl, rfl⟩
  case flush =>
    intro s hphase hbuffer
    refine gives_of_answer (bootWipeComplete s.chip) rfl (by simp +contextual [Only]) ?_
    rw [bootWipeComplete_of_flushed hphase hbuffer]
    exact ⟨rfl, rfl, rfl⟩

end Sys2Proof.Machine
end

section
/-! The boot's steps (Table 14.3, R432 to R443). -/

namespace Sys2Proof.Machine

/-! ### Trims at boot -/

theorem rmLeave_cases (n : Fin 8) (c : Chip) : rmLeave n c = c ∨
    ∃ b f g, rmLeave n c = when b (setBus f) (setBus g (setRm n (fun r => { r with fallback := true, integ := 0 }) c)) := by
  unfold rmLeave
  split
  · exact .inl rfl
  · exact .inr ⟨_, _, _, rfl⟩

theorem rmLeave_trimDriven (n : Fin 8) (c : Chip) (m : Fin 8) : (rmLeave n c).rms[m].trimDriven = c.rms[m].trimDriven := by
  rcases rmLeave_cases n c with h | ⟨b, f, g, h⟩
  · rw [h]
  · have hbus (d : Chip) : (when b (setBus f) d).rms = d.rms := by cases b <;> rfl
    rw [h, hbus, setBus_rms, setRm_rms]
    split
    · next h => rw [h]
    · rfl

/-- A refresh drives the trim of the port that is fitted (R36). -/
theorem rmRefresh_trimDriven (n : Fin 8) (c : Chip) (m : Fin 8) :
    (rmRefresh n c).rms[m].trimDriven = if m = n then flag c (kRmFitted n) else c.rms[m].trimDriven := by
  have hleave (b : Bool) (d : Chip) : (when b (rmLeave n) d).rms[m].trimDriven = d.rms[m].trimDriven := by
    cases b
    · rfl
    · exact rmLeave_trimDriven n d m
  have hraise (b : Bool) (d : Chip) : (when b (raise (48 + n) 1 0) d).rms = d.rms := when_part .rms _ _ _ (by simp)
  unfold rmRefresh
  dsimp only
  rw [hleave, hraise, setRm_rms]
  by_cases h : m = n
  · rw [if_pos h, if_pos h.symm]
  · rw [if_neg h, if_neg (Ne.symm h)]

/-- Objects but the identifier of EMCY read alike where the list in force and the fuses are alike. -/
theorem flag_congr_of_ne {c d : Chip} (hod : part .od d = part .od c) (hfuses : part .fuses d = part .fuses c) {k : Key}
    (hk : k ≠ kCobIdEmcy) : flag d k = flag c k := by
  unfold flag num cfg defaultOf
  rw [show d.od = c.od from hod, show d.fuses = c.fuses from hfuses, if_neg hk, if_neg hk]

theorem kRmFitted_ne (n : Fin 8) : kRmFitted n ≠ kCobIdEmcy := by
  unfold kRmFitted kCobIdEmcy
  unfold key
  show (0x2d00 + 0x10 * n.val) * 256 + 1 ≠ (0x1014 * 256 + 0 : Nat)
  omega

/-- The trims of the fitted ports are driven, by the objects that another chip has. -/
structure TrimsFit (c d : Chip) : Prop where
  od : part .od d = part .od c
  fuses : part .fuses d = part .fuses c
  driven : ∀ n : Fin 8, d.rms[n].trimDriven = flag c (kRmFitted n)

namespace TrimsFit

variable {c d e : Chip}

theorem keep (h : TrimsFit c d) (hrms : part .rms e = part .rms d) (hod : part .od e = part .od d)
    (hfuses : part .fuses e = part .fuses d) : TrimsFit c e :=
  ⟨hod.trans h.od, hfuses.trans h.fuses, fun n => (congrArg (fun v : Vector Rm 8 => v[n].trimDriven) hrms).trans (h.driven n)⟩

theorem rmRefresh (h : TrimsFit c d) (n : Fin 8) : TrimsFit c (rmRefresh n d) := by
  refine ⟨(rmRefresh_part .od (by decide) (by decide) (by decide) n d).trans h.od,
    (rmRefresh_part .fuses (by decide) (by decide) (by decide) n d).trans h.fuses, fun m => ?_⟩
  rw [rmRefresh_trimDriven]
  split
  · next hm => rw [hm, flag_congr_of_ne h.od h.fuses (kRmFitted_ne n)]
  · exact h.driven m

theorem setRm (h : TrimsFit c d) (n : Fin 8) {f : Rm → Rm} (hf : ∀ x, (f x).trimDriven = x.trimDriven) :
    TrimsFit c (setRm n f d) := by
  refine ⟨h.od, h.fuses, fun m => ?_⟩
  rw [setRm_rms]
  split
  · next hm => rw [hf, hm, h.driven]
  · exact h.driven m

theorem seqMark (h : TrimsFit c d) (ttype tnum : Nat) (on : Bool) : TrimsFit c (seqMark ttype tnum on d) := by
  by_cases hport : ttype = 3
  · subst hport
    unfold Machine.seqMark
    dsimp only
    rw [if_neg (by decide), if_neg (by decide), if_pos rfl]
    refine TrimsFit.rmRefresh (TrimsFit.setRm (d := setSeq _ d) ?_ _ ?_) _
    · exact h.keep (setSeq_part .rms (by decide) _ d) (setSeq_part .od (by decide) _ d) (setSeq_part .fuses (by decide) _ d)
    · exact fun x => rfl
  · have hrms : part .rms (Machine.seqMark ttype tnum on d) = part .rms d := by
      unfold Machine.seqMark
      dsimp only
      rw [if_neg hport]
      repeat' split
      all_goals simp
    exact h.keep hrms (by simp) (by simp)

theorem seqEnter (h : TrimsFit c d) (j : Nat) : TrimsFit c (seqEnter j d) := by
  unfold Machine.seqEnter
  split
  · split
    · exact h.keep rfl rfl rfl
    · exact each_keeps (P := TrimsFit c) (fun (t : Nat × Nat) _ e he => TrimsFit.seqMark he t.1 t.2 true) (h.keep rfl rfl rfl)
  · split <;> exact h.keep rfl rfl rfl
  · exact h

theorem seqOn (h : TrimsFit c d) : TrimsFit c (seqOn d) := by
  unfold Machine.seqOn seqStartUp
  split
  · split
    · exact TrimsFit.seqEnter (d := setSeq _ d) (h.keep rfl rfl rfl) 0
    · exact h.keep rfl rfl rfl
  · exact h.keep rfl rfl rfl
  · exact h
  · exact h
  · exact h

theorem claim (h : TrimsFit c d) : TrimsFit c (claim d) := by
  obtain ⟨b, f, hclaim⟩ := claim_eq d
  have hbegun : TrimsFit c (claimBegun d) := by
    have hfenced {pt : Part} := fenceHosts_part pt
    unfold claimBegun
    exact h.keep (hfenced (by decide) (by decide) (by decide) (by decide) (by decide) (by decide) _)
      (hfenced (by decide) (by decide) (by decide) (by decide) (by decide) (by decide) _)
      (hfenced (by decide) (by decide) (by decide) (by decide) (by decide) (by decide) _)
  have hentered : TrimsFit c (claimEntered d) := by
    unfold claimEntered
    split
    · exact hbegun.seqEnter _
    · exact hbegun
  rw [hclaim]
  exact hentered.keep (by simp) (by simp) (by simp)

theorem leaveStarting (h : TrimsFit c d) : TrimsFit c (leaveStarting d) := by
  unfold Machine.leaveStarting
  split
  · exact h
  split
  · exact h.keep rfl rfl rfl
  · unfold when
    split
    · exact h.claim
    · exact h

end TrimsFit

theorem bootRm_trimDriven (n : Fin 8) (c : Chip) (m : Fin 8) :
    (bootRm n c).rms[m].trimDriven = if m = n then flag c (kRmFitted n) else c.rms[m].trimDriven := by
  have hflag : flag (setRm n (fun r => { r with trimDriven := false }) c) (kRmFitted n) = flag c (kRmFitted n) :=
    flag_congr_of_ne rfl rfl (kRmFitted_ne n)
  unfold bootRm
  rw [rmRefresh_trimDriven, hflag]
  by_cases h : m = n
  · rw [if_pos h, if_pos h]
  · rw [if_neg h, if_neg h, setRm_ne h]

end Sys2Proof.Machine
end

section
/-! The boot commands: discovery, images, the set in force, millwork and completion (Table 14.3). -/

namespace Sys2Proof.Machine

/-! ### Numbers of records -/

/-- A record that is entered keeps the numbers going. -/
theorem enterAt_numbered (places : Nat) (r : Record) {c : Chip} (h : c.alm.next.isSome) : (enterAt places r c).alm.next.isSome := by
  unfold enterAt
  extract_lets a isEvent due
  by_cases hfull : places < a.buffer.length + (if due then 2 else 1)
  · rw [if_pos hfull]
    exact h
  · rw [if_neg hfull]
    exact Option.isSome_map.trans h

theorem log_numbered (code src : Nat) (severity : Fin 4) (value : Int) (entries : List Nat) {c : Chip} (h : c.alm.next.isSome) :
    (log code src severity value entries c).alm.next.isSome := enterAt_numbered _ _ h

theorem logRaise_numbered (code src : Nat) (severity : Fin 4) (value : Int) (entries : List Nat) {c : Chip}
    (h : c.alm.next.isSome) : (logRaise code src severity value entries c).alm.next.isSome := by
  unfold logRaise
  rw [raise_alm]
  exact log_numbered _ _ _ _ _ h

theorem prepare_numbered {c : Chip} (h : c.alm.next.isSome) : (prepare c).alm.next.isSome := by
  unfold prepare
  dsimp only
  split <;> exact h

/-- A scan gives the next number (R443). -/
theorem bootScan_numbered (powerOn : Bool) (c : Chip) : (bootScan powerOn c).alm.next.isSome := by
  have hwaiting (l : List Record) {d : Chip} (h : d.alm.next.isSome) : (each l enter d).alm.next.isSome :=
    each_keeps (P := fun d => d.alm.next.isSome) (fun r _ d hd => enterAt_numbered _ r hd) h
  unfold bootScan
  extract_lets newest mark last ceiling clean next waiting started checked numbered entered
  have hentered : entered.alm.next.isSome := hwaiting waiting (d := numbered) rfl
  by_cases hclean : clean = true
  · rw [if_pos hclean]
    exact prepare_numbered hentered
  · rw [if_neg hclean]
    exact prepare_numbered (enterAt_numbered _ _ hentered)

theorem logArmed_numbered {c : Chip} (h : c.alm.next.isSome) : (logArmed c).alm.next.isSome := by
  unfold logArmed
  exact each_keeps (P := fun d => d.alm.next.isSome) (fun r _ d hd => log_numbered _ _ _ _ _ hd) h

/-! ### Recovery mode -/

theorem enterRecovery_boot (why : Nat) (c : Chip) : (enterRecovery why c).boot = { c.boot with phase := .recovery } := by
  have hscan (b power : Bool) (d : Chip) : (when b (bootScan power) d).boot = d.boot := when_part .boot _ _ _ (by simp)
  unfold enterRecovery
  dsimp only
  split
  · exact (log_part .boot (by decide) _ _ _ _ _ _).trans (hscan _ _ _)
  · exact (logRaise_part .boot (by decide) (by decide) _ _ _ _ _ _).trans (hscan _ _ _)

theorem enterRecovery_events (why : Nat) (c : Chip) : KeepsEvents c (enterRecovery why c) := by
  have hscan (b power : Bool) (d : Chip) : KeepsEvents (setBoot (fun x => { x with phase := .recovery }) d)
      (when b (bootScan power) (setBoot (fun x => { x with phase := .recovery }) d)) :=
    .of_watch (when_part .watch _ _ _ (by simp))
  have hset (f : Boot → Boot) (d : Chip) : KeepsEvents d (setBoot f d) := .of_watch rfl
  unfold enterRecovery logRaise
  dsimp only
  split
  · exact ((hset _ c).trans (hscan _ _ c)).trans (.of_watch (log_part .watch (by decide) _ _ _ _ _ _))
  · exact (((hset _ c).trans (hscan _ _ c)).trans (.of_watch (log_part .watch (by decide) _ _ _ _ _ _))).trans (.raise _ _ _ _)

/-! ### Discovery -/

/-- The chip with the part that was found. -/
def found (p : NorPart) (c : Chip) : Chip := setNor (fun n => { n with size := p.sizeMiB, ioMode := p.ioMode, clock := p.clock }) c

theorem bootNorDiscovered_of_retired {p : NorPart} {recov : Bool} {c : Chip} (hstep : atStep c 4) (hsize : 16 ≤ p.sizeMiB)
    (hretired : lifeCycle c = .retired) : bootNorDiscovered (some p) recov c =
      enterRecovery 4 (when c.nor.eraseDue (eraseFor .retired) (found p c)) := by
  unfold bootNorDiscovered
  rw [if_neg (by rw [hstep]; decide)]
  dsimp only
  rw [if_neg (by omega)]
  exact if_pos (by rw [show lifeCycle (setNor _ c) = lifeCycle c from rfl, hretired]; rfl)

theorem bootNorDiscovered_of_found {p : NorPart} {recov : Bool} {c : Chip} (hstep : atStep c 4) (hsize : 16 ≤ p.sizeMiB)
    (hlife : lifeCycle c ≠ .retired) : bootNorDiscovered (some p) recov c =
      if recov then enterRecovery 1 (found p c)
      else if (directoryInUse c.nor).isNone then enterRecovery 2 (found p c) else toStep 5 (found p c) := by
  have hlife : ¬(lifeCycle (found p c) == .retired) = true := by
    rw [show lifeCycle (found p c) = lifeCycle c from rfl]
    simpa using hlife
  unfold bootNorDiscovered
  rw [if_neg (by rw [hstep]; decide)]
  dsimp only
  rw [if_neg (by omega)]
  exact if_neg hlife

theorem enterRecovery_nor (why : Nat) (c : Chip) : (enterRecovery why c).nor = c.nor :=
  enterRecovery_part .nor (by decide) (by decide) (by decide) (by decide) why c

/-! ### The set in force -/

theorem setStr_closed {f : Str → Str} (hf : ∀ x, (f x).closed = x.closed) (s : Fin 4) (c : Chip) (n : Fin 4) :
    (setStr s f c).strs[n].closed = c.strs[n].closed := by
  rw [setStr_strs]
  split
  · next h => rw [hf, h]
  · rfl

theorem estOld_strs (s : Fin 4) (c : Chip) : (estOld s c).strs = (setStr s (fun x => { x with estOld := true }) c).strs := by
  unfold estOld
  rw [log_strs, raise_strs]
  rfl

theorem bootEstimator_closed (s : Fin 4) (c : Chip) (n : Fin 4) : (bootEstimator s c).strs[n].closed = c.strs[n].closed := by
  have hold (d : Chip) : (estOld s d).strs[n].closed = d.strs[n].closed := by
    rw [estOld_strs]
    refine setStr_closed ?_ s d n
    exact fun x => rfl
  have hreset (d : Chip) : (resetEstimate s d).strs[n].closed = d.strs[n].closed := by
    rw [resetEstimate_strs]
    refine setStr_closed ?_ s d n
    exact fun x => rfl
  have hload (b : EstBlock) (d : Chip) : (loadBlock s b d).strs[n].closed = d.strs[n].closed := by
    unfold loadBlock
    refine setStr_closed ?_ s _ n
    exact fun x => rfl
  have hwhen (b : Bool) (d : Chip) : (when b (estOld s) d).strs[n].closed = d.strs[n].closed := by
    cases b
    · rfl
    · exact hold d
  unfold bootEstimator
  split
  · rw [hold, hreset]
  · dsimp only
    rw [hwhen]
    split
    · exact hload _ _
    · exact hreset _

/-- What a load of parameters leaves before it reads the estimator's slots (R437). -/
def parametersLoaded (closed : List Bool) (c : Chip) : Chip :=
  each (List.finRange 4) (fun s => setStr s fun x => { x with closed := closed.getD s.val false })
    (setBus (fun b => { b with tapsJudged := true, tapsFrom := (loadParameters (toStep 9 c)).clock.us })
      (setLane (fun l => { l with nodeIdNow := nat (loadParameters (toStep 9 c)) kLaneNodeId }) (loadParameters (toStep 9 c))))

theorem bootParameterLoad_eq {closed : List Bool} {c : Chip} (h : atStep c 8) : ∃ f, bootParameterLoad closed c =
    each (fittedStrs (setBatt f (parametersLoaded closed c))) bootEstimator (setBatt f (parametersLoaded closed c)) := by
  unfold bootParameterLoad
  rw [if_neg (by rw [h]; decide)]
  exact ⟨_, rfl⟩

/-- After the load, each part but those of strings and records is as the parameters left it. -/
theorem bootParameterLoad_kept {pt : Part} (hstrs : pt ≠ .strs) (hests : pt ≠ .ests) (hwatch : pt ≠ .watch) (halm : pt ≠ .alm)
    (hfresh : pt ≠ .fresh) (hbatt : pt ≠ .batt) (hbus : pt ≠ .bus) (hlane : pt ≠ .lane) {closed : List Bool} {c : Chip}
    (h : atStep c 8) : part pt (bootParameterLoad closed c) = part pt (loadParameters (toStep 9 c)) := by
  obtain ⟨f, hload⟩ := bootParameterLoad_eq (closed := closed) h
  rw [hload, each_part _ _ _ _ fun s d => bootEstimator_part pt hstrs hests hwatch halm hfresh s d, setBatt_part pt hbatt,
    parametersLoaded, each_part _ _ _ _ fun s d => setStr_part pt hstrs _ _ _, setBus_part pt hbus, setLane_part pt hlane]

theorem bootParameterLoad_facts (closed : List Bool) {c : Chip} (h : atStep c 8) :
    (bootParameterLoad closed c).lane.nodeIdNow = nat (loadParameters (toStep 9 c)) kLaneNodeId ∧
    (bootParameterLoad closed c).bus.tapsJudged = true ∧
    ∀ n : Fin 4, (bootParameterLoad closed c).strs[n].closed = closed.getD n.val false := by
  obtain ⟨f, hload⟩ := bootParameterLoad_eq (closed := closed) h
  have hafter {pt : Part} (hstrs : pt ≠ .strs) (hests : pt ≠ .ests) (hwatch : pt ≠ .watch) (halm : pt ≠ .alm) (hfresh : pt ≠ .fresh)
      (hbatt : pt ≠ .batt) : part pt (bootParameterLoad closed c) = part pt (setBus
        (fun b => { b with tapsJudged := true, tapsFrom := (loadParameters (toStep 9 c)).clock.us })
        (setLane (fun l => { l with nodeIdNow := nat (loadParameters (toStep 9 c)) kLaneNodeId }) (loadParameters (toStep 9 c)))) := by
    rw [hload, each_part _ _ _ _ fun s d => bootEstimator_part pt hstrs hests hwatch halm hfresh s d, setBatt_part pt hbatt,
      parametersLoaded, each_part _ _ _ _ fun s d => setStr_part pt hstrs _ _ _]
  refine ⟨?_, ?_, fun n => ?_⟩
  · exact congrArg Lane.nodeIdNow (hafter (pt := .lane) (by decide) (by decide) (by decide) (by decide) (by decide) (by decide))
  · exact congrArg Bus.tapsJudged (hafter (pt := .bus) (by decide) (by decide) (by decide) (by decide) (by decide) (by decide))
  · rw [hload]
    refine each_keeps (P := fun d => d.strs[n].closed = closed.getD n.val false)
      (fun s _ d hd => (bootEstimator_closed s d n).trans hd) ?_
    rw [setBatt_strs, parametersLoaded, each_strs (g := fun s x => { x with closed := closed.getD s.val false })
      (List.nodup_finRange 4) (fun s d => rfl), if_pos (List.mem_finRange n)]

theorem storeAll_boot (l : List (Key × Val)) (c : Chip) : (storeAll l c).boot = c.boot :=
  storeAll_part .boot (by decide) (by decide) (by decide) l c

/-- A set that is loaded is named in force with its generation, also where its values fail (R439). -/
theorem loadSet_boot (k : Fin 2) (p : ParamRegion) (c : Chip) : (loadSet k p c).boot.phase = c.boot.phase ∧
    (loadSet k p c).boot.setInForce = some k ∧ (loadSet k p c).boot.generation = p.generation := by
  have hlogs (l : List (Key × List Byte)) (d : Chip) :
      (each l (fun e => logRaise 0x67 242 1 (e.1 : Int) []) d).boot = d.boot :=
    each_part .boot _ _ _ fun e d => logRaise_part .boot (by decide) (by decide) _ _ _ _ _ _
  have hdefaults (d : Chip) : (logDefaults d).boot = d.boot := logDefaults_part .boot (by decide) (by decide) d
  have hchem (ks : List Key) (d : Chip) : (loadChemistries ks d).boot = d.boot :=
    loadChemistries_part .boot (by decide) (by decide) (by decide) ks d
  unfold loadSet
  dsimp only
  split
  · rw [hchem, storeAll_boot, hlogs]
    exact ⟨rfl, rfl, rfl⟩
  · rw [hdefaults, setBoot_boot, hlogs]
    exact ⟨rfl, rfl, rfl⟩

theorem setToLoad_committed {c : Chip} {k : Fin 2} (h : setToLoad c = some k) : c.nor.params[k].committed = true := by
  unfold setToLoad at h
  split at h
  · next ha hb =>
    split at h
    · cases h
      exact hb
    · cases h
      exact ha
  · next ha _ =>
    cases h
    exact ha
  · next _ hb =>
    cases h
    exact hb
  · cases h

/-- Before a set is loaded, only the record of an interrupted store is made (R438). -/
theorem loadParameters_of_set {c : Chip} {k : Fin 2} (h : setToLoad c = some k) :
    ∃ d, d.boot = c.boot ∧ d.nor = c.nor ∧ loadParameters c = loadSet k d.nor.params[k] d := by
  unfold loadParameters
  dsimp only
  rw [h]
  dsimp only
  split
  · exact ⟨_, logRaise_part .boot (by decide) (by decide) _ _ _ _ _ _, logRaise_part .nor (by decide) (by decide) _ _ _ _ _ _, rfl⟩
  · exact ⟨_, rfl, rfl, rfl⟩

/-- Without a set to load, the objects stay (R439). -/
theorem loadParameters_of_none {c : Chip} (h : setToLoad c = none) {pt : Part} (hwatch : pt ≠ .watch) (halm : pt ≠ .alm) :
    part pt (loadParameters c) = part pt c := by
  unfold loadParameters
  dsimp only
  rw [h]
  dsimp only
  rw [logDefaults_part pt hwatch halm]
  split
  · exact logRaise_part pt hwatch halm _ _ _ _ _ _
  · rfl

end Sys2Proof.Machine
end

section
/-! The end of the boot, and the boot's obligation (R440 to R443). -/

namespace Sys2Proof.Machine

/-! ### Images and the Reeve -/

theorem bootReeveStart_boot {c : Chip} (h : atStep c 7) : (bootReeveStart c).boot = { c.boot with phase := .step 8 } ∧
    (bootReeveStart c).reeve = { c.reeve with halted := false } ∧ (bootReeveStart c).alm.next.isSome := by
  have harmed {pt : Part} (halm : pt ≠ .alm) (d : Chip) : part pt (logArmed d) = part pt d := logArmed_part pt halm d
  unfold bootReeveStart
  rw [if_neg (by rw [h]; decide)]
  dsimp only
  split
  · refine ⟨?_, ?_, logArmed_numbered (logRaise_numbered _ _ _ _ _ (bootScan_numbered _ _))⟩
    · exact (harmed (pt := .boot) (by decide) _).trans ((logRaise_part .boot (by decide) (by decide) _ _ _ _ _ _).trans
        (bootScan_part .boot (by decide) (by decide) _ _))
    · exact (harmed (pt := .reeve) (by decide) _).trans ((logRaise_part .reeve (by decide) (by decide) _ _ _ _ _ _).trans
        (bootScan_part .reeve (by decide) (by decide) _ _))
  · refine ⟨?_, ?_, logArmed_numbered (bootScan_numbered _ _)⟩
    · exact (harmed (pt := .boot) (by decide) _).trans (bootScan_part .boot (by decide) (by decide) _ _)
    · exact (harmed (pt := .reeve) (by decide) _).trans (bootScan_part .reeve (by decide) (by decide) _ _)

/-! ### Millwork -/

theorem loadMill_state (m : Fin 16) (c : Chip) (i : Fin 16) : (loadMill m c).mills[i].state =
    if m = i then (if nat c (kMillSource m) = 0 then .idle else .ready) else c.mills[i].state := by
  rw [loadMill_mills]
  by_cases h : m = i
  · subst h
    rw [if_pos rfl]
    simp [loaded]
  · rw [if_neg h]
    simp [Fin.val_ne_of_ne h]

theorem loadMill_nat (m : Fin 16) (c : Chip) (k : Key) : nat (loadMill m c) k = nat c k :=
  nat_congr (by simp) (by simp) (by simp) k

/-- Loading millwork leaves every mill idle or ready by its source (R441). -/
theorem each_loadMill_state (c : Chip) (m : Fin 16) : (each (List.finRange 16) loadMill c).mills[m].state =
    if nat c (kMillSource m) = 0 then .idle else .ready := by
  refine each_at (P := fun d => nat d (kMillSource m) = nat c (kMillSource m))
    (Q := fun d => d.mills[m].state = if nat c (kMillSource m) = 0 then .idle else .ready) (List.mem_finRange m)
    (List.nodup_finRange 16) (fun i _ d hd => (loadMill_nat i d _).trans hd) (fun d hd => ?_) (fun i hi d hd => ?_) rfl
  · rw [loadMill_state, if_pos rfl, hd]
  · rw [loadMill_state, if_neg hi, hd]

/-! ### The start of everything -/

/-- The initial state leaves SAFE as it is (R442). -/
theorem initialise_safe (c : Chip) : (initialise c).watch.safe = c.watch.safe := by
  have hloop {α : Type} {f : α → Chip → Chip} (hf : ∀ a d, (f a d).watch.safe = d.watch.safe) (l : List α) (d : Chip) :
      (each l f d).watch.safe = d.watch.safe :=
    each_keeps (P := fun e => e.watch.safe = d.watch.safe) (fun a _ e he => (hf a e).trans he) rfl
  have hwhen (b : Bool) (src code : Nat) (v : Int) (d : Chip) : (when b (raise src code v) d).watch.safe = d.watch.safe := by
    cases b
    · rfl
    · exact raise_safe src code v d
  have hport (n : Fin 8) (d : Chip) : (bootRm n d).watch.safe = d.watch.safe := by
    have hleave (b : Bool) (e : Chip) : (when b (rmLeave n) e).watch = e.watch :=
      when_part .watch _ _ _ fun e => rmLeave_part .watch (by decide) (by decide) n e
    unfold bootRm rmRefresh
    dsimp only
    rw [hleave, hwhen, setRm_watch, setRm_watch]
  have hreset (s : Fin 4) (d : Chip) : (resetEstimate s d).watch.safe = d.watch.safe := by
    unfold resetEstimate
    rw [raise_safe]
    rfl
  have hcheck (s : Fin 4) (d : Chip) : (reinsertionCheck s d).watch.safe = d.watch.safe := by
    unfold reinsertionCheck
    split
    · rfl
    · dsimp only
      rw [setStr_watch, apply_ite Chip.watch, apply_ite Watch.safe, hreset, setEst_watch, ite_self]
  have hstring (s : Fin 4) (d : Chip) : (bootString s d).watch.safe = d.watch.safe := by
    have hqual (e : Chip) : (toQualifying s e).watch = e.watch := toQualifying_part .watch (by decide) s e
    have hgo (st : StrState) (e : Chip) : (strGo s st e).watch = e.watch := strGo_part .watch (by decide) s st e
    have hcharge (e : Chip) : (startCharge s e).watch = e.watch := startCharge_part .watch (by decide) s e
    unfold bootString
    split
    · rfl
    split
    · rw [hgo, setStr_watch]
    split
    · dsimp only
      split
      · rw [hcharge, hgo, hcheck]
      · rw [hgo, hcheck]
    · rw [hqual]
  have hmend (i : Fin 2) (d : Chip) : (mendDirectory i d).watch.safe = d.watch.safe := by
    unfold mendDirectory logRaise
    dsimp only
    split
    · rw [raise_safe, log_watch, setNor_watch]
    · rfl
  have hpark (h : Fin 27) (d : Chip) : (parkHamlet h d).watch.safe = d.watch.safe :=
    congrArg Watch.safe (parkHamlet_part .watch (by decide) (by decide) (by decide) h d)
  have hlimit (r : Fin 16) (d : Chip) : (publishLimit r d).watch.safe = d.watch.safe :=
    congrArg Watch.safe (publishLimit_part .watch (by decide) r d)
  have hderive : (derive c).watch = c.watch := derive_part .watch (by decide) (by decide) (by decide) c
  unfold initialise
  dsimp only
  rw [hwhen, hloop hmend, hloop hpark, setBatt_watch, hloop hstring, hloop hlimit, hloop hport, hderive]

/-- After the initial state, the trims of the fitted ports are driven (R442). -/
theorem initialise_trims (c : Chip) : TrimsFit c (initialise c) := by
  have hports (n : Fin 8) : (each (List.finRange 8) bootRm (derive c)).rms[n].trimDriven = flag c (kRmFitted n) := by
    have hflag (m : Fin 8) (d : Chip) (hd : part .od d = part .od c ∧ part .fuses d = part .fuses c) :
        part .od (bootRm m d) = part .od c ∧ part .fuses (bootRm m d) = part .fuses c :=
      ⟨(bootRm_part .od (by decide) (by decide) (by decide) m d).trans hd.1,
        (bootRm_part .fuses (by decide) (by decide) (by decide) m d).trans hd.2⟩
    refine each_at (P := fun d => part .od d = part .od c ∧ part .fuses d = part .fuses c)
      (Q := fun d => d.rms[n].trimDriven = flag c (kRmFitted n)) (List.mem_finRange n) (List.nodup_finRange 8)
      (fun m _ => hflag m) (fun d hd => ?_) (fun m hm d hd => ?_) ⟨by simp, by simp⟩
    · rw [bootRm_trimDriven, if_pos rfl, flag_congr_of_ne hd.1 hd.2 (kRmFitted_ne n)]
    · rw [bootRm_trimDriven, if_neg (Ne.symm hm), hd]
  have hrest : part .rms (initialise c) = part .rms (each (List.finRange 8) bootRm (derive c)) := by
    unfold initialise
    simp
  exact ⟨by simp, by simp, fun n => (congrArg (fun v : Vector Rm 8 => v[n].trimDriven) hrest).trans (hports n)⟩

theorem canSendAll_nmt (m : CanTx) (c : Chip) : (canSendAll m c).can.nmt = c.can.nmt := by
  unfold canSendAll
  exact each_keeps (f := fun l => canSend l m) (P := fun d => d.can.nmt = c.can.nmt) (fun l _ d hd => hd) rfl

/-- CAN starts in Pre-operational (R442). -/
theorem startComm_nmt (c : Chip) : (startComm c).can.nmt = .preOperational := by
  unfold startComm
  dsimp only
  rw [canSendAll_nmt, setCan_can, show ∀ d : Chip, (reloadComm d).can = d.can from reloadComm_part .can (by decide)]
  rfl

/-- A node that joins is no master, so joining changes its Lane and makes an event at most. -/
theorem laneJoin_part_of_joining {pt : Part} (hlane : pt ≠ .lane) (hwatch : pt ≠ .watch) (c : Chip) :
    part pt (laneJoin c) = part pt c := by
  unfold laneJoin
  split
  · unfold chooseMaster
    dsimp only
    split
    · exact setLane_part pt hlane _ c
    · rw [show ∀ (b : Bool) (d : Chip), d.lane.state = .joining → when (isMaster d) becomeMaster d = d from
        fun b d hd => by
          have hnot : isMaster d = false := by
            unfold isMaster
            rw [hd]
            exact Bool.and_false _
          rw [hnot]
          rfl]
      · rw [raise_part pt hwatch, setLane_part pt hlane, setLane_part pt hlane]
      · exact true
      · rw [raise_lane]
        rfl
  · rfl

end Sys2Proof.Machine
end

section
/-! Boot completion and the boot's obligation (R432 to R443). -/

namespace Sys2Proof.Machine

/-- The chip that runs, before anything is started (R442). -/
def nowRunning (c : Chip) : Chip :=
  setReeve (fun r => { r with watchdog := false })
    (setBoot (fun b => { b with phase := .running, bootTime := b.timer, completedAt := c.clock.us }) (initialise c))

/-- The sequencer of a unit that need not wait for its twin (R442). -/
def sequencerStarted (c : Chip) : Chip :=
  when (flag c kSeqAutoStart && !c.boot.noAutoStart && c.twin.state != .standby && lifeCycle c != .blank) seqOn c

theorem startTogether_eq (c : Chip) : ∃ b, startTogether c =
    setBatt (fun x => { x with wdRunning := true, wdStart := nowMs (when b laneJoin (startComm (sequencerStarted (leaveStarting c)))) })
      (when b laneJoin (startComm (sequencerStarted (leaveStarting c)))) := ⟨_, rfl⟩

/-- The boot's end is recorded, and all starts together (R442). -/
theorem bootComplete_of_step {c : Chip} (h : atStep c 10) :
    ∃ d, (∀ {pt}, pt ≠ .alm → part pt d = part pt (nowRunning c)) ∧ bootComplete c = startTogether d := by
  refine ⟨log 0x60 240 0 ((nowRunning c).boot.bootTime : Int) [(nowRunning c).boot.cause.number, (nowRunning c).boot.slot.val,
    imageGen (nowRunning c) (nowRunning c).boot.slot, (nowRunning c).boot.generation] (nowRunning c),
    fun hpt => log_part _ hpt _ _ _ _ _ _, ?_⟩
  unfold bootComplete
  rw [if_neg (by rw [h]; decide)]
  rfl

theorem initialise_clock (c : Chip) : (initialise c).clock = c.clock := by
  change part .clock _ = part .clock c
  simp

theorem initialise_boot (c : Chip) : (initialise c).boot = c.boot := by
  change part .boot _ = part .boot c
  simp

theorem initialise_reeve (c : Chip) : (initialise c).reeve = c.reeve := by
  change part .reeve _ = part .reeve c
  simp

theorem initialise_twin (c : Chip) : (initialise c).twin = c.twin := by
  change part .twin _ = part .twin c
  simp

theorem nowRunning_boot (c : Chip) : (nowRunning c).boot =
    { c.boot with phase := .running, bootTime := c.boot.timer, completedAt := c.clock.us } := by
  unfold nowRunning
  rw [setReeve_boot, setBoot_boot, initialise_boot]

theorem nowRunning_part {pt : Part} (hboot : pt ≠ .boot) (hreeve : pt ≠ .reeve) (c : Chip) :
    part pt (nowRunning c) = part pt (initialise c) := by
  unfold nowRunning
  rw [setReeve_part pt hreeve, setBoot_part pt hboot]

theorem nowRunning_reeve (c : Chip) : (nowRunning c).reeve = { c.reeve with watchdog := false } := by
  unfold nowRunning
  rw [setReeve_reeve, setBoot_reeve, initialise_reeve]

theorem nowRunning_twin (c : Chip) : (nowRunning c).twin = c.twin := by
  unfold nowRunning
  rw [setReeve_twin, setBoot_twin, initialise_twin]

theorem nowRunning_clock (c : Chip) : (nowRunning c).clock = c.clock := by
  unfold nowRunning
  rw [setReeve_clock, setBoot_clock, initialise_clock]

theorem nowRunning_safe (c : Chip) : (nowRunning c).watch.safe = c.watch.safe := by
  unfold nowRunning
  rw [setReeve_watch, setBoot_watch, initialise_safe]

theorem nowRunning_trims (c : Chip) : TrimsFit c (nowRunning c) :=
  (initialise_trims c).keep (nowRunning_part (by decide) (by decide) c) (nowRunning_part (by decide) (by decide) c)
    (nowRunning_part (by decide) (by decide) c)

theorem startTogether_boot (c : Chip) : (startTogether c).boot = c.boot := by
  change part .boot _ = part .boot c
  simp

theorem startTogether_reeve (c : Chip) : (startTogether c).reeve = c.reeve := by
  change part .reeve _ = part .reeve c
  simp

theorem when_laneJoin_part {pt : Part} (hlane : pt ≠ .lane) (hwatch : pt ≠ .watch) (b : Bool) (c : Chip) :
    part pt (when b laneJoin c) = part pt c :=
  when_part pt _ _ _ (laneJoin_part_of_joining hlane hwatch)

/-- What follows the sequencer's start leaves the trims, the twin and the clock. -/
theorem startTogether_fromSequencer {pt : Part} (hcan : pt ≠ .can) (hod : pt ≠ .od) (hlane : pt ≠ .lane) (hwatch : pt ≠ .watch)
    (hbatt : pt ≠ .batt) (c : Chip) : part pt (startTogether c) = part pt (sequencerStarted (leaveStarting c)) := by
  obtain ⟨b, h⟩ := startTogether_eq c
  rw [h, setBatt_part pt hbatt, when_laneJoin_part hlane hwatch, startComm_part pt hcan hod]

theorem startTogether_can (c : Chip) : (startTogether c).can.nmt = .preOperational := by
  obtain ⟨b, h⟩ := startTogether_eq c
  rw [h, setBatt_can, show ∀ d : Chip, (when b laneJoin d).can = d.can from when_laneJoin_part (pt := .can) (by decide) (by decide) b]
  exact startComm_nmt _

theorem sequencerStarted_clock (c : Chip) : (sequencerStarted c).clock = c.clock :=
  when_part .clock _ _ _ fun d => by simp

theorem startTogether_clock (c : Chip) : (startTogether c).clock = c.clock := by
  rw [show (startTogether c).clock = _ from startTogether_fromSequencer (pt := .clock) (by decide) (by decide) (by decide) (by decide)
    (by decide) c]
  exact (sequencerStarted_clock _).trans (leaveStarting_part .clock (by decide) (by decide) (by decide) (by decide) (by decide)
    (by decide) (by decide) (by decide) (by decide) (by decide) (by decide) (by decide) (by decide) (by decide) (by decide)
    (by decide) (by decide) (by decide) (by decide) (by decide) (by decide) c)

/-- The watchdog of the strings starts at the boot's end (R137). -/
theorem startTogether_watchdog (c : Chip) :
    (startTogether c).batt.wdRunning = true ∧ (startTogether c).batt.wdStart = nowMs c := by
  obtain ⟨b, h⟩ := startTogether_eq c
  have hclock : (when b laneJoin (startComm (sequencerStarted (leaveStarting c)))).clock = c.clock := by
    have hstarted := startTogether_clock c
    rw [h, setBatt_clock] at hstarted
    exact hstarted
  rw [h, setBatt_batt]
  exact ⟨rfl, congrArg (fun x : Clock => x.us / 1000) hclock⟩

theorem startTogether_trims {c d : Chip} (h : TrimsFit c d) (n : Fin 8) :
    (startTogether d).rms[n].trimDriven = flag c (kRmFitted n) := by
  have hstarted : TrimsFit c (sequencerStarted (leaveStarting d)) := by
    unfold sequencerStarted when
    split
    · exact h.leaveStarting.seqOn
    · exact h.leaveStarting
  have hrms : (startTogether d).rms = (sequencerStarted (leaveStarting d)).rms :=
    startTogether_fromSequencer (pt := .rms) (by decide) (by decide) (by decide) (by decide) (by decide) d
  rw [hrms]
  exact hstarted.driven n

/-- A unit that finds the shelf held becomes a standby and starts no table (R405). -/
theorem startTogether_standby {c : Chip} (hstate : c.twin.state = .starting) (hlive : live c) (hin : c.twin.ownIn) :
    (startTogether c).twin.state = .standby := by
  have hstandby : leaveStarting c = toStandby c := leaveStarting_of_held hstate hlive hin
  have hnone : sequencerStarted (toStandby c) = toStandby c := by
    have hstate : ((toStandby c).twin.state != .standby) = false := rfl
    unfold sequencerStarted
    rw [hstate, Bool.and_false, Bool.false_and]
    rfl
  rw [show (startTogether c).twin = _ from startTogether_fromSequencer (pt := .twin) (by decide) (by decide) (by decide) (by decide)
    (by decide) c, hstandby]
  exact congrArg (fun d : Chip => d.twin.state) hnone

/-- Settles O45: each step of the boot moves its phase, and a later step keeps what an earlier one set. -/
theorem bootCommands : Obligations.BootCommands := by
  unfold Obligations.BootCommands
  refine ⟨?regulators, ?early, ?locked, ?nor, ?recovery, ?retired, ?missing, ?image, ?first, ?second, ?reeve, ?set, ?default, ?mills,
    ?complete⟩
  case regulators =>
    intro s hstep
    have hready : bootRegulatorsReady s.chip = _ := if_neg (by rw [hstep]; decide)
    refine gives_of_answer (bootRegulatorsReady s.chip) rfl (by simp +contextual [Only]) ?_
    rw [hready]
    refine ⟨rfl, ?_, ?_⟩
    · rw [toStep, setBoot_hamlets, setHamlet_self]
    · rw [toStep, setBoot_hamlets, setHamlet_hamlets, if_neg (by decide), setHamlet_self]
  case early =>
    intro s hstep
    exact gives_of_answer _ (congrArg (answer s) (if_pos (by rw [hstep]; rfl))) (by simp +contextual [Only]) rfl
  case locked =>
    intro s hstep
    have hlocked : bootReferenceLocked s.chip = _ := if_neg (by rw [hstep]; decide)
    refine gives_of_answer (bootReferenceLocked s.chip) rfl (by simp +contextual [Only]) ?_
    rw [hlocked]
    exact ⟨rfl, fun h => by simp [toStep], rfl⟩
  case nor =>
    intro s p recov hfits hstep hsize hlife hrecov hdir
    refine gives_of_guarded (bootNorDiscovered (some p) recov s.chip) (by simpa using hfits) rfl (by simp +contextual [Only]) ?_
    rw [bootNorDiscovered_of_found hstep hsize hlife, hrecov, if_neg Bool.false_ne_true,
      if_neg (by rw [Option.isNone_eq_false_iff.mpr hdir]; decide)]
    exact ⟨rfl, rfl⟩
  case recovery =>
    intro s p recov hfits hstep hsize hwhy
    have henters : ∃ why, bootNorDiscovered (some p) recov s.chip = enterRecovery why (found p s.chip) := by
      rcases hwhy with ⟨hretired, hdue⟩ | ⟨hlife, hwhy⟩
      · rw [bootNorDiscovered_of_retired hstep hsize hretired, hdue]
        exact ⟨4, rfl⟩
      · rw [bootNorDiscovered_of_found hstep hsize hlife]
        cases recov with
        | true => exact ⟨1, rfl⟩
        | false =>
          have hnone : directoryInUse s.chip.nor = none := hwhy.resolve_left (by decide)
          exact ⟨2, by rw [hnone]; rfl⟩
    obtain ⟨why, henters⟩ := henters
    refine gives_of_guarded (bootNorDiscovered (some p) recov s.chip) (by simpa using hfits) rfl (by simp +contextual [Only]) ?_
    rw [henters, enterRecovery_boot, enterRecovery_nor]
    exact ⟨rfl, rfl, enterRecovery_part .reeve (by decide) (by decide) (by decide) (by decide) _ _⟩
  case retired =>
    intro s p recov hfits hstep hsize hretired hdue
    refine gives_of_guarded (bootNorDiscovered (some p) recov s.chip) (by simpa using hfits) rfl (by simp +contextual [Only]) ?_
    rw [bootNorDiscovered_of_retired hstep hsize hretired, enterRecovery_boot, enterRecovery_nor, hdue]
    exact ⟨rfl, rfl⟩
  case missing =>
    intro s recov hstep hsafe
    have hmissing : bootNorDiscovered none recov s.chip = enterRecovery 3 (raise 227 3 0 s.chip) :=
      if_neg (by rw [hstep]; decide)
    refine gives_of_guarded (bootNorDiscovered none recov s.chip) rfl rfl (by simp +contextual [Only]) ?_
    rw [hmissing, enterRecovery_boot, raise_boot]
    exact ⟨rfl, (enterRecovery_events 3 _).subset (mem_raise_arrived hsafe 227 3 0)⟩
  case image =>
    intro s b k hk hstep hvalid
    refine gives_of_answer (bootImageChecked b s.chip) rfl (by simp +contextual [Only]) ?_
    unfold bootImageChecked
    dsimp only
    subst hk
    rw [hvalid]
    rcases hstep with ⟨hstep, hfirst⟩ | ⟨hstep, hsecond⟩
    · rw [if_pos (by rw [hstep, decide_eq_true hfirst]; rfl)]
      rfl
    · rw [if_neg (by rw [decide_eq_false hsecond, Bool.and_false]; decide),
        if_pos (by rw [hstep, decide_eq_true hsecond]; rfl)]
      rfl
  case first =>
    intro s b k st hk hst hbad hstep hfirst
    refine gives_of_answer (bootImageChecked b s.chip) rfl (by simp +contextual [Only]) ?_
    unfold bootImageChecked
    dsimp only
    subst hk
    rw [← hst, if_pos (by rw [hstep, decide_eq_true hfirst]; rfl), if_neg (by simpa using hbad), beq_eq_false_iff_ne.mpr hbad]
    rfl
  case second =>
    intro s b k hk hbad hstep hsecond
    refine gives_of_answer (bootImageChecked b s.chip) rfl (by simp +contextual [Only]) ?_
    unfold bootImageChecked
    dsimp only
    subst hk
    rw [if_neg (by rw [decide_eq_false hsecond, Bool.and_false]; decide),
      if_pos (by rw [hstep, decide_eq_true hsecond]; rfl), if_neg (by simpa using hbad), enterRecovery_boot]
    exact ⟨rfl, enterRecovery_part .reeve (by decide) (by decide) (by decide) (by decide) _ _⟩
  case reeve =>
    intro s hstep
    exact gives_of_answer (bootReeveStart s.chip) rfl (by simp +contextual [Only]) (bootReeveStart_boot hstep)
  case set =>
    intro s l k hlen hstep hset
    refine gives_of_guarded (bootParameterLoad l s.chip) (by simpa using hlen) rfl (by simp +contextual [Only]) ?_
    obtain ⟨d, hdboot, hdnor, hloaded⟩ := loadParameters_of_set (c := toStep 9 s.chip) hset
    obtain ⟨hphase, hforce, hgen⟩ := loadSet_boot k d.nor.params[k] d
    obtain ⟨hnode, htaps, hclosed⟩ := bootParameterLoad_facts l hstep
    have hkept {pt : Part} := bootParameterLoad_kept (pt := pt) (closed := l) (h := hstep)
    have hboot : (bootParameterLoad l s.chip).boot = (loadSet k d.nor.params[k] d).boot := by
      rw [← hloaded]
      exact hkept (pt := .boot) (by decide) (by decide) (by decide) (by decide) (by decide) (by decide) (by decide) (by decide)
    rw [hboot, hphase, hforce, hgen, hdboot, hdnor]
    refine ⟨rfl, rfl, rfl, setToLoad_committed hset, ?_, htaps, hclosed⟩
    rw [hnode]
    exact (nat_congr (hkept (by decide) (by decide) (by decide) (by decide) (by decide) (by decide) (by decide) (by decide))
      (hkept (by decide) (by decide) (by decide) (by decide) (by decide) (by decide) (by decide) (by decide))
      (hkept (by decide) (by decide) (by decide) (by decide) (by decide) (by decide) (by decide) (by decide)) _).symm
  case default =>
    intro s l hlen hstep hset
    refine gives_of_guarded (bootParameterLoad l s.chip) (by simpa using hlen) rfl (by simp +contextual [Only]) ?_
    have hnone {pt : Part} := loadParameters_of_none (c := toStep 9 s.chip) hset (pt := pt)
    obtain ⟨hnode, htaps, hclosed⟩ := bootParameterLoad_facts l hstep
    have hkept {pt : Part} := bootParameterLoad_kept (pt := pt) (closed := l) (h := hstep)
    refine ⟨?_, ?_, ?_, htaps, hclosed⟩
    · exact (hkept (pt := .boot) (by decide) (by decide) (by decide) (by decide) (by decide) (by decide) (by decide) (by decide)).trans
        (hnone (pt := .boot) (by decide) (by decide))
    · exact (hkept (pt := .od) (by decide) (by decide) (by decide) (by decide) (by decide) (by decide) (by decide) (by decide)).trans
        (hnone (pt := .od) (by decide) (by decide))
    · rw [hnode]
      exact nat_congr (hnone (by decide) (by decide)) (hnone (by decide) (by decide)) (hnone (by decide) (by decide)) _
  case mills =>
    intro s hstep
    have hloaded : bootMillworkLoaded s.chip = toStep 10 (each (List.finRange 16) loadMill s.chip) := if_neg (by rw [hstep]; decide)
    refine gives_of_answer (bootMillworkLoaded s.chip) rfl (by simp +contextual [Only]) ?_
    rw [hloaded]
    refine ⟨?_, fun m => each_loadMill_state s.chip m⟩
    exact congrArg (fun b : Boot => { b with phase := .step 10 }) (each_part .boot (List.finRange 16) loadMill s.chip fun m d => by simp)
  case complete =>
    intro s hstep hentry
    obtain ⟨d, hd, hcomplete⟩ := bootComplete_of_step hstep
    have htwin : d.twin = s.chip.twin := (hd (pt := .twin) (by decide)).trans (nowRunning_twin s.chip)
    have hboot : d.boot = (nowRunning s.chip).boot := hd (pt := .boot) (by decide)
    have hwatch : d.watch = (nowRunning s.chip).watch := hd (pt := .watch) (by decide)
    refine gives_of_answer (bootComplete s.chip) rfl (by simp +contextual [Only]) ?_
    rw [hcomplete]
    obtain ⟨hrunning, hstart⟩ := startTogether_watchdog d
    refine ⟨?_, ?_, startTogether_can d, hrunning, ?_, fun n => ?_, fun hstate hin hsafe => ?_⟩
    · rw [startTogether_boot, hboot, nowRunning_boot]
    · rw [startTogether_reeve]
      exact (hd (pt := .reeve) (by decide)).trans (nowRunning_reeve s.chip)
    · rw [hstart]
      exact congrArg (fun x : Clock => x.us / 1000) ((hd (pt := .clock) (by decide)).trans (nowRunning_clock s.chip))
    · exact startTogether_trims ((nowRunning_trims s.chip).keep (hd (by decide)) (hd (by decide)) (hd (by decide))) n
    · have hsafe : (nowRunning s.chip).watch.safe = false := (nowRunning_safe s.chip).trans hsafe
      refine startTogether_standby (by rw [htwin]; exact hstate) ?_ (by rw [htwin]; exact hin)
      unfold live
      rw [hboot, hwatch, hsafe, nowRunning_boot]
      rfl

end Sys2Proof.Machine
end

section
/-! The clock, the wakes and the block resets of the hamlets (R12 to R24, R268). -/

namespace Sys2Proof.Machine

/-! ### The reference -/

/-- The marks of a lost reference stay. -/
structure KeepsReference (c d : Chip) : Prop where
  refLost : d.clock.refLost = c.clock.refLost
  almFallback : d.clock.almFallback = c.clock.almFallback

namespace KeepsReference

theorem of_clock {c d : Chip} (h : part .clock d = part .clock c) : KeepsReference c d :=
  ⟨congrArg Clock.refLost h, congrArg Clock.almFallback h⟩

theorem trans {c d e : Chip} (hcd : KeepsReference c d) (hde : KeepsReference d e) : KeepsReference c e :=
  ⟨hde.refLost.trans hcd.refLost, hde.almFallback.trans hcd.almFallback⟩

theorem becomeMaster (c : Chip) : KeepsReference c (becomeMaster c) := by
  have hepoch (e : BitVec 8) (d : Chip) : KeepsReference d (epochChange e d) := of_clock (by simp)
  have hlane (f : Lane → Lane) : KeepsReference c (setLane f c) := of_clock rfl
  have hstep (d : Chip) : KeepsReference d (stepLaneTime 0 d) := ⟨rfl, rfl⟩
  unfold Machine.becomeMaster
  dsimp only
  split
  · exact of_clock rfl
  · exact ((hlane _).trans (hstep _)).trans (hepoch _ _)

theorem chooseMaster (c : Chip) : KeepsReference c (chooseMaster c) := by
  have hraised (f : Lane → Lane) : KeepsReference c (raise 183 3 0 (setLane f c)) :=
    of_clock (raise_part .clock (by decide) 183 3 0 (setLane f c))
  have hwhen (b : Bool) (d : Chip) : KeepsReference d (when b Machine.becomeMaster d) := by
    cases b
    · exact of_clock rfl
    · exact becomeMaster d
  unfold Machine.chooseMaster
  dsimp only
  split
  · exact of_clock rfl
  · exact (hraised _).trans (hwhen _ _)

end KeepsReference

/-! ### Hamlets that stay open -/

/-- A hamlet that takes packets and whose stile has realigned. -/
def hamletOpen (h : Fin 27) (c : Chip) : Prop := c.hamlets[h].closed = false ∧ c.hamlets[h].realign = false

theorem hamletOpen_of_bits {h : Fin 27} {c d : Chip} (hbits : d.hamlets[h].bits = c.hamlets[h].bits) (hopen : hamletOpen h c) :
    hamletOpen h d := ⟨(congrArg Hamlet.closed hbits).trans hopen.1, (congrArg Hamlet.realign hbits).trans hopen.2⟩

theorem hamletOpen_of_hamlets {h : Fin 27} {c d : Chip} (hsame : d.hamlets = c.hamlets) (hopen : hamletOpen h c) : hamletOpen h d :=
  hamletOpen_of_bits (by rw [hsame]) hopen

/-- A change of a hamlet that leaves its two marks leaves every hamlet open that is. -/
theorem hamletOpen_setHamlet {h : Fin 27} {f : Hamlet → Hamlet} (hclosed : ∀ x, (f x).closed = x.closed)
    (hrealign : ∀ x, (f x).realign = x.realign) (i : Fin 27) {c : Chip} (hopen : hamletOpen h c) : hamletOpen h (setHamlet i f c) := by
  unfold hamletOpen at *
  rw [setHamlet_hamlets]
  split
  · next hi => rw [hclosed, hrealign, hi]; exact hopen
  · exact hopen

theorem sendPacket_open {h : Fin 27} (src dst : Fin 27) (p : Packet) {c : Chip} (hopen : hamletOpen h c) :
    hamletOpen h (sendPacket src dst p c) := by
  have hwake : hamletOpen h (requestWake dst c) := by
    refine hamletOpen_setHamlet ?_ ?_ dst hopen <;> exact fun x => rfl
  unfold sendPacket
  refine hamletOpen_of_bits ((GreenMoves.greenServe _ _).bits h) (hamletOpen_setHamlet ?_ ?_ src hwake) <;> exact fun x => rfl

theorem marketDispatch_open {h : Fin 27} (o : Origin) (k : Key) {c : Chip} (hopen : hamletOpen h c) :
    hamletOpen h (marketDispatch o k c) := by
  unfold marketDispatch dispatch
  split
  · exact hopen
  split
  · dsimp only
    split
    · exact hopen
    · exact sendPacket_open _ _ _ hopen
  · exact hopen

theorem admitReq_open {h : Fin 27} (q : Req) {c : Chip} (hopen : hamletOpen h c) : hamletOpen h (admitReq q c) := by
  have hrefuse (st : Status) : hamletOpen h (refuse q st c) :=
    hamletOpen_of_hamlets (by
      change part .hamlets (refuse q st c) = part .hamlets c
      unfold refuse
      dsimp only
      rw [reply_part .hamlets (by decide) (by decide) (by decide) (by decide)]
      split
      · rw [spoilAdmission_part .hamlets (by decide)]
        rfl
      · rfl) hopen
  have htake : hamletOpen h (takeSlot q c) := marketDispatch_open _ _ hopen
  have hstaged (b : List Byte) : hamletOpen h (takeSlotStaged q b c) := by
    unfold takeSlotStaged
    refine hamletOpen_of_bits (complete_bits _ _ _ h _) (hamletOpen_of_hamlets ?_ hopen)
    exact stageWrite_part .hamlets (by decide) (by decide) (by decide) (by decide) (by decide) (by decide) _ _ _ c
  unfold admitReq
  split
  · exact hrefuse _
  split
  · exact hrefuse _
  split
  · split
    · exact htake
    · exact hrefuse _
  · dsimp only
    split
    · split
      · exact hstaged _
      · exact htake
    · exact hrefuse _

theorem marketReady_open {h : Fin 27} {c : Chip} (hopen : hamletOpen h c) : hamletOpen h (marketReady c) := by
  unfold marketReady
  exact each_keeps (P := hamletOpen h) (fun q _ d hd => admitReq_open q hd) hopen

theorem millHamlet_of {h : Fin 27} {m : Fin 16} (hm : millOf h = some m) : millHamlet m = h := by
  unfold millOf at hm
  split at hm
  · cases hm
    exact Fin.ext (by simp [millHamlet]; omega)
  · cases hm

/-- A hamlet is marked ready (R17). -/
theorem hamletMarkReady_opens {h : Fin 27} {c : Chip} (hclosed : c.hamlets[h].closed = true) (hreset : c.hamlets[h].blkrst = false)
    (hruns : reeveRuns c) : hamletOpen h (hamletMarkReady h c) := by
  unfold hamletMarkReady
  rw [if_neg (by rw [hclosed, hreset]; decide)]
  split
  · next m hm =>
    obtain rfl := millHamlet_of hm
    split
    · next hstate =>
      unfold millLoad
      dsimp only
      rw [if_pos (by rw [hreset, hruns, Bool.or_comm, hstate]; rfl)]
      exact openHamlet_opens _ _
    · exact openHamlet_opens _ c
  · have hopen : hamletOpen h (openHamlet h c) := openHamlet_opens h c
    dsimp only
    split
    · exact marketReady_open hopen
    split
    · exact hamletOpen_of_hamlets (startComm_part .hamlets (by decide) (by decide) _) hopen
    split
    · exact hamletOpen_of_hamlets (laneJoin_part_of_joining (pt := .hamlets) (by decide) (by decide) _) hopen
    · exact hopen

/-! ### The sequencer's requests -/

theorem seqEnter_of_powerUp {j : Nat} {c : Chip} (h : c.seq.state = .powerUp) :
    (seqEnter j c).seq.state = .powerUp ∨ (seqEnter j c).seq.state = .up := by
  unfold seqEnter
  rw [h]
  dsimp only
  split
  · exact .inl h
  · refine .inr ?_
    unfold seqUpDone
    exact each_keeps (P := fun d => d.seq.state = .up)
      (fun (t : Nat × Nat) _ d hd => ((seqMark_kept t.1 t.2 true d).state.trans (markTarget_state _ _ _ _)).trans hd) rfl

/-- After an on request the sequencer is not OFF (R205). -/
theorem seqOn_state (c : Chip) : (seqOn c).seq.state ≠ .off := by
  unfold seqOn
  cases h : c.seq.state with
  | off =>
    dsimp only
    split
    · unfold seqStartUp
      rcases seqEnter_of_powerUp (j := 0) (c := setSeq (fun q => { q with state := .powerUp, upComplete := false, pendingOn := false }) c)
        rfl with h | h <;> rw [h] <;> exact SeqState.noConfusion
    · exact SeqState.noConfusion
  | powerDown =>
    change c.seq.state ≠ .off
    rw [h]
    exact SeqState.noConfusion
  | powerUp => rw [h]; exact SeqState.noConfusion
  | up => rw [h]; exact SeqState.noConfusion
  | offHold => rw [h]; exact SeqState.noConfusion

/-- After an off request the sequencer is OFF or on its way down (R206). -/
theorem seqOff_state (c : Chip) : (seqOff c).seq.state = .off ∨ (seqOff c).seq.state = .powerDown := by
  unfold seqOff
  cases h : c.seq.state with
  | powerUp => exact (seqStartDown_state c).symm
  | up => exact (seqStartDown_state c).symm
  | powerDown => exact .inr h
  | offHold => exact .inl rfl
  | off => exact .inl h

end Sys2Proof.Machine
end

section
/-! The commands of the clock and the hamlets (R12 to R24, R268). -/

namespace Sys2Proof.Machine

theorem requestOf_none {id : Nat} {c : Chip} (h : ∀ x ∈ c.market.reqs, x.id ≠ id) : reqOf c id = none := by
  unfold reqOf
  exact List.find?_eq_none.mpr fun x hx => by simpa using h x hx

/-- Each request that completes is gone, and none comes back. -/
theorem each_complete_gone (l : List Req) (st : Status) (c : Chip) :
    ∀ x ∈ (each l (fun q => complete q st []) c).market.reqs, x ∈ c.market.reqs ∧ ∀ q ∈ l, x.id ≠ q.id := by
  unfold each
  induction l generalizing c with
  | nil => exact fun x hx => ⟨hx, fun q hq => absurd hq List.not_mem_nil⟩
  | cons q l ih =>
    intro x hx
    obtain ⟨hlater, hother⟩ := ih (complete q st [] c) x hx
    obtain ⟨hmem, hne⟩ := complete_subset q st [] c x hlater
    refine ⟨hmem, fun p hp => ?_⟩
    rcases List.mem_cons.mp hp with rfl | hp
    · exact hne
    · exact hother p hp

theorem each_complete_bits (l : List Req) (st : Status) (h : Fin 27) (c : Chip) :
    (each l (fun q => complete q st []) c).hamlets[h].bits = c.hamlets[h].bits :=
  each_keeps (P := fun d => d.hamlets[h].bits = c.hamlets[h].bits) (fun q _ d hd => (complete_bits q st [] h d).trans hd) rfl

theorem each_complete_watch (l : List Req) (st : Status) (c : Chip) :
    (each l (fun q => complete q st []) c).watch = c.watch :=
  each_part .watch l _ c fun q d => complete_part .watch (by decide) (by decide) (by decide) (by decide) (by decide) (by decide) _ _ _ _

/-! ### A block reset that ends -/

theorem marketLeavesReset_bits (h : Fin 27) (c : Chip) : (marketLeavesReset c).hamlets[h].bits = c.hamlets[h].bits := by
  unfold marketLeavesReset
  dsimp only
  rw [setMarket_hamlets]
  exact completeAll_bits _ _ h c

theorem blockResetComplete_bits {h : Fin 27} {c : Chip} (hreset : c.hamlets[h].blkrst = true) :
    (blockResetComplete h c).hamlets[h].bits =
      { c.hamlets[h] with blkrst := false, closed := true, realign := true, run := true }.bits := by
  unfold blockResetComplete when
  rw [if_neg (by rw [hreset]; decide)]
  dsimp only
  split
  · rw [marketLeavesReset_bits, setHamlet_self]
  · rw [setHamlet_self]

/-! ### A control signal -/

/-- The hamlet with its oldest signal gone, and what its inbox let past (R19). -/
def signalGone (h : Fin 27) (rest : List Packet) (c : Chip) : Chip :=
  greenServe (greenLoad (setHamlet h (fun x => { x with inbox := rest }) c)) (setHamlet h (fun x => { x with inbox := rest }) c)

theorem signalGone_inbox (h : Fin 27) (rest : List Packet) (c : Chip) : rest <+: (signalGone h rest c).hamlets[h].inbox := by
  have hserved := (GreenMoves.greenServe (greenLoad (setHamlet h (fun x => { x with inbox := rest }) c))
    (setHamlet h (fun x => { x with inbox := rest }) c)).inbox h
  rwa [setHamlet_self] at hserved

theorem signalGone_part {pt : Part} (hhamlets : pt ≠ .hamlets) (hgreen : pt ≠ .green) (hmarket : pt ≠ .market) (h : Fin 27)
    (rest : List Packet) (c : Chip) : part pt (signalGone h rest c) = part pt c := by
  unfold signalGone
  rw [greenServe_part pt hhamlets hgreen hmarket, setHamlet_part pt hhamlets]

theorem controlSignalDelivery_of_signal {h : Fin 27} {g : Signal} {rest : List Packet} {c : Chip}
    (hopen : hamletShut c.hamlets[h] = false) (hfirst : firstSignal c.hamlets[h].inbox = some (g, rest)) :
    controlSignalDelivery h c = takeSignal h g (signalGone h rest c) := by
  unfold controlSignalDelivery
  rw [if_neg (by rw [hopen]; decide), hfirst]
  rfl

theorem takeSignal_hamlets (h : Fin 27) (g : Signal) (c : Chip) : (takeSignal h g c).hamlets = c.hamlets := by
  change part .hamlets _ = part .hamlets c
  simp

/-! ### A wake -/

theorem wake_of_stopped {h : Fin 27} {c : Chip} (hrun : c.hamlets[h].run = false) (hreset : c.hamlets[h].blkrst = false) :
    wake h c = startClock h (setHamlet h (fun x => { x with wakes := satSucc 65535 x.wakes }) c) := by
  unfold wake
  exact if_neg (by rw [hrun, hreset]; decide)

/-- A stopped hamlet that is woken runs, is counted, and what waited at it is delivered where it takes packets (R21). -/
def woken (h : Fin 27) (c : Chip) : Chip :=
  setHamlet h (fun x => { x with run := true, waking := false, wakes := satSucc 65535 x.wakes }) c

theorem wake_eq {h : Fin 27} {c : Chip} (hrun : c.hamlets[h].run = false) (hreset : c.hamlets[h].blkrst = false) :
    wake h c = when (!c.hamlets[h].closed) (deliverPackets h) (woken h c) := by
  have hset : setHamlet h (fun x => { x with run := !x.blkrst, waking := false })
      (setHamlet h (fun x => { x with wakes := satSucc 65535 x.wakes }) c) = woken h c := by
    have hreset : c.hamlets[h.val].blkrst = false := hreset
    unfold woken setHamlet
    simp [hreset]
  have hshut : hamletShut (woken h c).hamlets[h] = c.hamlets[h].closed := by
    rw [woken, setHamlet_self]
    unfold hamletShut
    simp [-Fin.getElem_fin, hreset]
  rw [wake_of_stopped hrun hreset]
  unfold startClock
  dsimp only
  rw [hset, hshut]

theorem woken_bits {h : Fin 27} {c : Chip} (b : Bool) : (when b (deliverPackets h) (woken h c)).hamlets[h].bits =
    { c.hamlets[h] with run := true, waking := false, wakes := satSucc 65535 c.hamlets[h].wakes }.bits := by
  unfold when
  split
  · rw [deliverPackets_bits, woken, setHamlet_self]
  · rw [woken, setHamlet_self]

/-- Settles O1: the green keeps each hamlet's bits, and what follows a command's own change leaves it. -/
theorem clockAndHamletCommands : Obligations.ClockAndHamletCommands := by
  unfold Obligations.ClockAndHamletCommands
  refine ⟨?lost, ?back, ?reset, ?ready, ?signal, ?wake, ?timeout, ?parked, ?watchdog⟩
  case lost =>
    intro s hres hlost
    have heq : referenceLost s.chip = chooseMaster (clearTvalid (raise 193 1 0
        { s.chip with clock := { s.chip.clock with refLost := true, almFallback := true } })) :=
      if_neg (by rw [hres, hlost]; decide)
    refine gives_of_answer (referenceLost s.chip) rfl (by simp +contextual [Only]) ?_
    rw [heq]
    have hraised (c : Chip) : KeepsReference c (clearTvalid (raise 193 1 0 c)) := .of_clock (by simp)
    have hkept := (hraised { s.chip with clock := { s.chip.clock with refLost := true, almFallback := true } }).trans (.chooseMaster _)
    exact ⟨hkept.refLost, hkept.almFallback⟩
  case back =>
    intro s hres hlost
    have heq : referenceReturn s.chip = chooseMaster
        { s.chip with clock := { s.chip.clock with refLost := false, almFallback := false } } :=
      if_neg (by rw [hres, hlost]; decide)
    refine gives_of_answer (referenceReturn s.chip) rfl (by simp +contextual [Only]) ?_
    rw [heq]
    have hkept := KeepsReference.chooseMaster { s.chip with clock := { s.chip.clock with refLost := false, almFallback := false } }
    exact ⟨hkept.refLost, hkept.almFallback⟩
  case reset =>
    intro s h hreset
    have heq : blockResetComplete h s.chip = _ := if_neg (by rw [hreset]; decide)
    refine gives_of_answer (blockResetComplete h s.chip) rfl (by simp +contextual [Only]) ?_
    have hbits := blockResetComplete_bits hreset
    refine ⟨congrArg Hamlet.blkrst hbits, congrArg Hamlet.closed hbits, congrArg Hamlet.run hbits, congrArg Hamlet.realign hbits,
      fun hmarket => ?_, fun hother => ?_⟩
    · rw [heq, beq_iff_eq.mpr hmarket]
      exact ⟨rfl, rfl, rfl⟩
    · rw [heq, beq_eq_false_iff_ne.mpr hother]
      rfl
  case ready =>
    intro s h hclosed hreset hruns
    exact gives_of_answer (hamletMarkReady h s.chip) rfl (by simp +contextual [Only]) (hamletMarkReady_opens hclosed hreset hruns)
  case signal =>
    intro s h g rest hopen hfirst
    refine gives_of_answer (controlSignalDelivery h s.chip) rfl (by simp +contextual [Only]) ?_
    rw [controlSignalDelivery_of_signal hopen hfirst]
    have hgone {pt : Part} (hhamlets : pt ≠ .hamlets) (hgreen : pt ≠ .green) (hmarket : pt ≠ .market) :=
      signalGone_part hhamlets hgreen hmarket h rest s.chip
    refine ⟨?_, ?_⟩
    · rw [takeSignal_hamlets]
      exact signalGone_inbox h rest s.chip
    cases g with
    | interrupt i =>
      exact congrArg (fun r : Reeve => r.interrupts ++ [i]) (hgone (pt := .reeve) (by decide) (by decide) (by decide))
    | trap i =>
      exact congrArg (fun r : Reeve => r.traps ++ [i]) (hgone (pt := .reeve) (by decide) (by decide) (by decide))
    | kill r =>
      refine ⟨killRail_killed r _, fun p hp => railKillLine_kill ?_⟩
      rwa [phasesOf_congr (hgone (by decide) (by decide) (by decide)) (hgone (by decide) (by decide) (by decide))
        (hgone (by decide) (by decide) (by decide))]
    | start =>
      intro hseq
      change (when (h.val == 4) seqOn _).seq.state ≠ .off
      rw [beq_iff_eq.mpr hseq]
      exact seqOn_state _
    | stop =>
      intro hseq
      change (when (h.val == 4) seqOff _).seq.state = .off ∨ (when (h.val == 4) seqOff _).seq.state = .powerDown
      rw [beq_iff_eq.mpr hseq]
      exact seqOff_state _
  case wake =>
    intro s h hlive hlow hrun hreset
    have heq : wakeOnAccess h s.chip = when (!s.chip.hamlets[h].closed) (deliverPackets h) (woken h s.chip) := by
      rw [← wake_eq hrun hreset]
      unfold wakeOnAccess
      exact if_neg (by simp [hlive]; omega)
    refine gives_of_answer (wakeOnAccess h s.chip) rfl (by simp +contextual [Only]) ?_
    rw [heq]
    have hbits := woken_bits (h := h) (c := s.chip) (!s.chip.hamlets[h].closed)
    have hwoken : (woken h s.chip).hamlets[h].inbox = s.chip.hamlets[h].inbox := by rw [woken, setHamlet_self]
    refine ⟨congrArg Hamlet.run hbits, congrArg Hamlet.waking hbits, congrArg Hamlet.wakes hbits, fun hclosed => ?_⟩
    rw [hclosed]
    refine ⟨?_, fun q hq hwaits => deliverPackets_taken hq (by rw [hwoken]; exact hwaits)⟩
    have hinbox := deliverPackets_inbox h (woken h s.chip)
    rwa [hwoken] at hinbox
  case timeout =>
    intro s h hlive hlow hwaking
    let d := raise (192 + h) 3 0 (setHamlet h (fun x => { x with waking := false }) s.chip)
    have hinbox : d.hamlets[h].inbox = s.chip.hamlets[h].inbox := by
      show (raise (192 + h) 3 0 (setHamlet h _ s.chip)).hamlets[h].inbox = _
      rw [raise_hamlets, setHamlet_self]
    have hmarket : d.market = s.chip.market := raise_market _ _ _ _
    have hwaiting : waitingAt h d = waitingAt h s.chip := by
      unfold waitingAt
      rw [hmarket, hinbox]
    have heq : wakeTimeout h s.chip = each (waitingAt h d) (fun q => complete q .timeout []) d :=
      if_neg (by simp [-Fin.getElem_fin, hlive, hwaking]; omega)
    refine gives_of_answer (wakeTimeout h s.chip) rfl (by simp +contextual [Only]) ?_
    rw [heq, hwaiting]
    refine ⟨?_, ?_, fun q hq => requestOf_none fun x hx => (each_complete_gone _ _ _ x hx).2 q hq⟩
    · have hbits : d.hamlets[h].bits = { s.chip.hamlets[h] with waking := false }.bits := by
        show (raise (192 + h) 3 0 (setHamlet h _ s.chip)).hamlets[h].bits = _
        rw [raise_hamlets, setHamlet_self]
      exact congrArg Hamlet.waking ((each_complete_bits _ _ h d).trans hbits)
    · rw [each_complete_watch]
      exact raise_watch_congr _ _ _ rfl
  case parked =>
    intro s h hparked hrun
    have heq : parkedHamletIdleStop h s.chip = setHamlet h (fun x => { x with run := false }) s.chip := by
      unfold parkedHamletIdleStop
      rw [hparked, hrun]
      rfl
    exact gives_of_answer _ (congrArg (answer s) heq) (by simp +contextual [Only]) rfl
  case watchdog =>
    intro s hruns hsafe hres
    let d := giveUpNow 5 s.chip
    have hd {pt : Part} (hhamlets : pt ≠ .hamlets) (hmarket : pt ≠ .market) (hcan : pt ≠ .can) (htw : pt ≠ .tw)
        (hsvc : pt ≠ .svc) (hlane : pt ≠ .lane) (hwatch : pt ≠ .watch) (htwin : pt ≠ .twin) : part pt d = part pt s.chip :=
      giveUpNow_part _ hhamlets hmarket hcan htw hsvc hlane hwatch htwin 5 s.chip
    have hboot : d.boot = s.chip.boot := hd (pt := .boot) (by decide) (by decide) (by decide) (by decide) (by decide) (by decide)
      (by decide) (by decide)
    have hclock : (closing d).clock = s.chip.clock := (closing_part (pt := .clock) (by decide) (by decide) (by decide) (by decide)
      (by decide) (by decide) (by decide) (by decide) d).trans
      (hd (pt := .clock) (by decide) (by decide) (by decide) (by decide) (by decide) (by decide) (by decide) (by decide))
    have hfuses : (closing d).fuses = s.chip.fuses := (closing_part (pt := .fuses) (by decide) (by decide) (by decide) (by decide)
      (by decide) (by decide) (by decide) (by decide) d).trans
      (hd (pt := .fuses) (by decide) (by decide) (by decide) (by decide) (by decide) (by decide) (by decide) (by decide))
    have hstrs : (closing d).strs = s.chip.strs := (closing_part (pt := .strs) (by decide) (by decide) (by decide) (by decide)
      (by decide) (by decide) (by decide) (by decide) d).trans
      (hd (pt := .strs) (by decide) (by decide) (by decide) (by decide) (by decide) (by decide) (by decide) (by decide))
    have hres : resettable d := by
      unfold resettable at hres ⊢
      rw [hboot]
      exact hres
    have heq : reeveWatchdogExpiry s.chip = chipReset .reeveWatchdog (d.twin.state == .releasing && d.twin.holding) d :=
      if_neg (by rw [hruns, hsafe]; decide)
    refine ⟨_, congrArg (answer s) (heq.trans (chipReset_of_resettable hres _ _)), rfl, rfl, rfl, ?_, hfuses, fun i => ?_⟩
    · exact (congrArg Clock.us hclock :)
    · simp [wipe, hstrs]

end Sys2Proof.Machine
end

section
/-! A write of a value that its object admits, from the market to its effect (R257 to R262). -/

namespace Sys2Proof.Machine

/-! ### What a write of an object comes to -/

/-- The bytes of a number as a value of the object. -/
def rendered (k : Key) (v : Int) : List Byte :=
  match objOf k with
  | some d => d.render (.num v)
  | none => []

theorem writeNum_eq (o : Origin) (k : Key) (v : Int) (c : Chip) : writeNum o k v c = writeBytes o k (rendered k v) c := by
  unfold writeNum rendered
  cases objOf k <;> rfl

theorem valueCheck_rendered {k : Key} {v : Int} (h : admissible k v) : valueCheck k (rendered k v) = (.ok, .num v) := by
  unfold admissible at h
  unfold rendered
  cases hobj : objOf k with
  | none => rw [hobj] at h; exact absurd h Bool.false_ne_true
  | some d => rw [hobj] at h; exact eq_of_beq h

/-- The object is none of those that stage, command hampers or wait for the apply tick. -/
def actsAtOnce (k : Key) : Bool :=
  k != kHamperStage && k / 256 != 0x2123 && k / 256 != 0x2124 && k != kHamperCommand && k != kParamStoreCmd &&
    k != kTwinExercise && !applyInstant k && k != kChipResetCmd

theorem carryWrite_of_atOnce {q : Req} {b : List Byte} {v : Val} {c : Chip} (hk : actsAtOnce q.k)
    (hcheck : writeCheck c q.origin q.k false = .ok) (hval : valueCheck q.k b = (.ok, v)) :
    carryWrite q b c = match commandWrite q.origin q.k v c with
      | some r => { status := r.1, chip := r.2 }
      | none => { status := (directWrite q.origin q.k v c).1, chip := (directWrite q.origin q.k v c).2 } := by
  simp only [actsAtOnce, Bool.and_eq_true, bne_iff_ne, Bool.not_eq_true'] at hk
  obtain ⟨⟨⟨⟨⟨⟨⟨hstage, htime⟩, hnodes⟩, hcommand⟩, hstore⟩, hexercise⟩, happly⟩, -⟩ := hk
  unfold carryWrite
  dsimp only
  rw [hcheck, hval]
  dsimp only
  rw [if_neg hstage, if_neg (by simp [htime, hnodes]), if_neg hcommand, if_neg hstore, if_neg hexercise,
    if_neg (by rw [happly]; decide)] <;> rfl

theorem carryWrite_of_command {q : Req} {b : List Byte} {v : Val} {c : Chip} {r : Status × Chip} (hk : actsAtOnce q.k)
    (hcheck : writeCheck c q.origin q.k false = .ok) (hval : valueCheck q.k b = (.ok, v))
    (hcommand : commandWrite q.origin q.k v c = some r) : carryWrite q b c = { status := r.1, chip := r.2 } := by
  rw [carryWrite_of_atOnce hk hcheck hval, hcommand]

theorem carryWrite_of_direct {q : Req} {b : List Byte} {v : Val} {c : Chip} (hk : actsAtOnce q.k)
    (hcheck : writeCheck c q.origin q.k false = .ok) (hval : valueCheck q.k b = (.ok, v))
    (hnone : commandWrite q.origin q.k v c = none) (hdirect : directCheck q.origin q.k v c = .ok) :
    carryWrite q b c = { status := .ok, chip := when (governs q.k) derive (applyWrites [(q.k, v)] c) } := by
  have hwrite : directWrite q.origin q.k v c = (.ok, when (governs q.k) derive (applyWrites [(q.k, v)] c)) := by
    unfold directWrite
    rw [hdirect]
  rw [carryWrite_of_atOnce hk hcheck hval, hnone]
  dsimp only
  rw [hwrite]

/-- The request of a write of a number. -/
def numWrite (o : Origin) (k : Key) (v : Int) (c : Chip) : Req := ownRequest o k (some (rendered k v)) c

/-- A write that reaches its target does what the object's command says (R257). -/
theorem writeNum_of_command {o : Origin} {k : Key} {v : Int} {c d : Chip} {st : Status} (hreach : reaches o k true c)
    (hadm : admissible k v) (hk : actsAtOnce k)
    (hcommand : commandWrite o k (.num v) (placed (numWrite o k v c) c) = some (st, d)) :
    writeNum o k v c = complete (numWrite o k v c) st [] d := by
  obtain ⟨-, -, -, -, -, ⟨hcheck, -⟩, -⟩ := (reaches_iff o k _ c).mp hreach
  have hreset : (k == kChipResetCmd) = false := by
    simp only [actsAtOnce, Bool.and_eq_true, bne_iff_ne] at hk
    exact beq_eq_false_iff_ne.mpr hk.2
  have hcarry : carryOut (numWrite o k v c) (placed (numWrite o k v c) c) = { status := st, chip := d } :=
    carryWrite_of_command (q := numWrite o k v c) (r := (st, d)) hk hcheck (valueCheck_rendered hadm) hcommand
  rw [writeNum_eq, writeBytes_of_reaches _ hreach]
  exact serve_of_carryOut hcarry hreset

/-- A write that reaches its target and passes its checks takes effect (R257, R261). -/
theorem writeNum_of_direct {o : Origin} {k : Key} {v : Int} {c : Chip} (hreach : reaches o k true c)
    (hadm : admissible k v) (hk : actsAtOnce k) (hnone : commandWrite o k (.num v) (placed (numWrite o k v c) c) = none)
    (hdirect : directCheck o k (.num v) (placed (numWrite o k v c) c) = .ok) :
    writeNum o k v c = complete (numWrite o k v c) .ok []
      (when (governs k) derive (applyWrites [(k, .num v)] (placed (numWrite o k v c) c))) := by
  obtain ⟨-, -, -, -, -, ⟨hcheck, -⟩, -⟩ := (reaches_iff o k _ c).mp hreach
  have hreset : (k == kChipResetCmd) = false := by
    simp only [actsAtOnce, Bool.and_eq_true, bne_iff_ne] at hk
    exact beq_eq_false_iff_ne.mpr hk.2
  have hcarry : carryOut (numWrite o k v c) (placed (numWrite o k v c) c) =
      { status := .ok, chip := when (governs k) derive (applyWrites [(k, .num v)] (placed (numWrite o k v c) c)) } :=
    carryWrite_of_direct (q := numWrite o k v c) hk hcheck (valueCheck_rendered hadm) hnone hdirect
  rw [writeNum_eq, writeBytes_of_reaches _ hreach]
  exact serve_of_carryOut hcarry hreset

/-! ### Checks read nothing of the market -/

theorem unitCoefs_placed (q : Req) (c : Chip) (w : Nat) : unitCoefs (placed q c) w = unitCoefs c w := by
  unfold unitCoefs
  split <;> rfl

theorem derivable_placed (q : Req) (c : Chip) : derivable (placed q c) = derivable c := by
  have hword (u : Unit4) : unitWord (placed q c) u = unitWord c u := rfl
  unfold derivable derived
  simp only [unitCoefs_placed, hword]

theorem budgetLoad_placed (q : Req) (c : Chip) (m : Fin 16) : budgetLoad (placed q c) m = budgetLoad c m := by
  have hload (w : Nat) : unitLoad (placed q c) w = unitLoad c w := rfl
  have hword (u : Unit4) : unitWord (placed q c) u = unitWord c u := rfl
  unfold budgetLoad
  simp only [hload, hword]

theorem checkLoads_placed (q : Req) (c : Chip) : checkLoads (placed q c) = checkLoads c := by
  have hnat (k : Key) : nat (placed q c) k = nat c k := rfl
  unfold checkLoads
  simp only [hnat, budgetLoad_placed]

theorem checkMill_placed (q : Req) (c : Chip) (m : Fin 16) : checkMill (placed q c) m = checkMill c m := by
  have hnat (k : Key) : nat (placed q c) k = nat c k := rfl
  have hflag (k : Key) : flag (placed q c) k = flag c k := rfl
  have hbytes (k : Key) : bytes (placed q c) k = bytes c k := rfl
  have hunit (w : Nat) : unitOk (placed q c) w = unitOk c w := rfl
  unfold checkMill
  simp only [hnat, hflag, hbytes, budgetLoad_placed]
  rfl

theorem crossChecks_placed (q : Req) (c d : Chip) (k : Key) : crossChecks (placed q c) (placed q d) k = crossChecks c d k := by
  unfold crossChecks
  simp only [derivable_placed, checkLoads_placed, checkMill_placed]
  rfl

theorem storeValue_placed (k : Key) (v : Val) (q : Req) (c : Chip) : storeValue k v (placed q c) = placed q (storeValue k v c) := by
  unfold storeValue
  split
  · rfl
  · split <;> rfl

theorem directCheck_placed (o : Origin) (k : Key) (v : Val) (q : Req) (c : Chip) :
    directCheck o k v (placed q c) = directCheck o k v c := by
  unfold directCheck
  rw [storeValue_placed, crossChecks_placed]
  rfl

/-- The write is the newest completion. -/
theorem writeDone_complete (o : Origin) (k : Key) (v : Int) (c d : Chip) :
    writeDone o k c (complete (numWrite o k v c) .ok [] d) :=
  complete_getLast (numWrite o k v c) [] d rfl

/-! ### A lone setting -/

/-- The object is no chemistry, resistance or tag, and no mill's code. -/
def plainSetting (k : Key) : Bool :=
  (firstFin 4 fun s => k == kStrResistance s).isNone && k != kAssetTag && (List.finRange 4).all (fun s => k != kStrChemistry s) &&
    (decide (k / 256 < 0x5000) || decide (0x6000 ≤ k / 256))

theorem storeValue_plain {k : Key} (h : plainSetting k) (v : Val) (c : Chip) : storeValue k v c = put k v c := by
  simp only [plainSetting, Bool.and_eq_true, Option.isNone_iff_eq_none, bne_iff_ne] at h
  obtain ⟨⟨⟨hresistance, htag⟩, -⟩, -⟩ := h
  unfold storeValue
  rw [hresistance]
  exact if_neg htag

/-- A lone setting takes effect on the list of objects with it. -/
theorem applyWrites_plain {k : Key} (h : plainSetting k) (v : Val) (c : Chip) : applyWrites [(k, v)] c =
    noteChanged [k] (when (governs k) (setHampers fun x => { x with derive := true }) (effect k (put k v c))) := by
  have hstore : storeAll [(k, v)] c = put k v c := storeValue_plain h v c
  simp only [plainSetting, Bool.and_eq_true, List.all_eq_true, bne_iff_ne, Bool.or_eq_true, decide_eq_true_eq] at h
  obtain ⟨⟨-, hchem⟩, hmill⟩ := h
  have hnoChem (d : Chip) : loadChemistries [k] d = d := by
    unfold loadChemistries
    rw [List.filter_eq_nil_iff.mpr fun s hs => by simpa using (hchem s hs).symm]
    rfl
  have hnoMill (d e : Chip) : (List.finRange 16).filter (millTouched d e [k]) = [] := by
    refine List.filter_eq_nil_iff.mpr fun m _ => ?_
    unfold millTouched
    have hrange (i : Nat) (hi : i < 0x5000 ∨ 0x6000 ≤ i) : i ≠ 0x5000 + 0x100 * m.val ∧ i ≠ 0x5001 + 0x100 * m.val := by omega
    have hcode := hrange _ hmill
    simp [hcode.1, hcode.2]
  unfold applyWrites
  dsimp only [List.map]
  rw [hstore, hnoChem, hnoMill]
  simp [each]

/-- What a derivation of coefficients follows leaves all but buses, mills and hampers. -/
theorem derived_part {pt : Part} (hbus : pt ≠ .bus) (hmills : pt ≠ .mills) (hhampers : pt ≠ .hampers) (htwin : pt ≠ .twin) {k : Key}
    (hk : plainSetting k) (v : Val) (c : Chip) :
    part pt (when (governs k) derive (applyWrites [(k, v)] c)) = part pt (effect k (put k v c)) := by
  rw [applyWrites_plain hk, when_part pt _ _ _ fun d => derive_part pt hbus hmills hhampers d, noteChanged_part pt htwin,
    when_part pt _ _ _ fun d => setHampers_part pt hhampers _ d]

/-- A value that is put reads back (R246). -/
theorem num_put {c : Chip} (hsorted : odSorted c.od) (k : Key) (v : Int) : num (put k (.num v) c) k = v := by
  obtain ⟨hback, -⟩ := settingReadsBack c k (.num v) hsorted
  unfold num
  rw [hback]

theorem cfg_put_ne {c : Chip} (hsorted : odSorted c.od) {k q : Key} (hne : q ≠ k) (v : Val) : cfg (put k v c) q = cfg c q := by
  obtain ⟨-, hothers⟩ := settingReadsBack c k v hsorted
  exact hothers q hne

theorem nat_put_ne {c : Chip} (hsorted : odSorted c.od) {k q : Key} (hne : q ≠ k) (v : Val) : nat (put k v c) q = nat c q := by
  unfold nat num
  rw [cfg_put_ne hsorted hne]

end Sys2Proof.Machine
end

section
/-! Settings and requests that are written (R75, R128, R137, R148, R160, R172, R205, R246). -/

namespace Sys2Proof.Machine

/-! ### Keys -/

theorem key_ne {i j k l : Nat} (h : i ≠ k ∨ j ≠ l) (hj : j < 256) (hl : l < 256) : key i j ≠ key k l := by
  unfold key
  show i * 256 + j ≠ k * 256 + l
  omega

/-- The object is commanded by a rule of its own, and no setting. -/
def ownCommand (k : Key) : Bool :=
  k == kBattHeartbeat || k == kFallowRequest || k == kShipModeArm || k == kShipModeConfirm || k == kSeqCommand || k == kFenceClear ||
    k == kFenceClearOrigin || k == kLaneTimeSet || k == kLaneGwRequest || k == kAlmExportCtl || k == kAlmExportReceipt ||
    k == kChipResetCmd || (decide (0x2700 ≤ k / 256) && decide (k / 256 < 0x2800) && decide (k % 256 = 6))

theorem commandWrite_of_family {o : Origin} {k : Key} {v : Val} {c : Chip} (h : ownCommand k = false) :
    commandWrite o k v c = match firstFin 16 fun m => k == kMillTraceCtl m with
      | some m => some (.ok, traceCtl m (match v with
        | .num n => n
        | .bytes _ => 0) c)
      | none => match firstFin 4 fun s => k == kStrRequalify s with
        | some s => some (.ok, when (drives c) (requalify s) c)
        | none => none := by
  simp only [ownCommand, Bool.or_eq_false_iff, beq_eq_false_iff_ne] at h
  obtain ⟨⟨⟨⟨⟨⟨⟨⟨⟨⟨⟨⟨h1, h2⟩, h3⟩, h4⟩, h5⟩, h6⟩, h7⟩, h8⟩, h9⟩, h10⟩, h11⟩, h12⟩, h13⟩ := h
  unfold commandWrite
  dsimp only
  rw [if_neg h1, if_neg h2, if_neg h3, if_neg h4, if_neg h5, if_neg h6, if_neg h7, if_neg h8, if_neg h9, if_neg h10, if_neg h11,
    if_neg h12, if_neg (by simpa using h13)] <;> rfl

/-- The object is a plain setting: it acts at once and is no command. -/
def directSetting (k : Key) : Bool :=
  actsAtOnce k && plainSetting k && !ownCommand k && (firstFin 16 fun m => k == kMillTraceCtl m).isNone &&
    (firstFin 4 fun s => k == kStrRequalify s).isNone

theorem commandWrite_of_directSetting {k : Key} (h : directSetting k) (o : Origin) (v : Val) (c : Chip) :
    commandWrite o k v c = none := by
  simp only [directSetting, Bool.and_eq_true, Bool.not_eq_true', Option.isNone_iff_eq_none] at h
  obtain ⟨⟨⟨⟨-, -⟩, hown⟩, htrace⟩, hstring⟩ := h
  rw [commandWrite_of_family hown, htrace, hstring]

/-- What a direct setting comes to (R246, R257). -/
theorem writeNum_of_setting {o : Origin} {k : Key} {v : Int} {c : Chip} (hreach : reaches o k true c) (hadm : admissible k v)
    (hk : directSetting k) (hcheck : directCheck o k (.num v) c = .ok) :
    writeNum o k v c = complete (numWrite o k v c) .ok []
      (when (governs k) derive (applyWrites [(k, .num v)] (placed (numWrite o k v c) c))) := by
  have hparts := hk
  simp only [directSetting, Bool.and_eq_true] at hparts
  obtain ⟨⟨⟨⟨honce, -⟩, -⟩, -⟩, -⟩ := hparts
  exact writeNum_of_direct hreach hadm honce (commandWrite_of_directSetting hk o _ _)
    ((directCheck_placed o k (.num v) (numWrite o k v c) c).trans hcheck)

/-- The setting with its effect, before what completes the request. -/
def settingPut (o : Origin) (k : Key) (v : Int) (c : Chip) : Chip := put k (.num v) (placed (numWrite o k v c) c)

theorem writeNum_part {pt : Part} (hbus : pt ≠ .bus) (hmills : pt ≠ .mills) (hhampers : pt ≠ .hampers) (htwin : pt ≠ .twin)
    (hhamlets : pt ≠ .hamlets) (hmarket : pt ≠ .market) (hcan : pt ≠ .can) (htw : pt ≠ .tw) (hsvc : pt ≠ .svc) (hlane : pt ≠ .lane)
    {o : Origin} {k : Key} {v : Int} {c : Chip} (hreach : reaches o k true c) (hadm : admissible k v)
    (hk : directSetting k) (hcheck : directCheck o k (.num v) c = .ok) :
    part pt (writeNum o k v c) = part pt (effect k (settingPut o k v c)) := by
  have hplain := hk
  simp only [directSetting, Bool.and_eq_true] at hplain
  obtain ⟨⟨⟨⟨-, hplain⟩, -⟩, -⟩, -⟩ := hplain
  rw [writeNum_of_setting hreach hadm hk hcheck, complete_part pt hhamlets hmarket hcan htw hsvc hlane]
  exact derived_part hbus hmills hhampers htwin hplain _ _

/-- The value of a direct setting that no later part of the write changes reads back. -/
theorem num_writeNum {o : Origin} {k : Key} {v : Int} {c : Chip} (hreach : reaches o k true c) (hadm : admissible k v)
    (hk : directSetting k) (hcheck : directCheck o k (.num v) c = .ok) (hsorted : odSorted c.od) (hne : k ≠ kCobIdEmcy) :
    num (writeNum o k v c) k = v := by
  have hkept {pt : Part} (hclock : pt ≠ .clock) (hhamlets : pt ≠ .hamlets) (hgreen : pt ≠ .green) (hchans : pt ≠ .chans)
      (hrms : pt ≠ .rms) (hbus : pt ≠ .bus) (hphases : pt ≠ .phases) (hrails : pt ≠ .rails) (hvcs : pt ≠ .vcs) (hstrs : pt ≠ .strs)
      (hbatt : pt ≠ .batt) (hpps : pt ≠ .pps) (hwms : pt ≠ .wms) (hseq : pt ≠ .seq) (hmills : pt ≠ .mills) (hmarket : pt ≠ .market)
      (hhampers : pt ≠ .hampers) (hcan : pt ≠ .can) (htw : pt ≠ .tw) (hsvc : pt ≠ .svc) (hlane : pt ≠ .lane) (hwatch : pt ≠ .watch)
      (halm : pt ≠ .alm) (htwin : pt ≠ .twin) : part pt (writeNum o k v c) = part pt (settingPut o k v c) :=
    (writeNum_part hbus hmills hhampers htwin hhamlets hmarket hcan htw hsvc hlane hreach hadm hk hcheck).trans
      (effect_part pt hclock hhamlets hgreen hchans hrms hbus hphases hrails hvcs hstrs hbatt hpps hwms hseq hmills hmarket hhampers
        hcan htw hsvc hlane hwatch halm k _)
  have hod : part .od (writeNum o k v c) = part .od (settingPut o k v c) := hkept (by decide) (by decide) (by decide) (by decide)
    (by decide) (by decide) (by decide) (by decide) (by decide) (by decide) (by decide) (by decide) (by decide) (by decide)
    (by decide) (by decide) (by decide) (by decide) (by decide) (by decide) (by decide) (by decide) (by decide) (by decide)
  have hfuses : part .fuses (writeNum o k v c) = part .fuses (settingPut o k v c) := hkept (by decide) (by decide) (by decide)
    (by decide) (by decide) (by decide) (by decide) (by decide) (by decide) (by decide) (by decide) (by decide) (by decide)
    (by decide) (by decide) (by decide) (by decide) (by decide) (by decide) (by decide) (by decide) (by decide) (by decide) (by decide)
  refine Eq.trans ?_ (num_put (c := placed (numWrite o k v c) c) hsorted k v)
  unfold num cfg defaultOf
  rw [show (writeNum o k v c).od = _ from hod, show (writeNum o k v c).fuses = _ from hfuses, if_neg hne, if_neg hne]
  rfl

theorem writeDone_writeNum {o : Origin} {k : Key} {v : Int} {c : Chip} (hreach : reaches o k true c) (hadm : admissible k v)
    (hk : directSetting k) (hcheck : directCheck o k (.num v) c = .ok) : writeDone o k c (writeNum o k v c) := by
  rw [writeNum_of_setting hreach hadm hk hcheck]
  exact writeDone_complete o k v c _

end Sys2Proof.Machine
end

section
/-! Enables, targets and commands that are written (R75, R128, R137, R148, R160, R172, R205, R246). -/

namespace Sys2Proof.Machine

/-! ### Enables and targets -/

theorem railEnable_setting (r : Fin 16) : directSetting (kRailEnable r) ∧ admissible (kRailEnable r) 1 ∧
    admissible (kRailEnable r) 0 ∧ kRailEnable r ≠ kCobIdEmcy := by
  have hall : ∀ r : Fin 16, directSetting (kRailEnable r) = true ∧ admissible (kRailEnable r) 1 = true ∧
      admissible (kRailEnable r) 0 = true ∧ kRailEnable r ≠ kCobIdEmcy := by decide +kernel
  exact hall r

theorem railTarget_setting (r : Fin 16) : directSetting (kRailTarget r) ∧ kRailTarget r ≠ kCobIdEmcy := by
  have hall : ∀ r : Fin 16, directSetting (kRailTarget r) = true ∧ kRailTarget r ≠ kCobIdEmcy := by decide +kernel
  exact hall r

theorem ppEnable_setting (n : Fin 8) : directSetting (kPpEnable n) ∧ admissible (kPpEnable n) 1 ∧ kPpEnable n ≠ kCobIdEmcy := by
  have hall : ∀ n : Fin 8, directSetting (kPpEnable n) = true ∧ admissible (kPpEnable n) 1 = true ∧ kPpEnable n ≠ kCobIdEmcy := by
    decide +kernel
  exact hall n

/-- The object is of a rail's table. -/
def railObject (k : Key) : Bool :=
  !(decide (0x2D00 ≤ k / 256) && decide (k / 256 < 0x2D80)) && k / 256 != 0x2C42 &&
    (decide (0x3000 ≤ k / 256) && decide (k / 256 < 0x4000))

theorem effect_of_railObject {k : Key} (h : railObject k) (c : Chip) :
    effect k c = railEffect (Fin.ofNat 16 ((k / 256 - 0x3000) / 256)) (k / 256) (k % 256) c := by
  simp only [railObject, Bool.and_eq_true, Bool.not_eq_true', bne_iff_ne] at h
  obtain ⟨⟨hport, hlevel⟩, hrail⟩ := h
  unfold effect
  dsimp only
  rw [if_neg (ne_true_of_eq_false hport), if_neg hlevel, if_pos (Bool.and_eq_true_iff.mpr hrail)]

theorem railEnable_place (r : Fin 16) : railObject (kRailEnable r) ∧ Fin.ofNat 16 ((kRailEnable r / 256 - 0x3000) / 256) = r ∧
    kRailEnable r / 256 % 256 = 0 ∧ kRailEnable r % 256 = 3 := by
  have hall : ∀ r : Fin 16, railObject (kRailEnable r) = true ∧ Fin.ofNat 16 ((kRailEnable r / 256 - 0x3000) / 256) = r ∧
    kRailEnable r / 256 % 256 = 0 ∧ kRailEnable r % 256 = 3 := by decide +kernel
  exact hall r

theorem railTarget_place (r : Fin 16) : railObject (kRailTarget r) ∧ Fin.ofNat 16 ((kRailTarget r / 256 - 0x3000) / 256) = r ∧
    kRailTarget r / 256 % 256 = 0 ∧ kRailTarget r % 256 = 4 := by
  have hall : ∀ r : Fin 16, railObject (kRailTarget r) = true ∧ Fin.ofNat 16 ((kRailTarget r / 256 - 0x3000) / 256) = r ∧
    kRailTarget r / 256 % 256 = 0 ∧ kRailTarget r % 256 = 4 := by decide +kernel
  exact hall r

theorem effect_railEnable (r : Fin 16) (c : Chip) : effect (kRailEnable r) c =
    if flag c (kRailEnable r) then railStart r c else railStop r c := by
  obtain ⟨hrail, hself, htable, hsub⟩ := railEnable_place r
  rw [effect_of_railObject hrail, hself, hsub]
  unfold railEffect
  rw [if_pos htable, if_pos rfl]

theorem effect_railTarget (r : Fin 16) (c : Chip) : effect (kRailTarget r) c = railTargetActs r c := by
  obtain ⟨hrail, hself, htable, hsub⟩ := railTarget_place r
  rw [effect_of_railObject hrail, hself, hsub]
  unfold railEffect
  rw [if_pos htable, if_neg (by decide), if_pos rfl]

/-- The object is the enable of a power-path port. -/
def portEnable (k : Key) : Bool :=
  !(decide (0x2D00 ≤ k / 256) && decide (k / 256 < 0x2D80)) && k / 256 != 0x2C42 &&
    !(decide (0x3000 ≤ k / 256) && decide (k / 256 < 0x4000)) && !(decide (0x4000 ≤ k / 256) && decide (k / 256 < 0x4400)) &&
    (decide (0x2D80 ≤ k / 256) && decide (k / 256 < 0x2E00) && decide (k / 256 % 16 = 0) && decide (k % 256 = 2))

theorem effect_of_portEnable {k : Key} (h : portEnable k) (c : Chip) : effect k c =
    if flag c (kPpEnable (Fin.ofNat 8 ((k / 256 - 0x2D80) / 16))) then ppStart (Fin.ofNat 8 ((k / 256 - 0x2D80) / 16)) c
    else ppStop (Fin.ofNat 8 ((k / 256 - 0x2D80) / 16)) c := by
  unfold portEnable at h
  rw [Bool.and_eq_true, Bool.and_eq_true, Bool.and_eq_true, Bool.and_eq_true] at h
  obtain ⟨⟨⟨⟨hport, hlevel⟩, hrail⟩, hstring⟩, hpower⟩ := h
  rw [Bool.not_eq_true'] at hport hrail hstring
  unfold effect
  dsimp only
  rw [if_neg (ne_true_of_eq_false hport), if_neg (bne_iff_ne.mp hlevel), if_neg (ne_true_of_eq_false hrail),
    if_neg (ne_true_of_eq_false hstring), if_pos hpower]

theorem ppEnable_place (n : Fin 8) : portEnable (kPpEnable n) ∧ Fin.ofNat 8 ((kPpEnable n / 256 - 0x2D80) / 16) = n := by
  have hall : ∀ n : Fin 8, portEnable (kPpEnable n) = true ∧ Fin.ofNat 8 ((kPpEnable n / 256 - 0x2D80) / 16) = n := by
    decide +kernel
  exact hall n

theorem effect_ppEnable (n : Fin 8) (c : Chip) :
    effect (kPpEnable n) c = if flag c (kPpEnable n) then ppStart n c else ppStop n c := by
  obtain ⟨hport, hself⟩ := ppEnable_place n
  rw [effect_of_portEnable hport, hself]

section
variable {o : Origin} {c : Chip}

theorem flag_settingPut {k : Key} {v : Int} (hsorted : odSorted c.od) : flag (settingPut o k v c) k = (v != 0) := by
  unfold flag
  exact congrArg (· != 0) (num_put (c := placed (numWrite o k v c) c) hsorted k v)

theorem nat_settingPut {k q : Key} (v : Int) (hsorted : odSorted c.od) (hne : q ≠ k) :
    nat (settingPut o k v c) q = nat c q := nat_put_ne (c := placed (numWrite o k v c) c) hsorted hne (.num v)

/-- A hold of a rail's start reads no enable. -/
theorem railStartHeld_settingPut (r : Fin 16) {v : Int} (hsorted : odSorted c.od) :
    railStartHeld (settingPut o (kRailEnable r) v c) r = railStartHeld c r := by
  have hnat {q : Key} (hne : q ≠ kRailEnable r) := nat_settingPut (o := o) v hsorted hne
  have hword (u : Unit4) : unitWord (settingPut o (kRailEnable r) v c) u = unitWord c u := by
    have hsource : nat (settingPut o (kRailEnable r) v c) (kMillSource u.mill) = nat c (kMillSource u.mill) :=
      hnat (key_ne (.inl (by omega)) (by omega) (by omega))
    have hunit : nat (settingPut o (kRailEnable r) v c) (kMillUnit0 u.mill u.slot) = nat c (kMillUnit0 u.mill u.slot) :=
      hnat (key_ne (.inl (by omega)) (by omega) (by omega))
    unfold unitWord
    rw [hsource, hunit]
  have htype : railType (settingPut o (kRailEnable r) v c) r = railType c r := hnat (key_ne (.inr (by decide)) (by decide) (by decide))
  have hmill : loopMill (settingPut o (kRailEnable r) v c) r = loopMill c r := by
    have hsource (m : Fin 16) : nat (settingPut o (kRailEnable r) v c) (kMillSource m) = nat c (kMillSource m) :=
      hnat (key_ne (.inl (by omega)) (by omega) (by omega))
    have howns (m : Fin 16) : nat (settingPut o (kRailEnable r) v c) (kMillOwnRails m) = nat c (kMillOwnRails m) :=
      hnat (key_ne (.inl (by omega)) (by omega) (by omega))
    unfold loopMill hostOf
    simp only [htype, hword, hsource, howns]
  unfold railStartHeld
  rw [hmill]
  rfl

/-- An OFF rail whose start condition holds goes to ON-DELAY (R75). -/
theorem railStart_enters {r : Fin 16} {d : Chip} (hoff : d.rails[r].state = .off) (hcond : startCond d r) (htype : railType d r ≠ 0)
    (hlife : lifeCycle d ≠ .blank) (hheld : railStartHeld d r = false) (hvoltage : passes d (32 + r))
    (hinput : passes d (nat d (kRailInputChannel r))) : (railStart r d).rails[r].state = .onDelay := by
  unfold railStart
  rw [if_neg (by rw [hcond]; decide), hoff]
  dsimp only
  rw [if_neg (by simp [htype, hlife, hheld]), leaveOff_rails, enterOnDelay_of_passes hvoltage hinput]
  unfold delayEntered
  rw [setRail_self]
  unfold railGo
  dsimp only
  rw [setRail_self]

theorem railEnableWrite_enters {r : Fin 16} (hreach : reaches o (kRailEnable r) true c)
    (hcheck : directCheck o (kRailEnable r) (.num 1) c = .ok) (hoff : c.rails[r].state = .off) (hreached : c.seq.railReached[r] = true)
    (htype : railType c r ≠ 0) (hlife : lifeCycle c ≠ .blank) (hheld : railStartHeld c r = false) (hvoltage : passes c (32 + r))
    (hinput : passes c (nat c (kRailInputChannel r))) (hsorted : odSorted c.od) :
    (writeNum o (kRailEnable r) 1 c).rails[r].state = .onDelay := by
  obtain ⟨hk, hadm, -, -⟩ := railEnable_setting r
  have hrails : (writeNum o (kRailEnable r) 1 c).rails = (effect (kRailEnable r) (settingPut o (kRailEnable r) 1 c)).rails :=
    writeNum_part (pt := .rails) (by decide) (by decide) (by decide) (by decide) (by decide) (by decide) (by decide) (by decide)
      (by decide) (by decide) hreach hadm hk hcheck
  have hflag : flag (settingPut o (kRailEnable r) 1 c) (kRailEnable r) = true := flag_settingPut hsorted
  have hpasses (ch : Nat) : passes (settingPut o (kRailEnable r) 1 c) ch = passes c ch := passes_congr rfl ch
  rw [hrails, effect_railEnable, if_pos hflag]
  refine railStart_enters hoff ?_ ?_ hlife ((railStartHeld_settingPut r hsorted).trans hheld) ((hpasses _).trans hvoltage) ?_
  · unfold startCond startRule
    rw [hflag, show (settingPut o (kRailEnable r) 1 c).seq = c.seq from rfl, hreached]
    rfl
  · have hkept : railType (settingPut o (kRailEnable r) 1 c) r = railType c r :=
      nat_settingPut 1 hsorted (key_ne (.inr (by decide)) (by decide) (by decide))
    rw [hkept]
    exact htype
  · have hkept : nat (settingPut o (kRailEnable r) 1 c) (kRailInputChannel r) = nat c (kRailInputChannel r) :=
      nat_settingPut 1 hsorted (key_ne (.inr (by decide)) (by decide) (by decide))
    rw [hpasses, hkept]
    exact hinput

theorem railEnableWrite_leaves {r : Fin 16} (hreach : reaches o (kRailEnable r) true c)
    (hcheck : directCheck o (kRailEnable r) (.num 0) c = .ok) (hon : c.rails[r].state = .regulate) (hsorted : odSorted c.od) :
    (writeNum o (kRailEnable r) 0 c).rails[r].state = .offDelay := by
  obtain ⟨hk, -, hadm, -⟩ := railEnable_setting r
  have hrails : (writeNum o (kRailEnable r) 0 c).rails = (effect (kRailEnable r) (settingPut o (kRailEnable r) 0 c)).rails :=
    writeNum_part (pt := .rails) (by decide) (by decide) (by decide) (by decide) (by decide) (by decide) (by decide) (by decide)
      (by decide) (by decide) hreach hadm hk hcheck
  have hflag : flag (settingPut o (kRailEnable r) 0 c) (kRailEnable r) = false := flag_settingPut hsorted
  have hstop : railStop r (settingPut o (kRailEnable r) 0 c) = railGo r .offDelay (settingPut o (kRailEnable r) 0 c) := by
    unfold railStop
    rw [show (settingPut o (kRailEnable r) 0 c).rails = c.rails from rfl, hon]
  rw [hrails, effect_railEnable, if_neg (by rw [hflag]; decide), hstop]
  unfold railGo
  dsimp only
  rw [setRail_self]

/-- A target that moves the command of a BUCK rail in REGULATE (R77). -/
theorem railTargetActs_moves {r : Fin 16} {d : Chip} (htype : railType d r = 1) (hon : d.rails[r].state = .regulate)
    (hfree : d.rails[r].vcHolds = false) : (railTargetActs r d).rails[r].target = num d (kRailTarget r) ∧
      (railTargetActs r d).rails[r].command = num d (kRailTarget r) ∧ (railTargetActs r d).rails[r].state = .regulate := by
  have hpublish (e : Chip) : (publishCommand r e).rails = e.rails := publishCommand_part .rails (by decide) r e
  have htype' (f : Rail → Rail) : railType (setRail r f d) r = 1 := htype
  unfold railTargetActs
  dsimp only
  rw [if_neg (by rw [hfree]; decide), htype', hon, if_pos (by rfl), hpublish]
  unfold moveAtRamp
  rw [setRail_self, setRail_self, setRail_self]
  exact ⟨rfl, rfl, hon⟩

theorem railTargetWrite_moves {r : Fin 16} {v : Int} (hreach : reaches o (kRailTarget r) true c) (hadm : admissible (kRailTarget r) v)
    (hcheck : directCheck o (kRailTarget r) (.num v) c = .ok) (htype : railType c r = 1) (hon : c.rails[r].state = .regulate)
    (hfree : c.rails[r].vcHolds = false) (hsorted : odSorted c.od) :
    (writeNum o (kRailTarget r) v c).rails[r].target = v ∧ (writeNum o (kRailTarget r) v c).rails[r].command = v ∧
      (writeNum o (kRailTarget r) v c).rails[r].state = .regulate := by
  obtain ⟨hk, -⟩ := railTarget_setting r
  have hrails : (writeNum o (kRailTarget r) v c).rails = (effect (kRailTarget r) (settingPut o (kRailTarget r) v c)).rails :=
    writeNum_part (pt := .rails) (by decide) (by decide) (by decide) (by decide) (by decide) (by decide) (by decide) (by decide)
      (by decide) (by decide) hreach hadm hk hcheck
  have hnum : num (settingPut o (kRailTarget r) v c) (kRailTarget r) = v :=
    num_put (c := placed (numWrite o (kRailTarget r) v c) c) hsorted _ v
  have hbuck : railType (settingPut o (kRailTarget r) v c) r = 1 :=
    (nat_settingPut v hsorted (key_ne (.inr (by decide)) (by decide) (by decide))).trans htype
  have hmoves := railTargetActs_moves (d := settingPut o (kRailTarget r) v c) hbuck hon hfree
  rw [hrails, effect_railTarget]
  rwa [hnum] at hmoves

theorem ppEnableWrite_waits {n : Fin 8} (hreach : reaches o (kPpEnable n) true c)
    (hcheck : directCheck o (kPpEnable n) (.num 1) c = .ok) (hoff : c.pps[n].state = .off) (hreached : c.seq.ppReached[n] = true)
    (hrole : ppRole c n ≠ 0) (hlife : lifeCycle c ≠ .blank) (hheld : ppHeld c n = false) (hsorted : odSorted c.od) :
    (writeNum o (kPpEnable n) 1 c).pps[n].state = .waitInput ∧
      (writeNum o (kPpEnable n) 1 c).pps[n].retriesLeft = nat c (kPpRetryCount n) := by
  obtain ⟨hk, hadm, -⟩ := ppEnable_setting n
  have hpps : (writeNum o (kPpEnable n) 1 c).pps = (effect (kPpEnable n) (settingPut o (kPpEnable n) 1 c)).pps :=
    writeNum_part (pt := .pps) (by decide) (by decide) (by decide) (by decide) (by decide) (by decide) (by decide) (by decide)
      (by decide) (by decide) hreach hadm hk hcheck
  have hflag : flag (settingPut o (kPpEnable n) 1 c) (kPpEnable n) = true := flag_settingPut hsorted
  have hcond : ppStartCond (settingPut o (kPpEnable n) 1 c) n = true := by
    unfold ppStartCond startRule
    rw [hflag, show (settingPut o (kPpEnable n) 1 c).seq = c.seq from rfl, hreached]
    rfl
  have hrole : (ppRole (settingPut o (kPpEnable n) 1 c) n == 0) = false := by
    have hkept : ppRole (settingPut o (kPpEnable n) 1 c) n = ppRole c n :=
      nat_settingPut 1 hsorted (key_ne (.inr (by decide)) (by decide) (by decide))
    rw [hkept]
    exact beq_eq_false_iff_ne.mpr hrole
  have hlife : (lifeCycle (settingPut o (kPpEnable n) 1 c) == .blank) = false := beq_eq_false_iff_ne.mpr hlife
  have hheld : ppHeld (settingPut o (kPpEnable n) 1 c) n = false := hheld
  have hoff : ((settingPut o (kPpEnable n) 1 c).pps[n].state != .off) = false := by
    rw [show (settingPut o (kPpEnable n) 1 c).pps = c.pps from rfl, hoff]
    rfl
  rw [hpps, effect_ppEnable, if_pos hflag]
  unfold ppStart ppWait
  rw [if_neg (by rw [hoff, hcond, hrole, hheld, hlife]; decide), setPp_self, setPp_self]
  exact ⟨rfl, nat_settingPut 1 hsorted (key_ne (.inr (by decide)) (by decide) (by decide))⟩

end

end Sys2Proof.Machine
end

section
/-! Commands that are written, and the obligation of settings and requests (R128, R137, R148, R160, R205, R235). -/

namespace Sys2Proof.Machine

section
variable {o : Origin} {c : Chip}

theorem guarded_next {ok : Bool} (h : ok) (s : State) (d : Chip) : guarded ok s d = .next { s with chip := d } := by
  rw [h]
  rfl

/-- A command that completes with OK leaves all parts but those of the market and the ports as its effect did. -/
theorem writeNum_of_ok {k : Key} {v : Int} {d : Chip} (hreach : reaches o k true c) (hadm : admissible k v) (hk : actsAtOnce k)
    (hcommand : commandWrite o k (.num v) (placed (numWrite o k v c) c) = some (.ok, d)) :
    writeDone o k c (writeNum o k v c) ∧ ∀ {pt}, pt ≠ .hamlets → pt ≠ .market → pt ≠ .can → pt ≠ .tw → pt ≠ .svc → pt ≠ .lane →
      part pt (writeNum o k v c) = part pt d := by
  rw [writeNum_of_command hreach hadm hk hcommand]
  exact ⟨writeDone_complete o k v c d, fun h1 h2 h3 h4 h5 h6 => complete_part _ h1 h2 h3 h4 h5 h6 _ _ _ _⟩

theorem writeNum_batt {k : Key} {v : Int} {d : Chip} (hreach : reaches o k true c) (hadm : admissible k v) (hk : actsAtOnce k)
    (hcommand : commandWrite o k (.num v) (placed (numWrite o k v c) c) = some (.ok, d)) :
    (writeNum o k v c).batt = d.batt ∧ writeDone o k c (writeNum o k v c) := by
  obtain ⟨hdone, hpart⟩ := writeNum_of_ok hreach hadm hk hcommand
  exact ⟨hpart (pt := .batt) (by decide) (by decide) (by decide) (by decide) (by decide) (by decide), hdone⟩

theorem strRequalify_key (n : Fin 4) : actsAtOnce (kStrRequalify n) ∧ ownCommand (kStrRequalify n) = false ∧
    admissible (kStrRequalify n) 1 ∧ (firstFin 16 fun m => kStrRequalify n == kMillTraceCtl m) = none ∧
    (firstFin 4 fun s => kStrRequalify n == kStrRequalify s) = some n := by
  have hall : ∀ n : Fin 4, actsAtOnce (kStrRequalify n) = true ∧ ownCommand (kStrRequalify n) = false ∧
    admissible (kStrRequalify n) 1 = true ∧ (firstFin 16 fun m => kStrRequalify n == kMillTraceCtl m) = none ∧
    (firstFin 4 fun s => kStrRequalify n == kStrRequalify s) = some n := by decide +kernel
  exact hall n

theorem traceCtl_key (m : Fin 16) : actsAtOnce (kMillTraceCtl m) ∧ ownCommand (kMillTraceCtl m) = false ∧
    (firstFin 16 fun i => kMillTraceCtl m == kMillTraceCtl i) = some m := by
  have hall : ∀ m : Fin 16, actsAtOnce (kMillTraceCtl m) = true ∧ ownCommand (kMillTraceCtl m) = false ∧
    (firstFin 16 fun i => kMillTraceCtl m == kMillTraceCtl i) = some m := by decide +kernel
  exact hall m

theorem traceCtl_admissible (m : Fin 16) : admissible (kMillTraceCtl m) 0 ∧ admissible (kMillTraceCtl m) 1 ∧
    admissible (kMillTraceCtl m) 2 := by
  have hall : ∀ m : Fin 16, admissible (kMillTraceCtl m) 0 = true ∧ admissible (kMillTraceCtl m) 1 = true ∧
    admissible (kMillTraceCtl m) 2 = true := by decide +kernel
  exact hall m

/-- A write of `MillTraceCtl` commands its mill's trace (R235). -/
theorem traceCtl_mills {m : Fin 16} {v : Int} (hreach : reaches o (kMillTraceCtl m) true c) (hadm : admissible (kMillTraceCtl m) v) :
    (writeNum o (kMillTraceCtl m) v c).mills = (traceCtl m v c).mills ∧
      writeDone o (kMillTraceCtl m) c (writeNum o (kMillTraceCtl m) v c) := by
  obtain ⟨honce, hown, hself⟩ := traceCtl_key m
  have hcommand (d : Chip) : commandWrite o (kMillTraceCtl m) (.num v) d = some (.ok, traceCtl m v d) := by
    rw [commandWrite_of_family hown, hself]
  obtain ⟨hdone, hpart⟩ := writeNum_of_ok hreach hadm honce (hcommand _)
  exact ⟨hpart (pt := .mills) (by decide) (by decide) (by decide) (by decide) (by decide) (by decide), hdone⟩

theorem seqCond_placed (q : Req) (d : Chip) (a b : Nat) : seqCond (placed q d) a b = seqCond d a b := by
  unfold seqCond
  rfl

/-- A power-up table that starts at its first entry (R205, R206). -/
theorem seqOn_starts {d : Chip} (hoff : d.seq.state = .off) (hfree : d.seq.offAt = none) (hlen : 0 < nat d kSeqUpLength) :
    (seqOn d).seq = { d.seq with
      state := .powerUp, entry := some 0, entryAt := d.clock.us,
      condAt := if seqCond d (field (nat d (kSeqUpWordA 0)) 20 4) (field (nat d (kSeqUpWordA 0)) 0 8) then some d.clock.us else none,
      upComplete := false, pendingOn := false } := by
  have hpassed : minOffPassed d = true := by
    unfold minOffPassed
    rw [hfree]
  have henter : seqOn d = entryStart 0 (setSeq (fun q => { q with state := .powerUp, upComplete := false, pendingOn := false }) d) := by
    unfold seqOn
    rw [hoff]
    dsimp only
    rw [if_pos hpassed]
    exact seqEnter_of_up rfl hlen
  have hcond (f : Seq → Seq) (hf : (f d.seq).good = d.seq.good) (a b : Nat) : seqCond (setSeq f d) a b = seqCond d a b := by
    unfold seqCond
    rw [setSeq_seq, hf]
    rfl
  rw [henter]
  unfold entryStart entryCond
  dsimp only
  rw [hcond _ rfl]
  rfl

end

/-- Settles O25: a setting takes effect on the list of objects with it, and a command's effect is that of its rule. -/
theorem settingAndRequestWrites : Obligations.SettingAndRequestWrites := by
  unfold Obligations.SettingAndRequestWrites
  refine ⟨?railOn, ?railOff, ?target, ?port, ?requalify, ?beat, ?fallow, ?arm, ?disarm, ?confirm, ?seqOn, ?seqOff, ?traceArm, ?traceForce,
    ?traceIdle⟩
  case railOn =>
    intro s o r hreach hcheck hoff hreached htype hlife hheld hvoltage hinput hsorted
    obtain ⟨hk, hadm, -, hne⟩ := railEnable_setting r
    refine ⟨writeNum o (kRailEnable r) 1 s.chip, rfl,
      railEnableWrite_enters hreach hcheck hoff hreached htype hlife hheld hvoltage hinput hsorted, ?_,
      writeDone_writeNum hreach hadm hk hcheck⟩
    unfold flag
    rw [num_writeNum hreach hadm hk hcheck hsorted hne]
    rfl
  case railOff =>
    intro s o r hreach hcheck hon hsorted
    obtain ⟨hk, -, hadm, hne⟩ := railEnable_setting r
    refine ⟨writeNum o (kRailEnable r) 0 s.chip, rfl, railEnableWrite_leaves hreach hcheck hon hsorted, ?_,
      writeDone_writeNum hreach hadm hk hcheck⟩
    unfold flag
    rw [num_writeNum hreach hadm hk hcheck hsorted hne]
    rfl
  case target =>
    intro s o r v hreach hrange hadm hcheck htype hon hfree hsorted
    obtain ⟨hk, hne⟩ := railTarget_setting r
    obtain ⟨htarget, hcommand, hstate⟩ := railTargetWrite_moves hreach hadm hcheck htype hon hfree hsorted
    exact ⟨writeNum o (kRailTarget r) v s.chip, guarded_next hrange s _, num_writeNum hreach hadm hk hcheck hsorted hne, htarget, hcommand, hstate,
      writeDone_writeNum hreach hadm hk hcheck⟩
  case port =>
    intro s o n hreach hcheck hoff hreached hrole hlife hheld hsorted
    obtain ⟨hk, hadm, hne⟩ := ppEnable_setting n
    obtain ⟨hstate, hretries⟩ := ppEnableWrite_waits hreach hcheck hoff hreached hrole hlife hheld hsorted
    refine ⟨writeNum o (kPpEnable n) 1 s.chip, rfl, hstate, hretries, ?_, writeDone_writeNum hreach hadm hk hcheck⟩
    unfold flag
    rw [num_writeNum hreach hadm hk hcheck hsorted hne]
    rfl
  case requalify =>
    intro s o n hreach hdrives hfault
    obtain ⟨honce, hown, hadm, hnot, hself⟩ := strRequalify_key n
    have hcommand (d : Chip) : commandWrite o (kStrRequalify n) (.num 1) d = some (.ok, when (drives d) (requalify n) d) := by
      rw [commandWrite_of_family hown, hnot, hself]
    obtain ⟨hdone, hpart⟩ := writeNum_of_ok hreach hadm honce (hcommand _)
    have hrequalify (d : Chip) (hd : drives d) (hstate : d.strs[n].state = .fault) :
        when (drives d) (requalify n) d = toQualifying n d := by
      rw [hd]
      show requalify n d = _
      unfold requalify
      rw [hstate]
      rfl
    have hstrs : (writeNum o (kStrRequalify n) 1 s.chip).strs =
        (toQualifying n (placed (numWrite o (kStrRequalify n) 1 s.chip) s.chip)).strs := by
      rw [← hrequalify (placed (numWrite o (kStrRequalify n) 1 s.chip) s.chip) hdrives hfault]
      exact hpart (pt := .strs) (by decide) (by decide) (by decide) (by decide) (by decide) (by decide)
    refine ⟨writeNum o (kStrRequalify n) 1 s.chip, rfl, ?_, hdone⟩
    rw [hstrs, toQualifying_eq]
    rfl
  case beat =>
    intro s o v hreach hrange hadm
    obtain ⟨hbatt, hdone⟩ := writeNum_batt (d := battBeat _) hreach hadm (by decide +kernel) rfl
    exact ⟨writeNum o kBattHeartbeat v s.chip, guarded_next hrange s _, hbatt, hdone⟩
  case fallow =>
    intro s o n hreach hmay
    have hall : ∀ n : Fin 4, admissible kFallowRequest (n.val : Int) = true ∧ Fin.ofNat 4 (n.val : Int).toNat = n ∧
      inRange (n.val : Int) 0 255 = true := by decide +kernel
    obtain ⟨hadm, hself, hrange⟩ := hall n
    have hasked : fallowAsked s.chip n = true := by
      unfold fallowMayStart at hmay
      simp only [Bool.and_eq_true] at hmay
      obtain ⟨⟨⟨hholds, hstage⟩, -⟩, -⟩ := hmay
      unfold fallowAsked
      rw [hholds, hstage, Bool.or_true]
      rfl
    have hcommand (d : Chip) (hd : fallowAsked d n = true) : commandWrite o kFallowRequest (.num (n.val : Int)) d =
        some (.ok, setBatt (fun b => { b with fallowChosen := some n }) d) := by
      change some (fallowChoose (n.val : Int) d) = _
      unfold fallowChoose
      rw [hself]
      exact congrArg some (if_pos hd)
    obtain ⟨hbatt, hdone⟩ := writeNum_batt hreach hadm (by decide +kernel) (hcommand _ hasked)
    exact ⟨writeNum o kFallowRequest (n.val : Int) s.chip, guarded_next hrange s _, hbatt, hdone⟩
  case arm =>
    intro s o hreach
    obtain ⟨hbatt, hdone⟩ := writeNum_batt (k := kShipModeArm) (v := 0x0A5A) (d := setBatt (fun b => { b with shipArm := some (o, nowMs s.chip) })
      (placed (numWrite o kShipModeArm 0x0A5A s.chip) s.chip)) hreach (by decide +kernel) (by decide +kernel) rfl
    exact ⟨writeNum o kShipModeArm 0x0A5A s.chip, rfl, hbatt, hdone⟩
  case disarm =>
    intro s o hreach
    obtain ⟨hdone, hpart⟩ := writeNum_of_ok (k := kShipModeArm) (v := 0) (d := shipCancel (placed (numWrite o kShipModeArm 0 s.chip) s.chip)) hreach
      (by decide +kernel) (by decide +kernel) rfl
    refine ⟨writeNum o kShipModeArm 0 s.chip, rfl, ?_, fun n hship => ?_, hdone⟩
    · refine (hpart (pt := .batt) (by decide) (by decide) (by decide) (by decide) (by decide) (by decide)).trans ?_
      exact each_batt (f := fun n d => toQualifying n (setStr n (fun x => { x with shipLatch := x.shipLatch || x.pattern == .set }) d))
        (fun n d => toQualifying_part .batt (by decide) n _) _
    · rw [show (writeNum o kShipModeArm 0 s.chip).strs = _ from
        hpart (pt := .strs) (by decide) (by decide) (by decide) (by decide) (by decide) (by decide)]
      have hstrs := each_strsIn .ship (f := fun n d => toQualifying n (setStr n (fun x => { x with shipLatch := x.shipLatch || x.pattern == .set }) d))
        (fun n d => by rw [toQualifying_eq, setStr_setStr]) (fun b => { b with shipArm := none, shipPending := false, shipBoot := false })
        (placed (numWrite o kShipModeArm 0 s.chip) s.chip) n
      have hship' : (placed (numWrite o kShipModeArm 0 s.chip) s.chip).strs[n].state = .ship := hship
      rw [if_pos hship'] at hstrs
      exact congrArg Str.state hstrs
  case confirm =>
    intro s o t hreach harm hnow
    have hcommand : commandWrite o kShipModeConfirm (.num 0x05A5) (placed (numWrite o kShipModeConfirm 0x05A5 s.chip) s.chip) =
        some (.ok, setBatt (fun b => { b with shipArm := none, shipPending := true })
          (placed (numWrite o kShipModeConfirm 0x05A5 s.chip) s.chip)) := by
      change some (shipConfirm o _) = _
      unfold shipConfirm
      rw [show (placed (numWrite o kShipModeConfirm 0x05A5 s.chip) s.chip).batt = s.chip.batt from rfl, harm]
      exact congrArg some (if_pos ⟨rfl, hnow⟩)
    obtain ⟨hbatt, hdone⟩ := writeNum_batt hreach (by decide +kernel) (by decide +kernel) hcommand
    exact ⟨writeNum o kShipModeConfirm 0x05A5 s.chip, rfl, hbatt, hdone⟩
  case seqOn =>
    intro s o hreach hdrives hlife hoff hfree hlen
    obtain ⟨hdone, hpart⟩ := writeNum_of_ok (k := kSeqCommand) (v := 1) (d := seqRequest 1 (placed (numWrite o kSeqCommand 1 s.chip) s.chip)) hreach
      (by decide +kernel) (by decide +kernel) rfl
    have hrequest : seqRequest 1 (placed (numWrite o kSeqCommand 1 s.chip) s.chip) = Machine.seqOn (placed (numWrite o kSeqCommand 1 s.chip) s.chip) := by
      unfold seqRequest
      rw [if_neg (by rw [show drives (placed (numWrite o kSeqCommand 1 s.chip) s.chip) = true from hdrives]; decide), if_neg (by decide),
        if_neg (by rw [show lifeCycle (placed (numWrite o kSeqCommand 1 s.chip) s.chip) = lifeCycle s.chip from rfl]; simpa using hlife)]
    refine ⟨writeNum o kSeqCommand 1 s.chip, rfl, ?_, hdone⟩
    refine (hpart (pt := .seq) (by decide) (by decide) (by decide) (by decide) (by decide) (by decide)).trans ?_
    rw [hrequest]
    have hstarts := seqOn_starts (d := placed (numWrite o kSeqCommand 1 s.chip) s.chip) hoff hfree hlen
    rw [seqCond_placed] at hstarts
    exact hstarts
  case seqOff =>
    intro s o hreach hdrives hhold
    obtain ⟨hdone, hpart⟩ := writeNum_of_ok (k := kSeqCommand) (v := 0) (d := seqRequest 0 (placed (numWrite o kSeqCommand 0 s.chip) s.chip)) hreach
      (by decide +kernel) (by decide +kernel) rfl
    have hrequest : seqRequest 0 (placed (numWrite o kSeqCommand 0 s.chip) s.chip) =
        setSeq (fun q => { q with state := .off }) (placed (numWrite o kSeqCommand 0 s.chip) s.chip) := by
      unfold seqRequest Machine.seqOff
      rw [if_neg (by rw [show drives (placed (numWrite o kSeqCommand 0 s.chip) s.chip) = true from hdrives]; decide), if_pos rfl,
        show (placed (numWrite o kSeqCommand 0 s.chip) s.chip).seq = s.chip.seq from rfl, hhold]
    refine ⟨writeNum o kSeqCommand 0 s.chip, rfl, ?_, hdone⟩
    refine (hpart (pt := .seq) (by decide) (by decide) (by decide) (by decide) (by decide) (by decide)).trans ?_
    rw [hrequest]
    rfl
  case traceArm =>
    intro s o m hreach
    obtain ⟨hmills, hdone⟩ := traceCtl_mills hreach (traceCtl_admissible m).2.1
    exact ⟨writeNum o (kMillTraceCtl m) 1 s.chip, rfl, hmills, hdone⟩
  case traceForce =>
    intro s o m hreach harmed
    obtain ⟨hmills, hdone⟩ := traceCtl_mills hreach (traceCtl_admissible m).2.2
    refine ⟨writeNum o (kMillTraceCtl m) 2 s.chip, rfl, hmills.trans ?_, hdone⟩
    unfold traceCtl setMill
    simp [-Fin.getElem_fin, harmed]
  case traceIdle =>
    intro s o m hreach
    obtain ⟨hmills, hdone⟩ := traceCtl_mills hreach (traceCtl_admissible m).1
    exact ⟨writeNum o (kMillTraceCtl m) 0 s.chip, rfl, hmills, hdone⟩

end Sys2Proof.Machine
end

section
/-! Hampers that writes open, stage in, commit, roll back and join (R271 to R287). -/

namespace Sys2Proof.Machine

/-! ### A read from the market to its target -/

theorem readNow_of_reaches {o : Origin} {k : Key} {c : Chip} (h : reaches o k false c) :
    readNow o k c = serve (ownRequest o k none c) (placed (ownRequest o k none c) c) := by
  obtain ⟨-, -, -, -, -, -, hnew⟩ := (reaches_iff o k _ c).mp h
  have hsubmit : submit o k none .own c = placed (ownRequest o k none c) c := submit_of_reaches .own h
  have hfound : reqOf (placed (ownRequest o k none c) c) c.market.nextId = some (ownRequest o k none c) :=
    reqOf_queued (c := numbered c) hnew
  simp only [readNow, hsubmit, hfound]
  rfl

/-! ### Opening -/

theorem mem_rotation (c : Chip) {h : Nat} (hmem : h ∈ rotation c) : 1 ≤ h ∧ h ≤ 255 := by
  obtain ⟨i, -, rfl⟩ := List.mem_map.mp hmem
  omega

theorem rotation_nodup (c : Chip) : (rotation c).Nodup := by
  refine List.pairwise_map.mpr (List.Pairwise.imp_of_mem (fun {i j} hi hj hij => ?_) (List.nodup_range (n := 255)))
  rw [List.mem_range] at hi hj
  omega

/-- Fewer than 16 open hampers leave a handle of the rotation free (R271). -/
theorem rotation_free {c : Chip} (hfew : (c.hampers.list.filter Hamper.isOpen).length < 16) :
    ∃ h, (rotation c).find? (fun h => !(c.hampers.list.any fun x => x.handle == h && x.isOpen)) = some h := by
  refine Option.isSome_iff_exists.mp (Option.isSome_iff_ne_none.mpr fun hnone => ?_)
  have hall : rotation c ⊆ (c.hampers.list.filter Hamper.isOpen).map (·.handle) := fun h hmem => by
    have hused := List.find?_eq_none.mp hnone h hmem
    simp only [Bool.not_eq_true', Bool.not_eq_false, List.any_eq_true, Bool.and_eq_true, beq_iff_eq] at hused
    obtain ⟨x, hx, hhandle, hopen⟩ := hused
    exact List.mem_map.mpr ⟨x, List.mem_filter.mpr ⟨hx, hopen⟩, hhandle⟩
  have hlen := List.Nodup.length_le_of_subset (rotation_nodup c) hall
  rw [List.length_map, show (rotation c).length = 255 by simp [rotation]] at hlen
  omega

/-- The hampers once one is opened under a handle. -/
def openedUnder (h : Nat) (o : Origin) (c : Chip) : Chip :=
  setHampers (fun x => { x with
    lastHandle := h, list := (x.list.filter fun y => y.handle != h) ++ [{ handle := h, origin := o }] }) c

theorem openHamper_of_free {o : Origin} {c : Chip} {h : Nat} (hfew : (c.hampers.list.filter Hamper.isOpen).length < 16)
    (hfree : (rotation c).find? (fun h => !(c.hampers.list.any fun x => x.handle == h && x.isOpen)) = some h) :
    openHamper o c = (.ok, h, openedUnder h o c) := by
  unfold openHamper
  rw [if_neg (Nat.not_le.mpr hfew), hfree] <;> rfl

theorem hamperOf_openedUnder (h : Nat) (o : Origin) (c : Chip) :
    hamperOf (openedUnder h o c) h = some { handle := h, origin := o } := by
  change ((c.hampers.list.filter fun y => y.handle != h) ++ [{ handle := h, origin := o : Hamper }]).find? (fun x => x.handle == h) = _
  have hnone : (c.hampers.list.filter fun y => y.handle != h).find? (fun x => x.handle == h) = none :=
    List.find?_eq_none.mpr fun x hx => by simpa using (List.mem_filter.mp hx).2
  rw [List.find?_append, hnone]
  simp

/-! ### A handle's hamper -/

theorem hamperOf_handle {c : Chip} {h : Nat} {x : Hamper} (hof : hamperOf c h = some x) : x.handle = h := by
  simpa using List.find?_some hof

/-- A change of a handle's hamper that keeps the handle is found under it. -/
theorem hamperOf_setHamper (h h' : Nat) {f : Hamper → Hamper} (hf : ∀ x, (f x).handle = x.handle) (c : Chip) :
    hamperOf (setHamper h f c) h' = (hamperOf c h').map fun y => if y.handle == h then f y else y := by
  unfold hamperOf setHamper setHampers
  dsimp only
  rw [List.find?_map]
  congr 2
  funext y
  dsimp only [Function.comp]
  split
  · rw [hf]
  · rfl

/-! ### A command of a hamper -/

theorem leNat_leBytes (n v : Nat) : leNat (leBytes n v) = v % 256 ^ n := by
  induction n generalizing v with
  | zero => exact (Nat.mod_one v).symm
  | succ n ih =>
    unfold leBytes leNat
    rw [ih, BitVec.toNat_ofNat, Nat.pow_succ 256, Nat.mul_comm (256 ^ n), Nat.mod_mul]

theorem leBytes_length (n v : Nat) : (leBytes n v).length = n := by
  induction n generalizing v with
  | zero => rfl
  | succ n ih => rw [leBytes, List.length_cons, ih]

/-- The word that commands a hamper (Table 8.7). -/
def hamperWord (cmd node chandle : Nat) (h : BitVec 8) : Nat := cmd * 2 ^ 28 + node * 2 ^ 16 + chandle * 256 + h.toNat

theorem valueCheck_hamperCommand {v : Nat} (hsize : v < 2 ^ 32) (hok : RangeCheck.hamperCommand.ok v) :
    rendered kHamperCommand v = leBytes 4 v ∧ valueCheck kHamperCommand (rendered kHamperCommand v) = (.ok, .num v) := by
  have hrow : objOf kHamperCommand = some
      { name := "HamperCommand", base := 0x2120, sub := 3, last := 3, type := .u32, access := .wo, spans := [(0, 4294967295)]
        check := .hamperCommand } := by decide +kernel
  have hbytes : rendered kHamperCommand v = leBytes 4 v := by
    unfold rendered
    rw [hrow]
    change leBytes 4 (((v : Int) % (256 ^ 4 : Nat)).toNat) = _
    rw [show ((v : Int) % (256 ^ 4 : Nat)).toNat = v by omega]
  refine ⟨hbytes, ?_⟩
  have hback : leNat (leBytes 4 v) = v := (leNat_leBytes 4 v).trans (Nat.mod_eq_of_lt hsize)
  have hspan : (v : Int) ≤ 4294967295 := by omega
  unfold valueCheck
  rw [hbytes, hrow]
  simp [Obj.parse, Obj.inRange, ObjType.size, ObjType.signed, leBytes_length, hback, hok, hspan]

theorem carryWrite_hamperCommand {q : Req} {b : List Byte} {v : Val} {c : Chip} (hk : q.k = kHamperCommand)
    (hcheck : writeCheck c q.origin q.k false = .ok) (hval : valueCheck q.k b = (.ok, v)) :
    carryWrite q b c = { status := (hamperCommand q.origin q.id (leNat b) c).1
                         held := (hamperCommand q.origin q.id (leNat b) c).2.1
                         chip := (hamperCommand q.origin q.id (leNat b) c).2.2 } := by
  unfold carryWrite
  dsimp only
  rw [hcheck, hval]
  dsimp only
  rw [if_neg (by rw [hk]; decide), if_neg (by rw [hk]; decide), if_pos hk]

/-- What a write of `HamperCommand` that reaches its target comes to (R276). -/
theorem hamperWrite_of_reaches {o : Origin} {cmd node chandle : Nat} {h : BitVec 8} {c : Chip} {r : Status × Bool × Chip}
    (hreach : reaches o kHamperCommand true c) (hsize : hamperWord cmd node chandle h < 2 ^ 32)
    (hok : RangeCheck.hamperCommand.ok (hamperWord cmd node chandle h))
    (hr : hamperCommand o c.market.nextId (hamperWord cmd node chandle h)
      (placed (numWrite o kHamperCommand (hamperWord cmd node chandle h) c) c) = r) :
    hamperWrite o cmd node chandle h c =
      if r.2.1 then setReq c.market.nextId (fun x => { x with held := true }) r.2.2
      else complete (numWrite o kHamperCommand (hamperWord cmd node chandle h) c) r.1 [] r.2.2 := by
  obtain ⟨-, -, -, -, -, ⟨hcheck, -⟩, -⟩ := (reaches_iff o _ _ c).mp hreach
  obtain ⟨hbytes, hval⟩ := valueCheck_hamperCommand hsize hok
  have hback : leNat (rendered kHamperCommand (hamperWord cmd node chandle h)) = hamperWord cmd node chandle h := by
    rw [hbytes, leNat_leBytes]
    exact Nat.mod_eq_of_lt hsize
  let q : Req := numWrite o kHamperCommand (hamperWord cmd node chandle h) c
  have hcarry : carryOut q (placed q c) = { status := r.1, held := r.2.1, chip := r.2.2 } := by
    have hcheck' : writeCheck (placed q c) o kHamperCommand false = .ok := hcheck
    refine (carryWrite_hamperCommand (q := q) rfl hcheck' hval).trans ?_
    rw [hback, show q.origin = o from rfl, show q.id = c.market.nextId from rfl, hr]
  change writeNum o kHamperCommand (hamperWord cmd node chandle h) c = _
  rw [writeNum_eq, writeBytes_of_reaches _ hreach]
  change serve q (placed q c) = _
  unfold serve
  rw [hcarry]
  cases hheld : r.2.1
  · rfl
  · rfl

theorem hamperCommand_own {o : Origin} {id v : Nat} {c : Chip} {x : Hamper} (hof : hamperOf c (v % 256) = some x)
    (hown : x.origin = o) : hamperCommand o id v c =
      if field v 28 4 = 1 then startCommit x .commit id c
      else if field v 28 4 = 2 then startCommit x .commitAt id c
      else if field v 28 4 = 3 then startCommit x .coordinator id c
      else
        let r := if field v 28 4 = 4 then rollbackCommand x c
          else joinCommand x (Fin.ofNat 1024 (field v 16 10)) (BitVec.ofNat 8 (field v 8 8)) c
        (r.1, false, r.2) := by
  unfold hamperCommand
  dsimp only
  rw [hof]
  dsimp only
  rw [if_neg (by simp [hown])]

/-- The parts of a command's word. -/
theorem hamperWord_parts {cmd node chandle : Nat} {h : BitVec 8} (hcmd : cmd < 16) (hnode : node < 1024) (hchandle : chandle < 256) :
    hamperWord cmd node chandle h < 2 ^ 32 ∧ hamperWord cmd node chandle h % 256 = h.toNat ∧
      field (hamperWord cmd node chandle h) 28 4 = cmd ∧ field (hamperWord cmd node chandle h) 16 10 = node ∧
      field (hamperWord cmd node chandle h) 8 8 = chandle := by
  have hh : h.toNat < 256 := h.isLt
  unfold hamperWord field
  refine ⟨?_, ?_, ?_, ?_, ?_⟩ <;> omega

theorem hamperWord_ok {cmd node chandle : Nat} {h : BitVec 8} (hcmd : 1 ≤ cmd ∧ cmd ≤ 5) (hnode : node < 1024)
    (hchandle : chandle < 256) (hjoin : cmd = 5 ∨ node = 0 ∧ chandle = 0) :
    RangeCheck.hamperCommand.ok (hamperWord cmd node chandle h) := by
  have hh : h.toNat < 256 := h.isLt
  have hparts : hamperWord cmd node chandle h / 0x10000000 = cmd ∧ hamperWord cmd node chandle h / 0x4000000 % 4 = 0 ∧
      (cmd = 5 ∨ hamperWord cmd node chandle h / 0x100 % 0x40000 = 0) := by
    unfold hamperWord
    refine ⟨?_, ?_, hjoin.imp_right fun ⟨hn, hc⟩ => ?_⟩ <;> omega
  obtain ⟨hword, hzero, hjoin⟩ := hparts
  unfold RangeCheck.ok
  dsimp only
  rw [hword, hzero]
  simpa using ⟨hcmd, hjoin⟩

/-! ### COMMIT and what is like it -/

/-- A hamper that waits for its validation (R276). -/
def validating (mode : CommitMode) (id admitted : Nat) (y : Hamper) : Hamper :=
  { y with state := .validating, mode := mode, req := some id, order := id, t := leNat y.applyTime, admittedAt := admitted }

/-- An item that is later than no other is placed behind them all. -/
theorem placeItem_behind {later : Item → Bool} (i : Item) {l : List Item} (h : ∀ q ∈ l, later q = false) :
    placeItem later i l = l ++ [i] := by
  induction l with
  | nil => rfl
  | cons q l ih =>
    unfold placeItem
    rw [if_neg (by rw [h q List.mem_cons_self]; decide), ih fun p hp => h p (List.mem_cons_of_mem q hp)]
    rfl

/-- The order of what waits, once a hamper takes its place under the newest number. -/
theorem itemOrder_validating (mode : CommitMode) {id : Nat} (admitted handle : Nat) {c : Chip} {q : Item}
    (hq : (itemOrder c q).all (· ≤ id)) :
    (itemOrder (setHamper handle (validating mode id admitted) c) q).all (· ≤ id) := by
  have hfound (h : Nat) := hamperOf_setHamper handle h (f := validating mode id admitted) (fun _ => rfl) c
  cases q with
  | hamper h told =>
    cases told with
    | false =>
      unfold itemOrder at hq ⊢
      dsimp only at hq ⊢
      rw [hfound]
      cases hof : hamperOf c h with
      | none => rfl
      | some y =>
        rw [hof] at hq
        by_cases hy : y.handle = handle
        · simp [hy, validating]
        · simpa [hy] using hq
    | true => rfl
  | implicit _ i _ _ => exact hq
  | mirror => rfl
  | store => rfl
  | exercise => rfl

/-- A hamper whose commit is the newest request waits behind all others (R276, R280). -/
theorem startCommit_of_opened {x : Hamper} {mode : CommitMode} {id : Nat} {c : Chip} {q : Req} (hof : hamperOf c x.handle = some x)
    (hstate : x.state = .opened) (hreq : reqOf c id = some q) (horder : c.hampers.queue.all fun i => (itemOrder c i).all (· ≤ id)) :
    ∃ d, startCommit x mode id c = (.ok, true, d) ∧ d.hampers.queue = c.hampers.queue ++ [.hamper x.handle false] ∧
      d.hampers.list = c.hampers.list.map fun y => if y.handle == x.handle then validating mode id q.admitted y else y := by
  let marked := setHamper x.handle (validating mode id q.admitted) c
  refine ⟨enqueue (.hamper x.handle false) marked, ?_, ?_, rfl⟩
  · unfold startCommit
    rw [if_neg (by rw [hstate]; decide), hreq]
    rfl
  · refine placeItem_behind (l := c.hampers.queue) _ fun i hi => ?_
    have hown : itemOrder marked (.hamper x.handle false) = some id := by
      have hfound := hamperOf_setHamper x.handle x.handle (f := validating mode id q.admitted) (fun _ => rfl) c
      change (hamperOf marked x.handle).map (·.order) = _
      rw [hfound, hof]
      simp [validating]
    have hother := itemOrder_validating mode q.admitted x.handle (List.all_eq_true.mp horder i hi)
    rw [hown]
    change (itemOrder marked i).all (· ≤ id) at hother
    cases hplace : itemOrder marked i with
    | none => rfl
    | some b =>
      rw [hplace] at hother
      simpa using hother

end Sys2Proof.Machine
end

section
/-! The hamper commands that are writes (R271 to R287). -/

namespace Sys2Proof.Machine

/-- A hamper that its commit sends to validation (R276): COMMIT, COMMIT-AT and COMMIT-DOMAIN. -/
theorem hamperWrite_commits {o : Origin} {h : BitVec 8} {c : Chip} {x : Hamper} {cmd : Nat} {mode : CommitMode}
    (hmode : cmd = 1 ∧ mode = .commit ∨ cmd = 2 ∧ mode = .commitAt ∨ cmd = 3 ∧ mode = .coordinator)
    (hreach : reaches o kHamperCommand true c) (hof : hamperOf c h.toNat = some x) (hstate : x.state = .opened) (hown : x.origin = o)
    (horder : c.hampers.queue.all fun i => (itemOrder c i).all (· ≤ c.market.nextId)) :
    (hamperWrite o cmd 0 0 h c).hampers.queue = c.hampers.queue ++ [.hamper h.toNat false] ∧
      (hamperWrite o cmd 0 0 h c).hampers.list = c.hampers.list.map fun y => if y.handle == x.handle then
        validating mode c.market.nextId c.clock.laneNs y else y := by
  have hcmd : 1 ≤ cmd ∧ cmd ≤ 3 := by omega
  obtain ⟨-, -, -, -, -, -, hnew⟩ := (reaches_iff o _ _ c).mp hreach
  obtain ⟨hsize, hhandle, hfield, -, -⟩ := hamperWord_parts (cmd := cmd) (node := 0) (chandle := 0) (h := h) (by omega)
    (by decide) (by decide)
  have hok := hamperWord_ok (h := h) ⟨hcmd.1, Nat.le_trans hcmd.2 (by decide)⟩ (by decide) (by decide) (.inr ⟨rfl, rfl⟩)
  have hx : x.handle = h.toNat := hamperOf_handle hof
  let q : Req := numWrite o kHamperCommand (hamperWord cmd 0 0 h) c
  have hfound : hamperOf (placed q c) x.handle = some x := hx ▸ hof
  have hreq : reqOf (placed q c) c.market.nextId = some q := reqOf_queued (q := q) (c := numbered c) hnew
  obtain ⟨d, hcommit, hqueue, hlist⟩ := startCommit_of_opened (mode := mode) (c := placed q c) hfound hstate hreq horder
  have hdone : hamperCommand o c.market.nextId (hamperWord cmd 0 0 h) (placed q c) = (.ok, true, d) := by
    rw [hamperCommand_own (x := x) (hhandle.symm ▸ hof) hown, hfield, ← hcommit]
    rcases hmode with ⟨rfl, rfl⟩ | ⟨rfl, rfl⟩ | ⟨rfl, rfl⟩ <;> rfl
  rw [hamperWrite_of_reaches hreach hsize hok hdone]
  exact ⟨hx ▸ hqueue, hlist⟩

/-! ### A read of `HamperOpen`, and a write of `HamperStage` -/

theorem carryRead_hamperOpen {q : Req} {c d : Chip} {h : Nat} (hk : q.k = kHamperOpen) (hcheck : readCheck c q.origin kHamperOpen = .ok)
    (hopen : openHamper q.origin c = (.ok, h, d)) : carryRead q c = { status := .ok, value := leBytes 1 h, chip := d } := by
  unfold carryRead
  rw [if_pos hk, hk, hcheck, hopen]

theorem hamperOpen_of_reaches {o : Origin} {c : Chip} {h : Nat} (hreach : reaches o kHamperOpen false c)
    (hfew : (c.hampers.list.filter Hamper.isOpen).length < 16)
    (hfree : (rotation c).find? (fun h => !(c.hampers.list.any fun x => x.handle == h && x.isOpen)) = some h) :
    (hamperOpen o c).hampers = (openedUnder h o c).hampers := by
  obtain ⟨-, -, -, -, -, hcheck, -⟩ := (reaches_iff o _ _ _).mp hreach
  let q : Req := ownRequest o kHamperOpen none c
  have hcarry : carryOut q (placed q c) = { status := .ok, value := leBytes 1 h, chip := openedUnder h o (placed q c) } :=
    carryRead_hamperOpen (q := q) rfl hcheck (openHamper_of_free (c := placed q c) hfew hfree)
  change (readNow o kHamperOpen c).hampers = _
  rw [readNow_of_reaches hreach, serve_of_carryOut hcarry rfl, complete_hampers]
  rfl

theorem carryWrite_hamperStage {q : Req} {b : List Byte} {v : Val} {c : Chip} (hk : q.k = kHamperStage)
    (hcheck : writeCheck c q.origin q.k false = .ok) (hval : valueCheck q.k b = (.ok, v)) :
    carryWrite q b c = { status := (writeStage q.origin (leNat b) c).1, chip := (writeStage q.origin (leNat b) c).2 } := by
  unfold carryWrite
  dsimp only
  rw [hcheck, hval]
  dsimp only
  rw [if_pos hk]

/-- The hamper that an origin stages in from now on (R273). -/
def stagesIn (o : Origin) (h : Nat) (x : Hampers) : Hampers :=
  { x with stage := (x.stage.filter fun p => p.1 != o) ++ [(o, h)] }

theorem writeStage_of_open {o : Origin} {h : Nat} {c : Chip} (hpos : h ≠ 0)
    (hopen : c.hampers.list.any fun y => y.handle == h && y.state == .opened && y.origin == o) :
    writeStage o h c = (.ok, setHampers (stagesIn o h) c) := by
  unfold writeStage
  simp only [if_neg hpos]
  exact if_pos hopen

theorem hamperStage_of_reaches {o : Origin} {h : BitVec 8} {c : Chip} (hreach : reaches o kHamperStage true c) (hzero : h ≠ 0)
    (hopen : c.hampers.list.any fun y => y.handle == h.toNat && y.state == .opened && y.origin == o) :
    inRange (h.toNat : Int) 0 255 ∧ (hamperStage o h.toNat c).hampers = stagesIn o h.toNat c.hampers := by
  have hall : ∀ h : BitVec 8, admissible kHamperStage (h.toNat : Int) = true ∧ inRange (h.toNat : Int) 0 255 = true ∧
      leNat (rendered kHamperStage (h.toNat : Int)) = h.toNat := by decide +kernel
  obtain ⟨hadm, hrange, hback⟩ := hall h
  obtain ⟨-, -, -, -, -, ⟨hcheck, -⟩, -⟩ := (reaches_iff o _ _ _).mp hreach
  have hpos : h.toNat ≠ 0 := fun h0 => hzero (BitVec.eq_of_toNat_eq h0)
  let q : Req := numWrite o kHamperStage (h.toNat : Int) c
  have hcheck' : writeCheck (placed q c) o kHamperStage false = .ok := hcheck
  have hcarry : carryOut q (placed q c) = { status := .ok, chip := setHampers (stagesIn o h.toNat) (placed q c) } := by
    refine (carryWrite_hamperStage (q := q) rfl hcheck' (valueCheck_rendered hadm)).trans ?_
    rw [show q.k = kHamperStage from rfl, hback, writeStage_of_open (o := q.origin) (c := placed q c) hpos hopen]
    rfl
  refine ⟨hrange, ?_⟩
  change (writeNum o kHamperStage (h.toNat : Int) c).hampers = _
  rw [writeNum_eq, writeBytes_of_reaches _ hreach]
  change (serve q (placed q c)).hampers = _
  rw [serve_of_carryOut hcarry rfl, complete_hampers]
  rfl

/-! ### ROLLBACK and JOIN -/

theorem hamperRollback_of_reaches {o : Origin} {h : BitVec 8} {c : Chip} {x : Hamper} (hreach : reaches o kHamperCommand true c)
    (hof : hamperOf c h.toNat = some x) (hstate : x.state = .opened) (hown : x.origin = o) :
    let q := numWrite o kHamperCommand (hamperWord 4 0 0 h) c
    hamperRollback o h c = complete q .ok [] (rollBack x (placed q c)) := by
  intro q
  obtain ⟨hsize, hhandle, hfield, -, -⟩ := hamperWord_parts (cmd := 4) (node := 0) (chandle := 0) (h := h) (by decide)
    (by decide) (by decide)
  have hok := hamperWord_ok (cmd := 4) (h := h) (by decide) (by decide) (by decide) (.inr ⟨rfl, rfl⟩)
  have hcommand : rollbackCommand x (placed q c) = (.ok, rollBack x (placed q c)) := by
    unfold rollbackCommand
    exact if_pos (by rw [hstate]; rfl)
  refine hamperWrite_of_reaches (r := (.ok, false, rollBack x (placed q c))) hreach hsize hok ?_
  rw [hamperCommand_own (x := x) (hhandle.symm ▸ hof) hown, hfield]
  dsimp only
  rw [if_pos rfl, hcommand]
  rfl

/-- A hamper that has joined a coordinator's (R284). -/
def joinedTo (node : Fin 1024) (chandle : BitVec 8) (y : Hamper) : Hamper :=
  { y with state := .joined, mode := .participant, join := some (node, chandle) }

theorem hamperJoin_of_reaches {o : Origin} {h : BitVec 8} {node : Fin 1024} {chandle : BitVec 8} {c : Chip} {x : Hamper}
    (hreach : reaches o kHamperCommand true c)
    (hof : hamperOf c h.toNat = some x) (hstate : x.state = .opened) (hown : x.origin = o)
    (hlone : (c.hampers.list.any fun y => y.isOpen && y.join == some (node, chandle)) = false) :
    let q := numWrite o kHamperCommand (hamperWord 5 node.val chandle.toNat h) c
    hamperJoin o h node chandle c = complete q .ok [] (setHamper x.handle (joinedTo node chandle) (placed q c)) := by
  intro q
  obtain ⟨hsize, hhandle, hfield, hnode, hchandle⟩ := hamperWord_parts (cmd := 5) (node := node.val) (chandle := chandle.toNat)
    (h := h) (by decide) node.isLt chandle.isLt
  have hok := hamperWord_ok (cmd := 5) (h := h) (by decide) node.isLt chandle.isLt (.inl rfl)
  have halone : (c.hampers.list.any fun y => y.handle != x.handle && y.isOpen && y.join == some (node, chandle)) = false := by
    refine List.any_eq_false.mpr fun y hy => ?_
    have hopen := List.any_eq_false.mp hlone y hy
    simp only [Bool.and_eq_true, not_and] at hopen ⊢
    exact fun ⟨_, hy⟩ => hopen hy
  have hcommand : joinCommand x node chandle (placed q c) = (.ok, setHamper x.handle (joinedTo node chandle) (placed q c)) := by
    unfold joinCommand
    exact if_neg (by rw [hstate, show (placed q c).hampers = c.hampers from rfl, halone]; decide)
  refine hamperWrite_of_reaches (r := (.ok, false, setHamper x.handle (joinedTo node chandle) (placed q c))) hreach hsize hok ?_
  rw [hamperCommand_own (x := x) (hhandle.symm ▸ hof) hown, hfield, hnode, hchandle,
    show Fin.ofNat 1024 node.val = node from Fin.ofNat_val_eq_self node, BitVec.ofNat_toNat, BitVec.setWidth_eq]
  dsimp only
  rw [if_neg (by decide), if_neg (by decide), if_neg (by decide), if_neg (by decide), hcommand]

/-- Settles O26: each command is the write of its word, which reaches the hamper of its handle. -/
theorem hamperCommandWrites : Obligations.HamperCommandWrites := by
  refine ⟨fun s o hreach hfew => ?opening, fun s o h hreach hzero hopen => ?staging, fun s o h x hreach hof hstate hown horder => ?_,
    fun s o h x hreach hof hstate hown horder => ?_, fun s o h x hreach hof hstate hown horder => ?_,
    fun s o h x hreach hof hstate hown _ => ?rollback, fun s o h node chandle x hreach hof hstate hown hlone => ?joining⟩
  case opening =>
    obtain ⟨h, hfree⟩ := rotation_free hfew
    have hhampers := hamperOpen_of_reaches hreach hfew hfree
    have hlast : (hamperOpen o s.chip).hampers.lastHandle = h := by rw [hhampers]; rfl
    have hunused := List.find?_some hfree
    obtain ⟨hlow, hhigh⟩ := mem_rotation s.chip (List.mem_of_find?_eq_some hfree)
    refine ⟨hamperOpen o s.chip, rfl, ?_⟩
    rw [hlast]
    refine ⟨?_, hlow, hhigh, by simpa using hunused, by rw [hhampers]; rfl⟩
    unfold hamperOf
    rw [hhampers]
    exact hamperOf_openedUnder h o s.chip
  case staging =>
    obtain ⟨hrange, hhampers⟩ := hamperStage_of_reaches hreach hzero hopen
    exact ⟨hamperStage o (h.toNat : Int) s.chip, guarded_next hrange s _, hhampers⟩
  · exact ⟨_, rfl, hamperWrite_commits (.inl ⟨rfl, rfl⟩) hreach hof hstate hown horder⟩
  · exact ⟨_, rfl, hamperWrite_commits (.inr (.inl ⟨rfl, rfl⟩)) hreach hof hstate hown horder⟩
  · exact ⟨_, rfl, hamperWrite_commits (.inr (.inr ⟨rfl, rfl⟩)) hreach hof hstate hown horder⟩
  case rollback =>
    have hwrite := hamperRollback_of_reaches hreach hof hstate hown
    refine ⟨hamperRollback o h s.chip, rfl, ?_, ?_⟩
    · rw [hwrite, complete_hampers, rollBack_list]
      rfl
    · rw [hwrite]
      exact writeDone_complete o kHamperCommand _ s.chip _
  case joining =>
    have hwrite := hamperJoin_of_reaches hreach hof hstate hown hlone
    refine ⟨hamperJoin o h node chandle s.chip, rfl, ?_, ?_⟩
    · rw [hwrite, complete_hampers]
      rfl
    · rw [hwrite]
      exact writeDone_complete o kHamperCommand _ s.chip _

end Sys2Proof.Machine
end

section
/-! What the Lane's services keep of the Lane (R335, R339, R349): answers, completions and the choice of a master. -/

namespace Sys2Proof.Machine

/-- Of the Lane only the sequence numbers, the reads that are held and what is sent may change. -/
def LaneServes (c d : Chip) : Prop :=
  ∃ seqs readers tx, d.lane = { c.lane with seqs := seqs, readers := readers, tx := tx }

namespace LaneServes

theorem of_lane {c d : Chip} (h : part .lane d = part .lane c) : LaneServes c d :=
  ⟨c.lane.seqs, c.lane.readers, c.lane.tx, h⟩

theorem refl (c : Chip) : LaneServes c c := of_lane rfl

theorem trans {c d e : Chip} (hcd : LaneServes c d) (hde : LaneServes d e) : LaneServes c e := by
  obtain ⟨_, _, _, hcd⟩ := hcd
  obtain ⟨seqs, readers, tx, hde⟩ := hde
  refine ⟨seqs, readers, tx, ?_⟩
  rw [hde, hcd]

theorem state {c d : Chip} (h : LaneServes c d) : d.lane.state = c.lane.state := by
  obtain ⟨_, _, _, h⟩ := h
  rw [h]

theorem each {α : Type} {f : α → Chip → Chip} (h : ∀ a c, LaneServes c (f a c)) (l : List α) (c : Chip) :
    LaneServes c (each l f c) := by
  unfold Machine.each
  induction l generalizing c with
  | nil => exact refl c
  | cons a l ih => exact (h a c).trans (ih (f a c))

theorem when {f : Chip → Chip} (h : ∀ c, LaneServes c (f c)) (b : Bool) (c : Chip) : LaneServes c (when b f c) := by
  cases b
  · exact refl c
  · exact h c

theorem of_onlySends {f : Chip → Chip} (h : OnlySends f) (c : Chip) : LaneServes c (f c) := by
  obtain ⟨tx, htx⟩ := h c
  exact ⟨c.lane.seqs, c.lane.readers, tx, htx⟩

theorem laneSend (byA byB : Bool) (dest cls : Nat) (payload : List Byte) (c : Chip) :
    LaneServes c (laneSend byA byB dest cls payload c) := by
  have hcopy (b : Bool) (p : LanePort) (n : BitVec 16) (l : List Byte) (d : Chip) :
      LaneServes d (Machine.when b (laneCopy p dest cls n l) d) :=
    of_onlySends (when_onlySends b (laneCopy_onlySends p dest cls n l)) d
  unfold Machine.laneSend
  dsimp only
  split
  · exact refl c
  · refine .trans ?_ ((hcopy _ _ _ _ _).trans (hcopy _ _ _ _ _))
    exact ⟨c.lane.seqs.set (Fin.ofNat 16 cls) (c.lane.seqs[Fin.ofNat 16 cls] + 1), c.lane.readers, c.lane.tx, rfl⟩

theorem laneUnicast (dest : Fin 1024) (cls : Nat) (payload : List Byte) (c : Chip) :
    LaneServes c (laneUnicast dest cls payload c) := by
  unfold Machine.laneUnicast
  dsimp only
  split <;> exact laneSend ..

theorem odAnswer (node : Fin 1024) (op : OdOp) (tag : BitVec 16) (k : Key) (status offset : Nat) (data : List Byte) (c : Chip) :
    LaneServes c (odAnswer node op tag k status offset data c) :=
  laneUnicast node 3 _ c

theorem reply (q : Req) (st : Status) (v : List Byte) (c : Chip) : LaneServes c (reply q st v c) := by
  have husdo (l : Fin 2) (m : CanTx) (d : Chip) : LaneServes d (usdoSend l m d) := of_lane (usdoSend_part .lane (by decide) l m d)
  unfold Machine.reply
  extract_lets ok
  split
  case h_1 => exact refl c
  case h_2 l seg hreply =>
    extract_lets reading open_
    split
    · exact refl c
    · split
      · refine .trans ?_ (husdo l (.usdoAbort q.k (BitVec.ofNat 32 (abortCode c q st))) _)
        exact when (f := setLine l fun x => { x with usdo := none }) (fun d => of_lane rfl) reading c
      · split
        · exact husdo _ _ _
        · split
          · refine .trans ?_ (husdo _ _ _)
            exact of_lane rfl
          · exact husdo _ _ _
  case h_3 =>
    split
    · exact refl c
    · exact of_lane rfl
  case h_4 =>
    extract_lets held
    refine (of_lane rfl : LaneServes c held).trans ?_
    split
    · split <;> exact of_lane rfl
    · exact of_lane rfl
  case h_5 => exact of_lane rfl
  case h_6 => split <;> exact of_lane rfl
  case h_7 => split <;> exact odAnswer ..
  case h_8 =>
    split
    · refine .trans ?_ (odAnswer ..)
      exact ⟨c.lane.seqs, _, c.lane.tx, rfl⟩
    · exact odAnswer ..

theorem finish (q : Req) (st : Status) (v : List Byte) (c : Chip) : LaneServes c (finish q st v c) := by
  unfold Machine.finish
  refine .trans ?_ (reply q st v _)
  exact of_lane (by simp)

theorem complete (q : Req) (st : Status) (v : List Byte) (c : Chip) : LaneServes c (complete q st v c) := by
  have hplaced (o : Origin) (k : Key) (d : Chip) : LaneServes d (fenceQueued o k (placeFence o k d)) :=
    (of_lane rfl : LaneServes d (placeFence o k d)).trans (each (fun q d => finish q .fenced [] d) _ _)
  unfold Machine.complete
  dsimp only
  split
  · exact (finish q st v c).trans (hplaced _ _ _)
  · exact finish q st v c

theorem completeHeld (h : Hamper) (st : Status) (c : Chip) : LaneServes c (completeHeld h st c) := by
  unfold Machine.completeHeld completeId
  split
  · split
    · exact complete ..
    · exact refl c
  · exact refl c

theorem endHamper (h : Hamper) (dest : HamperState) (r : Result) (st : Status) (c : Chip) :
    LaneServes c (endHamper h dest r st c) := by
  unfold Machine.endHamper
  refine .trans ?_ (completeHeld h st _)
  exact of_lane rfl

theorem originsLost (p : Origin → Bool) (c : Chip) : LaneServes c (originsLost p c) :=
  each (fun h d => endHamper h .rolledBack {} .ok d) _ c

theorem discardArmed (h : Hamper) (c : Chip) : LaneServes c (discardArmed h c) := by
  unfold Machine.discardArmed
  refine .trans ?_ (endHamper ..)
  exact of_lane (log_part .lane (by decide) ..)

end LaneServes

/-! ### Membership through the choice of a master -/

theorem epochChange_state (e : BitVec 8) (c : Chip) : (epochChange e c).lane.state = c.lane.state := by
  have hclear (b : Bool) (d : Chip) : (when b clearTvalid d).lane.state = d.lane.state := by
    have hinner (b : Bool) (d : Chip) : (when b (fun c => raise 183 4 0 (setLane (fun l => { l with tvalid := false, lockCount := 0 }) c))
        d).lane.state = d.lane.state := by
      cases b
      · rfl
      · exact (congrArg Lane.state (raise_lane ..)).trans rfl
    cases b
    · rfl
    · exact hinner _ d
  unfold epochChange
  dsimp only
  rw [raise_lane, (LaneServes.each LaneServes.discardArmed _ _).state, hclear]
  rfl

theorem becomeMaster_state (c : Chip) : (becomeMaster c).lane.state = c.lane.state := by
  unfold becomeMaster
  dsimp only
  split
  · rfl
  · rw [epochChange_state]
    rfl

theorem chooseMaster_state (c : Chip) : (chooseMaster c).lane.state = c.lane.state := by
  have hmaster (b : Bool) (d : Chip) : (when b becomeMaster d).lane.state = d.lane.state := by
    cases b
    · rfl
    · exact becomeMaster_state d
  unfold chooseMaster
  dsimp only
  split
  · rfl
  · rw [hmaster, raise_lane]
    rfl

theorem laneJoin_state {c : Chip} (hstate : c.lane.state = .off) (henabled : flag c kLaneEnable = true)
    (hlink : (c.lane.linkA.up || c.lane.linkB.up) = true) (hlive : live c) (hlife : lifeCycle c ≠ .blank) :
    (laneJoin c).lane.state = .joining := by
  simp only [live, Bool.and_eq_true, beq_iff_eq] at hlive
  unfold laneJoin
  rw [if_pos (by rw [hstate, henabled, hlink, hlive.1]; simpa using hlife), chooseMaster_state]
  rfl

theorem laneOff_state (c : Chip) : (laneOff c).lane.state = if c.lane.state = .duplicate then .duplicate else .off := by
  unfold laneOff laneOriginsLost
  rw [chooseMaster_state, (LaneServes.originsLost _ _).state]
  change (if c.lane.state == .duplicate then LaneState.duplicate else .off) = _
  simp only [beq_iff_eq]

end Sys2Proof.Machine
end

section
/-! Writes and reads of own origin: what completes them keeps all but the market and its packets (R259, R261, R472). -/

namespace Sys2Proof.Machine

section

variable {o : Origin} {k : Key} {c : Chip}

/-- A completion that answers no port and sets no fence. -/
theorem complete_own_part {pt : Part} (hhamlets : pt ≠ .hamlets) (hmarket : pt ≠ .market) {q : Req} (hq : q.reply = .own)
    {st : Status} (hst : st.fences = false) (v : List Byte) (c : Chip) : part pt (complete q st v c) = part pt c := by
  unfold complete finish reply
  rw [hst, hq]
  dsimp only
  rw [if_neg (by decide)]
  simp [hhamlets, hmarket]

theorem placed_part {pt : Part} (hmarket : pt ≠ .market) (q : Req) (c : Chip) : part pt (placed q c) = part pt c :=
  setMarket_part pt hmarket (fun m => { m with
    nextId := m.nextId + 1, reqs := m.reqs ++ [q], peak := max m.peak (m.reqs.length + 1) }) c

/-- The request of a write of bytes. -/
def byteWrite (o : Origin) (k : Key) (b : List Byte) (c : Chip) : Req := ownRequest o k (some b) c

theorem writeBytes_of_command {b : List Byte} {v : Val} {d : Chip} {st : Status} (hreach : reaches o k true c)
    (hval : valueCheck k b = (.ok, v)) (hk : actsAtOnce k)
    (hcommand : commandWrite o k v (placed (byteWrite o k b c) c) = some (st, d)) :
    writeBytes o k b c = complete (byteWrite o k b c) st [] d := by
  obtain ⟨-, -, -, -, -, ⟨hcheck, -⟩, -⟩ := (reaches_iff o k _ c).mp hreach
  have hreset : (k == kChipResetCmd) = false := by
    simp only [actsAtOnce, Bool.and_eq_true, bne_iff_ne] at hk
    exact beq_eq_false_iff_ne.mpr hk.2
  have hcarry : carryOut (byteWrite o k b c) (placed (byteWrite o k b c) c) = { status := st, chip := d } :=
    carryWrite_of_command (q := byteWrite o k b c) (r := (st, d)) hk hcheck hval hcommand
  rw [writeBytes_of_reaches _ hreach]
  exact serve_of_carryOut hcarry hreset

/-- A command that acts leaves what its own part says, but for the packets and the market. -/
theorem writeBytes_of_acted {b : List Byte} {v : Val} {d : Chip} (hreach : reaches o k true c)
    (hval : valueCheck k b = (.ok, v)) (hk : actsAtOnce k)
    (hcommand : commandWrite o k v (placed (byteWrite o k b c) c) = some (.ok, d)) :
    writeDone o k c (writeBytes o k b c) ∧
      ∀ {pt : Part}, pt ≠ .hamlets → pt ≠ .market → part pt (writeBytes o k b c) = part pt d := by
  rw [writeBytes_of_command hreach hval hk hcommand]
  exact ⟨complete_getLast (byteWrite o k b c) [] d rfl, fun hhamlets hmarket => complete_own_part hhamlets hmarket rfl rfl [] d⟩

theorem writeNum_of_acted {v : Int} {d : Chip} (hreach : reaches o k true c) (hadm : admissible k v) (hk : actsAtOnce k)
    (hcommand : commandWrite o k (.num v) (placed (numWrite o k v c) c) = some (.ok, d)) :
    writeDone o k c (writeNum o k v c) ∧
      ∀ {pt : Part}, pt ≠ .hamlets → pt ≠ .market → part pt (writeNum o k v c) = part pt d := by
  rw [writeNum_eq]
  exact writeBytes_of_acted hreach (valueCheck_rendered hadm) hk hcommand

/-- A setting that a write puts in force acts on its own part. -/
theorem writeNum_ownPart {pt : Part} (hhamlets : pt ≠ .hamlets) (hmarket : pt ≠ .market) (hbus : pt ≠ .bus) (hmills : pt ≠ .mills)
    (hhampers : pt ≠ .hampers) (htwin : pt ≠ .twin) {v : Int} (hreach : reaches o k true c) (hadm : admissible k v)
    (hk : directSetting k) (hcheck : directCheck o k (.num v) c = .ok) :
    part pt (writeNum o k v c) = part pt (effect k (settingPut o k v c)) := by
  have hplain := hk
  simp only [directSetting, Bool.and_eq_true] at hplain
  obtain ⟨⟨⟨⟨-, hplain⟩, -⟩, -⟩, -⟩ := hplain
  rw [writeNum_of_setting hreach hadm hk hcheck, complete_own_part hhamlets hmarket rfl rfl]
  exact derived_part hbus hmills hhampers htwin hplain _ _

/-! ### The reset command -/

theorem serve_of_chipReset {q : Req} {c : Chip} (hk : q.k = kChipResetCmd) (hcarry : carryOut q c = { status := .ok, chip := c }) :
    serve q c = chipReset .command false (complete q .ok [] c) := by
  unfold serve
  rw [hcarry, hk]
  rfl

end

end Sys2Proof.Machine
end

section
/-! Lane, Watch, exports, twin, reset and store writes (R339 to R349, R356, R361, R397 to R399, R422, R427, R442). -/

namespace Sys2Proof.Machine

section

variable {o : Origin} {c : Chip}

/-! ### LaneEnable -/

theorem laneEnable_setting : directSetting kLaneEnable ∧ admissible kLaneEnable 1 ∧ admissible kLaneEnable 0 ∧
    kLaneEnable ≠ kCobIdEmcy := by decide +kernel

theorem laneEnable_lane {v : Int} (hreach : reaches o kLaneEnable true c) (hadm : admissible kLaneEnable v)
    (hcheck : directCheck o kLaneEnable (.num v) c = .ok) :
    (writeNum o kLaneEnable v c).lane = (laneEnabled (settingPut o kLaneEnable v c)).lane :=
  writeNum_ownPart (pt := .lane) (by decide) (by decide) (by decide) (by decide) (by decide) (by decide) hreach hadm
    laneEnable_setting.1 hcheck

theorem laneEnable_joins (hreach : reaches o kLaneEnable true c) (hcheck : directCheck o kLaneEnable (.num 1) c = .ok)
    (hstate : c.lane.state = .off) (hdup : c.lane.dupId = false) (hlink : (c.lane.linkA.up || c.lane.linkB.up) = true)
    (hlife : lifeCycle c ≠ .blank) (hsorted : odSorted c.od) : (writeNum o kLaneEnable 1 c).lane.state = .joining := by
  obtain ⟨-, hadm, -, -⟩ := laneEnable_setting
  obtain ⟨hlive, -⟩ := (reaches_iff o _ _ c).mp hreach
  have hflag : flag (settingPut o kLaneEnable 1 c) kLaneEnable = true := flag_settingPut hsorted
  have hjoin := laneJoin_state (c := settingPut o kLaneEnable 1 c) hstate hflag hlink hlive hlife
  rw [laneEnable_lane hreach hadm hcheck]
  unfold laneEnabled
  rw [if_pos hflag, if_neg (by rw [show (settingPut o kLaneEnable 1 c).lane = c.lane from rfl, hdup]; decide)]
  exact hjoin

theorem laneEnable_leaves (hreach : reaches o kLaneEnable true c) (hcheck : directCheck o kLaneEnable (.num 0) c = .ok)
    (hsorted : odSorted c.od) :
    (writeNum o kLaneEnable 0 c).lane.state = if c.lane.state = .duplicate then .duplicate else .off := by
  obtain ⟨-, -, hadm, -⟩ := laneEnable_setting
  have hflag : flag (settingPut o kLaneEnable 0 c) kLaneEnable = false := flag_settingPut hsorted
  rw [laneEnable_lane hreach hadm hcheck]
  unfold laneEnabled
  rw [if_neg (by rw [hflag]; decide), laneOff_state]
  rfl

/-! ### Lane time and the gateway -/

theorem valueCheck_laneTimeSet {b : List Byte} (hlen : b.length = 8) : valueCheck kLaneTimeSet b = (.ok, .bytes b) := by
  obtain ⟨d, hrow, htype, hspan⟩ : ∃ d, objOf kLaneTimeSet = some d ∧ d.type = .dom ∧ d.lens = (8, 8) := by decide +kernel
  unfold valueCheck
  rw [hrow]
  simp [Obj.parse, Obj.inRange, ObjType.size, htype, hspan, hlen]

theorem laneTimeWrite_of_slew {v : List Byte} (hmaster : isMaster c) (hwritten : c.lane.timeWritten = true)
    (hhigh : leNat v ≤ c.clock.laneNs + 1000000000) (hlow : c.clock.laneNs ≤ leNat v + 1000000000) :
    laneTimeWrite v c = (.ok, setLane (fun l => { l with slew := (leNat v : Int) - c.clock.laneNs }) c) := by
  unfold laneTimeWrite
  dsimp only
  rw [if_neg (by rw [hmaster]; decide), if_neg (by rw [hwritten]; decide)]
  exact if_neg (by simp only [Bool.or_eq_true, decide_eq_true_eq]; omega)

theorem gwRequest_of_member {v : List Byte} (hmember : c.lane.state = .member) (hroom : c.gw.waiting.length < 32) :
    ∃ d q, gwRequest v c = (.ok, d) ∧ d.gw = { c.gw with waiting := c.gw.waiting ++ [q] } := by
  unfold gwRequest
  dsimp only
  rw [if_neg (by rw [hmember]; decide), if_neg (Nat.not_le.mpr hroom)]
  exact ⟨_, _, rfl, laneUnicast_part .gw (by decide) ..⟩

theorem readConflict_laneGwResult (c : Chip) : readConflict c kLaneGwResult = false := rfl

theorem laneGwResult_of_reaches (hreach : reaches o kLaneGwResult false c) :
    ∃ v, laneGwResult o c = complete (ownRequest o kLaneGwResult none c) .ok v (gwCollect (placed (ownRequest o kLaneGwResult none c) c)) := by
  obtain ⟨-, -, -, -, -, hcheck, -⟩ := (reaches_iff o _ _ _).mp hreach
  let q : Req := ownRequest o kLaneGwResult none c
  have hcheck' : readCheck (placed q c) o kLaneGwResult = .ok := hcheck
  have hread : readObject (placed q c) o kLaneGwResult = (.ok, readBytes (placed q c) o kLaneGwResult) := by
    unfold readObject
    rw [hcheck']
    exact if_neg (by rw [readConflict_laneGwResult]; decide)
  refine ⟨readBytes (placed q c) o kLaneGwResult, ?_⟩
  have hcarry : carryOut q (placed q c) =
      { status := .ok, value := readBytes (placed q c) o kLaneGwResult, chip := gwCollect (placed q c) } := by
    change carryRead q (placed q c) = _
    unfold carryRead
    rw [show q.origin = o from rfl, show q.k = kLaneGwResult from rfl, if_neg (by decide), hread]
    rfl
  change readNow o kLaneGwResult c = _
  rw [readNow_of_reaches hreach]
  exact serve_of_carryOut hcarry rfl

/-! ### Sources of the Watch -/

theorem srcEnable_setting (i : Fin 256) : directSetting (kSrcEnable i) ∧ admissible (kSrcEnable i) 0 ∧ kSrcEnable i ≠ kCobIdEmcy := by
  have hall : ∀ i : Fin 256, directSetting (kSrcEnable i) = true ∧ admissible (kSrcEnable i) 0 = true ∧
      kSrcEnable i ≠ kCobIdEmcy := by decide +kernel
  exact hall i

/-- The place of a source's enable among the objects. -/
theorem srcEnable_place (i : Fin 256) : 0x2700 ≤ kSrcEnable i / 256 ∧ kSrcEnable i / 256 < 0x2800 ∧ kSrcEnable i % 256 = 1 ∧
    Fin.ofNat 256 (kSrcEnable i / 256 - 0x2700) = i ∧
    kSrcEnable i ≠ kHamletParkMask ∧ kSrcEnable i ≠ kCanEmcyEnable ∧ kSrcEnable i ≠ kConsumerHeartbeatTime 0 := by
  have hall : ∀ i : Fin 256, 0x2700 ≤ kSrcEnable i / 256 ∧ kSrcEnable i / 256 < 0x2800 ∧ kSrcEnable i % 256 = 1 ∧
      Fin.ofNat 256 (kSrcEnable i / 256 - 0x2700) = i ∧
      kSrcEnable i ≠ kHamletParkMask ∧ kSrcEnable i ≠ kCanEmcyEnable ∧ kSrcEnable i ≠ kConsumerHeartbeatTime 0 := by decide +kernel
  exact hall i

theorem effect_srcEnable (i : Fin 256) (c : Chip) : effect (kSrcEnable i) c = when (!flag c (kSrcEnable i)) (clearSource i) c := by
  obtain ⟨hlow, hhigh, hsub, hself, hpark, hemcy, hheartbeat⟩ := srcEnable_place i
  have hout (a b : Nat) (h : 0x2800 ≤ a) : (decide (a ≤ kSrcEnable i / 256) && decide (kSrcEnable i / 256 < b)) = false := by
    rw [decide_eq_false (Nat.not_le.mpr (Nat.lt_of_lt_of_le hhigh h)), Bool.false_and]
  have hne (a : Nat) (h : 0x2800 ≤ a) : kSrcEnable i / 256 ≠ a := fun ha => absurd h (Nat.not_le.mpr (ha ▸ hhigh))
  unfold effect
  simp only [hout 0x2D00 0x2D80 (by decide), hout 0x3000 0x4000 (by decide), hout 0x4000 0x4400 (by decide),
    hout 0x2D80 0x2E00 (by decide), hout 0x2A00 0x2A40 (by decide), if_neg (hne 0x2C42 (by decide)), if_neg (hne 0x2910 (by decide)),
    if_neg (hne 0x2905 (by decide)), if_neg hpark, if_neg hemcy, if_neg hheartbeat, hlow, hhigh, hsub, hself, decide_true,
    Bool.and_self, Bool.false_and, if_true, Bool.false_eq_true, if_false]

theorem srcEnable_clears {i : Fin 256} (hreach : reaches o (kSrcEnable i) true c)
    (hcheck : directCheck o (kSrcEnable i) (.num 0) c = .ok) (hclear : c.watch.srcs[i].state = .clear) (hsorted : odSorted c.od) :
    (writeNum o (kSrcEnable i) 0 c).watch.srcs = c.watch.srcs.set i { c.watch.srcs[i] with times := [] } := by
  obtain ⟨hk, hadm, -⟩ := srcEnable_setting i
  have hflag : flag (settingPut o (kSrcEnable i) 0 c) (kSrcEnable i) = false := flag_settingPut hsorted
  have hwatch : (writeNum o (kSrcEnable i) 0 c).watch = (effect (kSrcEnable i) (settingPut o (kSrcEnable i) 0 c)).watch :=
    writeNum_ownPart (pt := .watch) (by decide) (by decide) (by decide) (by decide) (by decide) (by decide) hreach hadm hk hcheck
  have hwas : (settingPut o (kSrcEnable i) 0 c).watch.srcs[i].state = .clear := hclear
  rw [hwatch, effect_srcEnable, hflag]
  change (clearSource i _).watch.srcs = _
  unfold clearSource
  rw [hwas]
  rfl

/-- The force of a source is a command of its own. -/
theorem srcForce_place (i : Fin 256) : actsAtOnce (kSrcForce i) ∧ kSrcForce i ≠ kBattHeartbeat ∧ kSrcForce i ≠ kFallowRequest ∧
    kSrcForce i ≠ kShipModeArm ∧ kSrcForce i ≠ kShipModeConfirm ∧ kSrcForce i ≠ kSeqCommand ∧ kSrcForce i ≠ kFenceClear ∧
    kSrcForce i ≠ kFenceClearOrigin ∧ kSrcForce i ≠ kLaneTimeSet ∧ kSrcForce i ≠ kLaneGwRequest ∧ kSrcForce i ≠ kAlmExportCtl ∧
    kSrcForce i ≠ kAlmExportReceipt ∧ kSrcForce i ≠ kChipResetCmd ∧
    (0x2700 ≤ kSrcForce i / 256 ∧ kSrcForce i / 256 < 0x2800 ∧ kSrcForce i % 256 = 6) ∧ kSrcForce i / 256 - 0x2700 = i := by
  have hall : ∀ i : Fin 256, actsAtOnce (kSrcForce i) = true ∧ kSrcForce i ≠ kBattHeartbeat ∧ kSrcForce i ≠ kFallowRequest ∧
      kSrcForce i ≠ kShipModeArm ∧ kSrcForce i ≠ kShipModeConfirm ∧ kSrcForce i ≠ kSeqCommand ∧ kSrcForce i ≠ kFenceClear ∧
      kSrcForce i ≠ kFenceClearOrigin ∧ kSrcForce i ≠ kLaneTimeSet ∧ kSrcForce i ≠ kLaneGwRequest ∧ kSrcForce i ≠ kAlmExportCtl ∧
      kSrcForce i ≠ kAlmExportReceipt ∧ kSrcForce i ≠ kChipResetCmd ∧
      (0x2700 ≤ kSrcForce i / 256 ∧ kSrcForce i / 256 < 0x2800 ∧ kSrcForce i % 256 = 6) ∧
      kSrcForce i / 256 - 0x2700 = i := by decide +kernel
  exact hall i

theorem commandWrite_srcForce (i : Fin 256) (v : Val) (d : Chip) :
    commandWrite o (kSrcForce i) v d = some (.ok, raiseKind .forced i 0 0 d) := by
  obtain ⟨-, h1, h2, h3, h4, h5, h6, h7, h8, h9, h10, h11, h12, ⟨hlow, hhigh, hsub⟩, hself⟩ := srcForce_place i
  unfold commandWrite
  dsimp only
  rw [if_neg h1, if_neg h2, if_neg h3, if_neg h4, if_neg h5, if_neg h6, if_neg h7, if_neg h8, if_neg h9, if_neg h10, if_neg h11,
    if_neg h12, if_pos (by simp [hlow, hhigh, hsub]), hself]

theorem srcForce_records {i : Fin 256} {v : Int} (hreach : reaches o (kSrcForce i) true c) (hadm : admissible (kSrcForce i) v) :
    writeDone o (kSrcForce i) c (writeNum o (kSrcForce i) v c) ∧
      (writeNum o (kSrcForce i) v c).watch = (raiseKind .forced i 0 0 c).watch := by
  obtain ⟨honce, -⟩ := srcForce_place i
  obtain ⟨hdone, hpart⟩ := writeNum_of_acted hreach hadm honce (commandWrite_srcForce i _ _)
  refine ⟨hdone, (hpart (pt := .watch) (by decide) (by decide)).trans ?_⟩
  change (raiseKind .forced i 0 0 (placed _ c)).watch = _
  unfold raiseKind
  rw [show (placed (numWrite o (kSrcForce i) v c) c).watch = c.watch from rfl]
  split <;> rfl

/-! ### Exports -/

theorem exportCtl_key : actsAtOnce kAlmExportCtl ∧ admissible kAlmExportCtl 1 ∧ admissible kAlmExportCtl 0 := by decide +kernel

theorem exportStart_freezes (hreach : reaches o kAlmExportCtl true c) (hready : c.alm.frozen.state ≠ .ready) :
    writeDone o kAlmExportCtl c (writeNum o kAlmExportCtl 1 c) ∧
      (writeNum o kAlmExportCtl 1 c).alm = (exportFreeze (placed (numWrite o kAlmExportCtl 1 c) c)).alm := by
  obtain ⟨honce, hadm, -⟩ := exportCtl_key
  have hcommand : commandWrite o kAlmExportCtl (.num 1) (placed (numWrite o kAlmExportCtl 1 c) c) =
      some (.ok, exportFreeze (placed (numWrite o kAlmExportCtl 1 c) c)) := by
    change some (exportCtl 1 _) = _
    unfold exportCtl
    rw [if_pos rfl, show (placed (numWrite o kAlmExportCtl 1 c) c).alm = c.alm from rfl, if_neg (by simpa using hready)]
  obtain ⟨hdone, hpart⟩ := writeNum_of_acted hreach hadm honce hcommand
  exact ⟨hdone, hpart (pt := .alm) (by decide) (by decide)⟩

theorem exportAbandon_empties (hreach : reaches o kAlmExportCtl true c) :
    writeDone o kAlmExportCtl c (writeNum o kAlmExportCtl 0 c) ∧
      (writeNum o kAlmExportCtl 0 c).alm = { c.alm with frozen := {} } := by
  obtain ⟨honce, -, hadm⟩ := exportCtl_key
  obtain ⟨hdone, hpart⟩ := writeNum_of_acted (d := setAlm (fun a => { a with frozen := {} }) (placed (numWrite o kAlmExportCtl 0 c) c))
    hreach hadm honce rfl
  exact ⟨hdone, hpart (pt := .alm) (by decide) (by decide)⟩

/-- A record marks a frozen stream at most as severe (R398). -/
theorem enterAt_frozen (places : Nat) (r : Record) (c : Chip) :
    ∃ severe, (enterAt places r c).alm.frozen = { c.alm.frozen with severe := severe } := by
  unfold enterAt
  extract_lets a isEvent due n m
  by_cases hfull : places < a.buffer.length + if due then 2 else 1
  · rw [if_pos hfull]
    exact ⟨c.alm.frozen.severe, rfl⟩
  · rw [if_neg hfull]
    exact ⟨_, rfl⟩

theorem receipted_frozen (c : Chip) : ∃ severe, (receipted c).alm.frozen = { c.alm.frozen with state := .receipted, severe := severe } :=
  enterAt_frozen ..

/-! ### What waits for the apply tick -/

theorem enqueue_unordered {i : Item} (hi : itemOrder c i = none) :
    enqueue i c = setHampers (fun h => { h with queue := h.queue ++ [i] }) c := by
  unfold enqueue
  simp only [hi]
  exact congrArg (setHampers · c) (funext fun h => congrArg (fun q => { h with queue := q }) (placeItem_last (fun _ => rfl) i h.queue))

theorem twinExercise_waits {v : Int} (hreach : reaches o kTwinExercise true c) (hadm : admissible kTwinExercise v)
    (hallowed : exerciseAllowed c) : writeNum o kTwinExercise v c =
      complete (numWrite o kTwinExercise v c) .ok []
        (setHampers (fun h => { h with queue := h.queue ++ [.exercise] }) (placed (numWrite o kTwinExercise v c) c)) := by
  obtain ⟨-, -, -, -, -, ⟨hcheck, -⟩, -⟩ := (reaches_iff o _ _ _).mp hreach
  let q : Req := numWrite o kTwinExercise v c
  have hcheck' : writeCheck (placed q c) o kTwinExercise false = .ok := hcheck
  have hallowed' : exerciseAllowed (placed q c) := hallowed
  have hcarry : carryOut q (placed q c) = { status := .ok, chip := enqueue .exercise (placed q c) } := by
    change carryWrite q (rendered kTwinExercise v) (placed q c) = _
    unfold carryWrite
    dsimp only
    rw [show q.origin = o from rfl, show q.k = kTwinExercise from rfl, hcheck', valueCheck_rendered hadm]
    dsimp only
    rw [if_neg (by decide), if_neg (by decide), if_neg (by decide), if_neg (by decide), if_pos rfl, if_pos hallowed']
  rw [enqueue_unordered rfl] at hcarry
  rw [writeNum_eq, writeBytes_of_reaches _ hreach]
  exact serve_of_carryOut hcarry rfl

theorem paramStoreCmd_waits (hreach : reaches o kParamStoreCmd true c) (hidle : c.boot.store ≠ .running)
    (hsupply : c.alm.direct = false) : writeNum o kParamStoreCmd 0x5A17 c =
      setReq c.market.nextId (fun x => { x with held := true })
        (setHampers (fun h => { h with queue := h.queue ++ [.store] }) (placed (numWrite o kParamStoreCmd 0x5A17 c) c)) := by
  obtain ⟨-, -, -, -, -, ⟨hcheck, -⟩, -⟩ := (reaches_iff o _ _ _).mp hreach
  let q : Req := numWrite o kParamStoreCmd 0x5A17 c
  have hcheck' : writeCheck (placed q c) o kParamStoreCmd false = .ok := hcheck
  have hfree : (c.boot.store == .running || supplyLow c) = false := by
    unfold supplyLow
    rw [hsupply, Bool.or_false]
    exact beq_eq_false_iff_ne.mpr hidle
  have hfree' : (((placed q c).boot.store == .running || supplyLow (placed q c)) = true) = False :=
    eq_false (by rw [show (placed q c).boot.store = c.boot.store from rfl, show supplyLow (placed q c) = supplyLow c from rfl, hfree]; decide)
  have hcarry : carryOut q (placed q c) = { status := .ok, held := true, chip := enqueue .store (placed q c) } := by
    change carryWrite q (rendered kParamStoreCmd 0x5A17) (placed q c) = _
    unfold carryWrite
    dsimp only
    rw [show q.origin = o from rfl, show q.k = kParamStoreCmd from rfl, hcheck', valueCheck_rendered (by decide +kernel)]
    dsimp only
    rw [if_neg (by decide), if_neg (by decide), if_neg (by decide), if_pos rfl, if_neg (by rw [hfree']; exact not_false)]
  rw [enqueue_unordered rfl] at hcarry
  rw [writeNum_eq, writeBytes_of_reaches _ hreach]
  change serve q (placed q c) = _
  unfold serve
  rw [hcarry]
  rfl

/-! ### The reset command -/

theorem chipResetCmd_of_reaches (hreach : reaches o kChipResetCmd true c) : writeNum o kChipResetCmd 0x0C5D c =
    chipReset .command false (complete (numWrite o kChipResetCmd 0x0C5D c) .ok [] (placed (numWrite o kChipResetCmd 0x0C5D c) c)) := by
  obtain ⟨-, -, -, -, -, ⟨hcheck, -⟩, -⟩ := (reaches_iff o _ _ _).mp hreach
  let q : Req := numWrite o kChipResetCmd 0x0C5D c
  have hcheck' : writeCheck (placed q c) o kChipResetCmd false = .ok := hcheck
  have hcarry : carryOut q (placed q c) = { status := .ok, chip := placed q c } := by
    change carryWrite q (rendered kChipResetCmd 0x0C5D) (placed q c) = _
    unfold carryWrite
    dsimp only
    rw [show q.origin = o from rfl, show q.k = kChipResetCmd from rfl, hcheck', valueCheck_rendered (by decide +kernel)]
    rfl
  rw [writeNum_eq, writeBytes_of_reaches _ hreach]
  exact serve_of_chipReset rfl hcarry

end

/-- Settles O27: each write reaches its object, whose command or effect changes its own part. -/
theorem laneWatchExportAndResetWrites : Obligations.LaneWatchExportAndResetWrites := by
  refine ⟨?joins, ?leaves, ?time, ?request, ?result, ?srcEnable, ?srcForce, ?freeze, ?abandon, ?receipt, ?exercise, ?reset, ?store⟩
  case joins =>
    intro s o hreach hcheck hstate hdup hlink hlife hsorted
    obtain ⟨hk, hadm, -, hne⟩ := laneEnable_setting
    refine ⟨writeNum o kLaneEnable 1 s.chip, rfl, laneEnable_joins hreach hcheck hstate hdup hlink hlife hsorted, ?_,
      writeDone_writeNum hreach hadm hk hcheck⟩
    exact congrArg (· != 0) (num_writeNum hreach hadm hk hcheck hsorted hne)
  case leaves =>
    intro s o hreach hcheck hsorted
    obtain ⟨hk, -, hadm, hne⟩ := laneEnable_setting
    refine ⟨writeNum o kLaneEnable 0 s.chip, rfl, laneEnable_leaves hreach hcheck hsorted, ?_, writeDone_writeNum hreach hadm hk hcheck⟩
    exact congrArg (· != 0) (num_writeNum hreach hadm hk hcheck hsorted hne)
  case time =>
    intro s o v hreach hlen hmaster hwritten hhigh hlow
    have hact := laneTimeWrite_of_slew (c := placed (byteWrite o kLaneTimeSet v s.chip) s.chip) hmaster hwritten hhigh hlow
    obtain ⟨hdone, hpart⟩ := writeBytes_of_acted hreach (valueCheck_laneTimeSet hlen) (by decide +kernel) (congrArg some hact)
    exact ⟨writeBytes o kLaneTimeSet v s.chip, guarded_next (by simp [hlen]) s _, hpart (pt := .lane) (by decide) (by decide),
      hpart (pt := .clock) (by decide) (by decide), hdone⟩
  case request =>
    intro s o v hreach hval hmember hroom
    obtain ⟨d, q, hact, hgw⟩ := gwRequest_of_member (c := placed (byteWrite o kLaneGwRequest v s.chip) s.chip) (v := v) hmember hroom
    obtain ⟨hdone, hpart⟩ := writeBytes_of_acted hreach hval (by decide +kernel) (congrArg some hact)
    have hgw' : (writeBytes o kLaneGwRequest v s.chip).gw = { s.chip.gw with waiting := s.chip.gw.waiting ++ [q] } :=
      (hpart (pt := .gw) (by decide) (by decide)).trans hgw
    refine ⟨writeBytes o kLaneGwRequest v s.chip, rfl, ?_, ?_, ?_, hdone⟩
    · rw [hgw', List.length_append, List.length_singleton]
    · rw [hgw']
      exact List.prefix_append ..
    · rw [hgw']
  case result =>
    intro s o hreach
    obtain ⟨v, hread⟩ := laneGwResult_of_reaches hreach
    refine ⟨laneGwResult o s.chip, rfl, ?_, v, ?_⟩
    · rw [hread]
      exact complete_own_part (pt := .gw) (by decide) (by decide) rfl rfl v _
    · rw [hread]
      exact complete_getLast (ownRequest o kLaneGwResult none s.chip) v _ rfl
  case srcEnable =>
    intro s o i hreach hcheck hclear hsorted
    obtain ⟨hk, hadm, hne⟩ := srcEnable_setting i
    refine ⟨writeNum o (kSrcEnable i) 0 s.chip, rfl, srcEnable_clears hreach hcheck hclear hsorted, ?_,
      writeDone_writeNum hreach hadm hk hcheck⟩
    exact congrArg (· != 0) (num_writeNum hreach hadm hk hcheck hsorted hne)
  case srcForce =>
    intro s o i v hreach hrange hadm
    obtain ⟨hdone, hwatch⟩ := srcForce_records hreach hadm
    exact ⟨writeNum o (kSrcForce i) v s.chip, guarded_next hrange s _, hwatch, hdone⟩
  case freeze =>
    intro s o hreach hready
    obtain ⟨hdone, halm⟩ := exportStart_freezes hreach hready
    have hclock : (flush (placed (numWrite o kAlmExportCtl 1 s.chip) s.chip)).clock = s.chip.clock := flush_part .clock (by decide) _
    refine ⟨writeNum o kAlmExportCtl 1 s.chip, rfl, ?_, ?_, ?_, hdone⟩
    · rw [halm]
      rfl
    · rw [halm]
      change nowMs (flush (placed (numWrite o kAlmExportCtl 1 s.chip) s.chip)) = _
      unfold nowMs
      rw [hclock]
    · unfold storedInOrder stored
      rw [halm]
      rfl
  case abandon =>
    intro s o hreach
    obtain ⟨hdone, halm⟩ := exportAbandon_empties hreach
    exact ⟨writeNum o kAlmExportCtl 0 s.chip, rfl, halm, hdone⟩
  case receipt =>
    intro s o digest hreach hready hdigest
    have hlen : digest.length = 32 := by rw [hdigest]; exact Vector.length_toList
    have hwrite := (exportReceipt_of_ready hlen hreach hready rfl).trans (if_pos hdigest)
    obtain ⟨severe, hfrozen⟩ := receipted_frozen (placed (ownRequest o kAlmExportReceipt (some digest) s.chip) s.chip)
    have hfrozen' : (exportReceipt o digest s.chip).alm.frozen = { s.chip.alm.frozen with state := .receipted, severe := severe } := by
      rw [hwrite, complete_alm]
      exact hfrozen
    refine ⟨exportReceipt o digest s.chip, rfl, ?_, ?_⟩
    · rw [hfrozen']
    · rw [hwrite]
      exact complete_getLast _ [] _ rfl
  case exercise =>
    intro s o v hreach hrange hadm hallowed
    have hwrite := twinExercise_waits hreach hadm hallowed
    refine ⟨writeNum o kTwinExercise v s.chip, guarded_next hrange s _, ?_, ?_⟩
    · rw [hwrite, complete_hampers]
      rfl
    · rw [hwrite]
      exact writeDone_complete o kTwinExercise v s.chip _
  case reset =>
    intro s o hreach
    obtain ⟨hlive, -⟩ := (reaches_iff o _ _ s.chip).mp hreach
    have hwrite := chipResetCmd_of_reaches hreach
    generalize hdone : complete (numWrite o kChipResetCmd 0x0C5D s.chip) .ok [] (placed (numWrite o kChipResetCmd 0x0C5D s.chip) s.chip) = d
      at hwrite
    have hpart {pt : Part} (hhamlets : pt ≠ .hamlets) (hmarket : pt ≠ .market) : part pt d = part pt s.chip := by
      rw [← hdone, complete_own_part hhamlets hmarket rfl rfl]
      exact placed_part hmarket _ s.chip
    have hboot : d.boot = s.chip.boot := hpart (pt := .boot) (by decide) (by decide)
    have hreset : resettable d := by
      simp only [live, Bool.and_eq_true, beq_iff_eq] at hlive
      unfold resettable
      rw [hboot, hlive.1]
    obtain ⟨hphase, hcause⟩ := chipReset_boot hreset .command false
    refine ⟨writeNum o kChipResetCmd 0x0C5D s.chip, rfl, ?_, ?_, ?_, ?_⟩
    · rw [hwrite, hphase]
    · rw [hwrite, hcause]
    · rw [hwrite]
      refine (chipReset_part_fuses ..).trans ?_
      exact hpart (pt := .fuses) (by decide) (by decide)
    · have hclock : (closing d).clock = s.chip.clock :=
        (closing_part (pt := .clock) (by decide) (by decide) (by decide) (by decide) (by decide) (by decide) (by decide) (by decide) d).trans
          (hpart (pt := .clock) (by decide) (by decide))
      rw [hwrite, chipReset_of_resettable hreset]
      change (closing d).clock.us = _
      rw [hclock]
  case store =>
    intro s o hreach hidle hsupply
    have hwrite := paramStoreCmd_waits hreach hidle hsupply
    refine ⟨writeNum o kParamStoreCmd 0x5A17 s.chip, rfl, ?_, ?_⟩
    · rw [hwrite]
      rfl
    · rw [hwrite]
      rfl

end Sys2Proof.Machine
end

section
/-! The value that a write puts in force stays in force through what it does (R246, R260, R472). -/

namespace Sys2Proof.Machine

/-- The value of an object, and what its default depends on, are kept. -/
structure KeepsValue (k : Key) (c d : Chip) : Prop where
  value : odFind d.od k = odFind c.od k
  fuses : d.fuses = c.fuses
  can : k = kCobIdEmcy → d.can = c.can

namespace KeepsValue

variable {k : Key} {c d e : Chip}

theorem refl (k : Key) (c : Chip) : KeepsValue k c c := ⟨rfl, rfl, fun _ => rfl⟩

theorem trans (hcd : KeepsValue k c d) (hde : KeepsValue k d e) : KeepsValue k c e :=
  ⟨hde.value.trans hcd.value, hde.fuses.trans hcd.fuses, fun h => (hde.can h).trans (hcd.can h)⟩

theorem of_parts (hod : part .od d = part .od c) (hfuses : part .fuses d = part .fuses c) (hcan : part .can d = part .can c) :
    KeepsValue k c d := ⟨congrArg (odFind · k) hod, hfuses, fun _ => hcan⟩

theorem each {α : Type} {f : α → Chip → Chip} {l : List α} (h : ∀ a ∈ l, ∀ c, KeepsValue k c (f a c)) (c : Chip) :
    KeepsValue k c (each l f c) :=
  each_keeps (P := fun d => KeepsValue k c d) (fun a ha d hd => hd.trans (h a ha d)) (refl k c)

theorem when {f : Chip → Chip} (h : ∀ c, KeepsValue k c (f c)) (b : Bool) (c : Chip) : KeepsValue k c (when b f c) := by
  cases b
  · exact refl k c
  · exact h c

theorem cfg (h : KeepsValue k c d) : cfg d k = cfg c k := by
  have hdefault : defaultOf d k = defaultOf c k := by
    unfold defaultOf
    rw [h.fuses]
    by_cases hk : k = kCobIdEmcy
    · rw [h.can hk]
    · simp only [if_neg hk]
  unfold Machine.cfg
  rw [h.value, hdefault]

theorem put {q : Key} (hne : k ≠ q) (v : Val) (c : Chip) : KeepsValue k c (put q v c) := by
  refine ⟨?_, rfl, fun _ => rfl⟩
  change odFind (if v = defaultOf c q then odErase c.od q else odInsert c.od q v) k = _
  split
  · exact odFind_odErase_other c.od hne
  · exact odFind_odInsert_other c.od v hne

theorem storeValue {q : Key} (hne : k ≠ q) (v : Val) (c : Chip) : KeepsValue k c (storeValue q v c) := by
  unfold Machine.storeValue
  split
  · exact of_parts rfl rfl rfl
  · split
    · exact of_parts rfl rfl rfl
    · exact put hne _ c

theorem loadChemistries (c : Chip) : KeepsValue k c (loadChemistries [k] c) := by
  unfold Machine.loadChemistries
  refine each (fun s _ d => ?_) c
  unfold storeAll
  refine each (fun e he d => storeValue (fun hk => ?_) e.2 d) d
  have hother := (List.mem_filter.mp he).2
  simp [hk] at hother

theorem effect (k : Key) (c : Chip) : KeepsValue k c (effect k c) := by
  refine ⟨?_, ?_, fun hk => by rw [hk]; rfl⟩
  · have hod : part .od (Machine.effect k c) = part .od c := by simp
    exact congrArg (odFind · k) hod
  · change part .fuses (Machine.effect k c) = part .fuses c
    simp

/-- What a value in force does leaves it in force. -/
theorem applyWrites {v : Val} (htag : k ≠ kAssetTag) (hresistance : ∀ n : Fin 4, k ≠ kStrResistance n) (c : Chip) :
    KeepsValue k (Machine.put k v c) (applyWrites [(k, v)] c) := by
  have hnone : (firstFin 4 fun s => k == kStrResistance s) = none := by
    unfold firstFin
    exact List.find?_eq_none.mpr fun n _ => by simpa using hresistance n
  have hstore : storeAll [(k, v)] c = Machine.put k v c := by
    change Machine.storeValue k v c = _
    unfold Machine.storeValue
    rw [hnone]
    exact if_neg htag
  unfold Machine.applyWrites
  dsimp only [List.map]
  rw [hstore]
  have hloaded : KeepsValue k (Machine.put k v c) (Machine.loadChemistries [k] (Machine.put k v c)) := loadChemistries _
  have hacts : KeepsValue k (Machine.put k v c) (Machine.each [k] Machine.effect (Machine.loadChemistries [k] (Machine.put k v c))) :=
    hloaded.trans (effect k _)
  have hloads (l : List (Fin 16)) (d : Chip) : KeepsValue k d (Machine.each l beginLoad d) :=
    each (fun m _ d => of_parts (by simp) (by simp) (by simp)) d
  have hmarked (b : Bool) (d : Chip) : KeepsValue k d (Machine.when b (setHampers fun h => { h with derive := true }) d) :=
    when (f := setHampers fun h => { h with derive := true }) (fun _ => of_parts rfl rfl rfl) b d
  have hnoted (d : Chip) : KeepsValue k d (noteChanged [k] d) := of_parts (by simp) (by simp) (by simp)
  exact ((hacts.trans (hloads _ _)).trans (hmarked _ _)).trans (hnoted _)

end KeepsValue

/-- A value that is put is in force. -/
theorem cfg_put {c : Chip} (hsorted : odSorted c.od) (k : Key) (v : Val) : cfg (put k v c) k = v :=
  (settingReadsBack c k v hsorted).1

end Sys2Proof.Machine
end

section
/-! Requests of the market: writes, dispatch, completions and fences (R256 to R268, R472). -/

namespace Sys2Proof.Machine

/-! ### A direct write of bytes -/

theorem ite_some_none {α : Type} {p : Prop} [Decidable p] {a : α} {x : Option α} (h : (if p then some a else x) = none) :
    ¬p ∧ x = none := by
  by_cases hp : p
  · rw [if_pos hp] at h
    exact absurd h (by simp)
  · exact ⟨hp, by rwa [if_neg hp] at h⟩

/-- Whether an object acts on a write by a rule of its own does not depend on the chip. -/
theorem commandWrite_none {o : Origin} {k : Key} {v : Val} {c : Chip} (h : commandWrite o k v c = none) (d : Chip) :
    commandWrite o k v d = none := by
  have hown : ownCommand k = false := by
    unfold commandWrite at h
    dsimp only at h
    obtain ⟨h1, h⟩ := ite_some_none h
    obtain ⟨h2, h⟩ := ite_some_none h
    obtain ⟨h3, h⟩ := ite_some_none h
    obtain ⟨h4, h⟩ := ite_some_none h
    obtain ⟨h5, h⟩ := ite_some_none h
    obtain ⟨h6, h⟩ := ite_some_none h
    obtain ⟨h7, h⟩ := ite_some_none h
    obtain ⟨h8, h⟩ := ite_some_none h
    obtain ⟨h9, h⟩ := ite_some_none h
    obtain ⟨h10, h⟩ := ite_some_none h
    obtain ⟨h11, h⟩ := ite_some_none h
    obtain ⟨h12, h⟩ := ite_some_none h
    obtain ⟨h13, -⟩ := ite_some_none h
    simp only [ownCommand, Bool.or_eq_false_iff, beq_eq_false_iff_ne]
    exact ⟨⟨⟨⟨⟨⟨⟨⟨⟨⟨⟨⟨h1, h2⟩, h3⟩, h4⟩, h5⟩, h6⟩, h7⟩, h8⟩, h9⟩, h10⟩, h11⟩, h12⟩, eq_false_of_ne_true h13⟩
  rw [commandWrite_of_family hown] at h ⊢
  cases htrace : firstFin 16 fun m => k == kMillTraceCtl m with
  | some m => rw [htrace] at h; exact absurd h (by simp)
  | none =>
    cases hstring : firstFin 4 fun s => k == kStrRequalify s with
    | some n => rw [htrace, hstring] at h; exact absurd h (by simp)
    | none => rfl

/-- A write that passes its checks takes effect (R257, R261). -/
theorem writeBytes_of_direct {o : Origin} {k : Key} {b : List Byte} {v : Val} {c : Chip} (hreach : reaches o k true c)
    (hval : valueCheck k b = (.ok, v)) (hk : actsAtOnce k) (hnone : commandWrite o k v c = none) (hdirect : directCheck o k v c = .ok) :
    writeBytes o k b c = complete (byteWrite o k b c) .ok []
      (when (governs k) derive (applyWrites [(k, v)] (placed (byteWrite o k b c) c))) := by
  obtain ⟨-, -, -, -, -, ⟨hcheck, -⟩, -⟩ := (reaches_iff o k _ c).mp hreach
  have hreset : (k == kChipResetCmd) = false := by
    simp only [actsAtOnce, Bool.and_eq_true, bne_iff_ne] at hk
    exact beq_eq_false_iff_ne.mpr hk.2
  have hcarry : carryOut (byteWrite o k b c) (placed (byteWrite o k b c) c) =
      { status := .ok, chip := when (governs k) derive (applyWrites [(k, v)] (placed (byteWrite o k b c) c)) } :=
    carryWrite_of_direct (q := byteWrite o k b c) hk hcheck hval (commandWrite_none hnone _)
      ((directCheck_placed o k v (byteWrite o k b c) c).trans hdirect)
  rw [writeBytes_of_reaches _ hreach]
  exact serve_of_carryOut hcarry hreset

/-- A direct write is in force once it completes (R246). -/
theorem cfg_writeBytes {o : Origin} {k : Key} {b : List Byte} {v : Val} {c : Chip} (hreach : reaches o k true c)
    (hval : valueCheck k b = (.ok, v)) (hk : actsAtOnce k) (hnone : commandWrite o k v c = none) (hdirect : directCheck o k v c = .ok)
    (hsorted : odSorted c.od) (htag : k ≠ kAssetTag) (hresistance : ∀ n : Fin 4, k ≠ kStrResistance n) :
    cfg (writeBytes o k b c) k = v := by
  let d : Chip := placed (byteWrite o k b c) c
  have hacts : KeepsValue k (put k v d) (applyWrites [(k, v)] d) := KeepsValue.applyWrites htag hresistance d
  have hderives (e : Chip) : KeepsValue k e (when (governs k) derive e) :=
    KeepsValue.when (fun e => KeepsValue.of_parts (by simp) (by simp) (by simp)) _ e
  have hcompletes (q : Req) (hq : q.reply = .own) (e : Chip) : KeepsValue k e (complete q .ok [] e) :=
    KeepsValue.of_parts (complete_own_part (by decide) (by decide) hq rfl [] e) (complete_own_part (by decide) (by decide) hq rfl [] e)
      (complete_own_part (by decide) (by decide) hq rfl [] e)
  rw [writeBytes_of_direct hreach hval hk hnone hdirect,
    ((hacts.trans (hderives _)).trans (hcompletes (byteWrite o k b c) rfl _)).cfg]
  exact cfg_put (c := d) hsorted k v

/-! ### A write that waits for the apply instant -/

theorem applyInstant_ne {k : Key} (h : applyInstant k) : k ≠ kHamperStage ∧ k / 256 ≠ 0x2123 ∧ k / 256 ≠ 0x2124 ∧
    k ≠ kHamperCommand ∧ k ≠ kParamStoreCmd ∧ k ≠ kTwinExercise := by
  refine ⟨?_, fun hk => ?_, fun hk => ?_, ?_, ?_, ?_⟩
  case refine_2 => simp [applyInstant, hk] at h
  case refine_3 => simp [applyInstant, hk] at h
  all_goals
    rintro rfl
    exact absurd h (by decide)

theorem carryWrite_of_applyInstant {q : Req} {b : List Byte} {v : Val} {c : Chip} (hk : applyInstant q.k)
    (hcheck : writeCheck c q.origin q.k false = .ok) (hval : valueCheck q.k b = (.ok, v)) :
    carryWrite q b c = { status := .ok, held := true, chip := enqueue (.implicit q.origin q.id q.k v) c } := by
  obtain ⟨hstage, htime, hnodes, hcommand, hstore, hexercise⟩ := applyInstant_ne hk
  unfold carryWrite
  dsimp only
  rw [hcheck, hval]
  dsimp only
  rw [if_neg hstage, if_neg (by simp [htime, hnodes]), if_neg hcommand, if_neg hstore, if_neg hexercise, if_pos hk]

/-- A write to an apply-instant object waits as an implicit hamper behind those admitted earlier (R257, R280). -/
theorem writeBytes_of_applyInstant {o : Origin} {k : Key} {b : List Byte} {v : Val} {c : Chip} (hreach : reaches o k true c)
    (hval : valueCheck k b = (.ok, v)) (hk : applyInstant k)
    (horder : c.hampers.queue.all fun i => (itemOrder c i).all (· ≤ c.market.nextId)) :
    writeBytes o k b c = setReq c.market.nextId (fun x => { x with held := true })
      (setHampers (fun h => { h with queue := h.queue ++ [.implicit o c.market.nextId k v] }) (placed (byteWrite o k b c) c)) := by
  obtain ⟨-, -, -, -, -, ⟨hcheck, -⟩, -⟩ := (reaches_iff o _ _ c).mp hreach
  let q : Req := byteWrite o k b c
  have hcheck' : writeCheck (placed q c) o k false = .ok := hcheck
  have hbehind : enqueue (.implicit o c.market.nextId k v) (placed q c) =
      setHampers (fun h => { h with queue := h.queue ++ [.implicit o c.market.nextId k v] }) (placed q c) := by
    unfold enqueue setHampers
    dsimp only
    rw [placeItem_behind _ fun i hi => ?_]
    have hother := List.all_eq_true.mp horder i hi
    change (match some c.market.nextId, itemOrder c i with
      | some a, some b => decide (a < b)
      | _, _ => false) = false
    cases hplace : itemOrder c i with
    | none => rfl
    | some b =>
      rw [hplace] at hother
      simpa using hother
  have hcarry : carryOut q (placed q c) = { status := .ok, held := true, chip := enqueue (.implicit o c.market.nextId k v) (placed q c) } :=
    carryWrite_of_applyInstant (q := q) hk hcheck' hval
  rw [hbehind] at hcarry
  rw [writeBytes_of_reaches _ hreach]
  change serve q (placed q c) = _
  unfold serve
  rw [hcarry]
  rfl

/-! ### Dispatch -/

/-- The request that goes next is one of its pair. -/
theorem nextOf_pair {o : Origin} {k : Key} {c : Chip} {q : Req} (h : nextOf c o k = some q) : q.k = k := by
  unfold nextOf at h
  dsimp only at h
  split at h
  · exact absurd h (by simp)
  · have hpair := (List.mem_filter.mp (List.mem_of_mem_head? h)).2
    simp only [Bool.and_eq_true, beq_iff_eq] at hpair
    exact hpair.2

theorem marketDispatch_of_next {o : Origin} {k : Key} {c : Chip} {q : Req} (hlive : live c) (h : nextOf c o k = some q) :
    marketDispatch o k c = dispatch q c := by
  unfold marketDispatch
  rw [if_neg (by rw [hlive]; decide), h]

/-- Nothing waits towards the green. -/
def stilesEmpty (c : Chip) : Prop := ∀ g : Fin 27, c.hamlets[g].outbox = []

theorem greenServe_of_empty (n : Nat) {c : Chip} (hempty : stilesEmpty c) : greenServe n c = c := by
  have hcan (g : Fin 27) : greenCan c g = false := by
    unfold greenCan
    rw [hempty g]
  cases n with
  | zero => rfl
  | succ n =>
    have hnone : servedNext c = none := by
      unfold servedNext
      rw [if_neg (by rw [hcan]; decide)]
      exact List.find?_eq_none.mpr fun g _ => by rw [hcan]; decide
    unfold greenServe
    rw [hnone]

theorem fin_sub_add (g h : Fin 27) : g - h + h = g := by
  apply Fin.ext
  rw [Fin.val_add, Fin.val_sub]
  omega

/-- The only stile with a packet is served, where its packet's hamlet has room (R25). -/
theorem servedNext_of_lone {src dst : Fin 27} {p : Packet} {c : Chip} (hself : c.hamlets[src].outbox = [(dst, p)])
    (hothers : ∀ g : Fin 27, g ≠ src → c.hamlets[g].outbox = []) (hroom : c.hamlets[dst].inbox.length < 16) :
    servedNext c = some src := by
  have hcan : greenCan c src = true := by
    unfold greenCan
    rw [hself]
    exact decide_eq_true hroom
  have honly {g : Fin 27} (h : greenCan c g = true) : g = src := by
    refine Decidable.byContradiction fun hne => ?_
    unfold greenCan at h
    rw [hothers g hne] at h
    exact Bool.false_ne_true h
  unfold servedNext
  split
  case isTrue h => rw [honly h]
  case isFalse =>
    have hmem : src ∈ (List.finRange 27).map (· + c.green.turn) :=
      List.mem_map.mpr ⟨src - c.green.turn, List.mem_finRange _, fin_sub_add _ _⟩
    obtain ⟨g, hg⟩ := Option.isSome_iff_exists.mp (List.find?_isSome.mpr ⟨src, hmem, hcan⟩)
    rw [hg, honly (List.find?_some hg)]

theorem greenLoad_pos {src : Fin 27} {c : Chip} (h : c.hamlets[src].outbox ≠ []) : 0 < greenLoad c := by
  have hmem : c.hamlets[src].outbox.length + c.hamlets[src].unsent.length ∈
      c.hamlets.toList.map fun x => x.outbox.length + x.unsent.length :=
    List.mem_map.mpr ⟨c.hamlets[src], by simp, rfl⟩
  unfold greenLoad
  rw [← List.sum_eq_foldl]
  have hlen : 0 < c.hamlets[src].outbox.length := List.length_pos_iff.mpr h
  exact List.sum_pos_iff_exists_pos_nat.mpr ⟨_, hmem, by omega⟩

/-- A packet to a hamlet that takes none waits at its stile (R15, R21). -/
theorem greenServe_of_lone {src dst : Fin 27} {p : Packet} {c : Chip} (hself : c.hamlets[src].outbox = [(dst, p)])
    (hrest : c.hamlets[src].unsent = []) (hothers : ∀ g : Fin 27, g ≠ src → c.hamlets[g].outbox = [])
    (hroom : c.hamlets[dst].inbox.length < 16) (hshut : hamletShut c.hamlets[dst] = true) :
    (greenServe (greenLoad c) c).market = c.market ∧
      (greenServe (greenLoad c) c).hamlets[dst].inbox = c.hamlets[dst].inbox ++ [p] := by
  obtain ⟨n, hn⟩ := Nat.exists_eq_succ_of_ne_zero (Nat.pos_iff_ne_zero.mp (greenLoad_pos (src := src) (c := c) (by rw [hself]; exact List.cons_ne_nil _ _)))
  let e : Chip := setHamlet src (fun x => fillStile { x with outbox := [] }) (setGreen (fun g => { g with turn := if src = 0 then g.turn else src + 1 }) c)
  have hkept : e.hamlets[dst].inbox = c.hamlets[dst].inbox ∧ hamletShut e.hamlets[dst] = true := by
    change (setHamlet src _ (setGreen _ c)).hamlets[dst].inbox = _ ∧ hamletShut (setHamlet src _ (setGreen _ c)).hamlets[dst] = true
    by_cases hd : src = dst
    · subst hd
      rw [setHamlet_self]
      exact ⟨rfl, hshut⟩
    · rw [setHamlet_hamlets_ne hd]
      exact ⟨rfl, hshut⟩
  have hmove : greenMove src c = setHamlet dst (fun x => { x with inbox := x.inbox ++ [p] }) e := by
    unfold greenMove
    rw [hself]
    change arrive dst p e = _
    unfold arrive
    rw [hkept.2]
  have hidle : stilesEmpty (greenMove src c) := by
    intro g
    have hempty : e.hamlets[g].outbox = [] := by
      change (setHamlet src _ (setGreen _ c)).hamlets[g].outbox = _
      by_cases hg : src = g
      · subst hg
        rw [setHamlet_self]
        change (([] : List (Fin 27 × Packet)) ++ c.hamlets[src].unsent).take 16 = []
        rw [hrest]
        rfl
      · rw [setHamlet_hamlets_ne hg]
        exact hothers g (Ne.symm hg)
    rw [hmove]
    by_cases hg : dst = g
    · subst hg
      rw [setHamlet_self]
      exact hempty
    · rw [setHamlet_hamlets_ne hg]
      exact hempty
  have hserve : greenServe (greenLoad c) c = setHamlet dst (fun x => { x with inbox := x.inbox ++ [p] }) e := by
    rw [hn]
    unfold greenServe
    rw [servedNext_of_lone hself hothers hroom]
    exact (greenServe_of_empty n hidle).trans hmove
  rw [hserve]
  refine ⟨rfl, ?_⟩
  rw [setHamlet_self, hkept.1]

/-- A packet that is sent while nothing else waits stands at the stile of a hamlet that takes none. -/
theorem sendPacket_of_shut {src dst : Fin 27} {p : Packet} {c : Chip}
    (hempty : ∀ g : Fin 27, c.hamlets[g].outbox = [] ∧ c.hamlets[g].unsent = []) (hshut : hamletShut c.hamlets[dst] = true)
    (hroom : c.hamlets[dst].inbox.length < 16) :
    (sendPacket src dst p c).market = c.market ∧ (sendPacket src dst p c).hamlets[dst].inbox = c.hamlets[dst].inbox ++ [p] := by
  let d : Chip := requestWake dst c
  have hwake (g : Fin 27) : d.hamlets[g].outbox = c.hamlets[g].outbox ∧ d.hamlets[g].unsent = c.hamlets[g].unsent ∧
      d.hamlets[g].inbox = c.hamlets[g].inbox ∧ hamletShut d.hamlets[g] = hamletShut c.hamlets[g] := by
    change (setHamlet dst _ c).hamlets[g].outbox = _ ∧ (setHamlet dst _ c).hamlets[g].unsent = _ ∧
      (setHamlet dst _ c).hamlets[g].inbox = _ ∧ hamletShut (setHamlet dst _ c).hamlets[g] = _
    by_cases hg : dst = g
    · subst hg
      rw [setHamlet_self]
      exact ⟨rfl, rfl, rfl, rfl⟩
    · rw [setHamlet_hamlets_ne hg]
      exact ⟨rfl, rfl, rfl, rfl⟩
  let e : Chip := setHamlet src (fun x => fillStile { x with unsent := x.unsent ++ [(dst, p)] }) d
  have hfilled : e.hamlets[src].outbox = [(dst, p)] ∧ e.hamlets[src].unsent = [] := by
    obtain ⟨hout, hunsent, -, -⟩ := hwake src
    change (setHamlet src _ d).hamlets[src].outbox = _ ∧ (setHamlet src _ d).hamlets[src].unsent = _
    rw [setHamlet_self]
    change (d.hamlets[src].outbox ++ (d.hamlets[src].unsent ++ [(dst, p)])).take 16 = _ ∧
      (d.hamlets[src].outbox ++ (d.hamlets[src].unsent ++ [(dst, p)])).drop 16 = _
    rw [hout, hunsent, (hempty src).1, (hempty src).2]
    exact ⟨rfl, rfl⟩
  have hothers (g : Fin 27) (hg : g ≠ src) : e.hamlets[g].outbox = [] := by
    change (setHamlet src _ d).hamlets[g].outbox = _
    rw [setHamlet_hamlets_ne (Ne.symm hg), (hwake g).1, (hempty g).1]
  have hdst : e.hamlets[dst].inbox = c.hamlets[dst].inbox ∧ hamletShut e.hamlets[dst] = true := by
    obtain ⟨-, -, hinbox, hkept⟩ := hwake dst
    change (setHamlet src _ d).hamlets[dst].inbox = _ ∧ hamletShut (setHamlet src _ d).hamlets[dst] = _
    by_cases hd : src = dst
    · subst hd
      rw [setHamlet_self]
      exact ⟨hinbox, hkept.trans hshut⟩
    · rw [setHamlet_hamlets_ne hd]
      exact ⟨hinbox, hkept.trans hshut⟩
  obtain ⟨hmarket, hinbox⟩ := greenServe_of_lone hfilled.1 hfilled.2 hothers (hdst.1 ▸ hroom) hdst.2
  refine ⟨hmarket.trans rfl, hinbox.trans ?_⟩
  rw [hdst.1]

/-! ### Completions that fence -/

theorem eachFinish_kept (l : List Req) (st : Status) (c : Chip) :
    (each l (fun q => finish q st []) c).market.fences = c.market.fences ∧
      ∀ x ∈ c.market.done, x ∈ (each l (fun q => finish q st []) c).market.done := by
  unfold each
  induction l generalizing c with
  | nil => exact ⟨rfl, fun x hx => hx⟩
  | cons q l ih =>
    obtain ⟨hfences, hdone⟩ := ih (finish q st [] c)
    rw [List.foldl_cons]
    rw [finish_market] at hfences hdone
    exact ⟨hfences, fun x hx => hdone x (List.mem_append_left _ hx)⟩

/-- A completion whose status fences (R259, R265). -/
theorem complete_fences {q : Req} {st : Status} (v : List Byte) (c : Chip) (h : st.fences = true) :
    (q.origin, q.k) ∈ (complete q st v c).market.fences ∧ reqOf (complete q st v c) q.id = none ∧
      { id := q.id, origin := q.origin, k := q.k, write := q.data.isSome, status := st, value := v } ∈
        (complete q st v c).market.done := by
  have hgone : reqOf (complete q st v c) q.id = none := requestOf_none fun x hx => (complete_subset q st v c x hx).2
  refine ⟨?_, hgone, ?_⟩
  all_goals
    unfold complete
    dsimp only
    rw [if_pos h]
    unfold fenceQueued
  · rw [(eachFinish_kept _ _ _).1]
    change (q.origin, q.k) ∈ if _ then _ else _
    split
    case isTrue hin => simpa using hin
    case isFalse => simp
  · refine (eachFinish_kept _ _ _).2 _ ?_
    change _ ∈ (finish q st v c).market.done
    rw [finish_market]
    exact List.mem_append_right _ (List.mem_singleton_self _)

end Sys2Proof.Machine
end

section
/-! The commands of the market (R256 to R268). -/

namespace Sys2Proof.Machine

theorem reqOf_id {c : Chip} {id : Nat} {q : Req} (h : reqOf c id = some q) : q.id = id := by
  simpa using List.find?_some h

/-- The target answers a read with the object's value (R252, R259). -/
theorem serve_of_read {q : Req} {v : List Byte} {c : Chip} (hdata : q.data = none) (hk : q.k ≠ kHamperOpen)
    (hread : readObject c q.origin q.k = (.ok, v)) (hlen : v.length ≤ 32) :
    ∃ d, serve q c = complete q .ok v d ∧ d.market = c.market := by
  have hfits (n : Nat) (hn : replyLimit q.reply = some n) : 32 ≤ n := by
    unfold replyLimit at hn
    cases hreply : q.reply <;> simp [hreply] at hn <;> omega
  have hreset : (q.k == kChipResetCmd) = false := by
    refine beq_eq_false_iff_ne.mpr fun hreset => ?_
    have hrefused : readCheck c q.origin kChipResetCmd = .access := by
      obtain ⟨d, hrow, haccess⟩ : ∃ d, objOf kChipResetCmd = some d ∧ d.access = .wo := by decide +kernel
      unfold readCheck
      rw [hrow]
      exact if_pos (by rw [haccess]; rfl)
    unfold readObject at hread
    rw [hreset, hrefused] at hread
    exact absurd (show Status.access = .ok from congrArg Prod.fst hread) (by decide)
  have hcarry : ∃ d, carryOut q c = { status := .ok, value := v, chip := d } ∧ d.market = c.market := by
    unfold carryOut
    rw [hdata]
    change ∃ d, carryRead q c = _ ∧ _
    unfold carryRead
    rw [if_neg hk, hread]
    dsimp only
    rw [if_neg fun hlong => ?_]
    · refine ⟨_, rfl, ?_⟩
      split
      · rfl
      · exact when_part .market _ _ _ fun d => takeFree_part .market (by decide) d
    · cases hlimit : replyLimit q.reply with
      | none => rw [hlimit] at hlong; exact Bool.false_ne_true hlong
      | some n =>
        rw [hlimit] at hlong
        have hn := hfits n hlimit
        have hlong := of_decide_eq_true hlong
        omega
  obtain ⟨d, hcarry, hmarket⟩ := hcarry
  exact ⟨d, serve_of_carryOut hcarry hreset, hmarket⟩

/-- A fence that a write clears (R267). -/
theorem fenceWrite_market {o : Origin} {k : Key} {v : Int} {c : Chip} {f : Market → Market} (hreach : reaches o k true c)
    (hadm : admissible k v) (hk : actsAtOnce k)
    (hcommand : ∀ d, commandWrite o k (.num v) d = some (.ok, setMarket f d)) :
    writeDone o k c (writeNum o k v c) ∧ (writeNum o k v c).market.fences = (f (placed (numWrite o k v c) c).market).fences ∧
      (writeNum o k v c).market.originFences = (f (placed (numWrite o k v c) c).market).originFences := by
  have hwrite := writeNum_of_command hreach hadm hk (hcommand _)
  rw [hwrite, complete_market _ _ _ _ rfl]
  refine ⟨?_, rfl, rfl⟩
  unfold writeDone
  rw [complete_market _ _ _ _ rfl]
  exact List.getLast?_concat

/-- Settles O28: a write, a dispatch and a completion each do what the rules of the market say. -/
theorem marketCommands : Obligations.MarketCommands := by
  refine ⟨?direct, ?implicit, ?taken, ?waits, ?memory, ?read, ?timeout, ?reset, ?clearAll, ?clearPair, ?clearOrigin⟩
  case direct =>
    intro s o k b v hreach hk hval happly hnone hdirect hsorted hstage hcommand htime hnodes hstore hexercise htag hresistance
    have hreset : k ≠ kChipResetCmd := by
      rintro rfl
      have hacts : commandWrite o kChipResetCmd v s.chip = some (.ok, s.chip) := rfl
      exact absurd (hacts.symm.trans hnone) (by simp)
    have honce : actsAtOnce k := by simp [actsAtOnce, hstage, htime, hnodes, hcommand, hstore, hexercise, happly, hreset]
    refine ⟨writeBytes o k b s.chip, guarded_next (decide_eq_true hk) s _,
      cfg_writeBytes hreach hval honce hnone hdirect hsorted htag hresistance, ?_⟩
    rw [writeBytes_of_direct hreach hval honce hnone hdirect]
    exact complete_getLast (byteWrite o k b s.chip) [] _ rfl
  case implicit =>
    intro s o k b v hreach hk hval happly horder
    refine ⟨writeBytes o k b s.chip, guarded_next (decide_eq_true hk) s _, ?_⟩
    rw [writeBytes_of_applyInstant hreach hval happly horder]
    exact ⟨rfl, rfl⟩
  case taken =>
    intro s o k q hk hlive hnext hpath
    obtain rfl := nextOf_pair hnext
    refine gives_of_guarded (marketDispatch o q.k s.chip) (decide_eq_true hk) rfl (by simp +contextual [Only]) ?_
    rw [marketDispatch_of_next hlive hnext]
    unfold dispatch
    dsimp only
    rw [if_pos hpath]
    exact ⟨rfl, rfl⟩
  case waits =>
    intro s o k q hk hlive hnext hshut hempty hroom
    obtain rfl := nextOf_pair hnext
    have hpath : pathFree (hamletOf s.chip q.k) s.chip = false := by
      unfold pathFree
      rw [hshut]
      rfl
    refine gives_of_guarded (marketDispatch o q.k s.chip) (decide_eq_true hk) rfl (by simp +contextual [Only]) ?_
    obtain ⟨hmarket, hinbox⟩ := sendPacket_of_shut (src := 3) (dst := hamletOf s.chip q.k) (p := .request q.id)
      (c := setReq q.id (fun x => { x with dispatched := true }) s.chip) hempty hshut hroom
    rw [marketDispatch_of_next hlive hnext]
    unfold dispatch
    dsimp only
    rw [if_neg (by rw [hpath]; decide)]
    exact ⟨hmarket, hinbox⟩
  case memory =>
    intro s id q hq htaken hheld hlive _
    have hdone : marketCompletion id true s.chip = complete q .memory [] (perhaps q s.chip) := by
      unfold marketCompletion
      rw [hq]
      dsimp only
      rw [if_neg (by rw [htaken, hheld, hlive]; decide), if_pos rfl]
    refine ⟨marketCompletion id true s.chip, rfl, ?_⟩
    obtain ⟨hfence, hgone, hmem⟩ := complete_fences (q := q) (st := .memory) [] (perhaps q s.chip) rfl
    rw [hdone]
    exact ⟨hfence, reqOf_id hq ▸ hgone, hmem⟩
  case read =>
    intro s id q v hq htaken hheld hlive hdata hk hread hlen
    obtain ⟨d, hserve, hmarket⟩ := serve_of_read hdata hk hread hlen
    have hdone : marketCompletion id false s.chip = complete q .ok v d := by
      unfold marketCompletion
      rw [hq]
      dsimp only
      rw [if_neg (by rw [htaken, hheld, hlive]; decide), if_neg (by decide), hserve]
    refine ⟨marketCompletion id false s.chip, rfl, ?_⟩
    have hgone : reqOf (complete q .ok v d) q.id = none := requestOf_none fun x hx => (complete_subset q .ok v d x hx).2
    rw [hdone]
    refine ⟨reqOf_id hq ▸ hgone, ?_, ?_⟩
    · rw [complete_market _ _ _ _ rfl, hmarket]
    · rw [complete_market _ _ _ _ rfl, hdata]
      exact List.mem_append_right _ (List.mem_singleton_self _)
  case timeout =>
    intro s id q hq hdispatched hhamlet hlive _
    have hdone : marketTimeout id s.chip = complete q .timeout [] (perhaps q s.chip) := by
      unfold marketTimeout
      rw [hq]
      dsimp only
      rw [if_neg (by rw [hdispatched, hlive, decide_eq_false (by omega)]; decide)]
    refine ⟨marketTimeout id s.chip, rfl, ?_⟩
    obtain ⟨hfence, hgone, hmem⟩ := complete_fences (q := q) (st := .timeout) [] (perhaps q s.chip) rfl
    rw [hdone]
    exact ⟨hfence, reqOf_id hq ▸ hgone, hmem⟩
  case reset =>
    intro s id q hq hlive hdispatched htaken hshut
    have hdone : hamletResetWaitTimeout id s.chip = complete q .hamletReset [] s.chip := by
      unfold hamletResetWaitTimeout
      rw [hq]
      dsimp only
      rw [if_pos (by rw [hdispatched, htaken, hshut]; decide)]
    obtain ⟨hfence, hgone, hmem⟩ := complete_fences (q := q) (st := .hamletReset) [] s.chip rfl
    refine gives_of_when hlive rfl (by rw [hdone]; simp +contextual [Only]) ?_
    rw [hdone]
    exact ⟨hfence, reqOf_id hq ▸ hgone, hmem⟩
  case clearAll =>
    intro s o hreach
    obtain ⟨hdone, hfences, horigins⟩ := fenceWrite_market (k := kFenceClear) (v := 0xFFFFFFFF)
      (f := fun m => { m with fences := m.fences.filter fun f => f.1 != o, originFences := m.originFences.filter fun x => x != o })
      hreach (by decide +kernel) (by decide +kernel) fun d => rfl
    exact ⟨writeNum o kFenceClear 0xFFFFFFFF s.chip, rfl, hfences, horigins, hdone⟩
  case clearPair =>
    intro s o v hreach hrange hadm
    have hspan : 0 ≤ v ∧ v ≤ 4294967294 := by simpa [inRange] using hrange
    have hnot : v.toNat ≠ 0xFFFFFFFF := by omega
    obtain ⟨hdone, hfences, horigins⟩ := fenceWrite_market (k := kFenceClear) (v := v)
      (f := fun m => { m with fences := m.fences.filter fun f => f != (o, v.toNat) })
      hreach hadm (by decide +kernel) fun d => by
        change some (Status.ok, setMarket (fun m => if v.toNat = 0xFFFFFFFF then _ else _) d) = _
        simp only [if_neg hnot]
    refine ⟨writeNum o kFenceClear v s.chip, guarded_next ?_ s _, hfences, horigins, hdone⟩
    simp only [inRange, Bool.and_eq_true, decide_eq_true_eq]
    omega
  case clearOrigin =>
    intro s o v hreach hrange hadm
    obtain ⟨hdone, hfences, horigins⟩ := fenceWrite_market (k := kFenceClearOrigin) (v := v)
      (f := fun m => { m with
        fences := m.fences.filter fun f => originNumber f.1 != v.toNat
        originFences := m.originFences.filter fun x => originNumber x != v.toNat })
      hreach hadm (by decide +kernel) fun d => rfl
    exact ⟨writeNum o kFenceClearOrigin v s.chip, guarded_next hrange s _, hfences, horigins, hdone⟩

end Sys2Proof.Machine
end

section
/-! Items that apply at a tick (R260, R280, R472). -/

namespace Sys2Proof.Machine

/-! ### A value of an apply-instant object in force -/

/-- An apply-instant object is not what chemistries, mills or identities hang on. -/
theorem applyInstant_plain {k : Key} (h : applyInstant k) :
    k ≠ kAssetTag ∧ (∀ n : Fin 4, k ≠ kStrResistance n) ∧ k ≠ kCobIdEmcy := by
  refine ⟨?_, fun n => ?_, ?_⟩
  case refine_2 =>
    have hall : ∀ n : Fin 4, applyInstant (kStrResistance n) = false := by decide
    rintro rfl
    rw [hall n] at h
    exact Bool.false_ne_true h
  all_goals
    rintro rfl
    exact absurd h (by decide)

/-- The four places of the apply-instant objects. -/
theorem applyInstant_cases {k : Key} (h : applyInstant k) : k / 256 = 0x2C11 ∨ k / 256 = 0x2C50 ∨
    (0x3000 ≤ k / 256 ∧ k / 256 < 0x4000 ∧ k / 256 % 256 = 1) ∨ k / 256 = 0x2910 := by
  unfold applyInstant at h
  simp only [Bool.or_eq_true, Bool.and_eq_true, decide_eq_true_eq, beq_iff_eq] at h
  rcases h with ((⟨hi, -⟩ | ⟨⟨hi, -⟩, -⟩) | ⟨⟨hlow, hhigh⟩, hsub⟩) | hi
  · exact .inl hi
  · exact .inr (.inl hi)
  · exact .inr (.inr (.inl ⟨hlow, hhigh, hsub⟩))
  · exact .inr (.inr (.inr hi))

/-- What an apply-instant object does touches channels, rails, monitors and the Watch at most. -/
theorem effect_of_applyInstant {pt : Part} (hchans : pt ≠ .chans) (hrails : pt ≠ .rails) (hwms : pt ≠ .wms)
    (hwatch : pt ≠ .watch) {k : Key} (h : applyInstant k) (c : Chip) : part pt (effect k c) = part pt c := by
  have hne {a : Key} (ha : applyInstant a = false) : k ≠ a := by
    rintro rfl
    rw [ha] at h
    exact Bool.false_ne_true h
  have hpark := hne (a := kHamletParkMask) (by decide)
  have hemcy := hne (a := kCanEmcyEnable) (by decide)
  have hheartbeat := hne (a := kConsumerHeartbeatTime 0) (by decide)
  have hlane := hne (a := kLaneEnable) (by decide)
  have htime := hne (a := kLaneTimeEligible) (by decide)
  rcases applyInstant_cases h with hi | hi | ⟨hlow, hhigh, hsub⟩ | hi
  · unfold effect coefSlot
    simp [hi, hpark, hemcy, hheartbeat, hlane, htime]
  · unfold effect coefSlot
    simp [hi, hpark, hemcy, hheartbeat, hlane, htime]
  · have hrail : effect k c = railEffect (Fin.ofNat 16 ((k / 256 - 0x3000) / 256)) (k / 256) (k % 256) c :=
      effect_of_railObject (by
        have hport : ¬k / 256 < 0x2D80 := Nat.not_lt.mpr (Nat.le_trans (by decide) hlow)
        have hlevel : k / 256 ≠ 0x2C42 := fun h => absurd (h ▸ hlow) (by decide)
        simp [railObject, hlow, hhigh, hport, hlevel]) c
    rw [hrail]
    unfold railEffect
    rw [if_neg (by rw [hsub]; decide)]
    split
    · simp [*]
    · rfl
  · unfold effect
    rw [hi]
    simp [*]

/-- The hampers are the same but for the marks of a derivation and of an apply. -/
def SameHampers (c d : Chip) : Prop := d.hampers.queue = c.hampers.queue ∧ d.hampers.list = c.hampers.list

/-- What a value of an apply-instant object does keeps the hampers that wait, but for the mark of a derivation. -/
theorem applyWrites_hampers {k : Key} {v : Val} (h : applyInstant k) (c : Chip) :
    SameHampers c (applyWrites [(k, v)] c) := by
  have hplain : plainSetting k := by
    obtain ⟨htag, hresistance, -⟩ := applyInstant_plain h
    have hchem : ∀ n : Fin 4, k ≠ kStrChemistry n := by
      have hall : ∀ n : Fin 4, applyInstant (kStrChemistry n) = false := by decide
      rintro n rfl
      rw [hall n] at h
      exact Bool.false_ne_true h
    have hnone : (firstFin 4 fun s => k == kStrResistance s) = none := by
      unfold firstFin
      exact List.find?_eq_none.mpr fun n _ => by simpa using hresistance n
    have hmill : k / 256 < 0x5000 := by
      rcases applyInstant_cases h with hi | hi | ⟨-, hi, -⟩ | hi
      · rw [hi]; decide
      · rw [hi]; decide
      · exact Nat.lt_trans hi (by decide)
      · rw [hi]; decide
    simp [plainSetting, hnone, htag, hmill, hchem]
  have heffect (d : Chip) : (effect k d).hampers = d.hampers :=
    effect_of_applyInstant (pt := .hampers) (by decide) (by decide) (by decide) (by decide) h d
  have hmark (b : Bool) (d : Chip) : (when b (setHampers fun x => { x with derive := true }) d).hampers.queue = d.hampers.queue ∧
      (when b (setHampers fun x => { x with derive := true }) d).hampers.list = d.hampers.list := by
    cases b <;> exact ⟨rfl, rfl⟩
  have hnote (d : Chip) : (noteChanged [k] d).hampers = d.hampers := noteChanged_part .hampers (by decide) [k] d
  unfold SameHampers
  rw [applyWrites_plain hplain, hnote]
  obtain ⟨hqueue, hlist⟩ := hmark (governs k) (effect k (put k v c))
  rw [hqueue, hlist, heffect]
  exact ⟨rfl, rfl⟩

theorem applyWrites_role (l : List (Key × Val)) (c : Chip) : (applyWrites l c).twin.role = c.twin.role := by
  have hnote (ks : List Key) (d : Chip) : (noteChanged ks d).twin.role = d.twin.role := by
    unfold noteChanged
    split <;> rfl
  have hloads (d e : Chip) (ks : List Key) : (each ((List.finRange 16).filter (millTouched e d ks)) beginLoad d).twin = d.twin :=
    each_part .twin _ beginLoad d fun m e => beginLoad_part .twin (by decide) (by decide) (by decide) (by decide) (by decide) m e
  have heffects (ks : List Key) (d : Chip) : (each ks effect d).twin = d.twin :=
    each_part .twin _ effect d fun k e => by simp
  have hmark (b : Bool) (d : Chip) : (when b (setHampers fun x => { x with derive := true }) d).twin = d.twin := by
    cases b <;> rfl
  have hstore (ks : List Key) (d : Chip) : (loadChemistries ks (storeAll l d)).twin = d.twin :=
    (loadChemistries_part .twin (by decide) (by decide) (by decide) ks _).trans (storeAll_part .twin (by decide) (by decide) (by decide) l d)
  unfold applyWrites
  dsimp only
  rw [hnote, hmark, hloads, heffects, hstore]

/-! ### The end of a tick -/

theorem derive_hampers (c : Chip) : SameHampers c (derive c) := by
  have hstaged (f : Fin 16 → Bool) : (each ((List.finRange 16).filter f)
      (fun m c => each (derivedWords c m) (fun e => stageCoef m e.1 e.2) c) c).hampers = c.hampers :=
    each_part .hampers _ _ c fun m d => each_part .hampers _ _ d fun e d => stageCoef_part .hampers (by decide) m e.1 e.2 d
  unfold SameHampers derive
  dsimp only
  rw [setBus_hampers, setHampers_hampers, hstaged]
  exact ⟨rfl, rfl⟩

theorem settle_hampers (c : Chip) : SameHampers c (settle c) := by
  have hswitch (d : Chip) : (switchAll d).hampers = d.hampers := switchAll_part .hampers (by decide) d
  have hfire (d : Chip) : (fire 4 (fun _ => true) d).hampers = d.hampers := fire_part .hampers (by decide) (by decide) 4 _ d
  have hend (d : Chip) (h : SameHampers c d) : SameHampers c (if d.hampers.applied then
      fire 4 (fun _ => true) (setHampers (fun x => { x with applied := false }) d) else d) := by
    unfold SameHampers
    split
    · rw [hfire]
      exact h
    · exact h
  unfold settle
  refine hend _ ?_
  unfold SameHampers
  rw [hswitch]
  split
  · exact derive_hampers c
  · exact ⟨rfl, rfl⟩

/-- A unit that is not the ALTERNATE gives nothing back (R423). -/
theorem giveBack_of_role {c : Chip} (h : c.twin.role ≠ .alternate) : giveBack c = c := by
  unfold giveBack
  rw [beq_eq_false_iff_ne.mpr h, Bool.and_false]
  rfl

theorem completeId_gone (id : Nat) (st : Status) (v : List Byte) (c : Chip) : reqOf (completeId id st v c) id = none := by
  unfold completeId
  cases hq : reqOf c id with
  | none => exact hq
  | some q =>
    refine requestOf_none fun x hx => ?_
    rw [← reqOf_id hq]
    exact (complete_subset q st v c x hx).2

end Sys2Proof.Machine
end

section
/-! Hampers validated, applied at a tick and timed out (R257, R260, R276 to R282). -/

namespace Sys2Proof.Machine

/-! ### Validation -/

/-- The hamper at the head of the queue fails its validation (R277, R280). -/
theorem hamperValidationComplete_fails {c : Chip} {n : Nat} {x : Hamper} {f : Detail × Nat}
    (hhead : c.hampers.queue.head? = some (.hamper n false)) (hof : hamperOf c n = some x) (hfails : validate c x = some f) :
    hamperValidationComplete c = failHamper x f c := by
  obtain ⟨rest, hqueue⟩ := List.head?_eq_some_iff.mp hhead
  unfold hamperValidationComplete
  simp only [hqueue, hof, hfails]

/-- The hamper at the head of the queue passes its validation (R277, R280). -/
theorem hamperValidationComplete_passes {c : Chip} {n : Nat} {x : Hamper}
    (hhead : c.hampers.queue.head? = some (.hamper n false)) (hof : hamperOf c n = some x) (hpasses : validate c x = none) :
    hamperValidationComplete c = passHamper x c := by
  obtain ⟨rest, hqueue⟩ := List.head?_eq_some_iff.mp hhead
  unfold hamperValidationComplete
  simp only [hqueue, hof, hpasses]

/-- What an end leaves of the hampers (R282, R283). -/
theorem endHamper_hampers (h : Hamper) (dest : HamperState) (r : Result) (st : Status) (c : Chip) :
    (endHamper h dest r st c).hampers = { c.hampers with
      list := c.hampers.list.map fun x => if x.handle == h.handle then
        { x with state := dest, result := r, writes := [], req := none } else x
      queue := c.hampers.queue.filter fun q => q != .hamper h.handle true && q != .hamper h.handle false } := by
  unfold endHamper
  rw [completeHeld_hampers]
  rfl

/-! ### Ticks -/

/-- A tick with nothing due of its own time applies what waits (R280). -/
theorem applyTick_of_queue {c : Chip} (hlive : live c) (hdue : dueHampers c = []) :
    applyTick c = giveBack (settle (applyItems c.hampers.queue.length c)) := by
  unfold applyTick
  rw [if_neg (by rw [hlive]; decide), hdue]
  rfl

theorem applyItems_one {c d : Chip} (h : applyItem c = some d) : applyItems 1 c = d := by
  unfold applyItems
  rw [h]
  rfl

/-- The chip once an implicit write is in force and has completed. -/
def implicitApplied (id : Nat) (k : Key) (v : Val) (c : Chip) : Chip :=
  completeId id .ok [] (applyWrites [(k, v)] (setHampers (fun x => { x with applied := true }) (popItem c)))

theorem applyItems_of_implicit {c : Chip} {o : Origin} {id : Nat} {k : Key} {v : Val} (hqueue : c.hampers.queue = [.implicit o id k v])
    (hcheck : directCheck o k v c = .ok) (hwaits : waitsForCopy [(k, v)] c = false) :
    applyItems c.hampers.queue.length c = implicitApplied id k v c := by
  have hitem : applyItem c = some (implicitApplied id k v c) := by
    unfold applyItem
    rw [hqueue]
    dsimp only
    rw [hcheck]
    dsimp only
    rw [hwaits]
    rfl
  rw [hqueue]
  exact applyItems_one hitem

theorem applyItems_of_hamper {c : Chip} {x : Hamper} {k : Key} {v : Val} (hqueue : c.hampers.queue = [.hamper x.handle true])
    (hof : hamperOf c x.handle = some x) (hwrites : x.writes = [(k, v)]) (hwaits : waitsForCopy [(k, v)] c = false) :
    applyItems c.hampers.queue.length c = applyHamper x c := by
  have hitem : applyItem c = some (applyHamper x c) := by
    unfold applyItem
    rw [hqueue]
    dsimp only
    rw [hof]
    dsimp only
    rw [hwrites, hwaits]
    rfl
  rw [hqueue]
  exact applyItems_one hitem

/-- The end of a tick leaves a value in force. -/
theorem settle_keepsValue (k : Key) (c : Chip) : KeepsValue k c (settle c) :=
  KeepsValue.of_parts (settle_part .od (by decide) (by decide) (by decide) (by decide) c)
    (settle_part .fuses (by decide) (by decide) (by decide) (by decide) c)
    (settle_part .can (by decide) (by decide) (by decide) (by decide) c)

theorem settle_role (c : Chip) : (settle c).twin.role = c.twin.role :=
  congrArg Twin.role (settle_part .twin (by decide) (by decide) (by decide) (by decide) c)

/-- An apply-instant value in force, through the tick's end. -/
theorem cfg_settle {k : Key} {v : Val} (hk : applyInstant k) {c d : Chip} (hsorted : odSorted c.od)
    (hod : part .od d = part .od (applyWrites [(k, v)] c)) (hfuses : part .fuses d = part .fuses (applyWrites [(k, v)] c)) :
    cfg (settle d) k = v := by
  obtain ⟨htag, hresistance, hemcy⟩ := applyInstant_plain hk
  have hacts : KeepsValue k (put k v c) (applyWrites [(k, v)] c) := KeepsValue.applyWrites htag hresistance c
  have hkept : KeepsValue k (applyWrites [(k, v)] c) d := ⟨congrArg (odFind · k) hod, hfuses, fun h => absurd h hemcy⟩
  rw [((hacts.trans hkept).trans (settle_keepsValue k d)).cfg]
  exact cfg_put hsorted k v

/-- Settles O29: the head of the queue is validated, the tick applies what waits, and a timeout rolls back. -/
theorem hamperValidationAndTicks : Obligations.HamperValidationAndTicks := by
  refine ⟨?fails, ?commit, ?commitAt, ?idle, ?implicit, ?hamper, ?timeout, ?running⟩
  case fails =>
    intro s n x f hlive hhead hof hfails
    have hdone := hamperValidationComplete_fails hhead hof hfails
    refine gives_of_when hlive rfl (by simp +contextual [Only]) ?_
    rw [hdone]
    unfold failHamper
    rw [endHamper_hampers]
    exact ⟨rfl, rfl⟩
  case commit =>
    intro s n x hlive hhead hof hpasses hmode
    have hdone := hamperValidationComplete_passes hhead hof hpasses
    refine gives_of_when hlive rfl (by simp +contextual [Only]) ?_
    rw [hdone]
    unfold passHamper
    rw [hmode]
    exact ⟨rfl, rfl⟩
  case commitAt =>
    intro s x hlive hhead hof hpasses hmode
    have hdone := hamperValidationComplete_passes hhead hof hpasses
    refine gives_of_when hlive rfl (by simp +contextual [Only]) ?_
    rw [hdone]
    unfold passHamper
    rw [hmode]
    dsimp only
    rw [completeHeld_hampers]
    exact ⟨rfl, rfl⟩
  case idle =>
    intro s hlive hdue hqueue hderive happlied hfrac hrole
    have hsettled : settle s.chip = switchAll s.chip := by
      have hkept : (switchAll s.chip).hampers = s.chip.hampers := switchAll_part .hampers (by decide) s.chip
      unfold settle
      rw [hderive, hfrac]
      dsimp only
      exact if_neg (by rw [show (if (false || false) = true then derive s.chip else s.chip) = s.chip from rfl, hkept, happlied]; decide)
    have htick : applyTick s.chip = switchAll s.chip := by
      rw [applyTick_of_queue hlive hdue, hqueue]
      change giveBack (settle s.chip) = _
      rw [giveBack_of_role (by rw [settle_role]; exact hrole), hsettled]
    refine gives_of_answer (applyTick s.chip) rfl (by simp +contextual [Only]) ?_
    rw [htick]
    exact ⟨switchAll_part .od (by decide) _, switchAll_part .hampers (by decide) _, switchAll_part .market (by decide) _⟩
  case implicit =>
    intro s o id k v hlive hdue hqueue hcheck hwaits hsorted hk hrole
    let d : Chip := setHampers (fun x => { x with applied := true }) (popItem s.chip)
    have hkept (pt : Part) (h0 : pt ≠ .hamlets) (h1 : pt ≠ .market) (h2 : pt ≠ .can) (h3 : pt ≠ .tw) (h4 : pt ≠ .svc) (h5 : pt ≠ .lane) :
        part pt (implicitApplied id k v s.chip) = part pt (applyWrites [(k, v)] d) := completeId_part pt h0 h1 h2 h3 h4 h5 id .ok [] _
    have hrole' : (settle (implicitApplied id k v s.chip)).twin.role ≠ .alternate := by
      rw [settle_role, show (implicitApplied id k v s.chip).twin = _ from
        hkept .twin (by decide) (by decide) (by decide) (by decide) (by decide) (by decide)]
      exact fun h => hrole ((applyWrites_role [(k, v)] d).symm.trans h)
    have htick : applyTick s.chip = settle (implicitApplied id k v s.chip) := by
      rw [applyTick_of_queue hlive hdue, applyItems_of_implicit hqueue hcheck hwaits, giveBack_of_role hrole']
    refine gives_of_answer (applyTick s.chip) rfl (by simp +contextual [Only]) ?_
    rw [htick]
    refine ⟨?_, ?_, ?_⟩
    · exact cfg_settle (c := d) hk hsorted (hkept .od (by decide) (by decide) (by decide) (by decide) (by decide) (by decide))
        (hkept .fuses (by decide) (by decide) (by decide) (by decide) (by decide) (by decide))
    · rw [(settle_hampers _).1, show (implicitApplied id k v s.chip).hampers = _ from
        hkept .hampers (by decide) (by decide) (by decide) (by decide) (by decide) (by decide)]
      refine (applyWrites_hampers hk d).1.trans ?_
      change s.chip.hampers.queue.drop 1 = []
      rw [hqueue]
      rfl
    · have hmarket : (settle (implicitApplied id k v s.chip)).market = (implicitApplied id k v s.chip).market :=
        settle_part .market (by decide) (by decide) (by decide) (by decide) _
      unfold reqOf
      rw [hmarket]
      exact completeId_gone id .ok [] _
  case hamper =>
    intro s x k v hlive hdue hqueue hof hwrites hwaits hsorted hk hrole
    let d : Chip := setHampers (fun x => { x with applied := true }) s.chip
    let e : Chip := log 0x10 195 0 (x.handle * 65536 + x.writes.length : Nat) [] (applyWrites x.writes d)
    have hkept (pt : Part) (h0 : pt ≠ .hamlets) (h1 : pt ≠ .market) (h2 : pt ≠ .can) (h3 : pt ≠ .tw) (h4 : pt ≠ .svc) (h5 : pt ≠ .lane)
        (h6 : pt ≠ .hampers) (h7 : pt ≠ .alm) : part pt (applyHamper x s.chip) = part pt (applyWrites [(k, v)] d) := by
      change part pt (endHamper x .applied {} .ok e) = _
      rw [endHamper_part pt h0 h1 h6 h2 h3 h4 h5, ← hwrites]
      exact log_part pt h7 ..
    have hhampers : SameHampers d e := by
      have hlog : e.hampers = (applyWrites [(k, v)] d).hampers := by
        rw [← hwrites]
        exact log_part .hampers (by decide) ..
      unfold SameHampers
      rw [hlog]
      exact applyWrites_hampers hk d
    have hrole' : (settle (applyHamper x s.chip)).twin.role ≠ .alternate := by
      rw [settle_role, show (applyHamper x s.chip).twin = _ from
        hkept .twin (by decide) (by decide) (by decide) (by decide) (by decide) (by decide) (by decide) (by decide)]
      exact fun h => hrole ((applyWrites_role [(k, v)] d).symm.trans h)
    have htick : applyTick s.chip = settle (applyHamper x s.chip) := by
      rw [applyTick_of_queue hlive hdue, applyItems_of_hamper hqueue hof hwrites hwaits, giveBack_of_role hrole']
    have hended : (applyHamper x s.chip).hampers = (endHamper x .applied {} .ok e).hampers := rfl
    rw [endHamper_hampers] at hended
    refine gives_of_answer (applyTick s.chip) rfl (by simp +contextual [Only]) ?_
    rw [htick]
    refine ⟨?_, ?_, ?_⟩
    · exact cfg_settle (c := d) hk hsorted
        (hkept .od (by decide) (by decide) (by decide) (by decide) (by decide) (by decide) (by decide) (by decide))
        (hkept .fuses (by decide) (by decide) (by decide) (by decide) (by decide) (by decide) (by decide) (by decide))
    · rw [(settle_hampers _).1, hended]
      change e.hampers.queue.filter _ = []
      rw [hhampers.1, show d.hampers.queue = s.chip.hampers.queue from rfl, hqueue]
      simp
    · unfold hamperOf
      rw [(settle_hampers _).2, hended]
      change ((e.hampers.list.map _).find? _).map _ = _
      rw [hhampers.2]
      have hmarked := hamperOf_setHamper x.handle x.handle
        (f := fun y => { y with state := .applied, result := {}, writes := [], req := none }) (fun _ => rfl) s.chip
      have hstate := congrArg (Option.map Hamper.state) (hmarked.trans (congrArg _ hof))
      refine hstate.trans ?_
      simp
  case timeout =>
    intro s h x hlive hof hstate
    have hdone : hamperTimeout h s.chip = rollBack x s.chip := by
      unfold hamperTimeout
      rw [hof]
      exact if_pos (by rcases hstate with hs | hs <;> rw [hs] <;> rfl)
    refine gives_of_when hlive rfl (by simp +contextual [Only]) ?_
    rw [hdone]
    unfold rollBack
    rw [endHamper_hampers]
    exact ⟨rfl, rfl⟩
  case running =>
    intro s h x hlive hof hopened hjoined
    have hdone : hamperTimeout h s.chip = s.chip := by
      unfold hamperTimeout
      rw [hof]
      exact if_neg (by simp [hopened, hjoined])
    refine gives_of_when hlive rfl (by simp +contextual [Only]) ?_
    rw [hdone]

end Sys2Proof.Machine
end

section
/-! Frames of the hampers on the Lane, which change no hamper, and ends of hampers, which change no Lane (R282 to R289). -/

namespace Sys2Proof.Machine

/-! ### Sends read no hamper -/

theorem laneLeave_setHampers (p : LanePort) (x : LaneFrame) (f : Hampers → Hampers) (c : Chip) :
    laneLeave p x (setHampers f c) = setHampers f (laneLeave p x c) := by
  have hup (q : LanePort) : laneLink (setHampers f c) q = laneLink c q := by cases q <;> rfl
  unfold laneLeave
  cases hturned : c.lane.wrap == some p with
  | false =>
    simp only [setHampers_lane, hturned, hup, Bool.false_eq_true, if_false]
    split <;> rfl
  | true =>
    simp only [setHampers_lane, hturned, hup, if_true]
    split <;> rfl

theorem when_setHampers {g : Chip → Chip} {f : Hampers → Hampers} (h : ∀ c, g (setHampers f c) = setHampers f (g c)) (b : Bool)
    (c : Chip) : when b g (setHampers f c) = setHampers f (when b g c) := by
  cases b
  · rfl
  · exact h c

theorem laneCopy_setHampers (p : LanePort) (dest cls : Nat) (n : BitVec 16) (l : List Byte) (f : Hampers → Hampers) (c : Chip) :
    laneCopy p dest cls n l (setHampers f c) = setHampers f (laneCopy p dest cls n l c) :=
  laneLeave_setHampers p _ f c

theorem laneSend_setHampers (byA byB : Bool) (dest cls : Nat) (l : List Byte) (f : Hampers → Hampers) (c : Chip) :
    laneSend byA byB dest cls l (setHampers f c) = setHampers f (laneSend byA byB dest cls l c) := by
  unfold laneSend
  rw [show laneActive (setHampers f c) = laneActive c from rfl, show laneRuns (setHampers f c) = laneRuns c from rfl]
  split
  · rfl
  · dsimp only
    rw [setHampers_lane, show ∀ g : Lane → Lane, setLane g (setHampers f c) = setHampers f (setLane g c) from fun _ => rfl,
      when_setHampers fun d => laneCopy_setHampers .a _ _ _ _ f d, when_setHampers fun d => laneCopy_setHampers .b _ _ _ _ f d]

theorem laneUnicast_setHampers (dest : Fin 1024) (cls : Nat) (l : List Byte) (f : Hampers → Hampers) (c : Chip) :
    laneUnicast dest cls l (setHampers f c) = setHampers f (laneUnicast dest cls l c) := by
  unfold laneUnicast
  dsimp only
  rw [setHampers_lane, setHampers_clock]
  split <;> exact laneSend_setHampers ..

theorem domainAnswer_setHampers (type : Nat) (h : Hamper) (vote detail pos : Nat) (f : Hampers → Hampers) (c : Chip) :
    domainAnswer type h vote detail pos (setHampers f c) = setHampers f (domainAnswer type h vote detail pos c) := by
  unfold domainAnswer
  split
  · exact laneUnicast_setHampers ..
  · rfl

theorem domainBroadcast_setHampers (type : Nat) (h : Hamper) (f : Hampers → Hampers) (c : Chip) :
    domainBroadcast type h (setHampers f c) = setHampers f (domainBroadcast type h c) :=
  laneSend_setHampers ..

theorem domainAnswer_keeps {pt : Part} (hlane : pt ≠ .lane) (type : Nat) (h : Hamper) (vote detail pos : Nat) (c : Chip) :
    part pt (domainAnswer type h vote detail pos c) = part pt c := domainAnswer_part pt hlane type h vote detail pos c

/-! ### Ends -/

/-- The hampers once one of them has ended. -/
def endedHampers (h : Hamper) (dest : HamperState) (r : Result) (x : Hampers) : Hampers :=
  { x with
    list := x.list.map fun y => if y.handle == h.handle then { y with state := dest, result := r, writes := [], req := none } else y
    queue := x.queue.filter fun q => q != .hamper h.handle true && q != .hamper h.handle false }

/-- A hamper that no request waits for ends without a completion. -/
theorem endHamper_idle {h : Hamper} (hidle : h.req = none) (dest : HamperState) (r : Result) (st : Status) (c : Chip) :
    endHamper h dest r st c = setHampers (endedHampers h dest r) c := by
  unfold endHamper completeHeld
  rw [hidle]
  rfl

theorem endHamper_list (h : Hamper) (dest : HamperState) (r : Result) (st : Status) (c : Chip) :
    (endHamper h dest r st c).hampers.list = (endedHampers h dest r c.hampers).list := by
  rw [endHamper_hampers]
  rfl

theorem setHamper_eq (handle : Nat) (f : Hamper → Hamper) (c : Chip) : setHamper handle f c =
    setHampers (fun h => { h with list := h.list.map fun x => if x.handle == handle then f x else x }) c := rfl

end Sys2Proof.Machine
end

section
/-! The commands of domain hampers (R284 to R289). -/

namespace Sys2Proof.Machine

/-- A vote is counted once. -/
theorem votes_counted (l : List (Fin 1024)) (node : Fin 1024) :
    (if l.contains node then l else l ++ [node]) = if node ∈ l then l else l ++ [node] := by
  simp only [List.contains_eq_mem, decide_eq_true_eq]

theorem all_voted (l votes : List (Fin 1024)) (node : Fin 1024) :
    (l.all fun n => (if node ∈ votes then votes else votes ++ [node]).contains n) = l.all fun n => decide (n ∈ votes ∨ n = node) := by
  refine congrArg (List.all l) (funext fun n => ?_)
  by_cases hnode : node ∈ votes
  · by_cases hn : n = node
    · subst hn
      simp [hnode]
    · simp [hnode, hn]
  · simp [hnode]

theorem domainVoteReceive_of_yes {c : Chip} {node : Fin 1024} {f : DomainFrame} {x : Hamper} {all : Bool} (hmember : laneMember c)
    (hof : coordinatorOf c f = some x) (hstate : x.state = .validating) (hgo : x.go = false) (hnode : node ∈ participants c x)
    (hyes : f.no = false) (hall : ((participants c x).all fun n => decide (n ∈ x.votes ∨ n = node)) = all) :
    domainVoteReceive node f c = when all (domainBroadcast 3 x) (setHamper x.handle (fun y => { y with
      votes := if node ∈ x.votes then x.votes else x.votes ++ [node], go := all, state := if all then .armed else y.state }) c) := by
  unfold domainVoteReceive
  rw [if_neg (by rw [hmember]; decide), hof]
  dsimp only
  rw [if_neg (by simp [hstate, hgo, hnode]), if_neg (by rw [hyes]; decide), votes_counted, all_voted, hall]

theorem domainApply_due {c : Chip} {x : Hamper} (hstate : x.state = .armed)
    (hdue : x.t ≤ c.clock.laneNs) : (x.state != .armed || decide (c.clock.laneNs < x.t)) = false := by
  simp [hstate, hdue]

/-- A domain hamper that applies has its writes in force and is APPLIED (R287, R288). -/
theorem applyDomain_applies {c : Chip} {x : Hamper} {k : Key} {v : Val} (hof : hamperOf c x.handle = some x)
    (hwrites : x.writes = [(k, v)]) (hwaits : waitsForCopy [(k, v)] c = false) (hsorted : odSorted c.od) (hk : applyInstant k) :
    cfg (settle (applyDomain x c)) k = v ∧ (hamperOf (settle (applyDomain x c)) x.handle).map (·.state) = some .applied := by
  let d : Chip := setHampers (fun x => { x with applied := true }) c
  let e : Chip := log 0x10 195 0 (x.handle * 65536 + x.writes.length : Nat) [] (applyWrites x.writes d)
  have hsends {pt : Part} (hlane : pt ≠ .lane) : part pt (applyDomain x c) = part pt (applyHamper x c) := by
    unfold applyDomain
    rw [hwrites, hwaits]
    dsimp only
    rw [if_neg (by decide)]
    split
    · exact laneSend_part pt hlane ..
    · rfl
  have hkept {pt : Part} (h0 : pt ≠ .hamlets) (h1 : pt ≠ .market) (h2 : pt ≠ .can) (h3 : pt ≠ .tw) (h4 : pt ≠ .svc) (h5 : pt ≠ .lane)
      (h6 : pt ≠ .hampers) (h7 : pt ≠ .alm) : part pt (applyDomain x c) = part pt (applyWrites [(k, v)] d) := by
    refine (hsends h5).trans ?_
    change part pt (endHamper x .applied {} .ok e) = _
    rw [endHamper_part pt h0 h1 h6 h2 h3 h4 h5, ← hwrites]
    exact log_part pt h7 ..
  have hlist : e.hampers.list = c.hampers.list := by
    have hlog : e.hampers = (applyWrites [(k, v)] d).hampers := by
      rw [← hwrites]
      exact log_part .hampers (by decide) ..
    rw [hlog]
    exact (applyWrites_hampers hk d).2
  refine ⟨cfg_settle (c := d) hk hsorted
    (hkept (pt := .od) (by decide) (by decide) (by decide) (by decide) (by decide) (by decide) (by decide) (by decide))
    (hkept (pt := .fuses) (by decide) (by decide) (by decide) (by decide) (by decide) (by decide) (by decide) (by decide)), ?_⟩
  unfold hamperOf
  rw [(settle_hampers _).2, show (applyDomain x c).hampers = _ from hsends (pt := .hampers) (by decide)]
  change ((endHamper x .applied {} .ok e).hampers.list.find? _).map _ = _
  rw [endHamper_list]
  change ((e.hampers.list.map _).find? _).map _ = _
  rw [hlist]
  have hmarked := hamperOf_setHamper x.handle x.handle
    (f := fun y => { y with state := .applied, result := {}, writes := [], req := none }) (fun _ => rfl) c
  refine (congrArg (Option.map Hamper.state) (hmarked.trans (congrArg _ hof))).trans ?_
  simp

/-- The header fields of a record do not hang on a hamper or its request. -/
theorem stamp_endHamper (h : Hamper) (dest : HamperState) (r : Result) (st : Status) (c : Chip) :
    stamp (endHamper h dest r st c) = stamp c := by
  have hkept {pt : Part} (h0 : pt ≠ .hamlets) (h1 : pt ≠ .market) (h2 : pt ≠ .hampers) (h3 : pt ≠ .can) (h4 : pt ≠ .tw)
      (h5 : pt ≠ .svc) (h6 : pt ≠ .lane) : part pt (endHamper h dest r st c) = part pt c :=
    endHamper_part pt h0 h1 h2 h3 h4 h5 h6 h dest r st c
  have hclock : (endHamper h dest r st c).clock = c.clock :=
    hkept (pt := .clock) (by decide) (by decide) (by decide) (by decide) (by decide) (by decide) (by decide)
  have hfuses : (endHamper h dest r st c).fuses = c.fuses :=
    hkept (pt := .fuses) (by decide) (by decide) (by decide) (by decide) (by decide) (by decide) (by decide)
  have htwin : (endHamper h dest r st c).twin = c.twin :=
    hkept (pt := .twin) (by decide) (by decide) (by decide) (by decide) (by decide) (by decide) (by decide)
  have hboot : (endHamper h dest r st c).boot = c.boot :=
    hkept (pt := .boot) (by decide) (by decide) (by decide) (by decide) (by decide) (by decide) (by decide)
  have hlane : (endHamper h dest r st c).lane.nodeIdNow = c.lane.nodeIdNow := by
    obtain ⟨_, _, _, h⟩ := LaneServes.endHamper h dest r st c
    rw [h]
  have hflag : flag (endHamper h dest r st c) kLaneEnable = flag c kLaneEnable :=
    flag_congr_of_ne (hkept (pt := .od) (by decide) (by decide) (by decide) (by decide) (by decide) (by decide) (by decide)) hfuses
      laneEnable_setting.2.2.2
  funext x
  unfold stamp nowMs lifeCycle twinBits
  rw [hclock, hfuses, htwin, hboot, hlane, hflag]

end Sys2Proof.Machine
end

section
/-! Domain hampers prepare, vote, arm, decide, apply and report (R284 to R289). -/

namespace Sys2Proof.Machine

theorem abortDomain_list (x : Hamper) (node : Nat) (d : Detail) (pos : Nat) (c : Chip) :
    (abortDomain x node d pos c).hampers.list =
      (endedHampers x .aborted { status := .aborted, detail := d, node := node, pos := pos } c.hampers).list := by
  unfold abortDomain
  rw [endHamper_list, show (domainBroadcast 6 x c).hampers = c.hampers from laneSend_part .hampers (by decide) ..]

theorem abortDomain_lane {x : Hamper} (hidle : x.req = none) (node : Nat) (d : Detail) (pos : Nat) (c : Chip) :
    (abortDomain x node d pos c).lane = (domainBroadcast 6 x c).lane := by
  unfold abortDomain
  rw [endHamper_idle hidle, setHampers_lane]

theorem domainAnswer_serves (type : Nat) (h : Hamper) (vote detail pos : Nat) (c : Chip) :
    LaneServes c (domainAnswer type h vote detail pos c) := by
  unfold domainAnswer
  split
  · exact LaneServes.laneUnicast ..
  · exact LaneServes.refl c

theorem stamp_domainAnswer (type : Nat) (h : Hamper) (vote detail pos : Nat) (c : Chip) :
    stamp (domainAnswer type h vote detail pos c) = stamp c := by
  have hkept {pt : Part} (hlane : pt ≠ .lane) : part pt (domainAnswer type h vote detail pos c) = part pt c :=
    domainAnswer_keeps hlane ..
  have hnode : (domainAnswer type h vote detail pos c).lane.nodeIdNow = c.lane.nodeIdNow := by
    obtain ⟨_, _, _, h⟩ := domainAnswer_serves type h vote detail pos c
    rw [h]
  have hflag : flag (domainAnswer type h vote detail pos c) kLaneEnable = flag c kLaneEnable :=
    flag_congr (hkept (pt := .od) (by decide)) (hkept (pt := .fuses) (by decide)) (hkept (pt := .can) (by decide)) _
  funext x
  unfold stamp nowMs lifeCycle twinBits
  rw [show (domainAnswer type h vote detail pos c).clock = c.clock from hkept (pt := .clock) (by decide),
    show (domainAnswer type h vote detail pos c).fuses = c.fuses from hkept (pt := .fuses) (by decide),
    show (domainAnswer type h vote detail pos c).twin = c.twin from hkept (pt := .twin) (by decide),
    show (domainAnswer type h vote detail pos c).boot = c.boot from hkept (pt := .boot) (by decide), hnode, hflag]

/-- A node that knows the decision applies at T (R287, R288). -/
theorem domainApplyTime_decided {c : Chip} {h : BitVec 8} {x : Hamper} (hof : hamperOf c h.toNat = some x)
    (hmode : x.mode = .coordinator ∨ x.mode = .participant) (hstate : x.state = .armed) (hdue : x.t ≤ c.clock.laneNs)
    (hdecision : x.decision = some true) : domainApplyTime h c = settle (applyDomain x c) := by
  unfold domainApplyTime
  rw [hof]
  dsimp only
  rw [if_neg (by rw [domainApply_due hstate hdue]; decide), hdecision]
  rcases hmode with hmode | hmode <;> rw [hmode]

/-- Settles O30: each frame and each point in time finds its hamper, and does with it what the rules say. -/
theorem domainHamperCommands : Obligations.DomainHamperCommands := by
  refine ⟨?notJoined, ?yes, ?no, ?voteNo, ?lastYes, ?moreYes, ?deadline, ?go, ?arms, ?notArmed, ?armedFrame, ?commits, ?misses,
    ?again, ?commitFrame, ?abortFrame, ?abortFailed, ?applies, ?participantApplies, ?discards, ?appliedFrame, ?report⟩
  case notJoined =>
    intro s f hfits hmember hnone
    have hdone : domainPrepareReceive f s.chip = laneUnicast f.coordinator 2
        (hamperPayload 2 f.handle.toNat f.coordinator.val f.applyTime 0 1 Detail.notJoined.number 255) s.chip := by
      unfold domainPrepareReceive
      rw [if_neg (by rw [hmember]; decide), hnone]
    refine gives_of_guarded (domainPrepareReceive f s.chip) hfits rfl (by simp +contextual [Only]) ?_
    rw [hdone]
    exact ⟨laneUnicast_part .hampers (by decide) .., rfl⟩
  case yes =>
    intro s f x hfits hmember hof hstate hpasses
    have hdone : domainPrepareReceive f s.chip = domainAnswer 2 { x with t := f.applyTime } 0 0 0
        (setHamper x.handle (fun y => { y with t := f.applyTime, state := .prepared }) s.chip) := by
      unfold domainPrepareReceive
      rw [if_neg (by rw [hmember]; decide), hof]
      dsimp only
      rw [if_neg (by rw [hstate]; decide), hpasses]
    refine gives_of_guarded (domainPrepareReceive f s.chip) hfits rfl (by simp +contextual [Only]) ?_
    rw [hdone, setHamper_eq, domainAnswer_setHampers]
    have hkept {pt : Part} (hlane : pt ≠ .lane) :
        part pt (domainAnswer 2 { x with t := f.applyTime } 0 0 0 s.chip) = part pt s.chip := domainAnswer_keeps hlane ..
    rw [setHampers_hampers, setHampers_market, setHampers_lane,
      show (domainAnswer 2 { x with t := f.applyTime } 0 0 0 s.chip).hampers = s.chip.hampers from hkept (pt := .hampers) (by decide)]
    exact ⟨rfl, rfl, hkept (pt := .market) (by decide), rfl⟩
  case no =>
    intro s f x d hfits hmember hof hstate hfails
    have hdone : domainPrepareReceive f s.chip = domainAnswer 2 { x with t := f.applyTime } 1 d.1.number d.2
        (failHamper { x with t := f.applyTime } d s.chip) := by
      unfold domainPrepareReceive
      rw [if_neg (by rw [hmember]; decide), hof]
      dsimp only
      rw [if_neg (by rw [hstate]; decide), hfails]
    refine gives_of_guarded (domainPrepareReceive f s.chip) hfits rfl (by simp +contextual [Only]) ?_
    rw [hdone]
    refine ⟨?_, fun hidle => ?_⟩
    · rw [show (domainAnswer 2 { x with t := f.applyTime } 1 d.1.number d.2 (failHamper { x with t := f.applyTime } d s.chip)).hampers =
        _ from domainAnswer_keeps (pt := .hampers) (by decide) ..]
      exact endHamper_list ..
    · unfold failHamper
      rw [endHamper_idle (h := { x with t := f.applyTime }) hidle, domainAnswer_setHampers, setHampers_lane]
  case voteNo =>
    intro s node f x hfits hmember hof hstate hgo hnode hno
    have hdone : domainVoteReceive node f s.chip =
        abortDomain x node.val (Detail.ofNumber f.detail.toNat) f.position.toNat s.chip := by
      unfold domainVoteReceive
      rw [if_neg (by rw [hmember]; decide), hof]
      dsimp only
      rw [if_neg (by simp [hstate, hgo, hnode]), if_pos hno]
    refine gives_of_guarded (domainVoteReceive node f s.chip) hfits rfl (by simp +contextual [Only]) ?_
    rw [hdone]
    exact ⟨abortDomain_list .., fun hidle => abortDomain_lane hidle ..⟩
  case lastYes =>
    intro s node f x hfits hmember hof hstate hgo hnode hyes hall
    have hdone := domainVoteReceive_of_yes hmember hof hstate hgo hnode hyes hall
    refine gives_of_guarded (domainVoteReceive node f s.chip) hfits rfl (by simp +contextual [Only]) ?_
    rw [hdone, when_true, setHamper_eq, domainBroadcast_setHampers, setHampers_hampers, setHampers_lane,
      show (domainBroadcast 3 x s.chip).hampers = s.chip.hampers from laneSend_part .hampers (by decide) ..]
    exact ⟨rfl, rfl⟩
  case moreYes =>
    intro s node f x hfits hmember hof hstate hgo hnode hyes hall
    have hdone := domainVoteReceive_of_yes hmember hof hstate hgo hnode hyes hall
    refine gives_of_guarded (domainVoteReceive node f s.chip) hfits rfl (by simp +contextual [Only]) ?_
    rw [hdone]
    exact ⟨rfl, rfl⟩
  case deadline =>
    intro s h x hof hlive hmode hstate hgo hdue hqueue
    have hdone : domainVoteDeadline h s.chip = abortDomain x (firstMissing s.chip x x.votes) .noVote 255 s.chip := by
      unfold domainVoteDeadline
      rw [hof]
      exact if_pos (by simp [hmode, hstate, hgo, hdue, hqueue])
    refine gives_of_when hlive rfl (by simp +contextual [Only]) ?_
    rw [hdone]
    exact ⟨abortDomain_list .., fun hidle => abortDomain_lane hidle ..⟩
  case go =>
    intro s f x hfits hmember hof hstate
    have hdone : domainGoReceive f s.chip = setHamper x.handle (fun y => { y with state := .armed }) s.chip := by
      unfold domainGoReceive
      rw [if_neg (by rw [hmember]; decide), hof]
      exact if_pos (by rw [hstate]; rfl)
    refine gives_of_guarded (domainGoReceive f s.chip) hfits rfl (by simp +contextual [Only]) ?_
    rw [hdone]
    rfl
  case arms =>
    intro s h x hlive hof hmode hstate hdue hsent
    have hdone : domainArmingPoint h s.chip = log 0x11 195 0 (domainValue s.chip x) (timeEntries x.t)
        (domainAnswer 4 x 0 0 0 (setHamper x.handle (fun y => { y with armedSent := true }) s.chip)) := by
      unfold domainArmingPoint
      rw [hof]
      dsimp only
      rw [if_neg (by simp [hmode, hdue]), if_pos (by simp [hstate, hsent])]
    refine gives_of_when hlive rfl (by simp +contextual [Only]) ?_
    rw [hdone, setHamper_eq, domainAnswer_setHampers]
    have hkept {pt : Part} (hlane : pt ≠ .lane) : part pt (domainAnswer 4 x 0 0 0 s.chip) = part pt s.chip := domainAnswer_keeps hlane ..
    refine ⟨?_, ?_, ?_⟩
    · rw [log_hampers, setHampers_hampers, show (domainAnswer 4 x 0 0 0 s.chip).hampers = s.chip.hampers from hkept (pt := .hampers) (by decide)]
    · rw [log_lane, setHampers_lane]
    · exact log_alm_congr _ _ _ _ _ (hkept (pt := .alm) (by decide)) (stamp_domainAnswer 4 x 0 0 0 s.chip)
  case notArmed =>
    intro s h x hlive hof hmode hstate hdue
    have hdone : domainArmingPoint h s.chip =
        endHamper x .aborted { status := .aborted, node := ownNode s.chip, pos := 255 } .aborted s.chip := by
      unfold domainArmingPoint
      rw [hof]
      dsimp only
      rw [if_neg (by simp [hmode, hdue]), if_neg (by simp [hstate]), if_pos (by simp [hstate])]
    refine gives_of_when hlive rfl (by simp +contextual [Only]) ?_
    rw [hdone]
    exact ⟨endHamper_list ..,
      endHamper_part .alm (by decide) (by decide) (by decide) (by decide) (by decide) (by decide) (by decide) x _ _ _ s.chip⟩
  case armedFrame =>
    intro s node f x hfits hmember hof hnode hnew
    have hdone : domainArmedReceive node f s.chip =
        setHamper x.handle (fun y => { y with armedNodes := y.armedNodes ++ [node] }) s.chip := by
      unfold domainArmedReceive
      rw [if_neg (by rw [hmember]; decide), hof]
      exact if_pos (by simp [hnode, hnew])
    refine gives_of_guarded (domainArmedReceive node f s.chip) hfits rfl (by simp +contextual [Only]) ?_
    rw [hdone]
    rfl
  case commits =>
    intro s h x hlive hof hmode hstate hdue hdecision hall
    have hdone : domainDecisionPoint h s.chip = domainBroadcast 5 x (completeHeld x .ok
        (setHamper x.handle (fun y => { y with decision := some true, req := none }) s.chip)) := by
      unfold domainDecisionPoint
      rw [hof]
      dsimp only
      rw [if_neg (by simp [hmode, hstate, hdecision, hdue]), if_pos (by simpa [List.all_eq_true] using hall)]
    refine gives_of_when hlive rfl (by simp +contextual [Only]) ?_
    rw [hdone]
    refine ⟨?_, fun hidle => ?_⟩
    · rw [show ∀ d, (domainBroadcast 5 x d).hampers = d.hampers from fun d => laneSend_part .hampers (by decide) .., completeHeld_hampers]
      rfl
    · unfold completeHeld
      rw [hidle]
      dsimp only
      rw [setHamper_eq, domainBroadcast_setHampers, setHampers_lane]
  case misses =>
    intro s h x hlive hof hmode hstate hdue hdecision hmissing
    have hdone : domainDecisionPoint h s.chip = abortDomain x (firstMissing s.chip x x.armedNodes) .noArmed 255
        (setHamper x.handle (fun y => { y with decision := some false }) s.chip) := by
      unfold domainDecisionPoint
      rw [hof]
      dsimp only
      rw [if_neg (by simp [hmode, hstate, hdecision, hdue]), if_neg (by rw [hmissing]; decide)]
    refine gives_of_when hlive rfl (by simp +contextual [Only]) ?_
    rw [hdone]
    refine ⟨?_, fun hidle => ?_⟩
    · rw [abortDomain_list]
      change (s.chip.hampers.list.map _).map _ = _
      rw [List.map_map]
      refine List.map_congr_left fun y _ => ?_
      by_cases hy : y.handle = x.handle
      · simp [hy]
      · simp [hy]
    · rw [abortDomain_lane hidle, setHamper_eq, domainBroadcast_setHampers, setHampers_lane]
  case again =>
    intro s h x d hlive hof hmode hdue hdecision
    have hdone : domainDecisionRepeat h s.chip = domainBroadcast (if d then 5 else 6) x s.chip := by
      unfold domainDecisionRepeat
      rw [hof]
      dsimp only
      rw [if_neg (by simp [hmode, hdue]), hdecision]
    refine gives_of_when hlive rfl (by simp +contextual [Only]) ?_
    rw [hdone]
  case commitFrame =>
    intro s f x hfits hmember hof hstate
    have hdone : domainCommitReceive f s.chip = setHamper x.handle (fun y => { y with decision := some true }) s.chip := by
      unfold domainCommitReceive
      rw [if_neg (by rw [hmember]; decide), hof]
      exact if_pos (by rw [hstate]; rfl)
    refine gives_of_guarded (domainCommitReceive f s.chip) hfits rfl (by simp +contextual [Only]) ?_
    rw [hdone]
    rfl
  case abortFrame =>
    intro s f x hfits hmember hof
    have hdone : domainAbortReceive f s.chip =
        endHamper x .aborted { status := .aborted, node := f.coordinator.val, pos := 255 } .aborted s.chip := by
      unfold domainAbortReceive
      rw [if_neg (by rw [hmember]; decide), hof]
    refine gives_of_guarded (domainAbortReceive f s.chip) hfits rfl (by simp +contextual [Only]) ?_
    rw [hdone, endHamper_hampers]
    exact ⟨rfl, rfl⟩
  case abortFailed =>
    intro s f x hfits hmember hnone hfailed
    have hdone : domainAbortReceive f s.chip = setHamper x.handle (fun y => { y with state := .aborted }) s.chip := by
      unfold domainAbortReceive
      rw [if_neg (by rw [hmember]; decide), hnone]
      dsimp only
      rw [hfailed]
    refine gives_of_guarded (domainAbortReceive f s.chip) hfits rfl (by rw [hdone]; simp +contextual [Only]) ?_
    rw [hdone]
    rfl
  case applies =>
    intro s h x k v hlive hof hmode hstate hdue hdecision hwrites hwaits hsorted hk
    have hx : x.handle = h.toNat := hamperOf_handle hof
    have hdone := domainApplyTime_decided hof (.inl hmode) hstate hdue hdecision
    refine gives_of_when hlive rfl (by simp +contextual [Only]) ?_
    rw [hdone, ← hx]
    exact applyDomain_applies (hx ▸ hof) hwrites hwaits hsorted hk
  case participantApplies =>
    intro s h x k v hlive hof hmode hstate hdue hdecision hwrites hwaits hsorted hk
    have hx : x.handle = h.toNat := hamperOf_handle hof
    have hdone := domainApplyTime_decided hof (.inr hmode) hstate hdue hdecision
    refine gives_of_when hlive rfl (by simp +contextual [Only]) ?_
    rw [hdone, ← hx]
    exact applyDomain_applies (hx ▸ hof) hwrites hwaits hsorted hk
  case discards =>
    intro s h x hlive hof hmode hstate hdue hdecision
    have hdone : domainApplyTime h s.chip = log 0x12 195 3 (domainValue s.chip x) (timeEntries x.t)
        (endHamper x .aborted { status := .aborted, node := ownNode s.chip, pos := 255 } .aborted s.chip) := by
      unfold domainApplyTime
      rw [hof]
      dsimp only
      rw [if_neg (by rw [domainApply_due hstate hdue]; decide), hmode]
      cases hx : x.decision with
      | none => rfl
      | some b =>
        cases b with
        | false => rfl
        | true => exact absurd hx hdecision
    have hended {pt : Part} (h0 : pt ≠ .hamlets) (h1 : pt ≠ .market) (h2 : pt ≠ .hampers) (h3 : pt ≠ .can) (h4 : pt ≠ .tw)
        (h5 : pt ≠ .svc) (h6 : pt ≠ .lane) := endHamper_part pt h0 h1 h2 h3 h4 h5 h6 x .aborted
          { status := .aborted, node := ownNode s.chip, pos := 255 } .aborted s.chip
    refine gives_of_when hlive rfl (by simp +contextual [Only]) ?_
    rw [hdone]
    refine ⟨?_, ?_, ?_⟩
    · rw [log_hampers]
      exact endHamper_list ..
    · rw [log_od]
      exact hended (pt := .od) (by decide) (by decide) (by decide) (by decide) (by decide) (by decide) (by decide)
    · exact log_alm_congr _ _ _ _ _ (hended (pt := .alm) (by decide) (by decide) (by decide) (by decide) (by decide) (by decide) (by decide))
        (stamp_endHamper x _ _ _ s.chip)
  case appliedFrame =>
    intro s node f x hfits hmember hown hof hmode hstate hnode hnew
    have hdone : domainAppliedReceive node f s.chip =
        setHamper x.handle (fun y => { y with appliedNodes := y.appliedNodes ++ [node] }) s.chip := by
      unfold domainAppliedReceive
      rw [if_neg (by rw [hmember]; decide), if_pos hown, hof]
      exact if_pos (by simp [hmode, hstate, hnode, hnew])
    refine gives_of_guarded (domainAppliedReceive node f s.chip) hfits rfl (by simp +contextual [Only]) ?_
    rw [hdone]
    rfl
  case report =>
    intro s h x hlive hof hmode hstate hdue hmissing
    have hdone : domainReportEnd h s.chip = log 0x14 195 2
        (((participants s.chip x).filter fun n => !x.appliedNodes.contains n).length : Int) []
        (setHamper x.handle (fun y => { y with
          state := .partial_, missing := (participants s.chip x).filter fun n => !x.appliedNodes.contains n }) s.chip) := by
      unfold domainReportEnd
      rw [hof]
      dsimp only
      exact if_pos (by simpa [hmode, hstate, hdue, List.isEmpty_iff] using hmissing)
    refine gives_of_when hlive rfl (by simp +contextual [Only]) ?_
    rw [hdone, log_hampers]
    rfl

end Sys2Proof.Machine
end

section
/-! CAN lines, NMT states and heartbeats (R293 to R296, R305). -/

namespace Sys2Proof.Machine

/-! ### What answers leave of the lines -/

/-- The heartbeats that are overdue stay. -/
def KeepsHeartbeats (c d : Chip) : Prop := ∀ l : Fin 2, d.can.lines[l].hbTimedOut = c.can.lines[l].hbTimedOut

theorem setLine_lines (i j : Fin 2) (f : CanLine → CanLine) (c : Chip) :
    (setLine i f c).can.lines[j] = if i = j then f c.can.lines[i] else c.can.lines[j] := by
  change (c.can.lines.set i (f c.can.lines[i]))[j] = _
  by_cases h : i = j
  · subst h
    simp
  · rw [if_neg h]
    exact Vector.getElem_set_ne i.isLt j.isLt (fun hij => h (Fin.ext hij))

namespace KeepsHeartbeats

theorem of_can {c d : Chip} (h : part .can d = part .can c) : KeepsHeartbeats c d := fun l => by
  rw [show d.can = c.can from h]

theorem refl (c : Chip) : KeepsHeartbeats c c := fun _ => rfl

theorem trans {c d e : Chip} (hcd : KeepsHeartbeats c d) (hde : KeepsHeartbeats d e) : KeepsHeartbeats c e :=
  fun l => (hde l).trans (hcd l)

theorem each {α : Type} {f : α → Chip → Chip} (h : ∀ a c, KeepsHeartbeats c (f a c)) (l : List α) (c : Chip) :
    KeepsHeartbeats c (each l f c) :=
  each_keeps (P := fun d => KeepsHeartbeats c d) (fun a _ d hd => hd.trans (h a d)) (refl c)

theorem when {f : Chip → Chip} (h : ∀ c, KeepsHeartbeats c (f c)) (b : Bool) (c : Chip) : KeepsHeartbeats c (when b f c) := by
  cases b
  · exact refl c
  · exact h c

theorem setLine {f : CanLine → CanLine} (h : ∀ x, (f x).hbTimedOut = x.hbTimedOut) (i : Fin 2) (c : Chip) :
    KeepsHeartbeats c (setLine i f c) := fun l => by
  rw [setLine_lines]
  split
  case isTrue hi => rw [h, hi]
  case isFalse => rfl

theorem usdoSend (l : Fin 2) (m : CanTx) (c : Chip) : KeepsHeartbeats c (usdoSend l m c) :=
  when (f := canSend l m) (fun _ _ => rfl) _ c

theorem reply (q : Req) (st : Status) (v : List Byte) (c : Chip) : KeepsHeartbeats c (reply q st v c) := by
  unfold Machine.reply
  extract_lets ok
  split
  case h_1 => exact refl c
  case h_2 l seg hreply =>
    extract_lets reading open_
    split
    · exact refl c
    · split
      · refine .trans ?_ (usdoSend l (.usdoAbort q.k (BitVec.ofNat 32 (abortCode c q st))) _)
        exact when (f := Machine.setLine l fun x => { x with usdo := none }) (setLine (f := fun x => { x with usdo := none }) (fun _ => rfl) l) reading c
      · split
        · exact usdoSend _ _ _
        · split
          · refine .trans ?_ (usdoSend _ _ _)
            exact setLine (f := fun x => { x with usdo := some { write := false, k := q.k, data := v } }) (fun _ => rfl) l c
          · exact usdoSend _ _ _
  case h_3 =>
    split
    · exact refl c
    · exact fun _ => rfl
  case h_4 =>
    extract_lets held
    refine (of_can rfl : KeepsHeartbeats c held).trans ?_
    split
    · split <;> exact of_can rfl
    · exact of_can rfl
  case h_5 => exact of_can rfl
  case h_6 => split <;> exact of_can rfl
  case h_7 => split <;> exact of_can (odAnswer_part .can (by decide) ..)
  case h_8 =>
    split
    · exact of_can (odAnswer_part .can (by decide) ..)
    · exact of_can (odAnswer_part .can (by decide) ..)

theorem finish (q : Req) (st : Status) (v : List Byte) (c : Chip) : KeepsHeartbeats c (finish q st v c) := by
  unfold Machine.finish
  refine .trans ?_ (reply q st v _)
  exact of_can (by simp)

theorem complete (q : Req) (st : Status) (v : List Byte) (c : Chip) : KeepsHeartbeats c (complete q st v c) := by
  have hplaced (o : Origin) (k : Key) (d : Chip) : KeepsHeartbeats d (fenceQueued o k (placeFence o k d)) :=
    (of_can rfl : KeepsHeartbeats d (placeFence o k d)).trans (each (fun q d => finish q .fenced [] d) _ _)
  unfold Machine.complete
  dsimp only
  split
  · exact (finish q st v c).trans (hplaced _ _ _)
  · exact finish q st v c

theorem originLost (o : Origin) (c : Chip) : KeepsHeartbeats c (originLost o c) := by
  refine each (fun h d => ?_) _ c
  have hheld (st : Status) (e : Chip) : KeepsHeartbeats e (completeHeld h st e) := by
    unfold completeHeld completeId
    split
    · split
      · exact complete _ _ _ e
      · exact refl e
    · exact refl e
  exact (of_can rfl : KeepsHeartbeats d (unqueue h.handle (setHamper h.handle _ d))).trans (hheld .ok _)

end KeepsHeartbeats

/-! ### The lines that carry a message -/

theorem canSendAll_can (m : CanTx) (c : Chip) :
    (canSendAll m c).can = { c.can with tx := c.can.tx ++ (canLines c).map fun l => (l, m) } := by
  unfold canSendAll
  generalize canLines c = l
  unfold each
  induction l generalizing c with
  | nil => simp
  | cons a l ih =>
    rw [List.foldl_cons, ih]
    simp [canSend, setCan]

/-- The lines that carry a message read the mode and what is in bus-off. -/
theorem canLines_congr {c d : Chip} (hmode : nat d kCanMode = nat c kCanMode)
    (hoff : ∀ l : Fin 2, d.can.lines[l].busOff = c.can.lines[l].busOff) : canLines d = canLines c := by
  unfold canLines lineUsed
  rw [hmode]
  exact List.filter_congr fun l _ => by rw [hoff l]

/-! ### Reset communication -/

theorem odFind_filter (l : List (Key × Val)) (p : Key → Bool) {k : Key} (hk : p k = true) :
    odFind (l.filter fun e => p e.1) k = odFind l k := by
  induction l with
  | nil => rfl
  | cons e l ih =>
    obtain ⟨q, w⟩ := e
    by_cases hq : q = k
    · subst hq
      rw [List.filter_cons, if_pos hk]
      simp [odFind]
    · cases hp : p q with
      | false => rw [List.filter_cons, if_neg (by rw [hp]; decide), ih, odFind, if_neg hq]
      | true => rw [List.filter_cons, if_pos hp, odFind, odFind, if_neg hq, if_neg hq, ih]

/-- Objects outside 1000h to 1FFFh keep their values (R295). -/
theorem reloadComm_keepsValue {k : Key} (hk : indexIn k 0x1000 0x1FFF = false) (c : Chip) : KeepsValue k c (reloadComm c) := by
  have hdropped : KeepsValue k c { c with od := c.od.filter fun e => !indexIn e.1 0x1000 0x1FFF } :=
    ⟨odFind_filter c.od (fun q => !indexIn q 0x1000 0x1FFF) (by rw [hk]; rfl), rfl, fun _ => rfl⟩
  unfold reloadComm
  refine hdropped.trans (KeepsValue.each (fun e he d => ?_) _)
  have hne : k ≠ e.1 := by
    rintro rfl
    have hin := (List.mem_filter.mp he).2
    rw [hk] at hin
    exact Bool.false_ne_true hin
  unfold loadEntry
  split
  · exact KeepsValue.put hne _ d
  · exact KeepsValue.refl k d

/-- The communication as it starts, before the boot-up message leaves (R295). -/
def commStarted (c : Chip) : Chip :=
  setCan (fun x => { x with
    rpdos := Vector.replicate 16 {}, tpdos := Vector.replicate 16 {}
    lines := x.lines.map fun l => { l with usdo := none, hbTimedOut := l.hbTimedOut.set 0 false } })
    (reloadComm (setCan (fun x => { x with nodeId := nat c kCanNodeId, nmt := .preOperational }) c))

theorem startComm_eq (c : Chip) : startComm c = canSendAll (.bootUp (commStarted c).can.nodeId) (commStarted c) := rfl

theorem commStarted_can (c : Chip) : (commStarted c).can = { c.can with
    nodeId := nat c kCanNodeId, nmt := .preOperational, rpdos := Vector.replicate 16 {}, tpdos := Vector.replicate 16 {}
    lines := c.can.lines.map fun l => { l with usdo := none, hbTimedOut := l.hbTimedOut.set 0 false } } := by
  unfold commStarted
  rw [setCan_can, show ∀ d : Chip, (reloadComm d).can = d.can from reloadComm_part .can (by decide)]
  rfl

theorem cfg_startComm {k : Key} (hk : indexIn k 0x1000 0x1FFF = false) (c : Chip) : cfg (startComm c) k = cfg c k := by
  have hemcy : k ≠ kCobIdEmcy := by
    rintro rfl
    exact absurd hk (by decide)
  have hset (f : Can → Can) (d : Chip) : KeepsValue k d (setCan f d) := ⟨rfl, rfl, fun h => absurd h hemcy⟩
  have hstarted : KeepsValue k c (commStarted c) := ((hset _ c).trans (reloadComm_keepsValue hk _)).trans (hset _ _)
  have hsends (m : CanTx) (d : Chip) : KeepsValue k d (canSendAll m d) := KeepsValue.each (fun l _ d => hset _ d) d
  rw [startComm_eq]
  exact (hstarted.trans (hsends _ _)).cfg

theorem startComm_can (c : Chip) : (startComm c).can = { (commStarted c).can with
    tx := c.can.tx ++ (canLines c).map fun m => (m, .bootUp (nat c kCanNodeId)) } := by
  have hlines : canLines (commStarted c) = canLines c := by
    refine canLines_congr ?_ fun l => ?_
    · have hemcy : kCanMode ≠ kCobIdEmcy := by decide
      have hset (f : Can → Can) (d : Chip) : KeepsValue kCanMode d (setCan f d) := ⟨rfl, rfl, fun h => absurd h hemcy⟩
      have hkept : KeepsValue kCanMode c (commStarted c) := ((hset _ c).trans (reloadComm_keepsValue (by decide) _)).trans (hset _ _)
      unfold nat num
      rw [hkept.cfg]
    · rw [commStarted_can]
      simp
  rw [startComm_eq, canSendAll_can, hlines, commStarted_can]

end Sys2Proof.Machine
end

section
/-! CAN fault confinement, NMT and heartbeat commands (R293 to R296, R305). -/

namespace Sys2Proof.Machine

theorem lineServed_parts {c : Chip} {l : Fin 2} (h : lineServed c l) : linePresent c l = true ∧ c.can.lines[l].busOff = false := by
  simpa [lineServed] using h

/-- The EMCY messages of a line are discarded (R305). -/
def dropEmcy (l : Fin 2) (c : Chip) : Chip :=
  setCan (fun x => { x with emcyLost := min 65535 (x.emcyLost + c.can.lines[l].emcyQ.length) })
    (setLine l (fun x => { x with emcyQ := [] }) c)

theorem dropEmcy_lines (l m : Fin 2) (c : Chip) : (dropEmcy l c).can.lines[m] =
    if l = m then { c.can.lines[l] with emcyQ := [] } else c.can.lines[m] := by
  exact setLine_lines l m (fun x => { x with emcyQ := [] }) c

/-- The EMCY messages of both lines are discarded (R305). -/
theorem discardEmcy_can (c : Chip) : (discardEmcy c).can.nmt = c.can.nmt ∧ (discardEmcy c).can.tx = c.can.tx ∧
    ∀ m : Fin 2, (discardEmcy c).can.lines[m] = { c.can.lines[m] with emcyQ := [] } := by
  have hboth : discardEmcy c = dropEmcy 1 (dropEmcy 0 c) := rfl
  rw [hboth]
  refine ⟨rfl, rfl, fun m => ?_⟩
  rw [dropEmcy_lines, dropEmcy_lines, dropEmcy_lines]
  match m with
  | 0 | 1 => rfl

theorem nmtEnter_of_served {n : NmtState} {l : Fin 2} {c : Chip} (h : lineServed c l) :
    nmtEnter n l c = setCan (fun x => { x with nmt := n }) c := by
  unfold nmtEnter
  rw [h]
  rfl

theorem nmtStop_of_served {c : Chip} {l : Fin 2} (h : lineServed c l) :
    nmtStop l c = discardEmcy (setCan (fun x => { x with nmt := .stopped }) c) := by
  unfold nmtStop nmtEnter
  rw [h]
  rfl

theorem startComm_lines (c : Chip) (m : Fin 2) :
    (startComm c).can.lines[m].usdo = none ∧ (startComm c).can.lines[m].hbTimedOut[0] = false := by
  rw [startComm_can, commStarted_can]
  simp

/-- Reset communication and reset node (R295). -/
theorem startComm_resets {c : Chip} : (startComm c).can.nmt = .preOperational ∧ (startComm c).can.nodeId = nat c kCanNodeId ∧
    (startComm c).can.tx = c.can.tx ++ (canLines c).map (fun m => (m, .bootUp (nat c kCanNodeId))) ∧
    (∀ m : Fin 2, (startComm c).can.lines[m].usdo = none ∧ (startComm c).can.lines[m].hbTimedOut[0] = false) ∧
    (∀ k, indexIn k 0x1000 0x1FFF = false → cfg (startComm c) k = cfg c k) := by
  refine ⟨startComm_nmt c, ?_, ?_, startComm_lines c, fun k hk => cfg_startComm hk c⟩
  · rw [startComm_can, commStarted_can]
  · rw [startComm_can]

/-- Settles O31: each command of a served line changes what its rule says. -/
theorem canLineAndNmtCommands : Obligations.CanLineAndNmtCommands := by
  refine ⟨?passive, ?unserved, ?off, ?restart, ?active, ?start, ?pre, ?stop, ?resetComm, ?resetNode, ?heartbeat, ?timeout, ?produce, ?emcy⟩
  case passive =>
    intro s l hserved hpassive _
    have hdone : canErrorPassive l s.chip = raise (172 + l) 1 0 (setLine l (fun x => { x with errPassive := true }) s.chip) := by
      unfold canErrorPassive
      exact if_neg (by rw [hserved, hpassive]; decide)
    refine gives_of_answer (canErrorPassive l s.chip) rfl (by rw [hdone]; simp +contextual [Only]) ?_
    rw [hdone, raise_can]
    exact ⟨rfl, raise_watch_congr _ _ _ rfl⟩
  case unserved =>
    intro s l hserved
    have hdone : canErrorPassive l s.chip = s.chip := by
      unfold canErrorPassive
      exact if_pos (by rw [hserved]; rfl)
    exact gives_of_kept (congrArg (answer s) hdone) rfl
  case off =>
    intro s l hserved _
    have hdone : canBusOff l s.chip = raise (172 + l) 1 0 (setLine l (fun x => { x with busOff := true, recovering := false }) s.chip) := by
      unfold canBusOff
      exact if_neg (by rw [hserved]; decide)
    refine gives_of_answer (canBusOff l s.chip) rfl (by rw [hdone]; simp +contextual [Only]) ?_
    rw [hdone, raise_can]
    exact ⟨rfl, raise_watch_congr _ _ _ rfl⟩
  case restart =>
    intro s l hpresent hoff
    refine gives_of_when (b := linePresent s.chip l && s.chip.can.lines[l].busOff)
      (f := setLine l fun x => { x with recovering := true }) (by rw [hpresent, hoff]; rfl) rfl (by simp +contextual [Only]) rfl
  case active =>
    intro s l hpresent hrecovering
    have hdone : errorActiveReturn l s.chip =
        setLine l (fun x => { x with errPassive := false, busOff := false, recovering := false }) s.chip := by
      unfold errorActiveReturn
      refine if_pos ?_
      rw [hpresent]
      cases hoff : s.chip.can.lines[l].busOff with
      | false => rfl
      | true => rw [hrecovering hoff]; rfl
    refine gives_of_answer (errorActiveReturn l s.chip) rfl (by rw [hdone]; simp +contextual [Only]) ?_
    rw [hdone]
    rfl
  case start =>
    intro s l hserved
    have hstill (f : Can → Can) (hf : ∀ x, (f x).lines = x.lines ∧ (f x).nmt = x.nmt ∧ (f x).nodeId = x.nodeId) :
        lineServed (setCan f s.chip) l = true := by
      obtain ⟨hlines, hnmt, hnode⟩ := hf s.chip.can
      have hused : lineUsed (setCan f s.chip) l = lineUsed s.chip l := by
        unfold lineUsed
        rw [show nat (setCan f s.chip) kCanMode = nat s.chip kCanMode from rfl]
      unfold lineServed linePresent at hserved ⊢
      rw [hused, show netUp (setCan f s.chip) = netUp s.chip from rfl, show (setCan f s.chip).can.nmt = s.chip.can.nmt from hnmt,
        show (setCan f s.chip).can.lines = s.chip.can.lines from hlines]
      exact hserved
    have hdone : (nmtStart l s.chip).can = { s.chip.can with
        nmt := .operational, tpdos := if s.chip.can.nmt = .operational then s.chip.can.tpdos else
          s.chip.can.tpdos.map fun t => { t with started := false, syncs := 0 } } := by
      unfold nmtStart
      rw [hserved]
      by_cases hnmt : s.chip.can.nmt = .operational
      · rw [hnmt, if_pos rfl]
        change (nmtEnter .operational l s.chip).can = _
        rw [nmtEnter_of_served hserved]
        rfl
      · rw [bne_iff_ne.mpr hnmt, if_neg hnmt, Bool.and_self, when_true, 
          nmtEnter_of_served (hstill (fun x => { x with tpdos := x.tpdos.map fun t => { t with started := false, syncs := 0 } })
            fun _ => ⟨rfl, rfl, rfl⟩)]
        rfl
    exact gives_of_answer (nmtStart l s.chip) rfl (by simp +contextual [Only]) hdone
  case pre =>
    intro s l hserved
    exact gives_of_when (b := lineServed s.chip l) (f := setCan fun x => { x with nmt := .preOperational }) hserved rfl
      (by simp +contextual [Only]) rfl
  case stop =>
    intro s l hserved
    refine gives_of_answer (nmtStop l s.chip) rfl (by simp +contextual [Only]) ?_
    rw [nmtStop_of_served hserved]
    exact discardEmcy_can _
  case resetComm =>
    intro s l hserved _
    exact gives_of_when (b := lineServed s.chip l) (f := startComm) hserved rfl (by simp +contextual [Only]) startComm_resets
  case resetNode =>
    intro s l hserved _
    exact gives_of_when (b := lineServed s.chip l) (f := startComm) hserved rfl (by simp +contextual [Only]) startComm_resets
  case heartbeat =>
    intro s l node hserved
    have hdone : heartbeatReceive l node s.chip = setLine l (fun x => { x with hbTimedOut := Vector.ofFn fun j =>
        x.hbTimedOut[j] && !((consumerEntry s.chip j).1 == node.toNat && (consumerEntry s.chip j).2 != 0) }) s.chip := by
      unfold heartbeatReceive
      exact if_neg (by rw [hserved]; decide)
    refine gives_of_answer (heartbeatReceive l node s.chip) rfl (by rw [hdone]; simp +contextual [Only]) fun j => ?_
    rw [hdone, setLine_lines, if_pos rfl]
    exact Vector.getElem_ofFn ..
  case timeout =>
    intro s l e hpresent htime halive
    let d : Chip := raise (172 + l) 2 0 (setLine l (fun x => { x with hbTimedOut := x.hbTimedOut.set e true }) s.chip)
    have hdone : heartbeatConsumerTimeout l e s.chip = when (e.val == 0) (originLost (.can l)) d := by
      unfold heartbeatConsumerTimeout
      exact if_neg (by simp [-Fin.getElem_fin, hpresent, htime, halive])
    have hline : d.can.lines[l].hbTimedOut = s.chip.can.lines[l].hbTimedOut.set e true := by
      rw [show d.can = _ from raise_can .., setLine_lines, if_pos rfl]
    have hkept : KeepsHeartbeats d (when (e.val == 0) (originLost (.can l)) d) := KeepsHeartbeats.when (KeepsHeartbeats.originLost (.can l)) _ d
    refine gives_of_answer (heartbeatConsumerTimeout l e s.chip) rfl (by simp +contextual [Only]) ?_
    rw [hdone]
    refine ⟨(hkept l).trans hline, ?_, fun he => ?_, fun he => ?_⟩
    · have hwatch : (when (e.val == 0) (originLost (.can l)) d).watch = d.watch :=
        when_part .watch _ _ d fun c => originLost_watch (.can l) c
      rw [hwatch]
      exact raise_watch_congr _ _ _ rfl
    · subst he
      exact originLost_closed (.can l) d
    · have hzero : (e.val == 0) = false := beq_eq_false_iff_ne.mpr fun h => he (Fin.ext h)
      rw [hzero]
      exact raise_hampers ..
  case produce =>
    intro s hpresent htime
    refine gives_of_when (b := linePresent s.chip 0 && nat s.chip kProducerHeartbeatTime != 0)
      (f := canSendAll (.heartbeat s.chip.can.nodeId s.chip.can.nmt)) (by rw [hpresent]; simpa using htime) rfl
      (by simp +contextual [Only]) (canSendAll_can _ _)
  case emcy =>
    intro s l e rest hserved htalking hinhibit hqueue
    have hdone : emcySend l s.chip =
        canSend l (.emcy e) (setLine l (fun x => { x with emcyQ := rest, emcySentAt := some s.chip.clock.us }) s.chip) := by
      unfold emcySend
      rw [if_neg (by rw [hserved, htalking, hinhibit]; decide), hqueue]
    refine gives_of_answer (emcySend l s.chip) rfl (by rw [hdone]; simp +contextual [Only]) ?_
    rw [hdone]
    rfl

end Sys2Proof.Machine
end

section
/-! PDOs, USDO sessions and what a request leaves of them (R295 to R302). -/

namespace Sys2Proof.Machine

/-! ### What a request leaves of the RPDOs -/

/-- The RPDOs stay, and request numbers only grow. -/
def KeepsRpdos (c d : Chip) : Prop := d.can.rpdos = c.can.rpdos ∧ c.market.nextId ≤ d.market.nextId

namespace KeepsRpdos

theorem refl (c : Chip) : KeepsRpdos c c := ⟨rfl, Nat.le_refl _⟩

theorem trans {c d e : Chip} (hcd : KeepsRpdos c d) (hde : KeepsRpdos d e) : KeepsRpdos c e :=
  ⟨hde.1.trans hcd.1, Nat.le_trans hcd.2 hde.2⟩

theorem of_parts {c d : Chip} (hcan : d.can = c.can) (hnext : c.market.nextId ≤ d.market.nextId) : KeepsRpdos c d :=
  ⟨congrArg Can.rpdos hcan, hnext⟩

theorem of_kept {c d : Chip} (hcan : part .can d = part .can c) (hmarket : part .market d = part .market c) : KeepsRpdos c d :=
  of_parts hcan (Nat.le_of_eq (congrArg Market.nextId (show d.market = c.market from hmarket)).symm)

theorem each {α : Type} {f : α → Chip → Chip} (h : ∀ a c, KeepsRpdos c (f a c)) (l : List α) (c : Chip) : KeepsRpdos c (each l f c) :=
  each_keeps (P := fun d => KeepsRpdos c d) (fun a _ d hd => hd.trans (h a d)) (refl c)

theorem when {f : Chip → Chip} (h : ∀ c, KeepsRpdos c (f c)) (b : Bool) (c : Chip) : KeepsRpdos c (when b f c) := by
  cases b
  · exact refl c
  · exact h c

theorem setLine (i : Fin 2) (f : CanLine → CanLine) (c : Chip) : KeepsRpdos c (setLine i f c) := ⟨rfl, Nat.le_refl _⟩

theorem usdoSend (l : Fin 2) (m : CanTx) (c : Chip) : KeepsRpdos c (usdoSend l m c) :=
  when (f := canSend l m) (fun _ => ⟨rfl, Nat.le_refl _⟩) _ c

theorem odAnswer (node : Fin 1024) (op : OdOp) (tag : BitVec 16) (k : Key) (st off : Nat) (v : List Byte) (c : Chip) :
    KeepsRpdos c (odAnswer node op tag k st off v c) :=
  of_kept (odAnswer_part .can (by decide) ..) (odAnswer_part .market (by decide) ..)

theorem reply (q : Req) (st : Status) (v : List Byte) (c : Chip) : KeepsRpdos c (reply q st v c) := by
  unfold Machine.reply
  extract_lets ok
  split
  case h_1 => exact refl c
  case h_2 l seg hreply =>
    extract_lets reading open_
    split
    · exact refl c
    · split
      · exact (when (setLine l _) reading c).trans (usdoSend ..)
      · split
        · exact usdoSend ..
        · split
          · exact (setLine l _ c).trans (usdoSend ..)
          · exact usdoSend ..
  case h_3 =>
    split
    · exact refl c
    · exact ⟨rfl, Nat.le_refl _⟩
  case h_4 =>
    extract_lets held
    refine (of_kept rfl rfl : KeepsRpdos c held).trans ?_
    split
    · split <;> exact of_kept rfl rfl
    · exact of_kept rfl rfl
  case h_5 => exact of_kept rfl rfl
  case h_6 => split <;> exact of_kept rfl rfl
  case h_7 => split <;> exact odAnswer ..
  case h_8 =>
    split
    · refine .trans ?_ (odAnswer ..)
      exact of_kept rfl rfl
    · exact odAnswer ..

theorem finish (q : Req) (st : Status) (v : List Byte) (c : Chip) : KeepsRpdos c (finish q st v c) := by
  refine ⟨?_, Nat.le_of_eq (congrArg Market.nextId (finish_market q st v c)).symm⟩
  unfold Machine.finish
  refine (reply q st v _).1.trans (congrArg Can.rpdos ?_)
  change part .can _ = part .can c
  simp

theorem complete (q : Req) (st : Status) (v : List Byte) (c : Chip) : KeepsRpdos c (complete q st v c) := by
  have hplaced (o : Origin) (k : Key) (d : Chip) : KeepsRpdos d (fenceQueued o k (placeFence o k d)) :=
    (of_parts rfl (Nat.le_refl _) : KeepsRpdos d (placeFence o k d)).trans (each (fun q d => finish q .fenced [] d) _ _)
  unfold Machine.complete
  dsimp only
  split
  · exact (finish q st v c).trans (hplaced _ _ _)
  · exact finish q st v c

theorem refuse (q : Req) (st : Status) (c : Chip) : KeepsRpdos c (refuse q st c) := by
  unfold Machine.refuse
  refine .trans ?_ (reply q st [] _)
  split
  · refine .trans ?_ (of_kept (spoilAdmission_part .can (by decide) ..) (spoilAdmission_part .market (by decide) ..))
    exact of_parts rfl (Nat.le_refl _)
  · exact of_parts rfl (Nat.le_refl _)

theorem sendPacket (src dst : Fin 27) (p : Packet) (c : Chip) : KeepsRpdos c (sendPacket src dst p c) := by
  refine of_parts (sendPacket_part .can (by decide) (by decide) (by decide) ..) ?_
  obtain ⟨ids, hmarket⟩ := (GreenMoves.greenServe (greenLoad
    (setHamlet src (fun x => fillStile { x with unsent := x.unsent ++ [(dst, p)] }) (requestWake dst c)))
    (setHamlet src (fun x => fillStile { x with unsent := x.unsent ++ [(dst, p)] }) (requestWake dst c))).market
  exact Nat.le_of_eq (congrArg Market.nextId hmarket).symm

theorem marketDispatch (o : Origin) (k : Key) (c : Chip) : KeepsRpdos c (marketDispatch o k c) := by
  unfold Machine.marketDispatch
  split
  · exact refl c
  · split
    · unfold dispatch
      dsimp only
      split
      · exact of_parts rfl (Nat.le_refl _)
      · refine .trans ?_ (sendPacket ..)
        exact of_parts rfl (Nat.le_refl _)
    · exact refl c

theorem stageWrite (o : Origin) (k : Key) (b : List Byte) (c : Chip) : KeepsRpdos c (stageWrite o k b c).2 := by
  have hspoil (h : Hamper) (st : Status) : KeepsRpdos c (spoil h k st c) :=
    of_kept (spoil_part .can (by decide) ..) (spoil_part .market (by decide) ..)
  unfold Machine.stageWrite
  split
  · exact refl c
  · dsimp only
    split
    · split
      · split
        · exact hspoil ..
        · exact of_kept rfl rfl
      · exact hspoil ..
    · exact hspoil ..

theorem admitReq (q : Req) (c : Chip) : KeepsRpdos c (admitReq q c) := by
  have htake : KeepsRpdos c (takeSlot q c) := by
    unfold takeSlot
    dsimp only
    refine .trans ?_ (marketDispatch ..)
    exact of_parts rfl (Nat.le_refl _)
  have hstage (b : List Byte) : KeepsRpdos c (takeSlotStaged q b c) := by
    unfold takeSlotStaged
    dsimp only
    refine .trans ?_ (complete ..)
    exact stageWrite ..
  unfold Machine.admitReq
  split
  · exact refuse ..
  · split
    · exact refuse ..
    · split
      · split
        · exact htake
        · exact refuse ..
      · dsimp only
        split
        · split
          · exact hstage _
          · exact htake
        · exact refuse ..

theorem submit (o : Origin) (k : Key) (data : Option (List Byte)) (r : Reply) (c : Chip) : KeepsRpdos c (submit o k data r c) := by
  have hnumbered : KeepsRpdos c (numbered c) := of_parts rfl (Nat.le_succ _)
  unfold Machine.submit
  split
  · exact refl c
  · dsimp only
    split
    · exact hnumbered.trans (of_parts rfl (Nat.le_refl _))
    · exact hnumbered.trans (admitReq ..)

theorem rpdoApply (l : Fin 2) (k : Fin 16) (b : List Byte) (c : Chip) : KeepsRpdos c (rpdoApply l k b c) := by
  have hwrites (m : List (Key × Nat)) (b : List Byte) (d : Chip) : KeepsRpdos d (rpdoWrites l m b d) := by
    induction m generalizing b d with
    | nil => exact refl d
    | cons e rest ih => exact (submit ..).trans (ih _ _)
  unfold Machine.rpdoApply
  dsimp only
  split
  · exact ⟨rfl, Nat.le_refl _⟩
  · exact hwrites _ _ c

end KeepsRpdos

/-! ### What a TPDO samples -/

section
variable (k : Fin 16) (f : Tpdo → Tpdo) (c : Chip)

theorem unitLoad_setTpdo (w : Nat) : unitLoad (setTpdo k f c) w = unitLoad c w := by
  have hphases (r : Fin 16) : phasesOf (setTpdo k f c) r = phasesOf c r := rfl
  have hrms : fittedRms (setTpdo k f c) = fittedRms c := rfl
  have hstrs : fittedStrs (setTpdo k f c) = fittedStrs c := rfl
  have hnat (q : Key) : nat (setTpdo k f c) q = nat c q := rfl
  simp only [unitLoad, hphases, hrms, hstrs, hnat]

theorem budgetLoad_setTpdo (m : Fin 16) : budgetLoad (setTpdo k f c) m = budgetLoad c m := by
  unfold budgetLoad
  simp only [unitLoad_setTpdo]
  rfl

theorem readMill_setTpdo (x : Fin 16) (i j : Nat) : readMill (setTpdo k f c) x i j = readMill c x i j := by
  have h := budgetLoad_setTpdo k f c x
  unfold readMill
  rw [h]
  rfl

theorem liveValue_setTpdo (o : Origin) (q : Key) : liveValue (setTpdo k f c) o q = liveValue c o q := by
  unfold liveValue
  simp only [readMill_setTpdo]
  rfl

/-- What a sample reads is no part of a TPDO. -/
theorem sampleAll_setTpdo (l : List Key) : sampleAll (setTpdo k f c) l = sampleAll c l := by
  have hread (q : Key) : readObject (setTpdo k f c) .reeve q = readObject c .reeve q := by
    unfold readObject readBytes valueOf
    rw [liveValue_setTpdo]
    rfl
  induction l with
  | nil => rfl
  | cons q rest ih =>
    unfold sampleAll
    rw [hread, ih]
    rfl

end

/-- A TPDO as it leaves with its values (R300). -/
def tpdoSent (now : Nat) (v : List Byte) (t : Tpdo) : Tpdo := { t with values := some v, sentAt := some now, delayed := false }

theorem sendTpdo_can {k : Fin 16} {v : List Byte} {c : Chip} (hvalid : tpdoValid c k) (hnmt : c.can.nmt = .operational)
    (hsample : sampleAll c (tpdoMap c k) = some v) : (sendTpdo k c).can = { c.can with
      tpdos := c.can.tpdos.set k (tpdoSent c.clock.us v c.can.tpdos[k])
      tx := c.can.tx ++ (canLines c).map fun m => (m, .tpdo k v) } := by
  have hdone : sendTpdo k c = canSendAll (.tpdo k v) (setTpdo k (tpdoSent c.clock.us v) c) := by
    unfold sendTpdo
    rw [if_neg (by rw [hvalid, hnmt]; decide), hsample]
    rfl
  rw [hdone, canSendAll_can]
  rfl

/-! ### USDO messages -/

/-- A message of a line that is served leaves, whatever its session. -/
theorem usdoSend_of_served {l : Fin 2} {f : CanLine → CanLine} (m : CanTx) {c : Chip} (hf : ∀ x, (f x).busOff = x.busOff)
    (hserved : lineServed c l) (htalk : talking c) : usdoSend l m (setLine l f c) = canSend l m (setLine l f c) := by
  change when (!(setLine l f c).can.lines[l].busOff && talking c) (canSend l m) (setLine l f c) = _
  rw [setLine_lines, if_pos rfl, hf, (lineServed_parts hserved).2, htalk]
  rfl

end Sys2Proof.Machine
end

section
/-! USDO requests and PDO commands (R292, R297 to R303). -/

namespace Sys2Proof.Machine

/-- A request that reaches its target is held under the next number, with its reply. -/
theorem reqOf_submit {o : Origin} {k : Key} {data : Option (List Byte)} (r : Reply) {c : Chip} (h : reaches o k data.isSome c) :
    reqOf (submit o k data r c) c.market.nextId = some { ownRequest o k data c with reply := r } ∧
      (submit o k data r c).can = c.can ∧ (submit o k data r c).tw = c.tw ∧ (submit o k data r c).svc = c.svc := by
  obtain ⟨-, -, -, -, -, -, hnew⟩ := (reaches_iff o k _ c).mp h
  rw [submit_of_reaches r h]
  exact ⟨reqOf_queued (q := { ownRequest o k data c with reply := r }) (c := numbered c) hnew, rfl, rfl, rfl⟩

theorem reaches_setCan {o : Origin} {k : Key} {w : Bool} (f : Can → Can) (c : Chip) : reaches o k w (setCan f c) = reaches o k w c := by
  have hwrite : writeCheck (setCan f c) o k false = writeCheck c o k false := by
    unfold writeCheck
    rfl
  have hread : readCheck (setCan f c) o k = readCheck c o k := by
    unfold readCheck
    rfl
  unfold reaches
  rw [hwrite, hread]
  rfl

theorem reaches_setLine {o : Origin} {k : Key} {w : Bool} (l : Fin 2) (f : CanLine → CanLine) (c : Chip) :
    reaches o k w (setLine l f c) = reaches o k w c :=
  reaches_setCan (fun x => { x with lines := x.lines.set l (f x.lines[l]) }) c

theorem usdoRequest_of_none {l : Fin 2} {c : Chip} (q : UsdoRequest) (hserved : lineServed c l) (htalk : talking c)
    (hnone : c.can.lines[l].usdo = none) : usdoRequest l q c =
      if q.write && q.segmented then
        usdoSend l (.usdoInit q.k 0) (setLine l (fun x => { x with usdo := some { write := true, k := q.k, data := q.data } }) c)
      else if q.segmented then
        submit (.can l) q.k none (.usdo l true)
          (setLine l (fun x => { x with usdo := some { write := false, k := q.k, data := [], ready := false } }) c)
      else submit (.can l) q.k (if q.write then some q.data else none) (.usdo l false) c := by
  unfold usdoRequest
  rw [if_neg (by rw [hserved, htalk]; decide), if_neg (by rw [hnone]; decide)]

theorem usdoSegment_of_some {l : Fin 2} {x : UsdoSession} {c : Chip} (data : List Byte) (last : Bool) (hserved : lineServed c l)
    (htalk : talking c) (hsome : c.can.lines[l].usdo = some x) : usdoSegment l data last c =
      if x.write then
        if last then submit (.can l) x.k (some (x.data ++ data)) (.usdo l true) (setLine l (fun y => { y with usdo := none }) c)
        else usdoSend l (.usdoNext x.k) (setLine l (fun y => { y with usdo := some { x with data := x.data ++ data } }) c)
      else if !x.ready then c
      else usdoSend l (.usdoData x.k (x.data.take 60))
        (setLine l (fun y => { y with usdo := if (x.data.drop 60).isEmpty then none else some { x with data := x.data.drop 60 } }) c) := by
  unfold usdoSegment
  rw [if_neg (by rw [hserved, htalk]; decide), hsome]

/-- A frame of an RPDO is noted with the line that brought it (R292). -/
def heardFrom (l : Fin 2) (k : Fin 16) (b : List Byte) (c : Chip) : Chip :=
  setRpdo k (fun x => { x with heard := x.heard.set l (noteFrame c.clock.us b x.heard[l]) }) c

/-- An RPDO that is heard anew is not stale (R302). -/
def rpdoFresh (l : Fin 2) (k : Fin 16) (b : List Byte) (c : Chip) : Chip :=
  setCan (fun x => { x with rpdoStale := x.rpdoStale &&& ~~~(1#16 <<< k.val) }) (heardFrom l k b c)

theorem reaches_rpdoFresh {o : Origin} {q : Key} {w : Bool} (l : Fin 2) (k : Fin 16) (b : List Byte) (c : Chip) :
    reaches o q w (rpdoFresh l k b c) = reaches o q w c := by
  unfold rpdoFresh heardFrom setRpdo
  rw [reaches_setCan, reaches_setCan]

theorem rpdoReceive_of_served {l : Fin 2} {k : Fin 16} (b : List Byte) {c : Chip} (hserved : lineServed c l)
    (hnmt : c.can.nmt = .operational) (hvalid : rpdoValid c k) : rpdoReceive l k b c =
      if rpdoDuplicate c l k b then heardFrom l k b c
      else if nat c (kRpdoType k) ≤ 0xF0 then setRpdo k (fun x => { x with waiting := some (l, b) }) (rpdoFresh l k b c)
      else rpdoApply l k b (rpdoFresh l k b c) := by
  unfold rpdoReceive
  rw [if_neg (by rw [hserved, hnmt, hvalid]; decide)]
  rfl

theorem tpdoSilent {k : Fin 16} {c : Chip} (counter : BitVec 8) (h : tpdoValid c k = false) : syncTpdo counter k c = c := by
  unfold syncTpdo
  extract_lets n
  rw [if_pos (by rw [h]; rfl)]

theorem syncReceive_of_served {l : Fin 2} {counter : BitVec 8} {c : Chip} (hserved : lineServed c l) (hnmt : c.can.nmt = .operational) :
    syncReceive l counter c = each (List.finRange 16) syncRpdo (each (List.finRange 16) (syncTpdo counter) c) := by
  unfold syncReceive
  rw [if_neg (by rw [hserved, hnmt]; decide)]

theorem kTpdoObjects_ne (j : Fin 16) : kTpdoCobId j ≠ kCobIdEmcy ∧ kTpdoType j ≠ kCobIdEmcy := by
  revert j
  decide +kernel

theorem sendTpdo_keepsValue {q : Key} (hq : q ≠ kCobIdEmcy) (k : Fin 16) (c : Chip) : KeepsValue q c (sendTpdo k c) := by
  have hset (f : Can → Can) (d : Chip) : KeepsValue q d (setCan f d) := ⟨rfl, rfl, fun h => absurd h hq⟩
  unfold sendTpdo
  split
  · exact .refl q c
  · split
    · exact .refl q c
    · exact (hset _ c).trans (KeepsValue.each (fun l _ d => hset _ d) _)

theorem nat_sendTpdo {q : Key} (hq : q ≠ kCobIdEmcy) (k : Fin 16) (c : Chip) : nat (sendTpdo k c) q = nat c q := by
  unfold nat num
  rw [(sendTpdo_keepsValue hq k c).cfg]

theorem tpdoValid_sendTpdo (k j : Fin 16) (c : Chip) : tpdoValid (sendTpdo k c) j = tpdoValid c j := by
  unfold tpdoValid
  rw [nat_sendTpdo (kTpdoObjects_ne j).1]

theorem eventDriven_sendTpdo (k j : Fin 16) (c : Chip) : eventDriven (sendTpdo k c) j = eventDriven c j := by
  unfold eventDriven
  rw [tpdoValid_sendTpdo, nat_sendTpdo (kTpdoObjects_ne j).2]

theorem checkTpdo_of_undriven {k : Fin 16} {c : Chip} (h : eventDriven c k = false) : checkTpdo k c = c := by
  unfold checkTpdo
  rw [if_pos (by rw [h]; rfl)]

theorem tpdoValid_of_driven {k : Fin 16} {c : Chip} (h : eventDriven c k) : tpdoValid c k := by
  unfold eventDriven at h
  exact (Bool.and_eq_true_iff.mp h).1

theorem setRpdo_rpdos (k j : Fin 16) (f : Rpdo → Rpdo) (c : Chip) :
    (setRpdo k f c).can.rpdos[j] = if k = j then f c.can.rpdos[k] else c.can.rpdos[j] := by
  change (c.can.rpdos.set k (f c.can.rpdos[k]))[j] = _
  by_cases h : k = j
  · subst h
    simp
  · rw [if_neg h]
    exact Vector.getElem_set_ne k.isLt j.isLt (fun hij => h (Fin.ext hij))

/-- A frame that waited is gone after SYNC, and those of the other RPDOs stay. -/
theorem syncRpdo_rpdos (k j : Fin 16) (c : Chip) : c.market.nextId ≤ (syncRpdo k c).market.nextId ∧
    (syncRpdo k c).can.rpdos[j] = if k = j then { c.can.rpdos[j] with waiting := none } else c.can.rpdos[j] := by
  unfold syncRpdo
  split
  case h_1 l b hwaits =>
    obtain ⟨hrpdos, hnext⟩ := KeepsRpdos.rpdoApply l k b (setRpdo k (fun x => { x with waiting := none }) c)
    refine ⟨hnext, ?_⟩
    rw [hrpdos, setRpdo_rpdos]
    split
    case isTrue h => rw [h]
    case isFalse => rfl
  case h_2 hnone =>
    refine ⟨Nat.le_refl _, ?_⟩
    split
    case isTrue h => rw [← h, ← hnone]
    case isFalse => rfl

/-- A list of steps that each leave a chip alone leaves it alone. -/
theorem each_fixed {α : Type} {f : α → Chip → Chip} {l : List α} {c : Chip} (h : ∀ a ∈ l, f a c = c) : each l f c = c :=
  each_keeps (P := fun d => d = c) (fun a ha _ hd => hd ▸ h a ha) rfl

/-- The turn of the one that acts, among those that leave what they find. -/
theorem each_alone {α : Type} {f : α → Chip → Chip} {a : α} {l : List α} {c : Chip} (hin : a ∈ l) (hnodup : l.Nodup)
    (hbefore : ∀ b ≠ a, f b c = c) (hafter : ∀ b ≠ a, f b (f a c) = f a c) : each l f c = f a c :=
  each_at (P := fun d => d = c) (Q := fun d => d = f a c) hin hnodup (fun b hb _ hd => hd ▸ hbefore b hb)
    (fun _ hd => hd ▸ rfl) (fun b hb _ hd => hd ▸ hafter b hb) rfl


/-- Settles O32: a USDO request, an RPDO and a TPDO each do what the rules of the CANopen subset say. -/
theorem usdoAndPdoCommands : Obligations.UsdoAndPdoCommands := by
  refine ⟨?read, ?write, ?opens, ?busy, ?gathers, ?last, ?next, ?timeout, ?syncTpdo, ?syncRpdo, ?rpdo, ?short, ?waits, ?twice,
    ?overdue, ?changed, ?quiet, ?timer, ?inhibitEnd⟩
  case read =>
    intro s l q hfits hserved htalk hnone hread hreach
    refine gives_of_guarded (usdoRequest l q s.chip) hfits rfl (by simp +contextual [Only]) ?_
    rw [usdoRequest_of_none q hserved htalk hnone, hread]
    cases q.segmented
    · obtain ⟨hreq, hcan, -, -⟩ := reqOf_submit (data := none) (.usdo l false) hreach
      exact ⟨hreq, hcan⟩
    · obtain ⟨hreq, hcan, -, -⟩ := reqOf_submit (data := none)
        (c := setLine l (fun x => { x with usdo := some { write := false, k := q.k, data := [], ready := false } }) s.chip)
        (.usdo l true) ((reaches_setLine l _ s.chip).trans hreach)
      exact ⟨hreq, hcan⟩
  case write =>
    intro s l q hfits hserved htalk hnone hwrite hseg hreach
    refine gives_of_guarded (usdoRequest l q s.chip) hfits rfl (by simp +contextual [Only]) ?_
    rw [usdoRequest_of_none q hserved htalk hnone, hwrite, hseg]
    obtain ⟨hreq, hcan, -, -⟩ := reqOf_submit (data := some q.data) (.usdo l false) hreach
    exact ⟨hreq, hcan⟩
  case opens =>
    intro s l q hfits hserved htalk hnone hwrite hseg
    refine gives_of_guarded (usdoRequest l q s.chip) hfits rfl (by simp +contextual [Only]) ?_
    rw [usdoRequest_of_none q hserved htalk hnone, hwrite, hseg]
    exact usdoSend_of_served (f := fun x => { x with usdo := some { write := true, k := q.k, data := q.data } }) _
      (fun _ => rfl) hserved htalk ▸ ⟨rfl, rfl⟩
  case busy =>
    intro s l q hfits hserved htalk hsome
    have hdone : usdoRequest l q s.chip = canSend l (.usdoAbort q.k 0x08000000) s.chip := by
      unfold usdoRequest usdoSend
      rw [if_neg (by rw [hserved, htalk]; decide), if_pos hsome, (lineServed_parts hserved).2]
      exact congrArg (fun b => when (!false && b) _ _) htalk
    refine gives_of_guarded (usdoRequest l q s.chip) hfits rfl (by simp +contextual [Only]) ?_
    rw [hdone]
    exact ⟨rfl, rfl⟩
  case gathers =>
    intro s l x data hserved htalk hsome hwrite
    refine gives_of_answer (usdoSegment l data false s.chip) rfl (by simp +contextual [Only]) ?_
    rw [usdoSegment_of_some data false hserved htalk hsome, if_pos hwrite, if_neg (by decide)]
    exact usdoSend_of_served (f := fun y => { y with usdo := some { x with data := x.data ++ data } }) _
      (fun _ => rfl) hserved htalk ▸ ⟨rfl, rfl⟩
  case last =>
    intro s l x data hserved htalk hsome hwrite hreach
    refine gives_of_answer (usdoSegment l data true s.chip) rfl (by simp +contextual [Only]) ?_
    rw [usdoSegment_of_some data true hserved htalk hsome, if_pos hwrite, if_pos rfl]
    obtain ⟨hreq, hcan, -, -⟩ := reqOf_submit (data := some (x.data ++ data)) (c := setLine l (fun y => { y with usdo := none }) s.chip)
      (.usdo l true) ((reaches_setLine l _ s.chip).trans hreach)
    exact ⟨hreq, hcan⟩
  case next =>
    intro s l x data last hserved htalk hsome hread hready
    refine gives_of_answer (usdoSegment l data last s.chip) rfl (by simp +contextual [Only]) ?_
    rw [usdoSegment_of_some data last hserved htalk hsome, if_neg (by rw [hread]; decide), if_neg (by rw [hready]; decide)]
    exact usdoSend_of_served
      (f := fun y => { y with usdo := if (x.data.drop 60).isEmpty then none else some { x with data := x.data.drop 60 } }) _
      (fun _ => rfl) hserved htalk ▸ ⟨rfl, rfl⟩
  case timeout =>
    intro s l x hserved htalk hsome hready
    have hdone : usdoSegmentTimeout l s.chip =
        canSend l (.usdoAbort x.k 0x05040000) (setLine l (fun x => { x with usdo := none }) s.chip) := by
      unfold usdoSegmentTimeout
      rw [if_neg (by rw [(lineServed_parts hserved).1]; decide), hsome]
      dsimp only
      rw [hready, when_true]
      exact usdoSend_of_served (f := fun x => { x with usdo := none }) _ (fun _ => rfl) hserved htalk
    refine gives_of_answer (usdoSegmentTimeout l s.chip) rfl (by simp +contextual [Only]) ?_
    rw [hdone]
    rfl
  case syncTpdo =>
    intro s l counter k v hserved hnmt hvalid hlow hhigh hturn hcounts hsample hothers hwaiting
    let sent : Chip := sendTpdo k (setTpdo k (fun x => { x with syncs := 0, started := true }) s.chip)
    have hcan : sent.can = _ := sendTpdo_can (c := setTpdo k (fun x => { x with syncs := 0, started := true }) s.chip) hvalid hnmt
      ((sampleAll_setTpdo k _ s.chip _).trans hsample)
    have hacts : syncTpdo counter k s.chip = sent := by
      unfold syncTpdo
      extract_lets n
      rw [if_neg (by rw [hvalid, hcounts, decide_eq_false (by omega), decide_eq_false (by omega)]; decide), if_pos hturn]
    have hkept (j : Fin 16) : tpdoValid sent j = tpdoValid s.chip j := tpdoValid_sendTpdo k j _
    have htpdos : each (List.finRange 16) (syncTpdo counter) s.chip = sent := by
      rw [each_alone (List.mem_finRange k) (List.nodup_finRange 16) (fun j hj => tpdoSilent counter (hothers j hj))
        (fun j hj => ?_), hacts]
      rw [hacts]
      exact tpdoSilent counter ((hkept j).trans (hothers j hj))
    have hrpdos : each (List.finRange 16) syncRpdo sent = sent := by
      refine each_fixed fun j _ => ?_
      unfold syncRpdo
      rw [show sent.can.rpdos[j].waiting = none by rw [hcan]; exact hwaiting j]
    refine gives_of_answer (syncReceive l counter s.chip) rfl (by simp +contextual [Only]) ?_
    rw [syncReceive_of_served hserved hnmt, htpdos, hrpdos, hcan]
    simp [setTpdo, setCan, tpdoSent]
    rfl
  case syncRpdo =>
    intro s l counter hserved hnmt hothers
    refine gives_of_answer (syncReceive l counter s.chip) rfl (by simp +contextual [Only]) ?_
    rw [syncReceive_of_served hserved hnmt, each_fixed fun j _ => tpdoSilent counter (hothers j)]
    refine ⟨fun j => ?_, each_keeps (P := fun d => s.chip.market.nextId ≤ d.market.nextId)
      (fun k _ d hd => Nat.le_trans hd (syncRpdo_rpdos k k d).1) (Nat.le_refl _)⟩
    refine each_at (a := j) (P := fun d => d.can.rpdos[j] = s.chip.can.rpdos[j])
      (Q := fun d => d.can.rpdos[j] = { s.chip.can.rpdos[j] with waiting := none }) (List.mem_finRange j) (List.nodup_finRange 16)
      (fun k hk d hd => ?_) (fun d hd => ?_) (fun k hk d hd => ?_) rfl
    · rw [(syncRpdo_rpdos k j d).2, if_neg hk, hd]
    · rw [(syncRpdo_rpdos j j d).2, if_pos rfl, hd]
    · rw [(syncRpdo_rpdos k j d).2, if_neg hk, hd]
  case rpdo =>
    intro s l k b q n hlen hserved hnmt hvalid hnew htype hmap hfit hreach
    have hdone : rpdoReceive l k b s.chip = submit (.can l) q (some (b.take n)) (.rpdo l) (rpdoFresh l k b s.chip) := by
      rw [rpdoReceive_of_served b hserved hnmt hvalid, if_neg (by rw [hnew]; decide), if_neg (Nat.not_le.mpr htype)]
      unfold rpdoApply
      rw [show rpdoMap (rpdoFresh l k b s.chip) k = [(q, n)] from hmap]
      dsimp only
      rw [if_neg (by simpa using hfit)]
      rfl
    refine gives_of_guarded (rpdoReceive l k b s.chip) (decide_eq_true hlen) rfl (by simp +contextual [Only]) ?_
    obtain ⟨hreq, hcan, -, -⟩ := reqOf_submit (data := some (b.take n)) (c := rpdoFresh l k b s.chip)
      (.rpdo l) ((reaches_rpdoFresh l k b s.chip).trans hreach)
    rw [hdone]
    exact ⟨hreq, hcan⟩
  case short =>
    intro s l k b hlen hserved hnmt hvalid hnew htype hshort
    have hdone : rpdoReceive l k b s.chip =
        setCan (fun x => { x with rpdoRejects := satSucc 65535 x.rpdoRejects }) (rpdoFresh l k b s.chip) := by
      rw [rpdoReceive_of_served b hserved hnmt hvalid, if_neg (by rw [hnew]; decide), if_neg (Nat.not_le.mpr htype)]
      exact if_pos hshort
    refine gives_of_guarded (rpdoReceive l k b s.chip) (decide_eq_true hlen) rfl (by simp +contextual [Only]) ?_
    rw [hdone]
    exact ⟨rfl, rfl⟩
  case waits =>
    intro s l k b hlen hserved hnmt hvalid hnew htype
    refine gives_of_guarded (rpdoReceive l k b s.chip) (decide_eq_true hlen) rfl (by simp +contextual [Only]) ?_
    rw [rpdoReceive_of_served b hserved hnmt hvalid, if_neg (by rw [hnew]; decide), if_pos htype]
    refine ⟨rfl, ?_⟩
    simp [setRpdo, rpdoFresh, heardFrom, setCan]
  case twice =>
    intro s l k b hlen hserved hnmt hvalid htwice
    refine gives_of_guarded (rpdoReceive l k b s.chip) (decide_eq_true hlen) rfl (by simp +contextual [Only]) ?_
    rw [rpdoReceive_of_served b hserved hnmt hvalid, if_pos htwice]
    exact ⟨rfl, rfl⟩
  case overdue =>
    intro s k hpresent hnmt hvalid htimer hoverdue hstale
    have hdone : rpdoTimeout k s.chip =
        raise (172 + rpdoLine s.chip k) 3 0 (setCan (fun x => { x with rpdoStale := x.rpdoStale ||| (1#16 <<< k.val) }) s.chip) := by
      unfold rpdoTimeout
      rw [if_neg (by rw [hpresent, hnmt, hvalid, decide_eq_false htimer, hstale, hoverdue]; decide)]
    refine gives_of_answer (rpdoTimeout k s.chip) rfl (by simp +contextual [Only]) ?_
    rw [hdone]
    exact ⟨raise_can _ _ _ _, raise_watch_congr _ _ _ rfl⟩
  case changed =>
    intro s k old v hpresent hnmt hdriven hcap hold hsample hne hfree hothers
    have hacts : checkTpdo k s.chip = sendTpdo k s.chip := by
      unfold checkTpdo
      rw [if_neg (by rw [hdriven, hcap]; decide), hold, hsample]
      dsimp only
      rw [bne_iff_ne.mpr hne, hfree]
      rfl
    have hdone : tpdoEventCheck s.chip = sendTpdo k s.chip := by
      unfold tpdoEventCheck
      rw [if_pos (by rw [hpresent, hnmt]; rfl), each_alone (List.mem_finRange k) (List.nodup_finRange 16)
        (fun j hj => checkTpdo_of_undriven (hothers j hj)) (fun j hj => ?_), hacts]
      rw [hacts]
      exact checkTpdo_of_undriven ((eventDriven_sendTpdo k j _).trans (hothers j hj))
    refine gives_of_answer (tpdoEventCheck s.chip) rfl (by simp +contextual [Only]) ?_
    rw [hdone]
    exact sendTpdo_can (tpdoValid_of_driven hdriven) hnmt hsample
  case quiet =>
    intro s hpresent hnmt hothers
    refine gives_of_answer (tpdoEventCheck s.chip) rfl (by simp +contextual [Only]) ?_
    unfold tpdoEventCheck
    rw [if_pos (by rw [hpresent, hnmt]; rfl)]
    exact each_fixed fun j _ => checkTpdo_of_undriven (hothers j)
  case timer =>
    intro s k v hpresent hnmt hdriven htimer hsample
    refine gives_of_when (b := linePresent s.chip 0 && eventDriven s.chip k && nat s.chip (kTpdoTimer k) != 0) (f := sendTpdo k)
      (by rw [hpresent, hdriven, bne_iff_ne.mpr htimer]; rfl) rfl (by simp +contextual [Only]) ?_
    exact sendTpdo_can (tpdoValid_of_driven hdriven) hnmt hsample
  case inhibitEnd =>
    intro s k v hpresent hnmt hvalid hdelayed hfree hsample
    have hdone : tpdoInhibitEnd k s.chip = sendTpdo k (setTpdo k (fun x => { x with delayed := false }) s.chip) := by
      unfold tpdoInhibitEnd
      rw [if_pos (by rw [hpresent, hdelayed, hfree]; rfl)]
    refine gives_of_answer (tpdoInhibitEnd k s.chip) rfl (by simp +contextual [Only]) ?_
    rw [hdone, sendTpdo_can (c := setTpdo k (fun x => { x with delayed := false }) s.chip) hvalid hnmt
      ((sampleAll_setTpdo k _ s.chip _).trans hsample)]
    simp [setTpdo, setCan, tpdoSent]
    rfl

end Sys2Proof.Machine
end

section
/-! Two-wire port commands (R307 to R317). -/

namespace Sys2Proof.Machine

theorem twWrite_of_whole {f : TwFrame} {c : Chip} (hanswers : twAnswers c f.addr) (hwhole : twWhole f true) : twWrite f c =
    if !pecAccepted c f true then pecFails f true c
    else if twDuplicate c f then
      twHold { seq := f.seq, status := 0, data := [], at_ := c.clock.us } (setTw (fun t => { t with dupAt := some c.clock.us }) c)
    else submit .twoWire f.k (some f.data) (.tw f.seq) c := by
  unfold twWrite
  rw [if_neg (by rw [hanswers, hwhole]; decide)]

theorem pecAccepted_of_bad {f : TwFrame} {write : Bool} (c : Chip) (h : pecBad f write) : pecAccepted c f write = false := by
  have hsome : f.pec.isSome = true := by
    unfold pecBad at h
    split at h
    case h_1 hp => rw [hp]; rfl
    case h_2 => exact absurd h (by decide)
  unfold pecAccepted
  rw [if_pos hsome, h]
  rfl

theorem twResult_of_found {a : BitVec 7} {seq : BitVec 8} {r : TwResult} {c : Chip} (collected : Bool) (hanswers : twAnswers c a)
    (hfound : (if seq = 0 then c.tw.results.head? else c.tw.results.find? fun x => x.seq == seq) = some r) :
    twResult a seq collected c = setTw (fun t => { t with
      answers := t.answers ++ [twReturned a seq r]
      results := if !collected then t.results else if seq = 0 then t.results.drop 1 else dropResult seq t.results }) c := by
  unfold twResult
  extract_lets found
  rw [if_neg (by rw [hanswers]; decide), show found = some r from hfound]

/-- Settles O33: a WRITE, a READ, a RESULT, a timeout and a discard each do what the rules of the two-wire target say. -/
theorem twoWireCommands : Obligations.TwoWireCommands := by
  refine ⟨?write, ?again, ?bad, ?ignored, ?read, ?named, ?oldest, ?none, ?scl, ?sda, ?recovered, ?discard⟩
  case write =>
    intro s f hfits hanswers hwhole hpec hnew hreach
    refine gives_of_guarded (twWrite f s.chip) hfits rfl (by simp +contextual [Only]) ?_
    rw [twWrite_of_whole hanswers hwhole, if_neg (by rw [hpec]; decide), if_neg (by rw [hnew]; decide)]
    obtain ⟨hreq, -, htw, -⟩ := reqOf_submit (data := some f.data) (.tw f.seq) hreach
    exact ⟨hreq, htw⟩
  case again =>
    intro s f hfits hanswers hwhole hpec hagain hroom
    refine gives_of_guarded (twWrite f s.chip) hfits rfl (by simp +contextual [Only]) ?_
    rw [twWrite_of_whole hanswers hwhole, if_neg (by rw [hpec]; decide), if_pos hagain]
    exact ⟨rfl, if_pos hroom⟩
  case bad =>
    intro s f hfits hanswers hwhole hbad
    refine gives_of_guarded (twWrite f s.chip) hfits rfl (by simp +contextual [Only]) ?_
    rw [twWrite_of_whole hanswers hwhole, if_pos (by rw [pecAccepted_of_bad s.chip hbad]; rfl)]
    unfold pecFails
    rw [hbad]
    exact ⟨rfl, rfl⟩
  case ignored =>
    intro s f hfits hdeaf
    refine gives_of_guarded (twWrite f s.chip) hfits rfl (by simp +contextual [Only]) ?_
    unfold twWrite
    exact if_pos (by rcases hdeaf with h | h <;> simp [h])
  case read =>
    intro s f hfits hempty hanswers hwhole hpec hreach
    have hdone : twRead f s.chip = submit .twoWire f.k none (.tw f.seq) s.chip := by
      unfold twRead
      rw [if_neg (by rw [hanswers, hwhole]; decide), if_neg (by rw [hpec]; decide)]
    refine gives_of_guarded (twRead f s.chip) (by rw [hfits, hempty]; rfl) rfl (by simp +contextual [Only]) ?_
    obtain ⟨hreq, -, htw, -⟩ := reqOf_submit (data := none) (.tw f.seq) hreach
    rw [hdone]
    exact ⟨hreq, htw⟩
  case named =>
    intro s a seq collected r hanswers hseq hfound
    refine gives_of_answer (twResult a seq collected s.chip) rfl (by simp +contextual [Only]) ?_
    rw [twResult_of_found collected hanswers (by rw [if_neg hseq]; exact hfound)]
    cases collected
    · rfl
    · simpa [setTw] using fun h => absurd h hseq
  case oldest =>
    intro s a collected r rest hanswers hresults
    refine gives_of_answer (twResult a 0 collected s.chip) rfl (by simp +contextual [Only]) ?_
    rw [twResult_of_found collected hanswers (by rw [if_pos rfl, hresults]; rfl)]
    cases collected
    · rfl
    · simp [setTw, hresults]
  case none =>
    intro s a seq collected hanswers hresults
    refine gives_of_answer (twResult a seq collected s.chip) rfl (by simp +contextual [Only]) ?_
    unfold twResult
    extract_lets found
    have hnone : found = none := by
      change (if seq = 0 then s.chip.tw.results.head? else s.chip.tw.results.find? fun r => r.seq == seq) = none
      rw [hresults]
      exact ite_self _
    rw [if_neg (by rw [hanswers]; decide), hnone]
    rfl
  case scl =>
    intro s hup
    refine gives_of_when (b := netUp s.chip)
      (f := fun c => raise 174 1 0 (setTw (fun t => { t with waitIdle := true, sclAt := some c.clock.us }) c)) hup rfl
      (by simp +contextual [Only]) ?_
    exact ⟨raise_tw _ _ _ _, raise_watch_congr _ _ _ rfl⟩
  case sda =>
    intro s hup
    refine gives_of_when (b := netUp s.chip)
      (f := fun c => raise 174 1 0 (setTw (fun t => { t with waitIdle := true, sdaAt := some c.clock.us }) c)) hup rfl
      (by simp +contextual [Only]) ?_
    exact ⟨raise_tw _ _ _ _, raise_watch_congr _ _ _ rfl⟩
  case recovered =>
    intro s
    exact gives_of_answer (twBusRecovered s.chip) rfl (by simp +contextual [Only]) rfl
  case discard =>
    intro s r rest hresults hold
    have hdone : twResultDiscard s.chip =
        setTw (fun t => { t with results := t.results.drop 1, resultsLost := satSucc 65535 t.resultsLost }) s.chip := by
      unfold twResultDiscard
      rw [hresults]
      dsimp only [List.head?]
      rw [decide_eq_true hold, when_true]
    refine gives_of_answer (twResultDiscard s.chip) rfl (by simp +contextual [Only]) ?_
    rw [hdone]
    simp [setTw, hresults]

end Sys2Proof.Machine
end

section
/-! Service port commands (R318 to R322). -/

namespace Sys2Proof.Machine

/-! ### What answers leave of the link -/

/-- The link stays, but for what it has sent and the copy that it holds. -/
def KeepsLink (c d : Chip) : Prop := ∃ tx reader, d.svc = { c.svc with tx := tx, reader := reader }

namespace KeepsLink

theorem of_svc {c d : Chip} (h : d.svc = c.svc) : KeepsLink c d := ⟨c.svc.tx, c.svc.reader, h⟩

theorem refl (c : Chip) : KeepsLink c c := of_svc rfl

theorem trans {c d e : Chip} (hcd : KeepsLink c d) (hde : KeepsLink d e) : KeepsLink c e := by
  obtain ⟨_, _, hd⟩ := hcd
  obtain ⟨tx, reader, he⟩ := hde
  exact ⟨tx, reader, by rw [he, hd]⟩

theorem each {α : Type} {f : α → Chip → Chip} (h : ∀ a c, KeepsLink c (f a c)) (l : List α) (c : Chip) : KeepsLink c (each l f c) :=
  each_keeps (P := fun d => KeepsLink c d) (fun a _ d hd => hd.trans (h a d)) (refl c)

theorem svcAnswer (cmd : Nat) (tag : BitVec 16) (st : Nat) (v : List Byte) (c : Chip) : KeepsLink c (svcAnswer cmd tag st v c) :=
  ⟨_, c.svc.reader, rfl⟩

theorem odAnswer (node : Fin 1024) (op : OdOp) (tag : BitVec 16) (k : Key) (st off : Nat) (v : List Byte) (c : Chip) :
    KeepsLink c (odAnswer node op tag k st off v c) := of_svc (odAnswer_part .svc (by decide) ..)

theorem usdoSend (l : Fin 2) (m : CanTx) (c : Chip) : KeepsLink c (usdoSend l m c) := of_svc (usdoSend_part .svc (by decide) ..)

theorem reply (q : Req) (st : Status) (v : List Byte) (c : Chip) : KeepsLink c (reply q st v c) := by
  unfold Machine.reply
  extract_lets ok
  split
  case h_1 => exact refl c
  case h_2 l seg hreply =>
    extract_lets reading open_
    split
    · exact refl c
    · split
      · refine .trans ?_ (usdoSend ..)
        exact of_svc (when_part .svc reading (setLine l fun x => { x with usdo := none }) c fun _ => rfl)
      · split
        · exact usdoSend ..
        · split
          · refine .trans ?_ (usdoSend ..)
            exact of_svc rfl
          · exact usdoSend ..
  case h_3 => split <;> exact of_svc rfl
  case h_4 =>
    extract_lets held
    refine (of_svc rfl : KeepsLink c held).trans ?_
    split
    · split <;> exact of_svc rfl
    · exact of_svc rfl
  case h_5 => exact svcAnswer ..
  case h_6 =>
    split
    · exact ⟨_, _, rfl⟩
    · exact svcAnswer ..
  case h_7 => split <;> exact odAnswer ..
  case h_8 =>
    split
    · refine .trans ?_ (odAnswer ..)
      exact of_svc rfl
    · exact odAnswer ..

theorem finish (q : Req) (st : Status) (v : List Byte) (c : Chip) : KeepsLink c (finish q st v c) := by
  unfold Machine.finish
  refine .trans ?_ (reply q st v _)
  refine of_svc ?_
  change part .svc _ = part .svc c
  simp

theorem complete (q : Req) (st : Status) (v : List Byte) (c : Chip) : KeepsLink c (complete q st v c) := by
  have hplaced (o : Origin) (k : Key) (d : Chip) : KeepsLink d (fenceQueued o k (placeFence o k d)) :=
    (of_svc rfl : KeepsLink d (placeFence o k d)).trans (each (fun q d => finish q .fenced [] d) _ _)
  unfold Machine.complete
  dsimp only
  split
  · exact (finish q st v c).trans (hplaced _ _ _)
  · exact finish q st v c

theorem originLost (o : Origin) (c : Chip) : KeepsLink c (originLost o c) := by
  refine each (fun h d => ?_) _ c
  have hheld (st : Status) (e : Chip) : KeepsLink e (completeHeld h st e) := by
    unfold completeHeld completeId
    split
    · split
      · exact complete _ _ _ e
      · exact refl e
    · exact refl e
  exact (of_svc rfl : KeepsLink d (unqueue h.handle (setHamper h.handle _ d))).trans (hheld .ok _)

end KeepsLink

/-! ### The commands -/

theorem svcListens_of_recovery {c : Chip} (h : inRecovery c) : svcListens c := by
  unfold svcListens
  rw [h, Bool.or_true]

theorem svcAlways_of_listens {c : Chip} (f : Chip → Chip) (h : svcListens c) : svcAlways f c = f (svcValid c) := if_pos h

theorem svcNormal_of_normal {c : Chip} (cmd : Nat) (tag : BitVec 16) (f : Chip → Chip) (h : svcListens c)
    (hnormal : inRecovery c = false) : svcNormal cmd tag f c = f (svcValid c) := by
  unfold svcNormal
  rw [svcAlways_of_listens _ h]
  exact if_neg (by rw [show inRecovery (svcValid c) = inRecovery c from rfl, hnormal]; decide)

theorem svcNormal_of_recovery {c : Chip} (cmd : Nat) (tag : BitVec 16) (f : Chip → Chip) (h : inRecovery c) :
    svcNormal cmd tag f c = svcAnswer cmd tag 0x22 [] (svcValid c) := by
  unfold svcNormal
  rw [svcAlways_of_listens _ (svcListens_of_recovery h)]
  exact if_pos h

theorem reaches_setSvc {o : Origin} {k : Key} {w : Bool} (f : Svc → Svc) (c : Chip) : reaches o k w (setSvc f c) = reaches o k w c := by
  have hwrite : writeCheck (setSvc f c) o k false = writeCheck c o k false := by
    unfold writeCheck
    rfl
  have hread : readCheck (setSvc f c) o k = readCheck c o k := by
    unfold readCheck
    rfl
  unfold reaches
  rw [hwrite, hread]
  rfl

/-- A read of an object of a mill. -/
theorem liveValue_mill {k : Key} (hlow : 0x5000 ≤ k / 256) (hhigh : k / 256 < 0x6000) (o : Origin) (c : Chip) :
    liveValue c o k = readMill c (Fin.ofNat 16 ((k / 256 - 0x5000) / 256)) (k / 256) (k % 256) := by
  have hlt (b : Nat) (h : b ≤ 0x5000) : ¬ k / 256 < b := Nat.not_lt.mpr (Nat.le_trans h hlow)
  have hle (b : Nat) (h : b < 0x5000) : ¬ k / 256 ≤ b := Nat.not_le.mpr (Nat.lt_of_lt_of_le h hlow)
  have hne (b : Nat) (h : b < 0x5000) : k / 256 ≠ b := Nat.ne_of_gt (Nat.lt_of_lt_of_le h hlow)
  unfold liveValue
  simp [hlt 0x2D80, hle 0x2642, hlt 0x2C50, hlt 0x4600, hlt 0x4000, hlt 0x4400, hlt 0x2E00, hlt 0x2A40, hlt 0x2A00,
    hne 0x2C50, hlow, hhigh]

/-- The trace of a channel as a read returns it (R246). -/
theorem readBytes_traceData (c d : Chip) (h : d.mills = c.mills) (o : Origin) (m : Fin 16) (k : Fin 4) :
    readBytes d o (kMillTraceData m k) = readBytes c o (kMillTraceData m k) := by
  have hall : ∀ m : Fin 16, ∀ k : Fin 4, 0x5000 ≤ kMillTraceData m k / 256 ∧ kMillTraceData m k / 256 < 0x6000 ∧
      Fin.ofNat 16 ((kMillTraceData m k / 256 - 0x5000) / 256) = m ∧ kMillTraceData m k / 256 % 256 = 13 ∧
      kMillTraceData m k % 256 ≠ 0 ∧ Fin.ofNat 4 (kMillTraceData m k % 256 - 1) = k := by decide +kernel
  obtain ⟨hlow, hhigh, hmill, hrow, hsub, hchannel⟩ := hall m k
  have hlive (e : Chip) : liveValue e o (kMillTraceData m k) =
      some (.bytes (e.mills[m].trace.buf[k].reverse.flatMap fun w => leBytes 4 w.toNat)) := by
    rw [liveValue_mill hlow hhigh]
    unfold readMill
    simp only [hmill, hrow, hchannel, if_neg hsub]
    rfl
  unfold readBytes valueOf
  rw [hlive, hlive, h]
  rfl


theorem svcWriter_free {c : Chip} {offset : Nat} (h : offset = 0 → c.svc.writer = none) :
    ¬ (decide (offset = 0) && (svcValid c).svc.writer.isSome) = true := by
  rw [Bool.and_eq_true, decide_eq_true_iff]
  rintro ⟨hzero, hopen⟩
  rw [show (svcValid c).svc.writer = none from h hzero] at hopen
  exact absurd hopen (by decide)

theorem abandonUpdate_kept (c : Chip) : (abandonUpdate c).svc = c.svc ∧ (abandonUpdate c).hampers = c.hampers ∧
    (updating c = false → abandonUpdate c = c) ∧ (updating c → (abandonUpdate c).update.state = .abandoned) := by
  cases hrun : updating c with
  | false =>
    have hsame : abandonUpdate c = c := if_neg (by rw [hrun]; decide)
    rw [hsame]
    exact ⟨rfl, rfl, fun _ => rfl, fun h => absurd h (by decide)⟩
  | true =>
    have hdone : abandonUpdate c = logRaise 0x6C 244 1 c.update.slot.val [c.update.received]
        (setUpdate (fun u => { u with state := .abandoned, pieces := [] }) c) := if_pos hrun
    rw [hdone]
    unfold logRaise
    refine ⟨by simp, by simp, fun h => absurd h (by decide), fun _ => by simp⟩

/-- A link that drops is counted; its rate, its transfers, its hampers and an update end (R321, R439). -/
theorem dropLink_counted (s : Chip) : (dropLink true s).svc.up = false ∧ (dropLink true s).svc.rate = 115200 ∧
    (dropLink true s).svc.newRate = none ∧ (dropLink true s).svc.reader = none ∧ (dropLink true s).svc.writer = none ∧
    (dropLink true s).svc.linkDrops = satSucc 65535 s.svc.linkDrops ∧
    (updating s = false → (dropLink true s).watch = (raise 175 1 0 s).watch) ∧
    (updating s → (dropLink true s).update.state = .abandoned) ∧
    ∀ h ∈ (dropLink true s).hampers.list, h.origin = .service → h.state ≠ .opened ∧ h.state ≠ .joined := by
  have hupdate : updating (originLost .service s) = updating s := by
    unfold updating
    rw [show (originLost .service s).update = s.update from originLost_part .update (by decide) (by decide) (by decide)
      (by decide) (by decide) (by decide) (by decide) ..]
  obtain ⟨hsvc, hhampers, hidle, hended⟩ := abandonUpdate_kept (originLost .service s)
  obtain ⟨tx, reader, hlost⟩ := KeepsLink.originLost .service s
  unfold dropLink
  simp only [raise_svc, raise_hampers, raise_update, setSvc_svc, setSvc_hampers, setSvc_update, hsvc, hhampers, hlost, if_true]
  refine ⟨trivial, trivial, trivial, trivial, trivial, trivial, fun h => ?_, fun h => hended (hupdate.trans h), originLost_closed .service s⟩
  rw [hidle (hupdate.trans h)]
  exact raise_watch_congr _ _ _ (originLost_watch .service s)

/-- Settles O34: a service command, a bad frame and a dropped link each do what the rules of the service port say. -/
theorem servicePortCommands : Obligations.ServicePortCommands := by
  refine ⟨?ping, ?rate, ?noRate, ?rateChange, ?rateRevert, ?read, ?readMode, ?write, ?copies, ?piece, ?gathers, ?last, ?release,
    ?traceRuns, ?traceDump, ?slot, ?noSlot, ?gap, ?crc, ?drop, ?unknown⟩
  case ping =>
    intro s tag hlistens
    refine gives_of_answer (svcPing tag s.chip) rfl (by simp +contextual [Only]) ?_
    unfold svcPing
    rw [svcAlways_of_listens _ hlistens, show inRecovery (svcValid s.chip) = inRecovery s.chip from rfl]
    cases inRecovery s.chip <;> rfl
  case rate =>
    intro s tag r hr hlistens hknown
    refine gives_of_guarded (svcRate tag r s.chip) (decide_eq_true hr) rfl (by simp +contextual [Only]) ?_
    unfold svcRate
    rw [svcAlways_of_listens _ hlistens, if_pos (by simpa using hknown)]
    rfl
  case noRate =>
    intro s tag r hr hlistens hunknown
    refine gives_of_guarded (svcRate tag r s.chip) (decide_eq_true hr) rfl (by simp +contextual [Only]) ?_
    unfold svcRate
    rw [svcAlways_of_listens _ hlistens, if_neg (by simpa using hunknown)]
  case rateChange =>
    intro s r hnew
    refine gives_of_answer (svcRateChange s.chip) rfl (by simp +contextual [Only]) ?_
    unfold svcRateChange
    rw [hnew]
    rfl
  case rateRevert =>
    intro s hlive hproving
    have hdone : svcRateRevert s.chip = raise 175 2 0 (setSvc (fun s => { s with rate := 115200, proving := false }) s.chip) := by
      unfold svcRateRevert
      rw [hproving, when_true]
    refine gives_of_when (b := live s.chip) (f := svcRateRevert) hlive rfl (by simp +contextual [Only]) ?_
    rw [hdone]
    exact ⟨raise_svc _ _ _ _, raise_watch_congr _ _ _ rfl⟩
  case read =>
    intro s tag k hk hlistens hnormal hreach
    refine gives_of_guarded (svcRead tag k s.chip) (decide_eq_true hk) rfl (by simp +contextual [Only]) ?_
    obtain ⟨hreq, -, -, hsvc⟩ := reqOf_submit (data := none) (c := svcValid s.chip) (.svc 0x10 tag) ((reaches_setSvc _ s.chip).trans hreach)
    unfold svcRead
    rw [svcNormal_of_normal _ _ _ hlistens hnormal]
    exact ⟨hreq, hsvc⟩
  case readMode =>
    intro s tag k hk hrecovery
    refine gives_of_guarded (svcRead tag k s.chip) (decide_eq_true hk) rfl (by simp +contextual [Only]) ?_
    unfold svcRead
    rw [svcNormal_of_recovery _ _ _ hrecovery]
    exact ⟨rfl, rfl⟩
  case write =>
    intro s tag k data hk hlen hlistens hnormal hreach
    refine gives_of_guarded (svcWrite tag k data s.chip) (by simp [hk, hlen]) rfl (by simp +contextual [Only]) ?_
    obtain ⟨hreq, -, -, hsvc⟩ := reqOf_submit (data := some data) (c := svcValid s.chip) (.svc 0x11 tag)
      ((reaches_setSvc _ s.chip).trans hreach)
    unfold svcWrite
    rw [svcNormal_of_normal _ _ _ hlistens hnormal]
    exact ⟨hreq, hsvc⟩
  case copies =>
    intro s tag k length hk hlen hlistens hnormal hfree hreach
    refine gives_of_guarded (svcDomainRead tag k 0 length s.chip) (by simp [hk]; omega) rfl (by simp +contextual [Only]) ?_
    obtain ⟨hreq, -, -, -⟩ := reqOf_submit (data := none) (c := svcValid s.chip) (.svcCopy tag length)
      ((reaches_setSvc _ s.chip).trans hreach)
    unfold svcDomainRead
    rw [svcNormal_of_normal _ _ _ hlistens hnormal, if_neg (by omega), if_pos rfl,
      if_neg (by rw [show svcReading (svcValid s.chip) = svcReading s.chip from rfl, hfree]; decide)]
    exact hreq
  case piece =>
    intro s tag k offset length x hk hoff hlen hlistens hnormal hlater hreader hkey hnext
    refine gives_of_guarded (svcDomainRead tag k offset length s.chip) (by simp [hk]; omega) rfl (by simp +contextual [Only]) ?_
    unfold svcDomainRead
    rw [svcNormal_of_normal _ _ _ hlistens hnormal, if_neg (by omega), if_neg (by omega),
      show (svcValid s.chip).svc.reader = some x from hreader]
    dsimp only
    rw [if_pos (by rw [hkey, hnext]; simp)]
    exact ⟨rfl, rfl⟩
  case gathers =>
    intro s tag k offset data all hk hoff hlen hlistens hnormal hfirst hall
    refine gives_of_guarded (svcDomainWrite tag k offset data false s.chip) (by simp [hk, hlen]; omega) rfl (by simp +contextual [Only]) ?_
    unfold svcDomainWrite
    rw [svcNormal_of_normal _ _ _ hlistens hnormal, if_neg (svcWriter_free hfirst),
      show gather (svcValid s.chip).svc.writer k offset data = some all from hall]
    exact ⟨rfl, rfl⟩
  case last =>
    intro s tag k offset data all hk hoff hlen hlistens hnormal hfirst hall hreach
    refine gives_of_guarded (svcDomainWrite tag k offset data true s.chip) (by simp [hk, hlen]; omega) rfl (by simp +contextual [Only]) ?_
    obtain ⟨hreq, -, -, hsvc⟩ := reqOf_submit (data := some all) (c := setSvc (fun s => { s with writer := none }) (svcValid s.chip))
      (.svc 0x13 tag) ((reaches_setSvc _ _).trans ((reaches_setSvc _ s.chip).trans hreach))
    unfold svcDomainWrite
    rw [svcNormal_of_normal _ _ _ hlistens hnormal, if_neg (svcWriter_free hfirst),
      show gather (svcValid s.chip).svc.writer k offset data = some all from hall]
    exact ⟨hreq, hsvc⟩
  case release =>
    intro s
    exact gives_of_answer (svcDomainCopyRelease s.chip) rfl (by simp +contextual [Only]) rfl
  case traceRuns =>
    intro s tag m mask hlistens hnormal hruns
    refine gives_of_answer (svcTraceDump tag m mask s.chip) rfl (by simp +contextual [Only]) ?_
    unfold svcTraceDump
    rw [svcNormal_of_normal _ _ _ hlistens hnormal, show (svcValid s.chip).mills = s.chip.mills from rfl]
    rcases hruns with h | h <;> rw [h]
  case traceDump =>
    intro s tag m mask hlistens hnormal hstill
    refine gives_of_answer (svcTraceDump tag m mask s.chip) rfl (by simp +contextual [Only]) ?_
    unfold svcTraceDump
    rw [svcNormal_of_normal _ _ _ hlistens hnormal]
    simp only [readBytes_traceData s.chip (svcValid s.chip) rfl]
    rw [show (svcValid s.chip).mills = s.chip.mills from rfl]
    rcases hstill with h | h <;> rw [h] <;> rfl
  case slot =>
    intro s tag slot offset length d hslot hlen hend hlistens hnormal hdump
    refine gives_of_guarded (svcSlotRead tag slot offset length s.chip) (by simp; omega) rfl (by simp +contextual [Only]) ?_
    unfold svcSlotRead
    rw [svcNormal_of_normal _ _ _ hlistens hnormal, if_neg (by omega), if_neg (by simp; omega),
      show (svcValid s.chip).nor.dumps[Fin.ofNat 15 slot] = some d from hdump]
    exact ⟨rfl, rfl⟩
  case noSlot =>
    intro s tag slot offset length hslot hoff hlen hlistens hnormal hbeyond
    refine gives_of_guarded (svcSlotRead tag slot offset length s.chip) (by simp; omega) rfl (by simp +contextual [Only]) ?_
    unfold svcSlotRead
    rw [svcNormal_of_normal _ _ _ hlistens hnormal, if_neg (by omega), if_pos (by simpa using hbeyond)]
  case gap =>
    intro s hlistens
    exact gives_of_when (b := svcListens s.chip) (f := setSvc fun s => { s with crcErrors := satSucc 65535 s.crcErrors }) hlistens rfl
      (by simp +contextual [Only]) rfl
  case crc =>
    intro s hlistens
    exact gives_of_when (b := svcListens s.chip) (f := setSvc fun s => { s with crcErrors := satSucc 65535 s.crcErrors }) hlistens rfl
      (by simp +contextual [Only]) rfl
  case drop =>
    intro s hlistens hup
    have hdone : svcLinkDrop s.chip = dropLink true s.chip := if_pos (by rw [hlistens, hup]; rfl)
    refine gives_of_answer (svcLinkDrop s.chip) rfl (by simp +contextual [Only]) ?_
    rw [hdone]
    exact dropLink_counted s.chip
  case unknown =>
    intro s tag cmd hlistens hnormal
    refine gives_of_answer (svcUnknownCommand tag cmd s.chip) rfl (by simp +contextual [Only]) ?_
    unfold svcUnknownCommand
    rw [svcNormal_of_normal _ _ _ hlistens hnormal]

end Sys2Proof.Machine
end

section
/-! Firmware update and life-cycle commands (R438, R439, R444 to R448). -/

namespace Sys2Proof.Machine

/-! ### Updates -/

theorem updateHeard_idle {c : Chip} (h : updating c = false) : updateHeard c = c := by
  unfold updateHeard
  rw [h]
  rfl

theorem updateHeard_open {c : Chip} (h : c.update.state = .receiving) :
    updateHeard c = setUpdate (fun u => { u with lastAt := c.clock.us }) c := by
  unfold updateHeard updating
  rw [h]
  rfl

theorem updateHeard_svc (c : Chip) : (updateHeard c).svc = c.svc := when_part .svc _ _ c fun _ => rfl

theorem lifeCycle_updateHeard (c : Chip) : lifeCycle (updateHeard c) = lifeCycle c := by
  unfold lifeCycle
  rw [show (updateHeard c).fuses = c.fuses from when_part .fuses _ _ c fun _ => rfl]

/-- What an open update is asked for does not hang on when it last heard of it. -/
theorem updateHeard_kept (c : Chip) : (updateHeard c).update.state = c.update.state ∧ updateTaken (updateHeard c) = updateTaken c ∧
    (updateHeard c).update.received = c.update.received ∧ (updateHeard c).update.length = c.update.length := by
  unfold updateHeard
  cases updating c <;> exact ⟨rfl, rfl, rfl, rfl⟩

theorem not_retired {c : Chip} (h : lifeCycle c ≠ .retired) : ¬ (lifeCycle (updateHeard (svcValid c)) == .retired) = true := by
  rw [lifeCycle_updateHeard, show lifeCycle (svcValid c) = lifeCycle c from rfl]
  simpa using h

theorem updateHeard_svcValid (c : Chip) : (updateHeard (svcValid c)).update = (updateHeard c).update := by
  unfold updateHeard
  rw [show updating (svcValid c) = updating c from rfl]
  cases updating c <;> rfl

theorem writeDirectory_update (c : Chip) : (writeDirectory c).update = c.update := when_part .update _ _ c fun _ => rfl

theorem writeDirectory_svc (c : Chip) : (writeDirectory c).svc = c.svc := when_part .svc _ _ c fun _ => rfl

/-- An update opens, and its slot is erased (R438). -/
def updateOpened (tag : BitVec 16) (s : Fin 2) (length : Nat) (c : Chip) : Chip :=
  log 0x6A 244 0 s.val [] { setNor (fun n => { n with images := n.images.set s {} }) (writeDirectory c) with
    update := { state := .erasing, slot := s, tag := tag, length := length, lastAt := (writeDirectory c).clock.us
                restartAt := (writeDirectory c).update.restartAt } }

theorem updateOpened_done (tag : BitVec 16) (s : Fin 2) (length : Nat) (c : Chip) :
    (updateOpened tag s length c).update = { state := .erasing, slot := s, tag := tag, length := length, lastAt := c.clock.us
                                             restartAt := c.update.restartAt } ∧
    (updateOpened tag s length c).nor.images[s] = {} ∧ (updateOpened tag s length c).svc = c.svc := by
  have hclock : (writeDirectory c).clock = c.clock := when_part .clock _ _ c fun _ => rfl
  unfold updateOpened
  refine ⟨?_, ?_, ?_⟩
  · rw [log_update, hclock, writeDirectory_update]
  · rw [log_nor]
    exact Vector.getElem_set_self s.isLt
  · rw [log_svc]
    exact writeDirectory_svc c

/-- An update ends, and its restart is set (R439). -/
def updateClosed (tag : BitVec 16) (restart : Bool) (c : Chip) : Chip :=
  let d := setUpdate (fun u => { u with
    state := .ended
    restartAt := if restart then some (c.clock.us + 100000) else u.restartAt }) c
  svcAnswer 0x32 tag 0 [] (log 0x6B 244 0 c.update.slot.val [d.update.length] d)

theorem updateClosed_done (tag : BitVec 16) (restart : Bool) (c : Chip) :
    (updateClosed tag restart c).update = { c.update with
      state := .ended, restartAt := if restart then some (c.clock.us + 100000) else c.update.restartAt } ∧
    (updateClosed tag restart c).alm = (log 0x6B 244 0 c.update.slot.val [c.update.length] c).alm ∧
    (updateClosed tag restart c).svc = (svcAnswer 0x32 tag 0 [] c).svc := by
  unfold updateClosed
  extract_lets d
  refine ⟨(log_update ..).trans rfl, log_alm_congr _ _ _ _ _ rfl rfl, ?_⟩
  unfold svcAnswer
  rw [setSvc_svc, log_svc]
  rfl

/-! ### Resets -/

/-- A chip reset keeps the fuses, the images and the parameter sets (R426, R427). -/
theorem chipReset_keeps {c : Chip} (h : resettable c) (cause : ResetCause) : (chipReset cause false c).fuses = c.fuses ∧
    (chipReset cause false c).nor.images = c.nor.images ∧ (chipReset cause false c).nor.params = c.nor.params := by
  have hnor : (closing c).nor = c.nor :=
    closing_part (pt := .nor) (by decide) (by decide) (by decide) (by decide) (by decide) (by decide) (by decide) (by decide) c
  refine ⟨chipReset_part_fuses cause false c, ?_, ?_⟩
  · rw [chipReset_of_resettable h, ← hnor]
    rfl
  · rw [chipReset_of_resettable h, ← hnor]
    rfl

theorem logRaise_alm_congr {c d : Chip} (code src : Nat) (severity : Fin 4) (value : Int) (entries : List Nat)
    (halm : d.alm = c.alm) (hstamp : stamp d = stamp c) :
    (logRaise code src severity value entries d).alm = (logRaise code src severity value entries c).alm := by
  unfold logRaise
  rw [raise_alm, raise_alm, log_alm_congr _ _ _ _ _ halm hstamp]

/-! ### Transitions -/

/-- A transition whose nonce is in force uses it up (R446). -/
def nonceUsed (t : LcTransition) (c : Chip) : Chip := when (nonceValid c t) (setLc fun l => { l with nonce := none }) c

theorem nonceUsed_lc (t : LcTransition) (c : Chip) :
    (nonceUsed t c).lc = { c.lc with nonce := if nonceValid c t then none else c.lc.nonce } := by
  unfold nonceUsed
  cases nonceValid c t <;> rfl

theorem nonceUsed_svc (t : LcTransition) (c : Chip) : (nonceUsed t c).svc = c.svc := when_part .svc _ _ c fun _ => rfl

theorem refuseTransition_svc (tag : BitVec 16) (status reason : Nat) {c d : Chip} (h : c.svc = d.svc) :
    (refuseTransition tag status reason c).svc = (svcAnswer 0x40 tag status [] d).svc := by
  unfold refuseTransition svcAnswer
  rw [setSvc_svc, setSvc_svc, logRaise_svc, h]

/-- A transition that no other is ahead of is answered, and accepted where it is authentic and listed (R446). -/
theorem lifecycleTransition_answers {tag : BitVec 16} (t : LcTransition) {c : Chip} (hlistens : svcListens c) (hnormal : inRecovery c = false)
    (hfree : c.lc.accepted = none) :
    (lifecycleTransition tag t c).lc = { nonce := if nonceValid c t then none else c.lc.nonce
                                         accepted := if authentic c t then transitionTo c t.target else none } ∧
    (lifecycleTransition tag t c).svc = (svcAnswer 0x40 tag (if !authentic c t then 0x24
      else if (transitionTo c t.target).isNone then Status.stateConflict.number else 0) [] (svcValid c)).svc := by
  have hlc : (nonceUsed t (svcValid c)).lc = { nonce := if nonceValid c t then none else c.lc.nonce, accepted := none } :=
    hfree ▸ nonceUsed_lc t (svcValid c)
  have hsvc : (nonceUsed t (svcValid c)).svc = (svcValid c).svc := nonceUsed_svc t (svcValid c)
  have htarget : transitionTo (nonceUsed t (svcValid c)) t.target = transitionTo c t.target := transitionTo_when_dropNonce _ (svcValid c) _
  unfold lifecycleTransition
  rw [svcNormal_of_normal _ _ _ hlistens hnormal]
  extract_lets ok d
  have hok : ok = authentic c t := rfl
  rw [show d = nonceUsed t (svcValid c) from rfl, hok, htarget]
  cases authentic c t with
  | false => exact ⟨(refuseTransition_lc ..).trans hlc, refuseTransition_svc _ _ _ hsvc⟩
  | true =>
    cases transitionTo c t.target with
    | none => exact ⟨(refuseTransition_lc ..).trans hlc, refuseTransition_svc _ _ _ hsvc⟩
    | some dest =>
      dsimp only
      rw [if_neg (by decide), if_neg (by rw [hlc]; exact Bool.false_ne_true)]
      refine ⟨?_, ?_⟩
      · rw [flush_lc, logRaise_lc]
        change { (nonceUsed t (svcValid c)).lc with accepted := some dest } = _
        rw [hlc]
        rfl
      · rw [show ∀ e : Chip, (flush e).svc = e.svc from flush_part .svc (by decide), logRaise_svc]
        change (svcAnswer 0x40 tag 0 [] (nonceUsed t (svcValid c))).svc = _
        unfold svcAnswer
        rw [setSvc_svc, hsvc]
        rfl

/-- The transition whose erase has ended blows its fuse, erases its regions and resets the chip (R448). -/
theorem lifecycleEraseComplete_of_accepted {dest : LifeCycle} {c : Chip} (h : c.lc.accepted = some dest) (hreset : resettable c) :
    lifecycleEraseComplete c = chipReset .lifeCycle false (eraseFor dest { c with fuses := blow c dest }) := by
  unfold lifecycleEraseComplete
  rw [h]
  exact if_pos hreset

/-- Settles O35: an update command and a life-cycle command each do what the rules of the update and of Table 14.11 say. -/
theorem updateAndLifeCycleCommands : Obligations.UpdateAndLifeCycleCommands := by
  refine ⟨?begin, ?erased, ?piece, ?noPiece, ?programmed, ?ends, ?noEnd, ?idle, ?restart, ?nonce, ?transition, ?complete, ?none⟩
  case begin =>
    intro s tag slot length hlistens hlen hslot hlife hclosed hother
    have hidle : updateHeard (svcValid s.chip) = svcValid s.chip := updateHeard_idle hclosed
    have hshort : slot = 0 ∨ slot = 1 := by
      rcases (show slot.toNat = 0 ∨ slot.toNat = 1 by have := BitVec.le_def.mp hslot; simp at this; omega) with h | h
      · exact .inl (BitVec.eq_of_toNat_eq h)
      · exact .inr (BitVec.eq_of_toNat_eq h)
    have hnamed : slot ≠ 0xFF := by rcases hshort with rfl | rfl <;> decide
    have hdone : updateBegin tag slot length s.chip = updateOpened tag (Fin.ofNat 2 slot.toNat) length (svcValid s.chip) := by
      unfold updateBegin
      rw [svcAlways_of_listens _ hlistens]
      extract_lets d x
      have hd : d = svcValid s.chip := hidle
      have hx : x = Fin.ofNat 2 slot.toNat := if_neg hnamed
      have hfree : ¬ (updating d || (!inRecovery d && decide (x = d.boot.slot))) = true := by
        rw [hd, hx, show updating (svcValid s.chip) = updating s.chip from rfl, hclosed,
          show inRecovery (svcValid s.chip) = inRecovery s.chip from rfl]
        rcases hother with h | h
        · simp [h]
        · rw [decide_eq_false fun hsame => h (by rw [show s.chip.boot.slot = _ from hsame.symm]; rcases hshort with rfl | rfl <;> rfl)]
          simp
      rw [if_neg (not_retired hlife), if_neg (by rcases hshort with rfl | rfl <;> simp [hlen]), if_neg hfree]
      change updateOpened tag x length d = _
      rw [hd, hx]
    refine gives_of_guarded (updateBegin tag slot length s.chip) (by simp; omega) rfl (by simp +contextual [Only]) ?_
    rw [hdone]
    exact updateOpened_done tag _ length (svcValid s.chip)
  case erased =>
    intro s herasing
    have hdone : updateEraseDone s.chip = svcAnswer 0x30 s.chip.update.tag 0 [BitVec.ofNat 8 s.chip.update.slot.val]
        (setUpdate (fun u => { u with state := .receiving }) s.chip) := if_pos (by rw [herasing]; rfl)
    refine gives_of_answer (updateEraseDone s.chip) rfl (by simp +contextual [Only]) ?_
    rw [hdone]
    exact ⟨rfl, rfl⟩
  case piece =>
    intro s tag offset data hoff hlen hsome hlistens hlife hopen hnext hfits
    obtain ⟨hstate, htaken, -, hlength⟩ := updateHeard_kept (svcValid s.chip)
    refine gives_of_guarded (updateData tag offset data s.chip) (by simp [hoff, hlen, hsome]) rfl (by simp +contextual [Only]) ?_
    unfold updateData
    rw [svcAlways_of_listens _ hlistens]
    dsimp only
    rw [if_neg (not_retired hlife), hstate, htaken, hlength, show (svcValid s.chip).update = s.chip.update from rfl,
      show updateTaken (svcValid s.chip) = updateTaken s.chip from rfl, if_neg (by simp [hopen, hnext]), if_neg (by omega)]
    rw [updateHeard_open (show (svcValid s.chip).update.state = .receiving from hopen)]
    exact ⟨rfl, rfl⟩
  case noPiece =>
    intro s tag offset data hoff hlen hsome hlistens hlife hwrong
    obtain ⟨hstate, htaken, -, -⟩ := updateHeard_kept (svcValid s.chip)
    refine gives_of_guarded (updateData tag offset data s.chip) (by simp [hoff, hlen, hsome]) rfl (by simp +contextual [Only]) ?_
    unfold updateData
    rw [svcAlways_of_listens _ hlistens]
    dsimp only
    rw [if_neg (not_retired hlife), hstate, htaken, show (svcValid s.chip).update = s.chip.update from rfl,
      show updateTaken (svcValid s.chip) = updateTaken s.chip from rfl, if_pos (by simpa using hwrong)]
    refine ⟨?_, updateHeard_svcValid s.chip⟩
    unfold svcAnswer
    rw [setSvc_svc, updateHeard_svc]
    rfl
  case programmed =>
    intro s tag b rest hpieces
    refine gives_of_answer (updateDataProgrammed s.chip) rfl (by simp +contextual [Only]) ?_
    unfold updateDataProgrammed
    rw [hpieces]
    exact ⟨rfl, rfl, rfl⟩
  case ends =>
    intro s tag restart hlistens hlife hopen hwhole
    obtain ⟨hstate, -, hreceived, hlength⟩ := updateHeard_kept (svcValid s.chip)
    refine gives_of_answer (updateEnd tag restart s.chip) rfl (by simp +contextual [Only]) ?_
    unfold updateEnd
    rw [svcAlways_of_listens _ hlistens]
    extract_lets d x e
    rw [if_neg (not_retired hlife), if_neg (by rw [hstate, hreceived, hlength]; simpa using ⟨hopen, hwhole⟩)]
    have hd : d = setUpdate (fun u => { u with lastAt := s.chip.clock.us }) (svcValid s.chip) :=
      updateHeard_open (show (svcValid s.chip).update.state = .receiving from hopen)
    obtain ⟨hupdate, halm, hsvc⟩ := updateClosed_done tag restart d
    refine ⟨hupdate.trans (by rw [hd]; rfl), halm.trans ?_, hsvc.trans ?_⟩
    · rw [hd]
      exact log_alm_congr _ _ _ _ _ rfl rfl
    · rw [hd]
      rfl
  case noEnd =>
    intro s tag restart hlistens hlife hwrong
    obtain ⟨hstate, -, hreceived, hlength⟩ := updateHeard_kept (svcValid s.chip)
    refine gives_of_answer (updateEnd tag restart s.chip) rfl (by simp +contextual [Only]) ?_
    unfold updateEnd
    rw [svcAlways_of_listens _ hlistens]
    dsimp only
    rw [if_neg (not_retired hlife), hstate, hreceived, hlength, show (svcValid s.chip).update = s.chip.update from rfl,
      if_pos (by simpa using hwrong)]
    refine ⟨?_, updateHeard_svcValid s.chip⟩
    unfold svcAnswer
    rw [setSvc_svc, updateHeard_svc]
    rfl
  case idle =>
    intro s hreset hopen hquiet
    have hdone : updateInactivity s.chip = logRaise 0x6C 244 1 s.chip.update.slot.val [s.chip.update.received]
        (setUpdate (fun u => { u with state := .abandoned, pieces := [] }) s.chip) := by
      unfold updateInactivity abandonUpdate
      rw [if_pos (by rw [hreset, decide_eq_true hquiet]; rfl), if_pos hopen]
    refine gives_of_answer (updateInactivity s.chip) rfl (by simp +contextual [Only]) ?_
    rw [hdone]
    exact ⟨logRaise_update .., logRaise_alm_congr _ _ _ _ _ rfl rfl⟩
  case restart =>
    intro s t hat hdue hreset
    have hdone : updateRestartReset s.chip = chipReset .command false s.chip := by
      unfold updateRestartReset
      rw [hat]
      exact if_pos hdue
    obtain ⟨hphase, hcause⟩ := chipReset_boot hreset .command false
    obtain ⟨hfuses, himages, -⟩ := chipReset_keeps hreset .command
    refine ⟨updateRestartReset s.chip, rfl, ?_⟩
    rw [hdone]
    exact ⟨hphase, hcause, hfuses, himages⟩
  case nonce =>
    intro s tag hlistens hnormal
    refine gives_of_answer (lifecycleNonce tag s.chip) rfl (by simp +contextual [Only]) ?_
    unfold lifecycleNonce
    rw [svcNormal_of_normal _ _ _ hlistens hnormal]
    exact ⟨rfl, rfl, rfl⟩
  case transition =>
    intro s tag t hfits hlistens hnormal hfree
    exact gives_of_guarded (lifecycleTransition tag t s.chip) hfits rfl (by simp +contextual [Only])
      (lifecycleTransition_answers t hlistens hnormal hfree)
  case complete =>
    intro s dest haccepted hreset
    have hreset' : resettable (eraseFor dest { s.chip with fuses := blow s.chip dest }) = true := by
      cases dest <;> exact hreset
    obtain ⟨hphase, hcause⟩ := chipReset_boot hreset' .lifeCycle false
    obtain ⟨hfuses, himages, hparams⟩ := chipReset_keeps hreset' .lifeCycle
    refine ⟨lifecycleEraseComplete s.chip, rfl, ?_⟩
    rw [lifecycleEraseComplete_of_accepted haccepted hreset]
    refine ⟨hfuses.trans (eraseFor_part .fuses (by decide) (by decide) ..), hphase, hcause, ?_, ?_⟩
    · rintro rfl k
      rw [hparams]
      exact Vector.getElem_replicate k.isLt
    · rintro rfl k
      rw [himages]
      exact Vector.getElem_replicate k.isLt
  case none =>
    intro s hnone
    refine ⟨lifecycleEraseComplete s.chip, rfl, ?_⟩
    unfold lifecycleEraseComplete
    rw [hnone]

end Sys2Proof.Machine
end

section
/-! Lane links, wraps and frames (R326 to R335). -/

namespace Sys2Proof.Machine

/-! ### Links through a change of master -/

/-- Both links stay. -/
def KeepsLinks (c d : Chip) : Prop := laneLink d = laneLink c

namespace KeepsLinks

theorem refl (c : Chip) : KeepsLinks c c := rfl

theorem trans {c d e : Chip} (hcd : KeepsLinks c d) (hde : KeepsLinks d e) : KeepsLinks c e :=
  Eq.trans hde hcd

theorem of_links {c d : Chip} (ha : d.lane.linkA = c.lane.linkA) (hb : d.lane.linkB = c.lane.linkB) : KeepsLinks c d := by
  refine funext fun q => ?_
  cases q
  · exact ha
  · exact hb

theorem of_lane {c d : Chip} (h : d.lane = c.lane) : KeepsLinks c d :=
  of_links (congrArg Lane.linkA h) (congrArg Lane.linkB h)

theorem raise (src code : Nat) (v : Int) (c : Chip) : KeepsLinks c (raise src code v c) := of_lane (raise_lane ..)

theorem when {f : Chip → Chip} (h : ∀ c, KeepsLinks c (f c)) (b : Bool) (c : Chip) : KeepsLinks c (when b f c) := by
  cases b
  · exact refl c
  · exact h c

theorem of_serves {c d : Chip} (h : LaneServes c d) : KeepsLinks c d := by
  obtain ⟨seqs, readers, tx, hlane⟩ := h
  exact of_links (by rw [hlane]) (by rw [hlane])

theorem clearTvalid (c : Chip) : KeepsLinks c (clearTvalid c) := by
  refine when (fun d => ?_) _ c
  refine .trans ?_ (raise ..)
  exact of_links rfl rfl

theorem epochChange (e : BitVec 8) (c : Chip) : KeepsLinks c (epochChange e c) := by
  unfold Machine.epochChange
  dsimp only
  refine .trans (.trans (.trans ?_ (when clearTvalid _ _)) (of_serves (LaneServes.each LaneServes.discardArmed _ _))) (raise ..)
  exact of_links rfl rfl

theorem chooseMaster (c : Chip) : KeepsLinks c (chooseMaster c) := by
  have hbecome (d : Chip) : KeepsLinks d (becomeMaster d) := by
    unfold becomeMaster
    dsimp only
    split
    · exact of_links rfl rfl
    · refine .trans ?_ (epochChange ..)
      exact of_links rfl rfl
  unfold Machine.chooseMaster
  dsimp only
  split
  · exact refl c
  · refine .trans (.trans ?_ (raise ..)) (when hbecome _ _)
    exact of_links rfl rfl

theorem laneJoin (c : Chip) : KeepsLinks c (laneJoin c) := by
  unfold Machine.laneJoin
  split
  · refine .trans ?_ (chooseMaster _)
    exact of_links rfl rfl
  · exact refl c

end KeepsLinks

theorem laneLink_setLink (p q : LanePort) (g : LaneLink → LaneLink) (c : Chip) :
    laneLink (setLink p g c) q = if p = q then g (laneLink c p) else laneLink c q := by
  cases p <;> cases q <;> rfl

/-- What a change of a link leaves of the Lane. -/
theorem setLink_kept (p : LanePort) (g : LaneLink → LaneLink) (c : Chip) : (setLink p g c).lane.state = c.lane.state ∧
    (setLink p g c).lane.tx = c.lane.tx ∧ (setLink p g c).lane.wrap = c.lane.wrap ∧ (setLink p g c).lane.dupId = c.lane.dupId ∧
    (setLink p g c).lane.nodeIdNow = c.lane.nodeIdNow ∧ (setLink p g c).lane.history = c.lane.history := by
  cases p <;> exact ⟨rfl, rfl, rfl, rfl, rfl, rfl⟩

/-! ### What a frame teaches -/

/-- Of the chip only what is known of the nodes and of the ring may change. -/
def LearnsNodes (c d : Chip) : Prop :=
  ∃ nodes ring at_, d = setLane (fun l => { l with nodes := nodes, ring := ring, turnedAt := at_ }) c

namespace LearnsNodes

theorem refl (c : Chip) : LearnsNodes c c := ⟨_, _, _, rfl⟩

theorem trans {c d e : Chip} (hcd : LearnsNodes c d) (hde : LearnsNodes d e) : LearnsNodes c e := by
  obtain ⟨_, _, _, rfl⟩ := hcd
  obtain ⟨nodes, ring, at_, rfl⟩ := hde
  exact ⟨nodes, ring, at_, rfl⟩

theorem when {f : Chip → Chip} {c : Chip} (h : LearnsNodes c (f c)) (b : Bool) : LearnsNodes c (when b f c) := by
  cases b
  · exact refl c
  · exact h

theorem setNode (n : Fin 1024) (g : LaneNode → LaneNode) (c : Chip) : LearnsNodes c (setNode n g c) := ⟨_, c.lane.ring, c.lane.turnedAt, rfl⟩

theorem hear (n : Fin 1024) (c : Chip) : LearnsNodes c (hear n c) := by
  unfold Machine.hear
  split
  · exact refl c
  · exact setNode ..

theorem learnRing (hops : Nat) (turns : BitVec 2) (c : Chip) : LearnsNodes c (learnRing hops turns c) := by
  unfold Machine.learnRing
  extract_lets r
  split
  · exact refl c
  · exact ⟨c.lane.nodes, r, _, rfl⟩

theorem learnHops (n : Fin 1024) (p : LanePort) (hops : Nat) (turns : BitVec 2) (c : Chip) :
    LearnsNodes c (learnHops n p hops turns c) :=
  ⟨_, c.lane.ring, c.lane.turnedAt, rfl⟩

theorem learnFrame (p : LanePort) (f : LaneFrame) (c : Chip) : LearnsNodes c (learnFrame p f c) := by
  unfold Machine.learnFrame
  split
  · exact refl c
  split
  · exact when (learnRing ..) _
  split
  · exact (hear ..).trans (when (learnHops ..) _)
  · exact refl c

end LearnsNodes

/-! ### Frames -/

theorem laneFrameReceive_eq {c : Chip} {p : LanePort} (f : LaneFrame) (hruns : laneRuns c) (hup : (laneLink c p).up) :
    laneFrameReceive p f c = when (forwards (judgeFrame p f c) f) (forwardFrame p f) (judgeFrame p f c) := by
  rw [laneFrameReceive, hruns, hup]
  rfl

/-- What is forwarded does not hang on the verdict. -/
theorem forwards_judgeFrame (p : LanePort) (f : LaneFrame) (c : Chip) : forwards (judgeFrame p f c) f = forwards c f := by
  unfold judgeFrame
  split
  · cases p <;> rfl
  · unfold deliverFrame
    obtain ⟨nodes, ring, at_, h⟩ := LearnsNodes.learnFrame p f c
    rw [h]
    split <;> rfl

/-- What the verdict leaves for forwarding. -/
theorem judgeFrame_kept (p : LanePort) (f : LaneFrame) (c : Chip) : (judgeFrame p f c).lane.tx = c.lane.tx ∧
    (judgeFrame p f c).lane.wrap = c.lane.wrap ∧ laneLink (judgeFrame p f c) (otherPort p) = laneLink c (otherPort p) := by
  unfold judgeFrame
  split
  · cases p <;> exact ⟨rfl, rfl, rfl⟩
  · rw [laneLink_deliverFrame, laneLink_learnFrame]
    obtain ⟨nodes, ring, at_, h⟩ := LearnsNodes.learnFrame p f c
    unfold deliverFrame
    rw [h]
    split <;> exact ⟨rfl, rfl, rfl⟩

/-- A good frame that is for this node, and new, is delivered (R334). -/
theorem judgeFrame_of_new {p : LanePort} {f : LaneFrame} {c : Chip} (hgood : frameBad f = false) (haddressed : addressed c f)
    (hdelivers : delivers c f) (hnew : f.seq ∉ seqsOf c f) : (judgeFrame p f c).lane.delivered = c.lane.delivered ++ [f] ∧
      f.seq ∈ seqsOf (judgeFrame p f c) f := by
  obtain ⟨nodes, ring, at_, h⟩ := LearnsNodes.learnFrame p f c
  unfold judgeFrame
  rw [hgood, if_neg (by decide), h]
  unfold deliverFrame
  rw [if_neg ?_]
  · refine ⟨rfl, ?_⟩
    simp [seqsOf, setLane]
  · change ¬ (!addressed c f || !delivers c f || (seqsOf c f).contains f.seq) = true
    rw [haddressed, hdelivers]
    simpa using hnew

theorem judgeFrame_of_known {p : LanePort} {f : LaneFrame} {c : Chip} (hknown : f.seq ∈ seqsOf c f) :
    (judgeFrame p f c).lane.delivered = c.lane.delivered := by
  unfold judgeFrame
  split
  · exact setLink_delivered ..
  · obtain ⟨nodes, ring, at_, h⟩ := LearnsNodes.learnFrame p f c
    rw [h]
    unfold deliverFrame
    rw [if_pos ?_]
    · rfl
    · change (!addressed c f || !delivers c f || (seqsOf c f).contains f.seq) = true
      rw [List.contains_iff_mem.mpr hknown, Bool.or_true]


/-- The port that a node wraps, from the state of its links (R328). -/
def wrapOf (a b : Bool) : Option LanePort :=
  match a, b with
  | false, true => some .a
  | true, false => some .b
  | _, _ => none

theorem laneWrap_to {c : Chip} {w : Option LanePort} (hruns : laneRuns c) (hw : wrapOf c.lane.linkA.up c.lane.linkB.up = w) :
    (laneWrap c).lane.wrap = w ∧ (laneWrap c).lane.tx = c.lane.tx ∧ (c.lane.wrap = w → laneWrap c = c) := by
  unfold laneWrap
  extract_lets v
  have hv : v = w := hw
  rw [hruns, hv]
  by_cases hsame : w = c.lane.wrap
  · rw [if_pos (by simpa using hsame)]
    exact ⟨hsame.symm, rfl, fun _ => rfl⟩
  · rw [if_neg (by simpa using hsame)]
    exact ⟨rfl, rfl, fun h => absurd h.symm hsame⟩

theorem laneLink_raise (src code : Nat) (v : Int) (c : Chip) (q : LanePort) : laneLink (raise src code v c) q = laneLink c q :=
  congrFun (KeepsLinks.raise src code v c) q

theorem setLink_watch (p : LanePort) (g : LaneLink → LaneLink) (c : Chip) : (setLink p g c).watch = c.watch := by
  cases p <;> rfl

/-- A link that comes up to a port of the other letter is up, and lets an enabled node join (R326). -/
theorem laneLinkUp_joins {p : LanePort} {farB : Bool} {c : Chip} (hruns : laneRuns c) (hfar : farB ≠ (p == .b)) :
    laneLink (laneLinkUp p farB c) p = { laneLink c p with up := true, farRxOk := true, miswire := false } ∧
      (c.lane.state = .off → c.lane.dupId = false → flag c kLaneEnable → lifeCycle c ≠ .blank →
        (laneLinkUp p farB c).lane.state = .joining) := by
  let d : Chip := setLink p (fun l => { l with up := true, farRxOk := true, miswire := false }) c
  have hdone : laneLinkUp p farB c = if flag d kLaneEnable && !d.lane.dupId then laneJoin d else d := by
    unfold laneLinkUp
    rw [if_neg (by rw [hruns]; decide), if_neg (by simpa using hfar)]
  have hlink : laneLink d p = { laneLink c p with up := true, farRxOk := true, miswire := false } := laneLink_setLink_same ..
  have hkept : flag d kLaneEnable = flag c kLaneEnable ∧ lifeCycle d = lifeCycle c ∧ d.boot = c.boot := by
    cases p <;> exact ⟨rfl, rfl, rfl⟩
  obtain ⟨hstate, -, -, hdup, -, -⟩ : d.lane.state = c.lane.state ∧ _ := setLink_kept p _ c
  rw [hdone]
  refine ⟨?_, fun hoff hunique henabled hlife => ?_⟩
  · split
    · rw [KeepsLinks.laneJoin d, hlink]
    · exact hlink
  · have hup : (d.lane.linkA.up || d.lane.linkB.up) = true := by
      cases p
      · exact Bool.or_eq_true_iff.mpr (.inl rfl)
      · exact Bool.or_eq_true_iff.mpr (.inr rfl)
    have hphase : (d.boot.phase == .running) = true := by
      unfold laneRuns at hruns
      rw [hkept.2.2]
      simp only [Bool.and_eq_true] at hruns
      exact hruns.1.1.1
    rw [hdup, hunique, hkept.1, henabled, if_pos (by decide)]
    unfold laneJoin
    rw [if_pos (by rw [hstate, hoff, hkept.1, henabled, hup, hphase, hkept.2.1]; simpa using hlife), chooseMaster_state]
    rfl

/-- Settles O36: links come and go, the node wraps, and a frame is counted, delivered once and forwarded as the rules say. -/
theorem laneLinkAndFrameCommands : Obligations.LaneLinkAndFrameCommands := by
  refine ⟨?miswired, ?up, ?down, ?wrapA, ?wrapB, ?unwrap, ?bad, ?new, ?known, ?forwarded, ?broken⟩
  case miswired =>
    intro s p farB hruns hfar
    have hdone : laneLinkUp p farB s.chip = when (!(laneLink s.chip p).miswire) (raise (portSource p) 2 0)
        (setLink p (fun l => { l with up := false, farRxOk := true, miswire := true }) s.chip) := by
      unfold laneLinkUp
      rw [if_neg (by rw [hruns]; decide), if_pos (by simpa using hfar)]
    refine gives_of_answer (laneLinkUp p farB s.chip) rfl (by simp +contextual [Only]) ?_
    rw [hdone]
    cases (laneLink s.chip p).miswire with
    | false =>
      change laneLink (raise (portSource p) 2 0 _) p = _ ∧ (raise (portSource p) 2 0 _).lane.state = _ ∧ _
      rw [laneLink_raise, laneLink_setLink_same, raise_lane]
      exact ⟨rfl, (setLink_kept ..).1, raise_watch_congr _ _ _ (setLink_watch ..)⟩
    | true =>
      rw [show ∀ (g : Chip → Chip) (d : Chip), when (!true) g d = d from fun _ _ => rfl]
      exact ⟨laneLink_setLink_same .., (setLink_kept ..).1, setLink_watch ..⟩
  case up =>
    intro s p farB hruns hfar
    exact gives_of_answer (laneLinkUp p farB s.chip) rfl (by simp +contextual [Only]) (laneLinkUp_joins hruns hfar)
  case down =>
    intro s p hup
    refine gives_of_answer (laneLinkDown p s.chip) rfl (by simp +contextual [Only]) ?_
    unfold laneLinkDown
    dsimp only
    rw [hup, when_true, laneLink_raise, laneLink_setLink_same, raise_lane]
    exact ⟨rfl, (setLink_kept ..).1, raise_watch_congr _ _ _ (setLink_watch ..)⟩
  case wrapA =>
    intro s hruns ha hb
    exact gives_of_answer (laneWrap s.chip) rfl (by simp +contextual [Only]) (laneWrap_to hruns (by rw [ha, hb]; rfl))
  case wrapB =>
    intro s hruns ha hb
    exact gives_of_answer (laneWrap s.chip) rfl (by simp +contextual [Only]) (laneWrap_to hruns (by rw [ha, hb]; rfl))
  case unwrap =>
    intro s hruns hsame
    refine gives_of_answer (laneWrap s.chip) rfl (by simp +contextual [Only]) (laneWrap_to hruns ?_)
    rw [hsame]
    cases s.chip.lane.linkB.up <;> rfl
  case bad =>
    intro s p f hlen hruns hup hbad hends
    refine laneFrameReceive_gives hlen ?_
    rw [laneFrameReceive_eq f hruns hup, forwards_judgeFrame, hends]
    change laneLink (judgeFrame p f s.chip) p = _ ∧ _
    obtain ⟨hdelivered, hnodes, -⟩ := judgeFrame_of_bad p s.chip hbad
    refine ⟨?_, hdelivered, (judgeFrame_kept ..).1, hnodes⟩
    unfold judgeFrame
    rw [if_pos hbad, laneLink_setLink_same]
  case new =>
    intro s p f hlen hruns hup hgood haddressed hdelivers hnew
    refine laneFrameReceive_gives hlen ?_
    obtain ⟨tx, hlane⟩ := laneFrameReceive_lane f hruns hup
    obtain ⟨hdelivered, hkept⟩ := judgeFrame_of_new (p := p) hgood haddressed hdelivers hnew
    refine ⟨by rw [hlane]; exact hdelivered, ?_⟩
    unfold seqsOf at hkept ⊢
    rw [hlane]
    exact hkept
  case known =>
    intro s p f hlen hruns hup hknown
    refine laneFrameReceive_gives hlen ?_
    obtain ⟨tx, hlane⟩ := laneFrameReceive_lane f hruns hup
    rw [hlane]
    exact judgeFrame_of_known hknown
  case forwarded =>
    intro s p f hlen hruns hup hgood hforwards hother hwrap
    refine laneFrameReceive_gives hlen ?_
    have hunwrapped : ((none : Option LanePort) == some (otherPort p)) = false := rfl
    obtain ⟨htx, hkeptWrap, hlink⟩ := judgeFrame_kept p f s.chip
    rw [laneFrameReceive_eq f hruns hup, forwards_judgeFrame, hforwards, when_true]
    unfold forwardFrame
    dsimp only
    rw [hgood, if_neg (by decide)]
    unfold laneLeave
    rw [hkeptWrap, hwrap]
    dsimp only
    rw [hunwrapped, if_neg Bool.false_ne_true, if_neg Bool.false_ne_true, hlink, if_pos hother, setLane_lane]
    dsimp only
    rw [htx]
  case broken =>
    intro s p f hlen hruns hup hbad hforwards hother hwrap
    have hframe : frameBad f := by
      simp only [hchkBad, Bool.and_eq_true] at hbad
      simp only [frameBad, hbad.2, Bool.or_true, Bool.true_or]
    refine laneFrameReceive_gives hlen ?_
    have hunwrapped : ((none : Option LanePort) == some (otherPort p)) = false := rfl
    obtain ⟨htx, hkeptWrap, hlink⟩ := judgeFrame_kept p f s.chip
    rw [laneFrameReceive_eq f hruns hup, forwards_judgeFrame, hforwards, when_true]
    unfold forwardFrame
    dsimp only
    rw [hbad, if_pos rfl, hkeptWrap, hwrap, hunwrapped, if_neg Bool.false_ne_true, hlink, if_pos hother, setLane_lane]
    dsimp only
    rw [htx]
    exact ⟨rfl, (judgeFrame_of_bad p s.chip hframe).1⟩

end Sys2Proof.Machine
end

section
/-! What the choice of a master keeps, and what is sent (R335, R341, R343, R345). -/

namespace Sys2Proof.Machine

/-! ### What the choice of a master keeps -/

/-- The nodes known and the age of the node stay, events only join those that arrived, and hampers go on or are discarded. -/
structure KeepsMembers (c d : Chip) : Prop where
  nodes : d.lane.nodes = c.lane.nodes
  since : d.lane.memberSince = c.lane.memberSince
  events : KeepsEvents c d
  hampers : ∀ h ∈ d.hampers.list, h ∈ c.hampers.list ∨ h.state = .aborted

namespace KeepsMembers

theorem of_same {c d : Chip} (hnodes : d.lane.nodes = c.lane.nodes) (hsince : d.lane.memberSince = c.lane.memberSince)
    (hwatch : d.watch = c.watch) (hhampers : d.hampers.list = c.hampers.list) : KeepsMembers c d :=
  ⟨hnodes, hsince, .of_watch hwatch, fun _ hh => .inl (hhampers ▸ hh)⟩

theorem refl (c : Chip) : KeepsMembers c c := of_same rfl rfl rfl rfl

theorem trans {c d e : Chip} (hcd : KeepsMembers c d) (hde : KeepsMembers d e) : KeepsMembers c e where
  nodes := hde.nodes.trans hcd.nodes
  since := hde.since.trans hcd.since
  events := hcd.events.trans hde.events
  hampers h hh := (hde.hampers h hh).elim (hcd.hampers h) .inr

theorem raise (src code : Nat) (v : Int) (c : Chip) : KeepsMembers c (raise src code v c) where
  nodes := by rw [raise_lane]
  since := by rw [raise_lane]
  events := .raise ..
  hampers h hh := .inl (by rw [raise_hampers] at hh; exact hh)

theorem each {α : Type} {f : α → Chip → Chip} (h : ∀ a c, KeepsMembers c (f a c)) (l : List α) (c : Chip) :
    KeepsMembers c (each l f c) :=
  each_keeps (P := fun d => KeepsMembers c d) (fun a _ d hd => hd.trans (h a d)) (refl c)

theorem when {f : Chip → Chip} (h : ∀ c, KeepsMembers c (f c)) (b : Bool) (c : Chip) : KeepsMembers c (when b f c) := by
  cases b
  · exact refl c
  · exact h c

theorem clearTvalid (c : Chip) : KeepsMembers c (clearTvalid c) := by
  refine when (fun d => ?_) _ c
  refine .trans ?_ (raise ..)
  exact of_same rfl rfl rfl rfl

end KeepsMembers

/-- A hamper that is discarded, and those of its handle (R281). -/
theorem discardArmed_list (h : Hamper) (c : Chip) : ∃ r, (discardArmed h c).hampers.list = c.hampers.list.map fun x =>
    if x.handle == h.handle then { x with state := .aborted, result := r, writes := [], req := none } else x := by
  unfold discardArmed
  rw [endHamper_hampers, log_hampers]
  exact ⟨_, rfl⟩

/-- A hamper after a discard is one before of another handle, or aborted. -/
theorem discardArmed_mem {h x : Hamper} {c : Chip} (hx : x ∈ (discardArmed h c).hampers.list) :
    (x ∈ c.hampers.list ∧ x.handle ≠ h.handle) ∨ x.state = .aborted := by
  obtain ⟨r, hlist⟩ := discardArmed_list h c
  rw [hlist] at hx
  obtain ⟨y, hy, rfl⟩ := List.mem_map.mp hx
  by_cases hhandle : y.handle = h.handle
  · right
    rw [if_pos (by simpa using hhandle)]
  · left
    rw [if_neg (by simpa using hhandle)]
    exact ⟨hy, hhandle⟩

/-- A hamper that is armed after a list of discards was there before, under a handle that is not of the list. -/
theorem each_discardArmed_mem {l : List Hamper} {x : Hamper} {c : Chip} (hx : x ∈ (each l discardArmed c).hampers.list)
    (harmed : x.state = .armed) : x ∈ c.hampers.list ∧ ∀ y ∈ l, x.handle ≠ y.handle := by
  induction l generalizing c with
  | nil => exact ⟨hx, by simp⟩
  | cons h l ih =>
    obtain ⟨hmem, hothers⟩ := ih (c := discardArmed h c) hx
    rcases discardArmed_mem hmem with ⟨hbefore, hne⟩ | habort
    · exact ⟨hbefore, List.forall_mem_cons.mpr ⟨hne, hothers⟩⟩
    · exact absurd (harmed.symm.trans habort) (by decide)

namespace KeepsMembers

theorem discardArmed (h : Hamper) (c : Chip) : KeepsMembers c (discardArmed h c) := by
  obtain ⟨seqs, readers, tx, hlane⟩ := LaneServes.discardArmed h c
  exact { nodes := by rw [hlane]
          since := by rw [hlane]
          events := .of_watch (discardArmed_part .watch (by decide) (by decide) (by decide) (by decide) (by decide) (by decide)
            (by decide) (by decide) h c)
          hampers := fun x hx => (discardArmed_mem hx).imp_left And.left }

theorem epochChange (e : BitVec 8) (c : Chip) : KeepsMembers c (epochChange e c) := by
  unfold Machine.epochChange
  dsimp only
  refine .trans (.trans (.trans ?_ (when clearTvalid _ _)) (each discardArmed _ _)) (raise ..)
  exact of_same rfl rfl rfl rfl

theorem chooseMaster (c : Chip) : KeepsMembers c (chooseMaster c) := by
  have hbecome (d : Chip) : KeepsMembers d (becomeMaster d) := by
    unfold becomeMaster
    dsimp only
    split
    · exact of_same rfl rfl rfl rfl
    · refine .trans ?_ (epochChange ..)
      exact of_same rfl rfl rfl rfl
  unfold Machine.chooseMaster
  dsimp only
  split
  · exact refl c
  · refine .trans (.trans ?_ (raise ..)) (when hbecome _ _)
    exact of_same rfl rfl rfl rfl

end KeepsMembers

/-- A node that is in pass-through has no master. -/
theorem chooseMaster_of_duplicate {c : Chip} (h : c.lane.state = .duplicate) : ∃ master, KeepsEvents c (chooseMaster c) ∧
    (chooseMaster c).lane = { c.lane with master := master } ∧ (chooseMaster c).hampers = c.hampers ∧
    (chooseMaster c).watch.safe = c.watch.safe := by
  have hnone : masterNow c = none := by
    unfold masterNow
    rw [h]
  unfold chooseMaster
  rw [hnone]
  dsimp only
  split
  case isTrue hsame => exact ⟨c.lane.master, .refl c, rfl, rfl, rfl⟩
  case isFalse =>
    have hnot (d : Chip) (hd : d.lane.master = none) : isMaster d = false := by
      unfold isMaster
      rw [hd]
      rfl
    rw [hnot _ (by rw [raise_lane]; rfl), show ∀ d, when false becomeMaster d = d from fun _ => rfl]
    refine ⟨none, ?_, raise_lane .., raise_hampers .., raise_safe ..⟩
    refine .trans ?_ (.raise ..)
    exact .of_watch rfl

theorem clearTvalid_lane (c : Chip) : ∃ count, (clearTvalid c).lane = { c.lane with tvalid := false, lockCount := count } := by
  unfold clearTvalid
  cases hvalid : c.lane.tvalid with
  | false =>
    refine ⟨c.lane.lockCount, ?_⟩
    change c.lane = { c.lane with tvalid := false, lockCount := c.lane.lockCount }
    rw [← hvalid]
  | true => exact ⟨0, raise_lane ..⟩

/-- A new epoch is in force, its time not valid, and no hamper is armed any more (R281, R346). -/
theorem epochChange_done (e : BitVec 8) {c : Chip} (hmaster : isMaster c = false) (hsafe : c.watch.safe = false) :
    (epochChange e c).lane.epoch = e ∧ (epochChange e c).lane.tvalid = false ∧ (epochChange e c).lane.epochAt = some c.clock.us ∧
    { src := 183, code := 5, value := 0 } ∈ (epochChange e c).watch.arrived ∧
    ∀ h ∈ (epochChange e c).hampers.list, h.state ≠ .armed := by
  let begun : Chip := setLane (fun l => { l with epoch := e, epochAt := some c.clock.us, slew := 0 }) c
  let cleared : Chip := clearTvalid begun
  let discarded : Chip := each (cleared.hampers.list.filter fun h => h.state == .armed) discardArmed cleared
  have hdone : epochChange e c = raise 183 5 0 discarded := by
    unfold epochChange
    dsimp only
    rw [show isMaster begun = false from hmaster]
    rfl
  obtain ⟨count, hcleared⟩ : ∃ count, cleared.lane = { begun.lane with tvalid := false, lockCount := count } :=
    clearTvalid_lane begun
  obtain ⟨seqs, readers, tx, hlane⟩ : LaneServes cleared discarded := LaneServes.each LaneServes.discardArmed _ _
  have hquiet : discarded.watch.safe = false := by
    have hkept : discarded.watch = cleared.watch := each_part .watch _ _ _ fun h d => discardArmed_part .watch (by decide) (by decide)
      (by decide) (by decide) (by decide) (by decide) (by decide) (by decide) h d
    have hstill : cleared.watch.safe = begun.watch.safe := by
      change (clearTvalid begun).watch.safe = _
      unfold clearTvalid
      cases begun.lane.tvalid
      · rfl
      · exact raise_safe ..
    rw [hkept, hstill]
    exact hsafe
  rw [hdone, raise_lane, raise_hampers, hlane, hcleared]
  refine ⟨rfl, rfl, rfl, ?_, fun h hh harmed => ?_⟩
  · exact mem_raise_arrived hquiet 183 5 0
  · obtain ⟨hmem, hothers⟩ := each_discardArmed_mem hh harmed
    exact hothers h (List.mem_filter.mpr ⟨hmem, by simpa using harmed⟩) rfl

/-! ### What is sent -/

theorem laneLeave_setLink {g : LaneLink → LaneLink} (hg : ∀ l, (g l).up = l.up) (p q : LanePort) (f : LaneFrame) (c : Chip) :
    laneLeave q f (setLink p g c) = setLink p g (laneLeave q f c) := by
  have hup (r : LanePort) : (laneLink (setLink p g c) r).up = (laneLink c r).up := by
    rw [laneLink_setLink]
    split
    case isTrue h => rw [hg, h]
    case isFalse => rfl
  unfold laneLeave
  dsimp only
  rw [(setLink_kept p g c).2.2.1, hup]
  generalize (if (c.lane.wrap == some q) = true then otherPort q else q) = r
  generalize (if (c.lane.wrap == some q) = true then { f with turns := f.turns + 1 } else f) = f'
  split
  · cases p <;> rfl
  · rfl

theorem laneCopy_setLink {g : LaneLink → LaneLink} (hg : ∀ l, (g l).up = l.up) (p q : LanePort) (dest cls : Nat) (n : BitVec 16)
    (l : List Byte) (c : Chip) : laneCopy q dest cls n l (setLink p g c) = setLink p g (laneCopy q dest cls n l c) := by
  unfold laneCopy
  dsimp only
  rw [(setLink_kept p g c).2.2.1, (setLink_kept p g c).2.2.2.2.1, laneLeave_setLink hg]

/-- What is sent does not hang on the notes of a link. -/
theorem laneSend_setLink {g : LaneLink → LaneLink} (hg : ∀ l, (g l).up = l.up) (p : LanePort) (byA byB : Bool) (dest cls : Nat)
    (l : List Byte) (c : Chip) : laneSend byA byB dest cls l (setLink p g c) = setLink p g (laneSend byA byB dest cls l c) := by
  have hwhen (b : Bool) (q : LanePort) (n : BitVec 16) (k : List Byte) (d : Chip) :
      when b (laneCopy q dest cls n k) (setLink p g d) = setLink p g (when b (laneCopy q dest cls n k) d) := by
    cases b
    · rfl
    · exact laneCopy_setLink hg p q dest cls n k d
  have hruns : laneRuns (setLink p g c) = laneRuns c := by cases p <;> rfl
  have hactive : laneActive (setLink p g c) = laneActive c := by cases p <;> rfl
  have hseqs (k : Vector (BitVec 16) 16) : setLane (fun x => { x with seqs := k }) (setLink p g c) =
      setLink p g (setLane (fun x => { x with seqs := k }) c) := by
    cases p <;> rfl
  have hnow : (setLink p g c).lane.seqs = c.lane.seqs := by cases p <;> rfl
  unfold laneSend
  rw [hruns, hactive]
  split
  · rfl
  · dsimp only
    rw [← hwhen, ← hwhen]
    cases p <;> rfl

end Sys2Proof.Machine
end

section
/-! Lane membership and Lane time commands (R337 to R346). -/

namespace Sys2Proof.Machine

/-! ### Nodes -/

theorem nodeOf_of_head {c : Chip} {x : LaneNode} {l : List LaneNode} (h : c.lane.nodes = x :: l) : nodeOf c x.node = x := by
  unfold nodeOf
  rw [h, List.find?_cons_of_pos (by simp)]
  rfl

theorem nodeOf_node (n : Fin 1024) (c : Chip) : (nodeOf c n).node = n := by
  unfold nodeOf
  cases hfound : c.lane.nodes.find? fun x => x.node == n with
  | none => rfl
  | some x => simpa using List.find?_some hfound

/-- A node as the chip that heard of it last knows it. -/
theorem nodeOf_setNode {n : Fin 1024} {g : LaneNode → LaneNode} (hg : ∀ x, (g x).node = x.node) (c d : Chip)
    (h : d.lane.nodes = (setNode n g c).lane.nodes) : nodeOf d n = g (nodeOf c n) := by
  have hnode : (g (nodeOf c n)).node = n := (hg _).trans (nodeOf_node n c)
  have hhead := nodeOf_of_head (c := d) (x := g (nodeOf c n)) h
  rwa [hnode] at hhead

theorem hear_of_other {n : Fin 1024} {c : Chip} (hne : n.val ≠ c.lane.nodeIdNow) (hactive : laneActive c) :
    hear n c = setNode n (fun x => { x with heard := true, heardAt := c.clock.us }) c := by
  unfold hear
  exact if_neg (by rw [hactive]; simpa using hne)

theorem laneActive_parts {c : Chip} (h : laneActive c) : laneRuns c = true ∧ c.watch.safe = false := by
  unfold laneActive at h
  simp only [Bool.and_eq_true, Bool.not_eq_true'] at h
  exact h.1

theorem live_quiet {c : Chip} (h : live c) : c.watch.safe = false := by
  unfold live at h
  simp only [Bool.and_eq_true, Bool.not_eq_true'] at h
  exact h.2

/-! ### ROLL -/

/-- A frame that leaves by LANE-A of a node that is not wrapped (R335). -/
theorem laneSend_byA {c : Chip} (hactive : laneActive c) (hwrap : c.lane.wrap = none) (hup : c.lane.linkA.up) (payload : List Byte) :
    ∃ f, (laneSend true false 0x7FF 0 payload c).lane.tx = c.lane.tx ++ [.frame .a f] ∧ f.dest = 0x7FF ∧ f.cls = 0 ∧
      f.src = BitVec.ofNat 11 c.lane.nodeIdNow ∧ f.seq = c.lane.seqs[0] ∧ f.hops = 0 ∧ f.turns = 0 ∧ f.dir = false ∧
      f.crc = crcOf f ∧ f.hchk = hchkOf f ∧ f.payload = trimZeros payload := by
  have hcopies (n : BitVec 16) (l : List Byte) (d : Chip) (hw : d.lane.wrap = none) (hu : d.lane.linkA.up = true)
      (hnode : d.lane.nodeIdNow = c.lane.nodeIdNow) : ∃ f, (laneCopy .a 0x7FF 0 n l d).lane.tx = d.lane.tx ++ [.frame .a f] ∧
        f.dest = 0x7FF ∧ f.cls = 0 ∧ f.src = BitVec.ofNat 11 c.lane.nodeIdNow ∧ f.seq = n ∧ f.hops = 0 ∧ f.turns = 0 ∧
        f.dir = false ∧ f.crc = crcOf f ∧ f.hchk = hchkOf f ∧ f.payload = l := by
    unfold laneCopy laneLeave
    dsimp only
    rw [hw, hnode, show ((none : Option LanePort) == some .a) = false from rfl, if_neg Bool.false_ne_true, if_neg Bool.false_ne_true,
      if_pos (show (laneLink d .a).up = true from hu)]
    exact ⟨_, rfl, rfl, rfl, rfl, rfl, rfl, rfl, rfl, rfl, rfl, rfl⟩
  unfold laneSend
  rw [if_neg (by rw [hactive]; exact Bool.false_ne_true)]
  exact hcopies c.lane.seqs[0] (trimZeros payload) _ hwrap hup rfl

/-- Origins that are lost leave no open hamper of their own (R274, R339). -/
theorem originsLost_closed (p : Origin → Bool) (c : Chip) :
    ∀ h ∈ (originsLost p c).hampers.list, p h.origin → h.state ≠ .opened ∧ h.state ≠ .joined := by
  unfold originsLost
  rw [each_rollBack_list]
  intro h hmem horigin
  obtain ⟨x, hx, rfl⟩ := List.mem_map.mp hmem
  split
  case isTrue => exact ⟨HamperState.noConfusion, HamperState.noConfusion⟩
  case isFalse hkept =>
    rw [if_neg hkept] at horigin
    have hclosed : (x.state == .opened || x.state == .joined) = false := by
      refine Bool.eq_false_iff.mpr fun hopen => hkept ?_
      exact List.any_eq_true.mpr ⟨x, List.mem_filter.mpr ⟨hx, by rw [hopen, horigin]; rfl⟩, beq_self_eq_true _⟩
    rwa [Bool.or_eq_false_iff, beq_eq_false_iff_ne, beq_eq_false_iff_ne] at hclosed

/-- A conflict that is lost takes the node to pass-through, and every Lane origin is lost (R339, R340). -/
theorem loseConflict_done {c : Chip} (hsafe : c.watch.safe = false) : (loseConflict c).lane.state = .duplicate ∧
    (loseConflict c).lane.dupId = true ∧ (loseConflict c).lane.nodes = [] ∧
    { src := 183, code := 1, value := 0 } ∈ (loseConflict c).watch.arrived ∧
    ∀ h ∈ (loseConflict c).hampers.list, laneOrigin h.origin → h.state ≠ .opened ∧ h.state ≠ .joined := by
  let begun : Chip := setLane (fun l => { l with state := .duplicate, dupId := true, nodes := [], memberSince := none, fetches := [] }) c
  obtain ⟨seqs, readers, tx, hlost⟩ : LaneServes begun (laneOriginsLost begun) := LaneServes.originsLost _ begun
  obtain ⟨master, -, hlane, hhampers, hsafe'⟩ := chooseMaster_of_duplicate (c := laneOriginsLost begun) (by rw [hlost]; rfl)
  have hquiet : (chooseMaster (laneOriginsLost begun)).watch.safe = false := by
    rw [hsafe', show (laneOriginsLost begun).watch = begun.watch from laneOriginsLost_part .watch (by decide) (by decide) (by decide)
      (by decide) (by decide) (by decide) (by decide) begun]
    exact hsafe
  have hdone : loseConflict c = raise 183 1 0 (chooseMaster (laneOriginsLost begun)) := rfl
  rw [hdone, raise_lane, raise_hampers, hlane, hlost, hhampers]
  exact ⟨rfl, rfl, rfl, mem_raise_arrived hquiet 183 1 0, originsLost_closed laneOrigin begun⟩


/-- A node whose frames stopped is no longer heard, and its hampers end (R341). -/
theorem laneNodeLost_done {n : Fin 1024} {c : Chip} (hruns : laneRuns c) (hlive : live c)
    (hoverdue : (c.lane.nodes.any fun x => x.node == n && overdue c x) = true) :
    (nodeOf (laneNodeLost n c) n).heard = false ∧ (nodeOf (laneNodeLost n c) n).roll = none ∧
    { src := 183, code := 2, value := 0 } ∈ (laneNodeLost n c).watch.arrived ∧
    ∀ h ∈ (laneNodeLost n c).hampers.list, h.origin = .lane n → h.state ≠ .opened ∧ h.state ≠ .joined := by
  let forgot : Chip := setNode n (fun x => { x with heard := false, roll := none }) c
  let closed : Chip := setLane (fun l => { l with
    readers := l.readers.filter (·.node != n), writers := l.writers.filter (·.node != n) }) forgot
  let lost : Chip := originLost (.lane n) closed
  have hdone : laneNodeLost n c = chooseMaster (raise 183 2 0 lost) := by
    unfold laneNodeLost
    rw [if_neg (by rw [hruns, hoverdue]; decide)]
  obtain ⟨seqs, readers, tx, hlane⟩ : LaneServes closed lost := LaneServes.originsLost _ closed
  have hkept : KeepsMembers (raise 183 2 0 lost) (laneNodeLost n c) := hdone ▸ KeepsMembers.chooseMaster _
  have hnode : nodeOf (laneNodeLost n c) n = { nodeOf c n with heard := false, roll := none } := by
    refine nodeOf_setNode (g := fun x => { x with heard := false, roll := none }) (fun _ => rfl) c _ ?_
    rw [hkept.nodes, raise_lane, hlane]
    rfl
  have hquiet : lost.watch.safe = false := by
    rw [originLost_watch]
    exact live_quiet hlive
  rw [hnode]
  refine ⟨rfl, rfl, hkept.events.subset (mem_raise_arrived hquiet 183 2 0), fun h hh horigin => ?_⟩
  rcases hkept.hampers h hh with hbefore | habort
  · rw [raise_hampers] at hbefore
    exact originLost_closed (.lane n) closed h hbefore horigin
  · rw [habort]
    exact ⟨HamperState.noConfusion, HamperState.noConfusion⟩

/-! ### TSYNC -/

/-- A TSYNC is noted at its port (R344). -/
def tsyncNoted (p : LanePort) (f : TsyncFrame) (c : Chip) : Chip :=
  setLink p (fun l => { l with upstream := some f, upstreamAt := c.clock.us }) c

theorem tsyncReceive_of_up {p : LanePort} (f : TsyncFrame) {c : Chip} (hruns : laneRuns c) (hup : (laneLink c p).up) :
    tsyncReceive p f c = when (upstreamPort (tsyncNoted p f c) == some p) (discipline p f) (tsyncNoted p f c) := by
  unfold tsyncReceive
  rw [if_neg (by rw [hruns, hup]; decide)]
  rfl

theorem tsyncNoted_kept (p : LanePort) (f : TsyncFrame) (c : Chip) : tsyncOffset p f (tsyncNoted p f c) = tsyncOffset p f c ∧
    (tsyncNoted p f c).clock = c.clock ∧ (tsyncNoted p f c).lane.epoch = c.lane.epoch ∧
    (tsyncNoted p f c).lane.lockCount = c.lane.lockCount ∧ (tsyncNoted p f c).lane.tvalid = c.lane.tvalid ∧
    (tsyncNoted p f c).watch = c.watch ∧ isMaster (tsyncNoted p f c) = isMaster c := by
  cases p <;> exact ⟨rfl, rfl, rfl, rfl, rfl, rfl, rfl⟩

/-- Lane time with the offset of a TSYNC of the upstream (R345). -/
def disciplined (p : LanePort) (f : TsyncFrame) (c : Chip) : Chip :=
  setLane (fun l => { l with holdover := false, holdoverAt := none, syncedAt := some c.clock.us, hops := f.hops.toNat + 1 })
    (moveLaneTime (tsyncOffset p f c) c)

theorem laneNs_moveLaneTime (d : Int) (c : Chip) :
    ((moveLaneTime d c).clock.laneNs : Int) = (c.clock.laneNs + d) % 18446744073709551616 := by
  have hdone : (moveLaneTime d c).clock.laneNs = ((c.clock.laneNs + d) % (2 ^ 64 : Nat)).toNat % 2 ^ 64 := rfl
  rw [hdone]
  omega

theorem discipline_near {p : LanePort} {f : TsyncFrame} {c : Chip} (hepoch : f.epoch = c.lane.epoch) (hlow : -10000 ≤ tsyncOffset p f c)
    (hhigh : tsyncOffset p f c ≤ 10000) : discipline p f c = lockTime (tsyncOffset p f c) (disciplined p f c) := by
  unfold discipline
  dsimp only
  rw [if_neg (by rw [hepoch]; simp [setLane, moveLaneTime, stepLaneTime]), if_neg (by simp; omega)]
  rfl

theorem discipline_epoch {p : LanePort} {f : TsyncFrame} {c : Chip} (hepoch : f.epoch ≠ c.lane.epoch) :
    discipline p f c = epochChange f.epoch (disciplined p f c) := by
  unfold discipline
  dsimp only
  rw [if_pos (by simpa [setLane, moveLaneTime, stepLaneTime] using hepoch)]
  rfl

theorem isMaster_of_upstream {c : Chip} {p : LanePort} (h : upstreamPort c = some p) : isMaster c = false := by
  unfold upstreamPort at h
  cases hmaster : isMaster c with
  | false => rfl
  | true =>
    rw [if_pos hmaster] at h
    exact absurd h (by simp)

/-- Settles O37: ROLL, TSYNC, DREQ and DRSP, the loss of a node and the holdover each do what the rules of membership and of Lane
time say. -/
theorem laneMembershipAndTimeCommands : Obligations.LaneMembershipAndTimeCommands := by
  refine ⟨?rollSend, ?rollOther, ?rollLoses, ?rollWins, ?joined, ?lost, ?tsyncSend, ?tsync, ?epoch, ?aside, ?dreqSend, ?dreq, ?drsp,
    ?holdover, ?expiry⟩
  case rollSend =>
    intro s hactive hwrap hup
    refine gives_of_answer (rollSend s.chip) rfl (by simp +contextual [Only]) ?_
    unfold rollSend
    rw [if_neg (by rw [hactive]; exact Bool.false_ne_true)]
    exact laneSend_byA hactive hwrap hup _
  case rollOther =>
    intro s f hserial hage hactive hother
    let heard : Chip := setNode f.node (fun x => { x with heard := true, heardAt := s.chip.clock.us }) s.chip
    let noted : Chip := setNode f.node (fun x => { x with roll := some (f, heard.clock.us) }) heard
    have hdone : rollReceive f s.chip = chooseMaster noted := by
      unfold rollReceive
      rw [if_neg (by rw [hactive]; exact Bool.false_ne_true), if_neg hother, hear_of_other hother hactive]
      rfl
    refine gives_of_guarded (rollReceive f s.chip) (by simp [hserial, hage]) rfl (by simp +contextual [Only]) ?_
    rw [hdone, chooseMaster_state, nodeOf_setNode (g := fun x => { x with roll := some (f, heard.clock.us) }) (fun _ => rfl) heard _
      (KeepsMembers.chooseMaster noted).nodes,
      nodeOf_setNode (g := fun x => { x with heard := true, heardAt := s.chip.clock.us }) (fun _ => rfl) s.chip heard rfl]
    exact ⟨rfl, rfl, rfl, rfl⟩
  case rollLoses =>
    intro s f hserial hage hactive hown hdiffers hloses
    have hdone : rollReceive f s.chip = loseConflict s.chip := by
      unfold rollReceive
      rw [if_neg (by rw [hactive]; exact Bool.false_ne_true), if_pos hown, if_neg hdiffers, if_pos hloses]
    refine gives_of_guarded (rollReceive f s.chip) (by simp [hserial, hage]) rfl (by simp +contextual [Only]) ?_
    rw [hdone]
    exact loseConflict_done (laneActive_parts hactive).2
  case rollWins =>
    intro s f hserial hage hactive hown hwins
    have hdone : rollReceive f s.chip = if f.serial = ownSerial s.chip then s.chip else winConflict s.chip := by
      unfold rollReceive
      rw [if_neg (by rw [hactive]; exact Bool.false_ne_true), if_pos hown, hwins]
      rfl
    have honly : Only [.lane] s.chip (rollReceive f s.chip) := by
      rw [hdone]
      split
      · exact fun _ _ => rfl
      · simp +contextual [Only, winConflict]
    refine gives_of_guarded (rollReceive f s.chip) (by simp [hserial, hage]) rfl honly ?_
    rw [hdone]
    split
    · rfl
    · rfl
  case joined =>
    intro s hactive hjoining hquiet
    let d : Chip := setLane (fun l => { l with state := .member, memberSince := some s.chip.clock.us }) s.chip
    have hdone : laneJoinComplete s.chip = chooseMaster d := by
      unfold laneJoinComplete
      rw [if_pos (by rw [hactive, hjoining, hquiet]; rfl)]
    refine gives_of_answer (laneJoinComplete s.chip) rfl (by simp +contextual [Only]) ?_
    rw [hdone, chooseMaster_state, (KeepsMembers.chooseMaster d).since]
    exact ⟨rfl, rfl⟩
  case lost =>
    intro s n hruns hlive hoverdue
    exact gives_of_answer (laneNodeLost n s.chip) rfl (by simp +contextual [Only]) (laneNodeLost_done hruns hlive hoverdue)
  case tsyncSend =>
    intro s p hruns hup
    have hdone : tsyncSend p s.chip = laneSend (p == .a) (p == .b) 0x7FE 0
        (padTo 32 (timeHead 1 (sentHops s.chip p) s.chip ++ leBytes 8 s.chip.clock.laneNs)) s.chip := by
      unfold tsyncSend
      rw [if_neg (by rw [hruns, hup]; decide)]
    refine gives_of_answer (tsyncSend p s.chip) rfl (by simp +contextual [Only]) ?_
    rw [hdone]
  case tsync =>
    intro s p f hdeparture harrival hruns hup hupstream hepoch hlow hhigh
    obtain ⟨hoffset, hclock, hnow, hcount, hvalid, -, -⟩ := tsyncNoted_kept p f s.chip
    have hdone : tsyncReceive p f s.chip = lockTime (tsyncOffset p f s.chip) (disciplined p f (tsyncNoted p f s.chip)) := by
      rw [tsyncReceive_of_up f hruns hup, show upstreamPort (tsyncNoted p f s.chip) = some p from hupstream, beq_self_eq_true, when_true,
        discipline_near (hepoch.trans hnow.symm) (by rwa [hoffset]) (by rwa [hoffset]), hoffset]
    refine gives_of_guarded (tsyncReceive p f s.chip) (by simp [hdeparture, harrival]) rfl (by simp +contextual [Only]) ?_
    have hnear : (-50 ≤ tsyncOffset p f s.chip && tsyncOffset p f s.chip ≤ 50 : Bool) =
        decide (-50 ≤ tsyncOffset p f s.chip ∧ tsyncOffset p f s.chip ≤ 50) := by simp
    have htime := laneNs_moveLaneTime (tsyncOffset p f (tsyncNoted p f s.chip)) (tsyncNoted p f s.chip)
    rw [hoffset, hclock] at htime
    have hcounted : (tsyncReceive p f s.chip).lane.lockCount =
        if -50 ≤ tsyncOffset p f s.chip ∧ tsyncOffset p f s.chip ≤ 50 then s.chip.lane.lockCount + 1 else 0 := by
      rw [hdone]
      change (if (-50 ≤ tsyncOffset p f s.chip && tsyncOffset p f s.chip ≤ 50 : Bool) then
        (tsyncNoted p f s.chip).lane.lockCount + 1 else 0) = _
      rw [hcount, hnear]
      simp only [decide_eq_true_eq]
    refine ⟨?_, ?_, ?_, ?_, hcounted, ?_⟩
    · rw [hdone, ← htime, ← hoffset]
      rfl
    · rw [hdone]
      rfl
    · rw [hdone]
      rfl
    · rw [hdone, ← hnow]
      rfl
    · rw [hdone, ← hvalid, ← hclock]
      rfl
  case epoch =>
    intro s p f hdeparture harrival hruns hup hupstream hepoch hsafe
    obtain ⟨-, hclock, hnow, -, -, hwatch, -⟩ := tsyncNoted_kept p f s.chip
    have hdone : tsyncReceive p f s.chip = epochChange f.epoch (disciplined p f (tsyncNoted p f s.chip)) := by
      rw [tsyncReceive_of_up f hruns hup, show upstreamPort (tsyncNoted p f s.chip) = some p from hupstream, beq_self_eq_true, when_true,
        discipline_epoch (by rwa [hnow])]
    refine gives_of_guarded (tsyncReceive p f s.chip) (by simp [hdeparture, harrival]) rfl (by simp +contextual [Only]) ?_
    rw [hdone]
    obtain ⟨hto, hinvalid, hat, hevent, hampers⟩ := epochChange_done f.epoch (c := disciplined p f (tsyncNoted p f s.chip))
      (isMaster_of_upstream (c := tsyncNoted p f s.chip) hupstream) (by rw [← hsafe, ← hwatch]; rfl)
    refine ⟨hto, hinvalid, hat.trans ?_, hevent, hampers⟩
    rw [← hclock]
    rfl
  case aside =>
    intro s p f hdeparture harrival hruns hup hother
    obtain ⟨-, hclock, hnow, -, -, -, -⟩ := tsyncNoted_kept p f s.chip
    have hdone : tsyncReceive p f s.chip = tsyncNoted p f s.chip := by
      rw [tsyncReceive_of_up f hruns hup, show (upstreamPort (tsyncNoted p f s.chip) == some p) = false from beq_false_of_ne hother]
      rfl
    refine gives_of_guarded (tsyncReceive p f s.chip) (by simp [hdeparture, harrival]) rfl (by simp +contextual [Only]) ?_
    rw [hdone]
    exact ⟨laneLink_setLink_same .., hclock, hnow⟩
  case dreqSend =>
    intro s p hruns hup
    have hdone : dreqSend p s.chip = setLink p (fun l => { l with t1 := some s.chip.clock.laneNs })
        (laneSend (p == .a) (p == .b) 0x7FE 0 (padTo 32 (padTo 8 [2] ++ leBytes 8 s.chip.clock.laneNs)) s.chip) := by
      unfold dreqSend
      rw [if_neg (by rw [hruns, hup]; decide)]
      exact laneSend_setLink (g := fun l => { l with t1 := some s.chip.clock.laneNs }) (fun _ => rfl) p ..
    refine gives_of_answer (dreqSend p s.chip) rfl (by simp +contextual [Only]) ?_
    rw [hdone, laneLink_setLink_same]
    exact ⟨rfl, (setLink_kept ..).2.1⟩
  case dreq =>
    intro s p t ht hruns hup
    have hdone : dreqReceive p t s.chip = laneSend (p == .a) (p == .b) 0x7FE 0
        (padTo 32 (padTo 8 [3] ++ leBytes 8 t ++ leBytes 8 s.chip.clock.laneNs)) s.chip := by
      unfold dreqReceive
      rw [if_neg (by rw [hruns, hup]; decide)]
    refine gives_of_guarded (dreqReceive p t s.chip) (by simp [ht]) rfl (by simp +contextual [Only]) ?_
    rw [hdone]
  case drsp =>
    intro s p t1 t2 t3 t4 ht2 ht3 ht4 hruns hup hasked
    have hdone : drspReceive p t2 t3 t4 s.chip =
        setLink p (fun l => { l with t1 := none, delay := (((t4 : Int) - t1 - ((t3 : Int) - t2)) / 2).toNat }) s.chip := by
      unfold drspReceive
      rw [hruns, hup, hasked]
      rfl
    refine gives_of_guarded (drspReceive p t2 t3 t4 s.chip) (by simp [ht2, ht3, ht4]) rfl (by simp +contextual [Only]) ?_
    rw [hdone]
    exact laneLink_setLink_same ..
  case holdover =>
    intro s hactive hslave hgone hfirst
    have hdone : holdoverEntry s.chip =
        setLane (fun l => { l with holdover := true, holdoverAt := some s.chip.clock.us, lockCount := 0 }) s.chip := by
      unfold holdoverEntry
      rw [if_pos (by rw [hactive, hslave, hgone, hfirst]; rfl)]
    refine gives_of_answer (holdoverEntry s.chip) rfl (by simp +contextual [Only]) ?_
    rw [hdone]
    rfl
  case expiry =>
    intro s hruns hheld hover hvalid
    have hdone : clearTvalid s.chip = raise 183 4 0 (setLane (fun l => { l with tvalid := false, lockCount := 0 }) s.chip) := by
      unfold clearTvalid
      rw [hvalid, when_true]
    refine gives_of_when (b := laneRuns s.chip && s.chip.lane.holdover &&
      !within s.chip (nat s.chip kLaneHoldover * 1000) s.chip.lane.holdoverAt) (f := clearTvalid)
      (by rw [hruns, hheld, hover]; rfl) rfl (by simp +contextual [Only]) ?_
    rw [hdone]
    exact ⟨raise_lane .., raise_watch_congr _ _ _ rfl⟩

end Sys2Proof.Machine
end

section
/-! Lane remote access, ALM fetches and the gateway (R347 to R349). -/

namespace Sys2Proof.Machine

/-! ### What hearing a node leaves of what is sent to it -/

/-- The hops to a node by either port, where both are known (R337). -/
def hopsOf (l : List LaneNode) (n : Fin 1024) : Option (Nat × Nat) :=
  (l.find? fun x => x.node == n).bind fun x => x.hopsA.bind fun a => x.hopsB.map fun b => (a, b)

/-- The hops are not to be relied on yet (R337). -/
def turnedNow (c : Chip) : Bool :=
  match c.lane.turnedAt with
  | some t => decide (c.clock.us < t + 100000)
  | none => false

/-- The ports by which a frame to a node leaves (R338). -/
def portsTo (c : Chip) (n : Fin 1024) : Bool × Bool :=
  match turnedNow c, hopsOf c.lane.nodes n with
  | false, some (a, b) => (decide (a ≤ b), decide (b ≤ a))
  | _, _ => (true, true)

theorem laneUnicast_eq (n : Fin 1024) (cls : Nat) (payload : List Byte) (c : Chip) :
    laneUnicast n cls payload c = laneSend (portsTo c n).1 (portsTo c n).2 n.val cls payload c := by
  unfold laneUnicast portsTo hopsOf
  change (match turnedNow c, c.lane.nodes.find? fun x => x.node == n with
    | false, some { hopsA := some a, hopsB := some b, .. } => laneSend (decide (a ≤ b)) (decide (b ≤ a)) n.val cls payload c
    | _, _ => laneSend true true n.val cls payload c) = _
  cases turnedNow c with
  | true => rfl
  | false =>
    cases c.lane.nodes.find? fun x => x.node == n with
    | none => rfl
    | some x =>
      obtain ⟨node, heardAt, heard, roll, hopsA, hopsB⟩ := x
      cases hopsA <;> cases hopsB <;> rfl

/-- The chip with other notes of the nodes, and of the transfers that they hold open. -/
def withNotes (nodes : List LaneNode) (readers writers : List OdTransfer) (c : Chip) : Chip :=
  setLane (fun l => { l with nodes := nodes, readers := readers, writers := writers }) c

section
variable (nodes : List LaneNode) (readers writers : List OdTransfer)

theorem laneCopy_withNotes (p : LanePort) (dest cls : Nat) (n : BitVec 16) (l : List Byte) (c : Chip) :
    laneCopy p dest cls n l (withNotes nodes readers writers c) = withNotes nodes readers writers (laneCopy p dest cls n l c) := by
  have hlink (r : LanePort) : laneLink (withNotes nodes readers writers c) r = laneLink c r := by cases r <;> rfl
  unfold laneCopy laneLeave
  dsimp only
  rw [hlink, show (withNotes nodes readers writers c).lane.wrap = c.lane.wrap from rfl,
    show (withNotes nodes readers writers c).lane.nodeIdNow = c.lane.nodeIdNow from rfl]
  generalize (laneLink c _).up = b
  cases b <;> rfl

theorem laneSend_withNotes (byA byB : Bool) (dest cls : Nat) (l : List Byte) (c : Chip) :
    laneSend byA byB dest cls l (withNotes nodes readers writers c) = withNotes nodes readers writers (laneSend byA byB dest cls l c) := by
  have hwhen (b : Bool) (q : LanePort) (n : BitVec 16) (k : List Byte) (d : Chip) :
      when b (laneCopy q dest cls n k) (withNotes nodes readers writers d) =
        withNotes nodes readers writers (when b (laneCopy q dest cls n k) d) := by
    cases b
    · rfl
    · exact laneCopy_withNotes nodes readers writers q dest cls n k d
  unfold laneSend
  rw [show laneRuns (withNotes nodes readers writers c) = laneRuns c from rfl,
    show laneActive (withNotes nodes readers writers c) = laneActive c from rfl]
  split
  · rfl
  · dsimp only
    rw [← hwhen, ← hwhen]
    rfl

/-- What is sent to a node hangs on the hops to it alone. -/
theorem odAnswer_withNotes {n : Fin 1024} {c : Chip} (hhops : hopsOf nodes n = hopsOf c.lane.nodes n) (op : OdOp) (tag : BitVec 16)
    (k : Key) (st off : Nat) (v : List Byte) : odAnswer n op tag k st off v (withNotes nodes readers writers c) =
      withNotes nodes readers writers (odAnswer n op tag k st off v c) := by
  have hports : portsTo (withNotes nodes readers writers c) n = portsTo c n := by
    unfold portsTo
    rw [show (withNotes nodes readers writers c).lane.nodes = nodes from rfl, hhops]
    rfl
  unfold odAnswer
  rw [laneUnicast_eq, laneUnicast_eq, hports, laneSend_withNotes]

end

/-- Hearing a node leaves the hops to it. -/
theorem hear_eq (n : Fin 1024) (c : Chip) : ∃ nodes, hear n c = setLane (fun l => { l with nodes := nodes }) c ∧
    hopsOf nodes n = hopsOf c.lane.nodes n := by
  unfold hear
  split
  · exact ⟨c.lane.nodes, rfl, rfl⟩
  · refine ⟨_, rfl, ?_⟩
    unfold hopsOf
    rw [List.find?_cons_of_pos (by simpa using nodeOf_node n c)]
    unfold nodeOf
    cases c.lane.nodes.find? fun x => x.node == n <;> rfl

theorem reaches_setLane {o : Origin} {k : Key} {w : Bool} (f : Lane → Lane) (c : Chip) : reaches o k w (setLane f c) = reaches o k w c := by
  have hwrite : writeCheck (setLane f c) o k false = writeCheck c o k false := by
    unfold writeCheck
    rfl
  have hread : readCheck (setLane f c) o k = readCheck c o k := by
    unfold readCheck
    rfl
  unfold reaches
  rw [hwrite, hread]
  rfl

/-! ### The commands -/

/-- What a request of a node asks for (R347). -/
def odServe (src : Fin 1024) (q : OdRequest) (c : Chip) : Chip :=
  match q.op with
  | .read => submit (.lane src) q.k none (.od src .read q.tag) c
  | .write => submit (.lane src) q.k (some q.data) (.od src .write q.tag) c
  | .domainRead => odDomainRead src q c
  | .domainWrite => odDomainWrite src q c

theorem odRequestReceive_of_member (src : Fin 1024) (q : OdRequest) {c : Chip} (h : laneMember c) :
    odRequestReceive src q c = odServe src q (hear src c) := by
  unfold odRequestReceive
  rw [if_neg (by rw [h]; decide)]
  rfl

/-- The bytes of a copy that a request asks for (R347). -/
def pieceOf (q : OdRequest) (r : OdTransfer) : List Byte := (r.t.data.drop q.offset).take q.length

/-- A copy whose next piece has left (R347). -/
def readOn (q : OdRequest) (now : Nat) (r : OdTransfer) : OdTransfer :=
  { r with t := { r.t with next := q.offset + (pieceOf q r).length }, at_ := now }

/-- The pieces of a write that have arrived (R347). -/
def writtenSoFar (src : Fin 1024) (k : Key) (all : List Byte) (now : Nat) : OdTransfer :=
  { node := src, t := { k := k, data := all, next := all.length }, at_ := now }

/-- A later piece of a copy that a node holds open (R347). -/
theorem odDomainRead_next {src : Fin 1024} {q : OdRequest} {r : OdTransfer} {c : Chip} (hlen : q.length ≤ 240) (hlater : 0 < q.offset)
    (hfound : (c.lane.readers.find? fun x => x.node == src && decide (c.clock.us < x.at_ + 1000000)) = some r)
    (hkey : r.t.k = q.k) (hnext : r.t.next = q.offset) :
    odDomainRead src q c = odAnswer src .domainRead q.tag q.k 0 q.offset (pieceOf q r)
      (setLane (fun l => { l with readers := readOn q c.clock.us r :: c.lane.readers.filter (·.node != src) }) c) := by
  unfold odDomainRead
  extract_lets answer
  rw [if_neg (by omega), if_neg (by omega), hfound]
  dsimp only
  rw [if_pos (by rw [hkey, hnext]; simp)]
  rfl

/-- A piece of a write in its order is gathered, and the last one makes the write (R347). -/
theorem odDomainWrite_gathers {src : Fin 1024} {q : OdRequest} {all : List Byte} {c : Chip}
    (hfirst : q.offset = 0 → (c.lane.writers.find? fun x => x.node == src) = none)
    (hall : gather ((c.lane.writers.find? fun x => x.node == src).map (·.t)) q.k q.offset q.data = some all) :
    odDomainWrite src q c = if q.last then submit (.lane src) q.k (some all) (.od src .domainWrite q.tag)
        (setLane (fun l => { l with writers := c.lane.writers.filter (·.node != src) }) c)
      else odAnswer src .domainWrite q.tag q.k 0 q.offset []
        (setLane (fun l => { l with writers := writtenSoFar src q.k all c.clock.us :: c.lane.writers.filter (·.node != src) }) c) := by
  unfold odDomainWrite
  extract_lets answer w others
  have hopen : ¬ (decide (q.offset = 0) && w.isSome) = true := by
    rw [Bool.and_eq_true, decide_eq_true_iff]
    rintro ⟨hzero, hsome⟩
    have hw : w = none := congrArg (Option.map _) (hfirst hzero)
    rw [hw] at hsome
    exact Bool.false_ne_true hsome
  rw [if_neg hopen, show gather w q.k q.offset q.data = some all from hall]
  rfl

theorem odAnswer_kept (n : Fin 1024) (op : OdOp) (tag : BitVec 16) (k : Key) (st off : Nat) (v : List Byte) (c : Chip) :
    (odAnswer n op tag k st off v c).market = c.market ∧ (odAnswer n op tag k st off v c).lane.writers = c.lane.writers := by
  obtain ⟨seqs, readers, tx, hlane⟩ := LaneServes.odAnswer n op tag k st off v c
  exact ⟨odAnswer_part .market (by decide) .., by rw [hlane]⟩

theorem odAnswer_readers (n : Fin 1024) (op : OdOp) (tag : BitVec 16) (k : Key) (st off : Nat) (v : List Byte) (c : Chip) :
    (odAnswer n op tag k st off v c).lane.readers = c.lane.readers := by
  have hcopy (b : Bool) (p : LanePort) (cls : Nat) (m : BitVec 16) (l : List Byte) (d : Chip) :
      (when b (laneCopy p n.val cls m l) d).lane.readers = d.lane.readers := by
    obtain ⟨tx, hlane⟩ := when_onlySends b (laneCopy_onlySends p n.val cls m l) d
    rw [hlane]
  unfold odAnswer
  rw [laneUnicast_eq]
  unfold laneSend
  split
  · rfl
  · dsimp only
    rw [hcopy, hcopy]
    rfl

theorem almFetchReceive_of_member {src : Fin 1024} {q : AlmFetch} {c : Chip} (hmember : laneMember c) (hreeve : reeveRuns c)
    (hblank : lifeCycle c ≠ .blank) (hretired : lifeCycle c ≠ .retired) (hsev : q.minSeverity ≤ 3) (hlow : 1 ≤ q.count)
    (hhigh : q.count ≤ 64) : almFetchReceive src q c =
      if 5 ≤ (hear src c).lane.fetches.length || (((hear src c).lane.fetches.drop 1).any fun f => f.node == src) then
        almAnswer src q.tag .busy true [] (hear src c)
      else setLane (fun l => { l with fetches := l.fetches ++
        [{ node := src, tag := q.tag, minSeverity := q.minSeverity, first := q.first, left := q.count }] }) (hear src c) := by
  obtain ⟨nodes, hheard, -⟩ := hear_eq src c
  have hlife : lifeCycle (hear src c) = lifeCycle c := by rw [hheard]; rfl
  unfold almFetchReceive
  rw [if_neg (by rw [hmember, hreeve]; decide)]
  extract_lets d refuse
  have hwithin : ¬ (decide (3 < q.minSeverity) || decide (q.count = 0) || decide (64 < q.count)) = true := by
    simp only [Bool.or_eq_true, decide_eq_true_eq]
    omega
  rw [show lifeCycle d = lifeCycle c from hlife]
  cases hnow : lifeCycle c with
  | blank => exact absurd hnow hblank
  | retired => exact absurd hnow hretired
  | provisioned => exact if_neg hwithin
  | deployed => exact if_neg hwithin
  | service => exact if_neg hwithin

theorem gwPrefix_eq (n : Fin 1024) (alm : Bool) : gwPrefix n alm = leBytes 2 (n.val + if alm then 32768 else 0) := by
  cases alm <;> rfl

/-- Settles O38: a request, a fetch and a response on the Lane each do what the rules of remote access and of the gateway say. -/
theorem laneRemoteAccessCommands : Obligations.LaneRemoteAccessCommands := by
  refine ⟨?read, ?write, ?copies, ?piece, ?gathers, ?last, ?fetch, ?busy, ?response, ?stray, ?expiry, ?timeout⟩
  case read =>
    intro s src q hfits hmember hop hreach
    obtain ⟨nodes, hheard, -⟩ := hear_eq src s.chip
    refine gives_of_guarded (odRequestReceive src q s.chip) hfits rfl (by simp +contextual [Only]) ?_
    rw [odRequestReceive_of_member src q hmember, hheard]
    unfold odServe
    rw [hop]
    exact (reqOf_submit (data := none) (c := setLane (fun l => { l with nodes := nodes }) s.chip) (.od src .read q.tag)
      ((reaches_setLane _ s.chip).trans hreach)).1
  case write =>
    intro s src q hfits hmember hop hreach
    obtain ⟨nodes, hheard, -⟩ := hear_eq src s.chip
    refine gives_of_guarded (odRequestReceive src q s.chip) hfits rfl (by simp +contextual [Only]) ?_
    rw [odRequestReceive_of_member src q hmember, hheard]
    unfold odServe
    rw [hop]
    exact (reqOf_submit (data := some q.data) (c := setLane (fun l => { l with nodes := nodes }) s.chip) (.od src .write q.tag)
      ((reaches_setLane _ s.chip).trans hreach)).1
  case copies =>
    intro s src q hfits hmember hop hlen hfirst hfree hreach
    obtain ⟨nodes, hheard, -⟩ := hear_eq src s.chip
    refine gives_of_guarded (odRequestReceive src q s.chip) hfits rfl (by simp +contextual [Only]) ?_
    rw [odRequestReceive_of_member src q hmember, hheard]
    unfold odServe
    rw [hop]
    unfold odDomainRead
    dsimp only
    rw [if_neg (by omega), if_pos hfirst, if_neg ?_]
    · exact (reqOf_submit (data := none) (c := setLane (fun l => { l with nodes := nodes }) s.chip) (.odCopy src q.tag q.length)
        ((reaches_setLane _ s.chip).trans hreach)).1
    · rw [show odReading (setLane (fun l => { l with nodes := nodes }) s.chip) src = odReading s.chip src from rfl, hfree]
      decide
  case piece =>
    intro s src q r hfits hmember hop hlen hlater hfound hkey hnext
    obtain ⟨nodes, hheard, hhops⟩ := hear_eq src s.chip
    let readers : List OdTransfer := readOn q s.chip.clock.us r :: s.chip.lane.readers.filter (·.node != src)
    have hdone : odRequestReceive src q s.chip = odAnswer src .domainRead q.tag q.k 0 q.offset (pieceOf q r)
        (withNotes nodes readers s.chip.lane.writers s.chip) := by
      rw [odRequestReceive_of_member src q hmember, hheard]
      unfold odServe
      rw [hop]
      exact odDomainRead_next (c := setLane (fun l => { l with nodes := nodes }) s.chip) hlen hlater hfound hkey hnext
    refine gives_of_guarded (odRequestReceive src q s.chip) hfits rfl (by simp +contextual [Only]) ?_
    rw [hdone, odAnswer_readers]
    refine ⟨?_, (odAnswer_kept ..).1, ?_⟩
    · rw [odAnswer_withNotes nodes readers s.chip.lane.writers hhops]
      rfl
    · have hnode : r.node = src := by
        have hmatch := List.find?_some hfound
        simp only [Bool.and_eq_true, beq_iff_eq] at hmatch
        exact hmatch.1
      change (readers.find? fun x => x.node == src).map (·.t.next) = _
      rw [List.find?_cons_of_pos (by simpa [readOn] using hnode)]
      rfl
  case gathers =>
    intro s src q all hfits hmember hop hmore hfirst hall
    obtain ⟨nodes, hheard, hhops⟩ := hear_eq src s.chip
    let writers : List OdTransfer := writtenSoFar src q.k all s.chip.clock.us :: s.chip.lane.writers.filter (·.node != src)
    have hdone : odRequestReceive src q s.chip = odAnswer src .domainWrite q.tag q.k 0 q.offset []
        (withNotes nodes s.chip.lane.readers writers s.chip) := by
      rw [odRequestReceive_of_member src q hmember, hheard]
      unfold odServe
      rw [hop]
      refine (odDomainWrite_gathers (c := setLane (fun l => { l with nodes := nodes }) s.chip) hfirst hall).trans ?_
      rw [hmore]
      rfl
    refine gives_of_guarded (odRequestReceive src q s.chip) hfits rfl (by simp +contextual [Only]) ?_
    rw [hdone]
    refine ⟨(odAnswer_kept ..).2, ?_, (odAnswer_kept ..).1⟩
    rw [odAnswer_withNotes nodes s.chip.lane.readers writers hhops]
    rfl
  case last =>
    intro s src q all hfits hmember hop hlast hfirst hall hreach
    obtain ⟨nodes, hheard, -⟩ := hear_eq src s.chip
    let d : Chip := setLane (fun l => { l with writers := s.chip.lane.writers.filter (·.node != src) })
      (setLane (fun l => { l with nodes := nodes }) s.chip)
    have hreach' : reaches (.lane src) q.k true d = true := by rwa [reaches_setLane, reaches_setLane]
    have hdone : odRequestReceive src q s.chip = submit (.lane src) q.k (some all) (.od src .domainWrite q.tag) d := by
      rw [odRequestReceive_of_member src q hmember, hheard]
      unfold odServe
      rw [hop]
      exact (odDomainWrite_gathers (c := setLane (fun l => { l with nodes := nodes }) s.chip) hfirst hall).trans (if_pos hlast)
    refine gives_of_guarded (odRequestReceive src q s.chip) hfits rfl (by simp +contextual [Only]) ?_
    rw [hdone]
    refine ⟨(reqOf_submit (data := some all) (c := d) (.od src .domainWrite q.tag) hreach').1, ?_⟩
    rw [submit_of_reaches (data := some all) _ hreach']
    rfl
  case fetch =>
    intro s src q hfits hmember hreeve hblank hretired hsev hlow hhigh hroom hother
    obtain ⟨nodes, hheard, -⟩ := hear_eq src s.chip
    have hroomy : ¬ (decide (5 ≤ (hear src s.chip).lane.fetches.length) ||
        (((hear src s.chip).lane.fetches.drop 1).any fun f => f.node == src)) = true := by
      rw [hheard]
      change ¬ (decide (5 ≤ s.chip.lane.fetches.length) || ((s.chip.lane.fetches.drop 1).any fun f => f.node == src)) = true
      rw [hother, decide_eq_false (by omega)]
      decide
    have hdone := (almFetchReceive_of_member (src := src) hmember hreeve hblank hretired hsev hlow hhigh).trans (if_neg hroomy)
    refine gives_of_guarded (almFetchReceive src q s.chip) hfits rfl (by rw [hdone]; simp +contextual [Only]) ?_
    rw [hdone, hheard]
    exact ⟨rfl, rfl⟩
  case busy =>
    intro s src q hfits hmember hreeve hblank hretired hsev hlow hhigh hfull
    obtain ⟨nodes, hheard, -⟩ := hear_eq src s.chip
    have hfull' : (decide (5 ≤ (hear src s.chip).lane.fetches.length) ||
        (((hear src s.chip).lane.fetches.drop 1).any fun f => f.node == src)) = true := by
      rw [hheard]
      exact Bool.or_eq_true_iff.mpr (.inl (decide_eq_true hfull))
    have hdone := (almFetchReceive_of_member (src := src) hmember hreeve hblank hretired hsev hlow hhigh).trans (if_pos hfull')
    refine gives_of_guarded (almFetchReceive src q s.chip) hfits rfl (by rw [hdone]; simp +contextual [Only]) ?_
    obtain ⟨seqs, readers, tx, hlane⟩ : LaneServes (hear src s.chip) (almAnswer src q.tag .busy true [] (hear src s.chip)) :=
      LaneServes.laneUnicast src 4 _ (hear src s.chip)
    rw [hdone]
    refine ⟨?_, rfl⟩
    rw [hlane, hheard]
    rfl
  case response =>
    intro s src alm last payload q hlen hmember hfound
    obtain ⟨nodes, hheard, -⟩ := hear_eq src s.chip
    refine gives_of_guarded (gwResponseReceive src alm last payload s.chip) (decide_eq_true hlen) rfl (by simp +contextual [Only]) ?_
    unfold gwResponseReceive
    dsimp only
    rw [if_neg (by rw [hmember]; decide), hfound, hheard]
    dsimp only
    unfold gwHold
    rw [gwPrefix_eq]
    cases alm <;> cases last <;> rfl
  case stray =>
    intro s src alm last payload hlen hmember hfound
    obtain ⟨nodes, hheard, -⟩ := hear_eq src s.chip
    refine gives_of_guarded (gwResponseReceive src alm last payload s.chip) (decide_eq_true hlen) rfl (by simp +contextual [Only]) ?_
    unfold gwResponseReceive
    dsimp only
    rw [if_neg (by rw [hmember]; decide), hfound, hheard]
    rfl
  case expiry =>
    intro s r rest hlive hresults hold
    have hexpired : gwExpired s.chip = true := by
      unfold gwExpired within
      rw [hresults]
      simpa using hold
    have hdone : gwResponseExpiry s.chip = setGw (fun g => { g with results := g.results.drop 1, lost := satSucc 65535 g.lost }) s.chip := by
      unfold gwResponseExpiry
      rw [hexpired, when_true]
    refine gives_of_when (b := live s.chip) (f := gwResponseExpiry) hlive rfl (by simp +contextual [Only]) ?_
    rw [hdone]
    simp [setGw, hresults]
  case timeout =>
    intro s tag node q hlive hfound
    refine gives_of_when (b := live s.chip) (f := gwTimeout tag node) hlive rfl (by simp +contextual [Only]) ?_
    unfold gwTimeout
    rw [hfound]
    dsimp only
    refine ⟨rfl, rfl, _, by rw [← gwPrefix_eq]; rfl, ?_⟩
    cases q.alm with
    | true => rfl
    | false =>
      have hlen : ([2] ++ (padTo 7 q.head).drop 1 : List Byte).length = 7 := by simp [padTo]; omega
      change (padTo 16 ([2] ++ (padTo 7 q.head).drop 1 ++ leBytes 1 Status.timeout.number))[7]? = _
      generalize ([2] ++ (padTo 7 q.head).drop 1 : List Byte) = head at hlen
      simp [padTo, leBytes, hlen]

end Sys2Proof.Machine
end
